-- ==== Sys2Proof/Word.lean ====
section
/-! DEFINITION. The words the manual treats as bits (a byte, a 32-bit check sum) and the small named sets
that operands are made of: drives, magazines, elements, and what a drive or a sensor reports. -/

namespace Sys2Proof

/-- One byte on the link or on tape (00_scope.md, "Integers"). -/
abbrev Byte := BitVec 8

/-- A label: eight characters, each A to Z or 0 to 9 (00_scope.md, "Labels"). Kept as the bytes read;
`Machine.labelOk` says when they are a label. -/
abbrev Label := List Byte

/-- The two drives, and with them the two drive ports and the two streams: stream S0 works with DP0 and S1
with DP1 (00_scope.md). -/
inductive Drive where
  | d0
  | d1
  deriving DecidableEq, Repr, Inhabited

/-- The two removable magazines: L holds S1 to S20, R holds S21 to S40 (00_scope.md, "Elements"). -/
inductive Magazine where
  | left
  | right
  deriving DecidableEq, Repr, Inhabited

/-- A place that can hold one cartridge (00_scope.md, "Elements"). `slot n` is S1 to S40 for n from 1 to 40. -/
inductive Element where
  | slot (n : Nat)
  | mail
  | drive (d : Drive)
  | picker
  deriving DecidableEq, Repr, Inhabited

/-- What a drive reports it holds (R46, R62): nothing, a cartridge not threaded, a threaded cartridge. -/
inductive MediaSense where
  | nothing
  | inserted
  | threaded
  deriving DecidableEq, Repr, Inhabited

/-- The levels of the input lines a power-on reset finds (00_scope.md, "Signals and electrical summary"). -/
structure Pins where
  frontDoorOpen : Bool
  mailDoorOpen : Bool
  magazineLeft : Bool
  magazineRight : Bool
  presence0 : Bool
  presence1 : Bool
  powerWarning : Bool
  pickerSensor : Bool
  deriving DecidableEq, Repr, Inhabited

/-- The two readings the label reader can give of one cartridge. The second is taken only under the
LABEL-UNREAD reaction RETRY (R27, R29, R40). -/
structure LabelReads where
  first : List Byte
  second : List Byte
  deriving DecidableEq, Repr, Inhabited

/-- Completion of a Load (R51, R52). -/
inductive LoadReport where
  | ok (writeProtected : Bool)
  | loadFail
  | transport
  deriving DecidableEq, Repr, Inhabited

/-- Completion of a Locate (R51, R53). BLANK carries the recorded count the drive reports with it. -/
inductive LocateReport where
  | ok
  | blank (count : Nat)
  | readError
  | transport
  deriving DecidableEq, Repr, Inhabited

/-- Completion of a Locate End (R51, R53). OK carries the block count. -/
inductive LocateEndReport where
  | ok (count : Nat)
  | blank
  | readError
  | transport
  deriving DecidableEq, Repr, Inhabited

/-- Completion of a Read Block (R51, R54). OK carries the block: the bytes given, then zeros up to 65,536
(log entry 6). -/
inductive ReadReport where
  | ok (block : List Byte)
  | endMark
  | blank
  | readError
  | transport
  deriving DecidableEq, Repr, Inhabited

/-- Completion of a Write Block (R51, R55). -/
inductive WriteReport where
  | ok
  | writeError
  | transport
  deriving DecidableEq, Repr, Inhabited

/-- Completion of a Write End Mark (R51, R56). -/
inductive EndMarkReport where
  | ok
  | endMarkFail
  | transport
  deriving DecidableEq, Repr, Inhabited

/-- Completion of an Unload or of a Clean (R51, R57, R58). -/
inductive PlainReport where
  | ok
  | transport
  deriving DecidableEq, Repr, Inhabited

/-- Result of a drive's self-test (R62): passed, with what the drive holds, or failed. -/
inductive SelfTestReport where
  | passed (holds : MediaSense)
  | failed
  deriving DecidableEq, Repr, Inhabited

end Sys2Proof
end

