-- ==== Sys2Proof/Syntax.lean ====
section
/-! DEFINITION. The commands of the TL-440: one constructor for each row of spec/opcode_table.json.

A REQUEST is taken from the head of the receive buffer (R185), so its operands are the payload of the frame
that stands there; the payload's fields are listed at each constructor, in order, with their sizes in bytes.
An EVENT carries what the outside reports with it. -/

namespace Sys2Proof

inductive Instr where
  /-- POWER_ON_RESET (R21, R43, R68, R90, R127): the levels of the input lines at power-up. -/
  | powerOnReset (lines : Pins)
  /-- RESET_CONTROLLER (R194). Request 0x07, no fields. -/
  | resetController
  /-- FRAME_RECEIVED (R184, R195): the bytes that arrive, from the marker to the CRC's last byte. -/
  | frameReceived (bytes : List Byte)
  /-- FRAME_MALFORMED (R184): the bytes that arrive, up to a length that is malformed. -/
  | frameMalformed (bytes : List Byte)
  /-- REQUEST_UNKNOWN_CODE (R185): the frame at the head bears a code that names no request. -/
  | requestUnknownCode
  /-- IDENTIFY (R192). Request 0x01, no fields. -/
  | identify
  /-- STATUS (R192). Request 0x02, no fields. -/
  | status
  /-- SET MODE (R187). Request 0x03: mode 1. -/
  | setMode
  /-- RESUME (R187). Request 0x04, no fields. -/
  | resume
  /-- HALT STREAMS (R122). Request 0x05, no fields. -/
  | haltStreams
  /-- RESUME STREAM (R123). Request 0x06: stream 1. -/
  | resumeStream
  /-- FETCH NOTICES (R190). Request 0x08, no fields. -/
  | fetchNotices
  /-- SET SETTING (R193). Request 0x09: number 1, value 2. -/
  | setSetting
  /-- GET SETTING (R193). Request 0x0A: number 1. -/
  | getSetting
  /-- SAVE SETTINGS (R193). Request 0x0B, no fields. -/
  | saveSettings
  /-- SETTINGS_SAVE_COMPLETE (R193): whether the settings store took the snapshot. -/
  | settingsSaveComplete (written : Bool)
  /-- LINK_SILENT (R188): the link silence timer expires. -/
  | linkSilent
  /-- POWER_WARNING_ASSERTED (R187). -/
  | powerWarningAsserted
  /-- POWER_WARNING_WITHDRAWN (R187). -/
  | powerWarningWithdrawn
  /-- SCAN (R41). Request 0x20: first 1, last 1. -/
  | scan
  /-- SLOT INFO (R20). Request 0x21: element 1. -/
  | slotInfo
  /-- CARTRIDGE INFO (R20). Request 0x22: form 1, then label 8 or index 1. -/
  | cartridgeInfo
  /-- EDIT CARTRIDGE (R19). Request 0x23: index 1, action 1, value 1. -/
  | editCartridge
  /-- MOVE (R42). Request 0x24: source 1, destination 1, expectedLabel 8. -/
  | move
  /-- IMPORT (R17). Request 0x25: pool 1, optional. -/
  | importCartridge
  /-- EXPORT (R18). Request 0x26: form 1, then label 8 or element 1. -/
  | exportCartridge
  /-- CLEAR CHANGER FAULT (R35). Request 0x27, no fields. -/
  | clearChangerFault
  /-- RETEST DRIVE (R63). Request 0x28: drive 1. -/
  | retestDrive
  /-- UNLOAD DRIVE (R67). Request 0x29: drive 1, returnHome 1. -/
  | unloadDrive
  /-- OPEN SESSION (R129). Request 0x40: sessionId 2, pool 1, codingMode 1, autoVerify 1, hostTag 8. -/
  | openSession
  /-- BEGIN OBJECT (R130). Request 0x41: job 1. -/
  | beginObject
  /-- WRITE DATA (R112, R131, R195). Request 0x42: job 1, data length 2, data. -/
  | writeData
  /-- END OBJECT (R132). Request 0x43: job 1, secureNow 1. -/
  | endObject
  /-- CLOSE SESSION (R142). Request 0x44: job 1. -/
  | closeSession
  /-- START VERIFY (R161). Request 0x50: label 8, sessionId 2, flags 1. -/
  | startVerify
  /-- START RESTORE (R173). Request 0x51: sessionId 2, firstObject 3, lastObject 3, hintLabel 8, hintBlock 4. -/
  | startRestore
  /-- READ DATA (R182, R195). Request 0x52: job 1, maximum 2. -/
  | readData
  /-- JOB INFO (R89). Request 0x60: id 1. -/
  | jobInfo
  /-- ABORT JOB (R88). Request 0x61: id 1. -/
  | abortJob
  /-- RELEASE JOB (R89). Request 0x62: id 1. -/
  | releaseJob
  /-- START CLEAN (R86). Request 0x63: drive 1. -/
  | startClean
  /-- SESSION INFO (R158). Request 0x70: sessionId 2, fromSequence 2. -/
  | sessionInfo
  /-- EXTENT INFO (R158). Request 0x71: sessionId 2, sequence 2. -/
  | extentInfo
  /-- DROP SESSION (R155). Request 0x72: sessionId 2. -/
  | dropSession
  /-- LOAD EXTENT (R156). Request 0x73: sessionId 2, sequence 2, label 8, firstBlock 4, blockCount 4,
  firstObject 3, firstChunkIndex 2, lastObject 3, chunkFrames 4, rawBytes 8, codedBytes 8, flags 1, pool 1,
  hostTag 8. -/
  | loadExtent
  /-- CATALOG INFO (R159). Request 0x74, no fields. -/
  | catalogInfo
  /-- FRONT_DOOR_OPENED (R36). -/
  | frontDoorOpened
  /-- FRONT_DOOR_CLOSED (R37). -/
  | frontDoorClosed
  /-- MAIL_SLOT_DOOR_OPENED (R39). -/
  | mailSlotDoorOpened
  /-- MAIL_SLOT_DOOR_CLOSED (R39). -/
  | mailSlotDoorClosed
  /-- MAGAZINE_REMOVED (R2). -/
  | magazineRemoved (m : Magazine)
  /-- MAGAZINE_INSERTED (R2). -/
  | magazineInserted (m : Magazine)
  /-- ENTRY_START (R25): the picker cartridge sensor as it stands, read for a RECOVERY move (R45). -/
  | entryStart (pickerSensed : Bool)
  /-- TRAVEL_ARRIVAL (R27). -/
  | travelArrival
  /-- GRIP_DONE (R27): the picker sensor, and the label readings as the cartridge passes the reader. -/
  | gripDone (pickerSensed : Bool) (reads : LabelReads)
  /-- INSERT_DONE (R27): the picker sensor shows nothing. -/
  | insertDone
  /-- PLACE_BLOCKED (R29). -/
  | placeBlocked
  /-- AXIS_STALL (R29). -/
  | axisStall
  /-- STEP_TIMER_EXPIRY (R29). -/
  | stepTimerExpiry
  /-- RETRY_DELAY_EXPIRY (R30). -/
  | retryDelayExpiry
  /-- HOMING_COMPLETE (R37, R43, R44, R35): the picker sensor at homing completion. -/
  | homingComplete (pickerSensed : Bool)
  /-- SPOT_CHECK_DONE (R37): the presence sensor at the destination checked. -/
  | spotCheckDone (present : Bool)
  /-- SCAN_SLOT_DONE (R40): the presence sensor and the label readings at the slot in progress. -/
  | scanSlotDone (present : Bool) (reads : LabelReads)
  /-- HELD_MOVE_ISSUE (R79). -/
  | heldMoveIssue
  /-- PRESENCE_LOST (R61). -/
  | presenceLost (d : Drive)
  /-- PRESENCE_RISE (R61). -/
  | presenceRise (d : Drive)
  /-- MEDIA_REPORT (R46). -/
  | mediaReport (d : Drive) (m : MediaSense)
  /-- SELF_TEST_RESULT (R62). -/
  | selfTestResult (d : Drive) (r : SelfTestReport)
  /-- SELF_TEST_TIMEOUT (R62). -/
  | selfTestTimeout (d : Drive)
  /-- LOAD_COMPLETE (R52); `cleanAsked`: the completion carries a clean request (R64), here and below. -/
  | loadComplete (d : Drive) (r : LoadReport) (cleanAsked : Bool)
  /-- LOCATE_COMPLETE (R53). -/
  | locateComplete (d : Drive) (r : LocateReport) (cleanAsked : Bool)
  /-- LOCATE_END_COMPLETE (R53). -/
  | locateEndComplete (d : Drive) (r : LocateEndReport) (cleanAsked : Bool)
  /-- READ_BLOCK_COMPLETE (R54). -/
  | readBlockComplete (d : Drive) (r : ReadReport) (cleanAsked : Bool)
  /-- WRITE_BLOCK_COMPLETE (R55). -/
  | writeBlockComplete (d : Drive) (r : WriteReport) (cleanAsked : Bool)
  /-- WRITE_END_MARK_COMPLETE (R56). -/
  | writeEndMarkComplete (d : Drive) (r : EndMarkReport) (cleanAsked : Bool)
  /-- UNLOAD_COMPLETE (R57). -/
  | unloadComplete (d : Drive) (r : PlainReport) (cleanAsked : Bool)
  /-- CLEAN_COMPLETE (R58). -/
  | cleanComplete (d : Drive) (r : PlainReport) (cleanAsked : Bool)
  /-- OPERATION_TIMEOUT (R59). -/
  | operationTimeout (d : Drive)
  /-- CLEAN_ADMISSION_RETRY (R86). -/
  | cleanAdmissionRetry (d : Drive)
  /-- IDLE_RETURN_EXPIRY (R66). -/
  | idleReturnExpiry (d : Drive)
  /-- PENDING_IDLE_RETURN (R66). -/
  | pendingIdleReturn (d : Drive)
  /-- CODER_GRANT (R107). -/
  | coderGrant
  /-- ENCODING_COMPLETE (R95). -/
  | encodingComplete
  /-- WRITE_BLOCK_PRESENT (R115). -/
  | writeBlockPresent (d : Drive)
  /-- CARRY_PLACEMENT_RESUME (R116). -/
  | carryPlacementResume (d : Drive)
  /-- CATALOG_WAIT_RESUME (R133). -/
  | catalogWaitResume
  /-- READ_BLOCK_PRESENT (R118). -/
  | readBlockPresent (d : Drive)
  /-- DECODING_COMPLETE (R105). -/
  | decodingComplete
  /-- SUBSTITUTE_ENTRY_ADD (R181): the RESTORE job whose waiting entries are added. -/
  | substituteEntryAdd (job : Nat)
  deriving DecidableEq, Repr

end Sys2Proof
end

