-- ==== Sys2Proof/Decode.lean ====
section
/-! DEFINITION. The reading of a command from the bits the opcode table gives a row. The table gives no row any bits:
the part has no instruction words, and what it takes are the bytes of FRAME_RECEIVED and the events of its lines
(00_scope.md). So no word spells a command. -/

namespace Sys2Proof

/-- The command a word spells by the table's bits: none, for every word, since no row has bits. -/
def decodeTableWord (_nbits _w : Nat) : Option Instr := none

end Sys2Proof
end

