-- ==== Sys2Proof/Config.lean ====
section
/-! DEFINITION. What one implementation fixes, and the values the manual leaves open. Each is a constant without a
body: nothing can be proved of its value. -/

namespace Sys2Proof

/-- The revision number of the silicon, "1 and up" (R192): IDENTIFY reports it plus one. The manual gives no
number, so nothing is known of it here (log entry 9). -/
opaque Config.revisionAboveOne : Nat

/-- The count a port takes from a drive that reports one above the largest capacity: a free value for each count
reported (R53; log entry 6). -/
opaque Config.countBeyond : Nat → Nat

/-- The bytes a port takes from a drive that reports a block of more than 65,536 bytes: a free value for each block
reported (R54; log entry 6). -/
opaque Config.blockBeyond : List Byte → List Byte

end Sys2Proof
end

