-- ==== Sys2Proof/Machine/State.lean ====
section
/-! DEFINITION. The state of the TL-440 as plain data: every block's records (chapters 1 to 11), the input
lines, the settings store, the last reply sent and the queue of commands waiting. The types are laid out
block by block; each names the rule that gives it its fields. -/

namespace Sys2Proof.Machine

/-- One of a thing for each drive (drive port, stream, claim, timer). -/
structure Pair (α : Type) where
  d0 : α
  d1 : α
  deriving DecidableEq, Repr, Inhabited

/-! ## Cartridge Table (chapter 1) -/

/-- Device mode (R186). -/
inductive Mode where
  | online
  | maintenance
  | secured
  deriving DecidableEq, Repr, Inhabited

/-- Slot states (R1). -/
inductive SlotState where
  | empty
  | occupied
  | untracked
  | reserved
  | unknown
  | noMagazine
  deriving DecidableEq, Repr, Inhabited

/-- A slot record (R1). `element` and `magazine` are the place where the table keeps the record. -/
structure SlotRec where
  state : SlotState
  holder : Option Nat
  reservedFor : Option Nat
  deriving DecidableEq, Repr, Inhabited

/-- Cartridge kinds (R4). -/
inductive CartKind where
  | a
  | b
  | clean
  deriving DecidableEq, Repr, Inhabited

/-- Media states (section 1.3). `opened` is the manual's OPEN. -/
inductive MediaState where
  | new
  | blank
  | opened
  | full
  | suspect
  | retired
  | cleaning
  | expired
  | foreign
  deriving DecidableEq, Repr, Inhabited

/-- `blocksUsed` (R3). -/
inductive BlocksUsed where
  | known (n : Nat)
  | unknown
  | absent
  deriving DecidableEq, Repr, Inhabited

/-- `writeProtect` (R3). -/
inductive Protect where
  | unknown
  | yes
  | no
  deriving DecidableEq, Repr, Inhabited

/-- A cartridge record in use (R3). -/
structure CartRec where
  label : Option Label
  kind : Option CartKind
  state : MediaState
  location : Option Element
  home : Option Nat
  homeMagazine : Option Magazine
  pool : Nat
  claim : Option Nat
  blocksUsed : BlocksUsed
  rawBytes : Nat
  codedBytes : Nat
  extentCount : Nat
  loadCount : Nat
  usesLeft : Option Nat
  writeProtect : Protect
  lastSeen : Nat
  duplicateLabel : Bool
  noEndMark : Bool
  deriving DecidableEq, Repr, Inhabited

/-- The counts of the scan in progress (R12), the slots it has reported (R13, step 3) and its range. -/
structure ScanTally where
  range : List Element
  reported : List Element
  found : Nat
  created : Nat
  revived : Nat
  absent : Nat
  duplicates : Nat
  untracked : Nat
  deriving DecidableEq, Repr, Inhabited

/-- The Cartridge Table: 40 storage slots, the mail slot and its door, 64 cartridge records, the scan number,
the scan in progress (R1, R3, R12). -/
structure CartTable where
  slots : List SlotRec
  mail : SlotRec
  mailDoorOpen : Bool
  carts : List (Option CartRec)
  scanNumber : Nat
  scan : Option ScanTally
  deriving DecidableEq, Repr, Inhabited

/-! ## Changer Controller (chapter 2) -/

/-- Changer states (R22). -/
inductive ChangerState where
  | unhomed
  | homing
  | idle
  | scanning
  | travel
  | grip
  | travelLoaded
  | place
  | held
  | retryWait
  | faultHold
  | locked
  deriving DecidableEq, Repr, Inhabited

/-- Changer steps (R191, "changer step"). -/
inductive Step where
  | homing
  | travel
  | grip
  | travelLoaded
  | place
  | scanStep
  | spotCheck
  deriving DecidableEq, Repr, Inhabited

/-- Move results and changer reasons (R191). -/
inductive Reason where
  | ok
  | sourceEmpty
  | driveNotReady
  | labelMismatch
  | claimed
  | destFull
  | stall
  | gripMiss
  | placeBlocked
  | nowhereToPlace
  | pickerOccupied
  | lostInTransit
  | lockout
  deriving DecidableEq, Repr, Inhabited

/-- Move origins (R23). -/
inductive Origin where
  | job (n : Nat)
  | requested
  | returned
  | recovery
  deriving DecidableEq, Repr, Inhabited

/-- A destination as it is asked for (R23). -/
inductive Dest where
  | element (e : Element)
  | lowestFree
  | home
  | recoveryChain
  deriving DecidableEq, Repr, Inhabited

/-- A cartridge where one may be known or not: in the picker (R22) or in a drive (R46). -/
inductive Contents where
  | none
  | cart (idx : Nat)
  | untracked
  deriving DecidableEq, Repr, Inhabited

/-- A move record (R23). `asked` is the destination as queued and `dest` the element it was resolved to
(R25). `faulted` is the mark of R29. `ticket` and `cart` tell the scheduler which of its moves this is
(log entry 4). -/
structure Move where
  id : Nat
  origin : Origin
  source : Element
  asked : Dest
  dest : Option Element
  expectedLabel : Option Label
  attempts : Nat
  faulted : Bool
  putAway : Option Reason
  tried : List Element
  ticket : Nat
  cart : Option Nat
  deriving DecidableEq, Repr, Inhabited

/-- A scan record (R23). `remaining` is what is left of the range in visiting order; its head is the slot in
progress. -/
structure Scan where
  id : Nat
  range : List Element
  remaining : List Element
  attempts : Nat
  resumeSlot : Option Element
  faulted : Bool
  deriving DecidableEq, Repr, Inhabited

/-- A queue entry in execution (section 2.2). -/
inductive Entry where
  | move (m : Move)
  | scan (s : Scan)
  deriving DecidableEq, Repr, Inhabited

/-- The sequence a homing belongs to (R31, R35, R38, R43, R44): what follows its completion. -/
inductive HomingFor where
  | toIdle
  | powerOn
  | reset
  | pickerRecheck
  | settleHeld
  | continueScan
  deriving DecidableEq, Repr, Inhabited

/-- Return states kept in `held` (R36). `idle` stands for IDLE and, through `Held.seq`, for a sequence. -/
inductive Return where
  | idle
  | resume
  | restart
  | faultHold
  | locked
  deriving DecidableEq, Repr, Inhabited

/-- The context of an entry stopped by a door opening or a fault (R22, R36). The entry itself stays in
`Changer.current` (R31). -/
structure Held where
  step : Option Step
  ret : Return
  reason : Option Reason
  seq : HomingFor
  deriving DecidableEq, Repr, Inhabited

/-- The interrupted step of a controller reset (R44). -/
structure Interrupted where
  step : Step
  source : Element
  dest : Option Element
  deriving DecidableEq, Repr, Inhabited

/-- The changer record (R22), with the timers of R29 and R30 (seconds left), the reason of a hold (R31), and
the progress of a close sequence (R37, R38). -/
structure Changer where
  state : ChangerState
  picker : Contents
  pickedFrom : Option Element
  current : Option Entry
  held : Option Held
  faultRun : Nat
  nextId : Nat
  queue : List Move
  scanEntry : Option Scan
  step : Option Step
  stepTimer : Option Nat
  retryTimer : Option Nat
  holdReason : Option Reason
  closing : Bool
  closeScan : Option Scan
  homingFor : HomingFor
  homingAttempts : Nat
  interrupted : Option Interrupted
  settledEnd : Bool
  pickerFound : Bool
  deriving DecidableEq, Repr, Inhabited

/-! ## Drive Ports (chapter 3) -/

/-- Port states (R46). -/
inductive PortState where
  | absent
  | init
  | empty
  | holding
  | loading
  | ready
  | active
  | unloading
  | cleaning
  | faulted
  deriving DecidableEq, Repr, Inhabited

/-- Drive fault reasons (R46, R191). `presenceLost` stands in notices only. -/
inductive DriveReason where
  | loadFail
  | transport
  | timeout
  | endMarkFail
  | initFail
  | presenceLost
  deriving DecidableEq, Repr, Inhabited

/-- Operation results (R191). -/
inductive OpResult where
  | ok
  | blank
  | endMark
  | readError
  | writeError
  | loadFail
  | endMarkFail
  | transport
  | timeout
  | driveLost
  deriving DecidableEq, Repr, Inhabited

/-- The two block buffers of a stream (R110). -/
inductive BufId where
  | a
  | b
  deriving DecidableEq, Repr, Inhabited

/-- The eight drive operations with their arguments (R50). The probe's Read Block is `probeRead`; like any other it names the
block buffer of the drive's stream that is to receive the data (R80). -/
inductive PortOp where
  | load
  | locate (block : Nat)
  | locateEnd
  | readBlock (buf : BufId)
  | probeRead (buf : BufId)
  | writeBlock (buf : BufId)
  | writeEndMark
  | unload
  | clean
  deriving DecidableEq, Repr, Inhabited

/-- Who receives an operation's result (R46, R66, R67, R69). -/
inductive Requester where
  | job (n : Nat)
  | host (returnHome : Bool)
  | idleReturn
  | nobody
  deriving DecidableEq, Repr, Inhabited

/-- The operation in flight: its requester and its timer, seconds left (R46, R50). -/
structure PendingOp where
  op : PortOp
  requester : Requester
  timer : Nat
  deriving DecidableEq, Repr, Inhabited

/-- The port record (R46). `selfTest` is the self-test timer (R62), `wasAbsent` whether INIT was entered from
ABSENT (R47), `resetting` whether the port is in its controller-reset sequence (R69). -/
structure Port where
  state : PortState
  cartridge : Contents
  position : Option Nat
  pending : Option PendingOp
  faultReason : Option DriveReason
  cleanRequest : Bool
  recovered : Bool
  mediaSensed : Option MediaSense
  lastResult : Option OpResult
  selfTest : Option Nat
  wasAbsent : Bool
  resetting : Bool
  deriving DecidableEq, Repr, Inhabited

/-! ## Frames and the coder (chapter 5) -/

/-- A tape frame header (R91, R196). `kind` is the stored number 0 to 15. -/
structure FrameHeader where
  kind : Nat
  last : Bool
  continued : Bool
  truncated : Bool
  continues : Bool
  rawLength : Nat
  payloadLength : Nat
  session : Nat
  object : Nat
  chunk : Nat
  crc : BitVec 32
  deriving DecidableEq, Repr, Inhabited

/-- A frame built by the part (R91): header and payload, and whether it carries the SECURE-NOW mark of its
chunk (R113, R115). -/
structure Frame where
  header : FrameHeader
  payload : List Byte
  secureNow : Bool
  deriving DecidableEq, Repr, Inhabited

/-- Coding modes (R99). -/
inductive CodingMode where
  | pack
  | pass
  | auto
  deriving DecidableEq, Repr, Inhabited

/-- A settings snapshot: coding mode, G, S and Q (R99). -/
structure Snapshot where
  mode : CodingMode
  gain : Nat
  storedRun : Nat
  skip : Nat
  deriving DecidableEq, Repr, Inhabited

/-- Adaptive phases (R99). -/
inductive Phase where
  | search
  | skip
  | probe
  deriving DecidableEq, Repr, Inhabited

/-- The coding state of a BACKUP job (R99). -/
structure CodingState where
  installed : Option Snapshot
  lastObject : Option Nat
  phase : Phase
  storedRun : Nat
  skipLeft : Nat
  skipLen : Nat
  packedCount : Nat
  searchedStoredCount : Nat
  unsearchedCount : Nat
  deriving DecidableEq, Repr, Inhabited

/-- Causes of FRAME-CORRUPT (R104). -/
inductive CorruptCause where
  | short
  | reach
  | overrun
  | trailing
  deriving DecidableEq, Repr, Inhabited

/-- The result of a decoding (R105). -/
inductive DecodeResult where
  | ok (bytes : List Byte)
  | corrupt (cause : CorruptCause)
  | mismatch
  deriving DecidableEq, Repr, Inhabited

/-- The result record a decoding hands its stream (R105), with the block its frame lies in. -/
structure ResultRec where
  block : Nat
  header : FrameHeader
  result : DecodeResult
  deriving DecidableEq, Repr, Inhabited

/-- The work in the coder (R106). A decoding keeps the frame it was granted. -/
inductive CoderWork where
  | encoding
  | decoding (block : Nat) (header : FrameHeader) (payload : List Byte)
  deriving DecidableEq, Repr, Inhabited

/-- The coding in progress: its stream, its job, its work (R106, R108). -/
structure Busy where
  stream : Drive
  job : Nat
  work : CoderWork
  deriving DecidableEq, Repr, Inhabited

/-- The arbiter's fields (R106). -/
structure Coder where
  busy : Option Busy
  lastServed : Drive
  deriving DecidableEq, Repr, Inhabited

/-! ## Streams (chapter 6) -/

/-- States of an intake buffer (R111). -/
inductive ChunkState where
  | filling
  | full
  | closed
  | coding
  deriving DecidableEq, Repr, Inhabited

/-- An intake chunk (R111). -/
structure Chunk where
  state : ChunkState
  session : Nat
  object : Nat
  index : Nat
  data : List Byte
  snapshot : Snapshot
  final : Bool
  secureNow : Bool
  deriving DecidableEq, Repr, Inhabited

/-- Block buffer states (R114, R118). `opened` is the manual's OPEN. -/
inductive BufState where
  | free
  | opened
  | closed
  | writing
  | reading
  | loaded
  | parsing
  deriving DecidableEq, Repr, Inhabited

/-- A block buffer with its block record (R110): the block index, the frames placed (write side), the bytes
read (read side). -/
structure Buffer where
  state : BufState
  index : Nat
  frames : List Frame
  data : List Byte
  deriving DecidableEq, Repr, Inhabited

/-- The stream's open object (R110). -/
structure StreamObject where
  object : Nat
  snapshot : Snapshot
  nextChunk : Nat
  secureNow : Bool
  deriving DecidableEq, Repr, Inhabited

/-- `attached` (R110). -/
structure Attached where
  cartridge : Nat
  nextIndex : Nat
  deriving DecidableEq, Repr, Inhabited

/-- `readLimit` (R118). -/
inductive ReadLimit where
  | block (n : Nat)
  | endMark
  deriving DecidableEq, Repr, Inhabited

/-- `stopping` (R121). -/
inductive StopCause where
  | yielding
  | abort
  | driveLost
  | hold
  deriving DecidableEq, Repr, Inhabited

/-- Why the read side requests a Locate while its job runs (R118, R85, R178, R176). -/
inductive SeekFor where
  | afterError
  | resume
  | link
  deriving DecidableEq, Repr, Inhabited

/-- A Locate of the read side: its target, its purpose, whether it was requested once before, whether it is
in flight. -/
structure Seek where
  target : Nat
  purpose : SeekFor
  retried : Bool
  inFlight : Bool
  deriving DecidableEq, Repr, Inhabited

/-- A chunk frame presented for decoding: its offset in the block being parsed and its header (R119). -/
structure Presented where
  offset : Nat
  header : FrameHeader
  deriving DecidableEq, Repr, Inhabited

/-- What a Read Block without data tells the job once the blocks before it are parsed (R118): the end of recorded
data at a block, with or without an end mark, or an unreadable block. -/
inductive ReadNews where
  | dataEnd (block : Nat) (mark : Bool)
  | unreadable (block : Nat)
  deriving DecidableEq, Repr, Inhabited

/-- The stream record (R110). `markerWait` is a kind-4 frame whose placement is paused (R125, R142); `seek` a
Locate of the read side; `startAt` a kept parse offset and its block (R121); `news` what a Read Block has told and the
job's rules have not been told yet (log entry 16). The job's kind and progress give
`filter` (R119). -/
structure Stream where
  job : Option Nat
  enable : Bool
  intake : List Chunk
  openObject : Option StreamObject
  attached : Option Attached
  bufA : Buffer
  bufB : Buffer
  carry : List Frame
  markerWait : Option Frame
  nextRead : Option Nat
  readLimit : Option ReadLimit
  parseOffset : Option Nat
  presented : Option Presented
  stopping : Option StopCause
  seek : Option Seek
  startAt : Option (Nat × Nat)
  news : Option ReadNews
  deriving DecidableEq, Repr, Inhabited

/-! ## Jobs (chapters 4, 7, 9, 10) -/

/-- Job kinds (R70). -/
inductive JobKind where
  | backup
  | verify
  | restore
  | clean
  deriving DecidableEq, Repr, Inhabited

/-- Job states (R71). -/
inductive JobState where
  | queued
  | waiting
  | mounting
  | running
  | spanning
  | held
  | done
  | failed
  | aborted
  deriving DecidableEq, Repr, Inhabited

/-- Wait reasons (R70). -/
inductive WaitReason where
  | drive
  | media
  | catalog
  | changer
  deriving DecidableEq, Repr, Inhabited

/-- Job results (R191). -/
inductive JobResult where
  | ok
  | position
  | wrongMedia
  | transport
  | timeout
  | driveLost
  | host
  | reset
  | truncated
  | damaged
  | incomplete
  | catalogFull
  | extentRemoved
  deriving DecidableEq, Repr, Inhabited

/-- A job's `target` (R70). -/
inductive Target where
  | label (l : Label)
  | pool (n : Nat)
  | drive (d : Drive)
  deriving DecidableEq, Repr, Inhabited

/-- Where a job is in the mount steps of R79, the probe of R80, the putting away of R81, or step 1 of R83. `bringUnload` is
the Unload that comes before the move of step 2 where the cartridge lies threaded in the other drive (R57). -/
inductive MountStep where
  | clearUnload
  | clearMove
  | bringUnload
  | bring
  | load
  | probeLocate (retried : Bool)
  | probeRead
  | probeEnd
  | position (retried : Bool)
  | awayUnload
  | awayMove
  | spanUnload
  | spanMove
  deriving DecidableEq, Repr, Inhabited

/-- A BACKUP's open object (R128), with the object's snapshot (R101). -/
structure JobObject where
  object : Nat
  bytesAccepted : Nat
  snapshot : Snapshot
  deriving DecidableEq, Repr, Inhabited

/-- `partial` of R128: the object some of whose frames are written and others not (R135). -/
structure PartialObject where
  object : Nat
  firstLabel : Option Label
  firstBlock : Nat
  raw : Nat
  coded : Nat
  deriving DecidableEq, Repr, Inhabited

/-- `spanCause` (R128). -/
inductive SpanCause where
  | earlyWarning
  | writeFailure
  | lost
  deriving DecidableEq, Repr, Inhabited

/-- The rule on whose behalf an end-mark sequence runs (R136). -/
inductive EndFor where
  | span (continues : Bool)
  | writeFailure
  | closing
  | truncation
  deriving DecidableEq, Repr, Inhabited

/-- The sequence a BACKUP is in the middle of: the early-warning span (R138), the closing of the session
(R142), the truncation procedure (R125), or an end-mark sequence (R136). -/
inductive Ending where
  | spanWriteOut
  | spanMarker (truncated : Bool)
  | closeWrite
  | truncPlace
  | truncWrite
  | truncMark
  | endLocate (why : EndFor) (retried : Bool)
  | endMark (why : EndFor)
  deriving DecidableEq, Repr, Inhabited

/-- Progress fields of a BACKUP (R128), its session snapshot (R101), its coding state (R99), the sequence it
is in, and how the truncation procedure will end it (R144). -/
structure BackupData where
  objectsBegun : Nat
  openObject : Option JobObject
  closing : Bool
  truncating : Bool
  extentSeq : Nat
  extentOpen : Bool
  securedThrough : Nat
  part : Option PartialObject
  spanCause : Option SpanCause
  autoVerify : Bool
  snapshot : Snapshot
  coding : Option CodingState
  ending : Option Ending
  truncEnd : Option (JobState × JobResult)
  deriving DecidableEq, Repr, Inhabited

/-- Check state of an extent being verified (R162). -/
inductive CheckState where
  | pending
  | checking
  | ended
  deriving DecidableEq, Repr, Inhabited

/-- Per extent tally of a VERIFY (R162). -/
structure Tally where
  framesChecked : Nat
  damaged : Nat
  unreadable : Nat
  missingBlocks : Nat
  headerBad : Nat
  markerFaults : Nat
  kind3Seen : Bool
  deriving DecidableEq, Repr, Inhabited

/-- An extent of a VERIFY's `extents` (R162), named by its session and sequence, with the tally it ended with. The
tally of the CHECKING one is `VerifyData.tally`. -/
structure VExtent where
  session : Nat
  sequence : Nat
  check : CheckState
  tally : Tally
  deriving DecidableEq, Repr, Inhabited

/-- A found extent of a REBUILD (R170). `ownEnd` is the block that holds its own kind-4 frame. -/
structure FoundExtent where
  session : Nat
  sequence : Nat
  firstBlock : Nat
  continued : Bool
  continues : Bool
  sawTruncated : Bool
  firstObject : Option Nat
  firstChunk : Nat
  lastObject : Option Nat
  chunkFrames : Nat
  raw : Nat
  coded : Nat
  ownEnd : Option Nat
  deriving DecidableEq, Repr, Inhabited

/-- `current` of a VERIFY (R162, R170). -/
inductive VCurrent where
  | none
  | known (session sequence : Nat)
  | found (f : FoundExtent)
  deriving DecidableEq, Repr, Inhabited

/-- `expect` of a VERIFY (R162). -/
inductive Expect where
  | unset
  | lost
  | frame (object chunk : Nat)
  deriving DecidableEq, Repr, Inhabited

/-- Progress fields of a VERIFY (R162). `entered` is the block last compared with the extents (R164),
`lastParsed` the block last parsed to its end (R170), `firstUnreadable` whether the first block of `current` was
unreadable (R168, step 1), `firstMoved` whether a removal has moved the range's first block since the last mount
(R172). -/
structure VerifyData where
  all : Bool
  rebuild : Bool
  selected : List Nat
  extents : List VExtent
  current : VCurrent
  expect : Expect
  tally : Tally
  totals : Tally
  stray : Nat
  rebuilt : Nat
  conflicts : Nat
  endedVerified : Nat
  endedDamaged : Nat
  damageFound : Bool
  skipped : List Nat
  entered : Option Nat
  lastParsed : Option Nat
  firstUnreadable : Bool
  firstMoved : Bool
  deriving DecidableEq, Repr, Inhabited

/-- `policy` (R174). -/
inductive Policy where
  | stop
  | substitute
  deriving DecidableEq, Repr, Inhabited

/-- `hint` (R174). -/
inductive Hint where
  | none
  | unused (label : Label) (block : Nat)
  | spent
  deriving DecidableEq, Repr, Inhabited

/-- A link of a RESTORE's chain: one extent of the session (R174, R175), as it stands at admission. -/
structure Link where
  sequence : Nat
  label : Label
  cartridge : Nat
  firstBlock : Nat
  blockCount : Nat
  firstObject : Nat
  firstChunk : Nat
  lastObject : Nat
  continues : Bool
  deriving DecidableEq, Repr, Inhabited

/-- An entry of an outbound queue (R120). -/
structure OutEntry where
  object : Nat
  chunk : Nat
  offset : Nat
  data : List Byte
  damaged : Bool
  endOfObject : Bool
  deriving DecidableEq, Repr, Inhabited

/-- What a RESTORE still has to do before its stream goes on (R181): add a substitute entry, take the frame
that revealed a gap, or carry on with the end of a link (R178). -/
inductive RAction where
  | substitute (size : Nat) (final : Bool)
  | take (r : ResultRec)
  | linkNext
  deriving DecidableEq, Repr, Inhabited

/-- Progress fields of a RESTORE (R174), its outbound queue (R120), and the state of a reading from a hint
block (R176): `fromHint` until the first chunk frame of the session is met, `hinted` until the link is left or relocated
to. -/
structure RestoreData where
  firstObject : Nat
  lastObject : Nat
  policy : Policy
  hint : Hint
  chain : List Link
  link : Option Link
  nextObject : Option Nat
  expect : Nat
  found : Bool
  objectOffset : Nat
  delivered : Nat
  substituted : Nat
  absent : Nat
  absentObjects : List Nat
  out : List OutEntry
  headOffset : Nat
  todo : List RAction
  fromHint : Bool
  hinted : Bool
  relocating : Bool
  stopped : Bool
  filterFrom : Nat
  removed : List Nat
  deriving DecidableEq, Repr, Inhabited

/-- Progress by the job's kind (R70). -/
inductive Progress where
  | backup (b : BackupData)
  | verify (v : VerifyData)
  | restore (r : RestoreData)
  | clean
  deriving DecidableEq, Repr, Inhabited

/-- A job record (R70). `class` is fixed by `kind`. `ticket` names the move the job waits for (log entry 4);
`mediaAsked` whether its present wait has queued MEDIA NEEDED (R76, R77); `endAs` how it ends once its stream
is at rest (R88, R169, R180); `kept` the block and offset of R121; `pins` the sessions it pins (R154);
`cleaned` whether a CLEAN job's Clean has ended OK (R88). -/
structure Job where
  id : Nat
  kind : JobKind
  state : JobState
  waitReason : Option WaitReason
  seq : Nat
  drive : Option Drive
  cartridge : Option Nat
  stream : Option Drive
  sessionId : Option Nat
  target : Target
  mountStep : Option MountStep
  progress : Progress
  resumePoint : Option Nat
  kept : Option (Nat × Nat)
  abortPending : Bool
  yielding : Bool
  result : Option JobResult
  ticket : Option Nat
  mediaAsked : Bool
  endAs : Option (JobState × JobResult)
  pins : List Nat
  cleaned : Bool
  deriving DecidableEq, Repr, Inhabited

/-- A move the scheduler holds for want of queue room (R79). -/
structure HeldMove where
  origin : Origin
  source : Element
  asked : Dest
  expectedLabel : Option Label
  ticket : Nat
  cart : Option Nat
  deriving DecidableEq, Repr, Inhabited

/-- The Job Scheduler's state (R70, R72, R73, R65, R66, R79, R86). -/
structure Scheduler where
  jobs : List Job
  lastId : Nat
  lastSeq : Nat
  claims : Pair (Option Nat)
  idle : Pair (Option Nat)
  idlePending : Pair Bool
  returning : List Nat
  heldMoves : List HeldMove
  cleanNeed : Pair Bool
  nextTicket : Nat
  deriving DecidableEq, Repr, Inhabited

/-! ## Catalog (chapter 8) -/

/-- Session states (R147). `opened` is the manual's OPEN. -/
inductive SessionState where
  | opened
  | closed
  | truncated
  deriving DecidableEq, Repr, Inhabited

/-- Session origins (R147). -/
inductive SessionOrigin where
  | written
  | loaded
  | rebuilt
  deriving DecidableEq, Repr, Inhabited

/-- Verify states of an extent and verify summaries of a session (R149, R152); an extent is never `partly`. -/
inductive VerifyState where
  | unverified
  | verified
  | damaged
  | partly
  deriving DecidableEq, Repr, Inhabited

/-- A session record (R147). Its extents are the extent records that bear its id; `pinCount` counts the
unfinished jobs' pins (R154). -/
structure SessionRec where
  id : Nat
  hostTag : List Byte
  state : SessionState
  origin : SessionOrigin
  pool : Nat
  codingMode : Option CodingMode
  objectsBegun : Nat
  chunkCount : Nat
  rawBytes : Nat
  codedBytes : Nat
  verifySummary : VerifyState
  deriving DecidableEq, Repr, Inhabited

/-- An extent record (R149). -/
structure ExtentRec where
  session : Nat
  sequence : Nat
  label : Label
  cartridge : Nat
  firstBlock : Nat
  blockCount : Nat
  firstObject : Option Nat
  firstChunk : Nat
  lastObject : Option Nat
  chunkFrames : Nat
  rawBytes : Nat
  codedBytes : Nat
  continued : Bool
  continues : Bool
  endMark : Bool
  isOpen : Bool
  verifyState : VerifyState
  damagedChunks : Nat
  deriving DecidableEq, Repr, Inhabited

/-- The Catalog: the session records and the extent records in use (R147, R149). -/
structure Catalog where
  sessions : List SessionRec
  extents : List ExtentRec
  deriving DecidableEq, Repr, Inhabited

/-! ## What the blocks hand one another -/

/-- The outcome of a drive operation as its requester receives it (R51 to R61). -/
inductive OpOutcome where
  | ok
  | okCount (c : Nat)
  | okProtected (p : Bool)
  | okBlock (data : List Byte)
  | blank (c : Nat)
  | endMark
  | readError
  | writeError
  | loadFail
  | endMarkFail
  | transport
  | timeout
  | driveLost
  deriving DecidableEq, Repr, Inhabited

/-! ## Notices and status codes (chapter 11) -/

/-- A cartridge as notices name it: record index (none: UNTRACKED) and label. -/
structure CartRef where
  index : Option Nat
  label : Option Label
  deriving DecidableEq, Repr, Inhabited

/-- Causes of a media state change (R191). -/
inductive StateCause where
  | scanOrPassage
  | probe
  | blockWrite
  | spanOrFailure
  | verify
  | cleaningUse
  | hostEdit
  deriving DecidableEq, Repr, Inhabited

/-- Chunk damage causes (R179, R191). -/
inductive DamageCause where
  | frameCorrupt
  | crcMismatch
  | gap
  | missingFinal
  | unreadable
  | noExtent
  | notFound
  deriving DecidableEq, Repr, Inhabited

/-- Status codes (R185). -/
inductive Status where
  | ok
  | busy
  | full
  | notInMode
  | badArgument
  | unknownCode
  | noSuchJob
  | noSuchSession
  | noSuchCartridge
  | noSuchElement
  | wrongState
  | claimed
  | duplicate
  | overlap
  | beyondEnd
  | inUse
  | catalogFull
  | queueFull
  | tooLarge
  | powerWarning
  deriving DecidableEq, Repr, Inhabited

/-- What MEDIA NEEDED asks for (R76, R77). -/
inductive MediaWanted where
  | pool (n : Nat)
  | label (l : Label)
  | cleaning
  deriving DecidableEq, Repr, Inhabited

/-- The notices of R189, with the fields their owning rules list. -/
inductive Notice where
  /-- 1 JOB STATE (R71) -/
  | jobState (id : Nat) (kind : JobKind) (was : Option JobState) (now : JobState)
      (wait : Option WaitReason) (drive : Option Drive) (cart : Option CartRef) (result : Option JobResult)
  /-- 2 OBJECT SECURED (R135) -/
  | objectSecured (session object : Nat) (firstLabel : Option Label) (firstBlock : Nat)
      (lastLabel : Option Label) (lastBlock raw coded : Nat)
  /-- 3 OBJECT LOST (R144) -/
  | objectLost (session object : Nat) (result : JobResult)
  /-- 4 MEDIA NEEDED (R76, R77) -/
  | mediaNeeded (job : Nat) (wanted : MediaWanted)
  /-- 5 CARTRIDGE STATE (R7) -/
  | cartridgeState (index : Nat) (label : Option Label) (was now : Option MediaState) (cause : StateCause)
  /-- 6 CHANGER FAULT (R31, R32, R34, R37) -/
  | changerFault (entry : Option Nat) (origin : Option Origin) (reason : Reason) (step : Option Step)
      (element : Option Element) (attempts : Nat) (exhausted : Bool) (state : ChangerState)
      (cart : Option CartRef) (faultRun : Nat)
  /-- 7 DRIVE FAULT (R47) -/
  | driveFault (drive : Drive) (was now : PortState) (reason : Option DriveReason) (cart : Option CartRef)
      (position : Option Nat)
  /-- 8 DOOR (R36, R39): front door or mail slot, opened or closed -/
  | door (front opened : Bool)
  /-- 9 SCAN DONE (R12) -/
  | scanDone (range : List Element) (reported found created revived absent duplicates untracked : Nat)
  /-- 10 VERIFY DONE (R169) -/
  | verifyDone (job : Nat) (label : Label) (session : Nat) (rebuild : Bool) (result : JobResult)
      (verified damaged notEnded : Nat) (totals : Tally) (stray rebuilt conflicts : Nat)
  /-- 11 VERIFY NOT QUEUED (R143) -/
  | verifyNotQueued (session : Nat) (label : Label)
  /-- 12 CHUNK DAMAGED (R179) -/
  | chunkDamaged (job session object chunk count : Nat) (cause : DamageCause) (label : Option Label)
      (block : Nat)
  /-- 13 EXTENT REMOVED (R157) -/
  | extentRemoved (session sequence : Nat) (label : Label) (firstBlock blockCount used : Nat)
  /-- 14 CLEANING NEEDED (R64) -/
  | cleaningNeeded (drive : Drive)
  /-- 15 SETTINGS SAVED (R193) -/
  | settingsSaved (ok : Bool)
  /-- 16 POWER WARNING (R187) -/
  | powerWarning (asserted : Bool)
  /-- 17 LINK SILENT (R188) -/
  | linkSilent (limit : Nat)
  /-- 18 RESET DONE (R189) -/
  | resetDone (powerOn : Bool) (mode : Mode)
  /-- 19 UNTRACKED CARTRIDGE (R11) -/
  | untracked (element : Element) (label : Option Label)
  /-- 20 CONFLICT (R171) -/
  | conflict (session sequence : Nat) (label : Label) (firstBlock blockCount : Nat) (answer : Status)
  /-- 21 MOVE DONE (R28) -/
  | moveDone (id : Nat) (origin : Origin) (source : Element) (dest : Option Element)
      (ended : Option Element) (cart : Option CartRef) (result : Reason)
  deriving DecidableEq, Repr

/-! ## What is on its way between the blocks, and all of them together -/

/-- Reports from one block to another, taken inside the step that makes them, first in, first out (log
entry 5). -/
inductive Signal where
  /-- a port hands an operation's result to its requester (R51) -/
  | opDone (d : Drive) (req : Requester) (op : PortOp) (r : OpOutcome)
  /-- a port's DRIVE FAULT notice, which follows the result that its requester is handed (R47, R51) -/
  | notice (n : Notice)
  /-- a port entered FAULTED or ABSENT, or stays in INIT with INIT-FAIL (R47, R82) -/
  | portDown (d : Drive)
  /-- the changer reports a move's end to the scheduler (R28) -/
  | moveEnded (origin : Origin) (ticket : Nat) (r : Reason) (cart : Option Nat)
  /-- the Cartridge Table reports a claimed cartridge absent (R10, R82) -/
  | cartGone (job idx : Nat)
  /-- a homeless cartridge has gained a home (R9, R66) -/
  | homeGained (idx : Nat)
  /-- a port tells the scheduler of a clean request (R64, R86) -/
  | cleanAsked (d : Drive)
  /-- a drive may have become READY and unclaimed (R65) -/
  | idleCheck (d : Drive)
  /-- a port has entered READY from INIT with `recovered` set (R62, R65) -/
  | recovered (d : Drive)
  /-- a BACKUP looks at what its session needs next (R125, R138, R142) -/
  | advance (job : Nat)
  /-- a stream's read side goes on (R119, R121) -/
  | parse (d : Drive)
  /-- the catalog tells a pinning job of a removed extent (R154, R157) -/
  | extentRemoved (job session sequence : Nat)
  /-- a closed session asks for its verifications (R143) -/
  | autoVerify (session : Nat)
  deriving DecidableEq, Repr, Inhabited

/-- The library: every block behind the message link. The last four fields say what is left to do inside a step: the
reports on their way, a pass of dispatch (R75), rehoming (R9), and the freed extent records that waiting BACKUPs take
(R150). -/
structure Lib where
  mode : Mode
  gateOpen : Bool
  pins : Pins
  ct : CartTable
  cc : Changer
  ports : Pair Port
  js : Scheduler
  streams : Pair Stream
  coder : Coder
  cg : Catalog
  signals : List Signal
  dispatchDue : Bool
  rehomeDue : Bool
  catalogDue : Bool
  deriving DecidableEq, Repr, Inhabited

/-! ## What replies carry (chapter 11) -/

/-- A record of the notice queue (R189). -/
structure NoticeRec where
  seq : Nat
  notice : Notice
  deriving DecidableEq, Repr

/-- One slot as SLOT INFO reports it (R20). -/
structure SlotReport where
  element : Element
  state : SlotState
  holder : Option CartRef
  reservedFor : Option CartRef
  mailDoorOpen : Option Bool
  deriving DecidableEq, Repr, Inhabited

/-- The six capacity fields of CARTRIDGE INFO (R20, R145). `none` stands for the value that reports unknown. -/
structure CapacityReport where
  capacity : Nat
  reserve : Nat
  threshold : Nat
  remainingBlocks : Option Nat
  ratio : Nat
  estimatedRawRoom : Option Nat
  deriving DecidableEq, Repr, Inhabited

/-- A port as STATUS reports it (R47). -/
structure PortReport where
  state : PortState
  faultReason : Option DriveReason
  cartridge : Option CartRef
  position : Option Nat
  cleanRequest : Bool
  recovered : Bool
  lastResult : Option OpResult
  idle : Option Nat
  deriving DecidableEq, Repr, Inhabited

/-- A stream as STATUS reports it (R110). -/
structure StreamReport where
  enable : Bool
  job : Option Nat
  intakeBuffers : Nat
  intakeBytes : Nat
  bufA : BufState
  bufB : BufState
  carryFrames : Nat
  carryBytes : Nat
  outbound : Nat
  deriving DecidableEq, Repr, Inhabited

/-- The reply to STATUS (R192). -/
structure StatusReport where
  mode : Mode
  powerWarning : Bool
  saving : Bool
  gateOpen : Bool
  notices : Nat
  lost : Bool
  jobs : List Nat
  changer : ChangerState
  waitingMoves : Nat
  scanWaiting : Bool
  faultRun : Nat
  current : Option Nat
  holdReason : Option Reason
  ports : Pair PortReport
  streams : Pair StreamReport
  deriving DecidableEq, Repr

/-- One job in the summary of JOB INFO (R89). -/
structure JobSummary where
  id : Nat
  kind : JobKind
  state : JobState
  waitReason : Option WaitReason
  drive : Option Drive
  result : Option JobResult
  deriving DecidableEq, Repr, Inhabited

/-- One extent in SESSION INFO (R158). -/
structure ExtentSummary where
  sequence : Nat
  label : Label
  firstBlock : Nat
  blockCount : Nat
  verifyState : VerifyState
  deriving DecidableEq, Repr, Inhabited

/-- One session in SESSION INFO of all sessions (R158). -/
structure SessionSummary where
  id : Nat
  state : SessionState
  origin : SessionOrigin
  verifySummary : VerifyState
  objectsBegun : Nat
  pinCount : Nat
  extents : Nat
  deriving DecidableEq, Repr, Inhabited

/-- One pool in CATALOG INFO (R159). -/
structure PoolReport where
  opened : Nat
  blank : Nat
  new : Nat
  rawRoom : Nat
  deriving DecidableEq, Repr, Inhabited

/-- The reply to READ DATA (R182, R195). -/
structure DataReply where
  object : Nat
  offset : Nat
  endOfObject : Bool
  damaged : Bool
  endOfJob : Bool
  data : List Byte
  deriving DecidableEq, Repr, Inhabited

/-- What a reply carries beyond its status and flags (R185), field by field as the owning rules list it. -/
inductive ReplyBody where
  | empty
  | identity (name : List Byte) (revision slots mailSlots drives largestData : Nat)
  | status (r : StatusReport)
  | notices (lost : Bool) (records : List NoticeRec)
  | setting (value : Nat)
  | settingCopies (working : Nat) (stored : Nat)
  | entryId (id : Nat)
  | slots (l : List SlotReport)
  | cartridge (index : Nat) (c : CartRec) (cap : CapacityReport)
  | mediaState (m : MediaState)
  | jobId (id : Nat)
  | objectNumber (n : Nat)
  | objectEnded (n bytes : Nat)
  | restoreStarted (id lastObject : Nat)
  | data (d : DataReply)
  | job (j : Job) (label : Option Label)
  | jobs (l : List JobSummary)
  | jobState (s : JobState)
  | session (r : SessionRec) (pinCount extents : Nat) (l : List ExtentSummary) (more : Bool)
  | sessions (l : List SessionSummary)
  | extent (e : ExtentRec)
  | extentsFreed (n : Nat)
  | catalog (sessionsUsed sessionsFree extentsUsed extentsFree : Nat) (byState byOrigin : List Nat)
      (pinned : Nat) (pools : List PoolReport)
  deriving DecidableEq, Repr

/-- A reply (R185): tag and code echoed, status, the three flags, the payload. -/
structure Reply where
  tag : Byte
  code : Byte
  status : Status
  previousRejected : Bool
  noticesWaiting : Bool
  powerWarning : Bool
  body : ReplyBody
  deriving DecidableEq, Repr

/-- A request frame in the receive buffer (R184, R195). -/
structure RequestFrame where
  tag : Byte
  code : Byte
  payload : List Byte
  deriving DecidableEq, Repr, Inhabited

/-- The Message Link (R184, R185, R188, R189). `receiver` holds the bytes of the frame being received: empty
or the one byte 0x7E in HUNT, the frame from its marker on in FRAME. `silence` is the silence timer, `silenceLimit` the limit
it read when it started last. -/
structure LinkState where
  receiver : List Byte
  frames : List RequestFrame
  reject : Bool
  notices : List NoticeRec
  lost : Bool
  nextNotice : Nat
  silence : Option Nat
  silenceLimit : Nat
  reply : Option Reply
  deriving DecidableEq, Repr

/-- The settings (R193): sixteen working copies in the order of their numbers, the sixteen stored copies or
none while the store has never been written, and the snapshot of a save in progress. -/
structure SettingsState where
  working : List Nat
  stored : Option (List Nat)
  saving : Option (List Nat)
  deriving DecidableEq, Repr, Inhabited

/-- The machine: the queue of commands waiting (first in, first out), the message link, the settings, and the
library behind them. -/
structure State where
  pending : List Instr
  link : LinkState
  settings : SettingsState
  lib : Lib
  deriving DecidableEq, Repr

/-- Why a step stops. It has no constructor: no command stops the machine in any state. Safe: every command goes on
as its rule says, or with a free value where the rule gives none (log entry 6). -/
inductive Fault where
  deriving DecidableEq, Repr

/-- Why a command has no meaning. -/
inductive Refusal where
  /-- A command that is not modelled yet. Safe: nothing is claimed of it. Nothing raises it: every command has
  its meaning. -/
  | notModelled (mnemonic : String)
  deriving DecidableEq, Repr

/-! ## The machine right after reset -/

/-- A free buffer. -/
def freeBuffer : Buffer :=
  { state := .free, index := 0, frames := [], data := [] }

/-- A stream after a reset has ended (R127): empty, its enable set. -/
def resetStream : Stream :=
  { job := none, enable := true, intake := [], openObject := none, attached := none,
    bufA := freeBuffer, bufB := freeBuffer, carry := [], markerWait := none, nextRead := none,
    readLimit := none, parseOffset := none, presented := none, stopping := none, seek := none,
    startAt := none, news := none }

/-- A port after a power-on reset with its presence line high (R68): INIT, its self-test timer started. -/
def resetPort : Port :=
  { state := .init, cartridge := .none, position := none, pending := none, faultReason := none,
    cleanRequest := false, recovered := false, mediaSensed := none, lastResult := none,
    selfTest := some 180, wasAbsent := false, resetting := false }

/-- The factory values of the sixteen settings, in the order of their numbers (R193). -/
def factorySettings : List Nat :=
  [2, 8, 32, 3, 1, 1, 300, 0, 1, 1, 3, 2, 1, 2, 3, 5]

/-- The input lines that `State.reset` finds: doors closed, magazines and drives present, no power warning, an
empty picker. DESIGN CHOICE, log entry 3: they are levels outside the part. -/
def resetPins : Pins :=
  { frontDoorOpen := false, mailDoorOpen := false, magazineLeft := true, magazineRight := true,
    presence0 := true, presence1 := true, powerWarning := false, pickerSensor := false }

/-- The changer right after a power-on reset with the front door closed (R43): homing for the power-on
sequence. -/
def resetChanger : Changer :=
  { state := .homing, picker := .none, pickedFrom := none, current := none, held := none,
    faultRun := 0, nextId := 1, queue := [], scanEntry := none, step := some .homing,
    stepTimer := some 20, retryTimer := none, holdReason := none, closing := false,
    closeScan := none, homingFor := .powerOn, homingAttempts := 0, interrupted := none,
    settledEnd := false, pickerFound := false }

/-- The job scheduler after a power-on reset (R90). -/
def resetScheduler : Scheduler :=
  { jobs := [], lastId := 0, lastSeq := 0, claims := ⟨none, none⟩, idle := ⟨none, none⟩,
    idlePending := ⟨false, false⟩, returning := [], heldMoves := [], cleanNeed := ⟨false, false⟩,
    nextTicket := 1 }

/-- The Cartridge Table after a power-on reset with both magazines present and the mail-slot door closed
(R21). -/
def resetCartTable : CartTable :=
  { slots := List.replicate 40 { state := .unknown, holder := none, reservedFor := none },
    mail := { state := .unknown, holder := none, reservedFor := none },
    mailDoorOpen := false, carts := List.replicate 64 none, scanNumber := 0, scan := none }

/-- The library after a power-on reset that finds `resetPins` (R21, R43, R68, R90, R109, R127, R160, R187). -/
def resetLib : Lib :=
  { mode := .online, gateOpen := true, pins := resetPins, ct := resetCartTable, cc := resetChanger,
    ports := ⟨resetPort, resetPort⟩, js := resetScheduler, streams := ⟨resetStream, resetStream⟩,
    coder := { busy := none, lastServed := .d1 }, cg := { sessions := [], extents := [] },
    signals := [], dispatchDue := false, rehomeDue := false, catalogDue := false }

/-- The machine right after a power-on reset that finds `resetPins` and a settings store never written
(R21, R189, R193). RESET DONE has been queued and has taken sequence number 0. -/
def State.reset : State :=
  { pending := [],
    link :=
      { receiver := [], frames := [], reject := false,
        notices := [{ seq := 0, notice := .resetDone true .online }], lost := false, nextNotice := 1,
        silence := none, silenceLimit := 0, reply := none },
    settings := { working := factorySettings, stored := none, saving := none },
    lib := resetLib }

end Sys2Proof.Machine
end

