-- ==== Sys2Proof/Machine/Operands.lean ====
section
/-! DEFINITION. Operands: the device's numbers, byte order, labels, element and drive values, and the reading of
a request's payload field by field (R185, R191, R195). -/

namespace Sys2Proof.Machine

/-! ## Numbers used throughout (00_scope.md) -/

/-- Largest chunk, raw bytes. -/
def chunkSize : Nat := 16368

/-- Largest frame, header and payload. -/
def largestFrame : Nat := 16384

/-- A block of tape, bytes. -/
def blockSize : Nat := 65536

/-- Largest object, bytes. -/
def largestObject : Nat := 1072693248

/-- Largest object number and largest count of objects. -/
def largestObjectNumber : Nat := 16777215

/-- Largest value of a 32-bit count. -/
def max32 : Nat := 4294967295

/-- Largest value of a 64-bit count. -/
def max64 : Nat := 18446744073709551615

/-- Capacity in blocks (R145); 0 for a kind that holds no data. -/
def capacityOf : Option CartKind → Nat
  | some .a => 2500000
  | some .b => 6000000
  | some .clean => 0
  | none => 0

/-- The reserve: the capacity divided by 64, rounded down (R145). -/
def reserveOf (k : Option CartKind) : Nat := capacityOf k / 64

/-- The early-warning threshold T (R145). -/
def thresholdOf (k : Option CartKind) : Nat := capacityOf k - reserveOf k

/-- Kinds A and B hold data (R50). -/
def isDataKind : Option CartKind → Bool
  | some .a => true
  | some .b => true
  | some .clean => false
  | none => false

/-! ## Byte order (00_scope.md, "Integers") -/

/-- The integer stored in bytes, most significant byte first. -/
def beNat (bytes : List Byte) : Nat :=
  bytes.foldl (fun acc b => acc * 256 + b.toNat) 0

/-- The `n` bytes that store an integer, most significant byte first. -/
def beBytes : Nat → Nat → List Byte
  | 0, _ => []
  | n + 1, v => beBytes n (v / 256) ++ [BitVec.ofNat 8 v]

/-! ## Labels (R4) -/

/-- A character a label may hold: A to Z or 0 to 9. -/
def labelChar (b : Byte) : Bool :=
  (decide (0x30 ≤ b.toNat) && decide (b.toNat ≤ 0x39)) ||
    (decide (0x41 ≤ b.toNat) && decide (b.toNat ≤ 0x5A))

/-- Eight such characters. -/
def labelOk (l : List Byte) : Bool :=
  decide (l.length = 8) && l.all labelChar

/-- The kind a label gives (R4): its last two characters DA, DB or CL; otherwise none. -/
def kindOfLabel (l : Label) : Option CartKind :=
  if l.drop 6 = [0x44#8, 0x41#8] then some .a
  else if l.drop 6 = [0x44#8, 0x42#8] then some .b
  else if l.drop 6 = [0x43#8, 0x4C#8] then some .clean
  else none

/-- A label read (R4): eight valid characters, or unreadable. -/
def readLabel (l : List Byte) : Option Label :=
  if labelOk l then some l else none

/-- A label field of eight zero bytes stands for absent (R42, R173). -/
def labelField (l : List Byte) : Option Label :=
  if l = List.replicate 8 0#8 then none else some l

/-! ## Elements and drives (R42, R191) -/

/-- The magazine of a storage slot (R1). -/
def magazineOf (n : Nat) : Magazine :=
  if n ≤ 20 then .left else .right

/-- The other magazine. -/
def otherMagazine : Magazine → Magazine
  | .left => .right
  | .right => .left

/-- The slots of a magazine (00_scope.md, "Elements"). -/
def slotsOf : Magazine → List Nat
  | .left => (List.range 20).map (· + 1)
  | .right => (List.range 20).map (· + 21)

/-- Element values of MOVE: 1 to 40, 64 for M, 65 for D0, 66 for D1 (R42). -/
def elementOfByte (n : Nat) : Option Element :=
  if 1 ≤ n ∧ n ≤ 40 then some (.slot n)
  else if n = 64 then some .mail
  else if n = 65 then some (.drive .d0)
  else if n = 66 then some (.drive .d1)
  else none

/-- Drive values: 65 for D0, 66 for D1 (R63). -/
def driveOfByte (n : Nat) : Option Drive :=
  if n = 65 then some .d0 else if n = 66 then some .d1 else none

/-- The value that names a drive (R191). -/
def byteOfDrive : Drive → Nat
  | .d0 => 65
  | .d1 => 66

/-- The slots a scan visits, in visiting order: S1 to S40, then M (R23). -/
def scanOrder : List Element :=
  (List.range 40).map (fun n => .slot (n + 1)) ++ [.mail]

/-- A set of slots put in visiting order (R23, R24). -/
def inScanOrder (l : List Element) : List Element :=
  scanOrder.filter (fun e => l.contains e)

/-! ## Pairs: one of a thing for each drive -/

/-- The one for a drive. -/
def Pair.get {α : Type} (p : Pair α) : Drive → α
  | .d0 => p.d0
  | .d1 => p.d1

/-- Replace the one for a drive. -/
def Pair.put {α : Type} (p : Pair α) (d : Drive) (x : α) : Pair α :=
  match d with
  | .d0 => { p with d0 := x }
  | .d1 => { p with d1 := x }

/-- The other drive. -/
def otherDrive : Drive → Drive
  | .d0 => .d1
  | .d1 => .d0

/-! ## Payloads (R185, item 3) -/

/-- The payload cut into fields of the sizes given; none when it is shorter or longer than they are. -/
def fields : List Nat → List Byte → Option (List (List Byte))
  | [], [] => some []
  | [], _ :: _ => none
  | n :: rest, bytes =>
    if n ≤ bytes.length then
      match fields rest (bytes.drop n) with
      | some l => some (bytes.take n :: l)
      | none => none
    else none

/-- A payload of integer fields of the sizes given. -/
def natFields (sizes : List Nat) (payload : List Byte) : Option (List Nat) :=
  (fields sizes payload).map (List.map beNat)

/-- The `k`th bit of a byte value. -/
def bitOf (k v : Nat) : Bool := v / 2 ^ k % 2 == 1

/-! ## Settings by number (R193) -/

/-- The value of setting `n` in a list of sixteen copies. -/
def settingOf (l : List Nat) (n : Nat) : Nat := l.getD (n - 1) 0

/-- A coding mode's number (R191). -/
def codingModeOf : Nat → CodingMode
  | 1 => .pack
  | 2 => .pass
  | _ => .auto

/-- A value clamped into a range. -/
def clampTo (lo hi v : Nat) : Nat := max lo (min hi v)

/-- The retry delays allowed (R193, setting 14): the nearest of 1, 2, 5, 10, the smaller on a tie. -/
def clampDelay (v : Nat) : Nat :=
  if v ≤ 1 then 1 else if v ≤ 3 then 2 else if v ≤ 7 then 5 else 10

/-- A changer reaction (settings 10 to 13) kept in 1 to 3 and, where the class does not allow it, replaced by the
class's factory reaction (R29, R193). STALL allows RETRY and HOLD; GRIP-MISS and PLACE-BLOCKED allow all three;
LABEL-UNREAD allows RETRY and REPORT. -/
def clampReaction (number v : Nat) : Nat :=
  let r := clampTo 1 3 v
  if number = 10 then (if r = 3 then 1 else r)
  else if number = 13 then (if r = 2 then 1 else r)
  else r

/-- The value that SET SETTING stores for a number and a value (R193). -/
def clampSetting (number v : Nat) : Nat :=
  match number with
  | 1 => clampTo 0 15 v
  | 2 => clampTo 1 64 v
  | 3 => clampTo 1 255 v
  | 4 => clampTo 1 3 v
  | 5 => clampTo 1 2 v
  | 6 => clampTo 1 2 v
  | 7 => clampTo 0 3600 v
  | 8 => clampTo 0 255 v
  | 9 => clampTo 1 2 v
  | 14 => clampDelay v
  | 15 => clampTo 0 7 v
  | 16 => clampTo 1 15 v
  | n => clampReaction n v

end Sys2Proof.Machine
end

