-- ==== Sys2Proof/Machine/Ops.lean ====
section
/-! DEFINITION. The shared operations every block is written over: the working state of a step, and the reading
and writing of each block's records. A step works on `W`: the library, the settings it reads, and the notices it
has handed to the message link. -/

namespace Sys2Proof.Machine

/-- The working state of one step: the library, the working copies of the settings (read only), and the notices
handed to the message link in order (R189). -/
structure W extends Lib where
  set : List Nat
  out : List Notice
  deriving DecidableEq, Repr

namespace W

/-! ## Reports -/

/-- Hand a notice to the message link (R189). -/
def note (w : W) (n : Notice) : W := { w with out := w.out ++ [n] }

/-- One block reports to another. -/
def emit (w : W) (s : Signal) : W := { w with signals := w.signals ++ [s] }

/-- An event at which dispatch runs has been taken (R75). -/
def wantDispatch (w : W) : W := { w with dispatchDue := true }

/-- An extent record has been freed: BACKUPs waiting for one take it, and dispatch then runs (R150). -/
def recordFreed (w : W) : W := { w with catalogDue := true, dispatchDue := true }

/-- An event at which rehoming runs has been taken (R9). -/
def wantRehome (w : W) : W := { w with rehomeDue := true }

/-- The working copy of a setting (R193). -/
def setting (w : W) (n : Nat) : Nat := settingOf w.set n

/-! ## Input lines -/

/-- The magazine presence line (R2). -/
def magazinePresent (w : W) : Magazine → Bool
  | .left => w.pins.magazineLeft
  | .right => w.pins.magazineRight

/-- A drive's presence line (R61). -/
def presence (w : W) : Drive → Bool
  | .d0 => w.pins.presence0
  | .d1 => w.pins.presence1

/-- Note a drive's presence line. -/
def putPresence (w : W) (d : Drive) (level : Bool) : W :=
  match d with
  | .d0 => { w with pins := { w.pins with presence0 := level } }
  | .d1 => { w with pins := { w.pins with presence1 := level } }

/-- Note the picker cartridge sensor. -/
def sensePicker (w : W) (level : Bool) : W :=
  { w with pins := { w.pins with pickerSensor := level } }

/-! ## Slots and cartridge records -/

/-- The slot record of a storage slot or of M. -/
def slotAt (w : W) : Element → SlotRec
  | .slot n => w.ct.slots.getD (n - 1) default
  | .mail => w.ct.mail
  | .drive _ => default
  | .picker => default

/-- Write the slot record of a storage slot or of M. -/
def putSlot (w : W) (e : Element) (r : SlotRec) : W :=
  match e with
  | .slot n => { w with ct := { w.ct with slots := w.ct.slots.set (n - 1) r } }
  | .mail => { w with ct := { w.ct with mail := r } }
  | .drive _ => w
  | .picker => w

/-- The cartridge record of an index, if it is in use. -/
def cart (w : W) (i : Nat) : Option CartRec := w.ct.carts.getD i none

/-- Write or free the cartridge record of an index. -/
def putCart (w : W) (i : Nat) (c : Option CartRec) : W :=
  { w with ct := { w.ct with carts := w.ct.carts.set i c } }

/-- Change a cartridge record in use. -/
def modCart (w : W) (i : Nat) (f : CartRec → CartRec) : W :=
  match w.cart i with
  | some c => w.putCart i (some (f c))
  | none => w

/-- The indices of the cartridge records. -/
def cartIndices : List Nat := List.range 64

/-- The record without DUPLICATE-LABEL that bears a label, present or absent (R13, R20). -/
def cartByLabel (w : W) (l : Label) : Option Nat :=
  cartIndices.find? fun i =>
    match w.cart i with
    | some c => decide (c.label = some l) && !c.duplicateLabel
    | none => false

/-- The present record located at an element (R5). -/
def cartAt (w : W) (e : Element) : Option Nat :=
  cartIndices.find? fun i =>
    match w.cart i with
    | some c => decide (c.location = some e)
    | none => false

/-- A cartridge as a notice names it. -/
def cartRef (w : W) (i : Nat) : CartRef :=
  { index := some i, label := (w.cart i).bind CartRec.label }

/-- What a picker or a drive holds, as a notice names it: none for nothing, no index for UNTRACKED. -/
def contentsRef (w : W) : Contents → Option CartRef
  | .none => none
  | .cart i => some (w.cartRef i)
  | .untracked => some { index := none, label := none }

/-- A media state update (R7): CARTRIDGE STATE is queued when the state changes, and dispatch sees the change
(R75). -/
def setMedia (w : W) (i : Nat) (s : MediaState) (cause : StateCause) : W :=
  match w.cart i with
  | none => w
  | some c =>
    if c.state = s then w
    else
      ((w.putCart i (some { c with state := s })).note
        (.cartridgeState i c.label (some c.state) (some s) cause)).wantDispatch

/-! ## Ports -/

/-- A drive's port. -/
def port (w : W) (d : Drive) : Port := w.ports.get d

/-- Write a drive's port. -/
def putPort (w : W) (d : Drive) (p : Port) : W := { w with ports := w.ports.put d p }

/-- Change a drive's port. -/
def modPort (w : W) (d : Drive) (f : Port → Port) : W := w.putPort d (f (w.port d))

/-! ## Jobs -/

/-- The job of an id. -/
def job (w : W) (n : Nat) : Option Job := w.js.jobs.find? (fun j => j.id = n)

/-- Change the job of an id. -/
def modJob (w : W) (n : Nat) (f : Job → Job) : W :=
  { w with js := { w.js with jobs := w.js.jobs.map (fun j => if j.id = n then f j else j) } }

/-- Change a BACKUP's progress. -/
def modBackup (w : W) (n : Nat) (f : BackupData → BackupData) : W :=
  w.modJob n fun j =>
    match j.progress with
    | .backup b => { j with progress := .backup (f b) }
    | .verify _ => j
    | .restore _ => j
    | .clean => j

/-- Change a VERIFY's progress. -/
def modVerify (w : W) (n : Nat) (f : VerifyData → VerifyData) : W :=
  w.modJob n fun j =>
    match j.progress with
    | .verify v => { j with progress := .verify (f v) }
    | .backup _ => j
    | .restore _ => j
    | .clean => j

/-- Change a RESTORE's progress. -/
def modRestore (w : W) (n : Nat) (f : RestoreData → RestoreData) : W :=
  w.modJob n fun j =>
    match j.progress with
    | .restore r => { j with progress := .restore (f r) }
    | .backup _ => j
    | .verify _ => j
    | .clean => j

/-- The job that claims a drive (R73). -/
def driveClaim (w : W) (d : Drive) : Option Nat := w.js.claims.get d

/-- Write a drive's claim. -/
def putDriveClaim (w : W) (d : Drive) (c : Option Nat) : W :=
  { w with js := { w.js with claims := w.js.claims.put d c } }

/-- The idle-return timer of a drive: seconds left, or stopped (R65). -/
def idleTimer (w : W) (d : Drive) : Option Nat := w.js.idle.get d

/-- Stop a drive's idle-return timer without its expiring, a pending expiry with it (R65, R66). -/
def stopIdle (w : W) (d : Drive) : W :=
  { w with js := { w.js with
      idle := w.js.idle.put d none, idlePending := w.js.idlePending.put d false } }

/-- A cartridge starts or stops being returning (R65). Stopping is an event for dispatch (R75). -/
def markReturning (w : W) (i : Nat) : W :=
  { w with js := { w.js with returning := if w.js.returning.contains i then w.js.returning
                                          else w.js.returning ++ [i] } }

/-- See `markReturning`. -/
def unmarkReturning (w : W) (i : Nat) : W :=
  if w.js.returning.contains i then
    { w with js := { w.js with returning := w.js.returning.filter (· ≠ i) }, dispatchDue := true }
  else w

/-! ## Streams -/

/-- A stream: S0 with D0, S1 with D1. -/
def stream (w : W) (d : Drive) : Stream := w.streams.get d

/-- Write a stream. -/
def putStream (w : W) (d : Drive) (s : Stream) : W := { w with streams := w.streams.put d s }

/-- Change a stream. -/
def modStream (w : W) (d : Drive) (f : Stream → Stream) : W := w.putStream d (f (w.stream d))

/-- A stream is running while its enable is set and the gate is open (R110). -/
def running (w : W) (d : Drive) : Bool := (w.stream d).enable && w.gateOpen

/-! ## Catalog -/

/-- The session record of an id. -/
def session (w : W) (id : Nat) : Option SessionRec := w.cg.sessions.find? (fun s => s.id = id)

/-- Change a session record. -/
def modSession (w : W) (id : Nat) (f : SessionRec → SessionRec) : W :=
  { w with cg := { w.cg with
      sessions := w.cg.sessions.map (fun s => if s.id = id then f s else s) } }

/-- The extent record of a session and sequence. -/
def extent (w : W) (id sequence : Nat) : Option ExtentRec :=
  w.cg.extents.find? (fun e => e.session = id ∧ e.sequence = sequence)

/-- Change an extent record. -/
def modExtent (w : W) (id sequence : Nat) (f : ExtentRec → ExtentRec) : W :=
  { w with cg := { w.cg with
      extents := w.cg.extents.map
        (fun e => if e.session = id ∧ e.sequence = sequence then f e else e) } }

end W

/-! ## Kinds, classes and finished states of jobs -/

/-- Dispatch order: RESTORE 1, CLEAN 2, BACKUP 3, VERIFY 4 (R70). -/
def classOf : JobKind → Nat
  | .restore => 1
  | .clean => 2
  | .backup => 3
  | .verify => 4

/-- DONE, FAILED and ABORTED (R71). -/
def JobState.isFinished : JobState → Bool
  | .done => true
  | .failed => true
  | .aborted => true
  | .queued => false
  | .waiting => false
  | .mounting => false
  | .running => false
  | .spanning => false
  | .held => false

/-- A job's BACKUP progress, if it is a BACKUP. -/
def Job.backup? (j : Job) : Option BackupData :=
  match j.progress with
  | .backup b => some b
  | .verify _ => none
  | .restore _ => none
  | .clean => none

/-- A job's VERIFY progress, if it is a VERIFY. -/
def Job.verify? (j : Job) : Option VerifyData :=
  match j.progress with
  | .verify v => some v
  | .backup _ => none
  | .restore _ => none
  | .clean => none

/-- A job's RESTORE progress, if it is a RESTORE. -/
def Job.restore? (j : Job) : Option RestoreData :=
  match j.progress with
  | .restore r => some r
  | .backup _ => none
  | .verify _ => none
  | .clean => none

/-- The progress of a job that has finished: a BACKUP's coding state ends with its binding (R102, R109), and a RESTORE adds
nothing more to its outbound queue, whose entries stay (R120, R183). -/
def Progress.ended : Progress → Progress
  | .backup b => .backup { b with coding := none }
  | .verify v => .verify v
  | .restore r => .restore { r with todo := [] }
  | .clean => .clean

/-! ## Buffers of a stream -/

/-- A block buffer of a stream. -/
def Stream.buf (s : Stream) : BufId → Buffer
  | .a => s.bufA
  | .b => s.bufB

/-- Write a block buffer of a stream. -/
def Stream.putBuf (s : Stream) (i : BufId) (b : Buffer) : Stream :=
  match i with
  | .a => { s with bufA := b }
  | .b => { s with bufB := b }

/-- The first buffer, A before B, in a state. Where a rule takes a FREE buffer and both are FREE, this is A (DESIGN CHOICE, log
entry 49). -/
def Stream.bufIn (s : Stream) (st : BufState) : Option BufId :=
  if s.bufA.state = st then some .a else if s.bufB.state = st then some .b else none

/-- How many of the two buffers are in a state. -/
def Stream.countIn (s : Stream) (st : BufState) : Nat :=
  (if s.bufA.state = st then 1 else 0) + (if s.bufB.state = st then 1 else 0)

/-- A frame's size: 16 and its payload (R91). -/
def Frame.size (f : Frame) : Nat := 16 + f.payload.length

/-- The bytes filled in a block buffer (R110). -/
def Buffer.filled (b : Buffer) : Nat := (b.frames.map Frame.size).sum

end Sys2Proof.Machine
end

