-- ==== Sys2Proof/Machine/Coder.lean ====
section
/-! DEFINITION. The chunk coder's arithmetic (chapter 5): the check sum, the frame header and its checks, the
search, the payload layout, the decision, the decoder, and the adaptive state. Nothing here touches the machine's
state; the streams call it. -/

namespace Sys2Proof.Machine

/-! ## The check sum (R94) -/

/-- One shift of the register toward its low-order end (R94). -/
def crcShift (r : BitVec 32) : BitVec 32 :=
  if r.getLsbD 0 then (r >>> 1) ^^^ 0x82F63B78#32 else r >>> 1

/-- One byte taken into the register (R94). -/
def crcByte (r : BitVec 32) (b : Byte) : BitVec 32 :=
  let r := r ^^^ b.setWidth 32
  crcShift (crcShift (crcShift (crcShift (crcShift (crcShift (crcShift (crcShift r)))))))

/-- CRC-32C of a string of bytes (R94). -/
def crc32c (bytes : List Byte) : BitVec 32 :=
  ~~~(bytes.foldl crcByte 0xFFFFFFFF#32)

/-! ## Frame headers (R91, R92, R196) -/

/-- A flag at its bit place. -/
def flagBit (b : Bool) (k : Nat) : Nat := if b then 2 ^ k else 0

/-- The sixteen bytes of a header (R196). -/
def headerBytes (h : FrameHeader) : List Byte :=
  [BitVec.ofNat 8 (h.kind % 16 + flagBit h.last 4 + flagBit h.continued 5 + flagBit h.truncated 6 +
    flagBit h.continues 7)] ++
  beBytes 2 h.rawLength ++ beBytes 2 h.payloadLength ++ beBytes 2 h.session ++ beBytes 3 h.object ++
  beBytes 2 h.chunk ++ beBytes 4 h.crc.toNat

/-- A frame on tape: header, then payload (R91). -/
def frameBytes (f : Frame) : List Byte := headerBytes f.header ++ f.payload

/-- The 65,536 bytes of a closed block: its frames, then zeros (R115). -/
def blockBytes (b : Buffer) : List Byte :=
  let filled := (b.frames.map frameBytes).flatten
  filled ++ List.replicate (blockSize - filled.length) 0#8

/-- The header that sixteen bytes hold (R196); bytes missing at the end read as zero. -/
def headerOfBytes (l : List Byte) : FrameHeader :=
  let first := (l.getD 0 0#8).toNat
  let field (from_ n : Nat) : Nat := beNat ((List.range n).map fun k => l.getD (from_ + k) 0#8)
  { kind := first % 16, last := bitOf 4 first, continued := bitOf 5 first, truncated := bitOf 6 first,
    continues := bitOf 7 first, rawLength := field 1 2, payloadLength := field 3 2, session := field 5 2,
    object := field 7 3, chunk := field 10 2, crc := BitVec.ofNat 32 (field 12 4) }

/-- What the parser finds where a frame may begin (R93). -/
inductive HeaderCheck where
  | pad
  | bad
  | good (h : FrameHeader)
  deriving DecidableEq, Repr

/-- Whether a header's flags are allowed for its kind (R93, item 4). -/
def flagsAllowed (h : FrameHeader) : Bool :=
  match h.kind with
  | 1 => !h.continued && !h.truncated && !h.continues
  | 2 => !h.continued && !h.truncated && !h.continues
  | 3 => !h.last && !h.truncated && !h.continues
  | 4 => !h.last && !h.continued && !(h.truncated && h.continues)
  | _ => false

/-- The checks of a chunk frame's fields (R93, item 5). -/
def chunkFieldsOk (h : FrameHeader) : Bool :=
  decide (h.rawLength ≤ chunkSize) && decide (h.session ≠ 0) && decide (h.object ≠ 0) &&
    (if h.kind = 2 then decide (h.payloadLength = h.rawLength)
     else decide (1 ≤ h.payloadLength) && decide (h.payloadLength ≤ h.rawLength))

/-- The checks of a marker's fields (R93, item 6). -/
def markerFieldsOk (h : FrameHeader) : Bool :=
  decide (h.rawLength = 0) && decide (h.payloadLength = 0) && decide (h.crc = 0#32) &&
    decide (h.session ≠ 0) &&
    (if h.kind = 3 then decide (h.object = 0) else decide (h.chunk = 0))

/-- The header checks of R93 on the bytes from a place on, `r` bytes from the block's end, in their order. -/
def checkHeader (bytes : List Byte) (r : Nat) : HeaderCheck :=
  let h := headerOfBytes bytes
  if r < 16 then (if h.kind = 0 then .pad else .bad)
  else if h.kind = 0 then .pad
  else if 5 ≤ h.kind then .bad
  else if flagsAllowed h = false then .bad
  else if h.kind ≤ 2 ∧ chunkFieldsOk h = false then .bad
  else if 3 ≤ h.kind ∧ markerFieldsOk h = false then .bad
  else if r < 16 + h.payloadLength then .bad
  else .good h

/-- The header checks at an offset of a block. -/
def headerAt (block : List Byte) (offset : Nat) : HeaderCheck :=
  checkHeader (block.drop offset) (blockSize - offset)

/-- `n` bytes of a block from an offset; a block's bytes beyond those listed are zero (log entry 6). -/
def bytesAt (block : List Byte) (offset n : Nat) : List Byte :=
  let found := (block.drop offset).take n
  found ++ List.replicate (n - found.length) 0#8

/-- A session-start frame (R92). -/
def startFrame (session sequence : Nat) (continued : Bool) : Frame :=
  { header :=
      { kind := 3, last := false, continued := continued, truncated := false, continues := false,
        rawLength := 0, payloadLength := 0, session := session, object := 0, chunk := sequence,
        crc := 0#32 },
    payload := [], secureNow := false }

/-- A session-end frame (R92). -/
def endFrame (session objects : Nat) (truncated continues : Bool) : Frame :=
  { header :=
      { kind := 4, last := false, continued := false, truncated := truncated, continues := continues,
        rawLength := 0, payloadLength := 0, session := session, object := objects, chunk := 0,
        crc := 0#32 },
    payload := [], secureNow := false }

/-! ## The search (R96) -/

/-- A token of the search (R96). -/
inductive Token where
  | literal (b : Byte)
  | copy (length distance : Nat)
  deriving DecidableEq, Repr

/-- How many leading bytes two strings share, at most `cap`. -/
def sharedRun : Nat → List Byte → List Byte → Nat
  | 0, _, _ => 0
  | _ + 1, [], _ => 0
  | _ + 1, _ :: _, [] => 0
  | cap + 1, x :: xs, y :: ys => if x = y then sharedRun cap xs ys + 1 else 0

/-- The longest match of the string at the position among the earlier strings, nearest first: length and
distance; the nearest of equal lengths (R96). `d` is the distance of the first string listed. -/
def longestMatch (here : List Byte) : List (List Byte) → Nat → Nat × Nat → Nat × Nat
  | [], _, best => best
  | s :: rest, d, best =>
    let n := sharedRun 34 here s
    longestMatch here rest (d + 1) (if best.1 < n then (n, d) else best)

/-- Move `n` bytes on: the strings that begin at the bytes passed join the earlier ones, nearest first. -/
def passBytes : Nat → List Byte → List (List Byte) → List Byte × List (List Byte)
  | 0, here, earlier => (here, earlier)
  | _ + 1, [], earlier => ([], earlier)
  | n + 1, b :: rest, earlier => passBytes n rest ((b :: rest) :: earlier)

/-- The search of R96 from a position: `here` the bytes from it on, `earlier` the strings that begin at earlier
places, nearest first. The first argument bounds the tokens. -/
def searchFrom : Nat → List Byte → List (List Byte) → List Token
  | 0, _, _ => []
  | _ + 1, [], _ => []
  | fuel + 1, b :: rest, earlier =>
    let m := longestMatch (b :: rest) (earlier.take 2048) 1 (0, 0)
    let n := if 3 ≤ m.1 then m.1 else 1
    let next := passBytes n (b :: rest) earlier
    (if 3 ≤ m.1 then .copy m.1 m.2 else .literal b) :: searchFrom fuel next.1 next.2

/-- The tokens of a chunk (R96). -/
def searchChunk (raw : List Byte) : List Token := searchFrom raw.length raw []

/-! ## The payload layout (R97) -/

/-- A group's control byte: bit k is 1 when token k is a match. -/
def controlByte (group : List Token) : Nat :=
  match group with
  | [] => 0
  | .literal _ :: rest => 2 * controlByte rest
  | .copy _ _ :: rest => 1 + 2 * controlByte rest

/-- A token's bytes: a literal's byte, or a match's number, high byte first. -/
def tokenBytes : Token → List Byte
  | .literal b => [b]
  | .copy length distance => beBytes 2 ((length - 3) * 2048 + (distance - 1))

/-- Groups of up to eight tokens, each preceded by its control byte. The first argument bounds the groups. -/
def layoutTokens : Nat → List Token → List Byte
  | 0, _ => []
  | _ + 1, [] => []
  | fuel + 1, t :: ts =>
    let group := (t :: ts).take 8
    BitVec.ofNat 8 (controlByte group) :: ((group.map tokenBytes).flatten ++
      layoutTokens fuel ((t :: ts).drop 8))

/-- The payload the search finds (R96, R97). -/
def packedPayload (raw : List Byte) : List Byte :=
  let tokens := searchChunk raw
  layoutTokens tokens.length tokens

/-! ## The decision and the frame (R95, R98) -/

/-- The decision: 64 × P ≤ (64 − G) × n, with n at least 1 (R98). -/
def keepsPacked (gain n p : Nat) : Bool :=
  decide (1 ≤ n) && decide (64 * p ≤ (64 - gain) * n)

/-- Whether a chunk of `n` bytes is searched: not when empty, not in PASS, not in AUTO while skipping (R95). -/
def searches (mode : CodingMode) (phase : Phase) (n : Nat) : Bool :=
  if n = 0 then false
  else match mode with
    | .pack => true
    | .pass => false
    | .auto => decide (phase ≠ .skip)

/-- The chunk frame of a payload (R92). -/
def chunkFrame (c : Chunk) (kind : Nat) (payload : List Byte) : Frame :=
  { header :=
      { kind := kind, last := c.final, continued := false, truncated := false, continues := false,
        rawLength := c.data.length, payloadLength := payload.length, session := c.session,
        object := c.object, chunk := c.index, crc := crc32c c.data },
    payload := payload, secureNow := c.secureNow }

/-- The frame an encoding produces under a snapshot and phase (R95 to R98). -/
def encodeChunk (snap : Snapshot) (phase : Phase) (c : Chunk) : Frame :=
  if searches snap.mode phase c.data.length then
    let packed := packedPayload c.data
    if keepsPacked snap.gain c.data.length packed.length then chunkFrame c 1 packed
    else chunkFrame c 2 c.data
  else chunkFrame c 2 c.data

/-! ## The adaptive state (R99 to R102) -/

/-- The coding state a BACKUP has when it is first bound to a stream (R102). -/
def freshCoding (snap : Snapshot) : CodingState :=
  { installed := some snap, lastObject := none, phase := .search, storedRun := 0, skipLeft := 0,
    skipLen := snap.skip, packedCount := 0, searchedStoredCount := 0, unsearchedCount := 0 }

/-- Installing a chunk's snapshot when its encoding begins (R101). -/
def installSnapshot (cs : CodingState) (object : Nat) (snap : Snapshot) : CodingState :=
  if cs.lastObject = some object then cs
  else if cs.installed = some snap then { cs with lastObject := some object }
  else { cs with lastObject := some object, installed := some snap, phase := .search, storedRun := 0,
                 skipLeft := 0, skipLen := snap.skip }

/-- The adaptive state after a chunk of 1 byte or more in mode AUTO (R100). -/
def adapt (cs : CodingState) (snap : Snapshot) (packed : Bool) : CodingState :=
  match cs.phase with
  | .search =>
    if packed then { cs with storedRun := 0, skipLen := snap.skip }
    else if cs.storedRun + 1 < snap.storedRun then { cs with storedRun := cs.storedRun + 1 }
    else { cs with phase := .skip, skipLeft := cs.skipLen, storedRun := 0 }
  | .skip =>
    if 1 < cs.skipLeft then { cs with skipLeft := cs.skipLeft - 1 }
    else { cs with skipLeft := 0, phase := .probe }
  | .probe =>
    if packed then { cs with phase := .search, skipLen := snap.skip, storedRun := 0 }
    else
      let len := min (2 * cs.skipLen) (8 * snap.skip)
      { cs with phase := .skip, skipLen := len, skipLeft := len }

/-- A saturating 32-bit count (R99). -/
def bump32 (n : Nat) : Nat := min (n + 1) max32

/-- The counters of R95: packed, searched-stored, unsearched. -/
def countRoute (cs : CodingState) (searched packed : Bool) : CodingState :=
  if packed then { cs with packedCount := bump32 cs.packedCount }
  else if searched then { cs with searchedStoredCount := bump32 cs.searchedStoredCount }
  else { cs with unsearchedCount := bump32 cs.unsearchedCount }

/-- The coding state after an encoding completes (R95, R100): in mode AUTO a chunk of 1 byte or more adapts it,
and every chunk is counted. -/
def codingAfter (cs : CodingState) (snap : Snapshot) (n : Nat) (packed : Bool) : CodingState :=
  let searched := searches snap.mode cs.phase n
  let cs' := if snap.mode = .auto ∧ 1 ≤ n then adapt cs snap packed else cs
  countRoute cs' searched packed

/-! ## Decoding (R103 to R105) -/

/-- Copy `length` bytes, each from `distance` before the next output place; `out` is newest first. -/
def copyBack : Nat → Nat → List Byte → List Byte
  | 0, _, out => out
  | n + 1, distance, out => copyBack n distance (out.getD (distance - 1) 0#8 :: out)

/-- What unpacking a payload gives: the bytes, or the fault found first (R104). -/
inductive Unpacked where
  | bytes (l : List Byte)
  | fault (c : CorruptCause)
  deriving DecidableEq, Repr

/-- Token by token (R104). `left` is how many tokens the group still has, `bits` the control byte's bits for
them, `out` the bytes produced, newest first. The first argument bounds the tokens. -/
def unpackTokens : Nat → Nat → Nat → Nat → List Byte → List Byte → Unpacked
  | 0, _, _, _, _, _ => .fault .short
  | fuel + 1, n, left, bits, payload, out =>
    if n ≤ out.length then
      (if payload = [] then .bytes out.reverse else .fault .trailing)
    else if left = 0 then
      match payload with
      | [] => .fault .short
      | c :: rest => unpackTokens fuel n 8 c.toNat rest out
    else if bits % 2 = 0 then
      match payload with
      | [] => .fault .short
      | b :: rest => unpackTokens fuel n (left - 1) (bits / 2) rest (b :: out)
    else
      match payload with
      | [] => .fault .short
      | [_] => .fault .short
      | hi :: lo :: rest =>
        let m := hi.toNat * 256 + lo.toNat
        let length := m / 2048 + 3
        let distance := m % 2048 + 1
        if out.length < distance then .fault .reach
        else if n < out.length + length then .fault .overrun
        else unpackTokens fuel n (left - 1) (bits / 2) rest (copyBack length distance out)

/-- Unpack a payload into `n` bytes (R104). Each round takes at least one payload byte but the last. -/
def unpack (n : Nat) (payload : List Byte) : Unpacked :=
  unpackTokens (payload.length + 1) n 0 0 payload []

/-- The decoding of a chunk frame (R103 to R105). -/
def decodeFrame (h : FrameHeader) (payload : List Byte) : DecodeResult :=
  let unpacked := if h.kind = 2 then Unpacked.bytes payload else unpack h.rawLength payload
  match unpacked with
  | .fault c => .corrupt c
  | .bytes l => if crc32c l = h.crc then .ok l else .mismatch

end Sys2Proof.Machine
end

