-- ==== Sys2Proof/Machine/Flags.lean ====
section
/-! DEFINITION. Codes and flags on the link: the status codes and reply flags (R185), the request codes (section
11.7), the enumerated fields (R191), and the byte layouts of a reply and of the replies and notices whose sizes the
manual states (R20, R158, R159, R169, R171, R190, R192, R195). -/

namespace Sys2Proof.Machine

/-! ## Status codes and flags (R185) -/

/-- The status byte. -/
def statusCode : Status → Nat
  | .ok => 0
  | .busy => 1
  | .full => 2
  | .notInMode => 3
  | .badArgument => 4
  | .unknownCode => 5
  | .noSuchJob => 6
  | .noSuchSession => 7
  | .noSuchCartridge => 8
  | .noSuchElement => 9
  | .wrongState => 10
  | .claimed => 11
  | .duplicate => 12
  | .overlap => 13
  | .beyondEnd => 14
  | .inUse => 15
  | .catalogFull => 16
  | .queueFull => 17
  | .tooLarge => 18
  | .powerWarning => 19

/-- The flags byte of a reply (R195). -/
def replyFlags (previousRejected noticesWaiting powerWarning : Bool) : Nat :=
  flagBit previousRejected 0 + flagBit noticesWaiting 1 + flagBit powerWarning 2

/-! ## Request codes (section 11.7) -/

/-- The codes that name a request. -/
def requestCodes : List Nat :=
  [0x01, 0x02, 0x03, 0x04, 0x05, 0x06, 0x07, 0x08, 0x09, 0x0A, 0x0B,
   0x20, 0x21, 0x22, 0x23, 0x24, 0x25, 0x26, 0x27, 0x28, 0x29,
   0x40, 0x41, 0x42, 0x43, 0x44, 0x50, 0x51, 0x52, 0x60, 0x61, 0x62, 0x63,
   0x70, 0x71, 0x72, 0x73, 0x74]

/-- The requests that SECURED refuses (R186): SET MODE, RESUME STREAM, SCAN, MOVE, IMPORT, EXPORT, UNLOAD DRIVE, OPEN
SESSION, START VERIFY, START RESTORE, START CLEAN. -/
def refusedSecured : List Nat := [0x03, 0x06, 0x20, 0x24, 0x25, 0x26, 0x29, 0x40, 0x50, 0x51, 0x63]

/-- Whether a request is accepted in a mode (R186). -/
def acceptedIn (m : Mode) (code : Nat) : Bool :=
  match m with
  | .online => true
  | .maintenance => true
  | .secured => !refusedSecured.contains code

/-! ## Enumerated fields (R191) -/

/-- Device mode. -/
def modeCode : Mode → Nat
  | .online => 1
  | .maintenance => 2
  | .secured => 3

/-- Job kind. -/
def jobKindCode : JobKind → Nat
  | .backup => 1
  | .verify => 2
  | .restore => 3
  | .clean => 4

/-- Job state. -/
def jobStateCode : Option JobState → Nat
  | none => 0
  | some .queued => 1
  | some .waiting => 2
  | some .mounting => 3
  | some .running => 4
  | some .spanning => 5
  | some .held => 6
  | some .done => 7
  | some .failed => 8
  | some .aborted => 9

/-- Wait reason. -/
def waitCode : Option WaitReason → Nat
  | none => 0
  | some .drive => 1
  | some .media => 2
  | some .catalog => 3
  | some .changer => 4

/-- Job result. -/
def resultCode : Option JobResult → Nat
  | none => 0
  | some .ok => 1
  | some .position => 2
  | some .wrongMedia => 3
  | some .transport => 4
  | some .timeout => 5
  | some .driveLost => 6
  | some .host => 7
  | some .reset => 8
  | some .truncated => 9
  | some .damaged => 10
  | some .incomplete => 11
  | some .catalogFull => 12
  | some .extentRemoved => 13

/-- Cartridge kind. -/
def kindCode : Option CartKind → Nat
  | none => 0
  | some .a => 1
  | some .b => 2
  | some .clean => 3

/-- Media state. -/
def mediaCode : Option MediaState → Nat
  | none => 0
  | some .new => 1
  | some .blank => 2
  | some .opened => 3
  | some .full => 4
  | some .suspect => 5
  | some .retired => 6
  | some .cleaning => 7
  | some .expired => 8
  | some .foreign => 9

/-- Cause of a media state change. -/
def causeCode : StateCause → Nat
  | .scanOrPassage => 1
  | .probe => 2
  | .blockWrite => 3
  | .spanOrFailure => 4
  | .verify => 5
  | .cleaningUse => 6
  | .hostEdit => 7

/-- Slot state. -/
def slotCode : SlotState → Nat
  | .empty => 1
  | .occupied => 2
  | .untracked => 3
  | .reserved => 4
  | .unknown => 5
  | .noMagazine => 6

/-- Changer state. -/
def changerCode : ChangerState → Nat
  | .unhomed => 1
  | .homing => 2
  | .idle => 3
  | .scanning => 4
  | .travel => 5
  | .grip => 6
  | .travelLoaded => 7
  | .place => 8
  | .held => 9
  | .retryWait => 10
  | .faultHold => 11
  | .locked => 12

/-- Changer step. -/
def stepCode : Step → Nat
  | .homing => 1
  | .travel => 2
  | .grip => 3
  | .travelLoaded => 4
  | .place => 5
  | .scanStep => 6
  | .spotCheck => 7

/-- Move origin. -/
def originCode : Origin → Nat
  | .job _ => 1
  | .requested => 2
  | .returned => 3
  | .recovery => 4

/-- Move result and changer reason. -/
def reasonCode : Reason → Nat
  | .ok => 0
  | .sourceEmpty => 1
  | .driveNotReady => 2
  | .labelMismatch => 3
  | .claimed => 4
  | .destFull => 5
  | .stall => 6
  | .gripMiss => 7
  | .placeBlocked => 8
  | .nowhereToPlace => 9
  | .pickerOccupied => 10
  | .lostInTransit => 11
  | .lockout => 12

/-- Port state. -/
def portCode : PortState → Nat
  | .absent => 1
  | .init => 2
  | .empty => 3
  | .holding => 4
  | .loading => 5
  | .ready => 6
  | .active => 7
  | .unloading => 8
  | .cleaning => 9
  | .faulted => 10

/-- Drive fault reason. -/
def driveReasonCode : Option DriveReason → Nat
  | none => 0
  | some .loadFail => 1
  | some .transport => 2
  | some .timeout => 3
  | some .endMarkFail => 4
  | some .initFail => 5
  | some .presenceLost => 6

/-- Operation result. -/
def opResultCode : Option OpResult → Nat
  | none => 0
  | some .ok => 1
  | some .blank => 2
  | some .endMark => 3
  | some .readError => 4
  | some .writeError => 5
  | some .loadFail => 6
  | some .endMarkFail => 7
  | some .transport => 8
  | some .timeout => 9
  | some .driveLost => 10

/-- Block buffer state. -/
def bufCode : BufState → Nat
  | .free => 0
  | .opened => 1
  | .closed => 2
  | .writing => 3
  | .reading => 4
  | .loaded => 5
  | .parsing => 6

/-- Session state. -/
def sessionCode : SessionState → Nat
  | .opened => 1
  | .closed => 2
  | .truncated => 3

/-- Session origin. -/
def sessionOriginCode : SessionOrigin → Nat
  | .written => 1
  | .loaded => 2
  | .rebuilt => 3

/-- Verify summary and extent verify state. -/
def verifyCode : VerifyState → Nat
  | .unverified => 1
  | .verified => 2
  | .damaged => 3
  | .partly => 4

/-- Coding mode. -/
def codingCode : Option CodingMode → Nat
  | none => 0
  | some .pack => 1
  | some .pass => 2
  | some .auto => 3

/-- Chunk damage cause. -/
def damageCode : DamageCause → Nat
  | .frameCorrupt => 1
  | .crcMismatch => 2
  | .gap => 3
  | .missingFinal => 4
  | .unreadable => 5
  | .noExtent => 6
  | .notFound => 7

/-- The value of an element (R42): a storage slot by its number, M 64, D0 65, D1 66. The manual gives the picker P none, though
R20 reports a location that can be P: 67, the next (DESIGN CHOICE, log entry 41). -/
def elementCode : Element → Nat
  | .slot n => n
  | .mail => 64
  | .drive .d0 => 65
  | .drive .d1 => 66
  | .picker => 67

/-- Kind of reset. -/
def resetKindCode (powerOn : Bool) : Nat := if powerOn then 1 else 2

/-- Mail-slot door. -/
def mailDoorCode (doorOpen : Bool) : Nat := if doorOpen then 1 else 2

/-- Door of a door event. -/
def doorCode (front : Bool) : Nat := if front then 1 else 2

/-- Event of a door. -/
def doorEventCode (opened : Bool) : Nat := if opened then 1 else 2

/-- Gate. -/
def gateCode (gateOpen : Bool) : Nat := if gateOpen then 1 else 2

/-- Power warning. -/
def powerCode (asserted : Bool) : Nat := if asserted then 1 else 2

/-- Settings save outcome. -/
def saveCode (ok : Bool) : Nat := if ok then 0 else 1

/-- A flag or a yes-or-no field. -/
def yesCode (b : Bool) : Nat := if b then 1 else 0

/-- A drive. -/
def driveCode (d : Drive) : Nat := elementCode (.drive d)

/-- A stream: 0 for S0 and 1 for S1. -/
def streamCode : Drive → Nat
  | .d0 => 0
  | .d1 => 1

/-- The kind of a notice (R189). -/
def noticeKind : Notice → Nat
  | .jobState .. => 1
  | .objectSecured .. => 2
  | .objectLost .. => 3
  | .mediaNeeded .. => 4
  | .cartridgeState .. => 5
  | .changerFault .. => 6
  | .driveFault .. => 7
  | .door .. => 8
  | .scanDone .. => 9
  | .verifyDone .. => 10
  | .verifyNotQueued .. => 11
  | .chunkDamaged .. => 12
  | .extentRemoved .. => 13
  | .cleaningNeeded .. => 14
  | .settingsSaved .. => 15
  | .powerWarning .. => 16
  | .linkSilent .. => 17
  | .resetDone .. => 18
  | .untracked .. => 19
  | .conflict .. => 20
  | .moveDone .. => 21

/-! ## Byte layouts (R192, R195) -/

/-- The part name of IDENTIFY: ROWPLEX TL-440, padded with spaces to 16 bytes (R192). -/
def partName : List Byte :=
  [0x52#8, 0x4F#8, 0x57#8, 0x50#8, 0x4C#8, 0x45#8, 0x58#8, 0x20#8,
   0x54#8, 0x4C#8, 0x2D#8, 0x34#8, 0x34#8, 0x30#8, 0x20#8, 0x20#8]

/-- A request's envelope on the link, from the marker to the CRC (R195). -/
def requestBytes (f : RequestFrame) : List Byte :=
  let covered := beBytes 2 (2 + f.payload.length) ++ [f.tag, f.code] ++ f.payload
  [0x7E#8, 0x51#8] ++ covered ++ beBytes 4 (crc32c covered).toNat

/-- A reply's envelope on the link around its payload (R195). -/
def replyBytes (r : Reply) (payload : List Byte) : List Byte :=
  let flags := replyFlags r.previousRejected r.noticesWaiting r.powerWarning
  let covered := beBytes 2 (4 + payload.length) ++
    [r.tag, r.code, BitVec.ofNat 8 (statusCode r.status), BitVec.ofNat 8 flags] ++ payload
  [0x7E#8, 0x52#8] ++ covered ++ beBytes 4 (crc32c covered).toNat

/-- The payload of a READ DATA reply (R195). -/
def dataBytes (d : DataReply) : List Byte :=
  beBytes 3 d.object ++ beBytes 8 d.offset ++ beBytes 2 d.data.length ++
    [BitVec.ofNat 8 (flagBit d.endOfObject 0 + flagBit d.damaged 1 + flagBit d.endOfJob 2)] ++ d.data

/-- The payload of an IDENTIFY reply (R192). -/
def identityBytes (revision : Nat) : List Byte :=
  partName ++ beBytes 1 revision ++ [40#8, 1#8, 2#8] ++ beBytes 2 4096

/-! ## Byte layouts of the replies and notices whose sizes the manual states (log entry 7) -/

/-- An index, 255 where the field does not apply (R20). -/
def indexBytes (i : Option Nat) : List Byte := beBytes 1 (i.getD 255)

/-- A label, eight zero bytes where the field does not apply (R20). -/
def labelBytes (l : Option Label) : List Byte := l.getD (List.replicate 8 0#8)

/-- A cartridge record's index and label (R20). -/
def cartRefBytes (r : Option CartRef) : List Byte :=
  indexBytes (r.bind CartRef.index) ++ labelBytes (r.bind CartRef.label)

/-- One slot of a SLOT INFO reply, its fields in the order R20 lists them. -/
def slotBytes (r : SlotReport) : List Byte :=
  beBytes 1 (elementCode r.element) ++ beBytes 1 (slotCode r.state) ++ cartRefBytes r.holder ++
    cartRefBytes r.reservedFor ++ (r.mailDoorOpen.map fun o => beBytes 1 (mailDoorCode o)).getD []

/-- The value that stands for unknown in `remainingBlocks` and `estimatedRawRoom` (R20). -/
def unknownRoom : Nat := 18446744073709551615

/-- The six capacity fields of a CARTRIDGE INFO reply as numbers, in the order of R20. -/
def capacityValues (r : CapacityReport) : List Nat :=
  [r.capacity, r.reserve, r.threshold, r.remainingBlocks.getD unknownRoom, r.ratio,
   r.estimatedRawRoom.getD unknownRoom]

/-- One extent summary of SESSION INFO (R158). -/
def extentSummaryBytes (e : ExtentSummary) : List Byte :=
  beBytes 2 e.sequence ++ labelBytes (some e.label) ++ beBytes 4 e.firstBlock ++ beBytes 4 e.blockCount ++
    beBytes 1 (verifyCode e.verifyState)

/-- SESSION INFO's reply for one session: the fields of R147 in their order with the number of extents in the list's
place, the summaries, and the final byte (R158). That the id takes 2 bytes, as in the request, and the pool 1 byte is
DEDUCED (log entry 7). -/
def sessionBytes (r : SessionRec) (pinCount extents : Nat) (l : List ExtentSummary) (more : Bool) : List Byte :=
  beBytes 2 r.id ++ r.hostTag ++ beBytes 1 (sessionCode r.state) ++ beBytes 1 (sessionOriginCode r.origin) ++
    beBytes 1 r.pool ++ beBytes 1 (codingCode r.codingMode) ++ beBytes 3 r.objectsBegun ++ beBytes 8 r.chunkCount ++
    beBytes 8 r.rawBytes ++ beBytes 8 r.codedBytes ++ beBytes 1 (verifyCode r.verifySummary) ++ beBytes 1 pinCount ++
    beBytes 2 extents ++ l.flatMap extentSummaryBytes ++ beBytes 1 (yesCode more)

/-- One session of SESSION INFO's reply for all sessions, with the sizes of the reply for one (R158, log entry 7). -/
def sessionSummaryBytes (s : SessionSummary) : List Byte :=
  beBytes 2 s.id ++ beBytes 1 (sessionCode s.state) ++ beBytes 1 (sessionOriginCode s.origin) ++
    beBytes 1 (verifyCode s.verifySummary) ++ beBytes 3 s.objectsBegun ++ beBytes 1 s.pinCount ++ beBytes 2 s.extents

/-- One pool of CATALOG INFO's reply (R159). -/
def poolBytes (p : PoolReport) : List Byte :=
  beBytes 1 p.opened ++ beBytes 1 p.blank ++ beBytes 1 p.new ++ beBytes 8 p.rawRoom

/-- CATALOG INFO's reply (R159). -/
def catalogBytes (sessionsUsed sessionsFree extentsUsed extentsFree : Nat) (byState byOrigin : List Nat) (pinned : Nat)
    (pools : List PoolReport) : List Byte :=
  beBytes 1 sessionsUsed ++ beBytes 1 sessionsFree ++ beBytes 2 extentsUsed ++ beBytes 2 extentsFree ++
    byState.flatMap (beBytes 1) ++ byOrigin.flatMap (beBytes 1) ++ beBytes 1 pinned ++ pools.flatMap poolBytes

/-- The job totals of VERIFY DONE (R169). -/
def totalsBytes (t : Tally) (stray : Nat) : List Byte :=
  [t.framesChecked, t.damaged, t.unreadable, t.missingBlocks, t.headerBad, t.markerFaults, stray].flatMap (beBytes 4)

/-- The fields of a notice as R190 sends them, for the notices whose every field has a size in the manual: VERIFY DONE
(R169), CONFLICT (R171), and those of one-byte fields alone (R191). -/
def noticeFields : Notice → Option (List Byte)
  | .jobState .. => none
  | .objectSecured .. => none
  | .objectLost .. => none
  | .mediaNeeded .. => none
  | .cartridgeState index label was now cause =>
    some (beBytes 1 index ++ labelBytes label ++ beBytes 1 (mediaCode was) ++ beBytes 1 (mediaCode now) ++
      beBytes 1 (causeCode cause))
  | .changerFault .. => none
  | .driveFault .. => none
  | .door front opened => some (beBytes 1 (doorCode front) ++ beBytes 1 (doorEventCode opened))
  | .scanDone .. => none
  | .verifyDone job label session rebuild result verified damaged notEnded totals stray rebuilt conflicts =>
    some (beBytes 1 job ++ labelBytes (some label) ++ beBytes 2 session ++ beBytes 1 (yesCode rebuild) ++
      beBytes 1 (resultCode (some result)) ++ beBytes 2 verified ++ beBytes 2 damaged ++ beBytes 2 notEnded ++
      totalsBytes totals stray ++ beBytes 2 rebuilt ++ beBytes 2 conflicts)
  | .verifyNotQueued session label => some (beBytes 2 session ++ labelBytes (some label))
  | .chunkDamaged .. => none
  | .extentRemoved .. => none
  | .cleaningNeeded drive => some (beBytes 1 (driveCode drive))
  | .settingsSaved ok => some (beBytes 1 (saveCode ok))
  | .powerWarning asserted => some (beBytes 1 (powerCode asserted))
  | .linkSilent _ => none
  | .resetDone powerOn mode => some (beBytes 1 (resetKindCode powerOn) ++ beBytes 1 (modeCode mode))
  | .untracked .. => none
  | .conflict session sequence label firstBlock blockCount answer =>
    some (beBytes 2 session ++ beBytes 2 sequence ++ labelBytes (some label) ++ beBytes 4 firstBlock ++
      beBytes 4 blockCount ++ beBytes 1 (statusCode answer))
  | .moveDone .. => none

/-- One record of a FETCH NOTICES reply around the bytes of its fields (R190). -/
def noticeBytes (r : NoticeRec) (fields : List Byte) : List Byte :=
  beBytes 2 r.seq ++ beBytes 1 (noticeKind r.notice) ++ beBytes 1 fields.length ++ fields

/-- FETCH NOTICES' reply, given the bytes of each record's fields (R190). -/
def noticesBytes (lost : Bool) (l : List (NoticeRec × List Byte)) : List Byte :=
  beBytes 1 l.length ++ beBytes 1 (yesCode lost) ++ l.flatMap fun p => noticeBytes p.1 p.2

/-- Each record with the bytes of its fields, where the manual gives every one of them. -/
def withFields : List NoticeRec → Option (List (NoticeRec × List Byte))
  | [] => some []
  | r :: rest => (noticeFields r.notice).bind fun f => (withFields rest).map fun t => (r, f) :: t

/-- The payload of a reply, where the manual states every size in it (log entry 7). -/
def payloadBytes : ReplyBody → Option (List Byte)
  | .empty => some []
  | .identity _ revision .. => some (identityBytes revision)
  | .status _ => none
  | .notices lost records => (withFields records).map (noticesBytes lost)
  | .setting _ => none
  | .settingCopies .. => none
  | .entryId _ => none
  | .slots l => some (l.flatMap slotBytes)
  | .cartridge .. => none
  | .mediaState m => some (beBytes 1 (mediaCode (some m)))
  | .jobId _ => none
  | .objectNumber _ => none
  | .objectEnded .. => none
  | .restoreStarted .. => none
  | .data d => some (dataBytes d)
  | .job .. => none
  | .jobs _ => none
  | .jobState s => some (beBytes 1 (jobStateCode (some s)))
  | .session r pinCount extents l more => some (sessionBytes r pinCount extents l more)
  | .sessions l => some (l.flatMap sessionSummaryBytes)
  | .extent _ => none
  | .extentsFreed _ => none
  | .catalog sessionsUsed sessionsFree extentsUsed extentsFree byState byOrigin pinned pools =>
    some (catalogBytes sessionsUsed sessionsFree extentsUsed extentsFree byState byOrigin pinned pools)

end Sys2Proof.Machine
end

