-- ==== Sys2Proof/Machine/Cartridges.lean ====
section
/-! DEFINITION. The Cartridge Table (chapter 1): homes, absence, rehoming, allocation, scan results, passage reads,
and what the changer and the drive ports report to it. -/

namespace Sys2Proof.Machine

/-- What a scan step found at a slot (section 1.6). `cartridge none` is an unreadable one. -/
inductive SlotFinding where
  | empty
  | noMagazine
  | cartridge (label : Option Label)
  deriving DecidableEq, Repr

/-- What a passage read did (R16). -/
inductive Passage where
  | applied
  | merged (into : Nat)
  | mismatch
  deriving DecidableEq, Repr

namespace W

/-! ## Slots that stop being held -/

/-- An empty slot record of a state. -/
def bareSlot (s : SlotState) : SlotRec := { state := s, holder := none, reservedFor := none }

/-- A slot becomes EMPTY; a storage slot becoming EMPTY is an event of rehoming (R9). -/
def emptySlot (w : W) (e : Element) : W :=
  match e with
  | .slot n => (w.putSlot (.slot n) (bareSlot .empty)).wantRehome
  | .mail => w.putSlot .mail (bareSlot .empty)
  | .drive _ => w
  | .picker => w

/-- A slot that has lost its cartridge becomes EMPTY, or stays RESERVED for the record it is reserved for: no other rule
takes that home away (R5, R9; DEDUCED, log entry 11). -/
def vacateSlot (w : W) (e : Element) : W :=
  match (w.slotAt e).reservedFor with
  | some v => w.putSlot e { state := .reserved, holder := none, reservedFor := some v }
  | none => w.emptySlot e

/-- A record that becomes absent gives up its home: a slot RESERVED for it becomes EMPTY, and an UNKNOWN slot that
retains the reservation forgets it (R10). -/
def releaseHome (w : W) (i : Nat) : W :=
  match (w.cart i).bind CartRec.home with
  | none => w
  | some h =>
    let r := w.slotAt (.slot h)
    if r.reservedFor = some i then
      (if r.state = .reserved then w.emptySlot (.slot h)
       else w.putSlot (.slot h) { r with reservedFor := none })
    else w

/-- A record that is placed elsewhere gives up its home: the slot held for it becomes EMPTY, an UNKNOWN one too (R8). -/
def leaveHome (w : W) (i : Nat) : W :=
  match (w.cart i).bind CartRec.home with
  | none => w
  | some h => if (w.slotAt (.slot h)).reservedFor = some i then w.emptySlot (.slot h) else w

/-- The record's `home` (R3). -/
def homeOf (w : W) (i : Nat) : Option Nat := (w.cart i).bind CartRec.home

/-- The record's `location` (R3). -/
def locationOf (w : W) (i : Nat) : Option Element := (w.cart i).bind CartRec.location

/-- The record's `state` (R3). -/
def mediaOf (w : W) (i : Nat) : Option MediaState := (w.cart i).map CartRec.state

/-- The record's `kind` (R4). -/
def kindOf (w : W) (i : Nat) : Option CartKind := (w.cart i).bind CartRec.kind

/-- The record's `claim` (R3). -/
def claimOf (w : W) (i : Nat) : Option Nat := (w.cart i).bind CartRec.claim

/-- The record's label (R3). -/
def labelOf (w : W) (i : Nat) : Option Label := (w.cart i).bind CartRec.label

/-- A record becomes absent (R10): it loses its location, its home and its claim, and the job that claimed it is
told through the scheduler. `homeMagazine` is kept with the rest (log entry 10). -/
def becomeAbsent (w : W) (i : Nat) : W :=
  match w.cart i with
  | none => w
  | some c =>
    if c.location = none then w
    else
      let w1 := (w.releaseHome i).modCart i fun r => { r with location := none, home := none, claim := none }
      let w2 := match c.claim with
        | some n => w1.emit (.cartGone n i)
        | none => w1
      w2.wantDispatch

/-- A record loses its home and becomes homeless, keeping the magazine of its last home (R9). -/
def makeHomeless (w : W) (i : Nat) : W :=
  (w.modCart i fun r => { r with home := none }).wantRehome

/-! ## Rehoming (R9) -/

/-- The lowest EMPTY slot of a magazine. -/
def lowestEmptyIn (w : W) (m : Magazine) : Option Nat :=
  (slotsOf m).find? fun n => (w.slotAt (.slot n)).state = .empty

/-- The lowest EMPTY storage slot (R17, R25). -/
def lowestEmpty (w : W) : Option Nat :=
  (w.lowestEmptyIn .left).or (w.lowestEmptyIn .right)

/-- The slot rehoming chooses: in `homeMagazine`, or the other magazine; magazine L alone when `homeMagazine` is
absent. -/
def newHome (w : W) (m : Option Magazine) : Option Nat :=
  match m with
  | some g => (w.lowestEmptyIn g).or (w.lowestEmptyIn (otherMagazine g))
  | none => w.lowestEmptyIn .left

/-- Whether a record is homeless: in a drive or the picker without a home (R5, R9). -/
def isHomeless (w : W) (i : Nat) : Bool :=
  match w.cart i with
  | some c =>
    c.home.isNone &&
      (match c.location with
       | some (.drive _) => true
       | some .picker => true
       | some (.slot _) => false
       | some .mail => false
       | none => false)
  | none => false

/-- Give one homeless cartridge a home, if a slot can be had. -/
def rehomeOne (w : W) (i : Nat) : W :=
  if w.isHomeless i then
    match w.newHome ((w.cart i).bind CartRec.homeMagazine) with
    | some n =>
      (((w.putSlot (.slot n) { state := .reserved, holder := none, reservedFor := some i }).modCart i
        fun r => { r with home := some n, homeMagazine := some (magazineOf n) }).emit
        (.homeGained i)).wantDispatch
    | none => w
  else w

/-- Rehoming: the homeless cartridges in increasing record index (R9). -/
def rehome (w : W) : W := cartIndices.foldl rehomeOne w

/-! ## Allocation (R3, R11) -/

/-- A record with the start values of R3. -/
def startRecord (label : Option Label) (kind : Option CartKind) (state : MediaState)
    (location : Element) (home : Option Nat) (lastSeen : Nat) (duplicate : Bool) : CartRec :=
  { label := label, kind := kind, state := state, location := some location, home := home,
    homeMagazine := home.map magazineOf, pool := 0, claim := none,
    blocksUsed := if isDataKind kind then .unknown else .absent,
    rawBytes := 0, codedBytes := 0, extentCount := 0, loadCount := 0,
    usesLeft := if kind = some .clean then some 50 else none,
    writeProtect := .unknown, lastSeen := lastSeen, duplicateLabel := duplicate, noEndMark := false }

/-- The state of a new record of a kind (R13, step 3). -/
def newState : Option CartKind → MediaState
  | some .a => .new
  | some .b => .new
  | some .clean => .cleaning
  | none => .foreign

/-- The absent record without extents that was seen longest ago, the lowest index among equals (R11). -/
def reclaimable (w : W) : Option Nat :=
  cartIndices.foldl (fun best i =>
    match w.cart i with
    | some c =>
      if c.location = none ∧ c.extentCount = 0 then
        match best with
        | some (b, seen) => if c.lastSeen < seen then some (i, c.lastSeen) else some (b, seen)
        | none => some (i, c.lastSeen)
      else best
    | none => best) (none : Option (Nat × Nat)) |>.map Prod.fst

/-- The record a new cartridge gets: the lowest free one, or one reclaimed (R11). -/
def allocate (w : W) : Option Nat :=
  (cartIndices.find? fun i => (w.cart i).isNone).or w.reclaimable

/-! ## Scans (R12 to R14) -/

/-- Change the counts of the scan in progress. -/
def modTally (w : W) (f : ScanTally → ScanTally) : W :=
  { w with ct := { w.ct with scan := w.ct.scan.map f } }

/-- The changer reports the start of a scan (R12). -/
def scanStarted (w : W) (range : List Element) : W :=
  { w with ct := { w.ct with
      scanNumber := min (w.ct.scanNumber + 1) max32,
      scan := some { range := range, reported := [], found := 0, created := 0, revived := 0, absent := 0,
                     duplicates := 0, untracked := 0 } } }

/-- The changer reports a scan complete: rehoming runs, then SCAN DONE is queued (R12). -/
def scanCompleted (w : W) : W :=
  match w.ct.scan with
  | none => w
  | some t =>
    let w1 := { w with ct := { w.ct with scan := none }, rehomeDue := false }
    w1.rehome.note
      (.scanDone t.range t.reported.length t.found t.created t.revived t.absent t.duplicates t.untracked)

/-- A record found absent by a scan, counted. -/
def scanAbsent (w : W) (i : Nat) : W :=
  (w.becomeAbsent i).modTally fun t => { t with absent := t.absent + 1 }

/-- The home of a cartridge placed at an element: the slot itself, none in M (R8, R13). -/
def homeAt : Element → Option Nat
  | .slot n => some n
  | .mail => none
  | .drive _ => none
  | .picker => none

/-- Step 4 of R13: the identified record is placed at the slot. -/
def scanPlace (w : W) (e : Element) (i : Nat) : W :=
  let seen := w.ct.scanNumber
  ((w.modCart i fun r =>
    { r with location := some e, home := homeAt e,
             homeMagazine := match homeAt e with
               | some n => some (magazineOf n)
               | none => r.homeMagazine,
             lastSeen := seen }).putSlot e
    { state := .occupied, holder := some i, reservedFor := none }).wantDispatch

/-- A new record for the cartridge found, or OCCUPIED-UNTRACKED (R11; R13, steps 3 and 4). -/
def scanCreate (w : W) (e : Element) (label : Option Label) (state : MediaState) (duplicate : Bool) : W :=
  match w.allocate with
  | some i =>
    let kind := label.bind kindOfLabel
    let w1 := w.putCart i (some (startRecord label kind state e (homeAt e) w.ct.scanNumber duplicate))
    let w2 := w1.note (.cartridgeState i label none (some state) .scanOrPassage)
    let w3 := w2.modTally fun t =>
      { t with created := t.created + 1, duplicates := t.duplicates + (if duplicate then 1 else 0) }
    w3.scanPlace e i
  | none =>
    ((w.putSlot e (bareSlot .untracked)).note (.untracked e label)).modTally fun t =>
      { t with untracked := t.untracked + 1 }

/-- Whether a record is located at a slot that is UNKNOWN and that this scan has not reported (R13, step 3). -/
def movedByHand (w : W) (i : Nat) : Option Element :=
  let open? (e : Element) : Option Element :=
    if (w.slotAt e).state = .unknown ∧
        (match w.ct.scan with
         | some t => t.reported.contains e
         | none => false) = false
    then some e else none
  match w.locationOf i with
  | some (.slot n) => open? (.slot n)
  | some .mail => open? .mail
  | some (.drive _) => none
  | some .picker => none
  | none => none

/-- Steps 3 and 4 of R13. A label that only records with DUPLICATE-LABEL bear gets a new record without that flag, as a
label that no record bears: R13 compares the label with the other records only (DESIGN CHOICE, log entry 41). -/
def scanIdentify (w : W) (e : Element) (found : Option Label) : W :=
  match found with
  | none => w.scanCreate e none .foreign false
  | some l =>
    match w.cartByLabel l with
    | none => w.scanCreate e (some l) (newState (kindOfLabel l)) false
    | some y =>
      if w.locationOf y = none then
        (w.scanPlace e y).modTally fun t => { t with revived := t.revived + 1 }
      else
        match w.movedByHand y with
        | some old =>
          (w.putSlot old { w.slotAt old with holder := none }).scanPlace e y
        | none => w.scanCreate e (some l) .foreign true

/-- A result of a cartridge at a slot (R13). -/
def scanCartridge (w : W) (e : Element) (found : Option Label) : W :=
  let w := w.modTally fun t => { t with found := t.found + 1 }
  let slot := w.slotAt e
  let here := slot.holder.filter fun r => w.locationOf r = some e
  match here with
  | some r =>
    if w.labelOf r = found then
      let seen := w.ct.scanNumber
      (w.putSlot e { state := .occupied, holder := some r, reservedFor := none }).modCart r
        fun c => { c with lastSeen := seen }
    else (w.scanAbsent r).scanIdentify e found
  | none =>
    match slot.reservedFor with
    | some v => ((w.makeHomeless v).putSlot e { slot with reservedFor := none }).scanIdentify e found
    | none => w.scanIdentify e found

/-- A result of empty at a slot (R14). -/
def scanEmpty (w : W) (e : Element) : W :=
  let slot := w.slotAt e
  let w1 := match slot.holder with
    | some r => if w.locationOf r = some e then w.scanAbsent r else w
    | none => w
  match slot.reservedFor with
  | some v =>
    if (w1.locationOf v).isSome then
      w1.putSlot e { state := .reserved, holder := none, reservedFor := some v }
    else w1.emptySlot e
  | none => w1.emptySlot e

/-- The magazine-removal event for one slot (R2, R14): the holder becomes absent, the reserving record homeless.
The flag says whether a scan counts it. -/
def slotRemoved (w : W) (counted : Bool) (n : Nat) : W :=
  let slot := w.slotAt (.slot n)
  let w1 := match slot.holder with
    | some r => if w.locationOf r = some (Element.slot n) then
        (if counted then w.scanAbsent r else w.becomeAbsent r) else w
    | none => w
  let w2 := match slot.reservedFor with
    | some v => w1.makeHomeless v
    | none => w1
  w2.putSlot (.slot n) (bareSlot .noMagazine)

/-- The result of one slot, applied and counted (R13, R14). -/
def scanResult (w : W) (e : Element) (f : SlotFinding) : W :=
  let w1 := match f with
    | .empty => w.scanEmpty e
    | .noMagazine =>
      match e with
      | .slot n => w.slotRemoved true n
      | .mail => w
      | .drive _ => w
      | .picker => w
    | .cartridge l => w.scanCartridge e l
  w1.modTally fun t => { t with reported := t.reported ++ [e] }

/-! ## Events of the sensors (R2) -/

/-- The front door opened: every slot becomes UNKNOWN but one in NO-MAGAZINE. A slot of an absent magazine that a report of
the changer left EMPTY or OCCUPIED becomes UNKNOWN with the others (DESIGN CHOICE, log entry 41). -/
def frontOpened (w : W) : W :=
  { w with ct := { w.ct with
      slots := w.ct.slots.map fun r => if r.state = .noMagazine then r else { r with state := .unknown } } }

/-- Magazine presence goes low. -/
def magazineGone (w : W) (m : Magazine) : W := (slotsOf m).foldl (slotRemoved · false ·) w

/-- Magazine presence goes high: its slots become UNKNOWN with nothing in them (R2). What a report of the changer put into
one while the magazine was out goes as at a removal (DEDUCED, log entry 11). -/
def magazineBack (w : W) (m : Magazine) : W :=
  (slotsOf m).foldl (fun (v : W) n => (v.slotRemoved false n).putSlot (Element.slot n) (bareSlot .unknown)) w

/-- The mail-slot door opened. -/
def mailOpened (w : W) : W :=
  { w with ct := { w.ct with mailDoorOpen := true, mail := { w.ct.mail with state := .unknown } } }

/-- The mail-slot door closed. -/
def mailClosed (w : W) : W := { w with ct := { w.ct with mailDoorOpen := false } }

/-! ## Reports of the changer (R8, R15, R16, R32) -/

/-- Extract complete of a recorded cartridge (R8). -/
def extracted (w : W) (i : Nat) (source : Element) : W :=
  let w1 := (w.modCart i fun r => { r with location := some .picker }).wantDispatch
  match source with
  | .slot n => w1.putSlot (.slot n) { state := .reserved, holder := none, reservedFor := some i }
  | .mail => (w1.emptySlot .mail).wantRehome
  | .drive _ => w1
  | .picker => w1

/-- Extract complete of an untracked cartridge: the slot becomes EMPTY (R15). -/
def extractedUntracked (w : W) (source : Element) : W := w.vacateSlot source

/-- A slot receives a cartridge, of a record or untracked, while the table has another there: the record located at it
becomes absent, and the one it is held for homeless (R5; DEDUCED, log entry 11). -/
def makeRoom (w : W) (i : Option Nat) (e : Element) : W :=
  let slot := w.slotAt e
  let w1 := match slot.holder with
    | some j => if some j ≠ i ∧ w.locationOf j = some e then w.becomeAbsent j else w
    | none => w
  match slot.reservedFor with
  | some v => if some v = i then w1 else w1.makeHomeless v
  | none => w1

/-- Place complete of a recorded cartridge (R8). -/
def placed (w : W) (i : Nat) (dest : Element) : W :=
  match dest with
  | .slot n =>
    let w1 := w.makeRoom (some i) (.slot n)
    let w2 := if w1.homeOf i = some n then w1 else w1.leaveHome i
    ((w2.putSlot (.slot n) { state := .occupied, holder := some i, reservedFor := none }).modCart i
      fun r => { r with location := some (.slot n), home := some n,
                        homeMagazine := some (magazineOf n) }).wantDispatch
  | .mail =>
    ((((w.makeRoom (some i) .mail).leaveHome i).putSlot .mail
      { state := .occupied, holder := some i, reservedFor := none }).modCart i
      fun r => { r with location := some .mail, home := none }).wantDispatch
  | .drive d =>
    let w1 := (w.modCart i fun r => { r with location := some (.drive d) }).wantDispatch
    if (w1.homeOf i).isNone then w1.wantRehome else w1
  | .picker => w

/-- Place complete of an untracked cartridge: the slot becomes OCCUPIED-UNTRACKED (R15). -/
def placedUntracked (w : W) (dest : Element) : W :=
  match dest with
  | .slot n => (w.makeRoom none (.slot n)).putSlot (.slot n) (bareSlot .untracked)
  | .mail => (w.makeRoom none .mail).putSlot .mail (bareSlot .untracked)
  | .drive _ => w
  | .picker => w

/-- The source of a GRIP-MISS taken by REPORT is empty (R32). -/
def sourceFoundEmpty (w : W) (e : Element) : W :=
  let w1 := match (w.slotAt e).holder with
    | some r => if w.locationOf r = some e then w.becomeAbsent r else w
    | none => w
  w1.vacateSlot e

/-- A record without a label takes one (R16): its kind, and the fields of R3 that follow from the kind. -/
def takeLabel (w : W) (i : Nat) (l : Label) (duplicate : Bool) : W :=
  let kind := kindOfLabel l
  w.modCart i fun r =>
    { r with label := some l, kind := kind, duplicateLabel := duplicate,
             blocksUsed := if isDataKind kind then .unknown else .absent,
             usesLeft := if kind = some .clean then some 50 else none }

/-- A record without a label is merged into the absent record that bears the label read (R16). -/
def mergeInto (w : W) (i y : Nat) : W :=
  match w.cart i with
  | none => w
  | some r =>
    let swap (s : SlotRec) : SlotRec :=
      if s.reservedFor = some i then { s with reservedFor := some y } else s
    let w1 := w.modCart y fun c =>
      { c with location := some .picker, home := r.home, homeMagazine := r.homeMagazine }
    let w2 := (w1.putCart i none).note (.cartridgeState i r.label (some r.state) none .scanOrPassage)
    { w2 with
        ct := { w2.ct with slots := w2.ct.slots.map swap },
        js := { w2.js with returning := w2.js.returning.map fun n => if n = i then y else n },
        dispatchDue := true }

/-- Whether a present record other than `i` bears a label. -/
def presentBears (w : W) (i : Nat) (l : Label) : Bool :=
  cartIndices.any fun k =>
    decide (k ≠ i) && decide (w.labelOf k = some l) && (w.locationOf k).isSome

/-- The passage read of the record carried (R16). -/
def passageRead (w : W) (i : Nat) (read : Option Label) : W × Passage :=
  match read with
  | none => (w, .applied)
  | some l =>
    match w.labelOf i with
    | some own => (w, if own = l then .applied else .mismatch)
    | none =>
      match (w.cartByLabel l).filter fun y => w.locationOf y = none with
      | some y => (w.mergeInto i y, .merged y)
      | none =>
        if w.presentBears i l then (w.takeLabel i l true, .applied)
        else
          let w1 := (w.takeLabel i l false).modCart i fun r =>
            { r with rawBytes := 0, codedBytes := 0, extentCount := 0, loadCount := 0 }
          (w1.setMedia i (newState (kindOfLabel l)) .scanOrPassage, .applied)

/-! ## Reports of the drive ports (R16, R52, R62) -/

/-- A port reports the cartridge in its drive: the match, a new record, or none to be had (R16). -/
def driveReports (w : W) (d : Drive) : W × Contents :=
  match w.cartAt (.drive d) with
  | some i => (w, .cart i)
  | none =>
    match w.allocate with
    | some i =>
      let w1 := w.putCart i
        (some (startRecord none none .foreign (.drive d) none w.ct.scanNumber false))
      let w2 := w1.note (.cartridgeState i none none (some .foreign) .scanOrPassage)
      (w2.wantRehome.wantDispatch, .cart i)
    | none => (w.note (.untracked (.drive d) none), .untracked)

/-- The load report (R52). -/
def loadReport (w : W) (i : Nat) (protect : Bool) : W :=
  (w.modCart i fun r =>
    { r with writeProtect := if protect then .yes else .no,
             loadCount := min (r.loadCount + 1) max32 }).wantDispatch

/-! ## Law R5 -/

/-- Whether a record is present (R5). -/
def isPresent (w : W) (i : Nat) : Bool := (w.locationOf i).isSome

/-- A cartridge claim taken or released (R7, R73). -/
def putCartClaim (w : W) (i : Nat) (c : Option Nat) : W := w.modCart i fun r => { r with claim := c }

end W
end Sys2Proof.Machine
end

