-- ==== Sys2Proof/Machine/Ports.lean ====
section
/-! DEFINITION. The drive ports (chapter 3): what an operation's acceptance, completion, time-out or loss does to
the port's own fields, presence and self-test, and the changer's reports. What a result means for the job that
asked for it is in the files of the jobs; here it leaves as a signal. -/

namespace Sys2Proof.Machine

/-- An operation's timer, seconds (R50). -/
def opTimer : PortOp → Nat
  | .load => 180
  | .locate _ => 600
  | .locateEnd => 600
  | .readBlock _ => 60
  | .probeRead _ => 60
  | .writeBlock _ => 60
  | .writeEndMark => 60
  | .unload => 120
  | .clean => 300

/-- The state a port is in while an operation is in flight (R50). -/
def flightState : PortOp → PortState
  | .load => .loading
  | .locate _ => .active
  | .locateEnd => .active
  | .readBlock _ => .active
  | .probeRead _ => .active
  | .writeBlock _ => .active
  | .writeEndMark => .active
  | .unload => .unloading
  | .clean => .cleaning

/-- The states in which an operation is in flight (R46). -/
def PortState.inFlight : PortState → Bool
  | .loading => true
  | .active => true
  | .unloading => true
  | .cleaning => true
  | .absent => false
  | .init => false
  | .empty => false
  | .holding => false
  | .ready => false
  | .faulted => false

/-- ABSENT, INIT and FAULTED, whose entry and exit dispatch sees (R47). -/
def PortState.isDown : PortState → Bool
  | .absent => true
  | .init => true
  | .faulted => true
  | .loading => false
  | .active => false
  | .unloading => false
  | .cleaning => false
  | .empty => false
  | .holding => false
  | .ready => false

/-- The refusals of R50. -/
inductive PortRefusal where
  | busy
  | notReady
  | noPosition
  | wrongMedia
  | protected_
  | pastThreshold
  | badArgument
  deriving DecidableEq, Repr

/-- Whether an outcome is a failure that ends a drive's use: LOAD-FAIL, TRANSPORT, TIMEOUT, END-MARK-FAIL or
DRIVE-LOST (R82). -/
def OpOutcome.letsGo : OpOutcome → Bool
  | .loadFail => true
  | .transport => true
  | .timeout => true
  | .endMarkFail => true
  | .driveLost => true
  | .ok => false
  | .okCount _ => false
  | .okProtected _ => false
  | .okBlock _ => false
  | .blank _ => false
  | .endMark => false
  | .readError => false
  | .writeError => false

/-- `lastResult` of an outcome (R51, R191). -/
def OpOutcome.result : OpOutcome → OpResult
  | .ok => .ok
  | .okCount _ => .ok
  | .okProtected _ => .ok
  | .okBlock _ => .ok
  | .blank _ => .blank
  | .endMark => .endMark
  | .readError => .readError
  | .writeError => .writeError
  | .loadFail => .loadFail
  | .endMarkFail => .endMarkFail
  | .transport => .transport
  | .timeout => .timeout
  | .driveLost => .driveLost

namespace W

/-! ## State changes (R46, R47, R65) -/

/-- The port takes a state; dispatch sees the changes R47 lists, and leaving READY stops the idle-return timer
(R65). -/
def enterPort (w : W) (d : Drive) (s : PortState) : W :=
  let old := (w.port d).state
  let w1 := w.modPort d fun p => { p with state := s }
  let w2 := if old = .ready ∧ s ≠ .ready then w1.stopIdle d else w1
  if old ≠ s ∧ (old.inFlight || old.isDown || s.isDown) then w2.wantDispatch else w2

/-- The DRIVE FAULT notice of a port that now has its new state; `was` and `position` are those before the
change (R47). -/
def faultNotice (w : W) (d : Drive) (was : PortState) (position : Option Nat) (reason : Option DriveReason) : Notice :=
  .driveFault d was (w.port d).state reason (w.contentsRef (w.port d).cartridge) position

/-- The port enters FAULTED with a reason latched, and the notice it is to queue of that (R47, R60). A reset sequence it was
in is over; where a place report ends it, the port makes no report to the Cartridge Table (R69; DESIGN CHOICE, log entry
18). -/
def portFaults (w : W) (d : Drive) (reason : DriveReason) : W × Notice :=
  let p := w.port d
  let w1 := (w.modPort d fun q =>
    { q with faultReason := some reason, position := none, pending := none, resetting := false }).enterPort d .faulted
  (w1, w1.faultNotice d p.state p.position (some reason))

/-- A port that has gone down reports it: DRIVE FAULT, then to the scheduler (R47). A result handed out before is taken
first (R51). -/
def reportDown (w : W) (d : Drive) (n : Notice) : W := (w.emit (.notice n)).emit (.portDown d)

/-- The cartridge record in a port's drive. -/
def portCart (w : W) (d : Drive) : Option Nat :=
  match (w.port d).cartridge with
  | .cart i => some i
  | .none => none
  | .untracked => none

/-- The kind of the cartridge in a port's drive. -/
def portKind (w : W) (d : Drive) : Option CartKind := (w.portCart d).bind w.kindOf

/-! ## Operations (R50) -/

/-- The conditions shared by Read Block, Write Block and Write End Mark. -/
def dataRefusal (w : W) (d : Drive) : Option PortRefusal :=
  let p := w.port d
  if p.recovered then some .notReady
  else if p.position.isNone then some .noPosition
  else if isDataKind (w.portKind d) = false then some .wrongMedia
  else none

/-- The conditions of a write beyond those: `writeProtect` no, and the position at most a bound. -/
def writeRefusal (w : W) (d : Drive) (bound : Nat) : Option PortRefusal :=
  match w.dataRefusal d with
  | some r => some r
  | none =>
    if ((w.portCart d).bind w.cart).map CartRec.writeProtect ≠ some .no then some .protected_
    else if (w.port d).position.getD 0 ≤ bound then none
    else some .pastThreshold

/-- The refusal of an operation in a port in READY, if it is refused (R50). -/
def readyRefusal (w : W) (d : Drive) (op : PortOp) : Option PortRefusal :=
  let kind := w.portKind d
  match op with
  | .load => some .notReady
  | .locate b =>
    if (w.port d).recovered then some .notReady
    else if capacityOf kind < b then some .badArgument
    else none
  | .locateEnd => if (w.port d).recovered then some .notReady else none
  | .readBlock _ => w.dataRefusal d
  | .probeRead _ => w.dataRefusal d
  | .writeBlock _ => w.writeRefusal d (thresholdOf kind)
  | .writeEndMark => w.writeRefusal d (thresholdOf kind + 1)
  | .unload => none
  | .clean =>
    if (w.port d).recovered then some .notReady
    else if kind = some .clean then none
    else some .wrongMedia

/-- The refusal of an operation, if the port refuses it (R50). -/
def opRefusal (w : W) (d : Drive) (op : PortOp) : Option PortRefusal :=
  let p := w.port d
  if p.state.inFlight then some .busy
  else match p.state with
    | .ready => w.readyRefusal d op
    | .holding =>
      match op with
      | .load => if p.cartridge = .untracked then some .notReady else none
      | .unload => none
      | .locate _ => some .notReady
      | .locateEnd => some .notReady
      | .readBlock _ => some .notReady
      | .probeRead _ => some .notReady
      | .writeBlock _ => some .notReady
      | .writeEndMark => some .notReady
      | .clean => some .notReady
    | .empty => some .notReady
    | .absent => some .notReady
    | .init => some .notReady
    | .faulted => some .notReady
    | .loading => some .busy
    | .active => some .busy
    | .unloading => some .busy
    | .cleaning => some .busy

/-- Request an operation. Accepted, it is in flight with its timer started; an Unload in HOLDING completes at
once with OK. The answer says whether it was accepted. A refusal changes nothing (R50). -/
def requestOp (w : W) (d : Drive) (op : PortOp) (req : Requester) : W × Bool :=
  match w.opRefusal d op with
  | some _ => (w, false)
  | none =>
    if (w.port d).state = .holding ∧ op = .unload then
      ((w.modPort d fun p => { p with lastResult := some .ok }).emit (.opDone d req op .ok), true)
    else
      let position := match op with
        | .unload => none
        | _ => (w.port d).position
      ((w.modPort d fun p =>
        { p with pending := some { op := op, requester := req, timer := opTimer op },
                 position := position }).enterPort d (flightState op), true)

/-- Request an operation and forget whether it was accepted. -/
def askOp (w : W) (d : Drive) (op : PortOp) (req : Requester) : W := (w.requestOp d op req).1

/-! ## What ends an operation (R51 to R61) -/

/-- A completion's clean request sets `cleanRequest`; when the flag was clear CLEANING NEEDED is queued and the
scheduler is told (R64). -/
def takeCleanRequest (w : W) (d : Drive) (asked : Bool) : W :=
  if asked ∧ (w.port d).cleanRequest = false then
    ((w.modPort d fun p => { p with cleanRequest := true }).note (.cleaningNeeded d)).emit (.cleanAsked d)
  else w

/-- A port whose operation at a controller reset has ended leaves its reset sequence (R69): a port left READY has
its position UNKNOWN, the cartridge is reported to the Cartridge Table, and the idle-return timer may start. -/
def leaveReset (w : W) (d : Drive) : W :=
  let w1 := w.modPort d fun p => { p with resetting := false }
  let p := w1.port d
  let w2 := if p.state = .ready then w1.modPort d fun q => { q with position := none } else w1
  let reports := match p.state with
    | .empty => true
    | .holding => true
    | .ready => true
    | .faulted => true
    | .absent => false
    | .init => false
    | .loading => false
    | .active => false
    | .unloading => false
    | .cleaning => false
  let w3 := if reports = true ∧ p.cartridge ≠ .none then
      (let r := w2.driveReports d
       r.1.modPort d fun q => { q with cartridge := r.2 })
    else w2
  w3.emit (.idleCheck d)

/-- The part every end of an operation shares: `lastResult` and the port's other fields, the result to the requester, then the
report of the state change (R51). `after` is the port's new state and position, `fault` a reason to be FAULTED instead. At a
port in its reset sequence no requester waits, and the notice precedes what leaving that sequence brings (R69). -/
def endOp (w : W) (d : Drive) (outcome : OpOutcome) (after : PortState × Option Nat) (fault : Option DriveReason)
    (asked : Bool) : W :=
  match (w.port d).pending with
  | none => w
  | some pend =>
    let w1 := w.modPort d fun p => { p with lastResult := some outcome.result }
    let result := Signal.opDone d pend.requester pend.op outcome
    let reset := (w.port d).resetting
    let w2 := match fault with
      | some reason =>
        let r := w1.portFaults d reason
        if reset then (((r.1.note r.2).leaveReset d).emit result).emit (.portDown d) else (r.1.emit result).reportDown d r.2
      | none =>
        let v := (w1.modPort d fun p => { p with pending := none, position := after.2 }).enterPort d after.1
        (if reset then v.leaveReset d else v).emit result
    (w2.takeCleanRequest d asked).emit (.idleCheck d)

/-- A completion with result TRANSPORT (R51). -/
def endTransport (w : W) (d : Drive) (asked : Bool) : W :=
  w.endOp d .transport (.faulted, none) (some .transport) asked

/-- The operation in flight at a port. -/
def pendingOp (w : W) (d : Drive) : Option PortOp := (w.port d).pending.map PendingOp.op

/-- A Load completes (R52). The Cartridge Table applies the load report before the requester has the result. -/
def loadEnds (w : W) (d : Drive) (r : LoadReport) (asked : Bool) : W :=
  if w.pendingOp d ≠ some .load then w
  else match r with
    | .ok protect =>
      let w1 := match w.portCart d with
        | some i => w.loadReport i protect
        | none => w
      w1.endOp d (.okProtected protect) (.ready, none) none asked
    | .loadFail => w.endOp d .loadFail (.faulted, none) (some .loadFail) asked
    | .transport => w.endTransport d asked

/-- A Locate completes (R53). -/
def locateEnds (w : W) (d : Drive) (r : LocateReport) (asked : Bool) : W :=
  match w.pendingOp d with
  | some (.locate b) =>
    (match r with
     | .ok => w.endOp d .ok (.ready, some b) none asked
     | .blank c => w.endOp d (.blank c) (.ready, some c) none asked
     | .readError => w.endOp d .readError (.ready, none) none asked
     | .transport => w.endTransport d asked)
  | _ => w

/-- A Locate End completes (R53). BLANK hands the requester a count of 0. -/
def locateEndEnds (w : W) (d : Drive) (r : LocateEndReport) (asked : Bool) : W :=
  if w.pendingOp d ≠ some .locateEnd then w
  else match r with
    | .ok c => w.endOp d (.okCount c) (.ready, some c) none asked
    | .blank => w.endOp d (.blank 0) (.ready, some 0) none asked
    | .readError => w.endOp d .readError (.ready, none) none asked
    | .transport => w.endTransport d asked

/-- Whether a Read Block is in flight. -/
def readInFlight (w : W) (d : Drive) : Bool :=
  match w.pendingOp d with
  | some (.readBlock _) => true
  | some (.probeRead _) => true
  | _ => false

/-- A Read Block completes (R54). -/
def readEnds (w : W) (d : Drive) (r : ReadReport) (asked : Bool) : W :=
  if w.readInFlight d = false then w
  else
    let p := (w.port d).position
    match r with
    | .ok block => w.endOp d (.okBlock block) (.ready, p.map (· + 1)) none asked
    | .endMark => w.endOp d .endMark (.ready, p) none asked
    | .blank => w.endOp d (.blank 0) (.ready, p) none asked
    | .readError => w.endOp d .readError (.ready, none) none asked
    | .transport => w.endTransport d asked

/-- A Write Block completes (R55). -/
def writeEnds (w : W) (d : Drive) (r : WriteReport) (asked : Bool) : W :=
  match w.pendingOp d with
  | some (.writeBlock _) =>
    (match r with
     | .ok => w.endOp d .ok (.ready, (w.port d).position.map (· + 1)) none asked
     | .writeError => w.endOp d .writeError (.ready, none) none asked
     | .transport => w.endTransport d asked)
  | _ => w

/-- A Write End Mark completes (R56). -/
def endMarkEnds (w : W) (d : Drive) (r : EndMarkReport) (asked : Bool) : W :=
  if w.pendingOp d ≠ some .writeEndMark then w
  else match r with
    | .ok => w.endOp d .ok (.ready, (w.port d).position) none asked
    | .endMarkFail => w.endOp d .endMarkFail (.faulted, none) (some .endMarkFail) asked
    | .transport => w.endTransport d asked

/-- An Unload completes (R57). -/
def unloadEnds (w : W) (d : Drive) (r : PlainReport) (asked : Bool) : W :=
  if w.pendingOp d ≠ some .unload then w
  else match r with
    | .ok => (w.modPort d fun p => { p with recovered := false }).endOp d .ok (.holding, none) none asked
    | .transport => w.endTransport d asked

/-- A Clean completes (R58): OK clears `cleanRequest`, and a request carried on it is taken after that. -/
def cleanEnds (w : W) (d : Drive) (r : PlainReport) (asked : Bool) : W :=
  if w.pendingOp d ≠ some .clean then w
  else match r with
    | .ok => (w.modPort d fun p => { p with cleanRequest := false }).endOp d .ok (.ready, none) none asked
    | .transport => w.endTransport d asked

/-- An operation's timer expires first (R59). -/
def opTimesOut (w : W) (d : Drive) : W := w.endOp d .timeout (.faulted, none) (some .timeout) false

/-! ## Presence and self-test (R61, R62) -/

/-- The presence line falls (R61). -/
def presenceFalls (w : W) (d : Drive) : W :=
  let p := w.port d
  let w1 := w.modPort d fun q =>
    { q with mediaSensed := none, position := none, recovered := false, pending := none, selfTest := none,
             resetting := false,
             lastResult := if p.pending.isSome then some .driveLost else q.lastResult }
  let w2 := w1.enterPort d .absent
  let w3 := match p.pending with
    | some pend => w2.emit (.opDone d pend.requester pend.op .driveLost)
    | none => w2
  w3.reportDown d (w2.faultNotice d p.state p.position (some .presenceLost))

/-- INIT is entered: self-test command sent, its timer of 180 seconds started (R62). -/
def enterInit (w : W) (d : Drive) (fromAbsent : Bool) : W :=
  (w.modPort d fun p =>
    { p with position := none, selfTest := some 180, wasAbsent := fromAbsent || p.wasAbsent }).enterPort d .init

/-- A self-test fails or its time runs out (R62). -/
def selfTestFails (w : W) (d : Drive) : W :=
  let p := w.port d
  let w1 := w.modPort d fun q => { q with selfTest := none, faultReason := some .initFail }
  w1.reportDown d (w1.faultNotice d p.state p.position (some .initFail))

/-- The cartridge found at self-test is reported and matched (R16, R62). -/
def reportFound (w : W) (d : Drive) : W :=
  let r := w.driveReports d
  r.1.modPort d fun p => { p with cartridge := r.2 }

/-- A self-test passes (R62). -/
def selfTestPasses (w : W) (d : Drive) (holds : MediaSense) : W :=
  let p := w.port d
  let w1 := w.modPort d fun q =>
    { q with selfTest := none, faultReason := none, wasAbsent := false, mediaSensed := some holds,
             position := none, recovered := decide (holds = .threaded) }
  let w2 := match holds with
    | .nothing =>
      (let w' := match p.cartridge with
         | .cart i => w1.becomeAbsent i
         | .none => w1
         | .untracked => w1
       (w'.modPort d fun q => { q with cartridge := .none }).enterPort d .empty)
    | .inserted => (w1.reportFound d).enterPort d .holding
    | .threaded => (w1.reportFound d).enterPort d .ready
  let w3 := if p.faultReason.isSome || p.wasAbsent then w2.note (w2.faultNotice d .init none none) else w2
  w3.emit (if holds = .threaded then .recovered d else .idleCheck d)

/-! ## Reports of the changer (R48) -/

/-- A record the port named before a place report is no longer where it says (R48); it is returning no more. -/
def displaceFrom (w : W) (d : Drive) (c : Contents) : W :=
  match (w.port d).cartridge with
  | .cart i => if c = .cart i then w else (w.becomeAbsent i).unmarkReturning i
  | .none => w
  | .untracked => w

/-- An operation in flight ends with a place report, and its requester receives TRANSPORT (R46: the port in FAULTED has
nothing pending; log entry 18). -/
def endByPlace (w : W) (d : Drive) : W :=
  match (w.port d).pending with
  | some pend => w.emit (.opDone d pend.requester pend.op .transport)
  | none => w

/-- A place report into a drive that is not EMPTY puts the port in FAULTED with reason TRANSPORT (R48). A port that is in
FAULTED already takes the reason TRANSPORT too, where R60 keeps the one latched (DESIGN CHOICE, log entry 43). -/
def placedIntoOccupied (w : W) (d : Drive) : W :=
  let r := w.portFaults d .transport
  r.1.reportDown d r.2

/-- Place complete for the port's drive (R48). -/
def portPlaced (w : W) (d : Drive) (c : Contents) : W :=
  let w1 := (w.endByPlace d).displaceFrom d c
  let w2 := w1.modPort d fun p => { p with cartridge := c }
  match (w.port d).state with
  | .empty => (w2.modPort d fun p => { p with position := none }).enterPort d .holding
  | .absent => w2
  | .init => w2
  | .holding => w2.placedIntoOccupied d
  | .loading => w2.placedIntoOccupied d
  | .ready => w2.placedIntoOccupied d
  | .active => w2.placedIntoOccupied d
  | .unloading => w2.placedIntoOccupied d
  | .cleaning => w2.placedIntoOccupied d
  | .faulted => w2.placedIntoOccupied d

/-- Extract complete for the port's drive (R48). In a state that R48 does not name for it the port's `cartridge` is cleared
and its state stays (DESIGN CHOICE, log entry 43). -/
def portExtracted (w : W) (d : Drive) : W :=
  let w1 := w.modPort d fun p => { p with cartridge := .none }
  if (w.port d).state = .holding then w1.enterPort d .empty else w1

/-- The port's answer to a spot check (R48). -/
def portSensesCartridge (w : W) (d : Drive) : Bool :=
  match (w.port d).mediaSensed with
  | some .nothing => false
  | some .inserted => true
  | some .threaded => true
  | none => true

end W
end Sys2Proof.Machine
end

