-- ==== Sys2Proof/Machine/Changer.lean ====
section
/-! DEFINITION. The Changer Controller (chapter 2): the queue, validation, the steps of moves and scans, faults
and their reactions, put-away, the front door's close sequence with its settlement, reset and recovery. -/

namespace Sys2Proof.Machine

namespace W

/-! ## The changer record -/

/-- Change the changer record. -/
def modCC (w : W) (f : Changer → Changer) : W := { w with cc := f w.cc }

/-- The changer takes a state; dispatch sees the change (R22, R75). -/
def ccEnter (w : W) (s : ChangerState) : W :=
  if w.cc.state = s then w else (w.modCC fun c => { c with state := s }).wantDispatch

/-- The state in which a step is carried out (R22). -/
def stateOfStep : Step → ChangerState
  | .homing => .homing
  | .travel => .travel
  | .grip => .grip
  | .travelLoaded => .travelLoaded
  | .place => .place
  | .scanStep => .scanning
  | .spotCheck => .travel

/-- A step begins: its state, its timer of 20 seconds (R27, R29). -/
def beginStep (w : W) (s : Step) : W :=
  (w.modCC fun c => { c with step := some s, stepTimer := some 20, retryTimer := none }).ccEnter (stateOfStep s)

/-- Whether a step is in progress: its timer runs (R29). -/
def stepRuns (w : W) (s : Step) : Bool := decide (w.cc.step = some s) && w.cc.stepTimer.isSome

/-- The step in progress has ended. -/
def endStep (w : W) : W := w.modCC fun c => { c with step := none, stepTimer := none, retryTimer := none }

/-- The move in execution. -/
def currentMove (w : W) : Option Move :=
  match w.cc.current with
  | some (.move m) => some m
  | some (.scan _) => none
  | none => none

/-- The scan in execution as an entry. -/
def currentScan (w : W) : Option Scan :=
  match w.cc.current with
  | some (.scan s) => some s
  | some (.move _) => none
  | none => none

/-- Write the move in execution. -/
def putMove (w : W) (m : Move) : W := w.modCC fun c => { c with current := some (.move m) }

/-! ## The queue (R23, R24) -/

/-- An id from `nextId`; 65,535 is followed by 1 (R23). -/
def takeEntryId (w : W) : W × Nat :=
  (w.modCC fun c => { c with nextId := if c.nextId = 65535 then 1 else c.nextId + 1 }, w.cc.nextId)

/-- The waiting moves that take one of the 8 places: all but RECOVERY moves (R24). -/
def placesTaken (w : W) : Nat := (w.cc.queue.filter fun m => m.origin ≠ .recovery).length

/-- Whether the queue has no place left for a move (R24). -/
def queueFull (w : W) : Bool := decide (8 ≤ w.placesTaken)

/-- A new move record. -/
def newMove (id : Nat) (origin : Origin) (source : Element) (asked : Dest) (expected : Option Label)
    (ticket : Nat) (cart : Option Nat) : Move :=
  { id := id, origin := origin, source := source, asked := asked, dest := none, expectedLabel := expected,
    attempts := 0, faulted := false, putAway := none, tried := [], ticket := ticket, cart := cart }

/-- A move is added at the tail; none is the answer when 8 wait (R24). -/
def queueMove (w : W) (origin : Origin) (source : Element) (asked : Dest) (expected : Option Label)
    (ticket : Nat) (cart : Option Nat) : W × Option Nat :=
  if w.queueFull then (w, none)
  else
    let r := w.takeEntryId
    (r.1.modCC fun c =>
      { c with queue := c.queue ++ [newMove r.2 origin source asked expected ticket cart] }, some r.2)

/-- A RECOVERY move is placed at the head of the moves (R24, R45). -/
def queueRecovery (w : W) : W :=
  let r := w.takeEntryId
  r.1.modCC fun c => { c with queue := newMove r.2 .recovery .picker .recoveryChain none 0 none :: c.queue }

/-- A scan request: merged into the waiting scan entry, or a new entry at the head (R24). The answer is the id. -/
def queueScan (w : W) (range : List Element) : W × Nat :=
  match w.cc.scanEntry with
  | some s =>
    (w.modCC fun c => { c with scanEntry := some { s with range := inScanOrder (s.range ++ range) } }, s.id)
  | none =>
    let r := w.takeEntryId
    (r.1.modCC fun c =>
      { c with scanEntry := some { id := r.2, range := inScanOrder range, remaining := [], attempts := 0,
                                   resumeSlot := none, faulted := false } }, r.2)

/-! ## Notices and the end of an entry (R28, R34) -/

/-- The id of the entry in execution. -/
def currentId (w : W) : Option Nat :=
  match w.cc.current with
  | some (.move m) => some m.id
  | some (.scan s) => some s.id
  | none => none

/-- The origin of the move in execution. -/
def currentOrigin (w : W) : Option Origin := w.currentMove.map Move.origin

/-- A CHANGER FAULT notice (R31, R32, R34, R37). It carries the id and origin of the entry in execution, also where the step
that failed belongs to a close sequence around it (DESIGN CHOICE, log entry 12). -/
def changerFaultNotice (w : W) (reason : Reason) (step : Option Step) (element : Option Element) (attempts : Nat)
    (exhausted : Bool) (cart : Option CartRef) : W :=
  w.note (.changerFault w.currentId w.currentOrigin reason step element attempts exhausted w.cc.state cart
    w.cc.faultRun)

/-- `faultRun` at the end of an entry (R34). An entry that met a fault adds 1 however it then ends, also where its end is one
that the third item of R34 names (DESIGN CHOICE, log entry 42). -/
def countRun (w : W) (faulted completed : Bool) : W :=
  w.modCC fun c =>
    { c with faultRun := if faulted then min (c.faultRun + 1) 15 else if completed then 0 else c.faultRun }

/-- IDLE or LOCKED after an entry's end (R28, item 4; R34). -/
def goToRest (w : W) : W :=
  let w1 := w.endStep.modCC fun c => { c with held := none, holdReason := none, current := none }
  if w1.setting 16 ≤ w1.cc.faultRun then
    (w1.ccEnter .locked).changerFaultNotice .lockout none none 0 false none
  else w1.ccEnter .idle

/-- Whether the end of a move of an origin queues MOVE DONE (R28, item 3). -/
def Origin.notifies : Origin → Bool
  | .requested => true
  | .recovery => true
  | .returned => false
  | .job _ => false

/-- Items 1 to 3 of R28 for a move, and `current` becomes none. -/
def reportMoveEnd (w : W) (m : Move) (r : Reason) (c : Contents) (ended : Option Element) : W :=
  let w1 := w.countRun (m.faulted || decide (r = .lostInTransit)) (decide (r = .ok))
  let w2 := (w1.emit (.moveEnded m.origin m.ticket r m.cart)).wantDispatch
  let w3 := if Origin.notifies m.origin then
      w2.note (.moveDone m.id m.origin m.source m.dest ended (w2.contentsRef c) r) else w2
  w3.modCC fun cc => { cc with current := none }

/-- A move ends outside a close sequence. -/
def endMove (w : W) (m : Move) (r : Reason) (c : Contents) (ended : Option Element) : W :=
  (w.reportMoveEnd m r c ended).goToRest

/-! ## Validation (R25, R26) -/

/-- What an element is known to hold. -/
def contentsAt (w : W) : Element → Contents
  | .slot n =>
    (match (w.slotAt (.slot n)).holder with
     | some i => if w.locationOf i = some (Element.slot n) then .cart i else .none
     | none => if (w.slotAt (.slot n)).state = .untracked then .untracked else .none)
  | .mail =>
    (match (w.slotAt .mail).holder with
     | some i => if w.locationOf i = some Element.mail then .cart i else .none
     | none => if (w.slotAt .mail).state = .untracked then .untracked else .none)
  | .drive d => (w.port d).cartridge
  | .picker => w.cc.picker

/-- The record of what an element holds. -/
def recordAt (w : W) (e : Element) : Option Nat :=
  match w.contentsAt e with
  | .cart i => some i
  | .none => none
  | .untracked => none

/-- Whether the slot is EMPTY or the RESERVED home of the cartridge. -/
def slotAccepts (w : W) (e : Element) (i : Option Nat) : Bool :=
  let r := w.slotAt e
  decide (r.state = .empty) || (decide (r.state = .reserved) && i.isSome && decide (r.reservedFor = i))

/-- The destination checks of R26 for the cartridge of a record (none: UNTRACKED). -/
def destRefused (w : W) (source : Element) (dest : Option Element) (i : Option Nat) : Option Reason :=
  match dest with
  | none => some .destFull
  | some (.slot n) => if w.slotAccepts (.slot n) i && decide (source ≠ .slot n) then none else some .destFull
  | some .mail => if w.slotAccepts .mail i && decide (source ≠ .mail) then none else some .destFull
  | some (.drive d) =>
    if (w.port d).state = .empty then (if source = .drive d then some .destFull else none)
    else if (w.port d).state.isDown then some .driveNotReady
    else some .destFull
  | some .picker => some .destFull

/-- The source checks of R26. -/
def sourceRefused (w : W) (m : Move) : Option Reason :=
  if m.source ≠ .picker ∧ w.cc.picker ≠ .none then some .pickerOccupied
  else
    let ofSlot (e : Element) : Option Reason :=
      let s := (w.slotAt e).state
      if s = .occupied ∨ (s = .untracked ∧ m.dest = some .mail) then none else some .sourceEmpty
    match m.source with
    | .picker => if w.cc.picker = .none then some .sourceEmpty else none
    | .slot n => ofSlot (.slot n)
    | .mail => ofSlot .mail
    | .drive d =>
      (match (w.port d).state with
       | .holding => none
       | .empty => some .sourceEmpty
       | .absent => some .driveNotReady
       | .init => some .driveNotReady
       | .loading => some .driveNotReady
       | .ready => some .driveNotReady
       | .active => some .driveNotReady
       | .unloading => some .driveNotReady
       | .cleaning => some .driveNotReady
       | .faulted => some .driveNotReady)

/-- The claim check of R26: RETURN and RECOVERY moves are not checked. -/
def claimRefused (w : W) (m : Move) (i : Option Nat) : Bool :=
  let claim := i.bind w.claimOf
  match m.origin with
  | .returned => false
  | .recovery => false
  | .requested => claim.isSome
  | .job n => claim.isSome && decide (claim ≠ some n)

/-- Validation of a move whose destination has been resolved: the first check that fails (R26). -/
def validate (w : W) (m : Move) : Option Reason :=
  match w.sourceRefused m with
  | some r => some r
  | none =>
    let i := w.recordAt m.source
    if m.expectedLabel.isSome ∧ i.bind w.labelOf ≠ m.expectedLabel then some .labelMismatch
    else if w.claimRefused m i then some .claimed
    else w.destRefused m.source m.dest i

/-- The candidates of a RECOVERY move in order (R45). -/
def recoveryChain (w : W) : Option Element :=
  let mail := if (w.slotAt .mail).state = .empty ∧ w.ct.mailDoorOpen = false then some Element.mail else none
  match w.cc.picker, w.cc.pickedFrom with
  | .cart i, some src =>
    let back : Option Element := match src with
      | .slot n => if w.slotAccepts (.slot n) (some i) then some (.slot n) else none
      | .drive d => if (w.port d).state = .empty then some (.drive d) else none
      | .mail => none
      | .picker => none
    let home : Option Element := match w.homeOf i with
      | some h =>
        if (w.slotAt (.slot h)).state = .reserved ∧ (w.slotAt (.slot h)).reservedFor = some i
        then some (.slot h) else none
      | none => none
    (back.or home).or mail
  | .cart _, none => mail
  | .untracked, _ => mail
  | .none, _ => none

/-- The element a move's destination resolves to at its start (R25, R45). -/
def resolveDest (w : W) (m : Move) : Option Element :=
  match m.asked with
  | .element e => some e
  | .lowestFree => w.lowestEmpty.map .slot
  | .home => ((w.recordAt m.source).bind w.homeOf).map .slot
  | .recoveryChain => w.recoveryChain

/-! ## Holds and put-away (R31, R33) -/

/-- The element a step of the entry in execution concerns. -/
def stepElement (w : W) (s : Step) : Option Element :=
  match s with
  | .homing => none
  | .travel => w.currentMove.map Move.source
  | .grip => w.currentMove.map Move.source
  | .travelLoaded => w.currentMove.bind Move.dest
  | .place => w.currentMove.bind Move.dest
  | .spotCheck => (w.currentMove.bind Move.dest).or (w.cc.interrupted.bind Interrupted.dest)
  | .scanStep =>
    match (w.cc.closeScan.or w.currentScan) with
    | some s => s.remaining.head?
    | none => none

/-- The attempts of the scan in progress: the close scan's, or the entry's. -/
def scanAttempts (w : W) : Nat :=
  match w.cc.closeScan, w.currentScan with
  | some c, _ => c.attempts
  | none, some e => e.attempts
  | none, none => 0

/-- The entry a homing belongs to (R30, R35): the move held, or the scan held, that it is cleared for. A homing of a close
sequence, a reset sequence or from LOCKED belongs to none (log entry 12). -/
inductive HomingOwner where
  | none
  | move (m : Move)
  | scan
  deriving DecidableEq, Repr

/-- See `HomingOwner`. -/
def homingOwner (w : W) : HomingOwner :=
  match w.cc.homingFor with
  | .settleHeld => if w.cc.closing then .none else
      (match w.currentMove with
       | some m => .move m
       | none => .none)
  | .continueScan => .scan
  | .toIdle => .none
  | .powerOn => .none
  | .reset => .none
  | .pickerRecheck => .none

/-- The attempts that count for a step: the entry's, the close scan's, or those of a homing outside any entry (R30; log
entry 12). -/
def stepAttempts (w : W) (s : Step) : Nat :=
  match s with
  | .homing =>
    (match w.homingOwner with
     | .move m => m.attempts
     | .scan => w.scanAttempts
     | .none => w.cc.homingAttempts)
  | .scanStep => w.scanAttempts
  | .spotCheck => (w.currentMove.map Move.attempts).getD w.cc.homingAttempts
  | .travel => (w.currentMove.map Move.attempts).getD 0
  | .grip => (w.currentMove.map Move.attempts).getD 0
  | .travelLoaded => (w.currentMove.map Move.attempts).getD 0
  | .place => (w.currentMove.map Move.attempts).getD 0

/-- The context a hold keeps: the failed step, or the one already kept when a homing or a spot check of a sequence
fails; a close sequence keeps what it holds (R31, R36). -/
def heldForHold (w : W) (reason : Reason) (s : Option Step) : Option Held :=
  if w.cc.closing then w.cc.held
  else
    match w.cc.held with
    | some h =>
      if s = some .homing ∨ s = some .spotCheck then
        some { h with ret := .faultHold, reason := some reason, seq := w.cc.homingFor }
      else some { step := s, ret := .faultHold, reason := some reason, seq := w.cc.homingFor }
    | none => some { step := s, ret := .faultHold, reason := some reason, seq := w.cc.homingFor }

/-- FAULT-HOLD with a reason; CHANGER FAULT is queued (R31). -/
def holdFault (w : W) (reason : Reason) (s : Option Step) (exhausted : Bool) : W :=
  let w1 := w.modCC fun c =>
    { c with stepTimer := none, retryTimer := none, step := s, holdReason := some reason,
             held := w.heldForHold reason s }
  (w1.ccEnter .faultHold).changerFaultNotice reason s (s.bind w.stepElement)
    ((s.map w.stepAttempts).getD 0) exhausted (w1.contentsRef w1.cc.picker)

/-- The candidates of a put-away in order: the home, if RESERVED for the cartridge; M, if EMPTY with its door
closed (R33). -/
def putAwayCandidates (w : W) : List Element :=
  let home : List Element := match w.cc.picker with
    | .cart i =>
      (match w.homeOf i with
       | some h =>
         if (w.slotAt (.slot h)).state = .reserved ∧ (w.slotAt (.slot h)).reservedFor = some i
         then [Element.slot h] else []
       | none => [])
    | .none => []
    | .untracked => []
  home ++ (if (w.slotAt .mail).state = .empty ∧ w.ct.mailDoorOpen = false then [Element.mail] else [])

/-- The put-away goes on at TRAVEL-LOADED to the first candidate not tried, or holds NOWHERE-TO-PLACE with no present
candidate (R33). The move then has no destination, so CHANGER FAULT, and a MOVE DONE that ends it from there, name none
(DESIGN CHOICE, log entry 48). -/
def choosePutAway (w : W) (m : Move) : W :=
  match w.putAwayCandidates.find? fun e => !m.tried.contains e with
  | some e => (w.putMove { m with dest := some e, tried := m.tried ++ [e] }).beginStep .travelLoaded
  | none => (w.putMove { m with dest := none }).holdFault .nowhereToPlace (some .travelLoaded) false

/-! ## Steps of a move (R27) -/

/-- The label readings taken by the LABEL-UNREAD reaction: RETRY reads once more (R27, R29, R40). -/
def labelBy (w : W) (reads : LabelReads) : Option Label :=
  match readLabel reads.first with
  | some l => some l
  | none => if w.setting 13 = 1 then readLabel reads.second else none

/-- What the picker takes at extract completion: what the source is known to hold; a cartridge found where none is
known is UNTRACKED (R22; log entry 13). -/
def gripped (w : W) (source : Element) : Contents :=
  match w.contentsAt source with
  | .cart i => .cart i
  | .untracked => .untracked
  | .none => .untracked

/-- Whether an element is a slot whose magazine is out. -/
def noMagazineAt (w : W) (e : Element) : Bool := decide ((w.slotAt e).state = .noMagazine)

/-- The picker takes new contents. A record that the last contents named and these do not is no longer where it says, and
becomes absent: no rule leads there, and law R5 holds whatever the picker held (DEDUCED, log entry 13). -/
def fillPicker (w : W) (c : Contents) (source : Option Element) : W :=
  let w1 := w.modCC fun cc => { cc with picker := c, pickedFrom := source }
  match w.cc.picker with
  | .cart j => if c = .cart j then w1 else w1.becomeAbsent j
  | .none => w1
  | .untracked => w1

/-- Extract completion at a source with a passage read: the Cartridge Table and a drive's port are told, and the
picker holds the cartridge (R8, R15, R16, R27). A slot that an untracked cartridge leaves becomes EMPTY, but stays NO-MAGAZINE
where its magazine has been drawn out during the GRIP (R2; DESIGN CHOICE, log entry 28). -/
def extractAt (w : W) (source : Element) (read : Option Label) : W × Passage :=
  let c := w.gripped source
  let r : W × Passage := match c with
    | .cart i => (w.extracted i source).passageRead i read
    | .untracked => (if w.noMagazineAt source then w else w.extractedUntracked source, .applied)
    | .none => (w, .applied)
  let inPicker : Contents := match r.2 with
    | .merged y => .cart y
    | .applied => c
    | .mismatch => c
  let w1 := r.1.fillPicker inPicker (some source)
  (match source with
   | .drive d => w1.portExtracted d
   | .slot _ => w1
   | .mail => w1
   | .picker => w1, r.2)

/-- The move as it goes on after its extract: a merge renames the cartridge its requester asked for. -/
def afterPassage (m : Move) (p : Passage) : Move :=
  match p with
  | .merged y => { m with cart := m.cart.map fun _ => y }
  | .applied => m
  | .mismatch => m

/-- Extract completion of the move in execution (R27). After a mismatch the put-away is chosen at once; a cartridge that came
from M is rehomed after it (R9, R33; DESIGN CHOICE, log entry 22). -/
def extractDone (w : W) (m : Move) (read : Option Label) : W :=
  let r := w.extractAt m.source read
  match r.2 with
  | .mismatch => r.1.choosePutAway { m with putAway := some .labelMismatch }
  | .applied => (r.1.putMove m).beginStep .travelLoaded
  | .merged y => (r.1.putMove (afterPassage m (.merged y))).beginStep .travelLoaded

/-- Place completion at an element: the picker is EMPTY, the Cartridge Table and a drive's port are told (R8, R15,
R27). An untracked cartridge placed in M brings a scan of M, whatever move carried it (R24, R45; log entry 17). -/
def placeAt (w : W) (dest : Element) : W :=
  let c := w.cc.picker
  let w1 := w.modCC fun cc => { cc with picker := .none, pickedFrom := none }
  let w2 := match c with
    | .cart i => w1.placed i dest
    | .untracked =>
      (if dest = .mail then ((w1.placedUntracked dest).queueScan [.mail]).1 else w1.placedUntracked dest)
    | .none => w1
  match dest with
  | .drive d => w2.portPlaced d c
  | .slot _ => w2
  | .mail => w2
  | .picker => w2

/-- Place completion of a move: OK, or the `putAway` reason (R27). -/
def placeDone (w : W) (m : Move) : W :=
  let c := w.cc.picker
  match m.dest with
  | none => w
  | some dest =>
    (w.placeAt dest).reportMoveEnd m (m.putAway.getD .ok) c (some dest)

/-- A carried cartridge is declared lost: its record becomes absent, the picker EMPTY, and CHANGER FAULT is queued
(R37). The element named is the one it was picked from; the notice carries 0 attempts, and the step and the state the changer
is in then (DESIGN CHOICE, log entry 14). -/
def declareLost (w : W) : W :=
  let c := w.cc.picker
  let ref := w.contentsRef c
  let from_ := w.cc.pickedFrom
  let w1 := w.modCC fun cc => { cc with picker := .none, pickedFrom := none }
  let w2 := match c with
    | .cart i => w1.becomeAbsent i
    | .none => w1
    | .untracked => w1
  w2.changerFaultNotice .lostInTransit w.cc.step from_ 0 false ref

/-! ## Scans (R40) -/

/-- The slots at the front of what remains that are done without travel: no magazine, or M with its door open. -/
def passOver : List Element → W → W × List Element
  | [], w => (w, [])
  | e :: rest, w =>
    match e with
    | .slot n =>
      if w.magazinePresent (magazineOf n) then (w, e :: rest)
      else passOver rest (w.scanResult (.slot n) .noMagazine)
    | .mail => if w.ct.mailDoorOpen then passOver rest w else (w, e :: rest)
    | .drive _ => passOver rest w
    | .picker => passOver rest w

/-- Write what remains of the scan in progress: the close scan's, or the entry's. -/
def putRemaining (w : W) (l : List Element) : W :=
  match w.cc.closeScan with
  | some s => w.modCC fun c => { c with closeScan := some { s with remaining := l } }
  | none =>
    match w.currentScan with
    | some s => w.modCC fun c => { c with current := some (.scan { s with remaining := l, resumeSlot := none }) }
    | none => w

/-- What remains of the scan in progress. -/
def remainingSlots (w : W) : List Element :=
  match w.cc.closeScan.or w.currentScan with
  | some s => s.remaining
  | none => []

/-- The end of a scan entry (R28, R34): its report, then IDLE or LOCKED. -/
def endScanEntry (w : W) (faulted : Bool) : W := ((w.countRun faulted true).wantDispatch).goToRest

/-! ## Resuming a held move (R38) -/

/-- Whether an element is M with its door open: a put-away or a re-validation does not choose it (R33, R39). -/
def mailBarred (w : W) (e : Option Element) : Bool := decide (e = some .mail) && w.ct.mailDoorOpen

/-- Whether the present candidate of a put-away is still acceptable, checked as R26 checks a destination: EMPTY, or the
RESERVED home of the cartridge (R38). A put-away may go back to the move's source (R33). -/
def presentCandidate (w : W) (m : Move) : Bool :=
  match m.dest with
  | some (.slot n) => w.slotAccepts (.slot n) (w.recordAt .picker)
  | some .mail => w.slotAccepts .mail (w.recordAt .picker) && !w.ct.mailDoorOpen
  | some (.drive _) => false
  | some .picker => false
  | none => false

/-- A move in progress and loaded goes on (R38): at its destination if that is still acceptable, or put away. A
RECOVERY move without a destination resolves its chain again (R35, R45). -/
def resumeLoaded (w : W) (m : Move) : W :=
  let i := w.recordAt .picker
  if m.putAway.isSome then
    (if w.presentCandidate m then (w.putMove m).beginStep .travelLoaded else w.choosePutAway m)
  else if m.asked = .recoveryChain ∧ m.dest = none then
    (match w.recoveryChain with
     | some e => (w.putMove { m with dest := some e }).beginStep .travelLoaded
     | none => (w.putMove m).holdFault .nowhereToPlace (some .travelLoaded) false)
  else
    match (if w.mailBarred m.dest then some Reason.destFull else w.destRefused m.source m.dest i) with
    | none => (w.putMove m).beginStep .travelLoaded
    | some _ => w.choosePutAway { m with putAway := some .destFull, tried := m.tried ++ m.dest.toList }

/-- What a source holds, and where, as the end of a move reports it. -/
def endAtSource (w : W) (m : Move) (r : Reason) : W :=
  let c := w.contentsAt m.source
  w.endMove m r c (if c = .none then none else some m.source)

/-- A move in progress and empty is validated again in full and restarts at TRAVEL (R38). -/
def resumeEmpty (w : W) (m : Move) : W :=
  let m1 := { m with dest := w.resolveDest m }
  let barred : Option Reason := if w.mailBarred m1.dest then some .destFull else none
  match (w.validate m1).or barred with
  | none => (w.putMove m1).beginStep .travel
  | some r => (w.putMove m1).endAtSource m1 r

/-- The held move goes on by the step that settlement left it at (R38). -/
def resumeHeld (w : W) (m : Move) (s : Option Step) : W :=
  let w1 := w.modCC fun c => { c with held := none, holdReason := none }
  if s = some .travelLoaded ∨ s = some .place then w1.resumeLoaded m else w1.resumeEmpty m

/-! ## Settlement (R37) -/

/-- What settlement found. -/
inductive Settled where
  | goesOn (s : Step)
  | ended
  | checks
  deriving DecidableEq, Repr

/-- A move ends LOST-IN-TRANSIT (R37). -/
def endLost (w : W) (m : Move) : W :=
  let c := w.cc.picker
  (w.declareLost).reportMoveEnd m .lostInTransit c none

/-- A spot check of the destination begins, or a drive's port answers at once (R37, R48): none while it runs. -/
def spotCheck (w : W) (dest : Option Element) : W × Option Bool :=
  match dest with
  | some (.drive d) => (w, some (w.portSensesCartridge d))
  | some (.slot _) => (w.beginStep .spotCheck, none)
  | some .mail => (w.beginStep .spotCheck, none)
  | some .picker => (w, some false)
  | none => (w, some false)

/-- The answer of a spot check for the held move: place completion, or LOST-IN-TRANSIT (R37). -/
def spotCheckedMove (w : W) (m : Move) (present : Bool) : W :=
  if present then w.placeDone m else w.endLost m

/-- Settlement of a held move by its step and the picker sensor (R37). -/
def settleMove (w : W) (m : Move) (s : Step) (sensed : Bool) : W × Settled :=
  match s, sensed with
  | .grip, true =>
    (let r := w.extractAt m.source none
     (r.1.putMove (afterPassage m r.2), .goesOn .travelLoaded))
  | .grip, false => (w, .goesOn .travel)
  | .travel, false => (w, .goesOn .travel)
  | .travel, true =>
    (let w1 := (w.fillPicker .untracked none).modCC fun c => { c with pickerFound := true }
     let c := w.contentsAt m.source
     (w1.reportMoveEnd m .pickerOccupied c (if c = .none then none else some m.source), .ended))
  | .travelLoaded, true => (w, .goesOn .travelLoaded)
  | .place, true => (w, .goesOn .travelLoaded)
  | .travelLoaded, false => (w.endLost m, .ended)
  | .place, false =>
    (let r := w.spotCheck m.dest
     match r.2 with
     | some present => (r.1.spotCheckedMove m present, .ended)
     | none => (r.1, .checks))
  | .homing, _ => (w, .goesOn .travel)
  | .scanStep, _ => (w, .goesOn .travel)
  | .spotCheck, _ => (w, .goesOn .travel)

/-- The step a held move has after settlement (R36 to R38): the one held, or TRAVEL-LOADED once settlement has reported the
extract completion of a GRIP, which a second settlement would else report again (DEDUCED, log entry 42). -/
def stepSettled (was now : Step) : Step := if was = .grip ∧ now = .travelLoaded then now else was

/-- Settlement has left the move in progress at a step: `held` keeps its context. -/
def keepSettled (w : W) (s : Step) : W :=
  w.modCC fun c => { c with held := c.held.map fun h => { h with step := h.step.map (stepSettled · s) } }

/-! ## The close sequence (R37, R38) -/

/-- The hold of a cartridge found in an empty picker (R37, R38). -/
def holdPickerOccupied (w : W) : W :=
  ((w.modCC fun c => { c with pickerFound := false, current := none, held := none }).holdFault .pickerOccupied
    none false)

/-- The changer goes on by the return state held once the close scan is complete (R38). The CHANGER FAULT that says that the
hold stands does not say again that retries were exhausted (DESIGN CHOICE, log entry 48). -/
def closeFinished (w : W) : W :=
  let w1 := w.endStep.modCC fun c => { c with closing := false, closeScan := none }
  if w1.cc.pickerFound then w1.holdPickerOccupied
  else
    match w1.cc.held with
    | none => w1.ccEnter .idle
    | some h =>
      let idle := (w1.modCC fun c => { c with held := none, holdReason := none, current := none }).ccEnter .idle
      match h.ret with
      | .idle => idle
      | .restart => idle
      | .locked =>
        (w1.modCC fun c => { c with held := none, holdReason := none, current := none }).ccEnter .locked
      | .resume =>
        (match w1.currentMove with
         | some m => w1.resumeHeld m h.step
         | none => w1.goToRest)
      | .faultHold =>
        (match w1.cc.current with
         | some (.move _) => w1.holdFault (h.reason.getD .stall) h.step false
         | some (.scan _) => w1.endScanEntry true
         | none =>
           if w1.cc.settledEnd then w1.goToRest
           else if h.reason = some .pickerOccupied then w1.holdFault .pickerOccupied none false
           else idle)

/-- A scan goes on: slots without travel are reported or passed over, then the next step begins, or the scan
completes (R40). The completion of a close scan ends the close sequence. -/
def scanGoesOn (w : W) : W :=
  let r := passOver w.remainingSlots w
  let w1 := r.1.putRemaining r.2
  match r.2 with
  | _ :: _ => w1.beginStep .scanStep
  | [] =>
    let w2 := w1.endStep.scanCompleted
    match w2.cc.closeScan with
    | some _ => w2.closeFinished
    | none =>
      match w2.currentScan with
      | some s => w2.endScanEntry s.faulted
      | none => w2

/-- The close scan begins: S1 to S40 with the range of the scan held and of the waiting scan entry, which it
absorbs, and of a close scan that a second opening stopped (R37). A scan held by FAULT-HOLD stays until it ends by
R38. -/
def startCloseScan (w : W) : W :=
  let range := inScanOrder ((slotsOf .left ++ slotsOf .right).map .slot ++
    ((w.cc.closeScan.map Scan.range).getD []) ++ ((w.currentScan.map Scan.range).getD []) ++
    ((w.cc.scanEntry.map Scan.range).getD []))
  let w1 := w.modCC fun c =>
    { c with scanEntry := none,
             closeScan := some { id := 0, range := range, remaining := range, attempts := 0,
                                 resumeSlot := none, faulted := false },
             current := match c.current, c.held with
               | some (.scan s), some h => if h.ret = .faultHold then some (.scan s) else none
               | some (.scan _), none => none
               | other, _ => other }
  (w1.scanStarted range).scanGoesOn

/-! ## Reset and power-on sequences (R43, R44) -/

/-- At homing completion after a power-on reset: a scan of every slot is queued, and a cartridge in the picker is
UNTRACKED and gets a RECOVERY move (R43). -/
def powerOnHomed (w : W) (sensed : Bool) : W :=
  let w1 := (w.queueScan scanOrder).1
  if sensed then
    (w1.fillPicker .untracked none).queueRecovery
  else w1

/-- A cartridge found in the picker after a controller reset gets a RECOVERY move (R44). -/
def resetFound (w : W) : W :=
  let w1 := if w.cc.picker = .none then
      w.fillPicker .untracked none else w
  w1.queueRecovery

/-- Settlement of the interrupted step of a controller reset (R44): true while a spot check runs. A cartridge lost here has no
move left to end: CHANGER FAULT is queued and its record becomes absent, `faultRun` stays as it is and no MOVE DONE is queued;
and a cartridge that the picker kept through the reset with no interrupted step, and that the sensor does not show, is lost
too (DESIGN CHOICE, log entry 42). The spot check, part of no entry, counts its retries from 0 (DESIGN CHOICE, log
entry 12). -/
def resetSettled (w : W) (sensed : Bool) : W × Bool :=
  let plain : W × Bool :=
    if sensed then (w.resetFound, false)
    else if w.cc.picker = .none then (w, false)
    else (w.declareLost, false)
  match w.cc.interrupted with
  | none => plain
  | some i =>
    match i.step, sensed with
    | .grip, true => ((w.extractAt i.source none).1.resetFound, false)
    | .place, false =>
      (let r := (w.modCC fun c => { c with homingAttempts := 0 }).spotCheck i.dest
       match r.2 with
       | some true => ((i.dest.map r.1.placeAt).getD r.1, false)
       | some false => (r.1.declareLost, false)
       | none => (r.1, true))
    | _, _ => plain

/-- The reset sequence is done with the interrupted step. -/
def dropInterrupted (w : W) : W := w.modCC fun c => { c with interrupted := none }

/-- PICKER-OCCUPIED has been cleared and the picker is read again (R38). -/
def pickerRechecked (w : W) (sensed : Bool) : W :=
  if sensed then w.queueRecovery
  else w.fillPicker .none none

/-- The sequence a homing belonged to, at its completion: true while a spot check runs. -/
def runSequence (w : W) (seq : HomingFor) (sensed : Bool) : W × Bool :=
  match seq with
  | .powerOn => (w.powerOnHomed sensed, false)
  | .reset =>
    (let r := w.resetSettled sensed
     if r.2 then r else (r.1.dropInterrupted, false))
  | .pickerRecheck => (w.pickerRechecked sensed, false)
  | .toIdle => (w, false)
  | .settleHeld => (w, false)
  | .continueScan => (w, false)

/-- Settlement of what the close sequence holds; the close scan follows unless a spot check runs (R37). -/
def closeSettled (w : W) (sensed : Bool) : W :=
  match w.cc.held, w.currentMove with
  | some h, some m =>
    let r := w.settleMove m (h.step.getD .travel) sensed
    (match r.2 with
     | .goesOn s => (r.1.keepSettled s).startCloseScan
     | .ended => (r.1.modCC fun c => { c with settledEnd := true }).startCloseScan
     | .checks => r.1)
  | some h, none =>
    let runs := decide (h.ret = .idle) ||
      (decide (h.ret = .faultHold) && decide (w.cc.current = none) && !w.cc.settledEnd &&
        decide (h.reason ≠ some .pickerOccupied))
    if runs then
      (let r := w.runSequence h.seq sensed
       if r.2 then r.1
       else (r.1.modCC fun c => { c with held := c.held.map fun k => { k with seq := .toIdle } }).startCloseScan)
    else w.startCloseScan
  | none, _ => w.startCloseScan

/-- A homing begins; the attempts of one outside any entry start at 0 (R30). -/
def startHoming (w : W) (seq : HomingFor) : W :=
  (w.modCC fun c => { c with homingFor := seq, homingAttempts := 0 }).beginStep .homing

/-- Settlement of a held move after CLEAR CHANGER FAULT (R35): without a close scan. -/
def clearSettled (w : W) (sensed : Bool) : W :=
  match w.cc.held, w.currentMove with
  | some h, some m =>
    let r := w.settleMove m (h.step.getD .travel) sensed
    (match r.2 with
     | .goesOn s =>
       (match r.1.currentMove with
        | some m1 => r.1.resumeHeld m1 s
        | none => r.1.goToRest)
     | .ended => if r.1.cc.pickerFound then r.1.holdPickerOccupied else r.1.goToRest
     | .checks => r.1)
  | _, _ => w.goToRest

/-- Homing completion (R35, R37, R43, R44). -/
def homed (w : W) (sensed : Bool) : W :=
  let w1 := (w.sensePicker sensed).endStep
  if w1.cc.homingFor = .continueScan then
    (w1.modCC fun c => { c with held := if c.closing then c.held else none, holdReason := none }).scanGoesOn
  else if w1.cc.closing then w1.closeSettled sensed
  else if w1.cc.homingFor = .settleHeld then w1.clearSettled sensed
  else
    let r := w1.runSequence w1.cc.homingFor sensed
    if r.2 then r.1
    else (r.1.modCC fun c => { c with held := none, holdReason := none }).ccEnter .idle

/-- A spot check is done (R37). -/
def spotChecked (w : W) (present : Bool) : W :=
  let w1 := w.endStep
  match w1.currentMove with
  | some m =>
    let w2 := w1.spotCheckedMove m present
    if w2.cc.closing then (w2.modCC fun c => { c with settledEnd := true }).startCloseScan
    else w2.goToRest
  | none =>
    let w2 := if present then
        ((w1.cc.interrupted.bind Interrupted.dest).map w1.placeAt).getD w1
      else w1.declareLost
    let w3 := w2.dropInterrupted
    if w3.cc.closing then
      (w3.modCC fun c => { c with held := c.held.map fun k => { k with seq := .toIdle } }).startCloseScan
    else (w3.modCC fun c => { c with held := none, holdReason := none }).ccEnter .idle

/-! ## Faults and reactions (R29 to R32) -/

/-- The entry in execution is marked faulted and its attempts rise by the amount given; a homing outside any entry and a
close scan count for themselves (R30). -/
def countAttempt (w : W) (s : Step) (mark : Bool) (n : Nat) : W :=
  let onMove (m : Move) : Entry := .move { m with attempts := m.attempts + n, faulted := m.faulted || mark }
  let onScan (x : Scan) : Scan := { x with attempts := x.attempts + n, faulted := x.faulted || mark }
  let homing := w.modCC fun c => { c with homingAttempts := c.homingAttempts + n }
  let onEntry := match w.cc.current with
    | some (.move m) => w.modCC fun c => { c with current := some (onMove m) }
    | some (.scan x) => w.modCC fun c => { c with current := some (.scan (onScan x)) }
    | none => homing
  let scanning := match w.cc.closeScan with
    | some x => w.modCC fun c => { c with closeScan := some (onScan x) }
    | none => onEntry
  match s with
  | .homing =>
    (match w.homingOwner with
     | .move _ => onEntry
     | .scan => scanning
     | .none => homing)
  | .scanStep => scanning
  | .spotCheck => onEntry
  | .travel => onEntry
  | .grip => onEntry
  | .travelLoaded => onEntry
  | .place => onEntry

/-- A scan held by a fault notes the slot it goes on at (R40). -/
def noteResume (w : W) (s : Step) : W :=
  if s = .scanStep then
    match w.cc.closeScan, w.currentScan with
    | none, some x => w.modCC fun c => { c with current := some (.scan { x with resumeSlot := x.remaining.head? }) }
    | some x, _ => w.modCC fun c => { c with closeScan := some { x with resumeSlot := x.remaining.head? } }
    | none, none => w
  else w

/-- The reaction RETRY (R30): RETRY-WAIT while attempts are below the limit, otherwise a hold with the retries
exhausted. -/
def retryOrHold (w : W) (reason : Reason) (s : Step) : W :=
  if w.stepAttempts s < w.setting 15 then
    ((w.countAttempt s false 1).modCC fun c =>
      { c with step := some s, stepTimer := none, retryTimer := some (w.setting 14) }).ccEnter .retryWait
  else (w.noteResume s).holdFault reason (some s) true

/-- The reaction HOLD (R31). -/
def reactHold (w : W) (reason : Reason) (s : Step) : W := (w.noteResume s).holdFault reason (some s) false

/-- STALL (R29). -/
def stall (w : W) : W :=
  match w.cc.step with
  | some s =>
    let w1 := (w.countAttempt s true 0).modCC fun c => { c with stepTimer := none }
    if w1.setting 10 = 1 then w1.retryOrHold .stall s else w1.reactHold .stall s
  | none => w

/-- Whether an element is a drive. -/
def isDriveElement : Element → Bool
  | .drive _ => true
  | .slot _ => false
  | .mail => false
  | .picker => false

/-- A GRIP-MISS taken by REPORT: the source is empty, the move ends, CHANGER FAULT is queued with the new state
(R32). -/
def reportGripMiss (w : W) (m : Move) : W :=
  let c := w.contentsAt m.source
  let ref := w.contentsRef c
  let w1 := (w.sourceFoundEmpty m.source).endMove m .gripMiss c none
  w1.note (.changerFault (some m.id) (some m.origin) .gripMiss (some .grip) (some m.source) m.attempts false
    w1.cc.state ref w1.cc.faultRun)

/-- GRIP-MISS (R29, R32): a REPORT at a drive source is taken as HOLD. -/
def gripMiss (w : W) : W :=
  let w1 := (w.countAttempt .grip true 0).modCC fun c => { c with stepTimer := none }
  match w1.currentMove with
  | none => w1
  | some m =>
    if w1.setting 11 = 1 then w1.retryOrHold .gripMiss .grip
    else if w1.setting 11 = 3 ∧ isDriveElement m.source = false then w1.reportGripMiss m
    else w1.reactHold .gripMiss .grip

/-- A PLACE-BLOCKED taken by REPORT: the move continues as a put-away (R32). One that is a put-away already keeps its `putAway`
reason (R33; DESIGN CHOICE, log entry 42). -/
def reportPlaceBlocked (w : W) (m : Move) : W :=
  let ref := w.contentsRef w.cc.picker
  let w1 := w.choosePutAway
    { m with putAway := m.putAway.or (some .placeBlocked), tried := m.tried ++ m.dest.toList }
  w1.note (.changerFault (some m.id) (some m.origin) .placeBlocked (some .place) m.dest m.attempts false
    w1.cc.state ref w1.cc.faultRun)

/-- PLACE-BLOCKED (R29, R32). -/
def placeBlocked (w : W) : W :=
  let w1 := (w.countAttempt .place true 0).modCC fun c => { c with stepTimer := none }
  match w1.currentMove with
  | none => w1
  | some m =>
    if w1.setting 12 = 1 then w1.retryOrHold .placeBlocked .place
    else if w1.setting 12 = 3 then w1.reportPlaceBlocked m
    else w1.reactHold .placeBlocked .place

/-! ## Entries start (R25) -/

/-- Whether a move waits for the mail-slot door: it names M as its source or its destination (R25). -/
def waitsForMail (w : W) (m : Move) : Bool :=
  (decide (m.source = .mail) || decide (m.asked = .element .mail)) && w.ct.mailDoorOpen

/-- A scan entry starts (R25, R40). -/
def startScanEntry (w : W) (s : Scan) : W :=
  let w1 := w.modCC fun c =>
    { c with scanEntry := none, current := some (.scan { s with remaining := s.range }) }
  ((w1.ccEnter .scanning).scanStarted s.range).scanGoesOn

/-- A RECOVERY move starts: the sensor is read, the chain resolved (R45). -/
def startRecovery (w : W) (m : Move) (sensed : Bool) : W :=
  let w1 := w.putMove m
  if sensed = false then (w1.endLost m).goToRest
  else if w1.cc.picker = .none then w1.endAtSource m .sourceEmpty
  else
    match w1.recoveryChain with
    | some e => (w1.putMove { m with dest := some e }).beginStep .travelLoaded
    | none => w1.holdFault .nowhereToPlace (some .travelLoaded) false

/-- A move starts: it is resolved and validated (R25, R26). -/
def startMove (w : W) (m : Move) (sensed : Bool) : W :=
  let w1 := w.modCC fun c => { c with queue := c.queue.drop 1 }
  if m.origin = .recovery then w1.startRecovery m sensed
  else
    let m1 := { m with dest := w1.resolveDest m }
    match w1.validate m1 with
    | none => (w1.putMove m1).beginStep .travel
    | some r => (w1.putMove m1).endAtSource m1 r

/-- In IDLE the entry at the head starts (R25). -/
def startEntry (w : W) (sensed : Bool) : W :=
  if w.cc.state ≠ .idle then w
  else
    let w1 := w.sensePicker sensed
    match w1.cc.scanEntry with
    | some s => w1.startScanEntry s
    | none =>
      match w1.cc.queue with
      | [] => w
      | m :: _ => if w1.waitsForMail m then w1 else w1.startMove m sensed

/-! ## Clearing a fault (R35) -/

/-- CLEAR CHANGER FAULT accepted (R35). A hold raised by the close scan goes on with that scan, also while a move is held around
it (DESIGN CHOICE, log entry 27). -/
def clearFault (w : W) : W :=
  let w1 := w.modCC fun c => { c with faultRun := 0 }
  if w1.cc.state = .locked then w1.startHoming .toIdle
  else
    let w2 := w1.modCC fun c => { c with holdReason := none }
    if w1.cc.holdReason = some .pickerOccupied then w2.startHoming .pickerRecheck
    else
      match w1.cc.step with
      | some .homing => w2.startHoming w1.cc.homingFor
      | some .spotCheck => w2.startHoming w1.cc.homingFor
      | some .scanStep => w2.startHoming .continueScan
      | some .travel => w2.startHoming .settleHeld
      | some .grip => w2.startHoming .settleHeld
      | some .travelLoaded => w2.startHoming .settleHeld
      | some .place => w2.startHoming .settleHeld
      | none => w2.startHoming .toIdle

/-! ## The front door (R36, R37) -/

/-- What the changer keeps when the front door opens outside a close sequence (R36). -/
def openContext (w : W) : Held :=
  let seqHeld (s : Option Step) (r : Return) : Held := { step := s, ret := r, reason := none, seq := .toIdle }
  let ofSequence : Held := match w.cc.homingFor with
    | .settleHeld => seqHeld (w.cc.held.bind Held.step) .resume
    | .continueScan => seqHeld (some .scanStep) .restart
    | .toIdle => seqHeld none .idle
    | .powerOn => { step := none, ret := .idle, reason := none, seq := .powerOn }
    | .reset => { step := none, ret := .idle, reason := none, seq := .reset }
    | .pickerRecheck => { step := none, ret := .idle, reason := none, seq := .pickerRecheck }
  let ofStep : Held := match w.cc.step with
    | some .homing => ofSequence
    | some .spotCheck => ofSequence
    | some .scanStep => seqHeld (some .scanStep) .restart
    | some .travel => seqHeld (some .travel) .resume
    | some .grip => seqHeld (some .grip) .resume
    | some .travelLoaded => seqHeld (some .travelLoaded) .resume
    | some .place => seqHeld (some .place) .resume
    | none => seqHeld none .idle
  match w.cc.state with
  | .faultHold =>
    { (w.cc.held.getD (seqHeld w.cc.step .faultHold)) with
        ret := .faultHold, reason := w.cc.holdReason, seq := w.cc.homingFor }
  | .locked => seqHeld none .locked
  | .idle => seqHeld none .idle
  | .unhomed => seqHeld none .idle
  | .held => w.cc.held.getD (seqHeld none .idle)
  | .homing => ofStep
  | .scanning => ofStep
  | .travel => ofStep
  | .grip => ofStep
  | .travelLoaded => ofStep
  | .place => ofStep
  | .retryWait => ofStep

/-- The front door opens (R36). -/
def frontDoorOpens (w : W) : W :=
  let kept := if w.cc.closing then w.cc.held else some w.openContext
  let w1 := w.endStep.modCC fun c =>
    { c with held := kept,
             settledEnd := c.closing && c.settledEnd, pickerFound := c.closing && c.pickerFound,
             holdReason := match kept with
               | some h => if h.ret = .faultHold then h.reason else none
               | none => none }
  (((w1.ccEnter .held).note (.door true true)).frontOpened)

/-- The front door closes (R37): homing, to be followed by the settlement. -/
def frontDoorCloses (w : W) : W :=
  let w1 := w.note (.door true false)
  if w1.cc.state = .held then (w1.modCC fun c => { c with closing := true }).startHoming .toIdle
  else w1

/-! ## Controller reset (R44) -/

/-- The interrupted step a controller reset keeps (R44). Without a move current or held it keeps that of the reset before, whose
homing has not settled it yet (DESIGN CHOICE, log entry 27). -/
def interruptedStep (w : W) : Option Interrupted :=
  match w.currentMove with
  | some m =>
    let s := match w.cc.held with
      | some h => h.step
      | none => w.cc.step
    match s with
    | some st => some { step := st, source := m.source, dest := m.dest }
    | none => none
  | none => w.cc.interrupted

/-- The changer at a controller reset: everything waiting is discarded; then HOMING, or HELD with the front door
open (R44). -/
def resetChangerNow (w : W) : W :=
  let kept := w.interruptedStep
  let w1 := w.modCC fun c =>
    { resetChanger with
        state := .unhomed, picker := c.picker, pickedFrom := c.pickedFrom, nextId := c.nextId,
        interrupted := kept, homingFor := .reset, step := none, stepTimer := none }
  if w1.pins.frontDoorOpen then
    (w1.modCC fun c =>
      { c with held := some { step := none, ret := .idle, reason := none, seq := .reset } }).ccEnter .held
  else w1.startHoming .reset

end W
end Sys2Proof.Machine
end

