-- ==== Sys2Proof/Machine/Catalog.lean ====
section
/-! DEFINITION. The Catalog (chapter 8) and the capacity arithmetic (R145): session and extent records, what is
derived from them, lookups, pins, the checks of an extent handed in, and removal beyond a probed end. -/

namespace Sys2Proof.Machine

/-- Insert by a key, after those with an equal key. -/
def insertBy {α : Type} (key : α → Nat) (x : α) : List α → List α
  | [] => [x]
  | y :: ys => if key x < key y then x :: y :: ys else y :: insertBy key x ys

/-- Sort by a key; equal keys keep their order. -/
def sortBy {α : Type} (key : α → Nat) (l : List α) : List α := l.foldl (fun acc x => insertBy key x acc) []

/-! ## Capacity arithmetic (R145) -/

/-- A saturating 64-bit count. -/
def cap64 (n : Nat) : Nat := min n max64

/-- `remainingBlocks` (R145). -/
def remainingBlocks (threshold used : Nat) : Nat := if used < threshold then threshold - used else 0

/-- `ratio` in hundredths (R145). -/
def ratioOf (raw coded : Nat) : Nat := if coded = 0 then 100 else min (100 * raw / coded) 9999

/-- `estimatedRawRoom` (R145). -/
def estimatedRoom (remaining ratio : Nat) : Nat := remaining * 65536 * ratio / 100

/-- The six capacity fields of a record (R20, R145). -/
def capacityReport (c : CartRec) : CapacityReport :=
  if isDataKind c.kind = false then
    { capacity := 0, reserve := 0, threshold := 0, remainingBlocks := some 0, ratio := 0,
      estimatedRawRoom := some 0 }
  else
    let base (rem room : Option Nat) (ratio : Nat) : CapacityReport :=
      { capacity := capacityOf c.kind, reserve := reserveOf c.kind, threshold := thresholdOf c.kind,
        remainingBlocks := rem, ratio := ratio, estimatedRawRoom := room }
    match c.blocksUsed with
    | .known used =>
      let rem := remainingBlocks (thresholdOf c.kind) used
      let ratio := ratioOf c.rawBytes c.codedBytes
      base (some rem) (some (estimatedRoom rem ratio)) ratio
    | .unknown => base none none 100
    | .absent => base none none 100

/-! ## Sessions and extents -/

/-- The order in which the catalog keeps its extents: by session, then sequence (R153, R157, R158). -/
def extentBefore (a b : ExtentRec) : Bool :=
  decide (a.session < b.session) || (decide (a.session = b.session) && decide (a.sequence < b.sequence))

/-- An extent put in its place. -/
def insertExtent (x : ExtentRec) : List ExtentRec → List ExtentRec
  | [] => [x]
  | y :: ys => if extentBefore x y then x :: y :: ys else y :: insertExtent x ys

/-- The summary of a list of extents (R152). -/
def summaryOf (l : List ExtentRec) : VerifyState :=
  if l.all fun e => e.verifyState = .unverified then .unverified
  else if l.all fun e => e.verifyState = .verified then .verified
  else if l.all fun e => e.verifyState = .damaged then .damaged
  else .partly

/-- The largest last object of a list of extents, 0 when none has one (R147). -/
def lastObjectOf (l : List ExtentRec) : Nat := l.foldl (fun acc e => max acc (e.lastObject.getD 0)) 0

/-- The counts a LOADED or REBUILT session derives from its extents (R147). -/
def deriveCounts (l : List ExtentRec) (s : SessionRec) : SessionRec :=
  { s with objectsBegun := lastObjectOf l,
           chunkCount := cap64 (l.map ExtentRec.chunkFrames).sum,
           rawBytes := cap64 (l.map ExtentRec.rawBytes).sum,
           codedBytes := cap64 (l.map ExtentRec.codedBytes).sum }

namespace W

/-- The chain of a session: its extents in increasing sequence (R153). -/
def extentsOf (w : W) (id : Nat) : List ExtentRec := w.cg.extents.filter fun e => e.session = id

/-- The extents on a cartridge, in increasing `firstBlock` (R153). -/
def extentsOn (w : W) (i : Nat) : List ExtentRec :=
  sortBy ExtentRec.firstBlock (w.cg.extents.filter fun e => e.cartridge = i)

/-- The number of unfinished jobs holding a pin on a session (R147, R154). -/
def pinCount (w : W) (id : Nat) : Nat := (w.js.jobs.filter fun j => j.pins.contains id).length

/-- Derive a session's summary, and its counts unless it is of origin WRITTEN (R147, R152). -/
def deriveSession (w : W) (id : Nat) : W :=
  let l := w.extentsOf id
  w.modSession id fun s =>
    let s1 := { s with verifySummary := summaryOf l }
    if s.origin = .written then s1 else deriveCounts l s1

/-- Whether a session record is free (R147). -/
def sessionFree (w : W) : Bool := decide (w.cg.sessions.length < 64)

/-- Whether an extent record is free (R149). -/
def extentFree (w : W) : Bool := decide (w.cg.extents.length < 1024)

/-- Create a session record (R148). -/
def createSession (w : W) (s : SessionRec) : W :=
  { w with cg := { w.cg with sessions := insertBy SessionRec.id s w.cg.sessions } }

/-- Make an extent (R150). -/
def makeExtent (w : W) (e : ExtentRec) : W :=
  (({ w with cg := { w.cg with extents := insertExtent e w.cg.extents } }).modCart e.cartridge
    fun c => { c with extentCount := c.extentCount + 1 }).deriveSession e.session

/-- Free an extent (R150): an event of the BACKUPs that wait for a record, and then of dispatch (R75). -/
def freeExtent (w : W) (id sequence : Nat) : W :=
  match w.extent id sequence with
  | none => w
  | some e =>
    let w1 := { w with
      cg := { w.cg with
        extents := w.cg.extents.filter fun x => !(decide (x.session = id) && decide (x.sequence = sequence)) } }
    (w1.recordFreed.modCart e.cartridge fun c => { c with extentCount := c.extentCount - 1 }).deriveSession id

/-- Record a verdict on an extent (R168, step 3). -/
def setVerdict (w : W) (id sequence : Nat) (v : VerifyState) (damaged : Nat) : W :=
  (w.modExtent id sequence fun e =>
    { e with verifyState := v, damagedChunks := min damaged max32 }).deriveSession id

/-- Free every extent of a session, then its record: the number of extents freed (R155). -/
def dropSession (w : W) (id : Nat) : W × Nat :=
  let l := w.extentsOf id
  let w1 := l.foldl (fun (v : W) e => v.freeExtent id e.sequence) w
  ({ w1 with cg := { w1.cg with sessions := w1.cg.sessions.filter fun s => s.id ≠ id } }, l.length)

end W

/-! ## An extent handed to the catalog (R156) -/

/-- The fields of an extent handed in by the host or by a REBUILD. `flags` is the flag byte. -/
structure ExtentIn where
  session : Nat
  sequence : Nat
  label : Label
  firstBlock : Nat
  blockCount : Nat
  firstObject : Nat
  firstChunk : Nat
  lastObject : Nat
  chunkFrames : Nat
  rawBytes : Nat
  codedBytes : Nat
  flags : Nat
  pool : Nat
  hostTag : List Byte
  deriving DecidableEq, Repr

/-- CONTINUED of the flag byte: the field's flags are listed CONTINUED, CONTINUES, END-MARK, taken from bit 0 up
(log entry 15). -/
def ExtentIn.continued (e : ExtentIn) : Bool := bitOf 0 e.flags

/-- The checks of R156, item 1. -/
def extentArgsBad (e : ExtentIn) : Bool :=
  decide (e.session = 0) || decide (1023 < e.sequence) ||
  !labelOk e.label || !isDataKind (kindOfLabel e.label) ||
  decide (e.blockCount = 0) || decide (thresholdOf (kindOfLabel e.label) + 1 < e.firstBlock + e.blockCount) ||
  (decide (e.firstObject = 0) != decide (e.lastObject = 0)) || decide (e.lastObject < e.firstObject) ||
  (decide (e.chunkFrames = 0) != decide (e.firstObject = 0)) ||
  (e.continued == decide (e.sequence = 0)) ||
  decide (7 < e.flags) || decide (7 < e.pool)

namespace W

/-- Whether a block range overlaps an extent on a cartridge (R156, item 6). -/
def overlapsOn (w : W) (i first count : Nat) : Bool :=
  (w.extentsOn i).any fun e =>
    decide (0 < e.blockCount) && decide (e.firstBlock < first + count) && decide (first < e.firstBlock + e.blockCount)

/-- Whether a pin other than the given job's is held on a session (R156). -/
def pinnedByOther (w : W) (id : Nat) (self : Option Nat) : Bool :=
  w.js.jobs.any fun j => j.pins.contains id && decide (some j.id ≠ self)

/-- The count of blocks a cartridge is known to hold. -/
def knownUsed (w : W) (i : Nat) : Option Nat :=
  match (w.cart i).map CartRec.blocksUsed with
  | some (.known n) => some n
  | some .unknown => none
  | some .absent => none
  | none => none

/-- The first failing check of R156 for an extent handed in; OK when none fails. `self` is the REBUILD job that
hands it. -/
def extentAnswer (w : W) (e : ExtentIn) (self : Option Nat) : Status :=
  if extentArgsBad e then .badArgument
  else match w.cartByLabel e.label with
    | none => .noSuchCartridge
    | some i =>
      let s := w.session e.session
      let busy : Bool := match s with
        | some r => decide (r.state = .opened) || decide (r.origin = .written)
        | none => false
      if busy then .wrongState
      else if s.isSome && w.pinnedByOther e.session self then .inUse
      else if (w.extent e.session e.sequence).isSome then .duplicate
      else if w.overlapsOn i e.firstBlock e.blockCount then .overlap
      else if decide ((w.knownUsed i).any fun u => decide (u < e.firstBlock + e.blockCount)) then .beyondEnd
      else if w.extentFree = false ∨ (s.isNone ∧ w.sessionFree = false) then .catalogFull
      else .ok

/-- The extent handed in is made, its session created if no record bears the id (R156). -/
def takeExtent (w : W) (e : ExtentIn) (origin : SessionOrigin) : W :=
  match w.cartByLabel e.label with
  | none => w
  | some i =>
    let w1 := if (w.session e.session).isSome then w
      else w.createSession
        { id := e.session, hostTag := e.hostTag, state := .closed, origin := origin, pool := e.pool,
          codingMode := none, objectsBegun := 0, chunkCount := 0, rawBytes := 0, codedBytes := 0,
          verifySummary := .unverified }
    let objects := decide (e.firstObject ≠ 0)
    w1.makeExtent
      { session := e.session, sequence := e.sequence, label := e.label, cartridge := i,
        firstBlock := e.firstBlock, blockCount := e.blockCount,
        firstObject := if objects then some e.firstObject else none,
        firstChunk := if objects then e.firstChunk else 0,
        lastObject := if objects then some e.lastObject else none,
        chunkFrames := e.chunkFrames, rawBytes := e.rawBytes, codedBytes := e.codedBytes,
        continued := bitOf 0 e.flags, continues := bitOf 1 e.flags, endMark := bitOf 2 e.flags,
        isOpen := false, verifyState := .unverified, damagedChunks := 0 }

/-! ## Beyond a probed end (R157) -/

/-- One extent is removed (R157). A session of origin WRITTEN becomes LOADED, and a LOADED one has no `codingMode` (R147,
R148). -/
def removeExtent (w : W) (u : Nat) (e : ExtentRec) : W :=
  let loaded (s : SessionRec) : SessionRec :=
    if s.origin = .written then { s with origin := .loaded, codingMode := none } else s
  let w1 := (w.modSession e.session loaded).freeExtent e.session e.sequence
  let w2 := w1.note (.extentRemoved e.session e.sequence e.label e.firstBlock e.blockCount u)
  (w2.js.jobs.filter fun j => j.pins.contains e.session).foldl
    (fun (v : W) j => v.emit (.extentRemoved j.id e.session e.sequence)) w2

/-- A probe has made a cartridge's `blocksUsed` known: the extents reaching beyond it are removed, in increasing
session id and sequence (R157). -/
def probedEnd (w : W) (i u : Nat) : W :=
  (w.cg.extents.filter fun e => decide (e.cartridge = i) && decide (u < e.firstBlock + e.blockCount)).foldl
    (removeExtent · u ·) w

/-! ## Pools (R159) -/

/-- A pool's counts and estimated raw room. -/
def poolReport (w : W) (p : Nat) : PoolReport :=
  let members := (cartIndices.filterMap w.cart).filter fun c => c.pool = p
  let inState (s : MediaState) : List CartRec := members.filter fun c => c.state = s
  let room (c : CartRec) : Nat := ((capacityReport c).estimatedRawRoom).getD 0
  { opened := (inState .opened).length, blank := (inState .blank).length, new := (inState .new).length,
    rawRoom := cap64 (((inState .opened ++ inState .blank).filter fun c => isDataKind c.kind).map room).sum }

end W
end Sys2Proof.Machine
end

