-- ==== Sys2Proof/Machine/Verdicts.lean ====
section
/-! DEFINITION. What a VERIFY counts and records (R165, R168, R169): the sequence check, the end check, the verdict
on an extent, and VERIFY DONE. -/

namespace Sys2Proof.Machine

/-- A tally of nothing (R162). -/
def zeroTally : Tally :=
  { framesChecked := 0, damaged := 0, unreadable := 0, missingBlocks := 0, headerBad := 0, markerFaults := 0,
    kind3Seen := false }

/-- The sum of two tallies, each count of 4 bytes (R169). -/
def Tally.add (a b : Tally) : Tally :=
  { framesChecked := min (a.framesChecked + b.framesChecked) max32, damaged := min (a.damaged + b.damaged) max32,
    unreadable := min (a.unreadable + b.unreadable) max32,
    missingBlocks := min (a.missingBlocks + b.missingBlocks) max32,
    headerBad := min (a.headerBad + b.headerBad) max32,
    markerFaults := min (a.markerFaults + b.markerFaults) max32, kind3Seen := a.kind3Seen || b.kind3Seen }

/-- `expect` from a frame on (R165). -/
def expectAfter (o i : Nat) (last : Bool) : Expect := if last then .frame (o + 1) 0 else .frame o (i + 1)

/-- The sequence check (R165): what `damaged` rises by, and `expect` afterwards. -/
def sequenceCheck (x : Expect) (o i : Nat) (last : Bool) : Nat × Expect :=
  match x with
  | .lost => (0, expectAfter o i last)
  | .unset => (0, expectAfter o i last)
  | .frame e k =>
    if o = e ∧ i = k then (0, expectAfter o i last)
    else if o = e ∧ k < i then (i - k, expectAfter o i last)
    else if e < o then (o - e + i, expectAfter o i last)
    else (1, .frame e k)

/-- The end check (R168, step 2). -/
def endCheck (x : Expect) (lastObject : Option Nat) (continues : Bool) : Nat :=
  match x, lastObject with
  | .frame e k, some l =>
    if l < e then 0
    else if continues ∧ e = l ∧ 0 < k then 0
    else l + 1 - e
  | .frame _ _, none => 0
  | .lost, _ => 0
  | .unset, _ => 0

/-- The verdict on a tally (R168, step 3). -/
def verdictOf (t : Tally) : VerifyState := if t.damaged = 0 ∧ t.markerFaults = 0 then .verified else .damaged

/-- Add to `damaged`. -/
def Tally.harm (t : Tally) (n : Nat) : Tally := { t with damaged := t.damaged + n }

/-- Add a marker fault. -/
def Tally.markerFault (t : Tally) : Tally := { t with markerFaults := t.markerFaults + 1 }

namespace W

/-- The VERIFY progress of a job. -/
def verifyData (w : W) (n : Nat) : Option VerifyData := (w.job n).bind Job.verify?

/-- Whether a BACKUP claims a cartridge. -/
def writerClaims (w : W) (i : Nat) : Bool :=
  match (w.claimOf i).bind w.job with
  | some j => decide (j.kind = .backup)
  | none => false

/-- A DAMAGED verdict makes an OPEN or FULL cartridge SUSPECT (R168, step 4). A VERIFY that ends without its claim, while a
BACKUP holds the cartridge, leaves the state as it is: that would need the claim (R133; DESIGN CHOICE, log entry 47). -/
def suspectByVerify (w : W) (i : Nat) : W :=
  if (w.mediaOf i = some .opened ∨ w.mediaOf i = some .full) ∧ w.writerClaims i = false then
    w.setMedia i .suspect .verify
  else w

/-- Step 5 of R168, with `damageFound` of step 4: the tally goes to the totals, and no extent is current. `expect` is not set
then (DESIGN CHOICE, log entry 45). -/
def countVerdict (w : W) (n : Nat) (t : Tally) : W :=
  let v : VerifyState := verdictOf t
  w.modVerify n fun d =>
    { d with
        damageFound := d.damageFound || decide (v = VerifyState.damaged),
        totals := d.totals.add t, tally := zeroTally, current := .none, expect := .unset,
        firstUnreadable := false,
        endedVerified := d.endedVerified + (if v = VerifyState.verified then 1 else 0),
        endedDamaged := d.endedDamaged + (if v = VerifyState.verified then 0 else 1) }

/-- Steps 4 and 5 of R168 for an extent on a cartridge: what its verdict does beside the extent record. -/
def noteVerdict (w : W) (n i : Nat) (t : Tally) : W :=
  let w1 := if verdictOf t = VerifyState.damaged then w.suspectByVerify i else w
  w1.countVerdict n t

/-- Steps 3 to 5 of R168 for the extent a catalog record names. Where that is ALREADY-KNOWN and still PENDING in `extents`, it is
ENDED with them (R171; DESIGN CHOICE, log entry 45). -/
def recordVerdict (w : W) (n : Nat) (session sequence : Nat) (t : Tally) : W :=
  match w.extent session sequence with
  | none => w
  | some e =>
    ((w.setVerdict session sequence (verdictOf t) t.damaged).noteVerdict n e.cartridge t).modVerify n fun d =>
      { d with extents := d.extents.map fun (x : VExtent) =>
          if x.session = session ∧ x.sequence = sequence then { x with check := .ended, tally := t } else x }

/-- The tally of an extent at its end: a missing first marker and the end check (R168, steps 1 and 2). -/
def endTally (t : Tally) (firstUnreadable : Bool) (x : Expect) (lastObject : Option Nat) (continues : Bool) : Tally :=
  let t1 := if t.kind3Seen || firstUnreadable then t else t.markerFault
  t1.harm (endCheck x lastObject continues)

/-- The CHECKING extent of the catalog is ended (R168). -/
def endChecking (w : W) (n : Nat) : W :=
  match w.verifyData n with
  | none => w
  | some d =>
    match d.current with
    | .known s q =>
      (match w.extent s q with
       | some e => w.recordVerdict n s q (endTally d.tally d.firstUnreadable d.expect e.lastObject e.continues)
       | none => w)
    | .found _ => w
    | .none => w

/-- The label a VERIFY or RESTORE needs. -/
def targetLabel (j : Job) : Label :=
  match j.target with
  | .label l => l
  | .pool _ => []
  | .drive _ => []

/-- The cartridge record a VERIFY works on: the one it claims, or the one its target names while it claims none. -/
def verifiedCart (w : W) (n : Nat) : Option Nat :=
  (w.job n).bind fun j => j.cartridge.or (w.cartByLabel (targetLabel j))

/-- A VERIFY that ends other than DONE records the damage of its CHECKING extent (R169). A found extent, which the catalog
does not hold yet, has no record to take the verdict of step 3. -/
def recordUnended (w : W) (n : Nat) : W :=
  match w.verifyData n with
  | none => w
  | some d =>
    if verdictOf d.tally = .verified then w
    else
      match d.current with
      | .known s q => w.recordVerdict n s q d.tally
      | .found _ =>
        (match w.verifiedCart n with
         | some i => w.noteVerdict n i d.tally
         | none => w.countVerdict n d.tally)
      | .none => w

/-- VERIFY DONE (R169). The extents not ended are those of `extents`; a found extent still current is not counted among them
(DESIGN CHOICE, log entry 45). -/
def verifyDoneNotice (w : W) (n : Nat) (r : JobResult) : W :=
  match w.job n with
  | none => w
  | some j =>
    match j.verify? with
    | none => w
    | some d =>
      w.note (.verifyDone n (targetLabel j) (j.sessionId.getD 0) d.rebuild r d.endedVerified d.endedDamaged
        (d.extents.filter fun x => x.check ≠ CheckState.ended).length d.totals d.stray d.rebuilt d.conflicts)

end W
end Sys2Proof.Machine
end

