-- ==== Sys2Proof/Machine/Jobs.lean ====
section
/-! DEFINITION. The Job Scheduler (chapter 4 and sections 3.6): job records, admission, claims, the choice of
cartridge and drive, dispatch, the mount's next step, and the idle return. What ends a mount step, and what a job does
once mounted, is in the files that follow. -/

namespace Sys2Proof.Machine

/-- What a job's choice of a cartridge gives (R76, R77). -/
inductive Choice where
  /-- chosen -/
  | cart (i : Nat)
  /-- none: wait with reason MEDIA and MEDIA NEEDED -/
  | missing
  /-- none: wait with reason MEDIA, no notice -/
  | taken
  /-- a cartridge of the wrong kind -/
  | wrong
  deriving DecidableEq, Repr

/-- The first job id, counting upward from the id given last and wrapping from 255 to 1, that no record holds
(R72). The first argument bounds the search. -/
def nextJobId : Nat → Nat → List Nat → Nat
  | 0, last, _ => last
  | fuel + 1, last, used =>
    let c := if 255 ≤ last then 1 else last + 1
    if used.contains c then nextJobId fuel c used else c

namespace W

/-! ## States and notices (R71) -/

/-- The JOB STATE notice of a job as it stands (R71). -/
def jobNotice (w : W) (n : Nat) (was : Option JobState) : W :=
  match w.job n with
  | none => w
  | some j =>
    w.note (.jobState n j.kind was j.state j.waitReason j.drive (j.cartridge.map w.cartRef)
      (if j.state.isFinished then j.result else none))

/-- A job enters a state, or changes its wait reason; JOB STATE is queued at each change (R71). -/
def setJob (w : W) (n : Nat) (s : JobState) (why : Option WaitReason) : W :=
  match w.job n with
  | none => w
  | some j =>
    if j.state = s ∧ j.waitReason = why then w
    else
      (w.modJob n fun k =>
        { k with state := s, waitReason := why,
                 mediaAsked := k.mediaAsked && decide (why = some .media) }).jobNotice n (some j.state)

/-- A job waits for a reason. -/
def waitFor (w : W) (n : Nat) (r : WaitReason) : W := w.setJob n .waiting (some r)

/-- A job waits with reason MEDIA, and MEDIA NEEDED is queued unless this wait has queued it (R76, R77). -/
def waitMedia (w : W) (n : Nat) (wanted : MediaWanted) : W :=
  let w1 := w.waitFor n .media
  match w1.job n with
  | some j =>
    if j.mediaAsked then w1
    else (w1.modJob n fun k => { k with mediaAsked := true }).note (.mediaNeeded n wanted)
  | none => w1

/-- What a job's MEDIA NEEDED asks for. -/
def wantedBy (j : Job) : MediaWanted :=
  match j.target with
  | .pool p => .pool p
  | .label l => .label l
  | .drive _ => .cleaning

/-! ## Admission (R72) -/

/-- The finished record with the smallest `seq`. -/
def oldestFinished (w : W) : Option Nat :=
  ((sortBy Job.seq (w.js.jobs.filter fun j => j.state.isFinished)).head?).map Job.id

/-- Free a job's record. -/
def freeJob (w : W) (n : Nat) : W :=
  { w with js := { w.js with jobs := w.js.jobs.filter fun j => j.id ≠ n } }

/-- Whether an admission can have a record (R72). -/
def canAdmit (w : W) : Bool := decide (w.js.jobs.length < 16) || w.oldestFinished.isSome

/-- A job as it is admitted. -/
def admitted (id seq : Nat) (kind : JobKind) (session : Option Nat) (target : Target) (progress : Progress)
    (pins : List Nat) : Job :=
  { id := id, kind := kind, state := .queued, waitReason := none, seq := seq, drive := none, cartridge := none,
    stream := none, sessionId := session, target := target, mountStep := none, progress := progress,
    resumePoint := none, kept := none, abortPending := false, yielding := false, result := none, ticket := none,
    mediaAsked := false, endAs := none, pins := pins, cleaned := false }

/-- Admission (R72): a free or reclaimed record, an id, a `seq`, the JOB STATE notice, and dispatch. None when
every record holds an unfinished job. -/
def admitJob (w : W) (kind : JobKind) (session : Option Nat) (target : Target) (progress : Progress)
    (pins : List Nat) : W × Option Nat :=
  if w.canAdmit = false then (w, none)
  else
    let w1 := if w.js.jobs.length < 16 then w
      else match w.oldestFinished with
        | some n => w.freeJob n
        | none => w
    let id := nextJobId 255 w1.js.lastId (w1.js.jobs.map Job.id)
    let seq := min (w1.js.lastSeq + 1) max64
    let w2 := { w1 with js := { w1.js with
      jobs := w1.js.jobs ++ [admitted id seq kind session target progress pins], lastId := id, lastSeq := seq } }
    ((w2.jobNotice id none).wantDispatch, some id)

/-! ## Claims and bindings (R73) -/

/-- The job's cartridge claim is released. -/
def releaseCart (w : W) (n : Nat) : W :=
  match (w.job n).bind Job.cartridge with
  | none => w
  | some i =>
    let w1 := if w.claimOf i = some n then w.putCartClaim i none else w
    let w2 := (w1.modJob n fun j => { j with cartridge := none }).wantDispatch
    match w.locationOf i with
    | some (.drive d) => w2.emit (.idleCheck d)
    | some (.slot _) => w2
    | some .mail => w2
    | some .picker => w2
    | none => w2

/-- A stream without its job: empty, its enable kept. -/
def bareStream (s : Stream) : Stream := { resetStream with enable := s.enable }

/-- The stream a job is bound to is released (R71, R73). -/
def unbind (w : W) (n : Nat) : W :=
  match (w.job n).bind Job.stream with
  | none => w
  | some d =>
    let w1 := if (w.stream d).job = some n then w.modStream d bareStream else w
    w1.modJob n fun j => { j with stream := none }

/-- The job's drive claim is released, and with it the binding of a VERIFY or RESTORE (R73). -/
def releaseDrive (w : W) (n : Nat) : W :=
  match w.job n with
  | none => w
  | some j =>
    match j.drive with
    | none => w
    | some d =>
      let w1 := if j.kind = .verify ∨ j.kind = .restore then w.unbind n else w
      let w2 := if w1.driveClaim d = some n then w1.putDriveClaim d none else w1
      ((w2.modJob n fun k => { k with drive := none }).wantDispatch).emit (.idleCheck d)

/-- Both claims are released. -/
def releaseBoth (w : W) (n : Nat) : W := (w.releaseCart n).releaseDrive n

/-- A move the scheduler holds for a job is dropped (R88). -/
def dropHeld (w : W) (n : Nat) : W :=
  { w with js := { w.js with heldMoves := w.js.heldMoves.filter fun m => m.origin ≠ .job n } }

/-- A job enters a finished state (R71): claims and binding, pin, result, notice and dispatch, in that order. A BACKUP's
coding state ends with its binding (R102), and a RESTORE adds no more entries (R183). `truncating` keeps its value on the
finished record (R125; DESIGN CHOICE, log entry 29). -/
def finishJob (w : W) (n : Nat) (s : JobState) (r : JobResult) : W :=
  match w.job n with
  | none => w
  | some j =>
    if j.state.isFinished then w
    else
      let w1 := (((w.dropHeld n).releaseBoth n).unbind n)
      (w1.modJob n fun k =>
        { k with state := s, waitReason := none, result := some r, pins := [], mountStep := none, ticket := none,
                 abortPending := false, yielding := false, endAs := none, mediaAsked := false,
                 progress := k.progress.ended }).jobNotice n
        (some j.state) |>.wantDispatch

/-- A job ends; a VERIFY first records the damage of its CHECKING extent, unless it ends DONE, and queues VERIFY DONE
(R169). -/
def endJob (w : W) (n : Nat) (s : JobState) (r : JobResult) : W :=
  match w.job n with
  | none => w
  | some j =>
    if j.state.isFinished then w
    else if j.kind = .verify then
      (((if s = .done then w else w.recordUnended n).verifyDoneNotice n r).finishJob n s r)
    else w.finishJob n s r

/-! ## Moves (R79, R66) -/

/-- Issue a move: to the changer's queue, or held for want of room behind those already held (R79). The answer is
its ticket. -/
def issueMove (w : W) (origin : Origin) (source : Element) (asked : Dest) (i : Option Nat) : W × Nat :=
  let t := w.js.nextTicket
  let w1 := { w with js := { w.js with nextTicket := t + 1 } }
  let label := i.bind w.labelOf
  let hold : W := { w1 with js := { w1.js with
    heldMoves := w1.js.heldMoves ++ [{ origin := origin, source := source, asked := asked,
                                       expectedLabel := label, ticket := t, cart := i }] } }
  if w1.js.heldMoves = [] then
    let r := w1.queueMove origin source asked label t i
    (match r.2 with
     | some _ => (r.1, t)
     | none => (hold, t))
  else (hold, t)

/-- A move of origin JOB n for the cartridge of a record, which the job then waits for. -/
def issueJobMove (w : W) (n : Nat) (source : Element) (asked : Dest) (i : Option Nat) (s : MountStep) : W :=
  let r := w.issueMove (.job n) source asked i
  r.1.modJob n fun j => { j with ticket := some r.2, mountStep := some s }

/-- A RETURN move of the cartridge in a drive to its home, if it has one (R66). -/
def issueReturn (w : W) (d : Drive) : W :=
  match w.portCart d with
  | none => w
  | some i =>
    if (w.homeOf i).isSome then
      ((w.markReturning i).issueMove .returned (.drive d) .home (some i)).1
    else w.unmarkReturning i

/-- The first move held is issued once a place frees (R79). -/
def issueHeld (w : W) : W :=
  match w.js.heldMoves with
  | [] => w
  | m :: rest =>
    if w.queueFull then w
    else
      (({ w with js := { w.js with heldMoves := rest } }).queueMove m.origin m.source m.asked m.expectedLabel
        m.ticket m.cart).1

/-! ## What is free and available (R74) -/

/-- Whether an element is the source of the changer's move in execution. -/
def isMoveSource (w : W) (e : Element) : Bool := decide (w.currentMove.map Move.source = some e)

/-- Whether an unfinished CLEAN job names a drive, and which (R74, R86). -/
def cleanJobOf (w : W) (d : Drive) : Option Nat :=
  (w.js.jobs.find? fun j => j.kind = .clean ∧ j.state.isFinished = false ∧ j.target = .drive d).map Job.id

/-- Whether a drive is free for a job (R74). -/
def driveFree (w : W) (j : Job) (d : Drive) : Bool :=
  let p := w.port d
  let data := decide (j.kind ≠ .clean)
  (decide (p.state = .empty) || decide (p.state = .holding) || decide (p.state = .ready)) && !p.recovered &&
  decide (w.driveClaim d = none) &&
  (match p.cartridge with
   | .none => true
   | .untracked => !w.isMoveSource (.drive d)
   | .cart i =>
     decide (w.claimOf i = none) && !w.js.returning.contains i && !w.isMoveSource (.drive d)) &&
  (!data || (decide ((w.stream d).job = none) || decide ((w.stream d).job = some j.id))) &&
  (!data || decide (w.cleanJobOf d = none)) &&
  (data || decide (j.target = .drive d))

/-- Whether a cartridge is available for a job (R74). -/
def available (w : W) (j : Job) (i : Nat) : Bool :=
  match w.cart i with
  | none => false
  | some c =>
    decide (c.claim = none) && !w.js.returning.contains i &&
    (match c.location with
     | some (.slot n) =>
       decide ((w.slotAt (.slot n)).state = .occupied) && decide ((w.slotAt (.slot n)).holder = some i) &&
         !w.isMoveSource (.slot n)
     | some (.drive d) => w.driveFree j d && !w.isMoveSource (.drive d)
     | some .mail => false
     | some .picker => false
     | none => false)

/-! ## The choice of cartridge (R76, R77) -/

/-- The place of a record in the order of homes: its home slot, or after every home, by index (R76). -/
def homeRank (w : W) (i : Nat) : Nat :=
  match w.homeOf i with
  | some h => h
  | none => 100 + i

/-- The rank of a BACKUP candidate: OPEN, the fullest first, then BLANK, then NEW, each by home (R76). -/
def backupRank (w : W) (i : Nat) : Option Nat :=
  match w.cart i with
  | none => none
  | some c =>
    let used := match c.blocksUsed with
      | .known n => n
      | .unknown => 0
      | .absent => 0
    match c.state with
    | .opened => some ((10000000 - used) * 1000 + w.homeRank i)
    | .blank => some (20000000000 + w.homeRank i)
    | .new => some (30000000000 + w.homeRank i)
    | .full => none
    | .suspect => none
    | .retired => none
    | .cleaning => none
    | .expired => none
    | .foreign => none

/-- The record of lowest rank that a test admits. -/
def lowestRank (l : List Nat) (rank : Nat → Option Nat) : Option Nat :=
  (l.foldl (fun best i =>
    match rank i, best with
    | some r, some (b, q) => if r < q then some (i, r) else some (b, q)
    | some r, none => some (i, r)
    | none, _ => best) (none : Option (Nat × Nat))).map Prod.fst

/-- A BACKUP's choice (R76). -/
def chooseBackup (w : W) (j : Job) (pool : Nat) : Option Nat :=
  lowestRank (cartIndices.filter fun i =>
    match w.cart i with
    | some c => isDataKind c.kind && decide (c.pool = pool) && decide (c.writeProtect ≠ .yes) && w.available j i
    | none => false) w.backupRank

/-- A CLEAN job's choice: the cartridge in its drive, or the lowest home (R77). -/
def chooseCleaning (w : W) (j : Job) (d : Drive) : Option Nat :=
  let able := cartIndices.filter fun i =>
    match w.cart i with
    | some c =>
      decide (c.kind = some .clean) && decide (c.state = .cleaning) && decide (0 < c.usesLeft.getD 0) &&
        w.available j i
    | none => false
  (able.find? fun i => w.locationOf i = some (.drive d)).or (lowestRank able fun i => some (w.homeRank i))

/-- The choice of a job's cartridge (R76, R77). -/
def chooseCart (w : W) (j : Job) : Choice :=
  match j.target with
  | .pool p =>
    (match w.chooseBackup j p with
     | some i => .cart i
     | none => .missing)
  | .drive d =>
    (match w.chooseCleaning j d with
     | some i => .cart i
     | none => .missing)
  | .label l =>
    match w.cartByLabel l with
    | none => .missing
    | some i =>
      if w.locationOf i = none then .missing
      else if isDataKind (w.kindOf i) = false then .wrong
      else if w.available j i then .cart i
      else .taken

/-! ## The choice of drive (R78) -/

/-- The drives a job considers (R78). -/
def drivesFor (w : W) (j : Job) : List Drive :=
  match j.target with
  | .drive d => [d]
  | .label _ => [.d0, .d1]
  | .pool _ =>
    match j.stream with
    | some d => if (w.port d).state.isDown then [otherDrive d] else [d]
    | none => [.d0, .d1]

/-- Whether a drive's cartridge can be put away first: unclaimed, with a home, not UNTRACKED (R78). -/
def canClear (w : W) (d : Drive) : Bool :=
  match (w.port d).cartridge with
  | .cart i => decide (w.claimOf i = none) && (w.homeOf i).isSome
  | .untracked => false
  | .none => false

/-- The drive chosen for a cartridge (R78). -/
def chooseDrive (w : W) (j : Job) (i : Nat) : Option Drive :=
  let l := (w.drivesFor j).filter (w.driveFree j)
  ((l.find? fun d => (w.port d).cartridge = .cart i).or
    (l.find? fun d => (w.port d).state = .empty)).or
    (l.find? w.canClear)

/-! ## Binding (R73, R102, R117) -/

/-- The stream's open object for a BACKUP's open object not yet taken up by a stream (R130). -/
def streamObjectOf (b : BackupData) : Option StreamObject :=
  b.openObject.map fun o => { object := o.object, snapshot := o.snapshot, nextChunk := 0, secureNow := false }

/-- A job is bound to the stream of the drive it claims (R73). A BACKUP bound for the first time gets its coding
state (R102); one bound to the other stream takes its stream contents along (R117). -/
def bind (w : W) (n : Nat) (d : Drive) : W :=
  match w.job n with
  | none => w
  | some j =>
    let w1 := w.modJob n fun k => { k with stream := some d }
    match j.progress with
    | .clean => w
    | .verify _ => w1.modStream d fun s => { s with job := some n }
    | .restore _ => w1.modStream d fun s => { s with job := some n }
    | .backup b =>
      match j.stream with
      | none =>
        (w1.modStream d fun s => { s with job := some n, openObject := streamObjectOf b }).modBackup n
          fun x => { x with coding := some (freshCoding x.snapshot) }
      | some o =>
        if o = d then w1
        else
          let from_ := w1.stream o
          (w1.modStream d fun s =>
            { s with job := some n, intake := from_.intake, openObject := from_.openObject,
                     carry := from_.carry }).modStream o bareStream

/-! ## The mount's steps (R79) -/

/-- The link a RESTORE reads on a mounted cartridge (R176): the first of its chain that holds `nextObject` or a later
object. The link the job stands at already, by R178 or R183, comes first (log entry 26). -/
def linkOn (r : RestoreData) (i : Nat) : Option Link :=
  match r.nextObject with
  | some o =>
    let fits (l : Link) : Bool := decide (l.cartridge = i) && decide (o ≤ l.lastObject)
    (r.link.filter fun l => r.chain.contains l && fits l).or (r.chain.find? fits)
  | none => none

/-- The hint block, when the mount on a cartridge takes it (R176). -/
def hintTaken (j : Job) (r : RestoreData) (i : Nat) : Option Nat :=
  match j.resumePoint, r.hint, linkOn r i with
  | none, .unused label block, some l =>
    if label = l.label ∧ r.chain.head? = some l ∧ l.firstBlock ≤ block ∧ block < l.firstBlock + l.blockCount
    then some block else none
  | _, _, _ => none

/-- The start block of a RESTORE's mount (R176). -/
def restoreStart (j : Job) (r : RestoreData) (i : Nat) : Nat :=
  match j.resumePoint with
  | some b => b
  | none => (hintTaken j r i).getD (((linkOn r i).map Link.firstBlock).getD 0)

/-- The first block of a VERIFY's range (R163). -/
def verifyFirst (w : W) (v : VerifyData) : Nat :=
  if v.rebuild then 0
  else
    ((v.extents.filter fun x => x.check ≠ CheckState.ended).findSome? fun x =>
      (w.extent x.session x.sequence).map ExtentRec.firstBlock).getD 0

/-- The start block of a VERIFY's mount: `resumePoint` when one is set, and otherwise the range's first block (R163). Once
a removal has moved the first block, a `resumePoint` before it counts no more (R172). -/
def verifyStartBlock (w : W) (j : Job) (v : VerifyData) : Nat :=
  match j.resumePoint with
  | none => w.verifyFirst v
  | some b => if v.firstMoved then max (w.verifyFirst v) b else b

/-- The start block of a data job's mount (R79, R163, R172, R176). -/
def startBlock (w : W) (j : Job) (i : Nat) : Nat :=
  match j.progress with
  | .backup _ =>
    if w.mediaOf i = some .opened then (w.knownUsed i).getD 0 else 0
  | .verify v => w.verifyStartBlock j v
  | .restore r => restoreStart j r i
  | .clean => 0

/-- Note the mount step a job is at. -/
def atStep (w : W) (n : Nat) (s : MountStep) : W := w.modJob n fun j => { j with mountStep := some s }

/-- A CLEAN job's mount is done: RUNNING, and Clean is requested (R79, R87). -/
def startCleaning (w : W) (n : Nat) (d : Drive) : W :=
  ((w.modJob n fun j => { j with mountStep := none }).setJob n .running none).askOp d .clean (.job n)

/-- Steps 3 to 5 of the mount, by what the drive now holds (R79). -/
def mountLoaded (w : W) (n : Nat) (j : Job) (d : Drive) (i : Nat) : W :=
  match (w.port d).state with
  | .holding => (w.atStep n .load).askOp d .load (.job n)
  | .ready =>
    if j.kind = .clean then w.startCleaning n d
    else if w.mediaOf i = some .new then (w.atStep n (.probeLocate false)).askOp d (.locate 0) (.job n)
    else (w.atStep n (.position false)).askOp d (.locate (w.startBlock j i)) (.job n)
  | .empty => w
  | .absent => w
  | .init => w
  | .loading => w
  | .active => w
  | .unloading => w
  | .cleaning => w
  | .faulted => w

/-- Step 2 of the mount: bring the cartridge, unless it is in the drive (R79). One that lies threaded in the other drive is
unloaded there first, because the changer takes it from HOLDING alone (R57). -/
def mountBring (w : W) (n : Nat) (j : Job) (d : Drive) (i : Nat) : W :=
  if (w.port d).cartridge = .cart i then w.mountLoaded n j d i
  else
    let bring (e : Element) : W := w.issueJobMove n e (.element (.drive d)) (some i) .bring
    match w.locationOf i with
    | some (.drive o) =>
      if (w.port o).state = .ready then (w.atStep n .bringUnload).askOp o .unload (.job n) else bring (.drive o)
    | some (.slot k) => bring (.slot k)
    | some .mail => bring .mail
    | some .picker => bring .picker
    | none => w

/-- Whether a job's cartridge is being unloaded at a drive, which the job does not claim, to be brought to its own (R57). -/
def fetchesFrom (w : W) (j : Job) (d : Drive) : Bool :=
  decide (j.mountStep = some .bringUnload) && j.cartridge.any fun i => decide (w.locationOf i = some (.drive d))

/-- The drives a job's mount has to do with: the one it claims, and the one its cartridge lies in (R57, R79). -/
def mountDrives (w : W) (j : Job) : List Drive :=
  [Drive.d0, .d1].filter fun d =>
    decide (j.drive = some d) || j.cartridge.any fun i => decide (w.locationOf i = some (.drive d))

/-- A cartridge that a mount given up has left in HOLDING in a drive, with a home, gets a RETURN move (R88). -/
def returnLeft (w : W) (l : List Drive) : W :=
  l.foldl (fun (v : W) d =>
    if (v.port d).state = .holding ∧ (v.driveClaim d).isNone ∧ ((v.portCart d).bind v.claimOf).isNone then v.issueReturn d
    else v) w

/-- The mount goes on: step 1 puts another cartridge away first, then the steps after it (R79). -/
def mountNext (w : W) (n : Nat) : W :=
  match w.job n with
  | none => w
  | some j =>
    match j.drive, j.cartridge with
    | some d, some i =>
      let p := w.port d
      if p.cartridge = .none ∨ p.cartridge = .cart i then w.mountBring n j d i
      else if p.state = .ready then (w.atStep n .clearUnload).askOp d .unload (.job n)
      else w.issueJobMove n (.drive d) .home (w.portCart d) .clearMove
    | _, _ => w

/-! ## Dispatch (R75, R84) -/

/-- The RUNNING VERIFY with the largest `seq` among those whose drive no unfinished CLEAN job names (R84). -/
def yieldAny (w : W) : Option Nat :=
  ((sortBy Job.seq (w.js.jobs.filter fun j =>
    decide (j.kind = .verify) && decide (j.state = .running) &&
      (match j.drive with
       | some d => decide (w.cleanJobOf d = none)
       | none => false))).getLast?).map Job.id

/-- A RUNNING VERIFY that a test admits (R84). -/
def runningVerify (w : W) (test : Job → Bool) : Option Nat :=
  (w.js.jobs.find? fun j => decide (j.kind = .verify) && decide (j.state = .running) && test j).map Job.id

/-- A VERIFY starts to yield: its stream is brought to rest (R84, R121). -/
def startYield (w : W) (n : Nat) : W :=
  let w1 := w.modJob n fun j => { j with yielding := true }
  match (w.job n).bind Job.stream with
  | some d =>
    (w1.modStream d fun s => { s with stopping := if s.stopping = none then some .yielding else s.stopping }).emit
      (.parse d)
  | none => w1

/-- The VERIFY that yields to a waiting job, while none is yielding (R84). -/
def yieldFor (w : W) (j : Job) : Option Nat :=
  if w.js.jobs.any fun k => decide (k.kind = .verify) && k.yielding then none
  else
    match j.kind, j.waitReason with
    | .restore, some .drive =>
      if (w.drivesFor j).any (w.driveFree j) then none else w.yieldAny
    | .restore, some .media =>
      (match j.target with
       | .label l => w.runningVerify fun k => k.cartridge.isSome && decide (k.cartridge = w.cartByLabel l)
       | .pool _ => none
       | .drive _ => none)
    | .clean, some .drive =>
      (match j.target with
       | .drive d => w.runningVerify fun k => decide (k.drive = some d)
       | .label _ => none
       | .pool _ => none)
    | _, _ => none

/-- A job left waiting may make a VERIFY yield. -/
def maybeYield (w : W) (n : Nat) : W :=
  match (w.job n).bind w.yieldFor with
  | some v => w.startYield v
  | none => w

/-- The changer states in which no mount that needs a move starts (R75). -/
def changerBars (w : W) : Bool :=
  match w.cc.state with
  | .faultHold => true
  | .locked => true
  | .held => true
  | .unhomed => true
  | .homing => false
  | .idle => false
  | .scanning => false
  | .travel => false
  | .grip => false
  | .travelLoaded => false
  | .place => false
  | .retryWait => false

/-- A cartridge is claimed by a job, which stops the idle-return timer of a drive it lies in (R65, R73). -/
def claimCart (w : W) (n i : Nat) : W :=
  let w1 := (w.putCartClaim i (some n)).modJob n fun j => { j with cartridge := some i }
  match w.locationOf i with
  | some (.drive d) => w1.stopIdle d
  | some (.slot _) => w1
  | some .mail => w1
  | some .picker => w1
  | none => w1

/-- A job starts: it claims the drive and the cartridge, enters MOUNTING, is bound, and its mount begins (R75). -/
def startMount (w : W) (n : Nat) (d : Drive) (i : Nat) : W :=
  let w1 := (((w.putDriveClaim d (some n)).claimCart n i).stopIdle d).modJob n fun j => { j with drive := some d }
  ((w1.setJob n .mounting none).bind n d).mountNext n

/-- Dispatch considers one job (R75). -/
def dispatchOne (w : W) (n : Nat) : W :=
  match w.job n with
  | none => w
  | some j =>
    match w.chooseCart j with
    | .wrong => w.endJob n .failed .wrongMedia
    | .missing => (w.waitMedia n (wantedBy j)).maybeYield n
    | .taken => ((w.waitFor n .media).modJob n fun k => { k with mediaAsked := false }).maybeYield n
    | .cart i =>
      match w.chooseDrive j i with
      | none => (w.waitFor n .drive).maybeYield n
      | some d =>
        if w.locationOf i ≠ some (.drive d) ∧ w.changerBars then w.waitFor n .changer
        else w.startMount n d i

/-- Whether dispatch considers a job: QUEUED or WAITING, but not with reason CATALOG (R75). A BACKUP being truncated is
not dispatched. -/
def waitsForDispatch (j : Job) : Bool :=
  (decide (j.state = .queued) || (decide (j.state = .waiting) && decide (j.waitReason ≠ some .catalog))) &&
  !j.abortPending &&
  (match j.progress with
   | .backup b => !b.truncating
   | .verify _ => true
   | .restore _ => true
   | .clean => true)

/-- The order of a pass: class, then `seq` (R75). -/
def passOrder (j : Job) : Nat := classOf j.kind * (max64 + 1) + j.seq

/-- A pass of dispatch, in ONLINE alone (R75). -/
def dispatch (w : W) : W :=
  if w.mode = .online then
    ((sortBy passOrder (w.js.jobs.filter waitsForDispatch)).map Job.id).foldl dispatchOne w
  else w

/-! ## Idle return (R65, R66) -/

/-- The idle-return timer expires (R66): in ONLINE an Unload is requested and the cartridge is returning; otherwise
the expiry is kept pending. -/
def idleExpires (w : W) (d : Drive) : W :=
  let w1 := w.stopIdle d
  if w.mode = .online then
    (if (w.port d).state = .ready then
      (let w2 := match w.portCart d with
         | some i => w1.markReturning i
         | none => w1
       w2.askOp d .unload .idleReturn)
     else w1)
  else { w1 with js := { w1.js with idlePending := w1.js.idlePending.put d true } }

/-- The idle-return timer starts with a limit if the port is READY and neither the drive nor its cartridge is claimed; a
timer started with 0 expires at once (R65). A port that enters READY with `recovered` set while a job not yet at rest still
claims the drive starts it at the later release of the claims, with the setting (DESIGN CHOICE, log entry 43). -/
def idleStarts (w : W) (d : Drive) (limit : Nat) : W :=
  let p := w.port d
  let claimed := (w.driveClaim d).isSome || ((w.portCart d).bind w.claimOf).isSome
  if p.state = .ready ∧ claimed = false ∧ w.idleTimer d = none ∧ w.js.idlePending.get d = false ∧
      p.resetting = false then
    if limit = 0 then w.idleExpires d
    else { w with js := { w.js with idle := w.js.idle.put d (some limit) } }
  else w

/-- The idle-return timer starts with the setting (R65). -/
def idleCheck (w : W) (d : Drive) : W := w.idleStarts d (w.setting 7)

/-- The idle-return timer of a port that enters READY from INIT with `recovered` set starts with 0 (R65). -/
def idleAtOnce (w : W) (d : Drive) : W := w.idleStarts d 0

/-- A pending expiry is carried out in ONLINE (R66). -/
def idlePendingRuns (w : W) (d : Drive) : W :=
  if w.mode = .online ∧ w.js.idlePending.get d = true then w.idleExpires d else w

/-- A homeless cartridge has gained a home: one in HOLDING, itself unclaimed and not returning, gets a RETURN move, also
where a BACKUP has kept the drive (R66, R81, R83). -/
def returnRehomed (w : W) (i : Nat) : W :=
  match w.locationOf i with
  | some (.drive d) =>
    if (w.port d).state = .holding ∧ (w.claimOf i).isNone ∧ w.js.returning.contains i = false then w.issueReturn d
    else w
  | some (.slot _) => w
  | some .mail => w
  | some .picker => w
  | none => w

/-! ## Cleaning (R86, R87) -/

/-- Whether the scheduler keeps a drive's need of a CLEAN job (R86). -/
def keepNeed (w : W) (d : Drive) (need : Bool) : W :=
  { w with js := { w.js with cleanNeed := w.js.cleanNeed.put d need } }

/-- A CLEAN job is admitted for a drive, and the need kept for it is met; none when the table is full (R86). -/
def admitClean (w : W) (d : Drive) : W × Option Nat :=
  let r := w.admitJob .clean none (.drive d) .clean []
  (if r.2.isSome then r.1.keepNeed d false else r.1, r.2)

/-- A clean request has reached the scheduler, or a reset ends with the flag set: a CLEAN job unless one names the
drive, or the need is kept (R86, R90). -/
def cleanWanted (w : W) (d : Drive) : W :=
  if (w.cleanJobOf d).isSome then w
  else
    let r := w.admitClean d
    if r.2.isSome then r.1 else r.1.keepNeed d true

/-- The admission of a kept need is tried again (R86). -/
def cleanRetry (w : W) (d : Drive) : W :=
  if w.js.cleanNeed.get d = false then w
  else if (w.port d).cleanRequest = false ∨ (w.cleanJobOf d).isSome then w.keepNeed d false
  else (w.admitClean d).1

/-- The cleaning-use update (R87). -/
def cleaningUse (w : W) (i : Nat) : W :=
  let w1 := w.modCart i fun c => { c with usesLeft := c.usesLeft.map (· - 1) }
  if ((w1.cart i).bind CartRec.usesLeft) = some 0 then w1.setMedia i .expired .cleaningUse else w1

end W
end Sys2Proof.Machine
end

