-- ==== Sys2Proof/Machine/Streams.lean ====
section
/-! DEFINITION. The Stream Engine's own work (chapter 6): intake, block assembly, presenting blocks to the port, and
the arbiter of the coder (section 5.6). -/

namespace Sys2Proof.Machine

/-! ## Intake (R111 to R113) -/

/-- The free chunk buffers of the intake. -/
def Stream.freeChunks (s : Stream) : Nat := 4 - s.intake.length

/-- The free space of the last buffer: when it is FILLING, what it lacks; 0 otherwise (R112). -/
def Stream.tailRoom (s : Stream) : Nat :=
  match s.intake.getLast? with
  | some c => if c.state = .filling then chunkSize - c.data.length else 0
  | none => 0

/-- Room (R112, item 3). -/
def Stream.room (s : Stream) : Nat := s.tailRoom + chunkSize * s.freeChunks

/-- Change the last buffer of the intake. -/
def Stream.modTail (s : Stream) (f : Chunk → Chunk) : Stream :=
  match s.intake.getLast? with
  | some c => { s with intake := s.intake.dropLast ++ [f c] }
  | none => s

/-- Whether the last buffer is FILLING or FULL. -/
def Stream.tailOpen (s : Stream) : Bool :=
  match s.intake.getLast? with
  | some c => decide (c.state = .filling) || decide (c.state = .full)
  | none => false

/-- A FILLING buffer of `n` bytes is FULL at 16,368 (R111). -/
def fillState (n : Nat) : ChunkState := if n < chunkSize then .filling else .full

/-- A free buffer opens with the next chunk index of the open object (R111). -/
def Stream.openChunk (s : Stream) (session : Nat) (o : StreamObject) (data : List Byte) (st : ChunkState)
    (final secure : Bool) : Stream :=
  { s with
      intake := s.intake ++
        [{ state := st, session := session, object := o.object, index := o.nextChunk, data := data,
           snapshot := o.snapshot, final := final, secureNow := secure }],
      openObject := some { o with nextChunk := o.nextChunk + 1 } }

/-- Accepted data goes into the intake in order (R111). The first argument bounds the buffers it touches. -/
def Stream.accept : Nat → Nat → List Byte → Stream → Stream
  | 0, _, _, s => s
  | _ + 1, _, [], s => s
  | fuel + 1, session, b :: rest, s =>
    if 0 < s.tailRoom then
      let k := s.tailRoom
      Stream.accept fuel session ((b :: rest).drop k)
        (s.modTail fun c =>
          { c with data := c.data ++ (b :: rest).take k,
                   state := fillState (c.data.length + ((b :: rest).take k).length) })
    else
      let s1 := if s.tailOpen then s.modTail fun c => { c with state := .closed } else s
      match s1.openObject with
      | none => s1
      | some o =>
        let part := (b :: rest).take chunkSize
        Stream.accept fuel session ((b :: rest).drop chunkSize)
          (s1.openChunk session o part (fillState part.length) false false)

/-- END OBJECT in the intake (R113). -/
def Stream.endObject (s : Stream) (session : Nat) (secure : Bool) : Stream :=
  let s1 := if s.tailOpen then
      s.modTail fun c => { c with state := .closed, final := true, secureNow := secure }
    else
      match s.openObject with
      | some o => s.openChunk session o [] .closed true secure
      | none => s
  { s1 with openObject := none }

/-- The intake without the chunks that are not CODING (R124, R125). -/
def Stream.dropIntake (s : Stream) : Stream :=
  { s with intake := s.intake.filter fun c => c.state = .coding, openObject := none }

/-- Whether a chunk of the stream is being encoded. -/
def Stream.isCoding (s : Stream) : Bool := s.intake.any fun c => c.state = .coding

/-! ## Buffers (R114, R115) -/

/-- The OPEN block's free bytes. -/
def Buffer.roomLeft (b : Buffer) : Nat := blockSize - b.filled

/-- Close a block: the zeros after its frames are those of `blockBytes` (R115). -/
def Stream.closeBuf (s : Stream) (i : BufId) : Stream := s.putBuf i { s.buf i with state := .closed }

/-- Close the OPEN block, if there is one. -/
def Stream.closeOpen (s : Stream) : Stream :=
  match s.bufIn .opened with
  | some i => s.closeBuf i
  | none => s

/-- A block not yet written: CLOSED or WRITING. -/
def Stream.unwritten (s : Stream) : Nat := s.countIn .closed + s.countIn .writing

/-- A frame goes into an OPEN buffer; a SECURE-NOW frame closes it (R114, R115). -/
def Stream.addFrame (s : Stream) (i : BufId) (f : Frame) : Stream :=
  let b := s.buf i
  let s1 := s.putBuf i { b with frames := b.frames ++ [f] }
  if f.secureNow then s1.closeBuf i else s1

/-- A new block opens in a FREE buffer at `nextIndex` with its first frame (R114, step 3). -/
def Stream.openBlock (s : Stream) (i : BufId) (a : Attached) (f : Frame) : Stream :=
  { (s.putBuf i { state := .opened, index := a.nextIndex, frames := [], data := [] }) with
      attached := some { a with nextIndex := a.nextIndex + 1 } }.addFrame i f

/-- Every buffer FREE. -/
def Stream.freeBuffers (s : Stream) : Stream := { s with bufA := freeBuffer, bufB := freeBuffer }

/-- Kinds 1 and 2 are chunk frames (R92). -/
def Frame.isChunk (f : Frame) : Bool := decide (f.header.kind = 1) || decide (f.header.kind = 2)

/-- The buffer that comes first in index order among those a test admits. -/
def Stream.firstBuf (s : Stream) (test : Buffer → Bool) : Option BufId :=
  if test s.bufA then (if test s.bufB && decide (s.bufB.index < s.bufA.index) then some .b else some .a)
  else if test s.bufB then some .b
  else none

/-- The chunk frames not on tape, in the order of R117: the failed block, later CLOSED blocks, the OPEN block, then
`carry`. Blocks are in index order, and the OPEN block has the highest index. -/
def Stream.unwrittenFrames (s : Stream) : List Frame :=
  let blocks := sortBy Buffer.index ([s.bufA, s.bufB].filter fun b =>
    decide (b.state = .opened) || decide (b.state = .closed) || decide (b.state = .writing))
  ((blocks.map Buffer.frames).flatten.filter Frame.isChunk) ++ s.carry

/-- Detach and carry over what is not on tape (R117). -/
def Stream.carryOver (s : Stream) : Stream :=
  { s.freeBuffers with carry := s.unwrittenFrames, attached := none, markerWait := none }

/-- Detach and discard what is not on tape (R126). -/
def Stream.discardAll (s : Stream) : Stream :=
  { s.freeBuffers with carry := [], attached := none, markerWait := none }

/-- What placing a frame came to (R114). -/
inductive Placing where
  | placed
  | refused
  | waits
  deriving DecidableEq, Repr

/-- Whether `nextRead` is within `readLimit` (R118). -/
def Stream.withinLimit (s : Stream) : Bool :=
  match s.nextRead, s.readLimit with
  | some b, some (.block l) => decide (b ≤ l)
  | some _, some .endMark => true
  | some _, none => false
  | none, _ => false

/-- Whether a BACKUP's stream has room for a largest frame (R106, R114, R116). -/
def Stream.hasFrameRoom (s : Stream) : Bool :=
  s.attached.isSome && decide (s.carry = []) && s.markerWait.isNone &&
  (match s.bufIn .opened with
   | some i => decide (largestFrame ≤ (s.buf i).roomLeft) || (s.bufIn .free).isSome
   | none => (s.bufIn .free).isSome)

namespace W

/-! ## Placing frames (R114, R116, R137) -/

/-- The early-warning test: whether a data block may be opened (R137). -/
def mayOpenBlock (w : W) (d : Drive) (a : Attached) : Bool :=
  decide ((w.knownUsed a.cartridge).getD 0 + (w.stream d).unwritten < thresholdOf (w.kindOf a.cartridge))

/-- Place a frame on an attached stream (R114). The early-warning test comes before the look for a FREE buffer, for a carry-over
frame too, so that a span begins at once (R116; DESIGN CHOICE, log entry 50). -/
def placeFrame (w : W) (d : Drive) (f : Frame) : W × Placing :=
  let s := w.stream d
  match s.attached with
  | none => (w, .waits)
  | some a =>
    match (s.bufIn .opened).filter fun i => f.size ≤ (s.buf i).roomLeft with
    | some i => (w.putStream d (s.addFrame i f), .placed)
    | none =>
      let s1 := s.closeOpen
      let w1 := w.putStream d s1
      if f.isChunk ∧ w1.mayOpenBlock d a = false then (w1, .refused)
      else
        match s1.bufIn .free with
        | some i => (w1.putStream d (s1.openBlock i a f), .placed)
        | none => (w1, .waits)

/-- Place the carry-over frames in order until none is left, one is refused, or one waits for a buffer (R116). The
first argument bounds them. -/
def placeCarry : Nat → Drive → W → W × Placing
  | 0, _, w => (w, .placed)
  | fuel + 1, d, w =>
    match (w.stream d).carry with
    | [] => (w, .placed)
    | f :: rest =>
      let r := w.placeFrame d f
      match r.2 with
      | .placed => placeCarry fuel d (r.1.modStream d fun s => { s with carry := rest })
      | .refused => (r.1, .refused)
      | .waits => (r.1, .waits)

/-- Place every carry-over frame that can be. -/
def placeAllCarry (w : W) (d : Drive) : W × Placing := placeCarry ((w.stream d).carry.length + 1) d w

/-! ## Presenting blocks (R115, R118) -/

/-- The CLOSED block with the lowest index is presented as a Write Block when the port is READY (R115). -/
def presentWrite (w : W) (d : Drive) : W :=
  let s := w.stream d
  match s.job, s.firstBuf fun b => decide (b.state = .closed) with
  | some n, some i =>
    if (w.port d).state = .ready ∧ w.driveClaim d = some n then
      let r := w.requestOp d (.writeBlock i) (.job n)
      if r.2 then r.1.modStream d fun t => t.putBuf i { t.buf i with state := .writing } else w
    else w
  | _, _ => w

/-- Whether a job's rules let its stream read on: a RESTORE with a free outbound place and nothing left to add
(R118, R181). -/
def outboundReady (j : Job) : Bool :=
  match j.progress with
  | .restore r => decide (r.out.length < 4) && decide (r.todo = []) && !r.stopped && !r.relocating
  | .verify _ => true
  | .backup _ => false
  | .clean => false

/-- A Read Block of `nextRead` is presented into a FREE buffer (R118), the first of the two (DESIGN CHOICE, log entry 49). -/
def presentRead (w : W) (d : Drive) : W :=
  let s := w.stream d
  match s.job.bind w.job, s.bufIn .free, s.nextRead with
  | some j, some i, some b =>
    if (w.port d).state = .ready ∧ w.running d = true ∧ s.stopping = none ∧ s.withinLimit = true ∧
        s.seek = none ∧ s.news = none ∧ j.state = .running ∧ outboundReady j = true ∧ w.driveClaim d = some j.id then
      let r := w.requestOp d (.readBlock i) (.job j.id)
      if r.2 then
        r.1.modStream d fun t => t.putBuf i { state := .reading, index := b, frames := [], data := [] }
      else w
    else w
  | _, _, _ => w

/-! ## The arbiter (R106 to R108) -/

/-- Whether a stream requests the coder (R106). -/
def requestsCoder (w : W) (d : Drive) : Bool :=
  let s := w.stream d
  w.running d &&
  (match s.job.bind w.job with
   | none => false
   | some j =>
     match j.progress with
     | .backup _ => (s.intake.any fun c => c.state = .closed) && s.hasFrameRoom
     | .verify _ => s.presented.isSome && decide (j.state = .running)
     | .restore r => s.presented.isSome && decide (j.state = .running) && decide (r.out.length < 4)
     | .clean => false)

/-- The stream the arbiter grants (R107). -/
def granted (w : W) : Option Drive :=
  match w.requestsCoder .d0, w.requestsCoder .d1 with
  | true, true => some (otherDrive w.coder.lastServed)
  | true, false => some .d0
  | false, true => some .d1
  | false, false => none

/-- The oldest CLOSED chunk becomes CODING. -/
def markCoding : List Chunk → List Chunk
  | [] => []
  | c :: rest => if c.state = .closed then { c with state := .coding } :: rest else c :: markCoding rest

/-- An encoding begins: the chunk is CODING and its snapshot is installed (R95, R101, R111). -/
def beginEncoding (w : W) (d : Drive) (n : Nat) : W :=
  let s := w.stream d
  match s.intake.find? fun c => c.state = .closed with
  | none => w
  | some c =>
    let w1 := w.putStream d { s with intake := markCoding s.intake }
    let w2 := w1.modBackup n fun b =>
      { b with coding := b.coding.map fun cs => installSnapshot cs c.object c.snapshot }
    { w2 with coder := { busy := some { stream := d, job := n, work := .encoding }, lastServed := d } }

/-- A decoding begins on the frame presented (R103). -/
def beginDecoding (w : W) (d : Drive) (n : Nat) : W :=
  let s := w.stream d
  match s.presented, s.bufIn .parsing with
  | some p, some i =>
    let payload := bytesAt (s.buf i).data (p.offset + 16) p.header.payloadLength
    { w with coder :=
        { busy := some { stream := d, job := n,
                         work := .decoding (s.buf i).index p.header payload },
          lastServed := d } }
  | _, _ => w

/-- The arbiter considers a grant (R107). -/
def considerGrant (w : W) : W :=
  if w.coder.busy.isSome then w
  else
    match w.granted with
    | none => w
    | some d =>
      match (w.stream d).job with
      | none => w
      | some n =>
        match (w.job n).map Job.kind with
        | some .backup => w.beginEncoding d n
        | some .verify => w.beginDecoding d n
        | some .restore => w.beginDecoding d n
        | some .clean => w
        | none => w

/-- The coder is idle again. -/
def coderIdle (w : W) : W := { w with coder := { w.coder with busy := none } }

end W
end Sys2Proof.Machine
end

