-- ==== Sys2Proof/Machine/Backup.lean ====
section
/-! DEFINITION. Backup sessions (chapter 7) and the truncation procedure (section 6.7): extents, write completions,
securing, spans, write failures, lost writes, the close and the truncation of a session. -/

namespace Sys2Proof.Machine

/-- The chunk frames of a block. -/
def Buffer.chunks (b : Buffer) : List Frame := b.frames.filter Frame.isChunk

/-- The raw lengths of frames, summed (R134). -/
def rawOf (l : List Frame) : Nat := (l.map fun f => f.header.rawLength).sum

/-- The sizes of frames, header and payload, summed (R134). -/
def codedOf (l : List Frame) : Nat := (l.map Frame.size).sum

namespace W

/-- A BACKUP's progress. -/
def backupData (w : W) (n : Nat) : Option BackupData := (w.job n).bind Job.backup?

/-- The stream a job is bound to. -/
def streamOf (w : W) (n : Nat) : Option Drive := (w.job n).bind Job.stream

/-- The session a job works on. -/
def sessionOf (w : W) (n : Nat) : Nat := ((w.job n).bind Job.sessionId).getD 0

/-- The cartridge a job claims. -/
def cartOf (w : W) (n : Nat) : Option Nat := (w.job n).bind Job.cartridge

/-- Set or clear NO-END-MARK on the cartridge of a job. -/
def markNoEnd (w : W) (n : Nat) (b : Bool) : W :=
  match w.cartOf n with
  | some i => w.modCart i fun c => { c with noEndMark := b }
  | none => w

/-- Set where a BACKUP is in its sequence. -/
def setEnding (w : W) (n : Nat) (e : Option Ending) : W := w.modBackup n fun b => { b with ending := e }

/-! ## The end of an extent (R136, R137) -/

/-- A cartridge still OPEN with `blocksUsed` at T or more becomes FULL (R137). -/
def fullAtThreshold (w : W) (i : Nat) : W :=
  if w.mediaOf i = some .opened ∧ thresholdOf (w.kindOf i) ≤ (w.knownUsed i).getD 0 then
    w.setMedia i .full .spanOrFailure
  else w

/-- The open extent record is closed with its flags, or freed when it holds no block (R136). -/
def closeExtent (w : W) (n : Nat) (continues endMark : Bool) : W :=
  match w.backupData n with
  | none => w
  | some b =>
    if b.extentOpen = false then w
    else
      let sid := w.sessionOf n
      match w.extent sid b.extentSeq with
      | none => w.modBackup n fun x => { x with extentOpen := false }
      | some e =>
        let w1 := if e.blockCount = 0 then
            (w.freeExtent sid b.extentSeq).modBackup n fun x => { x with extentOpen := false }
          else
            (w.modExtent sid b.extentSeq fun x =>
              { x with continues := continues, endMark := endMark, isOpen := false }).modBackup n
              fun x => { x with extentOpen := false, extentSeq := x.extentSeq + 1 }
        w1.fullAtThreshold e.cartridge

/-- The end-mark sequence begins (R136): Locate to `blocksUsed` unless the port stands there, then Write End Mark. -/
def startEndMark (w : W) (n : Nat) (why : EndFor) : W :=
  match w.job n with
  | none => w
  | some j =>
    match j.drive, j.cartridge with
    | some d, some i =>
      let p := (w.knownUsed i).getD 0
      if (w.port d).position = some p then
        (w.setEnding n (some (.endMark why))).askOp d .writeEndMark (.job n)
      else (w.setEnding n (some (.endLocate why false))).askOp d (.locate p) (.job n)
    | _, _ => w

/-! ## The truncation procedure (R125, R126, R144) -/

/-- The objects of a session not secured (R144). -/
def unsecured (b : BackupData) : List Nat :=
  (List.range (b.objectsBegun - b.securedThrough)).map (· + (b.securedThrough + 1))

/-- The hand-over (R144) and the job's end: the session is TRUNCATED, OBJECT LOST is queued for each object not
secured, and the job ends as its caller gives. A job aborted while MOUNTING leaves a cartridge in HOLDING with a
RETURN move (R88). -/
def handOver (w : W) (n : Nat) : W :=
  match w.job n with
  | none => w
  | some j =>
    match j.backup? with
    | none => w
    | some b =>
      let how := b.truncEnd.getD (.failed, .truncated)
      let sid := w.sessionOf n
      let w1 := (w.closeExtent n false false).modSession sid fun s => { s with state := .truncated }
      let w2 := (unsecured b).foldl (fun (v : W) o => v.note (.objectLost sid o how.2)) w1
      let w3 := (w2.modBackup n fun x => { x with part := none, ending := none }).finishJob n how.1 how.2
      if how.1 = .aborted ∧ j.state = .mounting then w3.returnLeft (w.mountDrives j) else w3

/-- Writing has ended in the truncation procedure: the extent is closed at the blocks written OK, the stream is
detached and holds nothing (R125, R126). -/
def truncWritten (w : W) (n : Nat) (endMark : Bool) : W :=
  let w1 := (w.closeExtent n false endMark).setEnding n none
  let w2 := match w1.streamOf n with
    | some d => w1.modStream d Stream.discardAll
    | none => w1
  w2.emit (.advance n)

/-- Whether a kind-4 frame can still be placed: in the OPEN block, or in a new block at index T or lower (R125, R137). -/
def markerFits (w : W) (d : Drive) (f : Frame) : Bool :=
  let s := w.stream d
  match s.attached with
  | none => false
  | some a =>
    ((s.bufIn .opened).any fun i => decide (f.size ≤ (s.buf i).roomLeft)) ||
      decide (a.nextIndex ≤ thresholdOf (w.kindOf a.cartridge))

/-- The TRUNCATED marker is placed and its block closed, or waits for a buffer (R125, step 2). No marker follows a
session-end frame that took index T already, since no block lies above T (R137; DEDUCED, log entry 29). -/
def placeTruncMarker (w : W) (n : Nat) (d : Drive) (objects : Nat) : W :=
  let f := endFrame (w.sessionOf n) objects true false
  let w1 := if w.markerFits d f then
      (let r := w.placeFrame d f
       match r.2 with
       | .placed => r.1.modStream d Stream.closeOpen
       | .refused => r.1
       | .waits => r.1.modStream d fun s => { s with markerWait := some f })
    else w.modStream d Stream.closeOpen
  (w1.setEnding n (some .truncWrite)).emit (.advance n)

/-- Step 1 of R125: what of `carry` can be placed is placed; a frame refused is discarded with those behind it. -/
def truncPlaceCarry (w : W) (n : Nat) (d : Drive) (objects : Nat) : W :=
  let r := w.placeAllCarry d
  match r.2 with
  | .waits => r.1
  | .placed => r.1.placeTruncMarker n d objects
  | .refused => (r.1.modStream d fun s => { s with carry := [] }).placeTruncMarker n d objects

/-- Whether a job has a move issued or an operation in flight. -/
def hasWork (w : W) (n : Nat) : Bool :=
  match w.job n with
  | none => false
  | some j =>
    j.ticket.isSome ||
    ([Drive.d0, .d1].any fun d =>
      (decide (j.drive = some d) || w.fetchesFrom j d) &&
        decide ((w.port d).pending.map PendingOp.requester = some (.job n)))

/-- The truncation procedure is called for a job (R125): the intake but for the chunk being encoded is discarded, the
open object ended with it, and moves held for the job are dropped, which only R88 says and only of ABORT JOB (DESIGN CHOICE,
log entry 49). A job already being truncated is left to the procedure under way (R124). -/
def callTruncation (w : W) (n : Nat) (how : JobState × JobResult) : W :=
  match w.backupData n with
  | none => w
  | some b =>
    if b.truncating then w
    else
      let w1 := w.modBackup n fun x =>
        { x with truncating := true, truncEnd := some how, openObject := none,
                 ending := if x.ending = some .closeWrite then none else x.ending }
      let w2 := match w1.streamOf n with
        | some d => w1.modStream d fun s => { s.dropIntake with markerWait := none }
        | none => w1
      let held := w2.js.heldMoves.any fun m => m.origin = .job n
      let w3 := (w2.dropHeld n).modJob n fun j => { j with ticket := if held then none else j.ticket }
      w3.emit (.advance n)

/-! ## Spans (R83, R138) -/

/-- The scheduler's part of a span begins (R83): the old cartridge out; with the port FAULTED both claims are released
and the job waits with reason DRIVE. A job being truncated goes no further (R138, R144). -/
def spanHandOver (w : W) (n : Nat) : W :=
  match w.job n with
  | none => w
  | some j =>
    let truncating := match j.backup? with
      | some b => b.truncating
      | none => false
    if truncating then w.emit (.advance n)
    else
      match j.drive with
      | none => w
      | some d =>
        if (w.port d).state = .ready then (w.atStep n .spanUnload).askOp d .unload (.job n)
        else ((w.releaseBoth n).modJob n fun k => { k with mountStep := none }).waitFor n .drive

/-- A span for early warning begins (R138, step 1). -/
def beginEarlySpan (w : W) (n : Nat) (d : Drive) : W :=
  (((w.modStream d fun s => { s with attached := none }).setJob n .spanning none).modBackup n
    fun b => { b with spanCause := some .earlyWarning, ending := some .spanWriteOut }).emit (.advance n)

/-- The marker block of a span is built in a FREE buffer at `blocksUsed`, closed at once (R138, step 3). -/
def buildSpanMarker (w : W) (n : Nat) (d : Drive) (b : BackupData) : W :=
  let s := w.stream d
  match s.bufIn .free with
  | none => w
  | some i =>
    let f := endFrame (w.sessionOf n) b.objectsBegun b.truncating (!b.truncating)
    let index := ((w.cartOf n).bind w.knownUsed).getD 0
    (w.putStream d (s.putBuf i { state := .closed, index := index, frames := [f], data := [] })).setEnding n
      (some (.spanMarker b.truncating))

/-! ## The session's end (R142) -/

/-- The session-end frame is placed and its block closed, or waits for a buffer (R142, steps 2 and 3). -/
def placeSessionEnd (w : W) (n : Nat) (d : Drive) (objects : Nat) : W :=
  let f := endFrame (w.sessionOf n) objects false false
  let r := w.placeFrame d f
  let w1 := match r.2 with
    | .placed => r.1.modStream d Stream.closeOpen
    | .refused => r.1
    | .waits => r.1.modStream d fun s => { s with markerWait := some f }
  (w1.setEnding n (some .closeWrite)).emit (.advance n)

/-- The session is CLOSED and the job DONE; its verifications are asked for after that (R142, R143). -/
def sessionCloses (w : W) (n : Nat) (auto : Bool) : W :=
  let sid := w.sessionOf n
  let w1 := (w.modSession sid fun s => { s with state := .closed }).finishJob n .done .ok
  if auto then w1.emit (.autoVerify sid) else w1

/-! ## What a BACKUP does next -/

/-- Whether every block of the stream is written and no marker waits. -/
def allWritten (s : Stream) : Bool := decide (s.unwritten = 0) && s.markerWait.isNone

/-- A BACKUP being truncated, in no sequence: attached it places what is left; detached and with nothing in flight
it hands over (R125). -/
def truncAdvance (w : W) (n : Nat) (b : BackupData) : W :=
  match w.streamOf n with
  | none => if w.hasWork n then w else w.handOver n
  | some d =>
    let s := w.stream d
    if s.isCoding then w
    else if s.attached.isSome then
      (w.setEnding n (some .truncPlace)).truncPlaceCarry n d b.objectsBegun
    else if w.hasWork n then w
    else (w.modStream d Stream.discardAll).handOver n

/-- A BACKUP looks at what its session needs next (R125, R138, R142). -/
def backupAdvance (w : W) (n : Nat) : W :=
  match w.job n with
  | none => w
  | some j =>
    if j.state.isFinished then w
    else
      match j.backup? with
      | none => w
      | some b =>
        match b.ending with
        | some (.endLocate _ _) => w
        | some (.endMark _) => w
        | some .truncMark => w
        | some (.spanMarker _) => w
        | some .spanWriteOut =>
          (match j.stream with
           | some d => if (w.stream d).unwritten = 0 then w.buildSpanMarker n d b else w
           | none => w)
        | some .closeWrite =>
          (match j.stream with
           | some d => if allWritten (w.stream d) then w.startEndMark n .closing else w
           | none => w)
        | some .truncPlace =>
          (match j.stream with
           | some d => w.truncPlaceCarry n d b.objectsBegun
           | none => w)
        | some .truncWrite =>
          (match j.stream with
           | some d =>
             if allWritten (w.stream d) then
               (w.setEnding n (some .truncMark)).askOp d .writeEndMark (.job n)
             else w
           | none => w)
        | none =>
          if b.truncating then w.truncAdvance n b
          else if b.closing then
            (match j.stream with
             | some d =>
               let s := w.stream d
               if s.intake = [] ∧ s.carry = [] ∧ s.attached.isSome ∧ s.markerWait = none then
                 w.placeSessionEnd n d b.objectsBegun
               else w
             | none => w)
          else w

/-! ## Extents begin (R133) -/

/-- The extent record a BACKUP begins (R133, step 1). -/
def newExtent (w : W) (n : Nat) (b : BackupData) (i first : Nat) : ExtentRec :=
  { session := w.sessionOf n, sequence := b.extentSeq, label := (w.labelOf i).getD [], cartridge := i,
    firstBlock := first, blockCount := 0, firstObject := none, firstChunk := 0, lastObject := none,
    chunkFrames := 0, rawBytes := 0, codedBytes := 0, continued := decide (0 < b.extentSeq), continues := false,
    endMark := false, isOpen := true, verifyState := .unverified, damagedChunks := 0 }

/-- The stream is attached with the extent's kind-3 frame, and the carry-over frames follow (R116, R133, step 3). -/
def attach (w : W) (n : Nat) (d : Drive) (b : BackupData) (i first : Nat) : W :=
  let f := startFrame (w.sessionOf n) b.extentSeq (decide (0 < b.extentSeq))
  let a : Attached := { cartridge := i, nextIndex := first }
  let s := { (w.stream d).freeBuffers with attached := some a }
  let r := (w.putStream d (s.openBlock .a a f)).placeAllCarry d
  let w1 := match r.2 with
    | .refused => r.1.beginEarlySpan n d
    | .placed => r.1
    | .waits => r.1
  w1.emit (.advance n)

/-- A mount of a BACKUP is done: an extent is begun (R133). -/
def beginExtent (w : W) (n : Nat) : W :=
  match w.job n with
  | none => w
  | some j =>
    match j.backup?, j.drive, j.cartridge with
    | some b, some d, some i =>
      let w0 := w.modJob n fun k => { k with mountStep := none }
      if 1024 ≤ b.extentSeq then w0.callTruncation n (.failed, .catalogFull)
      else if w.extentFree = false then w0.waitFor n .catalog
      else
        let first := (w.port d).position.getD ((w.knownUsed i).getD 0)
        let w1 := (w0.makeExtent (w.newExtent n b i first)).modBackup n
          fun x => { x with extentOpen := true, spanCause := none }
        (w1.setJob n .running none).attach n d b i first
    | _, _, _ => w

/-! ## Write completions (R134, R135) -/

/-- One chunk frame of a block written OK is taken for securing (R135). -/
def secureFrame (n : Nat) (label : Option Label) (block : Nat) (w : W) (f : Frame) : W :=
  match w.backupData n with
  | none => w
  | some b =>
    let h := f.header
    let start : Option PartialObject :=
      if h.chunk = 0 then
        some { object := h.object, firstLabel := label, firstBlock := block, raw := 0, coded := 0 }
      else b.part
    match start with
    | none => w
    | some p =>
      let p1 := { p with raw := p.raw + h.rawLength, coded := p.coded + f.size }
      if h.last then
        (w.modBackup n fun x => { x with part := none, securedThrough := h.object }).note
          (.objectSecured (w.sessionOf n) h.object p1.firstLabel p1.firstBlock label block p1.raw p1.coded)
      else w.modBackup n fun x => { x with part := some p1 }

/-- The three updates of R134, in order: cartridge, extent, session. -/
def countBlock (w : W) (n i : Nat) (buf : Buffer) : W :=
  let frames := buf.chunks
  let raw := rawOf frames
  let coded := codedOf frames
  let w1 := w.modCart i fun c =>
    { c with blocksUsed := .known (buf.index + 1), rawBytes := cap64 (c.rawBytes + raw),
             codedBytes := cap64 (c.codedBytes + coded) }
  let w2 := if w1.mediaOf i = some .blank then w1.setMedia i .opened .blockWrite else w1
  let sid := w.sessionOf n
  let seq := ((w.backupData n).map BackupData.extentSeq).getD 0
  let w3 := w2.modExtent sid seq fun e =>
    { e with blockCount := e.blockCount + 1, chunkFrames := min (e.chunkFrames + frames.length) max32,
             rawBytes := cap64 (e.rawBytes + raw), codedBytes := cap64 (e.codedBytes + coded),
             firstObject := e.firstObject.or (frames.head?.map fun f => f.header.object),
             firstChunk := if e.firstObject.isSome then e.firstChunk
                           else (frames.head?.map fun f => f.header.chunk).getD 0,
             lastObject := (frames.getLast?.map fun f => f.header.object).or e.lastObject }
  w3.modSession sid fun s =>
    { s with chunkCount := cap64 (s.chunkCount + frames.length), rawBytes := cap64 (s.rawBytes + raw),
             codedBytes := cap64 (s.codedBytes + coded) }

/-- A Write Block completes OK (R115, R134, R135, R138). -/
def writeOk (w : W) (n : Nat) (d : Drive) (k : BufId) : W :=
  let buf := (w.stream d).buf k
  match w.cartOf n with
  | none => w
  | some i =>
    let w1 := w.countBlock n i buf
    let w2 := buf.chunks.foldl (secureFrame n (w.labelOf i) buf.index) w1
    let w3 := w2.modStream d fun s => s.putBuf k freeBuffer
    match (w3.backupData n).bind BackupData.ending with
    | some (.spanMarker truncated) =>
      (w3.setMedia i .full .spanOrFailure).startEndMark n (.span (!truncated))
    | _ => w3.emit (.advance n)

/-! ## Failures (R126, R140, R141) -/

/-- Whether the truncation procedure is at work on the tape: R126 then takes its failures. -/
def inTruncation (w : W) (n : Nat) : Bool :=
  match w.backupData n with
  | none => false
  | some b =>
    b.truncating &&
    (match b.ending with
     | none => (match w.streamOf n with
                | some d => (w.stream d).attached.isSome
                | none => false)
     | some .truncPlace => true
     | some .truncWrite => true
     | some .truncMark => true
     | some (.endLocate .truncation _) => true
     | some (.endMark .truncation) => true
     | some (.endLocate (.span _) _) => false
     | some (.endLocate .writeFailure _) => false
     | some (.endLocate .closing _) => false
     | some (.endMark (.span _)) => false
     | some (.endMark .writeFailure) => false
     | some (.endMark .closing) => false
     | some .closeWrite => false
     | some .spanWriteOut => false
     | some (.spanMarker _) => false)

/-- A Write Block completes with WRITE-ERROR (R126, R140). -/
def writeFails (w : W) (n : Nat) (d : Drive) : W :=
  let w1 := match w.cartOf n with
    | some i => w.setMedia i .suspect .spanOrFailure
    | none => w
  if w1.inTruncation n then (w1.modStream d Stream.discardAll).startEndMark n .truncation
  else (w1.modStream d Stream.carryOver).startEndMark n .writeFailure

/-- The closing end-mark sequence of a job that the truncation procedure has been called for has ended (R124, R125, R144).
With its mark written the procedure runs attached, from its first step; without it the drive can take no write, and the
procedure's writing is over (R126; DEDUCED, log entry 29). -/
def closingTruncated (w : W) (n : Nat) (endMark : Bool) : W :=
  if endMark then (w.setEnding n none).emit (.advance n) else w.truncWritten n false

/-- The end-mark sequence has ended, with or without its mark (R136), and the rule that called it goes on. -/
def endMarkDone (w : W) (n : Nat) (why : EndFor) (endMark : Bool) : W :=
  match why with
  | .span continues => ((w.closeExtent n continues endMark).setEnding n none).spanHandOver n
  | .writeFailure =>
    ((((w.closeExtent n true endMark).setEnding n none).setJob n .spanning none).modBackup n
      fun b => { b with spanCause := some .writeFailure }).spanHandOver n
  | .closing =>
    if ((w.backupData n).map BackupData.truncating).getD false then w.closingTruncated n endMark
    else
      let auto := ((w.backupData n).map BackupData.autoVerify).getD false
      let w1 := (w.closeExtent n false endMark).setEnding n none
      let w2 := match w1.streamOf n with
        | some d => w1.modStream d fun s => { s with attached := none }
        | none => w1
      w2.sessionCloses n auto
  | .truncation => w.truncWritten n endMark

/-- The job lets go of its drive with a BACKUP's binding kept (R82). A move held for it is dropped (DESIGN CHOICE, log
entry 49). -/
def backupReleases (w : W) (n : Nat) (why : WaitReason) : W :=
  ((((w.dropHeld n).releaseBoth n).modJob n fun j => { j with mountStep := none, ticket := none }).waitFor n
    why).emit (.advance n)

/-- The cartridge of a lost write: SUSPECT after a Write Block, else FULL unless it is FULL or SUSPECT already, and
NO-END-MARK (R141). -/
def loseCartridge (w : W) (n : Nat) (wasWrite : Bool) : W :=
  match w.cartOf n with
  | some i =>
    let keep : Bool := decide (w.mediaOf i = some MediaState.full) || decide (w.mediaOf i = some MediaState.suspect)
    let w1 := if wasWrite then w.setMedia i .suspect .spanOrFailure
      else if keep then w else w.setMedia i .full .spanOrFailure
    w1.markNoEnd n true
  | none => w

/-- A write is lost (R141). -/
def loseWrite (w : W) (n : Nat) (wasWrite : Bool) : W :=
  let w1 := w.loseCartridge n wasWrite
  let w2 := match w1.streamOf n with
    | some d => w1.modStream d Stream.carryOver
    | none => w1
  let w3 := ((w2.closeExtent n true false).setEnding n none).modBackup n
    fun b => { b with spanCause := some .lost }
  w3.backupReleases n .drive

/-- Whether a write of the job is in flight. -/
def writing (w : W) (n : Nat) : Bool :=
  match w.streamOf n with
  | some d => decide (0 < (w.stream d).countIn .writing)
  | none => false

/-- A BACKUP loses its drive, or its claimed cartridge goes absent (R82, R126, R141). Inside the truncation procedure R126 takes
the frames, the extent and the job, and R141 the cartridge (DEDUCED, log entry 29). -/
def backupLetsGo (w : W) (n : Nat) (wasWrite absent : Bool) : W :=
  match w.job n with
  | none => w
  | some j =>
    match j.backup? with
    | none => w
    | some b =>
      if w.inTruncation n then (w.loseCartridge n wasWrite).truncWritten n false
      else if b.truncating ∧ b.extentOpen = false ∧ b.ending = none then w.emit (.advance n)
      else if b.extentOpen || b.ending.isSome then w.loseWrite n wasWrite
      else w.backupReleases n (if absent ∧ j.state = .mounting then .media else .drive)

/-- The result of an operation of a BACKUP's end-mark sequence, its writes or its truncation (R126, R136, R140,
R141). -/
def backupOp (w : W) (n : Nat) (d : Drive) (op : PortOp) (r : OpOutcome) : W :=
  let ending := (w.backupData n).bind BackupData.ending
  match op with
  | .writeBlock k =>
    (match r with
     | .ok => w.writeOk n d k
     | .writeError => w.writeFails n d
     | _ => w.backupLetsGo n true false)
  | .locate p =>
    (match ending with
     | some (.endLocate why retried) =>
       (match r with
        | .ok => (w.setEnding n (some (.endMark why))).askOp d .writeEndMark (.job n)
        | .blank _ =>
          if retried then (w.markNoEnd n true).endMarkDone n why false
          else (w.setEnding n (some (.endLocate why true))).askOp d (.locate p) (.job n)
        | .readError =>
          if retried then (w.markNoEnd n true).endMarkDone n why false
          else (w.setEnding n (some (.endLocate why true))).askOp d (.locate p) (.job n)
        | _ => w.backupLetsGo n false false)
     | _ => w)
  | .writeEndMark =>
    (match ending with
     | some (.endMark why) =>
       (match r with
        | .ok => (w.markNoEnd n false).endMarkDone n why true
        | .endMarkFail => (w.markNoEnd n true).endMarkDone n why false
        | _ => w.backupLetsGo n false false)
     | some .truncMark =>
       (match r with
        | .ok => (w.markNoEnd n false).truncWritten n true
        | .endMarkFail => (w.markNoEnd n true).truncWritten n false
        | _ => w.backupLetsGo n false false)
     | _ => w)
  | .load => w
  | .locateEnd => w
  | .readBlock _ => w
  | .probeRead _ => w
  | .unload => w
  | .clean => w

/-! ## Frames from the coder (R95, R114, R116) -/

/-- A frame is handed to block assembly (R114, R116). -/
def takeFrame (w : W) (n : Nat) (d : Drive) (f : Frame) : W :=
  let s := w.stream d
  let truncating := ((w.backupData n).map BackupData.truncating).getD false
  let aside : W := w.modStream d fun t => { t with carry := t.carry ++ [f] }
  if s.attached = none ∨ s.carry ≠ [] ∨ s.markerWait.isSome ∨ truncating = true then aside.emit (.advance n)
  else
    let r := w.placeFrame d f
    let w1 := match r.2 with
      | .placed => r.1
      | .refused => (r.1.modStream d fun t => { t with carry := [f] }).beginEarlySpan n d
      | .waits => r.1.modStream d fun t => { t with carry := [f] }
    w1.emit (.advance n)

/-- An encoding completes (R95, R100, R108): the coding state and counters first, then the frame to the stream the
job is bound to now. The frame of a job that has finished meanwhile is dropped. -/
def encodingEnds (w : W) : W :=
  match w.coder.busy with
  | none => w
  | some busy =>
    match busy.work with
    | .decoding _ _ _ => w
    | .encoding =>
      let w1 := w.coderIdle
      match (w.job busy.job).bind Job.stream, w.backupData busy.job with
      | some d, some b =>
        (match (w.stream d).intake.find? fun c => c.state = .coding, b.coding with
         | some c, some cs =>
           let snap := cs.installed.getD c.snapshot
           let f := encodeChunk snap cs.phase c
           let w2 := w1.modBackup busy.job fun x =>
             { x with coding := some (codingAfter cs snap c.data.length (decide (f.header.kind = 1))) }
           let w3 := w2.modStream d fun s =>
             { s with intake := s.intake.filter fun x => x.state ≠ ChunkState.coding }
           w3.takeFrame busy.job d f
         | _, _ => w1)
      | _, _ => w1

/-- Placement that was paused goes on (R116, R125, R142). -/
def resumePlacing (w : W) (d : Drive) : W :=
  let s := w.stream d
  match s.job with
  | none => w
  | some n =>
    if s.attached = none ∨ (s.carry = [] ∧ s.markerWait = none) ∨ s.bufIn .free = none then w
    else if s.carry ≠ [] then
      (if (w.backupData n).bind BackupData.ending = some .truncPlace then w.emit (.advance n)
       else
         let r := w.placeAllCarry d
         (match r.2 with
          | .refused => r.1.beginEarlySpan n d
          | .placed => r.1
          | .waits => r.1).emit (.advance n))
    else
      match s.markerWait with
      | none => w
      | some f =>
        let r := (w.modStream d fun t => { t with markerWait := none }).placeFrame d f
        (match r.2 with
         | .placed => (r.1.modStream d Stream.closeOpen).emit (.advance n)
         | .refused => w
         | .waits => w)

/-- Whether a job is a BACKUP WAITING with reason CATALOG that goes on when a record is free: one that the truncation
procedure has been called for does not (R124, R133). -/
def waitsForRecord (j : Job) : Bool :=
  decide (j.state = .waiting) && decide (j.waitReason = some .catalog) &&
  (match j.progress with
   | .backup b => !b.truncating
   | .verify _ => false
   | .restore _ => false
   | .clean => false)

/-- A job that waits for an extent record takes one, if one is free (R133). -/
def takeRecord (w : W) (n : Nat) : W :=
  if w.extentFree ∧ (w.job n).any waitsForRecord = true then w.beginExtent n else w

/-- The BACKUP jobs WAITING with reason CATALOG take free extent records in increasing `seq`, one each, while records
remain (R133, R150). -/
def serveCatalogWaits (w : W) : W :=
  ((sortBy Job.seq (w.js.jobs.filter waitsForRecord)).map Job.id).foldl takeRecord w

end W
end Sys2Proof.Machine
end

