-- ==== Sys2Proof/Machine/Verify.lean ====
section
/-! DEFINITION. What a VERIFY does with what its stream hands it (chapter 9): entering blocks, chunk frames, markers,
unreadable blocks, the end of the range, and the found extents of a REBUILD. -/

namespace Sys2Proof.Machine

/-- Whether a block lies in an extent (R164). -/
def ExtentRec.holdsBlock (e : ExtentRec) (b : Nat) : Bool :=
  decide (e.firstBlock ≤ b) && decide (b < e.firstBlock + e.blockCount)

/-- The last block of an extent. -/
def ExtentRec.lastBlock (e : ExtentRec) : Nat := e.firstBlock + e.blockCount - 1

/-- `expect` when an extent becomes `current` (R164). -/
def startExpect (e : ExtentRec) : Expect :=
  match e.firstObject with
  | some o => .frame o e.firstChunk
  | none => .lost

/-- A found extent as its kind-3 frame gives it (R170). -/
def newFound (h : FrameHeader) (b : Nat) : FoundExtent :=
  { session := h.session, sequence := h.chunk, firstBlock := b, continued := h.continued, continues := false,
    sawTruncated := false, firstObject := none, firstChunk := 0, lastObject := none, chunkFrames := 0, raw := 0,
    coded := 0, ownEnd := none }

/-- A chunk frame's header is collected (R170). The counts stay at the largest values of R149 (log entry 33). -/
def FoundExtent.collect (f : FoundExtent) (h : FrameHeader) : FoundExtent :=
  { f with firstObject := f.firstObject.or (some h.object),
           firstChunk := if f.firstObject.isSome then f.firstChunk else h.chunk,
           lastObject := some h.object, chunkFrames := min (f.chunkFrames + 1) max32,
           raw := cap64 (f.raw + h.rawLength), coded := cap64 (f.coded + 16 + h.payloadLength) }

namespace W

/-- The catalog records of a VERIFY's `extents`, with their check states. -/
def verifyExtents (w : W) (v : VerifyData) : List (VExtent × ExtentRec) :=
  v.extents.filterMap fun x => (w.extent x.session x.sequence).map fun e => (x, e)

/-- Whether a VERIFY's `filter` admits a session (R163). -/
def verifyAdmits (w : W) (v : VerifyData) (session : Nat) : Bool :=
  if v.all && v.rebuild then
    match w.session session with
    | some s => decide (s.state ≠ .opened)
    | none => true
  else v.selected.contains session

/-- Change the tally of `current`, or the job totals when no extent is current. -/
def modTallyOf (w : W) (n : Nat) (f : Tally → Tally) : W :=
  w.modVerify n fun d =>
    match d.current with
    | .none => { d with totals := f d.totals }
    | .known _ _ => { d with tally := f d.tally }
    | .found _ => { d with tally := f d.tally }

/-- A pin on a session the REBUILD has created (R156). -/
def pinFor (w : W) (n session : Nat) : W :=
  w.modJob n fun j => { j with pins := if j.pins.contains session then j.pins else j.pins ++ [session] }

/-! ## Found extents (R170, R171) -/

/-- The extent a REBUILD hands to the catalog. -/
def foundInput (w : W) (f : FoundExtent) (i count : Nat) (mark : Bool) : ExtentIn :=
  { session := f.session, sequence := f.sequence, label := (w.labelOf i).getD [], firstBlock := f.firstBlock,
    blockCount := count, firstObject := f.firstObject.getD 0, firstChunk := f.firstChunk,
    lastObject := f.lastObject.getD 0, chunkFrames := f.chunkFrames, rawBytes := f.raw, codedBytes := f.coded,
    flags := flagBit f.continued 0 + flagBit f.continues 1 + flagBit mark 2,
    pool := ((w.cart i).map CartRec.pool).getD 0, hostTag := List.replicate 8 0#8 }

/-- A job comes to rest and then ends as given (R121, R169, R180); one without a stream is at rest. -/
def restThenEnd (w : W) (n : Nat) (how : JobState × JobResult) : W :=
  let w1 := w.modJob n fun j => { j with endAs := j.endAs.or (some how), yielding := false }
  match w1.streamOf n with
  | some d => (w1.modStream d fun s => { s with stopping := some .abort }).emit (.parse d)
  | none => w1.endJob n how.1 how.2

/-- A found extent is handed to the catalog, which answers, and is then ended (R168, R171). TRUNCATED read in it reaches the
session where the extent is accepted, not where it is ALREADY-KNOWN (R148; DESIGN CHOICE, log entry 30). -/
def handFound (w : W) (n i : Nat) (v : VerifyData) (f : FoundExtent) (e : ExtentIn) (t : Tally) : W :=
  let known : Bool := match w.extent f.session f.sequence with
    | some x => decide (x.cartridge = i)
    | none => false
  if known then w.recordVerdict n f.session f.sequence t
  else
    match w.extentAnswer e (some n) with
    | .ok =>
      let isNew := (w.session f.session).isNone
      let w1 := w.takeExtent e .rebuilt
      let w2 := if isNew then w1.pinFor n f.session else w1
      let w3 := if f.sawTruncated then
          w2.modSession f.session fun s =>
            if s.origin = .rebuilt ∧ s.state = .closed then { s with state := .truncated } else s
        else w2
      (w3.modVerify n fun d => { d with rebuilt := d.rebuilt + 1 }).recordVerdict n f.session f.sequence t
    | .catalogFull =>
      (w.noteVerdict n i t).restThenEnd n (.failed, .catalogFull)
    | answer =>
      W.noteVerdict
        ((w.modVerify n fun d =>
          { d with conflicts := d.conflicts + 1,
                   skipped := if v.skipped.contains f.session then d.skipped else d.skipped ++ [f.session] }).note
          (.conflict f.session f.sequence ((w.labelOf i).getD []) f.firstBlock e.blockCount answer)) n i t

/-- The found extent that is current ends at the last block parsed (R170). `markAt` is the block of the end mark, when
the end of recorded data was one. -/
def endFound (w : W) (n : Nat) (markAt : Option Nat) : W :=
  match w.verifyData n, w.cartOf n with
  | some v, some i =>
    (match v.current with
     | .found f =>
       let last := v.lastParsed.getD f.firstBlock
       let e := w.foundInput f i (last + 1 - f.firstBlock) (decide (markAt = some (last + 1)))
       w.handFound n i v f e (endTally v.tally v.firstUnreadable v.expect f.lastObject f.continues)
     | .known _ _ => w
     | .none => w)
  | _, _ => w

/-- Whatever extent is current is ended (R168, R170). -/
def endCurrent (w : W) (n : Nat) (markAt : Option Nat) : W := (w.endFound n markAt).endChecking n

/-! ## Entering a block (R164) -/

/-- An extent of the catalog becomes CHECKING and `current`. -/
def makeCurrent (w : W) (n : Nat) (e : ExtentRec) : W :=
  w.modVerify n fun d =>
    { d with
        current := .known e.session e.sequence, expect := startExpect e, tally := zeroTally,
        firstUnreadable := false,
        extents := d.extents.map fun (x : VExtent) =>
          if x.session = e.session ∧ x.sequence = e.sequence then { x with check := .checking } else x }

/-- A found extent that is current ends before a block that comes after its own kind-4 frame or begins an extent the
catalog holds on the cartridge (R170). -/
def foundBoundary (w : W) (n b : Nat) : W :=
  match w.verifyData n, w.cartOf n with
  | some v, some i =>
    (match v.current with
     | .found f =>
       let past : Bool := f.ownEnd.any fun e => decide (e < b)
       let holds : Bool := (w.extentsOn i).any fun e => decide (e.firstBlock = b)
       if past || holds then w.endFound n none else w
     | .known _ _ => w
     | .none => w)
  | _, _ => w

/-- The job compares a block's index with the extents, once for each block (R164). -/
def enterBlock (w : W) (n b : Nat) : W :=
  match w.verifyData n with
  | none => w
  | some v =>
    if v.entered = some b then w
    else
      let w1 := (w.modVerify n fun d => { d with entered := some b }).foundBoundary n b
      match (w1.verifyData n).map fun v1 => (w1.verifyExtents v1).find? fun p =>
          decide (p.1.check = CheckState.pending) && p.2.holdsBlock b with
      | some (some p) => (w1.endCurrent n none).makeCurrent n p.2
      | some none => w1
      | none => w1

/-! ## Chunk frames (R164, R165) -/

/-- Whether a frame is counted to `current`: its block lies in it and its session is its own (R164). -/
def countsToCurrent (w : W) (v : VerifyData) (b session : Nat) : Bool :=
  match v.current with
  | .known s q =>
    (match w.extent s q with
     | some e => e.holdsBlock b && decide (s = session)
     | none => false)
  | .found f => decide (f.firstBlock ≤ b) && decide (f.session = session)
  | .none => false

/-- A chunk frame's result record (R165). The frames of a session that has been skipped are stray (R171). -/
def verifyFrame (w : W) (n : Nat) (r : ResultRec) : W :=
  let w1 := w.enterBlock n r.block
  match w1.verifyData n with
  | none => w1
  | some v =>
    if v.skipped.contains r.header.session = false ∧ w1.countsToCurrent v r.block r.header.session = true then
      let bad : Nat := match r.result with
        | .ok _ => 0
        | .corrupt _ => 1
        | .mismatch => 1
      let c := sequenceCheck v.expect r.header.object r.header.chunk r.header.last
      w1.modVerify n fun d =>
        { d with
            tally := { d.tally with framesChecked := d.tally.framesChecked + 1,
                                    damaged := d.tally.damaged + bad + c.1 },
            expect := c.2,
            current := match d.current with
              | .found f => .found (f.collect r.header)
              | .known s q => .known s q
              | .none => .none }
    else w1.modVerify n fun d => { d with stray := min (d.stray + 1) max32 }

/-! ## Markers (R167, R170) -/

/-- Whether a kind-3 frame stands where one of the session's extents in `extents` begins, and matches it (R167). -/
def startMatches (w : W) (v : VerifyData) (h : FrameHeader) (b offset : Nat) : Bool :=
  decide (offset = 0) &&
  ((w.verifyExtents v).any fun p =>
    decide (p.2.session = h.session) && decide (p.2.firstBlock = b) && decide (p.2.sequence = h.chunk) &&
      decide (p.2.continued = h.continued))

/-- The extent in `extents` that a kind-3 frame of a REBUILD is already known as (R170). -/
def startKnown (w : W) (v : VerifyData) (h : FrameHeader) (b : Nat) : Bool :=
  (w.verifyExtents v).any fun p =>
    decide (p.2.session = h.session) && decide (p.2.sequence = h.chunk) && decide (p.2.firstBlock = b)

/-- A kind-3 frame checked against `extents` (R167). -/
def checkStart (w : W) (n : Nat) (v : VerifyData) (h : FrameHeader) (b offset : Nat) : W :=
  if w.startMatches v h b offset then
    w.modVerify n fun d => { d with tally := { d.tally with kind3Seen := true } }
  else w.modTallyOf n Tally.markerFault

/-- A kind-3 frame (R167, R170). A skipped session's begins no found extent (R171), so R167 checks it when the session
is selected. -/
def verifyStart (w : W) (n : Nat) (h : FrameHeader) (b offset : Nat) : W :=
  match w.verifyData n with
  | none => w
  | some v =>
    if v.rebuild then
      let w1 := if offset = 0 then w.endFound n none else w
      match w1.verifyData n with
      | none => w1
      | some v1 =>
        if w1.verifyAdmits v1 h.session = true ∧ offset = 0 ∧ w1.startKnown v1 h b = false ∧
            v1.skipped.contains h.session = false then
          (w1.endChecking n).modVerify n fun d =>
            { d with current := .found (newFound h b), expect := .lost,
                     tally := { zeroTally with kind3Seen := true }, firstUnreadable := false }
        else if v1.selected.contains h.session then w1.checkStart n v1 h b offset
        else w1
    else if v.selected.contains h.session then w.checkStart n v h b offset
    else w

/-- The session-record part of the checks of a kind-4 frame without CONTINUES (R167). -/
def endCountOk (w : W) (session count : Nat) : Bool :=
  match w.session session with
  | some s => if s.origin = .written then decide (count = s.objectsBegun) else decide (s.objectsBegun ≤ count)
  | none => true

/-- Whether a kind-4 frame fits the extent of the catalog it lies in (R167). -/
def endFits (w : W) (e : ExtentRec) (h : FrameHeader) : Bool :=
  if h.continues then e.continues && decide ((e.lastObject.getD 0) ≤ h.object)
  else if h.truncated then
    !e.continues && w.endCountOk e.session h.object &&
      (match w.session e.session with
       | some s => decide (s.state = .truncated) || decide (s.origin = .rebuilt)
       | none => false)
  else
    !e.continues && w.endCountOk e.session h.object &&
      decide ((((w.extentsOf e.session).getLast?).map ExtentRec.sequence) = some e.sequence)

/-- A kind-4 frame (R167, R170). Outside `current` it is a fault when its session is selected, and is not checked
when it is not. TRUNCATED in an extent the catalog holds makes a CLOSED REBUILT session TRUNCATED, without REBUILD too (R148).
There a frame that fails a check of R167 is a fault and tells nothing of its session; in a found extent, whose record it makes,
its flag is taken although its object number is a fault (DESIGN CHOICE, log entry 30). -/
def verifyEnd (w : W) (n : Nat) (h : FrameHeader) (b : Nat) : W :=
  match w.verifyData n with
  | none => w
  | some v =>
    let faulted : W := if v.selected.contains h.session then w.modTallyOf n Tally.markerFault else w
    match v.current with
    | .found f =>
      if w.countsToCurrent v b h.session then
        let w1 := if decide ((f.lastObject.getD 0) ≤ h.object) then w else w.modTallyOf n Tally.markerFault
        let f1 : FoundExtent :=
          { f with continues := f.continues || h.continues,
                   sawTruncated := f.sawTruncated || h.truncated, ownEnd := f.ownEnd.or (some b) }
        w1.modVerify n fun d => { d with current := .found f1 }
      else faulted
    | .known s q =>
      (match w.extent s q with
       | some e =>
         if w.countsToCurrent v b h.session && w.endFits e h then
           (if h.truncated then
             w.modSession s fun r =>
               if r.origin = .rebuilt ∧ r.state = .closed then { r with state := .truncated } else r
            else w)
         else faulted
       | none => faulted)
    | .none => faulted

/-- A marker handed on to a VERIFY (R119, R164, R167). -/
def verifyMarker (w : W) (n : Nat) (h : FrameHeader) (b offset : Nat) : W :=
  let w1 := w.enterBlock n b
  if h.kind = 3 then w1.verifyStart n h b offset else w1.verifyEnd n h b

/-- HEADER-BAD in a block of `current` (R166). Where it is the first outcome of its block, the block is compared with the
extents first, so it counts for the extent entered (DESIGN CHOICE, log entry 45). -/
def verifyHeaderBad (w : W) (n b : Nat) : W :=
  let w1 := w.enterBlock n b
  match w1.verifyData n with
  | none => w1
  | some v =>
    let inside : Bool := match v.current with
      | .known s q => (match w1.extent s q with
                       | some e => e.holdsBlock b
                       | none => false)
      | .found f => decide (f.firstBlock ≤ b)
      | .none => false
    if inside then w1.modTallyOf n fun t => { t with headerBad := t.headerBad + 1 } else w1

/-! ## The range (R163, R166, R169) -/

/-- The job finishes DONE (R169). -/
def verifyFinish (w : W) (n : Nat) : W :=
  match w.verifyData n with
  | none => w
  | some v => w.endJob n .done (if v.damageFound = false ∧ v.conflicts = 0 then .ok else .damaged)

/-- Every extent not ENDED is ended in turn; `from_` is where the end of recorded data was met, if it was (R163). A PENDING one
is made current first, so that its end check is made with the `expect` it would begin with (DESIGN CHOICE, log entry 45). -/
def endRemaining (n : Nat) (from_ : Option Nat) (w : W) (x : VExtent) : W :=
  match w.extent x.session x.sequence, w.verifyData n with
  | some e, some v =>
    let now := (v.extents.find? fun y => y.session = x.session ∧ y.sequence = x.sequence).map VExtent.check
    if now = some CheckState.ended ∨ now = none then w
    else
      let w1 := if now = some CheckState.pending then (w.endCurrent n none).makeCurrent n e else w
      let missing : Nat := match from_ with
        | some b => (e.firstBlock + e.blockCount) - max b e.firstBlock
        | none => 0
      let w2 := if 0 < missing then
          w1.modTallyOf n fun t => { t with missingBlocks := t.missingBlocks + missing, damaged := t.damaged + 1 }
        else w1
      w2.endChecking n
  | _, _ => w

/-- The range has been read to its end (R163). -/
def verifyRangeEnd (w : W) (n : Nat) (from_ : Option Nat) : W :=
  match w.verifyData n with
  | none => w
  | some v => (v.extents.foldl (endRemaining n from_) w).verifyFinish n

/-- Whether a VERIFY is ending by another rule already. -/
def isEnding (w : W) (n : Nat) : Bool := ((w.job n).bind Job.endAs).isSome

/-- Block parsed (R163, R168). `last` says it is the last block of the range; a job that is ending already, an abort accepted
before included, ends as that rule says (DESIGN CHOICE, log entry 45). -/
def verifyBlockParsed (w : W) (n b : Nat) (last : Bool) : W :=
  let w1 := (w.enterBlock n b).modVerify n fun d => { d with lastParsed := some b }
  let w2 := match (w1.verifyData n).map VerifyData.current with
    | some (.known s q) =>
      (match w1.extent s q with
       | some e => if e.lastBlock = b then w1.endChecking n else w1
       | none => w1)
    | some (.found _) => w1
    | some .none => w1
    | none => w1
  if last && !w2.isEnding n then w2.verifyRangeEnd n none else w2

/-- An unreadable block (R166). -/
def verifyUnreadable (w : W) (n b : Nat) (last : Bool) : W :=
  let w1 := w.enterBlock n b
  let hit (t : Tally) : Tally := { t with unreadable := t.unreadable + 1, damaged := t.damaged + 1 }
  let lose (w' : W) (first : Bool) : W :=
    (w'.modTallyOf n hit).modVerify n fun d =>
      { d with expect := .lost, firstUnreadable := d.firstUnreadable || first }
  let aside : W := w1.modVerify n fun d =>
    { d with totals := { d.totals with unreadable := min (d.totals.unreadable + 1) max32 } }
  let w2 := match (w1.verifyData n).map VerifyData.current with
    | some (.known s q) =>
      (match w1.extent s q with
       | some e =>
         if e.holdsBlock b then
           (let w' := lose w1 (decide (e.firstBlock = b))
            if e.lastBlock = b then w'.endChecking n else w')
         else aside
       | none => aside)
    | some (.found _) => lose w1 false
    | some .none => aside
    | none => aside
  if last && !w2.isEnding n then w2.verifyRangeEnd n none else w2

/-- The end of recorded data at a block (R163, R170). -/
def verifyDataEnd (w : W) (n b : Nat) (mark : Bool) : W :=
  let w1 := w.endFound n (if mark then some b else none)
  if w1.isEnding n then w1 else w1.verifyRangeEnd n (some b)

/-! ## Removed extents (R162) -/

/-- Whether an extent is the one the range begins at: the first that is not ENDED (R163). -/
def beginsRange (v : VerifyData) (session sequence : Nat) : Bool :=
  (((v.extents.filter fun x => x.check ≠ CheckState.ended).head?).map fun x => (x.session, x.sequence)) =
    some (session, sequence)

/-- An extent of the VERIFY's sessions has been removed from the catalog (R154, R162, R172). -/
def verifyExtentRemoved (w : W) (n session sequence : Nat) : W :=
  match w.verifyData n with
  | none => w
  | some v =>
    let w1 := w.modVerify n fun d =>
      { d with
          extents := d.extents.filter fun x => !(decide (x.session = session) && decide (x.sequence = sequence)),
          current := if d.current = .known session sequence then .none else d.current,
          tally := if d.current = .known session sequence then zeroTally else d.tally,
          firstMoved := d.firstMoved || beginsRange d session sequence }
    let left := (w1.verifyData n).map VerifyData.extents
    if left = some [] ∧ v.extents ≠ [] ∧ v.rebuild = false then w1.endJob n .failed .extentRemoved else w1

/-! ## Admission (R161, R162) -/

/-- The sessions that have an extent on a cartridge, in increasing id. -/
def sessionsOn (w : W) (i : Nat) : List Nat :=
  (w.cg.sessions.map SessionRec.id).filter fun s => (w.extentsOn i).any fun e => decide (e.session = s)

/-- The sessions a VERIFY selects (R162). -/
def verifySelects (w : W) (i : Nat) (session : Option Nat) : List Nat :=
  match session with
  | some s => [s]
  | none => (w.sessionsOn i).filter fun s =>
      decide ((w.session s).map SessionRec.state ≠ some SessionState.opened)

/-- The sessions a VERIFY pins (R154, R161). -/
def verifyPins (w : W) (i : Nat) (session : Option Nat) : List Nat :=
  match session with
  | some s => if (w.session s).isSome then [s] else []
  | none => w.sessionsOn i

/-- A VERIFY's progress at its admission (R162). -/
def startVerifyData (w : W) (i : Nat) (session : Option Nat) (rebuild : Bool) : VerifyData :=
  let selected := w.verifySelects i session
  { all := session.isNone, rebuild := rebuild, selected := selected,
    extents := ((w.extentsOn i).filter fun e => selected.contains e.session).map fun e =>
      { session := e.session, sequence := e.sequence, check := CheckState.pending, tally := zeroTally },
    current := .none, expect := .unset, tally := zeroTally, totals := zeroTally, stray := 0, rebuilt := 0,
    conflicts := 0, endedVerified := 0, endedDamaged := 0, damageFound := false, skipped := [], entered := none,
    lastParsed := none, firstUnreadable := false, firstMoved := false }

/-- A VERIFY is admitted for a cartridge (R72, R161). -/
def admitVerify (w : W) (i : Nat) (label : Label) (session : Option Nat) (rebuild : Bool) : W × Option Nat :=
  w.admitJob .verify session (.label label) (.verify (w.startVerifyData i session rebuild)) (w.verifyPins i session)

/-- A label of a closed session asks for its VERIFY; an admission that fails queues VERIFY NOT QUEUED (R143). -/
def autoVerifyOne (session : Nat) (w : W) (e : Nat × Label) : W :=
  let r := w.admitVerify e.1 e.2 (some session) false
  match r.2 with
  | some _ => r.1
  | none => r.1.note (.verifyNotQueued session e.2)

/-- One VERIFY for each cartridge of a closed session, in the order of its extents, once per label (R143). -/
def autoVerify (w : W) (session : Nat) : W :=
  (((w.extentsOf session).map fun e => (e.cartridge, e.label)).eraseDups).foldl (autoVerifyOne session) w

/-! ## The mount (R163) -/

/-- The limit of a VERIFY's reading: the last block of its last extent, or the end mark in a REBUILD (R163). -/
def verifyLimit (w : W) (v : VerifyData) : ReadLimit :=
  if v.rebuild then .endMark
  else
    match ((w.verifyExtents v).getLast?).map Prod.snd with
    | some e => .block e.lastBlock
    | none => .block 0

end W
end Sys2Proof.Machine
end

