-- ==== Sys2Proof/Machine/Restore.lean ====
section
/-! DEFINITION. What a RESTORE does (chapter 10): the chain, decoding results, damage, substitutes, the crossing of
links, relocation from a hint, READ DATA's part of the queue, and the job's completion. -/

namespace Sys2Proof.Machine

/-! ## Availability (R175) -/

/-- Whether an extent holds an object. -/
def ExtentRec.holdsObject (e : ExtentRec) (o : Nat) : Bool :=
  match e.firstObject, e.lastObject with
  | some a, some b => decide (a ≤ o) && decide (o ≤ b)
  | some _, none => false
  | none, _ => false

/-- Whether sequence numbers are consecutive. -/
def consecutive : List ExtentRec → Bool
  | [] => true
  | e :: rest =>
    (match rest.head? with
     | some f => decide (f.sequence = e.sequence + 1)
     | none => true) && consecutive rest

/-- Whether an object is available in a session's chain of extents (R175). -/
def objectAvailable (l : List ExtentRec) (o : Nat) : Bool :=
  let held := l.filter fun e => e.holdsObject o
  match held.head?, held.getLast? with
  | some a, some z =>
    consecutive held &&
    (decide (a.firstObject ≠ some o) || decide (a.firstChunk = 0)) &&
    (decide (z.lastObject ≠ some o) || !z.continues || (l.any fun e => decide (e.sequence = z.sequence + 1)))
  | _, _ => false

/-- The objects from one number to another. -/
def objectRange (a b : Nat) : List Nat := (List.range (b + 1 - a)).map (· + a)

/-- An extent as a link (R174). -/
def linkOf (e : ExtentRec) : Link :=
  { sequence := e.sequence, label := e.label, cartridge := e.cartridge, firstBlock := e.firstBlock,
    blockCount := e.blockCount, firstObject := e.firstObject.getD 0, firstChunk := e.firstChunk,
    lastObject := e.lastObject.getD 0, continues := e.continues }

/-- The chain: the extents that hold an available object of the range (R175). -/
def chainOf (l : List ExtentRec) (first last : Nat) (gone : List Nat) : List Link :=
  (l.filter fun e => (objectRange first last).any fun o => e.holdsObject o && !gone.contains o).map linkOf

/-- The next object after `o`, up to `last`, that is not absent. -/
def nextAfter (o last : Nat) (gone : List Nat) : Option Nat :=
  (objectRange (o + 1) last).find? fun p => !gone.contains p

/-- A link's last block (R176). -/
def Link.lastBlock (l : Link) : Nat := l.firstBlock + l.blockCount - 1

/-- Whether a link holds an object. -/
def Link.holds (l : Link) (o : Nat) : Bool := decide (l.firstObject ≤ o) && decide (o ≤ l.lastObject)

/-- An entry of zeros in place of lost bytes (R181). -/
def zeroEntry (o chunk offset size : Nat) (final : Bool) : OutEntry :=
  { object := o, chunk := chunk, offset := offset, data := List.replicate size 0#8, damaged := true,
    endOfObject := final }

/-- The result a RESTORE ends DONE with (R183). -/
def restoreOutcome (r : RestoreData) : JobResult :=
  if r.substituted = 0 ∧ r.absent = 0 then .ok else if 0 < r.absent then .incomplete else .damaged

namespace W

/-- A RESTORE's progress. -/
def restoreData (w : W) (n : Nat) : Option RestoreData := (w.job n).bind Job.restore?

/-- A CHUNK DAMAGED notice (R179). -/
def damageNotice (w : W) (n o chunk count : Nat) (cause : DamageCause) (label : Option Label) (block : Nat) : W :=
  w.note (.chunkDamaged n (w.sessionOf n) o chunk count cause label block)

/-- The label of the link being read. -/
def linkLabel (w : W) (n : Nat) : Option Label :=
  ((w.restoreData n).bind RestoreData.link).map Link.label

/-- The job moves on from `nextObject` to the next object that is not absent (R174). -/
def passObject (w : W) (n : Nat) : W :=
  w.modRestore n fun r =>
    { r with nextObject := r.nextObject.bind fun o => nextAfter o r.lastObject r.absentObjects,
             expect := 0, found := false, objectOffset := 0 }

/-- An object is reported absent (R175, R177). -/
def reportAbsent (w : W) (n o : Nat) (cause : DamageCause) (label : Option Label) (block : Nat) : W :=
  let w1 := (w.damageNotice n o 65535 0 cause label block).modRestore n fun r =>
    { r with absent := r.absent + 1, absentObjects := r.absentObjects ++ [o] }
  if (w1.restoreData n).bind RestoreData.nextObject = some o then w1.passObject n else w1

/-- The job ends DONE once `nextObject` is none and its queue is empty (R183): nothing is left to add then. -/
def restoreDone (w : W) (n : Nat) : W :=
  match w.restoreData n with
  | none => w
  | some r =>
    if r.nextObject = none ∧ r.out = [] then w.endJob n .done (restoreOutcome r) else w

/-! ## Entries (R177, R181) -/

/-- An entry at the queue's tail; one with END-OF-OBJECT completes its object. `substituted` stays at 16,777,215, the end of its
range (R174; log entry 33). -/
def addEntry (w : W) (n : Nat) (e : OutEntry) : W :=
  let w1 := w.modRestore n fun r =>
    { r with out := r.out ++ [e], objectOffset := r.objectOffset + e.data.length, expect := e.chunk + 1, found := true,
             delivered := r.delivered + (if e.endOfObject then 1 else 0),
             substituted := min (r.substituted + (if e.damaged then 1 else 0)) largestObjectNumber }
  if e.endOfObject then w1.passObject n else w1

/-- Something left to do is put at the head of what is left. -/
def putFirst (w : W) (n : Nat) (l : List RAction) : W := w.modRestore n fun r => { r with todo := l ++ r.todo }

/-- Damage is taken by the policy (R180, R181): the notice, then the stop, or what is delivered in its place. -/
def takeDamage (w : W) (n o chunk count : Nat) (cause : DamageCause) (block : Nat) (instead : List RAction) : W :=
  match w.restoreData n with
  | none => w
  | some r =>
    let w1 := w.damageNotice n o chunk count cause (w.linkLabel n) block
    match r.policy with
    | .stop => (w1.modRestore n fun x => { x with stopped := true, todo := [] }).restThenEnd n (.failed, .damaged)
    | .substitute => w1.putFirst n instead

/-- Whether the job is being aborted (R183). -/
def isAborted (w : W) (n : Nat) : Bool := ((w.job n).map Job.abortPending).getD false

/-- The action for the chunk expected next (R177). -/
def takeExpected (w : W) (n : Nat) (res : ResultRec) (r : RestoreData) : W :=
  let h := res.header
  match res.result with
  | .ok bytes =>
    w.addEntry n { object := h.object, chunk := h.chunk, offset := r.objectOffset, data := bytes, damaged := false,
                   endOfObject := h.last }
  | .corrupt _ =>
    if w.isAborted n then w
    else w.takeDamage n h.object h.chunk 1 .frameCorrupt res.block
      [.substitute (if h.last then h.rawLength else chunkSize) h.last]
  | .mismatch =>
    if w.isAborted n then w
    else w.takeDamage n h.object h.chunk 1 .crcMismatch res.block
      [.substitute (if h.last then h.rawLength else chunkSize) h.last]

/-- A decoding result compared with `nextObject` and `expect` (R177). A job being aborted takes no damage; an absence NOT-FOUND
is no damage, and the frame that reveals it is taken all the same (R183; log entry 31). -/
def takeResult (w : W) (n : Nat) (res : ResultRec) : W :=
  match w.restoreData n with
  | none => w
  | some r =>
    match r.nextObject with
    | none => w
    | some e =>
      let o := res.header.object
      let i := res.header.chunk
      if r.stopped ∨ o < e ∨ (o = e ∧ i < r.expect) then w
      else if o = e ∧ i = r.expect then w.takeExpected n res r
      else if e < o ∧ r.found = false then
        (w.reportAbsent n e .notFound (w.linkLabel n) res.block).putFirst n [.take res]
      else if w.isAborted n then w
      else if o = e then
        w.takeDamage n e r.expect (i - r.expect) .gap res.block
          (List.replicate (i - r.expect) (.substitute chunkSize false) ++ [.take res])
      else w.takeDamage n e 65535 1 .missingFinal res.block [.substitute 0 true, .take res]

/-- A substitute entry (R181). -/
def addSubstitute (w : W) (n size : Nat) (final : Bool) : W :=
  match w.restoreData n with
  | none => w
  | some r =>
    match r.nextObject with
    | none => w
    | some e => w.addEntry n (zeroEntry e r.expect r.objectOffset size final)

/-! ## The end of a link (R178) -/

/-- The job reads no more (R178, item 2). -/
def stopReading (w : W) (n : Nat) : W :=
  let w1 := w.modRestore n fun r => { r with link := none }
  match w1.streamOf n with
  | some d => w1.modStream d fun s => { s with nextRead := none, readLimit := none }
  | none => w1

/-- What is read ahead is dropped and a Locate is asked for, after which reading begins again (R176, R178). -/
def readFrom (w : W) (n : Nat) (l : Link) : W :=
  let drop (b : Buffer) : Buffer := if b.state = .reading then b else freeBuffer
  let w1 := w.modRestore n fun r => { r with relocating := true }
  match w1.streamOf n with
  | none => w1
  | some d =>
    (w1.modStream d fun s =>
      { s with bufA := drop s.bufA, bufB := drop s.bufB, parseOffset := none, presented := none, startAt := none,
               news := none, nextRead := some l.firstBlock, readLimit := some (.block l.lastBlock),
               seek := some { target := l.firstBlock, purpose := .link, retried := false, inFlight := false } }).emit
      (.parse d)

/-- The next link is taken (R178, item 3). A job that holds no drive stays QUEUED or WAITING as it is. -/
def takeLink (w : W) (n : Nat) (l : Link) : W :=
  let w1 := w.modRestore n fun r =>
    { r with link := some l, filterFrom := r.nextObject.getD r.filterFrom,
             hint := if r.hint = .none then .none else .spent, fromHint := false, hinted := false }
  let asks (v : W) : W := v.modJob n fun j => { j with target := .label l.label, resumePoint := none, kept := none }
  if w1.streamOf n = none then (asks w1).wantDispatch
  else if w1.cartOf n = some l.cartridge then w1.readFrom n l
  else (((asks w1).releaseBoth n).setJob n .queued none).wantDispatch

/-- Items 2 and 3 of a link's end (R178). -/
def linkNext (w : W) (n : Nat) : W :=
  match w.restoreData n with
  | none => w
  | some r =>
    match r.nextObject, r.link with
    | none, _ => (w.stopReading n).restoreDone n
    | some _, none => w
    | some o, some l =>
      match r.chain.find? fun x => decide (l.sequence < x.sequence) && decide (o ≤ x.lastObject) with
      | some x => w.takeLink n x
      | none => w.stopReading n

/-- The objects found absent at a link's end (R177, R178): those of the link, or those with no later link. -/
def linkMisses (r : RestoreData) (l : Link) (dataEnd : Bool) : List Nat :=
  match r.nextObject with
  | none => []
  | some e =>
    (objectRange e (min r.lastObject l.lastObject)).filter fun o =>
      !r.absentObjects.contains o && (decide (o ≠ e) || !r.found) &&
        ((dataEnd && l.holds o) || !(r.chain.any fun x => decide (l.sequence < x.sequence) && x.holds o))

/-- Whether the object in progress goes on in the next link (R178, item 1). -/
def continuesNext (r : RestoreData) (l : Link) (e : Nat) : Bool :=
  match r.chain.find? fun x => decide (l.sequence < x.sequence) with
  | some x => decide (x.sequence = l.sequence + 1) && decide (x.firstObject = e)
  | none => false

/-- A link ends at a block (R178). -/
def linkEnds (w : W) (n block : Nat) (dataEnd : Bool) : W :=
  match w.restoreData n with
  | none => w
  | some r =>
    match r.link with
    | none => w
    | some l =>
      if r.stopped ∨ w.isEnding n = true ∨ w.isAborted n = true then w
      else
        let missing : Option Nat := r.nextObject.filter fun e => r.found && !continuesNext r l e
        let w1 := match missing with
          | some e => w.takeDamage n e 65535 1 .missingFinal block [.substitute 0 true, .linkNext]
          | none => w.putFirst n [.linkNext]
        if w1.isEnding n then w1
        else (linkMisses r l dataEnd).foldl
          (fun (v : W) o => v.reportAbsent n o .notFound (some l.label) block) w1

/-! ## What is left to do (R181) -/

/-- One action, taken off the list first. -/
def doAction (w : W) (n : Nat) : RAction → W
  | .substitute size final => w.addSubstitute n size final
  | .take res => w.takeResult n res
  | .linkNext => w.linkNext n

/-- Whether an action needs a free place in the queue. -/
def needsPlace : RAction → Bool
  | .substitute _ _ => true
  | .take _ => true
  | .linkNext => false

/-- Whether the job may cross to its next link now: RUNNING, losing its drive, or QUEUED or WAITING without one; a HELD job
crosses once it is RUNNING again, and a MOUNTING one once its mount is done (R85, R175). -/
def mayCross (w : W) (n : Nat) : Bool :=
  let state := (w.job n).map Job.state
  decide (state = some .running) || decide (state = some .queued) || decide (state = some .waiting) ||
    (match w.streamOf n with
     | some d => decide ((w.stream d).stopping = some .driveLost)
     | none => false)

/-- Whether an action can be done now. -/
def mayAct (w : W) (n : Nat) (r : RestoreData) (a : RAction) : Bool :=
  if needsPlace a then decide (r.out.length < 4) else w.mayCross n

/-- What is left to do is done, in order, as far as places are free (R181). A job whose objects are all complete and whose queue
is empty ends at once, also where it waits to cross (R183). The first argument bounds it. -/
def runTodo : Nat → Nat → W → W
  | 0, _, w => w
  | fuel + 1, n, w =>
    match w.restoreData n with
    | none => w
    | some r =>
      match r.todo with
      | [] => w.restoreDone n
      | a :: rest =>
        if w.mayAct n r a then runTodo fuel n ((w.modRestore n fun x => { x with todo := rest }).doAction n a)
        else w.restoreDone n

/-- Bound of `runTodo`: what is listed, an action for each object passed, and a few more. -/
def runAll (w : W) (n : Nat) : W :=
  match w.restoreData n with
  | none => w
  | some r => runTodo (r.todo.length + r.lastObject + 65600) n w

/-- What a RESTORE has still to add or to do goes on, if there is any. -/
def runWaiting (w : W) (n : Nat) : W :=
  if (w.restoreData n).any (fun r => r.todo ≠ []) then w.runAll n else w

/-! ## What the stream hands on -/

/-- A decoding's result (R177). Of a job being aborted, the result of a decoding granted before the abort is the last
one taken (R183). -/
def restoreResult (w : W) (n : Nat) (res : ResultRec) : W :=
  let w1 := (w.putFirst n [.take res]).runAll n
  if w1.isAborted n then w1.modRestore n fun r => { r with stopped := true, todo := [] } else w1

/-- A marker (R177): a kind-4 frame of the session without CONTINUES, while an object is in progress. -/
def restoreMarker (w : W) (n : Nat) (h : FrameHeader) (b : Nat) : W :=
  match w.restoreData n with
  | none => w
  | some r =>
    match r.nextObject with
    | none => w
    | some e =>
      if h.kind = 4 ∧ h.session = w.sessionOf n ∧ h.continues = false ∧ r.found = true ∧ r.stopped = false ∧
          w.isAborted n = false then
        (w.takeDamage n e 65535 1 .missingFinal b [.substitute 0 true]).runAll n
      else w

/-- Whether a chunk frame met calls for a relocation (R176). -/
def relocates (r : RestoreData) (h : FrameHeader) : Bool :=
  match r.nextObject with
  | some e => r.fromHint && (decide (e < h.object) || (decide (h.object = e) && decide (0 < h.chunk)))
  | none => false

/-- Whether the end of the link calls for a relocation: it was read from a hint, and no frame of the next object, which it
holds, was found (R176; log entry 31). -/
def relocatesAtEnd (r : RestoreData) : Bool :=
  r.hinted && !r.found &&
  (match r.nextObject, r.link with
   | some o, some l => l.holds o
   | _, _ => false)

/-- The job relocates to its link's first block (R176). -/
def relocate (w : W) (n : Nat) : W :=
  match (w.restoreData n).bind RestoreData.link with
  | none => w
  | some l => (w.modRestore n fun r => { r with hint := .spent, fromHint := false, hinted := false }).readFrom n l

/-- The first chunk frame met from a hint calls for no relocation (R176). -/
def hintHolds (w : W) (n : Nat) : W :=
  w.modRestore n fun r => if r.fromHint then { r with hint := .spent, fromHint := false } else r

/-- Block parsed (R176, R178). -/
def restoreBlockParsed (w : W) (n b : Nat) (last : Bool) : W :=
  match w.restoreData n with
  | none => w
  | some r =>
    if last = false then w
    else if relocatesAtEnd r = true ∧ w.isEnding n = false ∧ w.isAborted n = false then w.relocate n
    else (w.linkEnds n b false).runAll n

/-- An unreadable block (R179 to R181); the last block of the link ends it (log entry 25). CHUNK DAMAGED names `nextObject`
as its object (DESIGN CHOICE, log entry 46). -/
def restoreUnreadable (w : W) (n b : Nat) (last : Bool) : W :=
  match w.restoreData n with
  | none => w
  | some r =>
    let w1 := match r.nextObject with
      | some e =>
        if r.stopped ∨ w.isAborted n = true then w else w.takeDamage n e 65535 0 .unreadable b []
      | none => w
    if last && !w1.isEnding n then w1.restoreBlockParsed n b true else w1

/-- The end of recorded data (R178). -/
def restoreDataEnd (w : W) (n b : Nat) : W := (w.linkEnds n b true).runAll n

/-! ## Removed extents (R175) -/

/-- What is left to do without the substitutes still to be added for the object in progress. -/
def dropSubstitutes : List RAction → List RAction
  | .substitute _ _ :: rest => dropSubstitutes rest
  | .take r :: rest => .take r :: rest
  | .linkNext :: rest => .linkNext :: rest
  | [] => []

/-- Availability is judged again once extents have been removed, those given and those kept from a mount (R175): an object no
longer available is absent, and what was still to be added for it is dropped. The link the job stands at ends when it is one of
them, whatever the job's state (R175, R178); what is then missing is told with that link's last block (DESIGN CHOICE, log
entry 46). While no link has been taken the target stays as it is: a job whose first link
has gone mounts that cartridge and goes on from there (DESIGN CHOICE, log entry 31). -/
def rejudge (w : W) (n : Nat) (sequences : List Nat) : W :=
  match w.restoreData n with
  | none => w
  | some r =>
    let gone := r.removed ++ sequences
    let l := w.extentsOf (w.sessionOf n)
    let lost : List Nat := match r.nextObject with
      | none => []
      | some e => (objectRange e r.lastObject).filter fun o => !r.absentObjects.contains o && !objectAvailable l o
    let w1 := w.modRestore n fun x =>
      { x with chain := x.chain.filter fun k => !gone.contains k.sequence, removed := [],
               todo := if x.nextObject.any lost.contains then dropSubstitutes x.todo else x.todo }
    let w2 := lost.foldl (fun (v : W) o => v.reportAbsent n o .noExtent none 0) w1
    let cut : Bool := r.link.any fun k => gone.contains k.sequence
    let w3 := if cut then w2.linkEnds n ((r.link.map Link.lastBlock).getD 0) false else w2
    w3.runAll n

/-- An extent of the session has been removed (R154, R175). While the job is MOUNTING it is taken when the mount is
done. -/
def restoreExtentRemoved (w : W) (n sequence : Nat) : W :=
  if (w.job n).map Job.state = some .mounting then
    w.modRestore n fun r => { r with removed := r.removed ++ [sequence] }
  else w.rejudge n [sequence]

/-! ## READ DATA (R120, R182) -/

/-- The bytes a READ DATA takes from the head entry, and the queue after it. -/
def takeHead (r : RestoreData) (maximum : Nat) : RestoreData × DataReply :=
  match r.out with
  | [] => (r, { object := 0, offset := 0, endOfObject := false, damaged := false, endOfJob := false, data := [] })
  | e :: rest =>
    let part := (e.data.drop r.headOffset).take maximum
    let taken := r.headOffset + part.length
    let used : Bool := decide (e.data.length ≤ taken)
    ({ r with out := if used then rest else e :: rest, headOffset := if used then 0 else taken },
     { object := e.object, offset := e.offset + r.headOffset, endOfObject := used && e.endOfObject,
       damaged := e.damaged, endOfJob := false, data := part })

/-! ## Admission (R173 to R175) -/

/-- The progress of a RESTORE at its admission. -/
def startRestoreData (l : List ExtentRec) (first last : Nat) (policy : Policy) (hint : Hint) : RestoreData :=
  let gone := (objectRange first last).filter fun o => !objectAvailable l o
  { firstObject := first, lastObject := last, policy := policy, hint := hint, chain := chainOf l first last gone,
    link := none, nextObject := (objectRange first last).find? fun o => !gone.contains o,
    expect := 0, found := false, objectOffset := 0, delivered := 0, substituted := 0, absent := gone.length,
    absentObjects := gone, out := [], headOffset := 0, todo := [], fromHint := false, hinted := false, relocating := false,
    stopped := false, filterFrom := first, removed := [] }

/-- What follows a RESTORE's admission (R175): the notices of the objects absent, and the end of a job with nothing to
restore. -/
def restoreAdmitted (w : W) (n : Nat) : W :=
  match w.restoreData n with
  | none => w
  | some r =>
    (r.absentObjects.foldl (fun (v : W) o => v.damageNotice n o 65535 0 .noExtent none 0) w).restoreDone n

end W
end Sys2Proof.Machine
end

