-- ==== Sys2Proof/Machine/Parse.lean ====
section
/-! DEFINITION. The read side of a stream (section 6.4): what completes a Read Block or a Locate of a reader, the
parser's walk, coming to rest, and the completion of a decoding. -/

namespace Sys2Proof.Machine.W

open Sys2Proof.Machine

/-! ## Handing on to the job's rules (R119) -/

/-- Whether a job's `filter` admits a chunk frame (R163, R176). -/
def admitsFrame (w : W) (j : Job) (h : FrameHeader) : Bool :=
  match j.progress with
  | .verify v => w.verifyAdmits v h.session
  | .restore r =>
    decide (j.sessionId = some h.session) && decide (r.filterFrom ≤ h.object) && decide (h.object ≤ r.lastObject)
  | .backup _ => false
  | .clean => false

/-- A marker goes to the job's rules. -/
def handMarker (w : W) (n : Nat) (h : FrameHeader) (b offset : Nat) : W :=
  match (w.job n).map Job.kind with
  | some .verify => w.verifyMarker n h b offset
  | some .restore => w.restoreMarker n h b
  | some .backup => w
  | some .clean => w
  | none => w

/-- HEADER-BAD goes to the job's rules. -/
def handHeaderBad (w : W) (n b : Nat) : W :=
  match (w.job n).map Job.kind with
  | some .verify => w.verifyHeaderBad n b
  | some .restore => w
  | some .backup => w
  | some .clean => w
  | none => w

/-- Block parsed goes to the job's rules. -/
def handBlockParsed (w : W) (n b : Nat) (last : Bool) : W :=
  match (w.job n).map Job.kind with
  | some .verify => w.verifyBlockParsed n b last
  | some .restore => w.restoreBlockParsed n b last
  | some .backup => w
  | some .clean => w
  | none => w

/-- An unreadable block goes to the job's rules. -/
def handUnreadable (w : W) (n b : Nat) (last : Bool) : W :=
  match (w.job n).map Job.kind with
  | some .verify => w.verifyUnreadable n b last
  | some .restore => w.restoreUnreadable n b last
  | some .backup => w
  | some .clean => w
  | none => w

/-- The end of recorded data goes to the job's rules. -/
def handDataEnd (w : W) (n b : Nat) (mark : Bool) : W :=
  match (w.job n).map Job.kind with
  | some .verify => w.verifyDataEnd n b mark
  | some .restore => w.restoreDataEnd n b
  | some .backup => w
  | some .clean => w
  | none => w

/-- A decoding's result record goes to the job's rules. -/
def handResult (w : W) (n : Nat) (res : ResultRec) : W :=
  match (w.job n).map Job.kind with
  | some .verify => w.verifyFrame n res
  | some .restore => w.restoreResult n res
  | some .backup => w
  | some .clean => w
  | none => w

/-! ## The walk (R119) -/

/-- What a RESTORE has still to add, if the job is one. -/
def jobTodo (j : Job) : List RAction :=
  match j.progress with
  | .restore r => r.todo
  | .backup _ => []
  | .verify _ => []
  | .clean => []

/-- Whether the parser walks on: its job runs, it is not held, and it waits for no decoding and no substitute
(R119, R121, R181). -/
def mayWalk (s : Stream) (j : Job) : Bool :=
  decide (j.state = .running) && decide (s.stopping ≠ some .hold) && s.presented.isNone && decide (jobTodo j = [])

/-- The block in a buffer begins to be parsed, at a kept offset if it has one (R118, R121). -/
def beginParsing (w : W) (d : Drive) (i : BufId) : W :=
  w.modStream d fun s =>
    let b := s.buf i
    let at_ : Nat := match s.startAt with
      | some (k, off) => if k = b.index then off else 0
      | none => 0
    { s.putBuf i { b with state := .parsing } with parseOffset := some at_, startAt := none }

/-- The block being parsed is finished (R119). -/
def finishBlock (w : W) (d : Drive) (n : Nat) (i : BufId) : W :=
  let s := w.stream d
  let b := (s.buf i).index
  (w.putStream d { s.putBuf i freeBuffer with parseOffset := none }).handBlockParsed n b
    (decide (s.readLimit = some (.block b)))

/-- The parser advances. -/
def advanceTo (w : W) (d : Drive) (offset : Nat) : W :=
  w.modStream d fun s => { s with parseOffset := some offset, presented := none }

/-- A chunk frame met by the parser (R119, R176): passed over, presented, or left while the stream is stopped. -/
def meetChunk (w : W) (d : Drive) (j : Job) (offset : Nat) (h : FrameHeader) : Option W :=
  let size := 16 + h.payloadLength
  let w1 := if j.sessionId = some h.session then w.hintHolds j.id else w
  if w.admitsFrame j h = false then some (w1.advanceTo d (offset + size))
  else if w.running d then
    some (w1.modStream d fun s => { s with presented := some { offset := offset, header := h } })
  else none

/-- Whether a chunk frame met makes a RESTORE relocate. -/
def callsBack (j : Job) (h : FrameHeader) : Bool :=
  match j.progress with
  | .restore r => decide (j.sessionId = some h.session) && relocates r h && !j.abortPending && j.endAs.isNone
  | .backup _ => false
  | .verify _ => false
  | .clean => false

/-- What the parser does at an offset of the block it parses (R119); none when it must wait. -/
def parseAt (w : W) (d : Drive) (j : Job) (i : BufId) (offset : Nat) : Option W :=
  let b := (w.stream d).buf i
  if blockSize ≤ offset then some (w.finishBlock d j.id i)
  else
    match headerAt b.data offset with
    | .pad => some (w.finishBlock d j.id i)
    | .bad =>
      let w1 := w.handHeaderBad j.id b.index
      some (if (w1.stream d).job = some j.id then w1.finishBlock d j.id i else w1)
    | .good h =>
      if 3 ≤ h.kind then some ((w.advanceTo d (offset + 16)).handMarker j.id h b.index offset)
      else if callsBack j h then some (w.relocate j.id)
      else w.meetChunk d j offset h

/-- What a read without data has told goes to the job's rules once nothing waits to be parsed (R118, log
entry 16). -/
def tellNews (w : W) (d : Drive) (n : Nat) (x : ReadNews) : W :=
  match x with
  | .dataEnd b mark => (w.modStream d fun s => { s with news := none, nextRead := none }).handDataEnd n b mark
  | .unreadable b =>
    let last : Bool := decide ((w.stream d).readLimit = some (.block b))
    let w1 := (w.modStream d fun s => { s with news := none, nextRead := some (b + 1) }).handUnreadable n b last
    if (w1.stream d).job = some n ∧ (w1.stream d).seek = none ∧ w1.isEnding n = false ∧
        (w1.stream d).nextRead = some (b + 1) then
      w1.modStream d fun s =>
        { s with seek := some { target := b + 1, purpose := .afterError, retried := false, inFlight := false } }
    else w1

/-- One move of the read side: none when it must wait. -/
def parseOnce (w : W) (d : Drive) : Option W :=
  let s := w.stream d
  match s.job.bind w.job with
  | none => none
  | some j =>
    if mayWalk s j = false then none
    else
      match s.bufIn .parsing with
      | some i =>
        w.parseAt d j i (s.parseOffset.getD 0)
      | none =>
        if s.stopping.isSome then none
        else
          match s.firstBuf (fun b => decide (b.state = .loaded)), s.news with
          | some i, _ => some (w.beginParsing d i)
          | none, some x => some (w.tellNews d j.id x)
          | none, none => none

/-- The read side goes on as far as it can. The first argument bounds it: two blocks of 4,096 headers. -/
def parseLoop : Nat → Drive → W → W
  | 0, _, w => w
  | fuel + 1, d, w =>
    match w.parseOnce d with
    | some w1 => parseLoop fuel d w1
    | none => w

/-! ## The reader's Locate (R85, R118, R176, R178) -/

/-- Whether a failed Locate is to be requested once more while the read side comes to rest for a yield or an abort (R118):
such a rest keeps new block reads from starting, not this (R121). Under the secure stop it does not start (R124; DEDUCED, log
entry 44). -/
def retryAtRest (w : W) (s : Stream) (k : Seek) : Bool :=
  k.retried && decide (w.mode ≠ .secured) && decide (s.stopping = some .yielding ∨ s.stopping = some .abort)

/-- A Locate that waits is requested once the port is READY. -/
def launchSeek (w : W) (d : Drive) : W :=
  let s := w.stream d
  match s.job.bind w.job, s.seek with
  | some j, some k =>
    if k.inFlight = false ∧ (s.stopping = none ∨ w.retryAtRest s k = true) ∧ j.state = .running ∧
        (w.port d).state = .ready ∧ s.countIn .reading = 0 ∧ w.driveClaim d = some j.id then
      let r := w.requestOp d (.locate k.target) (.job j.id)
      if r.2 then r.1.modStream d fun t => { t with seek := some { k with inFlight := true } }
      else w.endJob j.id .failed .position
    else w
  | _, _ => w

/-- The Locate fails: it is requested once more, and a second failure ends the job FAILED POSITION (R85, R118, R176), also
one that is yielding or being aborted (R84, R88). -/
def seekFails (w : W) (d : Drive) (n : Nat) (k : Seek) : W :=
  if k.retried then w.endJob n .failed .position
  else (w.modStream d fun s => { s with seek := some { k with retried := true, inFlight := false } }).emit (.parse d)

/-- The Locate of a reader ends. One that a later Locate has taken the place of tells nothing; the later one can be
requested now. One past an unreadable block that ends BLANK is the end of recorded data (R118), told at once to a VERIFY that
is yielding, since no block waits before it. -/
def seekEnds (w : W) (n : Nat) (d : Drive) (r : OpOutcome) : W :=
  let s := w.stream d
  match s.seek with
  | none => w.emit (.parse d)
  | some k =>
    if k.inFlight = false ∨ s.job ≠ some n then w.emit (.parse d)
    else
      match r with
      | .ok =>
        ((w.modStream d fun t => { t with seek := none }).modRestore n fun x => { x with relocating := false }).emit
          (.parse d)
      | .blank _ =>
        if k.purpose = .afterError ∧ s.stopping = some .yielding then
          ((w.modStream d fun t => { t with seek := none }).tellNews d n (.dataEnd k.target false)).emit (.parse d)
        else if k.purpose = .afterError then
          (w.modStream d fun t => { t with seek := none, news := some (.dataEnd k.target false) }).emit (.parse d)
        else w.seekFails d n k
      | .readError => w.seekFails d n k
      | _ => w

/-! ## Read Block completes (R118, R121) -/

/-- Whether a read in flight completes without its data being parsed: the read side comes to rest other than for
HOLD, or relocates (R121, R176). -/
def dropsRead (w : W) (n : Nat) (s : Stream) : Bool :=
  (match s.stopping with
   | some .yielding => true
   | some .abort => true
   | some .driveLost => true
   | some .hold => false
   | none => false) ||
  ((w.restoreData n).map RestoreData.relocating).getD false

/-- A Read Block of a reader completes. -/
def readDone (w : W) (n : Nat) (d : Drive) (k : BufId) (r : OpOutcome) : W :=
  let s := w.stream d
  if s.job ≠ some n ∨ (s.buf k).state ≠ .reading then w
  else
    let b := (s.buf k).index
    let free : Stream := s.putBuf k freeBuffer
    let quiet := w.dropsRead n s
    let told (x : ReadNews) : Stream := { free with news := if quiet then none else some x }
    let s1 : Stream := match r with
      | .okBlock data =>
        if quiet then free
        else { s.putBuf k { state := .loaded, index := b, frames := [], data := data } with nextRead := some (b + 1) }
      | .endMark => told (.dataEnd b true)
      | .blank _ => told (.dataEnd b false)
      | .readError => told (.unreadable b)
      | _ => free
    (w.putStream d s1).emit (.parse d)

/-! ## Coming to rest (R121) -/

/-- Whether a Read Block or a decoding of the job is in flight, or a Locate of the read side, which does not delay a
HOLD. -/
def readerBusy (w : W) (d : Drive) (n : Nat) (cause : StopCause) : Bool :=
  let s := w.stream d
  decide (0 < s.countIn .reading) || (decide (cause ≠ .hold) && s.seek.any Seek.inFlight) ||
  (match w.coder.busy with
   | some b => decide (b.stream = d) && decide (b.job = n)
   | none => false)

/-- The lowest block read and not finished. -/
def unfinishedBlock (s : Stream) : Option Nat :=
  (s.firstBuf fun b => decide (b.state = .parsing) || decide (b.state = .loaded)).map fun i => (s.buf i).index

/-- The stream is at rest for a yield, an abort or a drive loss: where the job continues is kept, and the cause is
carried out (R82, R84, R88, R121). The offset kept is that of the block being parsed, or, before its block has been read
again, the one kept before (R172). -/
def atRest (w : W) (d : Drive) (j : Job) (cause : StopCause) : W :=
  let s := w.stream d
  let parsing : Option (Nat × Nat) := (s.bufIn .parsing).map fun i => ((s.buf i).index, s.parseOffset.getD 0)
  let kept := parsing.or s.startAt
  let point := (unfinishedBlock s).or s.nextRead
  let w1 := (w.modJob j.id fun k =>
    { k with resumePoint := point.or k.resumePoint, kept := kept, yielding := false }).modRestore j.id
      fun r => { r with relocating := false }
  match cause with
  | .abort =>
    let how := j.endAs.getD (.aborted, .host)
    w1.endJob j.id how.1 how.2
  | .yielding => ((w1.releaseBoth j.id).setJob j.id .queued none).wantDispatch
  | .driveLost => ((w1.releaseBoth j.id).setJob j.id .queued none).wantDispatch
  | .hold => w1

/-- The read side looks whether it is at rest (R121). -/
def restCheck (w : W) (d : Drive) : W :=
  let s := w.stream d
  match s.job.bind w.job, s.stopping with
  | some j, some cause =>
    if w.readerBusy d j.id cause then w
    else if cause = .hold then
      (w.modStream d fun t => { t with stopping := none }).setJob j.id
        (if j.state = .running then .held else j.state) j.waitReason
    else if jobTodo j = [] ∧ ((s.bufIn .parsing).isNone ∨ w.running d = false ∨ j.state ≠ .running) then
      w.atRest d j cause
    else w
  | _, _ => w

/-- A stream's read side goes on. -/
def parseOn (w : W) (d : Drive) : W :=
  ((parseLoop 8400 d (w.launchSeek d)).launchSeek d).restCheck d

/-! ## Decodings (R103 to R105, R108) -/

/-- A decoding completes: its result goes to the job's rules, and the parser advances. The result of a frame that the
job no longer waits for is dropped. -/
def decodingEnds (w : W) : W :=
  match w.coder.busy with
  | none => w
  | some busy =>
    match busy.work with
    | .encoding => w
    | .decoding block header payload =>
      let w1 := w.coderIdle
      let d := busy.stream
      let s := w1.stream d
      match s.presented, s.bufIn .parsing with
      | some p, some i =>
        if s.job = some busy.job ∧ (s.buf i).index = block ∧ p.header = header then
          ((w1.advanceTo d (p.offset + 16 + header.payloadLength)).handResult busy.job
            { block := block, header := header, result := decodeFrame header payload }).emit (.parse d)
        else w1.emit (.parse d)
      | _, _ => w1.emit (.parse d)

/-! ## Letting go and holding (R82, R85, R124) -/

/-- A RUNNING or HELD VERIFY or RESTORE loses its drive: its read side comes to rest, and the operation in flight is
gone (R82, R121). An abort already asked for stays the cause. A HELD RESTORE that stands at the end of its link takes the next
one first, as it would after RESUME (R178, R183; log entry 31). -/
def readerLetsGo (w : W) (n : Nat) : W :=
  match w.streamOf n with
  | none => w
  | some d =>
    let lose (b : Buffer) : Buffer := if b.state = .reading then freeBuffer else b
    (((w.modJob n fun j => { j with yielding := false }).modStream d fun s =>
      { s with bufA := lose s.bufA, bufB := lose s.bufB, seek := none,
               stopping := if s.stopping = some .abort then some .abort else some .driveLost }).runWaiting n).emit (.parse d)

/-- The secure stop holds a RUNNING VERIFY or RESTORE (R124). One that comes to rest for another cause already goes on to
that: a VERIFY that is yielding goes to QUEUED (DESIGN CHOICE, log entry 44). -/
def readerHolds (w : W) (n : Nat) : W :=
  match w.streamOf n with
  | none => w
  | some d =>
    (w.modStream d fun s => { s with stopping := if s.stopping = none then some .hold else s.stopping }).emit
      (.parse d)

/-- The Locate that RESUME asks for: to the next block while the port's position is UNKNOWN (R85), unless one is under way,
or a read without data has still to be told, whose own Locate goes past it (R118). -/
def resumeSeek (s : Stream) (position : Option Nat) : Option Seek :=
  match s.seek, s.news, s.nextRead with
  | some k, _, _ => some k
  | none, none, some b =>
    if position = none then some { target := b, purpose := .resume, retried := false, inFlight := false } else none
  | none, none, none => none
  | none, some _, _ => none

/-- RESUME takes a HELD job on at its next block (R85), and one that has not come to rest for HOLD yet goes on as it was
(DESIGN CHOICE, log entry 44). -/
def readerResumes (w : W) (n : Nat) : W :=
  match (w.job n).bind Job.stream with
  | none => w
  | some d =>
    let w1 := (w.setJob n .running none).modStream d fun s =>
      { s with stopping := if s.stopping = some .hold then none else s.stopping,
               seek := resumeSeek s (w.port d).position }
    (w1.runWaiting n).emit (.parse d)

/-- Whether RESUME takes a job on: HELD, or RUNNING and on its way to HELD (R85). -/
def resumable (w : W) (j : Job) : Bool :=
  decide (j.state = .held) ||
    (decide (j.state = .running) && j.stream.any fun d => decide ((w.stream d).stopping = some .hold))

end Sys2Proof.Machine.W
end

