-- ==== Sys2Proof/Machine/Mount.lean ====
section
/-! DEFINITION. What ends a mount step, the probe, the putting away of a cartridge, letting go of a drive, the course
of a CLEAN job, and what an operation's or a move's end means for the job or the host that asked for it (R66, R67,
R79 to R83, R87, R88). -/

namespace Sys2Proof.Machine

/-- The result a job takes from an operation that ended its use of a drive (R82, R87). -/
def resultOf (r : OpOutcome) : JobResult :=
  match r with
  | .timeout => .timeout
  | .driveLost => .driveLost
  | .transport => .transport
  | .loadFail => .transport
  | .endMarkFail => .transport
  | .ok => .ok
  | .okCount _ => .ok
  | .okProtected _ => .ok
  | .okBlock _ => .ok
  | .blank _ => .transport
  | .endMark => .transport
  | .readError => .transport
  | .writeError => .transport

/-- The wait reason after a failed move of a mount (R81). -/
def waitAfterMove : Reason → WaitReason
  | .sourceEmpty => .media
  | .labelMismatch => .media
  | .claimed => .media
  | .ok => .changer
  | .driveNotReady => .changer
  | .destFull => .changer
  | .stall => .changer
  | .gripMiss => .changer
  | .placeBlocked => .changer
  | .nowhereToPlace => .changer
  | .pickerOccupied => .changer
  | .lostInTransit => .changer
  | .lockout => .changer

/-- The state a probe's Locate End gives (R80). -/
def probeState (threshold count : Nat) : MediaState :=
  if count < threshold then .opened else if count ≤ threshold + 1 then .full else .foreign

namespace W

/-! ## Stopping a mount (R85, R88) -/

/-- Whether no further mount step may begin: an abort is being carried out, or a BACKUP is being truncated. -/
def mountBarred (j : Job) : Bool :=
  j.abortPending ||
  (match j.progress with
   | .backup b => b.truncating
   | .verify _ => false
   | .restore _ => false
   | .clean => false)

/-- The mount goes no further: a BACKUP goes to its truncation, any other job ends ABORTED, and a cartridge left in
HOLDING with a home is given a RETURN move (R88). -/
def mountStops (w : W) (n : Nat) : W :=
  match w.job n with
  | none => w
  | some j =>
    let w1 := w.modJob n fun k => { k with mountStep := none }
    if j.kind = .backup then w1.emit (.advance n)
    else
      (w1.endJob n .aborted .host).returnLeft (w.mountDrives j)

/-- A move of the mount has failed (R81). -/
def moveFails (w : W) (n : Nat) (r : Reason) : W :=
  ((w.modJob n fun j => { j with mountStep := none }).releaseBoth n).waitFor n (waitAfterMove r)

/-! ## Letting go of the drive (R82) -/

/-- A MOUNTING job waits again, or ends when its abort is being carried out (R82). One that is being aborted ends at once,
also while a move of its mount is still at the changer (DESIGN CHOICE, log entry 44). A move held for the mount, not issued
yet, is dropped (DESIGN CHOICE, log entry 49). -/
def leaveMount (w : W) (n : Nat) (absent : Bool) (j : Job) : W :=
  let w1 := (w.dropHeld n).modJob n fun k => { k with mountStep := none, ticket := none }
  if j.abortPending then w1.endJob n .aborted .host
  else (w1.releaseBoth n).waitFor n (if absent then .media else .drive)

/-- A job lets go of its drive; `absent` when its claimed cartridge has gone absent, `r` the result of the operation
that ended, if one did (R82). A RUNNING CLEAN whose cartridge has gone absent ends FAILED with TRANSPORT, as when its port
leaves on its own (DESIGN CHOICE, log entry 44). -/
def letGo (w : W) (n : Nat) (absent : Bool) (r : Option OpOutcome) : W :=
  match w.job n with
  | none => w
  | some j =>
    match j.progress with
    | .backup _ => w.backupLetsGo n false absent
    | .clean =>
      if j.state = .running then w.endJob n .failed ((r.map resultOf).getD .transport)
      else if j.state = .mounting then w.leaveMount n absent j
      else w
    | .verify _ =>
      if j.state = .mounting then w.leaveMount n absent j
      else if j.state = .running ∨ j.state = .held then w.readerLetsGo n
      else w
    | .restore _ =>
      if j.state = .mounting then w.leaveMount n absent j
      else if j.state = .running ∨ j.state = .held then w.readerLetsGo n
      else w

/-! ## Choosing again (R81, R83) -/

/-- A BACKUP that keeps its drive takes its next cartridge, or gives the drive up (R81, R83). -/
def chooseAgain (w : W) (n : Nat) : W :=
  match w.job n with
  | none => w
  | some j =>
    match j.drive, j.target with
    | some d, .pool p =>
      (match w.chooseBackup j p with
       | some i => (w.claimCart n i).mountBring n { j with cartridge := some i } d i
       | none => ((w.modJob n fun k => { k with mountStep := none }).releaseDrive n).waitMedia n (.pool p))
    | _, _ => w

/-- The old cartridge's claim is released and the job chooses again, unless its mount is stopped. -/
def afterAway (w : W) (n : Nat) : W :=
  let w1 := w.releaseCart n
  if (w1.job n).any mountBarred then w1.mountStops n else w1.chooseAgain n

/-- An unusable BACKUP cartridge is put away (R81). -/
def putAway (w : W) (n : Nat) (d : Drive) : W := (w.atStep n .awayUnload).askOp d .unload (.job n)

/-- The Unload of a cartridge to be put away has ended OK: a move home, or, homeless, it stays (R81, R83). -/
def sendHome (w : W) (n : Nat) (d : Drive) (i : Nat) (s : MountStep) : W :=
  if (w.homeOf i).isSome then w.issueJobMove n (.drive d) .home (some i) s else w.afterAway n

/-! ## The mount is done (R79, R133, R163, R176) -/

/-- A RESTORE on the cartridge it asked for takes its link, and its stream begins (R176). A link that a removal has
taken away sends it on to the next, also in SECURED: a job with no link left on the cartridge has nothing to hold there, and
returns to QUEUED (DESIGN CHOICE, log entry 31). -/
def restoreBegins (w : W) (n : Nat) (j : Job) (d : Drive) (i : Nat) (r : RestoreData) : W :=
  match linkOn r i with
  | some l =>
    let start := restoreStart j r i
    let taken : Bool := (hintTaken j r i).isSome
    let w1 := w.modRestore n fun x =>
      { x with link := some l, filterFrom := x.nextObject.getD x.filterFrom,
               fromHint := r.fromHint || taken, hinted := r.hinted || taken,
               hint := match x.hint with
                 | .none => .none
                 | .unused label block => if r.fromHint || taken then .unused label block else .spent
                 | .spent => .spent }
    w1.modStream d fun s =>
      { s with nextRead := some start, readLimit := some (.block l.lastBlock), startAt := j.kept,
               seek := if (w1.port d).position = some start then none
                       else some { target := start, purpose := .link, retried := false, inFlight := false } }
  | none =>
    match r.nextObject.bind fun o => r.chain.find? fun x => decide (o ≤ x.lastObject) with
    | some l => w.takeLink n l
    | none => w.stopReading n

/-- A RESTORE's mount is done: what was left to do and the removals that reached it while MOUNTING come first (R175). When
they end the job, send it on to another link, or leave it to go on to one, no block of this link is read. -/
def restoreMounted (w : W) (n : Nat) (j : Job) (d : Drive) (i : Nat) (state : JobState) : W :=
  match w.restoreData n with
  | none => w
  | some r0 =>
    let w1 := w.setJob n state none
    let w2 := if r0.removed = [] then w1.runAll n else w1.rejudge n []
    let cut : Bool := r0.link.any fun k => r0.removed.contains k.sequence
    match w2.restoreData n, w2.job n with
    | some r, some k =>
      if k.state.isFinished = true ∨ k.stream = none ∨ cut = true ∨ r.todo.contains .linkNext = true then w2
      else w2.restoreBegins n j d i r
    | _, _ => w2

/-- A VERIFY's stream begins at the block the mount has located (R163). -/
def verifyMounted (w : W) (n : Nat) (j : Job) (d : Drive) (i : Nat) (state : JobState) : W :=
  match w.verifyData n with
  | none => w
  | some v =>
    let start := w.startBlock j i
    ((w.setJob n state none).modVerify n fun x => { x with firstMoved := false }).modStream d fun s =>
      { s with nextRead := some start, readLimit := some (w.verifyLimit v), startAt := j.kept,
               seek := if (w.port d).position = some start then none
                       else some { target := start, purpose := .link, retried := false, inFlight := false } }

/-- The mount is done (R79): a BACKUP begins its extent; a VERIFY or RESTORE is RUNNING, or HELD in SECURED
(R85). -/
def mountDone (w : W) (n : Nat) : W :=
  match w.job n with
  | none => w
  | some j =>
    match j.drive, j.cartridge with
    | some d, some i =>
      let w1 := w.modJob n fun k => { k with mountStep := none, kept := none }
      let state : JobState := if w.mode = .secured then .held else .running
      (match j.progress with
       | .backup _ => w1.beginExtent n
       | .verify _ => (w1.verifyMounted n j d i state).emit (.parse d)
       | .restore _ => (w1.restoreMounted n j d i state).emit (.parse d)
       | .clean => w1)
    | _, _ => w

/-! ## The probe (R80) -/

/-- The mount positions the tape, once the reports of the probe have been taken. -/
def goPosition (w : W) (n : Nat) : W := (w.atStep n (.position false)).emit (.advance n)

/-- The probe's result goes to the Cartridge Table and the catalog, and the mount goes on or the cartridge is put
away (R80, R81). -/
def probeResult (w : W) (n : Nat) (d : Drive) (i : Nat) (s : MediaState) (used : Option Nat) : W :=
  let w1 := match used with
    | some u => w.modCart i fun c => { c with blocksUsed := .known u }
    | none => w
  let w2 := w1.setMedia i s .probe
  let w3 := match used with
    | some u => w2.probedEnd i u
    | none => w2
  match w3.job n with
  | none => w3
  | some j =>
    if j.kind = .backup ∧ (s = .full ∨ s = .foreign) then w3.putAway n d else w3.goPosition n

/-- Whether a block begins with a session-start frame (R80). -/
def beginsSession (data : List Byte) : Bool :=
  match headerAt data 0 with
  | .good h => decide (h.kind = 3)
  | .pad => false
  | .bad => false

/-- The Locate of the mount's last step is requested (R79). -/
def requestPosition (w : W) (n : Nat) : W :=
  match w.job n with
  | none => w
  | some j =>
    match j.drive, j.cartridge with
    | some d, some i =>
      if j.mountStep = some (.position false) ∧ (w.port d).state = .ready then
        w.askOp d (.locate (w.startBlock j i)) (.job n)
      else w
    | _, _ => w

/-- The Locate of the mount's last step has failed twice (R79). -/
def positionFails (w : W) (n : Nat) : W :=
  let w1 := w.modJob n fun j => { j with mountStep := none }
  if (w.job n).map Job.kind = some .backup then w1.callTruncation n (.failed, .position)
  else w1.endJob n .failed .position

/-! ## Mount steps end (R79 to R83) -/

/-- The probe reads block 0 into a FREE block buffer of the drive's stream (R80); the first of the two (DESIGN CHOICE, log
entry 49). -/
def probeBlock (w : W) (n : Nat) (d : Drive) : W :=
  let k := ((w.stream d).bufIn .free).getD .a
  let r := (w.atStep n .probeRead).requestOp d (.probeRead k) (.job n)
  if r.2 then r.1.modStream d fun s => s.putBuf k { state := .reading, index := 0, frames := [], data := [] } else r.1

/-- An operation of the mount has ended, other than in a way that lets go of the drive. -/
def stepEnds (w : W) (n : Nat) (j : Job) (d : Drive) (i : Nat) (s : MountStep) (op : PortOp) (r : OpOutcome) : W :=
  match s, r with
  | .clearUnload, _ => w.issueJobMove n (.drive d) .home (w.portCart d) .clearMove
  | .bringUnload, _ => w.mountNext n
  | .load, .okProtected p =>
    if p = true ∧ j.kind = .backup then w.putAway n d else w.mountLoaded n j d i
  | .probeLocate _, .ok => w.probeBlock n d
  | .probeLocate retried, _ =>
    if retried then w.probeResult n d i .foreign none
    else (w.atStep n (.probeLocate true)).askOp d (.locate 0) (.job n)
  | .probeRead, .okBlock data =>
    if beginsSession data then (w.atStep n .probeEnd).askOp d .locateEnd (.job n)
    else w.probeResult n d i .foreign none
  | .probeRead, .blank _ => w.probeResult n d i .blank (some 0)
  | .probeRead, .endMark => w.probeResult n d i .blank (some 0)
  | .probeRead, _ => w.probeResult n d i .foreign none
  | .probeEnd, .okCount c =>
    let st := probeState (thresholdOf (w.kindOf i)) c
    w.probeResult n d i st (if st = .foreign then none else some c)
  | .probeEnd, _ => w.probeResult n d i .foreign none
  | .position _, .ok => w.mountDone n
  | .position retried, _ =>
    if retried then w.positionFails n
    else (w.atStep n (.position true)).askOp d op (.job n)
  | .awayUnload, _ => w.sendHome n d i .awayMove
  | .spanUnload, _ => w.sendHome n d i .spanMove
  | _, _ => w

/-- An operation of a mount or of step 1 of a span ends. Of a mount that is to stop the result decides nothing: a probe whose
last operation it was gives no result, and the cartridge stays NEW (R59, R80, R88; DESIGN CHOICE, log entry 49). -/
def mountOp (w : W) (n : Nat) (j : Job) (d : Drive) (s : MountStep) (op : PortOp) (r : OpOutcome) : W :=
  if r.letsGo then w.letGo n false (some r)
  else if mountBarred j then w.mountStops n
  else
    match j.cartridge with
    | some i => w.stepEnds n j d i s op r
    | none => w

/-- A move of a job ends (R79, R81, R83). -/
def jobMoveEnds (w : W) (n : Nat) (r : Reason) : W :=
  match w.job n with
  | none => w
  | some j =>
    let w1 := w.modJob n fun k => { k with ticket := none }
    match j.mountStep with
    | some .awayMove => w1.afterAway n
    | some .spanMove => w1.afterAway n
    | some .clearMove =>
      if mountBarred j then w1.mountStops n else if r = .ok then w1.mountNext n else w1.moveFails n r
    | some .bring =>
      if mountBarred j then w1.mountStops n else if r = .ok then w1.mountNext n else w1.moveFails n r
    | some _ => w1
    | none => if j.kind = .backup then w1.emit (.advance n) else w1

/-- The changer reports a move's end (R28). -/
def moveReported (w : W) (origin : Origin) (ticket : Nat) (r : Reason) (cart : Option Nat) : W :=
  let w1 := w.wantDispatch
  match origin with
  | .job n => if (w1.job n).bind Job.ticket = some ticket then w1.jobMoveEnds n r else w1
  | .returned =>
    (match cart with
     | some i => w1.unmarkReturning i
     | none => w1)
  | .requested => w1
  | .recovery => w1

/-! ## CLEAN jobs (R87, R88) -/

/-- An operation of a RUNNING CLEAN ends. -/
def cleanOp (w : W) (n : Nat) (j : Job) (d : Drive) (op : PortOp) (r : OpOutcome) : W :=
  if r.letsGo then w.letGo n false (some r)
  else
    match op with
    | .clean => (w.modJob n fun k => { k with cleaned := true }).askOp d .unload (.job n)
    | .unload =>
      let w1 := match j.cartridge with
        | some i => w.cleaningUse i
        | none => w
      let w2 := if j.abortPending then w1.endJob n .aborted .host else w1.endJob n .done .ok
      w2.issueReturn d
    | .load => w
    | .locate _ => w
    | .locateEnd => w
    | .readBlock _ => w
    | .probeRead _ => w
    | .writeBlock _ => w
    | .writeEndMark => w

/-! ## Results to their requesters (R51, R66, R67) -/

/-- An operation of a reader ends (R118). -/
def readerOp (w : W) (n : Nat) (d : Drive) (op : PortOp) (r : OpOutcome) : W :=
  let w1 := match op with
    | .readBlock k => w.readDone n d k r
    | .locate _ => w.seekEnds n d r
    | .load => w
    | .locateEnd => w
    | .probeRead _ => w
    | .writeBlock _ => w
    | .writeEndMark => w
    | .unload => w
    | .clean => w
  if r.letsGo then w1.letGo n false (some r) else w1

/-- An operation of a job ends. A job that no longer claims the drive is told nothing, unless it was unloading its cartridge
there (R57). -/
def jobOp (w : W) (n : Nat) (d : Drive) (op : PortOp) (r : OpOutcome) : W :=
  match w.job n with
  | none => w
  | some j =>
    if j.state.isFinished ∨ (w.driveClaim d ≠ some n ∧ w.fetchesFrom j d = false) then w
    else
      match j.mountStep with
      | some s => w.mountOp n j d s op r
      | none =>
        match j.progress with
        | .backup _ => w.backupOp n d op r
        | .verify _ => w.readerOp n d op r
        | .restore _ => w.readerOp n d op r
        | .clean => w.cleanOp n j d op r

/-- An Unload asked for by the host or by an expiry ends (R66, R67). -/
def unloadEnded (w : W) (d : Drive) (returnHome : Bool) (r : OpOutcome) : W :=
  if r = .ok then (if returnHome then w.issueReturn d else w)
  else
    match w.portCart d with
    | some i => w.unmarkReturning i
    | none => w

/-- The buffer of a probe's Read Block is FREE once that has ended, however it ended (R80). -/
def freeProbe (w : W) (d : Drive) (op : PortOp) : W :=
  match op with
  | .probeRead k =>
    if ((w.stream d).buf k).state = .reading then w.modStream d fun s => s.putBuf k freeBuffer else w
  | _ => w

/-- An operation's result goes to its requester (R51). -/
def opReported (w : W) (d : Drive) (req : Requester) (op : PortOp) (r : OpOutcome) : W :=
  match req with
  | .job n => (w.freeProbe d op).jobOp n d op r
  | .host returnHome => w.unloadEnded d returnHome r
  | .idleReturn => w.unloadEnded d true r
  | .nobody => w

/-- A port has entered FAULTED or ABSENT, or stays in INIT (R82). -/
def portReported (w : W) (d : Drive) : W :=
  match w.driveClaim d with
  | some n => w.letGo n false none
  | none => w

/-- A job's claimed cartridge has gone absent (R10, R82). -/
def cartReported (w : W) (n i : Nat) : W :=
  if (w.job n).bind Job.cartridge = some i then w.letGo n true none else w

end W
end Sys2Proof.Machine
end

