-- ==== Sys2Proof/Machine/Settle.lean ====
section
/-! DEFINITION. What a step's event brings about in the other blocks, inside the same step: reports are taken one by
one, rehoming and dispatch run when due, until nothing is left (log entry 5). Beside it, what the message link and
the host ask of every job at once: the secure stop, RESUME, and an abort. -/

namespace Sys2Proof.Machine.W

open Sys2Proof.Machine

/-- An extent of a job's session has been removed (R154). -/
def extentGone (w : W) (n session sequence : Nat) : W :=
  match (w.job n).map Job.kind with
  | some .verify => w.verifyExtentRemoved n session sequence
  | some .restore => w.restoreExtentRemoved n sequence
  | some .backup => w
  | some .clean => w
  | none => w

/-- A job looks at what comes next: a mount about to position the tape requests its Locate, a BACKUP goes on. -/
def advanceJob (w : W) (n : Nat) : W :=
  if (w.job n).bind Job.mountStep = some (.position false) ∧ ((w.job n).any mountBarred) = false then
    w.requestPosition n
  else w.backupAdvance n

/-- One report is taken. -/
def takeSignal (w : W) : Signal → W
  | .opDone d req op r => w.opReported d req op r
  | .notice n => w.note n
  | .portDown d => w.portReported d
  | .moveEnded origin ticket r cart => w.moveReported origin ticket r cart
  | .cartGone n i => w.cartReported n i
  | .homeGained i => w.returnRehomed i
  | .cleanAsked d => w.cleanWanted d
  | .idleCheck d => w.idleCheck d
  | .recovered d => w.idleAtOnce d
  | .advance n => w.advanceJob n
  | .parse d => w.parseOn d
  | .extentRemoved n session sequence => w.extentGone n session sequence
  | .autoVerify session => w.autoVerify session

/-- One thing that is due: rehoming outside a scan (R9), the oldest report, the waits for an extent record (R150), or a pass of
dispatch (R75). -/
def settleOnce (w : W) : Option W :=
  if w.rehomeDue ∧ w.ct.scan = none then some ({ w with rehomeDue := false }).rehome
  else
    match w.signals with
    | s :: rest => some (({ w with signals := rest }).takeSignal s)
    | [] =>
      if w.catalogDue then some ({ w with catalogDue := false }).serveCatalogWaits
      else if w.dispatchDue then some ({ w with dispatchDue := false }).dispatch
      else none

/-- Everything that is due, in order. The first argument bounds it (log entry 5). -/
def settle : Nat → W → W
  | 0, w => w
  | fuel + 1, w =>
    match w.settleOnce with
    | some w1 => settle fuel w1
    | none => w

/-- What a step settles. -/
def settled (w : W) : W := settle 4000 w

/-! ## The secure stop (R124, R85) -/

/-- The secure stop reaches one job. -/
def secureJob (w : W) (n : Nat) : W :=
  match w.job n with
  | none => w
  | some j =>
    if j.state.isFinished then w
    else
      match j.progress with
      | .backup _ => w.callTruncation n (.failed, .truncated)
      | .verify _ => if j.state = .running then w.readerHolds n else w
      | .restore _ => if j.state = .running then w.readerHolds n else w
      | .clean => w

/-- The streams' read sides look again at whether they may go on. -/
def parseBoth (w : W) : W := (w.emit (.parse .d0)).emit (.parse .d1)

/-- The secure stop begins: SECURED, the gate closed, and every job taken by its kind and state (R124). Nothing
happens when the mode is SECURED already (R187, R188). -/
def secureStop (w : W) : W :=
  if w.mode = .secured then w
  else
    let w1 : W := { w with mode := .secured, gateOpen := false }
    ((w1.js.jobs.map Job.id).foldl secureJob w1).parseBoth

/-- The mode becomes ONLINE: dispatch, then the expiries kept pending (R66, R75). -/
def nowOnline (w : W) : W :=
  let w1 : W := { w with mode := .online }
  (w1.wantDispatch.settled.idlePendingRuns .d0).idlePendingRuns .d1

/-- RESUME: the gate opens and the HELD jobs return to RUNNING before dispatch (R85, R123, R187), with those still coming to
rest for HOLD (log entry 44). -/
def resumeAll (w : W) : W :=
  let w1 : W := { w with gateOpen := true, mode := .online }
  let held := (w1.js.jobs.filter w1.resumable).map Job.id
  ((held.foldl readerResumes w1).parseBoth).nowOnline

/-! ## ABORT JOB (R88) -/

/-- A VERIFY or RESTORE is brought to rest, and then ends ABORTED. What a RESTORE had still to add is dropped; the
decoding in flight, if there is one, is the last whose result it takes (R183). -/
def abortReader (w : W) (n : Nat) : W :=
  let decoding : Bool := match w.coder.busy with
    | some b => decide (b.job = n)
    | none => false
  (w.modRestore n fun r => { r with todo := [], stopped := r.stopped || !decoding }).restThenEnd n (.aborted, .host)

/-- A QUEUED, WAITING or HELD job other than a BACKUP ends at once. -/
def abortNow (w : W) (n : Nat) : W := w.endJob n .aborted .host

/-- A MOUNTING job other than a BACKUP: what is in flight ends first, and a move held for it is dropped. -/
def abortMounting (w : W) (n : Nat) : W :=
  let held := w.js.heldMoves.any fun m => m.origin = .job n
  let w1 := if held then (w.dropHeld n).modJob n fun j => { j with ticket := none } else w
  if w1.hasWork n then w1 else w1.mountStops n

/-- The course of an abort by the job's kind and state (R88). -/
def abortCourse (w : W) (j : Job) : W :=
  match j.progress with
  | .backup _ => w.callTruncation j.id (.aborted, .host)
  | .clean =>
    (match j.state with
     | .running => w
     | .mounting => w.abortMounting j.id
     | _ => w.abortNow j.id)
  | .verify _ =>
    (match j.state with
     | .running => w.abortReader j.id
     | .mounting => w.abortMounting j.id
     | _ => w.abortNow j.id)
  | .restore _ =>
    (match j.state with
     | .running => w.abortReader j.id
     | .mounting => w.abortMounting j.id
     | _ => w.abortNow j.id)

/-- ABORT JOB is accepted. -/
def abortJob (w : W) (j : Job) : W :=
  (w.modJob j.id fun k => { k with abortPending := true }).abortCourse j

end Sys2Proof.Machine.W
end

