-- ==== Sys2Proof/Machine/Link.lean ====
section
/-! DEFINITION. The Message Link (chapter 11): the receiver, the notice queue, the silence timer, the taking of a
request and its reply, and a step's way from State to the working state and back. -/

namespace Sys2Proof.Machine

/-! ## Notices (R189) -/

/-- A notice joins the queue: it takes the next number; with 32 queued the oldest goes and the lost flag is set
(R189). -/
def LinkState.push (k : LinkState) (n : Notice) : LinkState :=
  let full : Bool := decide (32 ≤ k.notices.length)
  { k with notices := (if full then k.notices.drop 1 else k.notices) ++ [{ seq := k.nextNotice, notice := n }],
           lost := k.lost || full, nextNotice := (k.nextNotice + 1) % 65536 }

/-- Notices join the queue in order. -/
def LinkState.pushAll (k : LinkState) (l : List Notice) : LinkState := l.foldl LinkState.push k

/-- The attention line (R189). -/
def LinkState.attention (k : LinkState) : Bool := decide (k.notices ≠ [])

/-! ## The receiver (R184) -/

/-- The silence timer starts with a limit; with a limit of 0 it does not run (R188). -/
def silenceStart (limit : Nat) : Option Nat := if limit = 0 then none else some limit

/-- The silence timer starts with a limit, which it keeps until it starts again (R188). -/
def LinkState.startSilence (k : LinkState) (limit : Nat) : LinkState :=
  { k with silence := silenceStart limit, silenceLimit := limit }

/-- A good frame (R184, items 3 and 4): the silence timer restarts, and the frame joins the receive buffer or, with
its four places taken, is discarded and the reject flag set. -/
def LinkState.goodFrame (k : LinkState) (limit : Nat) (f : RequestFrame) : LinkState :=
  let k1 := k.startSilence limit
  if k1.frames.length < 4 then { k1 with frames := k1.frames ++ [f] } else { k1 with reject := true }

/-- A frame discarded (R184, items 1 and 2). -/
def LinkState.refuseFrame (k : LinkState) : LinkState := { k with reject := true }

/-- The request frame that good bytes hold, from the marker on (R195). -/
def frameOf (bytes : List Byte) (len : Nat) : RequestFrame :=
  { tag := bytes.getD 4 0#8, code := bytes.getD 5 0#8, payload := (bytes.drop 6).take (len - 2) }

/-- Whether the CRC of a complete frame is right (R184, item 2; R195). -/
def frameCrcOk (bytes : List Byte) (len : Nat) : Bool :=
  decide ((crc32c ((bytes.drop 2).take (2 + len))).toNat = beNat ((bytes.drop (4 + len)).take 4))

/-- The receiver over the bytes it has (R184): what is left in it at the end is the marker's first byte, or the frame
being received. The first argument bounds the bytes. -/
def receive : Nat → Nat → List Byte → LinkState → LinkState
  | 0, _, bytes, k => { k with receiver := bytes }
  | fuel + 1, limit, bytes, k =>
    match bytes with
    | [] => { k with receiver := [] }
    | [b] => { k with receiver := if b = 0x7E#8 then [b] else [] }
    | b :: c :: rest =>
      if b = 0x7E#8 ∧ c = 0x51#8 then
        if rest.length < 2 then { k with receiver := bytes }
        else
          let len := beNat (rest.take 2)
          if len < 2 ∨ 4200 < len then receive fuel limit (c :: rest) k.refuseFrame
          else if bytes.length < 8 + len then { k with receiver := bytes }
          else if frameCrcOk bytes len then
            receive fuel limit (bytes.drop (8 + len)) (k.goodFrame limit (frameOf bytes len))
          else receive fuel limit (c :: rest) k.refuseFrame
      else receive fuel limit (c :: rest) k

/-- Bytes arrive (R184). -/
def LinkState.arrive (k : LinkState) (limit : Nat) (bytes : List Byte) : LinkState :=
  let all := k.receiver ++ bytes
  receive (all.length + 1) limit all k

/-! ## A step over the library -/

/-- The working state of a step. -/
def State.work (s : State) : W := { toLib := s.lib, set := s.settings.working, out := [] }

/-- What the step brings about is settled, and its notices join the queue. -/
def State.putWork (s : State) (w : W) : State :=
  let w1 := w.settled
  { s with lib := w1.toLib, link := s.link.pushAll w1.out }

/-- A step on the library. -/
def State.onLib (s : State) (f : W → W) : State := s.putWork (f s.work)

/-- A step's outcome when nothing can stop it. -/
def goesOn (s : State) : Host.Outcome State Fault Refusal := .next s

/-! ## Requests (R185) -/

/-- What an owner answers: its state after the request, the status, the payload. -/
structure Answer where
  w : W
  status : Status
  body : ReplyBody

/-- Refused, with nothing changed. -/
def refuse (w : W) (s : Status) : Answer := { w := w, status := s, body := .empty }

/-- OK with a payload. -/
def answer (w : W) (b : ReplyBody) : Answer := { w := w, status := .ok, body := b }

/-- The reply to a frame is sent (R185): its flags are those of the moment, and the reject flag is cleared. -/
def State.sendReply (s : State) (f : RequestFrame) (status : Status) (body : ReplyBody) : State :=
  { s with link := { s.link with
      reject := false,
      reply := some
        { tag := f.tag, code := f.code, status := status, previousRejected := s.link.reject,
          noticesWaiting := s.link.attention, powerWarning := s.lib.pins.powerWarning, body := body } } }

/-- The frame at the head leaves the receive buffer. -/
def State.dropFrame (s : State) : State := { s with link := { s.link with frames := s.link.frames.drop 1 } }

/-- A request of a code is taken from the head of the receive buffer (R185): refused by the mode, by its payload's
form, or handed on. With no such frame at the head nothing is taken (log entry 1). -/
def State.take (s : State) (code : Nat) (form : List Byte → Bool) (owner : State → RequestFrame → State) : State :=
  match s.link.frames.head? with
  | none => s
  | some f =>
    if f.code.toNat ≠ code then s
    else
      let s1 := s.dropFrame
      if acceptedIn s.lib.mode code = false then s1.sendReply f .notInMode .empty
      else if form f.payload = false then s1.sendReply f .badArgument .empty
      else owner s1 f

/-- The form of a payload of fields of given sizes (R185, item 3). -/
def formOf (sizes : List Nat) (payload : List Byte) : Bool := decide (payload.length = sizes.sum)

/-- A request whose owner is in the library: it acts, what it brings about is settled, and the reply goes. A refused
request changes nothing. -/
def State.ask (s : State) (code : Nat) (form : List Byte → Bool) (owner : W → List Byte → Answer) : State :=
  s.take code form fun s1 f =>
    let a := owner s1.work f.payload
    (if a.status = .ok then s1.putWork a.w else s1).sendReply f a.status a.body

/-- A request that reads only: the owner's answer goes, and the library is left as it is. -/
def State.look (s : State) (code : Nat) (form : List Byte → Bool) (owner : W → List Byte → Answer) : State :=
  s.take code form fun s1 f =>
    let a := owner s1.work f.payload
    s1.sendReply f a.status a.body

/-- A request with no fields. -/
def noFields (payload : List Byte) : Bool := decide (payload = [])

/-- The fields of a payload as integers, in order; 0 beyond the end. -/
def fieldsOf (sizes : List Nat) (payload : List Byte) : Nat → Nat :=
  let l := (natFields sizes payload).getD []
  fun k => l.getD k 0

end Sys2Proof.Machine
end

