-- ==== Sys2Proof/Machine/Device.lean ====
section
/-! DEFINITION. The commands of the device and the link: frames (R184), requests 0x01 to 0x0B but RESET CONTROLLER
(R122, R123, R187, R190, R192, R193), the settings save, link silence and the power-warning line (R187, R188,
R193). -/

namespace Sys2Proof.Machine

/-! ## Frames (R184) -/

/-- Bytes arrive at the receiver, with the silence limit in force (R184, R188). -/
def State.hear (s : State) (bytes : List Byte) : State :=
  { s with link := s.link.arrive (settingOf s.settings.working 8) bytes }

/-- FRAME_RECEIVED (R184). -/
def execFrameReceived (bytes : List Byte) (s : State) : Host.Outcome State Fault Refusal := goesOn (s.hear bytes)

/-- FRAME_MALFORMED (R184): the length is judged as soon as it has been read. -/
def execFrameMalformed (bytes : List Byte) (s : State) : Host.Outcome State Fault Refusal := goesOn (s.hear bytes)

/-- REQUEST_UNKNOWN_CODE (R185, item 1). -/
def execRequestUnknownCode (s : State) : Host.Outcome State Fault Refusal :=
  goesOn (match s.link.frames.head? with
    | none => s
    | some f =>
      if requestCodes.contains f.code.toNat then s
      else s.dropFrame.sendReply f .unknownCode .empty)

/-! ## Identity and status (R192) -/

/-- The revision number of the silicon: 1 and up (R192; log entry 9). -/
def revisionNumber : Nat := 1 + Config.revisionAboveOne

/-- IDENTIFY (R192). -/
def execIdentify (s : State) : Host.Outcome State Fault Refusal :=
  goesOn (s.look 0x01 noFields fun w _ => answer w (.identity partName revisionNumber 40 1 2 4096))

/-- A port as STATUS reports it (R47). -/
def portReport (w : W) (d : Drive) : PortReport :=
  let p := w.port d
  { state := p.state, faultReason := p.faultReason, cartridge := w.contentsRef p.cartridge, position := p.position,
    cleanRequest := p.cleanRequest, recovered := p.recovered, lastResult := p.lastResult, idle := w.idleTimer d }

/-- A stream as STATUS reports it (R110). -/
def streamReport (w : W) (d : Drive) : StreamReport :=
  let s := w.stream d
  { enable := s.enable, job := s.job, intakeBuffers := s.intake.length,
    intakeBytes := (s.intake.map fun c => c.data.length).sum, bufA := s.bufA.state, bufB := s.bufB.state,
    carryFrames := s.carry.length, carryBytes := (s.carry.map Frame.size).sum,
    outbound := (((s.job.bind w.restoreData).map RestoreData.out).getD []).length }

/-- The nine job states, in the order of R71. -/
def jobStates : List JobState :=
  [.queued, .waiting, .mounting, .running, .spanning, .held, .done, .failed, .aborted]

/-- What STATUS reports (R192), with the link's own part. -/
def statusReport (s : State) : StatusReport :=
  let w := s.work
  { mode := w.mode, powerWarning := w.pins.powerWarning, saving := s.settings.saving.isSome, gateOpen := w.gateOpen,
    notices := s.link.notices.length, lost := s.link.lost,
    jobs := jobStates.map fun t => (w.js.jobs.filter fun j => j.state = t).length,
    changer := w.cc.state, waitingMoves := w.cc.queue.length, scanWaiting := w.cc.scanEntry.isSome,
    faultRun := w.cc.faultRun, current := w.currentId,
    holdReason := if w.cc.state = .faultHold ∨ w.cc.state = .held then w.cc.holdReason else none,
    ports := ⟨portReport w .d0, portReport w .d1⟩, streams := ⟨streamReport w .d0, streamReport w .d1⟩ }

/-- STATUS (R192). -/
def execStatus (s : State) : Host.Outcome State Fault Refusal :=
  goesOn (s.take 0x02 noFields fun s1 f => s1.sendReply f .ok (.status (statusReport s1)))

/-! ## Modes (R187) -/

/-- SET MODE's owner (R187). -/
def ownSetMode (w : W) (p : List Byte) : Answer :=
  let n := fieldsOf [1] p 0
  if n = 1 then (if w.mode = .online then answer w .empty else answer w.nowOnline .empty)
  else if n = 2 then
    (if w.mode = .maintenance then answer w .empty else answer { w with mode := .maintenance } .empty)
  else refuse w .badArgument

/-- SET MODE (R187). -/
def execSetMode (s : State) : Host.Outcome State Fault Refusal := goesOn (s.ask 0x03 (formOf [1]) ownSetMode)

/-- RESUME's owner (R187). -/
def ownResume (w : W) (_ : List Byte) : Answer :=
  if w.mode ≠ .secured then refuse w .wrongState
  else if w.pins.powerWarning then refuse w .powerWarning
  else answer w.resumeAll .empty

/-- RESUME (R187). -/
def execResume (s : State) : Host.Outcome State Fault Refusal := goesOn (s.ask 0x04 noFields ownResume)

/-- POWER_WARNING_ASSERTED (R187): the notice, then the secure stop. -/
def execPowerWarningAsserted (s : State) : Host.Outcome State Fault Refusal :=
  goesOn (s.onLib fun w =>
    if w.pins.powerWarning then w
    else (W.note { w with pins := { w.pins with powerWarning := true } } (.powerWarning true)).secureStop)

/-- POWER_WARNING_WITHDRAWN (R187). -/
def execPowerWarningWithdrawn (s : State) : Host.Outcome State Fault Refusal :=
  goesOn (s.onLib fun w =>
    if w.pins.powerWarning then
      W.note { w with pins := { w.pins with powerWarning := false } } (.powerWarning false)
    else w)

/-- LINK_SILENT (R188): the timer stops, the notice with the limit the timer ran for, and the secure stop when the action is
SECURE. -/
def execLinkSilent (s : State) : Host.Outcome State Fault Refusal :=
  goesOn (if s.link.silence.isNone then s
    else
      State.onLib { s with link := { s.link with silence := none } } fun w =>
        let w1 := w.note (.linkSilent s.link.silenceLimit)
        if w.setting 9 = 2 then w1.secureStop else w1)

/-! ## The gate and the enables (R122, R123) -/

/-- HALT STREAMS's owner (R122). -/
def ownHaltStreams (w : W) (_ : List Byte) : Answer :=
  let off (s : Stream) : Stream := { s with enable := false }
  answer (W.parseBoth ((W.modStream { w with gateOpen := false } .d0 off).modStream .d1 off)) .empty

/-- HALT STREAMS (R122). -/
def execHaltStreams (s : State) : Host.Outcome State Fault Refusal := goesOn (s.ask 0x05 noFields ownHaltStreams)

/-- RESUME STREAM's owner (R123). -/
def ownResumeStream (w : W) (p : List Byte) : Answer :=
  let n := fieldsOf [1] p 0
  let on (d : Drive) : W := W.parseBoth (W.modStream { w with gateOpen := true } d fun s => { s with enable := true })
  if n = 0 then answer (on .d0) .empty
  else if n = 1 then answer (on .d1) .empty
  else refuse w .badArgument

/-- RESUME STREAM (R123). -/
def execResumeStream (s : State) : Host.Outcome State Fault Refusal :=
  goesOn (s.ask 0x06 (formOf [1]) ownResumeStream)

/-! ## Notices (R190) -/

/-- FETCH NOTICES (R190). -/
def execFetchNotices (s : State) : Host.Outcome State Fault Refusal :=
  goesOn (s.take 0x08 noFields fun s1 f =>
    let body : ReplyBody := .notices s1.link.lost (s1.link.notices.take 8)
    State.sendReply { s1 with link := { s1.link with notices := s1.link.notices.drop 8, lost := false } } f .ok body)

/-! ## Settings (R193) -/

/-- The value of a setting put into the working copies. -/
def putSetting (l : List Nat) (n v : Nat) : List Nat := l.set (n - 1) v

/-- SET SETTING's effect: the value clamped and stored; a silence limit of 0 stops the timer (R188, R193). -/
def State.putSetting (s : State) (n v : Nat) : State :=
  { s with
      settings := { s.settings with working := Machine.putSetting s.settings.working n v },
      link := { s.link with silence := if n = 8 ∧ v = 0 then none else s.link.silence } }

/-- SET SETTING (R193). -/
def execSetSetting (s : State) : Host.Outcome State Fault Refusal :=
  goesOn (s.take 0x09 (formOf [1, 2]) fun s1 f =>
    let x := fieldsOf [1, 2] f.payload
    if x 0 = 0 ∨ 16 < x 0 then s1.sendReply f .badArgument .empty
    else
      let v := clampSetting (x 0) (x 1)
      (s1.putSetting (x 0) v).sendReply f .ok (.setting v))

/-- GET SETTING (R193): the stored copy reads 65,535 while the store has never been written. -/
def execGetSetting (s : State) : Host.Outcome State Fault Refusal :=
  goesOn (s.take 0x0A (formOf [1]) fun s1 f =>
    let n := fieldsOf [1] f.payload 0
    if n = 0 ∨ 16 < n then s1.sendReply f .badArgument .empty
    else
      let stored : Nat := match s1.settings.stored with
        | some l => settingOf l n
        | none => 65535
      s1.sendReply f .ok (.settingCopies (settingOf s1.settings.working n) stored))

/-- SAVE SETTINGS (R193). -/
def execSaveSettings (s : State) : Host.Outcome State Fault Refusal :=
  goesOn (s.take 0x0B noFields fun s1 f =>
    if s1.settings.saving.isSome then s1.sendReply f .busy .empty
    else
      State.sendReply { s1 with settings := { s1.settings with saving := some s1.settings.working } } f .ok .empty)

/-- SETTINGS_SAVE_COMPLETE (R193): the store takes the snapshot whole, or is left as it was. -/
def execSettingsSaveComplete (written : Bool) (s : State) : Host.Outcome State Fault Refusal :=
  goesOn (match s.settings.saving with
    | none => s
    | some snapshot =>
      { s with
          settings := { s.settings with
            stored := if written then some snapshot else s.settings.stored, saving := none },
          link := s.link.push (.settingsSaved written) })

end Sys2Proof.Machine
end

