-- ==== Sys2Proof/Machine/Drives.lean ====
section
/-! DEFINITION. The commands of the drive ports: RETEST DRIVE and UNLOAD DRIVE (R63, R67), presence, media reports and
self-tests (R46, R61, R62), the completions of operations and their time-outs (R51 to R59), and the idle return
(R66). -/

namespace Sys2Proof.Machine

/-- Whether a drive, or the cartridge in it, is claimed by a job (R63, R67). -/
def driveTaken (w : W) (d : Drive) : Bool :=
  (w.driveClaim d).isSome || ((w.portCart d).bind w.claimOf).isSome

/-- RETEST DRIVE's owner (R63). -/
def ownRetestDrive (w : W) (p : List Byte) : Answer :=
  match driveOfByte (fieldsOf [1] p 0) with
  | none => refuse w .noSuchElement
  | some d =>
    let state := (w.port d).state
    if state.inFlight ∨ (state = .init ∧ (w.port d).selfTest.isSome = true) then refuse w .busy
    else if state = .absent then refuse w .wrongState
    else if driveTaken w d then refuse w .claimed
    else answer (((w.stopIdle d).modPort d fun q => { q with recovered := false }).enterInit d false) .empty

/-- RETEST DRIVE (R63). -/
def execRetestDrive (s : State) : Host.Outcome State Fault Refusal :=
  goesOn (s.ask 0x28 (formOf [1]) ownRetestDrive)

/-- UNLOAD DRIVE accepted (R67). -/
def unloadAccepted (w : W) (d : Drive) (home : Bool) : W :=
  let w1 := match home, w.portCart d with
    | true, some i => w.markReturning i
    | true, none => w
    | false, _ => w
  if (w.port d).state = .ready then (w1.stopIdle d).askOp d .unload (.host home)
  else if home then w1.issueReturn d
  else w1

/-- UNLOAD DRIVE's owner (R67). -/
def ownUnloadDrive (w : W) (p : List Byte) : Answer :=
  let f := fieldsOf [1, 1] p
  match driveOfByte (f 0) with
  | none => refuse w .noSuchElement
  | some d =>
    let state := (w.port d).state
    let home : Bool := decide (f 1 = 1)
    if 1 < f 1 then refuse w .badArgument
    else if driveTaken w d then refuse w .claimed
    else if state.inFlight then refuse w .busy
    else if state ≠ .ready ∧ state ≠ .holding then refuse w .wrongState
    else if home = true ∧ ((w.portCart d).bind w.homeOf).isNone = true then refuse w .wrongState
    else answer (unloadAccepted w d home) .empty

/-- UNLOAD DRIVE (R67). -/
def execUnloadDrive (s : State) : Host.Outcome State Fault Refusal :=
  goesOn (s.ask 0x29 (formOf [1, 1]) ownUnloadDrive)

/-! ## Presence, media reports, self-tests (R46, R61, R62) -/

/-- PRESENCE_LOST (R61). -/
def execPresenceLost (d : Drive) (s : State) : Host.Outcome State Fault Refusal :=
  goesOn (s.onLib fun w => if w.presence d then (w.putPresence d false).presenceFalls d else w)

/-- PRESENCE_RISE (R61, R62): INIT and its self-test. -/
def execPresenceRise (d : Drive) (s : State) : Host.Outcome State Fault Refusal :=
  goesOn (s.onLib fun w =>
    if w.presence d then w
    else
      let w1 := w.putPresence d true
      if (w1.port d).state = .absent then w1.enterInit d true else w1)

/-- MEDIA_REPORT (R46): the latest media report of a drive that is present. -/
def execMediaReport (d : Drive) (m : MediaSense) (s : State) : Host.Outcome State Fault Refusal :=
  goesOn (s.onLib fun w =>
    if (w.port d).state = .absent then w else w.modPort d fun q => { q with mediaSensed := some m })

/-- Whether a self-test is in progress (R62). -/
def selfTesting (w : W) (d : Drive) : Bool := decide ((w.port d).state = .init) && (w.port d).selfTest.isSome

/-- SELF_TEST_RESULT (R62). -/
def execSelfTestResult (d : Drive) (r : SelfTestReport) (s : State) : Host.Outcome State Fault Refusal :=
  goesOn (s.onLib fun w =>
    if selfTesting w d then
      match r with
      | .passed holds => w.selfTestPasses d holds
      | .failed => w.selfTestFails d
    else w)

/-- SELF_TEST_TIMEOUT (R62). -/
def execSelfTestTimeout (d : Drive) (s : State) : Host.Outcome State Fault Refusal :=
  goesOn (s.onLib fun w => if selfTesting w d then w.selfTestFails d else w)

/-! ## Completions (R51 to R58) -/

/-- LOAD_COMPLETE (R52). -/
def execLoadComplete (d : Drive) (r : LoadReport) (asked : Bool) (s : State) : Host.Outcome State Fault Refusal :=
  goesOn (s.onLib fun w => w.loadEnds d r asked)

/-- The largest count a drive reports: the capacity of kind B (R145). -/
def largestCount : Nat := 6000000

/-- The count a port takes from a drive's report: the one reported, or a free value within the capacity where the
report exceeds it (R46, R53; DESIGN CHOICE, log entry 6). The capacity is that of kind B, the largest: a count that exceeds the
capacity of the mounted kind A alone is taken as reported (R53; DESIGN CHOICE, log entry 6). -/
def countTaken (c : Nat) : Nat := if c ≤ largestCount then c else min (Config.countBeyond c) largestCount

/-- The block a port takes from a drive's report: the one reported, or a free value of at most 65,536 bytes where the
report is longer (R54; DESIGN CHOICE, log entry 6). -/
def blockTaken (block : List Byte) : List Byte :=
  if block.length ≤ blockSize then block else (Config.blockBeyond block).take blockSize

/-- A Locate's report as the port takes it. -/
def locateTaken : LocateReport → LocateReport
  | .ok => .ok
  | .blank c => .blank (countTaken c)
  | .readError => .readError
  | .transport => .transport

/-- LOCATE_COMPLETE (R53). -/
def execLocateComplete (d : Drive) (r : LocateReport) (asked : Bool) (s : State) :
    Host.Outcome State Fault Refusal :=
  goesOn (s.onLib fun w => w.locateEnds d (locateTaken r) asked)

/-- A Locate End's report as the port takes it. -/
def locateEndTaken : LocateEndReport → LocateEndReport
  | .ok c => .ok (countTaken c)
  | .blank => .blank
  | .readError => .readError
  | .transport => .transport

/-- LOCATE_END_COMPLETE (R53). -/
def execLocateEndComplete (d : Drive) (r : LocateEndReport) (asked : Bool) (s : State) :
    Host.Outcome State Fault Refusal :=
  goesOn (s.onLib fun w => w.locateEndEnds d (locateEndTaken r) asked)

/-- A Read Block's report as the port takes it: a block has 65,536 bytes, those not listed being zero. -/
def readTaken : ReadReport → ReadReport
  | .ok block => .ok (blockTaken block)
  | .endMark => .endMark
  | .blank => .blank
  | .readError => .readError
  | .transport => .transport

/-- READ_BLOCK_COMPLETE (R54). -/
def execReadBlockComplete (d : Drive) (r : ReadReport) (asked : Bool) (s : State) :
    Host.Outcome State Fault Refusal :=
  goesOn (s.onLib fun w => w.readEnds d (readTaken r) asked)

/-- WRITE_BLOCK_COMPLETE (R55). -/
def execWriteBlockComplete (d : Drive) (r : WriteReport) (asked : Bool) (s : State) :
    Host.Outcome State Fault Refusal :=
  goesOn (s.onLib fun w => w.writeEnds d r asked)

/-- WRITE_END_MARK_COMPLETE (R56). -/
def execWriteEndMarkComplete (d : Drive) (r : EndMarkReport) (asked : Bool) (s : State) :
    Host.Outcome State Fault Refusal :=
  goesOn (s.onLib fun w => w.endMarkEnds d r asked)

/-- UNLOAD_COMPLETE (R57). -/
def execUnloadComplete (d : Drive) (r : PlainReport) (asked : Bool) (s : State) :
    Host.Outcome State Fault Refusal :=
  goesOn (s.onLib fun w => w.unloadEnds d r asked)

/-- CLEAN_COMPLETE (R58). -/
def execCleanComplete (d : Drive) (r : PlainReport) (asked : Bool) (s : State) :
    Host.Outcome State Fault Refusal :=
  goesOn (s.onLib fun w => w.cleanEnds d r asked)

/-- OPERATION_TIMEOUT (R59). -/
def execOperationTimeout (d : Drive) (s : State) : Host.Outcome State Fault Refusal :=
  goesOn (s.onLib fun w => w.opTimesOut d)

/-! ## Idle return (R66) -/

/-- IDLE_RETURN_EXPIRY (R66). -/
def execIdleReturnExpiry (d : Drive) (s : State) : Host.Outcome State Fault Refusal :=
  goesOn (s.onLib fun w => if (w.idleTimer d).isSome then w.idleExpires d else w)

/-- PENDING_IDLE_RETURN (R66). -/
def execPendingIdleReturn (d : Drive) (s : State) : Host.Outcome State Fault Refusal :=
  goesOn (s.onLib fun w => w.idlePendingRuns d)

end Sys2Proof.Machine
end

