-- ==== Sys2Proof/Machine/Inventory.lean ====
section
/-! DEFINITION. The commands of the inventory and the changer: requests 0x20 to 0x27 (R17 to R20, R35, R41, R42), the
doors and magazines (R2, R36, R37, R39), and the events of the changer (R25 to R45). -/

namespace Sys2Proof.Machine

/-! ## Requests -/

/-- The slot of a SCAN or SLOT INFO value: 1 to 40, or 64 for M (R20, R41). -/
def slotOfByte (n : Nat) : Option Element :=
  if 1 ≤ n ∧ n ≤ 40 then some (.slot n) else if n = 64 then some .mail else none

/-- The place of a scan's slot in visiting order: M after S40 (R41). -/
def visitPlace : Element → Nat
  | .slot n => n
  | .mail => 41
  | .drive _ => 42
  | .picker => 42

/-- The slots from one to another in visiting order (R41). -/
def slotsBetween (a b : Element) : List Element :=
  scanOrder.filter fun e => decide (visitPlace a ≤ visitPlace e) && decide (visitPlace e ≤ visitPlace b)

/-- SCAN's owner (R41). -/
def ownScan (w : W) (p : List Byte) : Answer :=
  let f := fieldsOf [1, 1] p
  match slotOfByte (f 0), slotOfByte (f 1) with
  | some a, some b =>
    if visitPlace b < visitPlace a then refuse w .badArgument
    else
      let r := w.queueScan (slotsBetween a b)
      answer r.1 (.entryId r.2)
  | _, _ => refuse w .noSuchElement

/-- SCAN (R41). -/
def execScan (s : State) : Host.Outcome State Fault Refusal := goesOn (s.ask 0x20 (formOf [1, 1]) ownScan)

/-- A slot as SLOT INFO reports it (R20). -/
def slotReport (w : W) (e : Element) : SlotReport :=
  let r := w.slotAt e
  let shows (s : SlotState) : Bool := decide (r.state = s) || decide (r.state = .unknown)
  { element := e, state := r.state,
    holder := if shows .occupied then r.holder.map w.cartRef else none,
    reservedFor := if shows .reserved then r.reservedFor.map w.cartRef else none,
    mailDoorOpen := if e = .mail then some w.ct.mailDoorOpen else none }

/-- SLOT INFO's owner (R20). -/
def ownSlotInfo (w : W) (p : List Byte) : Answer :=
  let n := fieldsOf [1] p 0
  if n = 0 then answer w (.slots (scanOrder.map (slotReport w)))
  else
    match slotOfByte n with
    | some e => answer w (.slots [slotReport w e])
    | none => refuse w .noSuchElement

/-- SLOT INFO (R20). -/
def execSlotInfo (s : State) : Host.Outcome State Fault Refusal := goesOn (s.look 0x21 (formOf [1]) ownSlotInfo)

/-- A request that begins with a form byte: 0 and a label, or 1 and a byte. A form byte above 1 is left to the owner. -/
def formByte (p : List Byte) : Bool :=
  match p with
  | [] => false
  | b :: rest =>
    if b = 0#8 then decide (rest.length = 8) else if b = 1#8 then decide (rest.length = 1) else true

/-- CARTRIDGE INFO's owner (R20). An index of 64 to 255, of which R20 does not speak, is answered as a free index
(DESIGN CHOICE, log entry 41). -/
def ownCartridgeInfo (w : W) (p : List Byte) : Answer :=
  let form := (p.headD 0#8).toNat
  let found : Option Nat :=
    if form = 0 then w.cartByLabel (p.drop 1)
    else
      let i := beNat (p.drop 1)
      if i < 64 ∧ (w.cart i).isSome then some i else none
  if 1 < form then refuse w .badArgument
  else
    match found with
    | some i =>
      (match w.cart i with
       | some c => answer w (.cartridge i c (capacityReport c))
       | none => refuse w .noSuchCartridge)
    | none => refuse w .noSuchCartridge

/-- CARTRIDGE INFO (R20). -/
def execCartridgeInfo (s : State) : Host.Outcome State Fault Refusal := goesOn (s.look 0x22 formByte ownCartridgeInfo)

/-- The state CLEAR SUSPECT gives (R19). -/
def clearedState (c : CartRec) : MediaState :=
  let past : Bool := match c.blocksUsed with
    | .known n => decide (thresholdOf c.kind ≤ n)
    | .unknown => false
    | .absent => false
  if past || c.noEndMark then .full else .opened

/-- The states RETIRE accepts (R19). -/
def retirable : MediaState → Bool
  | .new => true
  | .blank => true
  | .opened => true
  | .full => true
  | .suspect => true
  | .retired => false
  | .cleaning => false
  | .expired => false
  | .foreign => false

/-- EDIT CARTRIDGE's owner (R19). An index of 64 to 255, of which R19 does not speak, is answered as a free index
(DESIGN CHOICE, log entry 41). -/
def ownEditCartridge (w : W) (p : List Byte) : Answer :=
  let f := fieldsOf [1, 1, 1] p
  let i := f 0
  let action := f 1
  let value := f 2
  match (if i < 64 then w.cart i else none) with
  | none => refuse w .noSuchCartridge
  | some c =>
    if action = 1 then
      (if 7 < value then refuse w .badArgument
       else answer ((w.modCart i fun r => { r with pool := value }).wantDispatch) (.mediaState c.state))
    else if action = 2 then
      (if c.claim.isSome then refuse w .claimed
       else if retirable c.state then answer (w.setMedia i .retired .hostEdit) (.mediaState .retired)
       else refuse w .wrongState)
    else if action = 3 then
      (if c.state = .suspect then
        answer (w.setMedia i (clearedState c) .hostEdit) (.mediaState (clearedState c))
       else refuse w .wrongState)
    else refuse w .badArgument

/-- EDIT CARTRIDGE (R19). -/
def execEditCartridge (s : State) : Host.Outcome State Fault Refusal :=
  goesOn (s.ask 0x23 (formOf [1, 1, 1]) ownEditCartridge)

/-- Whether an element is a drive. -/
def driveOf : Element → Option Drive
  | .drive d => some d
  | .slot _ => none
  | .mail => none
  | .picker => none

/-- The move is queued and its id is the reply, or the queue is full (R17, R18, R42). -/
def queueRequested (w : W) (source : Element) (asked : Dest) (expected : Option Label) : Answer :=
  let r := w.queueMove .requested source asked expected 0 none
  match r.2 with
  | some id => answer r.1 (.entryId id)
  | none => refuse w .busy

/-- MOVE's owner (R42). -/
def ownMove (w : W) (p : List Byte) : Answer :=
  let f := fieldsOf [1, 1, 8] p
  match elementOfByte (f 0), elementOfByte (f 1) with
  | some a, some b =>
    let drives := [driveOf a, driveOf b].filterMap id
    if a = b then refuse w .badArgument
    else if w.mode = .online ∧ drives ≠ [] then refuse w .claimed
    else if drives.any fun d => (w.driveClaim d).isSome then refuse w .claimed
    else if ((w.recordAt a).bind w.claimOf).isSome then refuse w .claimed
    else queueRequested w a (.element b) (labelField (p.drop 2))
  | _, _ => refuse w .noSuchElement

/-- MOVE (R42). -/
def execMove (s : State) : Host.Outcome State Fault Refusal := goesOn (s.ask 0x24 (formOf [1, 1, 8]) ownMove)

/-- IMPORT's payload: one optional byte (R17). -/
def optionalByte (p : List Byte) : Bool := decide (p.length ≤ 1)

/-- IMPORT's owner (R17). -/
def ownImport (w : W) (p : List Byte) : Answer :=
  let pool := (p.head?.map BitVec.toNat).getD 255
  let m := w.slotAt .mail
  match (if m.state = .occupied then m.holder else none) with
  | none => refuse w .wrongState
  | some i =>
    if w.lowestEmpty = none then refuse w .full
    else if w.queueFull then refuse w .busy
    else if 8 ≤ pool ∧ pool ≤ 254 then refuse w .badArgument
    else
      let w1 := if pool ≤ 7 then (w.modCart i fun c => { c with pool := pool }).wantDispatch else w
      queueRequested w1 .mail .lowestFree (w.labelOf i)

/-- IMPORT (R17). -/
def execImportCartridge (s : State) : Host.Outcome State Fault Refusal := goesOn (s.ask 0x25 optionalByte ownImport)

/-- EXPORT of what an element holds: its place is judged, then its claim, then the queue (R18). -/
def exportFrom (w : W) (e : Element) : Answer :=
  let held : Bool := match e with
    | .slot n => decide ((w.slotAt (.slot n)).state = .occupied) || decide ((w.slotAt (.slot n)).state = .untracked)
    | .drive d => decide ((w.port d).cartridge ≠ .none)
    | .mail => false
    | .picker => false
  let i := w.recordAt e
  if held = false then refuse w .wrongState
  else if (i.bind w.claimOf).isSome then refuse w .claimed
  else queueRequested w e (.element .mail) (i.bind w.labelOf)

/-- The element of EXPORT's element form: S1 to S40, D0, D1 (R18). -/
def exportElement (n : Nat) : Option Element :=
  match elementOfByte n with
  | some (.slot k) => some (.slot k)
  | some (.drive d) => some (.drive d)
  | some .mail => none
  | some .picker => none
  | none => none

/-- EXPORT's owner (R18). -/
def ownExport (w : W) (p : List Byte) : Answer :=
  let form := (p.headD 0#8).toNat
  if 1 < form then refuse w .badArgument
  else if form = 0 then
    match (w.cartByLabel (p.drop 1)).bind w.locationOf with
    | some e => exportFrom w e
    | none => refuse w .noSuchCartridge
  else
    match exportElement (beNat (p.drop 1)) with
    | some e => exportFrom w e
    | none => refuse w .noSuchElement

/-- EXPORT (R18). -/
def execExportCartridge (s : State) : Host.Outcome State Fault Refusal := goesOn (s.ask 0x26 formByte ownExport)

/-- CLEAR CHANGER FAULT's owner (R35). -/
def ownClearChangerFault (w : W) (_ : List Byte) : Answer :=
  if w.cc.state = .faultHold ∨ w.cc.state = .locked then answer w.clearFault .empty else refuse w .wrongState

/-- CLEAR CHANGER FAULT (R35). -/
def execClearChangerFault (s : State) : Host.Outcome State Fault Refusal :=
  goesOn (s.ask 0x27 noFields ownClearChangerFault)

/-! ## Doors and magazines (R2, R36, R37, R39) -/

/-- FRONT_DOOR_OPENED (R36). -/
def execFrontDoorOpened (s : State) : Host.Outcome State Fault Refusal :=
  goesOn (s.onLib fun w =>
    if w.pins.frontDoorOpen then w
    else W.frontDoorOpens { w with pins := { w.pins with frontDoorOpen := true } })

/-- FRONT_DOOR_CLOSED (R37). -/
def execFrontDoorClosed (s : State) : Host.Outcome State Fault Refusal :=
  goesOn (s.onLib fun w =>
    if w.pins.frontDoorOpen then W.frontDoorCloses { w with pins := { w.pins with frontDoorOpen := false } }
    else w)

/-- MAIL_SLOT_DOOR_OPENED (R39). -/
def execMailSlotDoorOpened (s : State) : Host.Outcome State Fault Refusal :=
  goesOn (s.onLib fun w =>
    if w.pins.mailDoorOpen then w
    else (W.note { w with pins := { w.pins with mailDoorOpen := true } } (.door false true)).mailOpened)

/-- MAIL_SLOT_DOOR_CLOSED (R39): a scan of M is asked for. -/
def execMailSlotDoorClosed (s : State) : Host.Outcome State Fault Refusal :=
  goesOn (s.onLib fun w =>
    if w.pins.mailDoorOpen then
      ((W.note { w with pins := { w.pins with mailDoorOpen := false } } (.door false false)).mailClosed.queueScan
        [.mail]).1
    else w)

/-- Note a magazine's presence line. -/
def putMagazine (w : W) (m : Magazine) (level : Bool) : W :=
  match m with
  | .left => { w with pins := { w.pins with magazineLeft := level } }
  | .right => { w with pins := { w.pins with magazineRight := level } }

/-- MAGAZINE_REMOVED (R2). -/
def execMagazineRemoved (m : Magazine) (s : State) : Host.Outcome State Fault Refusal :=
  goesOn (s.onLib fun w => if w.magazinePresent m then (putMagazine w m false).magazineGone m else w)

/-- MAGAZINE_INSERTED (R2). -/
def execMagazineInserted (m : Magazine) (s : State) : Host.Outcome State Fault Refusal :=
  goesOn (s.onLib fun w => if w.magazinePresent m then w else (putMagazine w m true).magazineBack m)

/-! ## The changer's events -/

/-- A step on the library when a changer step is running, and nothing otherwise. -/
def whileRuns (step : Step) (f : W → W) (w : W) : W := if w.stepRuns step then f w else w

/-- ENTRY_START (R25). -/
def execEntryStart (sensed : Bool) (s : State) : Host.Outcome State Fault Refusal :=
  goesOn (s.onLib fun w => w.startEntry sensed)

/-- TRAVEL_ARRIVAL (R27). -/
def execTravelArrival (s : State) : Host.Outcome State Fault Refusal :=
  goesOn (s.onLib fun w =>
    if w.stepRuns .travel then w.beginStep .grip
    else if w.stepRuns .travelLoaded then w.beginStep .place
    else w)

/-- GRIP_DONE (R27, R32): the picker sensor tells an extraction from a GRIP-MISS. -/
def execGripDone (sensed : Bool) (reads : LabelReads) (s : State) : Host.Outcome State Fault Refusal :=
  goesOn (s.onLib (whileRuns .grip fun w =>
    let w1 := w.sensePicker sensed
    match w1.currentMove with
    | some m => if sensed then w1.endStep.extractDone m (w1.labelBy reads) else w1.gripMiss
    | none => w1))

/-- INSERT_DONE (R27). -/
def execInsertDone (s : State) : Host.Outcome State Fault Refusal :=
  goesOn (s.onLib (whileRuns .place fun w =>
    let w1 := w.sensePicker false
    match w1.currentMove with
    | some m => (w1.placeDone m).goToRest
    | none => w1))

/-- PLACE_BLOCKED (R29). -/
def execPlaceBlocked (s : State) : Host.Outcome State Fault Refusal :=
  goesOn (s.onLib (whileRuns .place W.placeBlocked))

/-- AXIS_STALL (R29). -/
def execAxisStall (s : State) : Host.Outcome State Fault Refusal :=
  goesOn (s.onLib fun w => if w.cc.stepTimer.isSome then w.stall else w)

/-- STEP_TIMER_EXPIRY (R29): taken as a STALL of the step. -/
def execStepTimerExpiry (s : State) : Host.Outcome State Fault Refusal :=
  goesOn (s.onLib fun w => if w.cc.stepTimer.isSome then w.stall else w)

/-- RETRY_DELAY_EXPIRY (R30): the failed step is done again. -/
def execRetryDelayExpiry (s : State) : Host.Outcome State Fault Refusal :=
  goesOn (s.onLib fun w =>
    if w.cc.state = .retryWait then
      match w.cc.step with
      | some step => w.beginStep step
      | none => w
    else w)

/-- HOMING_COMPLETE (R35, R37, R43, R44). -/
def execHomingComplete (sensed : Bool) (s : State) : Host.Outcome State Fault Refusal :=
  goesOn (s.onLib (whileRuns .homing fun w => w.homed sensed))

/-- SPOT_CHECK_DONE (R37). -/
def execSpotCheckDone (present : Bool) (s : State) : Host.Outcome State Fault Refusal :=
  goesOn (s.onLib (whileRuns .spotCheck fun w => w.spotChecked present))

/-- What a scan step found at a slot (R40): no magazine when its line has fallen meanwhile, else nothing, or a
cartridge with the label read. -/
def findingOf (w : W) (e : Element) (present : Bool) (reads : LabelReads) : SlotFinding :=
  let out : Bool := match e with
    | .slot n => !w.magazinePresent (magazineOf n)
    | .mail => false
    | .drive _ => false
    | .picker => false
  if out then .noMagazine else if present then .cartridge (w.labelBy reads) else .empty

/-- SCAN_SLOT_DONE (R40): the slot in progress is reported and the scan goes on. M is passed over when its door has
opened meanwhile. -/
def execScanSlotDone (present : Bool) (reads : LabelReads) (s : State) : Host.Outcome State Fault Refusal :=
  goesOn (s.onLib (whileRuns .scanStep fun w =>
    match w.remainingSlots with
    | e :: rest =>
      let w1 := if e = .mail ∧ w.ct.mailDoorOpen = true then w else w.scanResult e (findingOf w e present reads)
      ((w1.putRemaining rest).endStep).scanGoesOn
    | [] => w))

/-- HELD_MOVE_ISSUE (R79): a place of the move queue has freed. -/
def execHeldMoveIssue (s : State) : Host.Outcome State Fault Refusal := goesOn (s.onLib W.issueHeld)

end Sys2Proof.Machine
end

