-- ==== Sys2Proof/Machine/Records.lean ====
section
/-! DEFINITION. The commands of the catalog: requests 0x70 to 0x74 (R155, R156, R158, R159). -/

namespace Sys2Proof.Machine

/-- An extent in SESSION INFO (R158). -/
def extentSummary (e : ExtentRec) : ExtentSummary :=
  { sequence := e.sequence, label := e.label, firstBlock := e.firstBlock, blockCount := e.blockCount,
    verifyState := e.verifyState }

/-- A session in SESSION INFO of all sessions (R158). -/
def sessionSummary (w : W) (s : SessionRec) : SessionSummary :=
  { id := s.id, state := s.state, origin := s.origin, verifySummary := s.verifySummary,
    objectsBegun := s.objectsBegun, pinCount := w.pinCount s.id, extents := (w.extentsOf s.id).length }

/-- SESSION INFO's owner (R158). -/
def ownSessionInfo (w : W) (p : List Byte) : Answer :=
  let f := fieldsOf [2, 2] p
  if f 0 = 0 then answer w (.sessions (w.cg.sessions.map (sessionSummary w)))
  else
    match w.session (f 0) with
    | none => refuse w .noSuchSession
    | some s =>
      let all := w.extentsOf s.id
      let l := all.filter fun e => decide (f 1 ≤ e.sequence)
      answer w (.session s (w.pinCount s.id) all.length ((l.take 200).map extentSummary) (decide (200 < l.length)))

/-- SESSION INFO (R158). -/
def execSessionInfo (s : State) : Host.Outcome State Fault Refusal :=
  goesOn (s.look 0x70 (formOf [2, 2]) ownSessionInfo)

/-- EXTENT INFO's owner (R158). -/
def ownExtentInfo (w : W) (p : List Byte) : Answer :=
  let f := fieldsOf [2, 2] p
  match w.session (f 0), w.extent (f 0) (f 1) with
  | some _, some e => answer w (.extent e)
  | _, _ => refuse w .noSuchSession

/-- EXTENT INFO (R158). -/
def execExtentInfo (s : State) : Host.Outcome State Fault Refusal :=
  goesOn (s.look 0x71 (formOf [2, 2]) ownExtentInfo)

/-- DROP SESSION's owner (R155). -/
def ownDropSession (w : W) (p : List Byte) : Answer :=
  match w.session (fieldsOf [2] p 0) with
  | none => refuse w .noSuchSession
  | some s =>
    if s.state = .opened ∨ 0 < w.pinCount s.id then refuse w .inUse
    else
      let r := w.dropSession s.id
      answer r.1 (.extentsFreed r.2)

/-- DROP SESSION (R155). -/
def execDropSession (s : State) : Host.Outcome State Fault Refusal :=
  goesOn (s.ask 0x72 (formOf [2]) ownDropSession)

/-- The sizes of LOAD EXTENT's fields (R156). -/
def loadExtentFields : List Nat := [2, 2, 8, 4, 4, 3, 2, 3, 4, 8, 8, 1, 1, 8]

/-- The extent a LOAD EXTENT gives (R156). -/
def extentOf (p : List Byte) : ExtentIn :=
  let f := fieldsOf loadExtentFields p
  { session := f 0, sequence := f 1, label := (p.drop 4).take 8, firstBlock := f 3, blockCount := f 4,
    firstObject := f 5, firstChunk := f 6, lastObject := f 7, chunkFrames := f 8, rawBytes := f 9,
    codedBytes := f 10, flags := f 11, pool := f 12, hostTag := p.drop 50 }

/-- LOAD EXTENT's owner (R156). -/
def ownLoadExtent (w : W) (p : List Byte) : Answer :=
  let e := extentOf p
  match w.extentAnswer e none with
  | .ok => answer (w.takeExtent e .loaded) .empty
  | status => refuse w status

/-- LOAD EXTENT (R156). -/
def execLoadExtent (s : State) : Host.Outcome State Fault Refusal :=
  goesOn (s.ask 0x73 (formOf loadExtentFields) ownLoadExtent)

/-- CATALOG INFO's owner (R159). -/
def ownCatalogInfo (w : W) (_ : List Byte) : Answer :=
  let l := w.cg.sessions
  let inState (s : SessionState) : Nat := (l.filter fun r => r.state = s).length
  let ofOrigin (o : SessionOrigin) : Nat := (l.filter fun r => r.origin = o).length
  answer w (.catalog l.length (64 - l.length) w.cg.extents.length (1024 - w.cg.extents.length)
    [inState .opened, inState .closed, inState .truncated]
    [ofOrigin .written, ofOrigin .loaded, ofOrigin .rebuilt]
    (l.filter fun r => 0 < w.pinCount r.id).length ((List.range 8).map w.poolReport))

/-- CATALOG INFO (R159). -/
def execCatalogInfo (s : State) : Host.Outcome State Fault Refusal := goesOn (s.look 0x74 noFields ownCatalogInfo)

end Sys2Proof.Machine
end

