-- ==== Sys2Proof/Machine/Reset.lean ====
section
/-! DEFINITION. Power-on reset and controller reset, block by block (R21, R43, R44, R68, R69, R90, R109, R127, R146,
R160, R187 to R189, R193, R194). -/

namespace Sys2Proof.Machine

/-- The working copies after a reset: the store's, or the factory values (R193). -/
def loadedSettings (s : SettingsState) : List Nat := s.stored.getD factorySettings

/-- The mode after a reset (R187). -/
def modeAfterReset (p : Pins) : Mode := if p.powerWarning then .secured else .online

/-! ## Power-on reset -/

/-- The presence line of a magazine among given lines. -/
def linePresent (p : Pins) : Magazine → Bool
  | .left => p.magazineLeft
  | .right => p.magazineRight

/-- A storage slot after a power-on reset (R21). -/
def powerOnSlot (p : Pins) (k : Nat) : SlotRec :=
  { state := if linePresent p (magazineOf (k + 1)) then .unknown else .noMagazine, holder := none,
    reservedFor := none }

/-- The Cartridge Table after a power-on reset (R21). -/
def powerOnTable (p : Pins) : CartTable :=
  { resetCartTable with slots := (List.range 40).map (powerOnSlot p), mailDoorOpen := p.mailDoorOpen }

/-- The changer after a power-on reset (R43). -/
def powerOnChanger (p : Pins) : Changer :=
  if p.frontDoorOpen then
    { resetChanger with state := .held, step := none, stepTimer := none,
                        held := some { step := none, ret := .idle, reason := none, seq := .powerOn } }
  else resetChanger

/-- A port after a power-on reset (R68). -/
def powerOnPort (present : Bool) : Port :=
  if present then resetPort else { resetPort with state := .absent, selfTest := none }

/-- The library after a power-on reset that finds given lines. -/
def powerOnLib (p : Pins) : Lib :=
  { resetLib with
      mode := modeAfterReset p, gateOpen := !p.powerWarning, pins := p, ct := powerOnTable p,
      cc := powerOnChanger p, ports := ⟨powerOnPort p.presence0, powerOnPort p.presence1⟩ }

/-- The link after a power-on reset: everything empty, RESET DONE queued with number 0, the silence timer started
(R184, R188, R189). -/
def powerOnLink (p : Pins) (working : List Nat) : LinkState :=
  { receiver := [], frames := [], reject := false,
    notices := [{ seq := 0, notice := .resetDone true (modeAfterReset p) }], lost := false, nextNotice := 1,
    silence := silenceStart (settingOf working 8), silenceLimit := settingOf working 8, reply := none }

/-- A power-on reset: the settings store alone is kept, and the commands that wait outside the part. -/
def State.powerOn (s : State) (p : Pins) : State :=
  let working := loadedSettings s.settings
  { pending := s.pending, link := powerOnLink p working,
    settings := { working := working, stored := s.settings.stored, saving := none }, lib := powerOnLib p }

/-- POWER_ON_RESET. -/
def execPowerOnReset (p : Pins) (s : State) : Host.Outcome State Fault Refusal := goesOn (s.powerOn p)

/-! ## Controller reset -/

namespace W

/-- Whether an early-warning span is under way in a BACKUP's sequence (R146). -/
def spanUnderWay (b : BackupData) : Bool :=
  match b.ending with
  | some .spanWriteOut => true
  | some (.spanMarker _) => true
  | some (.endLocate (.span _) _) => true
  | some (.endMark (.span _)) => true
  | some .closeWrite => false
  | some .truncPlace => false
  | some .truncWrite => false
  | some .truncMark => false
  | some (.endLocate .writeFailure _) => false
  | some (.endLocate .closing _) => false
  | some (.endLocate .truncation _) => false
  | some (.endMark .writeFailure) => false
  | some (.endMark .closing) => false
  | some (.endMark .truncation) => false
  | none => false

/-- What a controller reset does to the cartridge of a BACKUP that is writing (R146). -/
def resetCartridge (w : W) (j : Job) : W :=
  match j.backup?, j.cartridge with
  | some b, some i =>
    if j.state.isFinished = false ∧ (b.extentOpen || b.ending.isSome) = true then
      w.modCart i fun c =>
        let full : Bool := spanUnderWay b ||
          (decide (c.state = .opened) && decide (thresholdOf c.kind ≤ (w.knownUsed i).getD 0))
        let keep : Bool := decide (c.state = .suspect) || decide (c.state = .full)
        { c with noEndMark := true, state := if full && !keep then .full else c.state }
    else w
  | _, _ => w

/-- Each OPEN session becomes TRUNCATED and its open extent is closed, or freed when it holds no block (R160). -/
def resetSession (w : W) (s : SessionRec) : W :=
  if s.state = .opened then
    let w1 := w.modSession s.id fun r => { r with state := .truncated }
    ((w1.extentsOf s.id).filter ExtentRec.isOpen).foldl (fun (v : W) (e : ExtentRec) =>
      if e.blockCount = 0 then v.freeExtent s.id e.sequence
      else v.modExtent s.id e.sequence fun x => { x with isOpen := false, endMark := false, continues := false }) w1
  else w

/-- A job at a controller reset (R90): an unfinished one is ABORTED with result RESET; every RESTORE's queue is
emptied (R127) and every coding state ends (R109). -/
def resetJob (j : Job) : Job :=
  let emptied : Progress := match j.progress with
    | .restore r => .restore { r with out := [], headOffset := 0, todo := [] }
    | .backup b => Progress.ended (.backup b)
    | .verify v => .verify v
    | .clean => .clean
  if j.state.isFinished then { j with progress := emptied }
  else
    { j with state := .aborted, waitReason := none, result := some .reset, drive := none, cartridge := none,
             stream := none, mountStep := none, abortPending := false, yielding := false, ticket := none,
             pins := [], endAs := none, mediaAsked := false, progress := emptied }

/-- The scheduler at a controller reset (R90). -/
def resetJobs (w : W) : W :=
  { w with js := { w.js with
      jobs := w.js.jobs.map resetJob, claims := ⟨none, none⟩, idle := ⟨none, none⟩, idlePending := ⟨false, false⟩,
      returning := [], heldMoves := [], cleanNeed := ⟨false, false⟩ } }

/-- Whether the mail-slot door is found closed that the table holds for open (R21). -/
def mailFoundClosed (w : W) : Bool := w.ct.mailDoorOpen && !w.pins.mailDoorOpen

/-- The Cartridge Table at a controller reset (R21). The scan of M that a door found closed brings is asked for with that of
the UNKNOWN slots, in `resetBlocks`. -/
def resetTable (w : W) : W :=
  let w1 : W := { w with ct := { w.ct with
    carts := w.ct.carts.map fun c => c.map fun r => { r with claim := none }, scan := none } }
  if w1.pins.mailDoorOpen = w1.ct.mailDoorOpen then w1
  else if w1.pins.mailDoorOpen then w1.mailOpened
  else w1.mailClosed

/-- A port at a controller reset (R69): an operation in flight goes on for nobody; otherwise the port leaves its reset
sequence at once, unless it is in INIT or ABSENT. -/
def resetPortNow (w : W) (d : Drive) : W :=
  let w1 := w.modPort d fun p =>
    { p with lastResult := none, resetting := p.state.inFlight,
             pending := p.pending.map fun q => { q with requester := .nobody } }
  if (w1.port d).state.inFlight then w1 else w1.leaveReset d

/-- The slots that are UNKNOWN (R2, R21). -/
def unknownSlots (w : W) : List Element := scanOrder.filter fun e => decide ((w.slotAt e).state = .unknown)

/-- Every block applies its values after a controller reset (R194). Reports still on their way are dropped with the
work they belong to. -/
def resetBlocks (w : W) : W :=
  let w1 := w.js.jobs.foldl resetCartridge w
  let w2 := w1.cg.sessions.foldl resetSession w1
  let w3 := w2.cg.sessions.foldl (fun (v : W) s => v.deriveSession s.id) w2.resetJobs
  let w4 : W := { w3.resetTable with
    signals := [], dispatchDue := false, catalogDue := false, streams := ⟨resetStream, resetStream⟩,
    coder := { busy := none, lastServed := .d1 }, mode := modeAfterReset w.pins, gateOpen := !w.pins.powerWarning }
  let w5 := ((w4.resetChangerNow).resetPortNow .d0).resetPortNow .d1
  let slots := w5.unknownSlots ++ (if w.mailFoundClosed then [Element.mail] else [])
  if slots = [] then w5 else (w5.queueScan slots).1

/-- What follows the end of a controller reset: CLEAN jobs for the drives that still ask, then dispatch (R90). -/
def afterReset (w : W) : W :=
  let clean (v : W) (d : Drive) : W := if (v.port d).cleanRequest then v.cleanWanted d else v
  (clean (clean w .d0) .d1).wantDispatch

end W

/-- A controller reset (R194): the link emptied, every block reset, RESET DONE queued, and what follows the reset's
end. -/
def State.resetController (s : State) : State :=
  let working := loadedSettings s.settings
  let w := W.resetBlocks { toLib := s.lib, set := working, out := [] }
  let s1 : State :=
    { s with
        lib := w.toLib,
        settings := { s.settings with working := working, saving := none },
        link := LinkState.startSilence
          { s.link with receiver := [], frames := [], reject := false, notices := [], lost := false }
          (settingOf working 8) }
  let s2 := { s1 with link := s1.link.push (.resetDone false (modeAfterReset s.lib.pins)) }
  s2.onLib W.afterReset

/-- RESET CONTROLLER (R194): the reply OK is sent first. -/
def execResetController (s : State) : Host.Outcome State Fault Refusal :=
  goesOn (s.take 0x07 noFields fun s1 f => (s1.sendReply f .ok .empty).resetController)

end Sys2Proof.Machine
end

