-- ==== Sys2Proof/Machine/Work.lean ====
section
/-! DEFINITION. The commands of jobs: backup requests 0x40 to 0x44 (R112, R129 to R132, R142), verify and restore
requests 0x50 to 0x52 (R161, R173, R182), job requests 0x60 to 0x63 (R86, R88, R89), and the events of the scheduler,
the coder and the streams (R79, R86, R95, R105, R107, R115 to R118, R133, R181). -/

namespace Sys2Proof.Machine

/-! ## Backup requests -/

/-- The working values of G, S and Q under a mode (R101). -/
def takeSnapshot (w : W) (mode : CodingMode) : Snapshot :=
  { mode := mode, gain := w.setting 1, storedRun := w.setting 2, skip := w.setting 3 }

/-- A BACKUP's progress at its admission (R128). -/
def startBackup (snap : Snapshot) (autoVerify : Bool) : BackupData :=
  { objectsBegun := 0, openObject := none, closing := false, truncating := false, extentSeq := 0,
    extentOpen := false, securedThrough := 0, part := none, spanCause := none, autoVerify := autoVerify,
    snapshot := snap, coding := none, ending := none, truncEnd := none }

/-- The fields of OPEN SESSION (R129). -/
def openSessionFields : List Nat := [2, 1, 1, 1, 8]

/-- OPEN SESSION's owner (R129). -/
def ownOpenSession (w : W) (p : List Byte) : Answer :=
  let f := fieldsOf openSessionFields p
  let id := f 0
  let mode := codingModeOf (if f 2 = 0 then w.setting 4 else f 2)
  let auto : Bool := decide ((if f 3 = 0 then w.setting 5 else f 3) = 1)
  if id = 0 ∨ 7 < f 1 ∨ 3 < f 2 ∨ 2 < f 3 then refuse w .badArgument
  else if (w.session id).isSome then refuse w .duplicate
  else if w.sessionFree = false ∨ w.extentFree = false then refuse w .catalogFull
  else
    let r := w.admitJob .backup (some id) (.pool (f 1)) (.backup (startBackup (takeSnapshot w mode) auto)) []
    match r.2 with
    | none => refuse w .queueFull
    | some n =>
      answer (r.1.createSession
        { id := id, hostTag := p.drop 5, state := .opened, origin := .written, pool := f 1,
          codingMode := some mode, objectsBegun := 0, chunkCount := 0, rawBytes := 0, codedBytes := 0,
          verifySummary := .unverified }) (.jobId n)

/-- OPEN SESSION (R129). -/
def execOpenSession (s : State) : Host.Outcome State Fault Refusal :=
  goesOn (s.ask 0x40 (formOf openSessionFields) ownOpenSession)

/-- Whether a job takes objects no more: finished, aborting, closing or being truncated (R130, R142). -/
def noNewObjects (j : Job) (b : BackupData) : Bool :=
  j.state.isFinished || j.abortPending || b.closing || b.truncating

/-- The start of an object in a job and the stream bound to it (R101, R130). -/
def beginObject (w : W) (j : Job) (b : BackupData) : W :=
  let o := b.objectsBegun + 1
  let snap := takeSnapshot w b.snapshot.mode
  let w1 := (w.modBackup j.id fun x =>
    { x with objectsBegun := o, openObject := some { object := o, bytesAccepted := 0, snapshot := snap } }).modSession
      (j.sessionId.getD 0) fun s => { s with objectsBegun := o }
  match j.stream with
  | some d =>
    w1.modStream d fun s =>
      { s with openObject := some { object := o, snapshot := snap, nextChunk := 0, secureNow := false } }
  | none => w1

/-- BEGIN OBJECT's owner (R130). -/
def ownBeginObject (w : W) (p : List Byte) : Answer :=
  match w.job (fieldsOf [1] p 0) with
  | none => refuse w .noSuchJob
  | some j =>
    match j.backup? with
    | none => refuse w .wrongState
    | some b =>
      if noNewObjects j b = true ∨ b.openObject.isSome = true then refuse w .wrongState
      else if largestObjectNumber ≤ b.objectsBegun then refuse w .tooLarge
      else answer (beginObject w j b) (.objectNumber (b.objectsBegun + 1))

/-- BEGIN OBJECT (R130). -/
def execBeginObject (s : State) : Host.Outcome State Fault Refusal :=
  goesOn (s.ask 0x41 (formOf [1]) ownBeginObject)

/-- WRITE DATA's payload: a job, a length, and as many bytes (R195). -/
def writeDataForm (p : List Byte) : Bool :=
  decide (3 ≤ p.length) && decide (beNat ((p.drop 1).take 2) = p.length - 3)

/-- The open object of a job that accepts data (R131). -/
def acceptingObject (j : Job) : Option JobObject :=
  match j.backup? with
  | none => none
  | some b => if j.state.isFinished || j.abortPending || b.truncating then none else b.openObject

/-- WRITE DATA's owner (R112, R131). -/
def ownWriteData (w : W) (p : List Byte) : Answer :=
  let data := p.drop 3
  if data = [] ∨ 4096 < data.length then refuse w .badArgument
  else
    match w.job (p.headD 0#8).toNat with
    | none => refuse w .noSuchJob
    | some j =>
      match acceptingObject j with
      | none => refuse w .wrongState
      | some o =>
        if largestObject < o.bytesAccepted + data.length then refuse w .tooLarge
        else
          match j.stream with
          | none => refuse w .full
          | some d =>
            if (w.stream d).room < data.length then refuse w .full
            else
              answer ((w.modBackup j.id fun b =>
                { b with openObject := b.openObject.map fun x =>
                    { x with bytesAccepted := x.bytesAccepted + data.length } }).modStream d
                  (Stream.accept (data.length + 2) (j.sessionId.getD 0) data)) .empty

/-- WRITE DATA (R112, R131, R195). -/
def execWriteData (s : State) : Host.Outcome State Fault Refusal := goesOn (s.ask 0x42 writeDataForm ownWriteData)

/-- END OBJECT's owner (R113, R132). -/
def ownEndObject (w : W) (p : List Byte) : Answer :=
  let f := fieldsOf [1, 1] p
  match w.job (f 0) with
  | none => refuse w .noSuchJob
  | some j =>
    if 1 < f 1 then refuse w .badArgument
    else
      match acceptingObject j with
      | none => refuse w .wrongState
      | some o =>
        match j.stream with
        | none => refuse w .full
        | some d =>
          let s := w.stream d
          if s.tailOpen = false ∧ s.freeChunks = 0 then refuse w .full
          else
            answer (((w.modBackup j.id fun b => { b with openObject := none }).putStream d
              (s.endObject (j.sessionId.getD 0) (decide (f 1 = 1)))).emit (.advance j.id))
              (.objectEnded o.object o.bytesAccepted)

/-- END OBJECT (R113, R132). -/
def execEndObject (s : State) : Host.Outcome State Fault Refusal := goesOn (s.ask 0x43 (formOf [1, 1]) ownEndObject)

/-- CLOSE SESSION's owner (R142). -/
def ownCloseSession (w : W) (p : List Byte) : Answer :=
  match w.job (fieldsOf [1] p 0) with
  | none => refuse w .noSuchJob
  | some j =>
    match j.backup? with
    | none => refuse w .wrongState
    | some b =>
      if noNewObjects j b = true ∨ b.openObject.isSome = true then refuse w .wrongState
      else answer ((w.modBackup j.id fun x => { x with closing := true }).emit (.advance j.id)) .empty

/-- CLOSE SESSION (R142). -/
def execCloseSession (s : State) : Host.Outcome State Fault Refusal :=
  goesOn (s.ask 0x44 (formOf [1]) ownCloseSession)

/-! ## Verify and restore requests -/

/-- START VERIFY's check of the sessions on the record (R161, item 5). -/
def nothingToVerify (w : W) (i : Nat) (session : Option Nat) : Bool :=
  match session with
  | some s => (w.session s).isNone || !((w.extentsOn i).any fun e => decide (e.session = s))
  | none => decide (w.verifySelects i none = [])

/-- START VERIFY's owner (R161). -/
def ownStartVerify (w : W) (p : List Byte) : Answer :=
  let label := p.take 8
  let f := fieldsOf [8, 2, 1] p
  let session : Option Nat := if f 1 = 0 then none else some (f 1)
  let rebuild : Bool := decide (f 2 = 1)
  let opened : Bool := decide ((session.bind w.session).map SessionRec.state = some SessionState.opened)
  if labelOk label = false ∨ 1 < f 2 then refuse w .badArgument
  else
    match w.cartByLabel label with
    | none => refuse w .noSuchCartridge
    | some i =>
      if isDataKind (w.kindOf i) = false ∨ opened = true then refuse w .wrongState
      else if rebuild = false ∧ nothingToVerify w i session = true then refuse w .noSuchSession
      else
        let r := w.admitVerify i label session rebuild
        match r.2 with
        | some n => answer r.1 (.jobId n)
        | none => refuse w .queueFull

/-- START VERIFY (R161). -/
def execStartVerify (s : State) : Host.Outcome State Fault Refusal :=
  goesOn (s.ask 0x50 (formOf [8, 2, 1]) ownStartVerify)

/-- The damage policy in force (R173). -/
def policyNow (w : W) : Policy := if w.setting 6 = 2 then .substitute else .stop

/-- START RESTORE's owner (R173). -/
def ownStartRestore (w : W) (p : List Byte) : Answer :=
  let f := fieldsOf [2, 3, 3, 8, 4] p
  let hintLabel := labelField ((p.drop 8).take 8)
  let hint : Hint := match hintLabel with
    | some l => .unused l (f 4)
    | none => .none
  if f 1 = 0 ∨ hintLabel.any (fun l => !labelOk l) = true then refuse w .badArgument
  else
    match w.session (f 0) with
    | none => refuse w .noSuchSession
    | some s =>
      let last := min (f 2) s.objectsBegun
      if s.state = .opened then refuse w .wrongState
      else if last < f 1 then refuse w .badArgument
      else
        let x := W.startRestoreData (w.extentsOf s.id) (f 1) last (policyNow w) hint
        let r := w.admitJob .restore (some s.id) (.label ((x.chain.head?.map Link.label).getD [])) (.restore x) [s.id]
        match r.2 with
        | some n => answer (r.1.restoreAdmitted n) (.restoreStarted n last)
        | none => refuse w .queueFull

/-- START RESTORE (R173). -/
def execStartRestore (s : State) : Host.Outcome State Fault Refusal :=
  goesOn (s.ask 0x51 (formOf [2, 3, 3, 8, 4]) ownStartRestore)

/-- READ DATA's owner (R120, R182, R183). -/
def ownReadData (w : W) (p : List Byte) : Answer :=
  let f := fieldsOf [1, 2] p
  match w.job (f 0) with
  | none => refuse w .noSuchJob
  | some j =>
    match j.restore? with
    | none => refuse w .wrongState
    | some r =>
      let taken := W.takeHead r (clampTo 1 4096 (f 1))
      let w1 := (w.modRestore j.id fun _ => taken.1).restoreDone j.id
      let ended : Bool := decide (taken.1.out = []) && ((w1.job j.id).any fun k => k.state.isFinished)
      answer w1 (.data { taken.2 with endOfJob := ended })

/-- READ DATA (R182, R195). -/
def execReadData (s : State) : Host.Outcome State Fault Refusal := goesOn (s.ask 0x52 (formOf [1, 2]) ownReadData)

/-! ## Job requests -/

/-- A job in the summary of JOB INFO (R89). -/
def jobSummary (j : Job) : JobSummary :=
  { id := j.id, kind := j.kind, state := j.state, waitReason := j.waitReason, drive := j.drive, result := j.result }

/-- JOB INFO's owner (R89). -/
def ownJobInfo (w : W) (p : List Byte) : Answer :=
  let n := fieldsOf [1] p 0
  if n = 0 then answer w (.jobs ((sortBy Job.seq w.js.jobs).map jobSummary))
  else
    match w.job n with
    | some j => answer w (.job j (j.cartridge.bind w.labelOf))
    | none => refuse w .noSuchJob

/-- JOB INFO (R89). -/
def execJobInfo (s : State) : Host.Outcome State Fault Refusal := goesOn (s.look 0x60 (formOf [1]) ownJobInfo)

/-- ABORT JOB's owner (R88). The reply carries the job's state at the reply, before what the abort brings about. -/
def ownAbortJob (w : W) (p : List Byte) : Answer :=
  match w.job (fieldsOf [1] p 0) with
  | none => refuse w .noSuchJob
  | some j =>
    if j.state.isFinished then refuse w .wrongState
    else if j.abortPending then answer w (.jobState j.state)
    else answer (w.abortJob j) (.jobState j.state)

/-- ABORT JOB (R88). -/
def execAbortJob (s : State) : Host.Outcome State Fault Refusal := goesOn (s.ask 0x61 (formOf [1]) ownAbortJob)

/-- RELEASE JOB's owner (R89). -/
def ownReleaseJob (w : W) (p : List Byte) : Answer :=
  match w.job (fieldsOf [1] p 0) with
  | none => refuse w .noSuchJob
  | some j => if j.state.isFinished then answer (w.freeJob j.id) .empty else refuse w .wrongState

/-- RELEASE JOB (R89). -/
def execReleaseJob (s : State) : Host.Outcome State Fault Refusal := goesOn (s.ask 0x62 (formOf [1]) ownReleaseJob)

/-- START CLEAN's owner (R86). -/
def ownStartClean (w : W) (p : List Byte) : Answer :=
  match driveOfByte (fieldsOf [1] p 0) with
  | none => refuse w .noSuchElement
  | some d =>
    match w.cleanJobOf d with
    | some n => { w := w, status := .duplicate, body := .jobId n }
    | none =>
      let r := w.admitClean d
      match r.2 with
      | some n => answer r.1 (.jobId n)
      | none => refuse w .queueFull

/-- START CLEAN (R86). -/
def execStartClean (s : State) : Host.Outcome State Fault Refusal := goesOn (s.ask 0x63 (formOf [1]) ownStartClean)

/-! ## Events of the scheduler, the coder and the streams -/

/-- CLEAN_ADMISSION_RETRY (R86). -/
def execCleanAdmissionRetry (d : Drive) (s : State) : Host.Outcome State Fault Refusal :=
  goesOn (s.onLib fun w => w.cleanRetry d)

/-- CODER_GRANT (R107). -/
def execCoderGrant (s : State) : Host.Outcome State Fault Refusal := goesOn (s.onLib W.considerGrant)

/-- ENCODING_COMPLETE (R95, R108). -/
def execEncodingComplete (s : State) : Host.Outcome State Fault Refusal := goesOn (s.onLib W.encodingEnds)

/-- WRITE_BLOCK_PRESENT (R115). -/
def execWriteBlockPresent (d : Drive) (s : State) : Host.Outcome State Fault Refusal :=
  goesOn (s.onLib fun w => w.presentWrite d)

/-- CARRY_PLACEMENT_RESUME (R116). -/
def execCarryPlacementResume (d : Drive) (s : State) : Host.Outcome State Fault Refusal :=
  goesOn (s.onLib fun w => w.resumePlacing d)

/-- CATALOG_WAIT_RESUME (R133). -/
def execCatalogWaitResume (s : State) : Host.Outcome State Fault Refusal := goesOn (s.onLib W.serveCatalogWaits)

/-- READ_BLOCK_PRESENT (R118). -/
def execReadBlockPresent (d : Drive) (s : State) : Host.Outcome State Fault Refusal :=
  goesOn (s.onLib fun w => w.presentRead d)

/-- DECODING_COMPLETE (R105, R108). -/
def execDecodingComplete (s : State) : Host.Outcome State Fault Refusal := goesOn (s.onLib W.decodingEnds)

/-- What a RESTORE has still to add is added as places allow, and its stream goes on (R181). -/
def addWaiting (n : Nat) (w : W) : W :=
  match w.job n with
  | none => w
  | some j =>
    if W.jobTodo j = [] then w
    else
      let w1 := w.runAll n
      match w1.streamOf n with
      | some d => w1.emit (.parse d)
      | none => w1

/-- SUBSTITUTE_ENTRY_ADD (R181). -/
def execSubstituteEntryAdd (job : Nat) (s : State) : Host.Outcome State Fault Refusal :=
  goesOn (s.onLib (addWaiting job))

end Sys2Proof.Machine
end

