-- ==== Sys2Proof/Machine/Dispatch.lean ====
section
/-! DEFINITION. The dispatch of a command to its meaning: one arm for each constructor of Instr. -/

namespace Sys2Proof.Machine

def exec (i : Instr) (s : State) : Host.Outcome State Fault Refusal :=
  match i with
  | .powerOnReset lines => Sys2Proof.Machine.execPowerOnReset lines s
  | .resetController => Sys2Proof.Machine.execResetController s
  | .frameReceived bytes => Sys2Proof.Machine.execFrameReceived bytes s
  | .frameMalformed bytes => Sys2Proof.Machine.execFrameMalformed bytes s
  | .requestUnknownCode => Sys2Proof.Machine.execRequestUnknownCode s
  | .identify => Sys2Proof.Machine.execIdentify s
  | .status => Sys2Proof.Machine.execStatus s
  | .setMode => Sys2Proof.Machine.execSetMode s
  | .resume => Sys2Proof.Machine.execResume s
  | .haltStreams => Sys2Proof.Machine.execHaltStreams s
  | .resumeStream => Sys2Proof.Machine.execResumeStream s
  | .fetchNotices => Sys2Proof.Machine.execFetchNotices s
  | .setSetting => Sys2Proof.Machine.execSetSetting s
  | .getSetting => Sys2Proof.Machine.execGetSetting s
  | .saveSettings => Sys2Proof.Machine.execSaveSettings s
  | .settingsSaveComplete written => Sys2Proof.Machine.execSettingsSaveComplete written s
  | .linkSilent => Sys2Proof.Machine.execLinkSilent s
  | .powerWarningAsserted => Sys2Proof.Machine.execPowerWarningAsserted s
  | .powerWarningWithdrawn => Sys2Proof.Machine.execPowerWarningWithdrawn s
  | .scan => Sys2Proof.Machine.execScan s
  | .slotInfo => Sys2Proof.Machine.execSlotInfo s
  | .cartridgeInfo => Sys2Proof.Machine.execCartridgeInfo s
  | .editCartridge => Sys2Proof.Machine.execEditCartridge s
  | .move => Sys2Proof.Machine.execMove s
  | .importCartridge => Sys2Proof.Machine.execImportCartridge s
  | .exportCartridge => Sys2Proof.Machine.execExportCartridge s
  | .clearChangerFault => Sys2Proof.Machine.execClearChangerFault s
  | .retestDrive => Sys2Proof.Machine.execRetestDrive s
  | .unloadDrive => Sys2Proof.Machine.execUnloadDrive s
  | .openSession => Sys2Proof.Machine.execOpenSession s
  | .beginObject => Sys2Proof.Machine.execBeginObject s
  | .writeData => Sys2Proof.Machine.execWriteData s
  | .endObject => Sys2Proof.Machine.execEndObject s
  | .closeSession => Sys2Proof.Machine.execCloseSession s
  | .startVerify => Sys2Proof.Machine.execStartVerify s
  | .startRestore => Sys2Proof.Machine.execStartRestore s
  | .readData => Sys2Proof.Machine.execReadData s
  | .jobInfo => Sys2Proof.Machine.execJobInfo s
  | .abortJob => Sys2Proof.Machine.execAbortJob s
  | .releaseJob => Sys2Proof.Machine.execReleaseJob s
  | .startClean => Sys2Proof.Machine.execStartClean s
  | .sessionInfo => Sys2Proof.Machine.execSessionInfo s
  | .extentInfo => Sys2Proof.Machine.execExtentInfo s
  | .dropSession => Sys2Proof.Machine.execDropSession s
  | .loadExtent => Sys2Proof.Machine.execLoadExtent s
  | .catalogInfo => Sys2Proof.Machine.execCatalogInfo s
  | .frontDoorOpened => Sys2Proof.Machine.execFrontDoorOpened s
  | .frontDoorClosed => Sys2Proof.Machine.execFrontDoorClosed s
  | .mailSlotDoorOpened => Sys2Proof.Machine.execMailSlotDoorOpened s
  | .mailSlotDoorClosed => Sys2Proof.Machine.execMailSlotDoorClosed s
  | .magazineRemoved m => Sys2Proof.Machine.execMagazineRemoved m s
  | .magazineInserted m => Sys2Proof.Machine.execMagazineInserted m s
  | .entryStart pickerSensed => Sys2Proof.Machine.execEntryStart pickerSensed s
  | .travelArrival => Sys2Proof.Machine.execTravelArrival s
  | .gripDone pickerSensed reads => Sys2Proof.Machine.execGripDone pickerSensed reads s
  | .insertDone => Sys2Proof.Machine.execInsertDone s
  | .placeBlocked => Sys2Proof.Machine.execPlaceBlocked s
  | .axisStall => Sys2Proof.Machine.execAxisStall s
  | .stepTimerExpiry => Sys2Proof.Machine.execStepTimerExpiry s
  | .retryDelayExpiry => Sys2Proof.Machine.execRetryDelayExpiry s
  | .homingComplete pickerSensed => Sys2Proof.Machine.execHomingComplete pickerSensed s
  | .spotCheckDone present => Sys2Proof.Machine.execSpotCheckDone present s
  | .scanSlotDone present reads => Sys2Proof.Machine.execScanSlotDone present reads s
  | .heldMoveIssue => Sys2Proof.Machine.execHeldMoveIssue s
  | .presenceLost d => Sys2Proof.Machine.execPresenceLost d s
  | .presenceRise d => Sys2Proof.Machine.execPresenceRise d s
  | .mediaReport d m => Sys2Proof.Machine.execMediaReport d m s
  | .selfTestResult d r => Sys2Proof.Machine.execSelfTestResult d r s
  | .selfTestTimeout d => Sys2Proof.Machine.execSelfTestTimeout d s
  | .loadComplete d r cleanAsked => Sys2Proof.Machine.execLoadComplete d r cleanAsked s
  | .locateComplete d r cleanAsked => Sys2Proof.Machine.execLocateComplete d r cleanAsked s
  | .locateEndComplete d r cleanAsked => Sys2Proof.Machine.execLocateEndComplete d r cleanAsked s
  | .readBlockComplete d r cleanAsked => Sys2Proof.Machine.execReadBlockComplete d r cleanAsked s
  | .writeBlockComplete d r cleanAsked => Sys2Proof.Machine.execWriteBlockComplete d r cleanAsked s
  | .writeEndMarkComplete d r cleanAsked => Sys2Proof.Machine.execWriteEndMarkComplete d r cleanAsked s
  | .unloadComplete d r cleanAsked => Sys2Proof.Machine.execUnloadComplete d r cleanAsked s
  | .cleanComplete d r cleanAsked => Sys2Proof.Machine.execCleanComplete d r cleanAsked s
  | .operationTimeout d => Sys2Proof.Machine.execOperationTimeout d s
  | .cleanAdmissionRetry d => Sys2Proof.Machine.execCleanAdmissionRetry d s
  | .idleReturnExpiry d => Sys2Proof.Machine.execIdleReturnExpiry d s
  | .pendingIdleReturn d => Sys2Proof.Machine.execPendingIdleReturn d s
  | .coderGrant => Sys2Proof.Machine.execCoderGrant s
  | .encodingComplete => Sys2Proof.Machine.execEncodingComplete s
  | .writeBlockPresent d => Sys2Proof.Machine.execWriteBlockPresent d s
  | .carryPlacementResume d => Sys2Proof.Machine.execCarryPlacementResume d s
  | .catalogWaitResume => Sys2Proof.Machine.execCatalogWaitResume s
  | .readBlockPresent d => Sys2Proof.Machine.execReadBlockPresent d s
  | .decodingComplete => Sys2Proof.Machine.execDecodingComplete s
  | .substituteEntryAdd job => Sys2Proof.Machine.execSubstituteEntryAdd job s

end Sys2Proof.Machine
end

