-- ==== Sys2Proof/Machine/Tick.lean ====
section
/-! DEFINITION. One second passing on the part's timers: what a step does when no command waits (log entry 8). The
timers that run are the changer's step timer (R29) and retry delay (R30), each port's operation timer (R50) and
self-test timer (R62), each drive's idle-return timer (R65), and the link silence timer (R188). A timer that has
reached 0 stays there until its expiry is taken. -/

namespace Sys2Proof.Machine

/-- A port's timers. -/
def Port.tick (p : Port) : Port :=
  { p with pending := p.pending.map fun q => { q with timer := q.timer - 1 },
           selfTest := p.selfTest.map fun n => n - 1 }

/-- The changer's timers. -/
def Changer.tick (c : Changer) : Changer :=
  { c with stepTimer := c.stepTimer.map fun n => n - 1, retryTimer := c.retryTimer.map fun n => n - 1 }

/-- Both of a pair. -/
def Pair.both {α : Type} (f : α → α) (p : Pair α) : Pair α := ⟨f p.d0, f p.d1⟩

/-- The library's timers. -/
def Lib.tick (l : Lib) : Lib :=
  { l with cc := l.cc.tick, ports := l.ports.both Port.tick,
           js := { l.js with idle := l.js.idle.both fun t => t.map fun n => n - 1 } }

/-- One second passes. -/
def State.tick (s : State) : State :=
  { s with lib := s.lib.tick, link := { s.link with silence := s.link.silence.map fun n => n - 1 } }

end Sys2Proof.Machine
end

