-- ==== Sys2Proof/Safety.lean ====
section
/-! DEFINITION. The words the statements are written in: what it means that a request is at the head of the receive
buffer, what an answer, a refusal and a report leave, that nothing is left to settle, and the invariants that every
step keeps (R184 to R189, R193). -/

namespace Sys2Proof

/-- The request code of a command that takes a request (section 11.7). -/
def Instr.requestCode : Instr → Option Nat
  | .identify => some 0x01
  | .status => some 0x02
  | .setMode => some 0x03
  | .resume => some 0x04
  | .haltStreams => some 0x05
  | .resumeStream => some 0x06
  | .resetController => some 0x07
  | .fetchNotices => some 0x08
  | .setSetting => some 0x09
  | .getSetting => some 0x0A
  | .saveSettings => some 0x0B
  | .scan => some 0x20
  | .slotInfo => some 0x21
  | .cartridgeInfo => some 0x22
  | .editCartridge => some 0x23
  | .move => some 0x24
  | .importCartridge => some 0x25
  | .exportCartridge => some 0x26
  | .clearChangerFault => some 0x27
  | .retestDrive => some 0x28
  | .unloadDrive => some 0x29
  | .openSession => some 0x40
  | .beginObject => some 0x41
  | .writeData => some 0x42
  | .endObject => some 0x43
  | .closeSession => some 0x44
  | .startVerify => some 0x50
  | .startRestore => some 0x51
  | .readData => some 0x52
  | .jobInfo => some 0x60
  | .abortJob => some 0x61
  | .releaseJob => some 0x62
  | .startClean => some 0x63
  | .sessionInfo => some 0x70
  | .extentInfo => some 0x71
  | .dropSession => some 0x72
  | .loadExtent => some 0x73
  | .catalogInfo => some 0x74
  | .powerOnReset _ => none
  | .frameReceived _ => none
  | .frameMalformed _ => none
  | .requestUnknownCode => none
  | .settingsSaveComplete _ => none
  | .linkSilent => none
  | .powerWarningAsserted => none
  | .powerWarningWithdrawn => none
  | .frontDoorOpened => none
  | .frontDoorClosed => none
  | .mailSlotDoorOpened => none
  | .mailSlotDoorClosed => none
  | .magazineRemoved _ => none
  | .magazineInserted _ => none
  | .entryStart _ => none
  | .travelArrival => none
  | .gripDone _ _ => none
  | .insertDone => none
  | .placeBlocked => none
  | .axisStall => none
  | .stepTimerExpiry => none
  | .retryDelayExpiry => none
  | .homingComplete _ => none
  | .spotCheckDone _ => none
  | .scanSlotDone _ _ => none
  | .heldMoveIssue => none
  | .presenceLost _ => none
  | .presenceRise _ => none
  | .mediaReport _ _ => none
  | .selfTestResult _ _ => none
  | .selfTestTimeout _ => none
  | .loadComplete _ _ _ => none
  | .locateComplete _ _ _ => none
  | .locateEndComplete _ _ _ => none
  | .readBlockComplete _ _ _ => none
  | .writeBlockComplete _ _ _ => none
  | .writeEndMarkComplete _ _ _ => none
  | .unloadComplete _ _ _ => none
  | .cleanComplete _ _ _ => none
  | .operationTimeout _ => none
  | .cleanAdmissionRetry _ => none
  | .idleReturnExpiry _ => none
  | .pendingIdleReturn _ => none
  | .coderGrant => none
  | .encodingComplete => none
  | .writeBlockPresent _ => none
  | .carryPlacementResume _ => none
  | .catalogWaitResume => none
  | .readBlockPresent _ => none
  | .decodingComplete => none
  | .substituteEntryAdd _ => none

/-- Whether a payload has the length of a request's fields, as its owning chapter lists them (R185, item 3). A length
that the fields themselves give (WRITE DATA), an optional field (IMPORT) and a form byte above 1 (CARTRIDGE INFO,
EXPORT) are as their rules say. -/
def payloadFits (code : Nat) (p : List Byte) : Bool :=
  match code with
  | 0x03 | 0x06 | 0x0A | 0x21 | 0x28 | 0x41 | 0x44 | 0x60 | 0x61 | 0x62 | 0x63 => p.length == 1
  | 0x20 | 0x29 | 0x43 | 0x72 => p.length == 2
  | 0x09 | 0x23 | 0x52 => p.length == 3
  | 0x70 | 0x71 => p.length == 4
  | 0x24 => p.length == 10
  | 0x50 => p.length == 11
  | 0x40 => p.length == 13
  | 0x51 => p.length == 20
  | 0x73 => p.length == 58
  | 0x25 => decide (p.length ≤ 1)
  | 0x22 | 0x26 =>
    (match p with
     | [] => false
     | b :: rest => if b = 0#8 then rest.length == 8 else if b = 1#8 then rest.length == 1 else true)
  | 0x42 =>
    (match p with
     | _ :: hi :: lo :: data => decide (data.length = hi.toNat * 256 + lo.toNat)
     | _ => false)
  | _ => p.length == 0

namespace Machine

/-! ## Requests, answers, refusals -/

/-- A frame with a code and a payload stands at the head of the receive buffer. -/
def State.requests (s : State) (f : RequestFrame) (code : Nat) (payload : List Byte) : Prop :=
  s.link.frames.head? = some f ∧ f.code.toNat = code ∧ f.payload = payload

/-- The state once a request has been answered OK: its frame has left the buffer, the owner's step has been settled,
the reply has gone. -/
def State.answered (s : State) (f : RequestFrame) (w : W) (body : ReplyBody) : State :=
  (s.dropFrame.putWork w).sendReply f .ok body

/-- The state once a request has been answered OK by a report: the library is as it was. -/
def State.reported (s : State) (f : RequestFrame) (body : ReplyBody) : State := s.dropFrame.sendReply f .ok body

/-- The state once a request has been refused: nothing but the receive buffer and the reply has changed. -/
def State.turnedDown (s : State) (f : RequestFrame) (status : Status) (body : ReplyBody) : State :=
  s.dropFrame.sendReply f status body

/-- Nothing is left to settle: no report on its way, no dispatch and no rehoming due. -/
def W.nothingDue (w : W) : Prop :=
  w.signals = [] ∧ w.catalogDue = false ∧ w.dispatchDue = false ∧ (w.rehomeDue = false ∨ w.ct.scan ≠ none)

/-! ## Moves asked for by the host -/

/-- The working state with a REQUESTED move at the tail of the move queue, its id the next (R23, R24). -/
def W.withRequested (w : W) (source : Element) (asked : Dest) (expected : Option Label) : W :=
  { w with cc := { w.cc with
      nextId := if w.cc.nextId = 65535 then 1 else w.cc.nextId + 1,
      queue := w.cc.queue ++
        [{ id := w.cc.nextId, origin := .requested, source := source, asked := asked, dest := none,
           expectedLabel := expected, attempts := 0, faulted := false, putAway := none, tried := [], ticket := 0,
           cart := none }] } }

/-! ## Jobs admitted -/

/-- The working state with a job admitted under an id (R70, R72): QUEUED, with nothing claimed, the next `seq`, JOB STATE
queued, and dispatch due. -/
def W.withJob (w : W) (n : Nat) (kind : JobKind) (session : Option Nat) (target : Target) (progress : Progress)
    (pins : List Nat) : W :=
  { w with
      js := { w.js with
        jobs := w.js.jobs ++
          [{ id := n, kind := kind, state := .queued, waitReason := none, seq := min (w.js.lastSeq + 1) (2 ^ 64 - 1),
             drive := none, cartridge := none, stream := none, sessionId := session, target := target,
             mountStep := none, progress := progress, resumePoint := none, kept := none, abortPending := false,
             yielding := false, result := none, ticket := none, mediaAsked := false, endAs := none, pins := pins,
             cleaned := false }],
        lastId := n, lastSeq := min (w.js.lastSeq + 1) (2 ^ 64 - 1) },
      out := w.out ++ [.jobState n kind none .queued none none none none], dispatchDue := true }

/-! ## Drive operations -/

/-- An operation at a port has ended without a fault (R51, R64): the port has the fields given, `lastResult` takes the
result, a clean request carried on the completion is taken, and the requester is handed the outcome. -/
def W.completed (w : W) (d : Drive) (q : PendingOp) (p : Port) (r : OpOutcome) (asked : Bool) : W :=
  let clean : Bool := asked && !p.cleanRequest
  { w with
      ports := w.ports.put d
        { p with pending := none, lastResult := some r.result, cleanRequest := p.cleanRequest || asked },
      signals := w.signals ++ [.opDone d q.requester q.op r] ++ (if clean then [.cleanAsked d] else []) ++ [.idleCheck d],
      out := w.out ++ (if clean then [.cleaningNeeded d] else []), dispatchDue := true }

/-- An operation at a port has ended in FAULTED (R47, R51, R59, R60): the reason is latched, the position UNKNOWN, the requester
is handed the outcome, and then DRIVE FAULT tells of the change with the position held before it. -/
def W.faultedBy (w : W) (d : Drive) (q : PendingOp) (reason : DriveReason) (r : OpOutcome) (asked : Bool) : W :=
  let p := w.port d
  let clean : Bool := asked && !p.cleanRequest
  { w with
      ports := w.ports.put d
        { p with state := .faulted, faultReason := some reason, position := none, pending := none,
                 lastResult := some r.result, cleanRequest := p.cleanRequest || asked },
      signals := w.signals ++ [.opDone d q.requester q.op r,
          .notice (.driveFault d p.state .faulted (some reason) (w.contentsRef p.cartridge) p.position), .portDown d] ++
        (if clean then [.cleanAsked d] else []) ++ [.idleCheck d],
      out := w.out ++ (if clean then [.cleaningNeeded d] else []),
      dispatchDue := true }

/-- A drive's idle-return timer has been stopped and an Unload begun for an idle return (R50, R65, R66): its cartridge, if
it has a record, is returning. -/
def W.idleUnload (w : W) (d : Drive) : W :=
  let p := w.port d
  { w with
      ports := w.ports.put d
        { p with state := .unloading, position := none,
                 pending := some { op := .unload, requester := .idleReturn, timer := 120 } },
      js := { w.js with
        idle := w.js.idle.put d none, idlePending := w.js.idlePending.put d false,
        returning := match p.cartridge with
          | .cart i => if w.js.returning.contains i then w.js.returning else w.js.returning ++ [i]
          | .none => w.js.returning
          | .untracked => w.js.returning } }

/-! ## Invariants -/

/-- What the receiver holds between two arrivals (R184): nothing, the marker's first byte, or a frame that is not yet
complete. -/
def receiverSound (l : List Byte) : Prop :=
  match l with
  | [] => True
  | [b] => b = 0x7E#8
  | b :: c :: rest =>
    b = 0x7E#8 ∧ c = 0x51#8 ∧
      (rest.length < 2 ∨
        (2 ≤ beNat (rest.take 2) ∧ beNat (rest.take 2) ≤ 4200 ∧ l.length < 8 + beNat (rest.take 2)))

/-- The message link (R184, R188, R189): at most four frames wait, none larger than a frame can be; at most 32 notices
are queued, their numbers consecutive up to the one before the next; the silence timer stands within the limit it started
with. -/
structure LinkState.Sound (k : LinkState) : Prop where
  receiver : receiverSound k.receiver
  frames : k.frames.length ≤ 4
  payloads : ∀ f ∈ k.frames, f.payload.length ≤ 4198
  notices : k.notices.length ≤ 32
  next : k.nextNotice < 65536
  numbers : k.notices.map NoticeRec.seq =
    (List.range k.notices.length).map fun i => (k.nextNotice + 65536 - k.notices.length + i) % 65536
  silence : ∀ t, k.silence = some t → t ≤ k.silenceLimit
  limit : k.silenceLimit ≤ 255

/-- Sixteen values, each one that SET SETTING can store (R193). -/
def settingsInRange (l : List Nat) : Prop :=
  l.length = 16 ∧ ∀ n, 1 ≤ n → n ≤ 16 → clampSetting n (settingOf l n) = settingOf l n

/-- The working copies, the stored copies and a snapshot being written are sixteen values in range (R193). -/
structure SettingsState.Sound (x : SettingsState) : Prop where
  working : settingsInRange x.working
  stored : ∀ l, x.stored = some l → settingsInRange l
  saving : ∀ l, x.saving = some l → settingsInRange l

/-- The sizes the part has room for: 16 job records (R70), 64 session records (R147), 1,024 extent records (R149), 8
moves waiting beside RECOVERY moves (R24); `faultRun` is at most 15 (R22) and an entry id is 1 to 65,535 (R23). -/
def boundsOk (jobs sessions extents : Nat) (c : Changer) : Prop :=
  jobs ≤ 16 ∧ sessions ≤ 64 ∧ extents ≤ 1024 ∧ (c.queue.filter fun m => m.origin ≠ .recovery).length ≤ 8 ∧
    c.faultRun ≤ 15 ∧ 1 ≤ c.nextId ∧ c.nextId ≤ 65535

/-- The library's tables stay within their sizes. -/
def Lib.inBounds (l : Lib) : Prop := boundsOk l.js.jobs.length l.cg.sessions.length l.cg.extents.length l.cc

/-- The Cartridge Table has 40 storage slots and 64 cartridge records, and knows the mail-slot door as its sensor
shows it (R1 to R3). -/
structure Lib.TableSound (l : Lib) : Prop where
  slots : l.ct.slots.length = 40
  carts : l.ct.carts.length = 64
  door : l.ct.mailDoorOpen = l.pins.mailDoorOpen

/-- In SECURED the gate is closed, and while the power-warning line is asserted the mode is SECURED (R186, R187). -/
structure Lib.Secure (l : Lib) : Prop where
  gate : l.mode = .secured → l.gateOpen = false
  warning : l.pins.powerWarning = true → l.mode = .secured

/-! ### Law R5 -/

/-- An element that the library has: a storage slot is S1 to S40 (00_scope.md, "Elements"). -/
def Element.inLibrary : Element → Prop
  | .slot n => 1 ≤ n ∧ n ≤ 40
  | .mail => True
  | .drive _ => True
  | .picker => True

/-- A place a move can be asked to go to: an element of the library other than the picker. -/
def Element.isDestination (e : Element) : Prop := Element.inLibrary e ∧ e ≠ .picker

/-- A slot a scan visits: S1 to S40, or M (R40). -/
def Element.isScanned : Element → Prop
  | .slot n => 1 ≤ n ∧ n ≤ 40
  | .mail => True
  | .drive _ => False
  | .picker => False

/-- The elements a move names are elements of the library, and it does not go to the picker (R23, R25). -/
def Move.inLibrary (m : Move) : Prop :=
  Element.inLibrary m.source ∧ (∀ e, m.asked = .element e → Element.isDestination e) ∧
    (∀ e, m.dest = some e → Element.isDestination e)

/-- A scan's range, and what remains of it, are slots (R40). -/
def Scan.inLibrary (x : Scan) : Prop := ∀ e ∈ x.range ++ x.remaining, Element.isScanned e

/-- Every element that the changer and the moves held for it name is one of the library. -/
structure Lib.ElementsSound (l : Lib) : Prop where
  queue : ∀ m ∈ l.cc.queue, Move.inLibrary m
  current : ∀ m, l.cc.current = some (.move m) → Move.inLibrary m
  scan : ∀ x, l.cc.current = some (.scan x) ∨ l.cc.scanEntry = some x ∨ l.cc.closeScan = some x → Scan.inLibrary x
  heldMoves : ∀ m ∈ l.js.heldMoves, Element.inLibrary m.source ∧ ∀ e, m.asked = .element e → Element.isDestination e
  pickedFrom : ∀ e, l.cc.pickedFrom = some e → Element.inLibrary e
  interrupted : ∀ x, l.cc.interrupted = some x →
    Element.inLibrary x.source ∧ ∀ e, x.dest = some e → Element.isDestination e

/-- Whether a location is a drive or the picker: the cartridge is away from its home (R5). -/
def isAway (e : Option Element) : Prop := e = some .picker ∨ ∃ d, e = some (.drive d)

/-- Law R5. An absent record has no home and no claim. A present record and the slot, the drive or the picker it names as its
location name each other, so that no element holds two; in a slot its home is that slot, in M it has none; in a drive or the
picker a home it has and the slot RESERVED for it (or UNKNOWN, retaining it) name each other. -/
structure Lib.CartridgeLaw (l : Lib) : Prop where
  absent : ∀ (i : Nat) (c : CartRec), l.ct.carts[i]? = some (some c) → c.location = none → c.home = none ∧ c.claim = none
  inSlot : ∀ (i : Nat) (c : CartRec) (n : Nat), l.ct.carts[i]? = some (some c) → c.location = some (.slot n) →
    1 ≤ n ∧ c.home = some n ∧
      ∃ r, l.ct.slots[n - 1]? = some r ∧ r.holder = some i ∧ (r.state = .occupied ∨ r.state = .unknown)
  inMail : ∀ (i : Nat) (c : CartRec), l.ct.carts[i]? = some (some c) → c.location = some .mail →
    c.home = none ∧ l.ct.mail.holder = some i ∧ (l.ct.mail.state = .occupied ∨ l.ct.mail.state = .unknown)
  inDrive : ∀ (i : Nat) (c : CartRec) (d : Drive), l.ct.carts[i]? = some (some c) → c.location = some (.drive d) →
    (l.ports.get d).cartridge = .cart i
  inPicker : ∀ (i : Nat) (c : CartRec), l.ct.carts[i]? = some (some c) → c.location = some .picker → l.cc.picker = .cart i
  home : ∀ (i : Nat) (c : CartRec) (h : Nat), l.ct.carts[i]? = some (some c) → isAway c.location → c.home = some h →
    1 ≤ h ∧ ∃ r, l.ct.slots[h - 1]? = some r ∧ r.reservedFor = some i ∧ (r.state = .reserved ∨ r.state = .unknown)
  holder : ∀ (k : Nat) (r : SlotRec) (i : Nat), l.ct.slots[k]? = some r → r.holder = some i →
    r.reservedFor = none ∧ ∃ c, l.ct.carts[i]? = some (some c) ∧ c.location = some (.slot (k + 1))
  reserved : ∀ (k : Nat) (r : SlotRec) (i : Nat), l.ct.slots[k]? = some r → r.reservedFor = some i →
    ∃ c, l.ct.carts[i]? = some (some c) ∧ isAway c.location ∧ c.home = some (k + 1)
  mail : l.ct.mail.reservedFor = none ∧
    ∀ i, l.ct.mail.holder = some i → ∃ c, l.ct.carts[i]? = some (some c) ∧ c.location = some .mail
  port : ∀ d i, (l.ports.get d).cartridge = .cart i →
    ∃ c, l.ct.carts[i]? = some (some c) ∧ c.location = some (.drive d)
  picker : ∀ i, l.cc.picker = .cart i → ∃ c, l.ct.carts[i]? = some (some c) ∧ c.location = some .picker

/-! ### Claims, bindings, pins (R70, R71, R73, R154) -/

/-- Whether a job holds nothing by its state: it is finished, or it waits for dispatch (R71, R75). -/
def Job.holdsNothing (j : Job) : Prop :=
  j.state.isFinished = true ∨ j.state = .queued ∨ (j.state = .waiting ∧ j.waitReason ≠ some .catalog)

/-- Whether a job's work is under way on its cartridge: RUNNING, HELD, or WAITING for CATALOG (R71). -/
def Job.atWork (j : Job) : Prop :=
  j.state = .running ∨ j.state = .held ∨ (j.state = .waiting ∧ j.waitReason = some .catalog)

/-- Whether a job's cartridge has been brought to its drive: its work is under way, or its mount has reached the Load, the
probe or the Locate (R79, R80, R83). -/
def Job.isMounted (j : Job) : Prop :=
  Job.atWork j ∨
    ((j.state = .mounting ∨ (j.state = .spanning ∧ j.kind = .backup)) ∧
      (j.mountStep = some .load ∨ j.mountStep = some .probeRead ∨ j.mountStep = some .probeEnd ∨
        ∃ again, j.mountStep = some (.probeLocate again) ∨ j.mountStep = some (.position again)))

/-- What a job's kind fixes of its other fields (R70, R71, R73, R124, R169, R180): its progress and its target; a job that is
RUNNING, HELD or WAITING for CATALOG holds a drive and a cartridge, one of each, and no step of its mount is left, and one
whose cartridge is at its drive holds both; only a VERIFY or RESTORE comes to rest or is HELD. -/
structure Job.FitsKind (j : Job) : Prop where
  progress : (match j.progress with
    | .backup _ => JobKind.backup
    | .verify _ => .verify
    | .restore _ => .restore
    | .clean => .clean) = j.kind
  target : (match j.target with
    | .pool _ => j.kind = .backup
    | .drive _ => j.kind = .clean
    | .label _ => j.kind = .verify ∨ j.kind = .restore)
  mounted : Job.isMounted j → j.drive.isSome = true ∧ j.cartridge.isSome = true
  mountDone : Job.atWork j → j.mountStep = none
  readers : j.kind = .backup ∨ j.kind = .clean → j.state ≠ .held ∧ j.endAs = none ∧ j.pins = []
  ends : ∀ x r, j.endAs = some (x, r) → x.isFinished = true
  truncEnds : ∀ b x r, j.progress = .backup b → b.truncEnd = some (x, r) → x.isFinished = true

/-- What a job holds (R71, R73, R154): finished or waiting for dispatch it has no claim; finished it has no binding, no pin, no
mount step; a CLEAN is bound to no stream, a VERIFY or RESTORE to the stream of the drive it claims and to none without a
claim, a BACKUP to the stream of the drive it claims, if it claims one; it pins a session once. -/
structure Job.HoldsRightly (j : Job) : Prop where
  nothing : Job.holdsNothing j → j.drive = none ∧ j.cartridge = none
  finished : j.state.isFinished = true → j.stream = none ∧ j.pins = [] ∧ j.mountStep = none ∧ j.ticket = none
  cleaning : j.kind = .clean → j.stream = none
  bound : j.kind = .verify ∨ j.kind = .restore ∨ (j.kind = .backup ∧ j.drive.isSome = true) → j.stream = j.drive
  pins : j.pins.Nodup

/-- The claims law of R73, the bindings and the pins: job ids are distinct; a drive's claim, a cartridge's claim and a stream's
binding name an unfinished job that records the drive, the cartridge, the stream; a job's drive and stream name it back; and a
stream bound to no VERIFY or RESTORE has no read side under way (R118, R121). -/
structure Lib.ClaimsLaw (l : Lib) : Prop where
  ids : (l.js.jobs.map Job.id).Nodup
  drives : ∀ d n, l.js.claims.get d = some n →
    ∃ j ∈ l.js.jobs, j.id = n ∧ j.state.isFinished = false ∧ j.drive = some d
  carts : ∀ (i : Nat) (c : CartRec) (n : Nat), l.ct.carts[i]? = some (some c) → c.claim = some n →
    ∃ j ∈ l.js.jobs, j.id = n ∧ j.state.isFinished = false ∧ j.cartridge = some i
  streams : ∀ d n, (l.streams.get d).job = some n →
    ∃ j ∈ l.js.jobs, j.id = n ∧ j.state.isFinished = false ∧ j.stream = some d
  jobDrives : ∀ j ∈ l.js.jobs, ∀ d, j.drive = some d → l.js.claims.get d = some j.id
  jobStreams : ∀ j ∈ l.js.jobs, ∀ d, j.stream = some d → (l.streams.get d).job = some j.id
  holds : ∀ j ∈ l.js.jobs, Job.HoldsRightly j
  kinds : ∀ j ∈ l.js.jobs, Job.FitsKind j
  reading : ∀ d, (∀ j ∈ l.js.jobs, (l.streams.get d).job = some j.id → j.kind = .backup) →
    (l.streams.get d).stopping = none ∧ (l.streams.get d).seek = none ∧ (l.streams.get d).news = none

/-- The last clause of R73's law: the cartridge of a job that has one mounted is located at the job's drive, unless the job is
on its way out of the drive: its read side comes to rest for a drive loss or an abort, a BACKUP is in its truncation, or the
report that the cartridge has gone absent has still to be taken (R82, R88, R121, R125). -/
def Lib.CartridgesAtDrives (l : Lib) : Prop :=
  ∀ j ∈ l.js.jobs, ∀ d i, Job.isMounted j → j.drive = some d → j.cartridge = some i →
    (∃ c, l.ct.carts[i]? = some (some c) ∧ c.location = some (.drive d)) ∨
      (l.streams.get d).stopping = some .driveLost ∨ (l.streams.get d).stopping = some .abort ∨
      (∃ b, j.progress = .backup b ∧ b.truncating = true) ∨ Signal.cartGone j.id i ∈ l.signals

/-- The changer has nothing in hand from or to the drive of a job with its cartridge mounted: neither the move in execution nor
the step that a controller reset interrupted names it. -/
def Lib.ChangerKeepsOff (l : Lib) : Prop :=
  ∀ j ∈ l.js.jobs, ∀ d, Job.isMounted j → j.drive = some d →
    (∀ m, l.cc.current = some (.move m) → m.source ≠ .drive d ∧ m.dest ≠ some (.drive d)) ∧
    (∀ x, l.cc.interrupted = some x → x.source ≠ .drive d ∧ x.dest ≠ some (.drive d))

/-! ### Sessions and their extents (R133, R136, R142, R147 to R151, R154) -/

/-- What the catalog says of an unfinished BACKUP (R129, R133, R136, R151): its session is OPEN; every extent of it has a
sequence number the job has given, the open one the last; and while a mount or a wait is under way no extent is open. -/
structure Lib.BackupLaw (l : Lib) (j : Job) (b : BackupData) : Prop where
  session : ∃ x ∈ l.cg.sessions, j.sessionId = some x.id ∧ x.state = .opened
  numbers : ∀ e ∈ l.cg.extents, j.sessionId = some e.session →
    e.sequence < b.extentSeq ∨ (b.extentOpen = true ∧ e.sequence = b.extentSeq)
  written : ∀ x ∈ l.cg.sessions, j.sessionId = some x.id → x.origin = .written →
    (l.cg.extents.filter fun e => e.session = x.id).length = b.extentSeq + (if b.extentOpen then 1 else 0)
  mounting : b.extentOpen = true →
    j.mountStep = none ∧ j.state ≠ .queued ∧ j.state ≠ .waiting ∧ j.state ≠ .mounting

/-- The catalog's records (R147 to R149) and its sequence law (R151): session ids are distinct, and so are an extent's session
and sequence; the sessions stand in increasing id, and the extents by session and then in increasing sequence, the order the
reports give them in (R153, R157, R158); an extent's session has a record, and so has a pinned one; a session of origin
WRITTEN has the sequence numbers 0 to k without gaps; an extent is open only as the one its session's unfinished BACKUP
writes, of which there is one, and a session is OPEN only with such a BACKUP. -/
structure Lib.CatalogLaw (l : Lib) : Prop where
  ids : (l.cg.sessions.map SessionRec.id).Nodup
  keys : (l.cg.extents.map fun e => (e.session, e.sequence)).Nodup
  byId : (l.cg.sessions.map SessionRec.id).Pairwise (· < ·)
  inOrder : l.cg.extents.Pairwise fun a b => extentBefore a b = true
  sessions : ∀ e ∈ l.cg.extents, ∃ x ∈ l.cg.sessions, x.id = e.session
  pinned : ∀ j ∈ l.js.jobs, ∀ n ∈ j.pins, ∃ x ∈ l.cg.sessions, x.id = n
  gapless : ∀ x ∈ l.cg.sessions, x.origin = .written →
    ∀ k, k < (l.cg.extents.filter fun e => e.session = x.id).length →
      ∃ e ∈ l.cg.extents, e.session = x.id ∧ e.sequence = k
  opened : ∀ e ∈ l.cg.extents, e.isOpen = true →
    ∃ j ∈ l.js.jobs, ∃ b, j.state.isFinished = false ∧ j.progress = .backup b ∧ j.sessionId = some e.session ∧
      b.extentOpen = true ∧ b.extentSeq = e.sequence
  writers : ∀ x ∈ l.cg.sessions, x.state = .opened →
    ∃ j ∈ l.js.jobs, ∃ b, j.state.isFinished = false ∧ j.progress = .backup b ∧ j.sessionId = some x.id
  alone : ∀ j ∈ l.js.jobs, ∀ k ∈ l.js.jobs, ∀ b c, j.state.isFinished = false → k.state.isFinished = false →
    j.progress = .backup b → k.progress = .backup c → j.sessionId = k.sessionId → j = k
  backups : ∀ j ∈ l.js.jobs, ∀ b, j.state.isFinished = false → j.progress = .backup b → l.BackupLaw j b
  objects : ∀ e ∈ l.cg.extents, (e.firstObject = none ↔ e.lastObject = none) ∧ (e.chunkFrames = 0 ↔ e.firstObject = none)
  kept : ∀ e ∈ l.cg.extents, e.isOpen = false → 0 < e.blockCount

end Machine
end Sys2Proof
end

