-- ==== Sys2Proof/WellFormed.lean ====
section
/-! DEFINITION. Well-formed commands: operands that the lines of the part can carry. A frame is at most 4,208 bytes
from its marker to its CRC (R184, R195); a label read is at most eight bytes (R4); a drive's count is at most the
capacity of kind B (R145) and its block at most 65,536 bytes (00_scope.md); a job id is 1 to 255 (R72). -/

namespace Sys2Proof

/-- Two readings of at most eight bytes (R4). -/
def LabelReads.wellFormed (r : LabelReads) : Bool :=
  decide (r.first.length ≤ 8) && decide (r.second.length ≤ 8)

/-- A Locate's BLANK carries a count within the capacity (R53, R145). -/
def LocateReport.wellFormed : LocateReport → Bool
  | .ok => true
  | .blank c => decide (c ≤ 6000000)
  | .readError => true
  | .transport => true

/-- A Locate End's OK carries a count within the capacity (R53, R145). -/
def LocateEndReport.wellFormed : LocateEndReport → Bool
  | .ok c => decide (c ≤ 6000000)
  | .blank => true
  | .readError => true
  | .transport => true

/-- A block read is at most 65,536 bytes (R54). -/
def ReadReport.wellFormed : ReadReport → Bool
  | .ok block => decide (block.length ≤ 65536)
  | .endMark => true
  | .blank => true
  | .readError => true
  | .transport => true

/-- A command whose operands the part's lines can carry. -/
def Instr.wellFormed : Instr → Bool
  | .powerOnReset _ => true
  | .resetController => true
  | .frameReceived bytes => decide (bytes.length ≤ 4208)
  | .frameMalformed bytes => decide (bytes.length ≤ 4208)
  | .requestUnknownCode => true
  | .identify => true
  | .status => true
  | .setMode => true
  | .resume => true
  | .haltStreams => true
  | .resumeStream => true
  | .fetchNotices => true
  | .setSetting => true
  | .getSetting => true
  | .saveSettings => true
  | .settingsSaveComplete _ => true
  | .linkSilent => true
  | .powerWarningAsserted => true
  | .powerWarningWithdrawn => true
  | .scan => true
  | .slotInfo => true
  | .cartridgeInfo => true
  | .editCartridge => true
  | .move => true
  | .importCartridge => true
  | .exportCartridge => true
  | .clearChangerFault => true
  | .retestDrive => true
  | .unloadDrive => true
  | .openSession => true
  | .beginObject => true
  | .writeData => true
  | .endObject => true
  | .closeSession => true
  | .startVerify => true
  | .startRestore => true
  | .readData => true
  | .jobInfo => true
  | .abortJob => true
  | .releaseJob => true
  | .startClean => true
  | .sessionInfo => true
  | .extentInfo => true
  | .dropSession => true
  | .loadExtent => true
  | .catalogInfo => true
  | .frontDoorOpened => true
  | .frontDoorClosed => true
  | .mailSlotDoorOpened => true
  | .mailSlotDoorClosed => true
  | .magazineRemoved _ => true
  | .magazineInserted _ => true
  | .entryStart _ => true
  | .travelArrival => true
  | .gripDone _ reads => reads.wellFormed
  | .insertDone => true
  | .placeBlocked => true
  | .axisStall => true
  | .stepTimerExpiry => true
  | .retryDelayExpiry => true
  | .homingComplete _ => true
  | .spotCheckDone _ => true
  | .scanSlotDone _ reads => reads.wellFormed
  | .heldMoveIssue => true
  | .presenceLost _ => true
  | .presenceRise _ => true
  | .mediaReport _ _ => true
  | .selfTestResult _ _ => true
  | .selfTestTimeout _ => true
  | .loadComplete _ _ _ => true
  | .locateComplete _ r _ => r.wellFormed
  | .locateEndComplete _ r _ => r.wellFormed
  | .readBlockComplete _ r _ => r.wellFormed
  | .writeBlockComplete _ _ _ => true
  | .writeEndMarkComplete _ _ _ => true
  | .unloadComplete _ _ _ => true
  | .cleanComplete _ _ _ => true
  | .operationTimeout _ => true
  | .cleanAdmissionRetry _ => true
  | .idleReturnExpiry _ => true
  | .pendingIdleReturn _ => true
  | .coderGrant => true
  | .encodingComplete => true
  | .writeBlockPresent _ => true
  | .carryPlacementResume _ => true
  | .catalogWaitResume => true
  | .readBlockPresent _ => true
  | .decodingComplete => true
  | .substituteEntryAdd job => decide (1 ≤ job) && decide (job ≤ 255)

end Sys2Proof
end

