-- ==== Sys2Proof/Certificates/Slice0/Obligations.lean ====
section
/-! DEFINITION. The statements for the provers. Each says which rules it rests on; what rests on a choice of the model
says so and names the log entry. In the statements of one command, `s.putWork w` is the state after the command's own
effect `w` has been settled (see `SettlingRestsOnQuietStates`), and `s.answered f w b`, `s.reported f b` and
`s.turnedDown f r b` are what a request leaves (Sys2Proof/Safety.lean). -/

open Sys2Proof Sys2Proof.Machine

/-! ## The machine -/

/-- A step takes the command at the front of the queue: it is exec of that command on the state with the queue's rest
(log entry 1). -/
def Obligations.StepTakesTheFrontCommand : Prop :=
  ∀ (c : Instr) (rest : List Instr) (s : State),
    step { s with pending := c :: rest } = exec c { s with pending := rest }

/-- The model's choice (log entry 8): with no command waiting a step lets one second pass on the timers of R29, R30, R50,
R62, R65 and R188, and nothing else. -/
def Obligations.EmptyQueueLetsASecondPass : Prop :=
  ∀ s : State, s.pending = [] →
    step s = .next { s with
      link := { s.link with silence := s.link.silence.map fun n => n - 1 },
      lib := { s.lib with
        cc := { s.lib.cc with stepTimer := s.lib.cc.stepTimer.map fun n => n - 1,
                              retryTimer := s.lib.cc.retryTimer.map fun n => n - 1 },
        ports :=
          ⟨{ s.lib.ports.d0 with
              pending := s.lib.ports.d0.pending.map fun q => { q with timer := q.timer - 1 },
              selfTest := s.lib.ports.d0.selfTest.map fun n => n - 1 },
           { s.lib.ports.d1 with
              pending := s.lib.ports.d1.pending.map fun q => { q with timer := q.timer - 1 },
              selfTest := s.lib.ports.d1.selfTest.map fun n => n - 1 }⟩,
        js := { s.lib.js with idle := ⟨s.lib.js.idle.d0.map fun n => n - 1, s.lib.js.idle.d1.map fun n => n - 1⟩ } } }

/-- No command stops the machine, and no step does. The model's choice (log entry 6): of a count above the largest capacity
the port takes a free value within it, of a block longer than 65,536 bytes a free value of at most as many, and all else is as
with that value. -/
def Obligations.EveryCommandGoesOn : Prop :=
  (∀ (c : Instr) (s : State), ∃ t, exec c s = .next t) ∧
  (∀ s : State, ∃ t, step s = .next t) ∧
  (∀ (d : Drive) (n : Nat) (asked : Bool) (s : State),
    let k := if n ≤ 6000000 then n else min (Config.countBeyond n) 6000000
    exec (.locateComplete d (.blank n) asked) s = exec (.locateComplete d (.blank k) asked) s ∧
    exec (.locateEndComplete d (.ok n) asked) s = exec (.locateEndComplete d (.ok k) asked) s) ∧
  (∀ (d : Drive) (l : List Byte) (asked : Bool) (s : State),
    let k := if l.length ≤ 65536 then l else (Config.blockBeyond l).take 65536
    exec (.readBlockComplete d (.ok l) asked) s = exec (.readBlockComplete d (.ok k) asked) s)

/-- Settling: a step's effect that leaves no report on its way, no dispatch and no rehoming due stands as it is, and its
notices join the queue in order; in every case settling leaves the waiting commands, the settings and, of the link,
all but the notice queue. The order in which reports are taken is the model's (log entry 5). -/
def Obligations.SettlingRestsOnQuietStates : Prop :=
  ∀ (s : State) (w : W),
    (w.nothingDue → s.putWork w = { s with lib := w.toLib, link := s.link.pushAll w.out }) ∧
    (s.putWork w).pending = s.pending ∧ (s.putWork w).settings = s.settings ∧
    (s.putWork w).link.receiver = s.link.receiver ∧ (s.putWork w).link.frames = s.link.frames ∧
    (s.putWork w).link.reject = s.link.reject ∧ (s.putWork w).link.silence = s.link.silence ∧
    (s.putWork w).link.silenceLimit = s.link.silenceLimit ∧ (s.putWork w).link.reply = s.link.reply ∧
    (s.putWork w).lib.mode = w.mode ∧ (s.putWork w).lib.gateOpen = w.gateOpen ∧
    { (s.putWork w).lib.pins with pickerSensor := false } = { w.pins with pickerSensor := false } ∧
    (s.putWork w).lib.streams.d0.enable = w.streams.d0.enable ∧
    (s.putWork w).lib.streams.d1.enable = w.streams.d1.enable

/-! ## Invariants -/

/-- Right after reset every invariant holds. -/
def Obligations.ResetMeetsTheInvariants : Prop :=
  State.reset.link.Sound ∧ State.reset.settings.Sound ∧ State.reset.lib.inBounds ∧ State.reset.lib.TableSound ∧
    State.reset.lib.Secure ∧ State.reset.lib.ElementsSound ∧ State.reset.lib.CartridgeLaw ∧ State.reset.lib.ClaimsLaw ∧
    State.reset.lib.CartridgesAtDrives ∧ State.reset.lib.CatalogLaw

/-- Every step keeps the message link sound (R184, R188, R189), and the settings in range: working copies, store and snapshot
(R193). -/
def Obligations.EveryStepKeepsTheLinkAndTheSettingsSound : Prop :=
  (∀ s t : State, s.link.Sound → s.settings.Sound → step s = .next t → t.link.Sound) ∧
  (∀ s t : State, s.settings.Sound → step s = .next t → t.settings.Sound)

/-- Every step keeps the tables within their sizes (R22 to R24, R70, R147, R149), and the Cartridge Table's 40 slots and 64
records whole, with the mail-slot door as its sensor shows it (R1 to R3). -/
def Obligations.EveryStepKeepsTheTablesInBounds : Prop :=
  (∀ s t : State, s.lib.inBounds → step s = .next t → t.lib.inBounds) ∧
  (∀ s t : State, s.lib.TableSound → step s = .next t → t.lib.TableSound)

/-- Every step keeps the gate closed in SECURED, and the mode SECURED while the power-warning line is asserted (R186,
R187). -/
def Obligations.EveryStepKeepsTheGateClosedWhileSecured : Prop :=
  ∀ s t : State, s.lib.Secure → step s = .next t → t.lib.Secure

/-- Law R5 (the Cartridge Table): every step keeps it, with every element that the changer and its moves name one of the
library. A present record and its slot, M, drive or picker name each other, a home and the slot RESERVED for it name each other,
and an absent record has neither. -/
def Obligations.EveryStepKeepsTheCartridgeLaw : Prop :=
  ∀ s t : State, s.lib.TableSound → s.lib.ElementsSound → s.lib.CartridgeLaw → step s = .next t →
    t.lib.ElementsSound ∧ t.lib.CartridgeLaw

/-- The claims law of R73, with the bindings of the streams and the pins (R70, R71, R154): every step keeps it. A drive's or a
cartridge's claim, and a stream's binding, name an unfinished job that records the drive, the cartridge, the stream; a finished
job holds nothing; a RUNNING job of any kind holds one drive and one cartridge. And while the changer has nothing in hand from or
to the drive of a job whose cartridge is mounted, every step keeps each such cartridge located at its job's drive, but for a job
that is on its way out of the drive. -/
def Obligations.EveryStepKeepsTheClaimsLaw : Prop :=
  (∀ s t : State, s.lib.inBounds → s.lib.TableSound → s.lib.ElementsSound → s.lib.CartridgeLaw → s.lib.ClaimsLaw →
    step s = .next t → t.lib.ClaimsLaw) ∧
  (∀ s t : State, s.lib.inBounds → s.lib.TableSound → s.lib.ElementsSound → s.lib.CartridgeLaw → s.lib.ClaimsLaw →
    s.lib.CartridgesAtDrives → s.lib.ChangerKeepsOff → step s = .next t → t.lib.CartridgesAtDrives)

/-- The catalog's records and its sequence law (R147 to R151, R154): every step keeps them. Ids and keys are distinct, the sessions
stand in increasing id and the extents by session and sequence, which is the order of the reports (R153, R157, R158); every
extent and every pin has its session, a session of origin WRITTEN has the sequence numbers from 0 without gaps, and an extent is
open only as the one its session's unfinished BACKUP writes. -/
def Obligations.EveryStepKeepsTheCatalogLaw : Prop :=
  ∀ s t : State, s.lib.inBounds → s.lib.TableSound → s.lib.ElementsSound → s.lib.CartridgeLaw → s.lib.ClaimsLaw →
    s.lib.CatalogLaw → step s = .next t → t.lib.CatalogLaw

/-! ## Who may change the mode, the gate, the lines and the settings -/

/-- No command touches the queue of commands that wait (log entry 1). Only SET MODE, RESUME, a reset, a power warning and link
silence change the device mode; only these, HALT STREAMS and RESUME STREAM change the gate or an enable; an input line changes
only at its own event; only SET SETTING and a reset change a working copy of the settings, and only the completion of a save
changes the store (R2, R36, R39, R61, R122, R123, R187, R193). -/
def Obligations.FewCommandsChangeTheMode : Prop :=
  (∀ (c : Instr) (s t : State), exec c s = .next t → t.pending = s.pending) ∧
  (∀ (c : Instr) (s t : State), exec c s = .next t → (∀ p, c ≠ .powerOnReset p) →
    (c ≠ .setMode → c ≠ .resume → c ≠ .resetController → c ≠ .powerWarningAsserted → c ≠ .linkSilent →
      t.lib.mode = s.lib.mode ∧
        (c ≠ .haltStreams → c ≠ .resumeStream →
          t.lib.gateOpen = s.lib.gateOpen ∧ t.lib.streams.d0.enable = s.lib.streams.d0.enable ∧
            t.lib.streams.d1.enable = s.lib.streams.d1.enable)) ∧
    (c ≠ .powerWarningAsserted → c ≠ .powerWarningWithdrawn → t.lib.pins.powerWarning = s.lib.pins.powerWarning) ∧
    (c ≠ .frontDoorOpened → c ≠ .frontDoorClosed → t.lib.pins.frontDoorOpen = s.lib.pins.frontDoorOpen) ∧
    (c ≠ .mailSlotDoorOpened → c ≠ .mailSlotDoorClosed → t.lib.pins.mailDoorOpen = s.lib.pins.mailDoorOpen) ∧
    (c ≠ .magazineRemoved .left → c ≠ .magazineInserted .left → t.lib.pins.magazineLeft = s.lib.pins.magazineLeft) ∧
    (c ≠ .magazineRemoved .right → c ≠ .magazineInserted .right →
      t.lib.pins.magazineRight = s.lib.pins.magazineRight) ∧
    (c ≠ .presenceLost .d0 → c ≠ .presenceRise .d0 → t.lib.pins.presence0 = s.lib.pins.presence0) ∧
    (c ≠ .presenceLost .d1 → c ≠ .presenceRise .d1 → t.lib.pins.presence1 = s.lib.pins.presence1)) ∧
  (∀ (c : Instr) (s t : State), exec c s = .next t → (∀ p, c ≠ .powerOnReset p) → c ≠ .resetController →
    (c ≠ .setSetting → t.settings.working = s.settings.working) ∧
    ((∀ b, c ≠ .settingsSaveComplete b) → t.settings.stored = s.settings.stored) ∧
    (c ≠ .saveSettings → (∀ b, c ≠ .settingsSaveComplete b) → t.settings.saving = s.settings.saving))

/-! ## Requests (R185, R186) -/

/-- The first checks of a request: an unknown code, the mode, the payload's length (R185, R186). The model's choice (log entry
1): a command that takes a request acts only when the frame at the head of the receive buffer bears its code; otherwise nothing
happens. -/
def Obligations.RequestsAreJudgedInOrder : Prop :=
  ((∀ (s : State) (f : RequestFrame), s.link.frames.head? = some f →
    (∀ c : Instr, c.requestCode ≠ some f.code.toNat) →
    exec .requestUnknownCode s = .next (s.turnedDown f .unknownCode .empty)) ∧
  (∀ (c : Instr) (s : State) (f : RequestFrame) (k : Nat) (p : List Byte),
    c.requestCode = some k → s.requests f k p → s.lib.mode = .secured →
    k ∈ [0x03, 0x06, 0x20, 0x24, 0x25, 0x26, 0x29, 0x40, 0x50, 0x51, 0x63] →
    exec c s = .next (s.turnedDown f .notInMode .empty)) ∧
  (∀ (c : Instr) (s : State) (f : RequestFrame) (k : Nat) (p : List Byte),
    c.requestCode = some k → s.requests f k p →
    (s.lib.mode = .secured → k ∉ [0x03, 0x06, 0x20, 0x24, 0x25, 0x26, 0x29, 0x40, 0x50, 0x51, 0x63]) →
    payloadFits k p = false → exec c s = .next (s.turnedDown f .badArgument .empty))) ∧
  (∀ (c : Instr) (s : State),
    ((∃ k, c.requestCode = some k ∧ ∀ f, s.link.frames.head? = some f → f.code.toNat ≠ k) ∨
      (c = .requestUnknownCode ∧ ∀ f, s.link.frames.head? = some f → ∃ b : Instr, b.requestCode = some f.code.toNat)) →
    exec c s = .next s)

/-- Every request but RESET CONTROLLER has exactly one reply: it echoes the tag and the code, carries the reject flag as
it stood and clears it, says whether notices wait once the request has taken effect and whether the power-warning line is
asserted, and the frame has left the buffer (R185). A refused request changes nothing else. -/
def Obligations.EveryRequestGetsOneReply : Prop :=
  ∀ (c : Instr) (s : State) (f : RequestFrame) (k : Nat), c.requestCode = some k → c ≠ .resetController →
    s.requests f k f.payload →
    ∃ (t : State) (r : Reply), exec c s = .next t ∧ t.link.reply = some r ∧
      r.tag = f.tag ∧ r.code = f.code ∧ r.previousRejected = s.link.reject ∧
      r.noticesWaiting = decide (t.link.notices ≠ []) ∧ r.powerWarning = s.lib.pins.powerWarning ∧
      t.link.reject = false ∧ t.link.frames = s.link.frames.drop 1 ∧ t.link.receiver = s.link.receiver ∧
      (r.status ≠ .ok → t = s.turnedDown f r.status r.body)

/-! ## Frames (R184, R195) -/

/-- FRAME_RECEIVED: the bytes of a request frame bring exactly that frame to the tail of the receive buffer, or, with its
four places taken, set the reject flag; the silence timer restarts either way, and no other part of the machine changes.
Bytes before the marker are passed over, and the order of the bytes' arrival in pieces does not matter (R184, R188,
R195). FRAME_MALFORMED: a length below 2 or above 4,200, or a CRC that is not the frame's, costs the frame alone: the reject
flag is set and the search goes on at the byte after the marker's first, with the reject flag set before it (R184). Without
another marker in those bytes nothing else changes. -/
def Obligations.FramesJoinTheBufferOrAreRefused : Prop :=
  (∀ (s : State) (f : RequestFrame) (noise a b : List Byte), f.payload.length ≤ 4198 → s.link.receiver = [] →
    0x7E#8 ∉ noise → noise ++ requestBytes f = a ++ b →
    ∃ t, exec (.frameReceived a) s = .next t ∧
      exec (.frameReceived b) t = .next { s with link := { s.link with
        silence := if settingOf s.settings.working 8 = 0 then none else some (settingOf s.settings.working 8),
        silenceLimit := settingOf s.settings.working 8,
        frames := if s.link.frames.length < 4 then s.link.frames ++ [f] else s.link.frames,
        reject := s.link.reject || decide (4 ≤ s.link.frames.length) } }) ∧
  ((∀ (s : State) (hi lo : Byte) (rest : List Byte), s.link.receiver = [] →
    (hi.toNat * 256 + lo.toNat < 2 ∨ 4200 < hi.toNat * 256 + lo.toNat) →
    exec (.frameMalformed (0x7E#8 :: 0x51#8 :: hi :: lo :: rest)) s =
      .next { s with link :=
        (LinkState.arrive { s.link with reject := true } (settingOf s.settings.working 8) (0x51#8 :: hi :: lo :: rest)) }) ∧
  (∀ (s : State) (f : RequestFrame) (crc rest : List Byte), s.link.receiver = [] → f.payload.length ≤ 4198 →
    crc.length = 4 → crc ≠ (requestBytes f).drop (6 + f.payload.length) →
    exec (.frameMalformed ((requestBytes f).take (6 + f.payload.length) ++ crc ++ rest)) s =
      .next { s with link :=
        (LinkState.arrive { s.link with reject := true } (settingOf s.settings.working 8)
          (((requestBytes f).take (6 + f.payload.length) ++ crc ++ rest).drop 1)) }) ∧
  (∀ (s : State) (bytes : List Byte), s.link.receiver = [] → 0x7E#8 ∉ bytes →
    exec (.frameMalformed bytes) s = .next s))

/-! ## The device (R122, R123, R187, R188, R190, R192, R193) -/

/-- IDENTIFY and STATUS answer with what R192 lists, every value as it stands, and change nothing. The revision number is
at least 1, and no statement says more of it (log entry 9). A notice takes the next number, which rises by 1 and starts again at
0 after 65,535; with 32 records queued the oldest goes and the lost flag is set (R189). FETCH NOTICES: the reply carries the lost
flag and the eight oldest records, or all of them when fewer wait; they leave the queue, the lost flag is cleared, and
NOTICES-WAITING tells of what remains (R190). -/
def Obligations.IdentityStatusAndNoticesAreReported : Prop :=
  ((∃ revision, 1 ≤ revision ∧ ∀ (s : State) (f : RequestFrame), s.requests f 0x01 [] →
    exec .identify s = .next (s.reported f
      (.identity ("ROWPLEX TL-440  ".toList.map fun x => BitVec.ofNat 8 x.toNat) revision 40 1 2 4096))) ∧
  (∀ (s : State) (f : RequestFrame), s.requests f 0x02 [] →
    let port (d : Drive) (p : Port) : PortReport :=
      { state := p.state, faultReason := p.faultReason,
        cartridge := match p.cartridge with
          | .none => none
          | .cart i => some { index := some i, label := (s.lib.ct.carts.getD i none).bind CartRec.label }
          | .untracked => some { index := none, label := none },
        position := p.position, cleanRequest := p.cleanRequest, recovered := p.recovered, lastResult := p.lastResult,
        idle := s.lib.js.idle.get d }
    let stream (x : Stream) : StreamReport :=
      { enable := x.enable, job := x.job, intakeBuffers := x.intake.length,
        intakeBytes := (x.intake.map fun c => c.data.length).sum, bufA := x.bufA.state, bufB := x.bufB.state,
        carryFrames := x.carry.length, carryBytes := (x.carry.map fun r => 16 + r.payload.length).sum,
        outbound := match x.job.bind fun n => s.lib.js.jobs.find? fun j => j.id = n with
          | some j => (match j.progress with
            | .restore r => r.out.length
            | _ => 0)
          | none => 0 }
    exec .status s = .next (s.reported f (.status
      { mode := s.lib.mode, powerWarning := s.lib.pins.powerWarning, saving := s.settings.saving.isSome,
        gateOpen := s.lib.gateOpen, notices := s.link.notices.length, lost := s.link.lost,
        jobs := [JobState.queued, .waiting, .mounting, .running, .spanning, .held, .done, .failed, .aborted].map
          fun x => (s.lib.js.jobs.filter fun j => j.state = x).length,
        changer := s.lib.cc.state, waitingMoves := s.lib.cc.queue.length, scanWaiting := s.lib.cc.scanEntry.isSome,
        faultRun := s.lib.cc.faultRun,
        current := match s.lib.cc.current with
          | some (.move m) => some m.id
          | some (.scan x) => some x.id
          | none => none,
        holdReason := if s.lib.cc.state = .faultHold ∨ s.lib.cc.state = .held then s.lib.cc.holdReason else none,
        ports := ⟨port .d0 s.lib.ports.d0, port .d1 s.lib.ports.d1⟩,
        streams := ⟨stream s.lib.streams.d0, stream s.lib.streams.d1⟩ })))) ∧
  ((∀ (k : LinkState) (n : Notice),
    k.push n = { k with
      notices := (if k.notices.length < 32 then k.notices else k.notices.drop 1) ++
        [{ seq := k.nextNotice, notice := n }],
      lost := k.lost || decide (32 ≤ k.notices.length), nextNotice := (k.nextNotice + 1) % 65536 }) ∧
  (∀ (s : State) (f : RequestFrame), s.requests f 0x08 [] →
    exec .fetchNotices s = .next { s with link := { s.link with
      frames := s.link.frames.drop 1, notices := s.link.notices.drop 8, lost := false, reject := false,
      reply := some { tag := f.tag, code := f.code, status := .ok, previousRejected := s.link.reject,
                      noticesWaiting := decide (8 < s.link.notices.length),
                      powerWarning := s.lib.pins.powerWarning,
                      body := .notices s.link.lost (s.link.notices.take 8) } } }))

/-- SET SETTING and GET SETTING by number and value (R193): a number outside 1 to 16 is BAD-ARGUMENT; the value is clamped,
stored in the working copy and returned; a silence limit of 0 stops the timer; the stored copy reads 65,535 while the
store has never been written. Clamping takes the nearer end of the range outside it, for setting 14 the nearest of 1, 2, 5 and
10, the smaller on a tie; a value allowed is stored as it is. SAVE SETTINGS takes a snapshot, or is BUSY while a save is in
progress; at the write's completion the store takes the snapshot whole or stays as it was, and SETTINGS SAVED is queued; a SET
SETTING taken meanwhile changes the working copy only. -/
def Obligations.SettingsAreSetReadAndSaved : Prop :=
  ((∀ (s : State) (f : RequestFrame) (n hi lo : Byte), s.requests f 0x09 [n, hi, lo] →
    let v := clampSetting n.toNat (hi.toNat * 256 + lo.toNat)
    exec .setSetting s = .next (if n.toNat = 0 ∨ 16 < n.toNat then s.turnedDown f .badArgument .empty
      else State.reported { s with
        settings := { s.settings with working := s.settings.working.set (n.toNat - 1) v },
        link := { s.link with silence := if n.toNat = 8 ∧ v = 0 then none else s.link.silence } } f (.setting v))) ∧
  (∀ (s : State) (f : RequestFrame) (n : Byte), s.requests f 0x0A [n] →
    exec .getSetting s = .next (if n.toNat = 0 ∨ 16 < n.toNat then s.turnedDown f .badArgument .empty
      else s.reported f (.settingCopies (s.settings.working.getD (n.toNat - 1) 0)
        (match s.settings.stored with
         | some l => l.getD (n.toNat - 1) 0
         | none => 65535)))) ∧
  (∀ n lo hi v, (n, lo, hi) ∈ [(1, 0, 15), (2, 1, 64), (3, 1, 255), (4, 1, 3), (5, 1, 2), (6, 1, 2), (7, 0, 3600),
      (8, 0, 255), (9, 1, 2), (15, 0, 7), (16, 1, 15)] →
    clampSetting n v = if v < lo then lo else if hi < v then hi else v) ∧
  (∀ v x, x ∈ [1, 2, 5, 10] →
    clampSetting 14 v ∈ [1, 2, 5, 10] ∧ (v - clampSetting 14 v) + (clampSetting 14 v - v) ≤ (v - x) + (x - v) ∧
      ((v - clampSetting 14 v) + (clampSetting 14 v - v) = (v - x) + (x - v) → clampSetting 14 v ≤ x)) ∧
  (∀ n v, 10 ≤ n → n ≤ 13 → 1 ≤ v → v ≤ 3 →
    clampSetting n v = (if n = 10 ∧ v = 3 then 1 else if n = 13 ∧ v = 2 then 1 else v)) ∧
  (∀ n v, 1 ≤ n → n ≤ 16 → clampSetting n (clampSetting n v) = clampSetting n v)) ∧
  ((∀ (s : State) (f : RequestFrame), s.requests f 0x0B [] →
    exec .saveSettings s = .next (if s.settings.saving.isSome then s.turnedDown f .busy .empty
      else State.reported { s with settings := { s.settings with saving := some s.settings.working } } f .empty)) ∧
  (∀ (s : State) (snapshot : List Nat) (written : Bool), s.settings.saving = some snapshot →
    exec (.settingsSaveComplete written) s = .next { s with
      settings := { s.settings with
        stored := if written then some snapshot else s.settings.stored, saving := none },
      link := s.link.push (.settingsSaved written) }) ∧
  (∀ (s : State) (f : RequestFrame) (snapshot : List Nat) (p : List Byte), s.settings.saving = some snapshot →
    s.requests f 0x09 p →
    ∃ t, exec .setSetting s = .next t ∧
      ∃ u, exec (.settingsSaveComplete true) t = .next u ∧ u.settings.stored = some snapshot))

/-! ## Modes, the gate, resets (R85, R122 to R124, R187, R188, R194) -/

/-- SET MODE and RESUME (R187): the present mode is answered OK and changes nothing; MAINTENANCE only takes the mode;
ONLINE brings dispatch and the pending idle returns; RESUME leaves SECURED with the line withdrawn, opens the gate with the
enables as they were, and returns the HELD jobs to RUNNING before dispatch. A job taken on asks for a Locate of its next block
while the position is UNKNOWN (R85), unless a Locate or a read without data has still to be told. The model's choice (log entry
44): a job that has not come to rest for HOLD yet is taken on too. -/
def Obligations.ModesChangeOnRequest : Prop :=
  (∀ (s : State) (f : RequestFrame) (n : Byte), s.requests f 0x03 [n] → s.lib.mode ≠ .secured →
    exec .setMode s = .next (
      if n = 1#8 then
        if s.lib.mode = .online then s.answered f s.work .empty
        else s.answered f (((({ s.work with mode := .online, dispatchDue := true } : W).settled).idlePendingRuns
          .d0).idlePendingRuns .d1) .empty
      else if n = 2#8 then s.answered f { s.work with mode := .maintenance } .empty
      else s.turnedDown f .badArgument .empty)) ∧
  (∀ (s : State) (f : RequestFrame), s.requests f 0x04 [] →
    (s.lib.mode ≠ .secured → exec .resume s = .next (s.turnedDown f .wrongState .empty)) ∧
    (s.lib.mode = .secured → s.lib.pins.powerWarning = true →
      exec .resume s = .next (s.turnedDown f .powerWarning .empty)) ∧
    (s.lib.mode = .secured → s.lib.pins.powerWarning = false →
      let goes (j : Job) : Bool := decide (j.state = .held) ||
        (decide (j.state = .running) && j.stream.any fun d => decide ((s.work.stream d).stopping = some .hold))
      let held := (s.lib.js.jobs.filter goes).map Job.id
      let w := held.foldl W.readerResumes { s.work with mode := .online, gateOpen := true }
      ∃ t, exec .resume s = .next t ∧ t = s.answered f w.parseBoth.nowOnline .empty ∧
        t.lib.mode = .online ∧ t.lib.gateOpen = true ∧
        t.lib.streams.d0.enable = s.lib.streams.d0.enable ∧ t.lib.streams.d1.enable = s.lib.streams.d1.enable)) ∧
  (∀ (w : W) (n : Nat) (j : Job) (d : Drive), w.job n = some j → j.state = .held ∨ j.state = .running → j.stream = some d →
    W.jobTodo j = [] → j.waitReason = none →
    let x := w.stream d
    let t := w.readerResumes n
    (t.job n).map Job.state = some .running ∧ t.out.length = w.out.length + (if j.state = .held then 1 else 0) ∧
      (t.stream d).stopping = (if x.stopping = some .hold then none else x.stopping) ∧
      (t.stream d).nextRead = x.nextRead ∧ t.ports = w.ports ∧
      (x.seek.isSome = true ∨ x.news.isSome = true ∨ x.nextRead = none ∨ (w.port d).position.isSome = true →
        (t.stream d).seek = x.seek) ∧
      (∀ b, x.seek = none → x.news = none → x.nextRead = some b → (w.port d).position = none →
        (t.stream d).seek = some { target := b, purpose := .resume, retried := false, inFlight := false }))

/-- RESUME STREAM: any value but 0 and 1 is BAD-ARGUMENT, SECURED refuses it NOT-IN-MODE; otherwise the stream's enable is
set, the gate opened, the reply OK, and the other enable stays as it was. RESUME from SECURED opens the gate with both
enables as they were (R123). -/
def Obligations.ResumeStreamSetsOneEnable : Prop :=
  (∀ (s : State) (f : RequestFrame) (n : Byte), s.requests f 0x06 [n] →
    (s.lib.mode = .secured → exec .resumeStream s = .next (s.turnedDown f .notInMode .empty)) ∧
    (s.lib.mode ≠ .secured → 1 < n.toNat → exec .resumeStream s = .next (s.turnedDown f .badArgument .empty)) ∧
    (s.lib.mode ≠ .secured → n.toNat ≤ 1 →
      ∃ t, exec .resumeStream s = .next t ∧
        t = s.answered f
          { s.work with
              gateOpen := true,
              streams := if n = 0#8 then ⟨{ s.lib.streams.d0 with enable := true }, s.lib.streams.d1⟩
                         else ⟨s.lib.streams.d0, { s.lib.streams.d1 with enable := true }⟩,
              signals := s.lib.signals ++ [.parse .d0, .parse .d1] } .empty ∧
        t.lib.gateOpen = true ∧
        t.lib.streams.d0.enable = (s.lib.streams.d0.enable || decide (n = 0#8)) ∧
        t.lib.streams.d1.enable = (s.lib.streams.d1.enable || decide (n = 1#8)))) ∧
  (∀ (s t : State) (f : RequestFrame), s.requests f 0x04 [] → s.lib.mode = .secured →
    s.lib.pins.powerWarning = false → exec .resume s = .next t →
    t.lib.mode = .online ∧ t.lib.gateOpen = true ∧ t.lib.streams.d0.enable = s.lib.streams.d0.enable ∧
      t.lib.streams.d1.enable = s.lib.streams.d1.enable)

/-- A power warning queues its notice and begins the secure stop unless the mode is SECURED already; its withdrawal queues a
notice and leaves the mode; link silence stops the timer, queues LINK SILENT with the limit the timer was started with, and secures when its action says
so (R187, R188). The secure stop closes the gate, calls the truncation of every unfinished BACKUP and holds every RUNNING
VERIFY and RESTORE (R124). HALT STREAMS closes the gate and clears both enables; nothing else of the library is touched by the
request itself, so what is in flight goes on (R122). -/
def Obligations.HaltWarningAndSilenceStopTheStreams : Prop :=
  ((∀ s : State, s.lib.pins.powerWarning = false →
    let w : W := { s.work with
      pins := { s.lib.pins with powerWarning := true }, out := [.powerWarning true] }
    ∃ t, exec .powerWarningAsserted s = .next t ∧ t.lib.mode = .secured ∧ t.lib.pins.powerWarning = true ∧
      t = s.putWork (if s.lib.mode = .secured then w
        else ((s.lib.js.jobs.map Job.id).foldl W.secureJob
          { w with mode := .secured, gateOpen := false }).parseBoth) ∧
      (s.lib.mode ≠ .secured → t.lib.gateOpen = false)) ∧
  (∀ s : State, s.lib.pins.powerWarning = true →
    exec .powerWarningWithdrawn s = .next (s.putWork { s.work with
      pins := { s.lib.pins with powerWarning := false }, out := [.powerWarning false] })) ∧
  (∀ (s : State) (left : Nat), s.link.silence = some left →
    let w : W := { s.work with out := [.linkSilent s.link.silenceLimit] }
    exec .linkSilent s = .next (State.putWork { s with link := { s.link with silence := none } }
      (if settingOf s.settings.working 9 = 2 ∧ s.lib.mode ≠ .secured then
        ((s.lib.js.jobs.map Job.id).foldl W.secureJob { w with mode := .secured, gateOpen := false }).parseBoth
       else w))) ∧
  (∀ (w : W) (n : Nat) (j : Job), w.job n = some j →
    w.secureJob n = if j.state.isFinished then w else match j.progress with
      | .backup _ => w.callTruncation n (.failed, .truncated)
      | .verify _ => if j.state = .running then w.readerHolds n else w
      | .restore _ => if j.state = .running then w.readerHolds n else w
      | .clean => w)) ∧
  (∀ (s : State) (f : RequestFrame), s.requests f 0x05 [] →
    exec .haltStreams s = .next (s.answered f
      { s.work with
          gateOpen := false,
          streams := ⟨{ s.lib.streams.d0 with enable := false }, { s.lib.streams.d1 with enable := false }⟩,
          signals := s.lib.signals ++ [.parse .d0, .parse .d1] } .empty) ∧
    (∀ t, exec .haltStreams s = .next t → t.lib.gateOpen = false ∧ t.lib.streams.d0.enable = false ∧
      t.lib.streams.d1.enable = false))

/-- RESET CONTROLLER (R194, with R44, R69, R90, R127, R146, R160, R184, R187 to R189, R193): the reply goes first; then the
link is empty but for RESET DONE, the settings are the store's, the mode follows the power-warning line, the jobs are
aborted with result RESET, the streams and the coder are empty, the changer has dropped everything that waited and kept what it
holds, and the cartridge records have lost their claims. An OPEN session is TRUNCATED, its open extent closed without an end
mark or, without a block, freed (R160). A drive port keeps its state, its cartridge, its latched reason, its clean request, `recovered`
and `mediaSensed`; an operation in flight goes on for no requester, and a port in READY loses its position and looks at its
idle-return timer, which is stopped (R69). A cartridge that a BACKUP was writing takes NO-END-MARK, and is FULL in a span or from T
on, unless SUSPECT (R146). The model's (log entry 20): the reply's flags are those of the moment before, the notices of the
reset are dropped, and what follows the reset's end is settled after RESET DONE. -/
def Obligations.ControllerResetEmptiesTheBlocks : Prop :=
  ∀ (s : State) (f : RequestFrame), s.requests f 0x07 [] →
    let working := s.settings.stored.getD [2, 8, 32, 3, 1, 1, 300, 0, 1, 1, 3, 2, 1, 2, 3, 5]
    let mode : Mode := if s.lib.pins.powerWarning then .secured else .online
    let w := W.resetBlocks { toLib := s.lib, set := working, out := [] }
    exec .resetController s = .next (State.onLib
      { s with
          lib := w.toLib, settings := { s.settings with working := working, saving := none },
          link :=
            { receiver := [], frames := [], reject := false, lost := false,
              notices := [{ seq := s.link.nextNotice, notice := .resetDone false mode }],
              nextNotice := (s.link.nextNotice + 1) % 65536,
              silence := if settingOf working 8 = 0 then none else some (settingOf working 8),
              silenceLimit := settingOf working 8,
              reply := some { tag := f.tag, code := f.code, status := .ok, previousRejected := s.link.reject,
                              noticesWaiting := decide (s.link.notices ≠ []),
                              powerWarning := s.lib.pins.powerWarning, body := .empty } } }
      W.afterReset) ∧
    w.mode = mode ∧ w.gateOpen = !s.lib.pins.powerWarning ∧
    w.streams = ⟨resetStream, resetStream⟩ ∧ w.coder = { busy := none, lastServed := .d1 } ∧
    w.js.jobs.map Job.id = s.lib.js.jobs.map Job.id ∧
    (∀ j ∈ w.js.jobs, j.state.isFinished = true) ∧
    (∀ j ∈ s.lib.js.jobs, j.state.isFinished = false →
      ∃ k ∈ w.js.jobs, k.id = j.id ∧ k.state = .aborted ∧ k.result = some .reset) ∧
    w.js.lastId = s.lib.js.lastId ∧ w.js.lastSeq = s.lib.js.lastSeq ∧ w.js.claims = ⟨none, none⟩ ∧
    (∀ x ∈ w.cg.sessions, x.state ≠ .opened) ∧
    w.cg.sessions.map SessionRec.id = s.lib.cg.sessions.map SessionRec.id ∧
    (∀ x ∈ s.lib.cg.sessions, x.state = .opened → ∃ y ∈ w.cg.sessions, y.id = x.id ∧ y.state = .truncated) ∧
    ((s.lib.cg.sessions.map SessionRec.id).Nodup →
      (s.lib.cg.extents.map fun e => (e.session, e.sequence)).Nodup →
      let written (e : ExtentRec) : Bool :=
        e.isOpen && s.lib.cg.sessions.any fun x => decide (x.id = e.session) && decide (x.state = .opened)
      w.cg.extents = (s.lib.cg.extents.filter fun e => !(written e && decide (e.blockCount = 0))).map fun e =>
        if written e then { e with isOpen := false, endMark := false, continues := false } else e) ∧
    (∀ j ∈ s.lib.js.jobs, ∀ b i c, j.state.isFinished = false → j.progress = .backup b → j.cartridge = some i →
      b.extentOpen = true ∨ b.ending.isSome = true → s.work.cart i = some c →
      (∀ k ∈ s.lib.js.jobs, k.cartridge = some i → k = j) →
      let spans : Prop := b.ending ∈ [some Ending.spanWriteOut, some (.spanMarker false), some (.spanMarker true)] ∨
        ∃ x y, b.ending = some (.endLocate (.span x) y) ∨ b.ending = some (.endMark (.span x))
      let past : Prop := c.state = .opened ∧ thresholdOf c.kind ≤ (s.work.knownUsed i).getD 0
      ∃ r, w.cart i = some r ∧ r.noEndMark = true ∧
        (spans ∨ past → c.state ≠ .suspect → r.state = .full) ∧
        (c.state = .suspect ∨ (¬spans ∧ ¬past) → r.state = c.state)) ∧
    (∀ i c, s.work.cart i = some c → (∀ k ∈ s.lib.js.jobs, k.cartridge ≠ some i) →
      ∃ r, w.cart i = some r ∧ r.noEndMark = c.noEndMark ∧ r.state = c.state) ∧
    w.js.idle = ⟨none, none⟩ ∧ w.js.idlePending = ⟨false, false⟩ ∧
    (∀ d, let p := s.work.port d
      let q := w.port d
      q.state = p.state ∧ q.faultReason = p.faultReason ∧ q.cleanRequest = p.cleanRequest ∧ q.recovered = p.recovered ∧
      q.mediaSensed = p.mediaSensed ∧ q.selfTest = p.selfTest ∧ q.wasAbsent = p.wasAbsent ∧ q.lastResult = none ∧
      q.position = (if p.state = .ready then none else p.position) ∧
      q.pending = (p.pending.map fun o => { o with requester := .nobody }) ∧
      q.resetting = decide (p.state ∈ [PortState.loading, .active, .unloading, .cleaning]) ∧
      (q.resetting = false → Signal.idleCheck d ∈ w.signals) ∧
      (q.resetting = true ∨ p.cartridge = .none ∨ p.state = .init ∨ p.state = .absent → q.cartridge = p.cartridge) ∧
      (∀ i c, p.cartridge = .cart i → s.work.cart i = some c → c.location = some (.drive d) →
        (∀ k r, s.work.cart k = some r → r.location = some (.drive d) → k = i) → q.cartridge = .cart i)) ∧
    w.cc.queue = [] ∧ w.cc.current = none ∧ w.cc.faultRun = 0 ∧ w.cc.picker = s.lib.cc.picker ∧
    w.cc.pickedFrom = s.lib.cc.pickedFrom ∧
    w.cc.state = (if s.lib.pins.frontDoorOpen then .held else .homing) ∧
    (∀ i c, w.cart i = some c → c.claim = none)

/-- A power-on reset (R21, R43, R68, R90, R109, R127, R160, R184, R187, R189, R193): the settings store alone is kept, the
working copies come from it or are the factory values, every slot of a magazine that is present and M are UNKNOWN, no
record, job, session or extent is left, the changer homes unless the front door is open, the drives that are present run
their self-test, and RESET DONE is notice 0. The model's (log entry 21): the queue holds RESET DONE alone, whatever the presence
and power-warning lines show. -/
def Obligations.PowerOnResetKeepsTheStoreAlone : Prop :=
  ∀ (s : State) (p : Pins),
    let working := s.settings.stored.getD [2, 8, 32, 3, 1, 1, 300, 0, 1, 1, 3, 2, 1, 2, 3, 5]
    let mode : Mode := if p.powerWarning then .secured else .online
    ∃ t, exec (.powerOnReset p) s = .next t ∧ t.pending = s.pending ∧
      t.settings = { working := working, stored := s.settings.stored, saving := none } ∧
      t.link =
        { receiver := [], frames := [], reject := false, lost := false,
          notices := [{ seq := 0, notice := .resetDone true mode }], nextNotice := 1,
          silence := if settingOf working 8 = 0 then none else some (settingOf working 8),
          silenceLimit := settingOf working 8, reply := none } ∧
      t.lib.mode = mode ∧ t.lib.gateOpen = !p.powerWarning ∧ t.lib.pins = p ∧
      (∀ n, 1 ≤ n → n ≤ 40 → t.work.slotAt (.slot n) =
        { state := if (n ≤ 20 ∧ p.magazineLeft = true) ∨ (20 < n ∧ p.magazineRight = true) then .unknown
                   else .noMagazine,
          holder := none, reservedFor := none }) ∧
      t.lib.ct.slots.length = 40 ∧ t.work.slotAt .mail = { state := .unknown, holder := none, reservedFor := none } ∧
      t.lib.ct.mailDoorOpen = p.mailDoorOpen ∧ t.lib.ct.carts = List.replicate 64 none ∧ t.lib.ct.scanNumber = 0 ∧
      t.lib.cc.picker = .none ∧ t.lib.cc.queue = [] ∧ t.lib.cc.scanEntry = none ∧ t.lib.cc.current = none ∧
      t.lib.cc.nextId = 1 ∧ t.lib.cc.faultRun = 0 ∧
      (p.frontDoorOpen = false → t.lib.cc.state = .homing ∧ t.lib.cc.step = some .homing ∧
        t.lib.cc.stepTimer = some 20) ∧
      (p.frontDoorOpen = true → t.lib.cc.state = .held ∧ t.lib.cc.stepTimer = none) ∧
      (∀ d present, (d, present) ∈ [(Drive.d0, p.presence0), (.d1, p.presence1)] →
        (t.work.port d).state = (if present then .init else .absent) ∧
          (t.work.port d).selfTest = (if present then some 180 else none) ∧ (t.work.port d).cartridge = .none ∧
          (t.work.port d).pending = none ∧ (t.work.port d).faultReason = none ∧
          (t.work.port d).cleanRequest = false) ∧
      t.lib.js.jobs = [] ∧ t.lib.js.lastId = 0 ∧ t.lib.js.lastSeq = 0 ∧ t.lib.js.claims = ⟨none, none⟩ ∧
      t.lib.streams = ⟨resetStream, resetStream⟩ ∧ t.lib.coder = { busy := none, lastServed := .d1 } ∧
      t.lib.cg = { sessions := [], extents := [] }

/-! ## Inventory requests (R17 to R20, R41, R42) -/

/-- SLOT INFO and CARTRIDGE INFO answer from the table as it stands and change nothing: one slot or all 41 in visiting order; a
record by label or by index, with its capacity figures (R20). The holder is shown where the slot is OCCUPIED or UNKNOWN, the
reservation where it is RESERVED or UNKNOWN. EDIT CARTRIDGE (R19): SET POOL, RETIRE and CLEAR SUSPECT with their checks; a state
change queues CARTRIDGE STATE with the cause host edit (R7), and only the record named changes. The model's: a form byte above 1
is BAD-ARGUMENT and RETIRE's CLAIMED comes before its state check (log entry 37); an index of 64 to 255 is answered as a free one
(log entry 41). -/
def Obligations.TheInventoryIsReportedAndEdited : Prop :=
  ((∀ (s : State) (f : RequestFrame) (n : Byte), s.requests f 0x21 [n] →
    let ref (i : Nat) : CartRef := { index := some i, label := (s.lib.ct.carts.getD i none).bind CartRec.label }
    let report (e : Element) (r : SlotRec) : SlotReport :=
      { element := e, state := r.state,
        holder := if r.state = .occupied ∨ r.state = .unknown then r.holder.map ref else none,
        reservedFor := if r.state = .reserved ∨ r.state = .unknown then r.reservedFor.map ref else none,
        mailDoorOpen := if e = .mail then some s.lib.ct.mailDoorOpen else none }
    let storage (k : Nat) : SlotReport := report (.slot k) (s.lib.ct.slots.getD (k - 1) default)
    exec .slotInfo s = .next (
      if n.toNat = 0 then
        s.reported f (.slots ((List.range 40).map (fun k => storage (k + 1)) ++ [report Element.mail s.lib.ct.mail]))
      else if n.toNat ≤ 40 then s.reported f (.slots [storage n.toNat])
      else if n.toNat = 64 then s.reported f (.slots [report .mail s.lib.ct.mail])
      else s.turnedDown f .noSuchElement .empty)) ∧
  (∀ (s : State) (f : RequestFrame) (label : List Byte), s.requests f 0x22 (0#8 :: label) → label.length = 8 →
    (∀ i c, s.work.cartByLabel label = some i → s.work.cart i = some c →
      exec .cartridgeInfo s = .next (s.reported f (.cartridge i c (capacityReport c)))) ∧
    (s.work.cartByLabel label = none →
      exec .cartridgeInfo s = .next (s.turnedDown f .noSuchCartridge .empty))) ∧
  (∀ (s : State) (f : RequestFrame) (i : Byte), s.requests f 0x22 [1#8, i] →
    exec .cartridgeInfo s = .next (match (if i.toNat < 64 then s.lib.ct.carts.getD i.toNat none else none) with
      | some c => s.reported f (.cartridge i.toNat c (capacityReport c))
      | none => s.turnedDown f .noSuchCartridge .empty)) ∧
  (∀ (s : State) (f : RequestFrame) (b : Byte) (rest : List Byte), s.requests f 0x22 (b :: rest) → 1 < b.toNat →
    exec .cartridgeInfo s = .next (s.turnedDown f .badArgument .empty))) ∧
  (∀ (s : State) (f : RequestFrame) (i action value : Byte), s.requests f 0x23 [i, action, value] →
    let change (c : CartRec) (state : MediaState) : W :=
      if c.state = state then s.work
      else { s.work with
        ct := { s.lib.ct with carts := s.lib.ct.carts.set i.toNat (some { c with state := state }) },
        out := [.cartridgeState i.toNat c.label (some c.state) (some state) .hostEdit], dispatchDue := true }
    exec .editCartridge s = .next (match (if i.toNat < 64 then s.lib.ct.carts.getD i.toNat none else none) with
      | none => s.turnedDown f .noSuchCartridge .empty
      | some c =>
        if action = 1#8 then
          if 7 < value.toNat then s.turnedDown f .badArgument .empty
          else s.answered f { s.work with
            ct := { s.lib.ct with carts := s.lib.ct.carts.set i.toNat (some { c with pool := value.toNat }) },
            dispatchDue := true } (.mediaState c.state)
        else if action = 2#8 then
          if c.claim.isSome then s.turnedDown f .claimed .empty
          else if c.state ∈ [MediaState.new, .blank, .opened, .full, .suspect] then
            s.answered f (change c .retired) (.mediaState .retired)
          else s.turnedDown f .wrongState .empty
        else if action = 3#8 then
          if c.state = .suspect then
            let past : Bool := match c.blocksUsed with
              | .known n => decide (thresholdOf c.kind ≤ n)
              | .unknown => false
              | .absent => false
            let state : MediaState := if past || c.noEndMark then .full else .opened
            s.answered f (change c state) (.mediaState state)
          else s.turnedDown f .wrongState .empty
        else s.turnedDown f .badArgument .empty))

/-- SCAN (R41, R24): values 1 to 40 and 64, the first not after the last in visiting order; the range joins the waiting scan
entry, or becomes a new entry with the next id, which the reply carries. MOVE, IMPORT and EXPORT: their checks in order, then a
REQUESTED move at the tail of the queue, its id in the reply; eight waiting moves beside RECOVERY moves answer BUSY (R17, R18,
R24, R42). HELD_MOVE_ISSUE (R79): the first move the scheduler holds joins the queue when a place has freed. The model's (log
entry 37): IMPORT with its byte left out reads as 255. -/
def Obligations.EntriesAreQueued : Prop :=
  ((∀ (s : State) (f : RequestFrame) (a b : Byte), s.requests f 0x20 [a, b] → s.lib.mode ≠ .secured →
    let known (n : Nat) : Prop := (1 ≤ n ∧ n ≤ 40) ∨ n = 64
    let range := ((List.range 40).map (fun k => Element.slot (k + 1)) ++ [Element.mail]).filter fun e => match e with
      | .slot n => decide (a.toNat ≤ n) && decide (n ≤ b.toNat)
      | .mail => decide (b = 64#8)
      | .drive _ => false
      | .picker => false
    (¬(known a.toNat ∧ known b.toNat) → exec .scan s = .next (s.turnedDown f .noSuchElement .empty)) ∧
    (known a.toNat → known b.toNat → b.toNat < a.toNat →
      exec .scan s = .next (s.turnedDown f .badArgument .empty)) ∧
    (known a.toNat → known b.toNat → a.toNat ≤ b.toNat →
      exec .scan s = .next (match s.lib.cc.scanEntry with
        | some x => s.answered f { s.work with
            cc := { s.lib.cc with scanEntry := some { x with range := inScanOrder (x.range ++ range) } } } (.entryId x.id)
        | none => s.answered f { s.work with
            cc := { s.lib.cc with
              nextId := if s.lib.cc.nextId = 65535 then 1 else s.lib.cc.nextId + 1,
              scanEntry := some { id := s.lib.cc.nextId, range := range, remaining := [], attempts := 0,
                                  resumeSlot := none, faulted := false } } } (.entryId s.lib.cc.nextId)))) ∧
  ((∀ (s : State) (f : RequestFrame) (a b : Byte) (label : List Byte), s.requests f 0x24 (a :: b :: label) →
    label.length = 8 → s.lib.mode ≠ .secured →
    let drive (e : Element) : Prop := e = .drive .d0 ∨ e = .drive .d1
    let claimedDrive (e : Element) : Prop :=
      (e = .drive .d0 ∧ s.lib.js.claims.d0.isSome = true) ∨ (e = .drive .d1 ∧ s.lib.js.claims.d1.isSome = true)
    (elementOfByte a.toNat = none ∨ elementOfByte b.toNat = none →
      exec .move s = .next (s.turnedDown f .noSuchElement .empty)) ∧
    (∀ x y, elementOfByte a.toNat = some x → elementOfByte b.toNat = some y →
      (x = y → exec .move s = .next (s.turnedDown f .badArgument .empty)) ∧
      (x ≠ y → ((s.lib.mode = .online ∧ (drive x ∨ drive y)) ∨ claimedDrive x ∨ claimedDrive y ∨
          ∃ i, s.work.contentsAt x = .cart i ∧ (s.work.claimOf i).isSome = true) →
        exec .move s = .next (s.turnedDown f .claimed .empty)) ∧
      (x ≠ y → (s.lib.mode = .online → ¬drive x ∧ ¬drive y) → ¬claimedDrive x → ¬claimedDrive y →
        (∀ i, s.work.contentsAt x = .cart i → s.work.claimOf i = none) →
        exec .move s = .next (if 8 ≤ (s.lib.cc.queue.filter fun m => m.origin ≠ .recovery).length
          then s.turnedDown f .busy .empty
          else s.answered f (s.work.withRequested x (.element y)
            (if label = List.replicate 8 0#8 then none else some label)) (.entryId s.lib.cc.nextId))))) ∧
  (∀ (s : State) (f : RequestFrame) (p : List Byte), s.requests f 0x25 p → p.length ≤ 1 → s.lib.mode ≠ .secured →
    let pool := (p.map BitVec.toNat).headD 255
    (s.lib.ct.mail.state ≠ .occupied ∨ s.lib.ct.mail.holder = none →
      exec .importCartridge s = .next (s.turnedDown f .wrongState .empty)) ∧
    (∀ i, s.lib.ct.mail.state = .occupied → s.lib.ct.mail.holder = some i →
      exec .importCartridge s = .next (
        if (List.range 40).all fun n => (s.work.slotAt (.slot (n + 1))).state ≠ .empty then s.turnedDown f .full .empty
        else if 8 ≤ (s.lib.cc.queue.filter fun m => m.origin ≠ .recovery).length then s.turnedDown f .busy .empty
        else if 8 ≤ pool ∧ pool ≤ 254 then s.turnedDown f .badArgument .empty
        else if pool = 255 then
          s.answered f (s.work.withRequested .mail .lowestFree (s.work.labelOf i)) (.entryId s.lib.cc.nextId)
        else
          s.answered f (({ (s.work.modCart i fun c => { c with pool := pool }) with
            dispatchDue := true } : W).withRequested .mail .lowestFree (s.work.labelOf i))
            (.entryId s.lib.cc.nextId)))) ∧
  (∀ (s : State) (f : RequestFrame) (e : Element), s.lib.mode ≠ .secured →
    ((∃ n, s.requests f 0x26 [1#8, n] ∧ elementOfByte n.toNat = some e ∧ e ≠ .mail) ∨
      (∃ label, s.requests f 0x26 (0#8 :: label) ∧ label.length = 8 ∧
        (s.work.cartByLabel label).bind s.work.locationOf = some e)) →
    let holds : Prop := match e with
      | .slot n => (s.work.slotAt (.slot n)).state = .occupied ∨ (s.work.slotAt (.slot n)).state = .untracked
      | .drive d => (s.work.port d).cartridge ≠ .none
      | .mail => False
      | .picker => False
    (¬holds → exec .exportCartridge s = .next (s.turnedDown f .wrongState .empty)) ∧
    (holds → (∃ i, s.work.contentsAt e = .cart i ∧ (s.work.claimOf i).isSome = true) →
      exec .exportCartridge s = .next (s.turnedDown f .claimed .empty)) ∧
    (holds → (∀ i, s.work.contentsAt e = .cart i → s.work.claimOf i = none) →
      exec .exportCartridge s = .next (if 8 ≤ (s.lib.cc.queue.filter fun m => m.origin ≠ .recovery).length
        then s.turnedDown f .busy .empty
        else s.answered f (s.work.withRequested e (.element .mail) (match s.work.contentsAt e with
          | .cart i => s.work.labelOf i
          | .none => none
          | .untracked => none)) (.entryId s.lib.cc.nextId)))) ∧
  (∀ (s : State) (f : RequestFrame), s.lib.mode ≠ .secured →
    ((∃ n, s.requests f 0x26 [1#8, n] ∧ (elementOfByte n.toNat = none ∨ n = 64#8)) →
      exec .exportCartridge s = .next (s.turnedDown f .noSuchElement .empty)) ∧
    ((∃ label, s.requests f 0x26 (0#8 :: label) ∧ label.length = 8 ∧
        (s.work.cartByLabel label).bind s.work.locationOf = none) →
      exec .exportCartridge s = .next (s.turnedDown f .noSuchCartridge .empty))))) ∧
  ((∀ (s : State) (m : HeldMove) (rest : List HeldMove), s.lib.js.heldMoves = m :: rest →
    exec .heldMoveIssue s = .next (s.putWork (
      if 8 ≤ (s.lib.cc.queue.filter fun k => k.origin ≠ .recovery).length then s.work
      else { s.work with
        js := { s.lib.js with heldMoves := rest },
        cc := { s.lib.cc with
          nextId := if s.lib.cc.nextId = 65535 then 1 else s.lib.cc.nextId + 1,
          queue := s.lib.cc.queue ++
            [{ id := s.lib.cc.nextId, origin := m.origin, source := m.source, asked := m.asked, dest := none,
               expectedLabel := m.expectedLabel, attempts := 0, faulted := false, putAway := none, tried := [],
               ticket := m.ticket, cart := m.cart }] } }))) ∧
  (∀ s : State, s.lib.js.heldMoves = [] → exec .heldMoveIssue s = .next (s.putWork s.work)))

/-! ## The changer (R25 to R45) -/

/-- CLEAR CHANGER FAULT in FAULT-HOLD or LOCKED sets `faultRun` to 0 and homes the changer; elsewhere it is WRONG-STATE. What
follows the homing is by what was held (R35, R38). The front door (R36, R37): opening stops the changer in HELD, keeps the entry
in execution, makes every slot but one in NO-MAGAZINE UNKNOWN with what it held, and queues DOOR; closing queues DOOR and homes
the changer for the close sequence. The model's: a slot of an absent magazine that a report of the changer left in another state
becomes UNKNOWN too (log entry 41), and a level the line has already brings nothing (log entry 1). -/
def Obligations.TheFrontDoorAndAClearedFaultHomeTheChanger : Prop :=
  (∀ (s : State) (f : RequestFrame), s.requests f 0x27 [] →
    (s.lib.cc.state ≠ .faultHold → s.lib.cc.state ≠ .locked →
      exec .clearChangerFault s = .next (s.turnedDown f .wrongState .empty)) ∧
    (s.lib.cc.state = .faultHold ∨ s.lib.cc.state = .locked →
      let seq : HomingFor :=
        if s.lib.cc.state = .locked then .toIdle
        else if s.lib.cc.holdReason = some .pickerOccupied then .pickerRecheck
        else match s.lib.cc.step with
          | some .homing => s.lib.cc.homingFor
          | some .spotCheck => s.lib.cc.homingFor
          | some .scanStep => .continueScan
          | some .travel => .settleHeld
          | some .grip => .settleHeld
          | some .travelLoaded => .settleHeld
          | some .place => .settleHeld
          | none => .toIdle
      exec .clearChangerFault s = .next (s.answered f { s.work with
        cc := { s.lib.cc with
          faultRun := 0, holdReason := if s.lib.cc.state = .locked then s.lib.cc.holdReason else none,
          homingFor := seq, homingAttempts := 0, state := .homing, step := some .homing, stepTimer := some 20,
          retryTimer := none },
        dispatchDue := true } .empty))) ∧
  ((∀ s : State, s.lib.pins.frontDoorOpen = false →
    let w : W := { s.work with pins := { s.lib.pins with frontDoorOpen := true } }
    ∃ kept, exec .frontDoorOpened s = .next (s.putWork { w with
        cc := { s.lib.cc with
          state := .held, step := none, stepTimer := none, retryTimer := none, held := kept,
          holdReason := match kept with
            | some h => if h.ret = .faultHold then h.reason else none
            | none => none,
          settledEnd := s.lib.cc.closing && s.lib.cc.settledEnd,
          pickerFound := s.lib.cc.closing && s.lib.cc.pickerFound },
        ct := { s.lib.ct with slots := s.lib.ct.slots.map fun r =>
          if r.state = .noMagazine then r else { r with state := .unknown } },
        out := [.door true true], dispatchDue := s.lib.dispatchDue || decide (s.lib.cc.state ≠ .held) }) ∧
      (s.lib.cc.closing = true → kept = s.lib.cc.held) ∧
      (s.lib.cc.closing = false → s.lib.cc.state = .idle →
        kept = some { step := none, ret := .idle, reason := none, seq := .toIdle }) ∧
      (s.lib.cc.closing = false → s.lib.cc.state = .locked →
        kept = some { step := none, ret := .locked, reason := none, seq := .toIdle }) ∧
      (∀ x, s.lib.cc.closing = false → x ∈ [Step.travel, .grip, .travelLoaded, .place] → s.lib.cc.step = some x →
        s.lib.cc.state = W.stateOfStep x ∨ s.lib.cc.state = .retryWait →
        kept = some { step := some x, ret := .resume, reason := none, seq := .toIdle }) ∧
      (s.lib.cc.closing = false → s.lib.cc.state = .faultHold →
        kept.map Held.ret = some .faultHold ∧ kept.bind Held.reason = s.lib.cc.holdReason)) ∧
  (∀ s : State, s.lib.pins.frontDoorOpen = true →
    let w : W := { s.work with
      pins := { s.lib.pins with frontDoorOpen := false }, out := [.door true false] }
    exec .frontDoorClosed s = .next (s.putWork (if s.lib.cc.state = .held then { w with
      cc := { s.lib.cc with
        closing := true, homingFor := .toIdle, homingAttempts := 0, state := .homing, step := some .homing,
        stepTimer := some 20, retryTimer := none },
      dispatchDue := true } else w))) ∧
  (∀ s : State, (s.lib.pins.frontDoorOpen = true → exec .frontDoorOpened s = .next (s.putWork s.work)) ∧
    (s.lib.pins.frontDoorOpen = false → exec .frontDoorClosed s = .next (s.putWork s.work))))

/-- The mail-slot door and the magazines (R2, R39): the door makes M UNKNOWN with what it held and, at its closing, asks for a
scan of M; a magazine taken out leaves its twenty slots NO-MAGAZINE with nothing in them and their holders absent, and one put
in leaves them UNKNOWN with nothing in them; the other magazine's slot states other than an absent cartridge's home stay as
they are. The model's (log entry 11): a cartridge that a report of the changer has put into a slot of an absent magazine is
absent once the magazine is put in. -/
def Obligations.MailDoorAndMagazinesAreNoted : Prop :=
  (∀ s : State, s.lib.pins.mailDoorOpen = false →
    exec .mailSlotDoorOpened s = .next (s.putWork { s.work with
      pins := { s.lib.pins with mailDoorOpen := true }, out := [.door false true],
      ct := { s.lib.ct with mailDoorOpen := true, mail := { s.lib.ct.mail with state := .unknown } } })) ∧
  (∀ s : State, s.lib.pins.mailDoorOpen = true →
    exec .mailSlotDoorClosed s = .next (s.putWork { s.work with
      pins := { s.lib.pins with mailDoorOpen := false }, out := [.door false false],
      ct := { s.lib.ct with mailDoorOpen := false },
      cc := match s.lib.cc.scanEntry with
        | some x => { s.lib.cc with scanEntry := some { x with range := inScanOrder (x.range ++ [.mail]) } }
        | none => { s.lib.cc with
            nextId := if s.lib.cc.nextId = 65535 then 1 else s.lib.cc.nextId + 1,
            scanEntry := some { id := s.lib.cc.nextId, range := [.mail], remaining := [], attempts := 0,
                                resumeSlot := none, faulted := false } } })) ∧
  (∀ (s : State) (m : Magazine), s.work.magazinePresent m = true → s.lib.ct.slots.length = 40 →
    let w := (putMagazine s.work m false).magazineGone m
    exec (.magazineRemoved m) s = .next (s.putWork w) ∧ w.magazinePresent m = false ∧
      (∀ n ∈ slotsOf m, w.slotAt (.slot n) = { state := .noMagazine, holder := none, reservedFor := none }) ∧
      (∀ n i, n ∈ slotsOf m → (s.work.slotAt (.slot n)).holder = some i → s.work.locationOf i = some (.slot n) →
        (s.work.slotAt (.slot n)).reservedFor = none → w.locationOf i = none) ∧
      (∀ n, 1 ≤ n → n ≤ 40 → n ∉ slotsOf m → (s.work.slotAt (.slot n)).reservedFor = none →
        w.slotAt (.slot n) = s.work.slotAt (.slot n))) ∧
  (∀ (s : State) (m : Magazine), s.work.magazinePresent m = false → s.lib.ct.slots.length = 40 →
    let w := (putMagazine s.work m true).magazineBack m
    exec (.magazineInserted m) s = .next (s.putWork w) ∧ w.magazinePresent m = true ∧
      (∀ n ∈ slotsOf m, w.slotAt (.slot n) = { state := .unknown, holder := none, reservedFor := none }) ∧
      ((∀ n ∈ slotsOf m, (s.work.slotAt (.slot n)).holder = none ∧ (s.work.slotAt (.slot n)).reservedFor = none) →
        (∀ n, 1 ≤ n → n ≤ 40 → n ∉ slotsOf m → w.slotAt (.slot n) = s.work.slotAt (.slot n)) ∧
          w.ct.carts = s.lib.ct.carts) ∧
      (∀ n i, n ∈ slotsOf m → (s.work.slotAt (.slot n)).holder = some i → s.work.locationOf i = some (.slot n) →
        (s.work.slotAt (.slot n)).reservedFor = none → w.locationOf i = none))

/-- Validation of a move from a storage slot (R26): an occupied picker, the source, the label expected, the claim, the
destination, in that order; the first check that fails gives the reason. The candidates of a RECOVERY move in order: back
where the cartridge was picked from, its home if RESERVED for it, M if EMPTY with its door closed; an UNTRACKED cartridge goes
to M (R45). -/
def Obligations.MovesAreValidatedInOrder : Prop :=
  (∀ (w : W) (m : Move) (n : Nat), m.source = .slot n →
    let slot := w.slotAt (.slot n)
    let i := w.recordAt (.slot n)
    let accepts (e : Element) : Bool :=
      decide ((w.slotAt e).state = .empty) ||
        (decide ((w.slotAt e).state = .reserved) && i.isSome && decide ((w.slotAt e).reservedFor = i))
    let claimedByAnother : Prop := match m.origin, i.bind w.claimOf with
      | .requested, some _ => True
      | .job k, some c => c ≠ k
      | _, _ => False
    (w.cc.picker ≠ .none → w.validate m = some .pickerOccupied) ∧
    (w.cc.picker = .none → slot.state ≠ .occupied → ¬(slot.state = .untracked ∧ m.dest = some .mail) →
      w.validate m = some .sourceEmpty) ∧
    (w.cc.picker = .none → slot.state = .occupied ∨ (slot.state = .untracked ∧ m.dest = some .mail) →
      (∀ l, m.expectedLabel = some l → i.bind w.labelOf ≠ some l → w.validate m = some .labelMismatch) ∧
      ((m.expectedLabel = none ∨ m.expectedLabel = i.bind w.labelOf) →
        (claimedByAnother → w.validate m = some .claimed) ∧
        (¬claimedByAnother → w.validate m = match m.dest with
          | none => some .destFull
          | some .picker => some .destFull
          | some .mail => if accepts .mail then none else some .destFull
          | some (.slot k) => if accepts (.slot k) ∧ k ≠ n then none else some .destFull
          | some (.drive d) =>
            if (w.port d).state = .empty then none
            else if (w.port d).state ∈ [PortState.absent, .init, .faulted] then some .driveNotReady
            else some .destFull)))) ∧
  (∀ w : W,
    let mail : Option Element :=
      if (w.slotAt .mail).state = .empty ∧ w.ct.mailDoorOpen = false then some .mail else none
    (w.cc.picker = .none → w.recoveryChain = none) ∧ (w.cc.picker = .untracked → w.recoveryChain = mail) ∧
    (∀ i n, w.cc.picker = .cart i → w.cc.pickedFrom = some (.slot n) →
      ((w.slotAt (.slot n)).state = .empty ∨
        ((w.slotAt (.slot n)).state = .reserved ∧ (w.slotAt (.slot n)).reservedFor = some i) →
        w.recoveryChain = some (.slot n))) ∧
    (∀ i d, w.cc.picker = .cart i → w.cc.pickedFrom = some (.drive d) →
      w.recoveryChain =
        if (w.port d).state = .empty then some (.drive d)
        else match w.homeOf i with
          | some h =>
            if (w.slotAt (.slot h)).state = .reserved ∧ (w.slotAt (.slot h)).reservedFor = some i
            then some (.slot h) else mail
          | none => mail))

/-- ENTRY_START in IDLE (R25, R26, R28, R40, R45): the waiting scan entry first; else the oldest move, resolved and validated;
a move that validation refuses ends with the reason; a RECOVERY move goes on by its chain. A scan passes over M with its door
open and the slots of a magazine that is out, and is over when no slot is left. Elsewhere, with nothing waiting, or when the move
at the head names M with its door open, no entry starts and the queue is kept. -/
def Obligations.EntriesStartInIdle : Prop :=
  (∀ (s : State) (sensed : Bool), s.lib.cc.state ≠ .idle → exec (.entryStart sensed) s = .next (s.putWork s.work)) ∧
  (∀ (s : State) (sensed : Bool) (x : Scan) (out : List Nat), s.lib.cc.state = .idle →
    s.lib.cc.scanEntry = some x → s.lib.cc.closeScan = none →
    (∀ k ∈ out, 1 ≤ k ∧ k ≤ s.lib.ct.slots.length ∧ s.work.magazinePresent (magazineOf k) = false ∧
      s.work.slotAt (.slot k) = { state := .noMagazine, holder := none, reservedFor := none }) →
    (∀ e rest, x.range = out.map Element.slot ++ e :: rest →
      (e = .mail ∧ s.lib.ct.mailDoorOpen = false) ∨
        (∃ n, e = .slot n ∧ s.work.magazinePresent (magazineOf n) = true) →
      exec (.entryStart sensed) s = .next (s.putWork { s.work with
        pins := { s.lib.pins with pickerSensor := sensed },
        ct := { s.lib.ct with
          scanNumber := min (s.lib.ct.scanNumber + 1) 4294967295,
          scan := some { range := x.range, reported := out.map Element.slot, found := 0, created := 0, revived := 0,
                         absent := 0, duplicates := 0, untracked := 0 } },
        cc := { s.lib.cc with
          scanEntry := none, current := some (.scan { x with remaining := e :: rest, resumeSlot := none }),
          state := .scanning, step := some .scanStep, stepTimer := some 20, retryTimer := none },
        dispatchDue := true })) ∧
    (x.range = out.map Element.slot ∨
        (x.range = out.map Element.slot ++ [Element.mail] ∧ s.lib.ct.mailDoorOpen = true) →
      x.faulted = false → 1 ≤ settingOf s.settings.working 16 →
      ∃ w : W, exec (.entryStart sensed) s = .next (s.putWork w) ∧ w.cc.state = .idle ∧ w.cc.current = none ∧
        w.cc.scanEntry = none ∧ w.cc.faultRun = 0 ∧ w.cc.queue = s.lib.cc.queue ∧ w.ct.scan = none ∧
        w.out = [.scanDone x.range out.length 0 0 0 0 0 0])) ∧
  (∀ (s : State) (sensed : Bool) (m : Move) (rest : List Move), s.lib.cc.state = .idle → s.lib.cc.scanEntry = none →
    s.lib.cc.queue = m :: rest → m.source = .mail ∨ m.asked = .element .mail → s.lib.ct.mailDoorOpen = true →
    exec (.entryStart sensed) s = .next (s.putWork { s.work with pins := { s.lib.pins with pickerSensor := sensed } })) ∧
  (∀ (s : State) (sensed : Bool) (m : Move) (rest : List Move), s.lib.cc.state = .idle → s.lib.cc.scanEntry = none →
    s.lib.cc.queue = m :: rest →
    (s.lib.ct.mailDoorOpen = true → m.source ≠ .mail ∧ m.asked ≠ .element .mail) →
    let w : W := { s.work with
      pins := { s.lib.pins with pickerSensor := sensed }, cc := { s.lib.cc with queue := rest } }
    let m1 : Move := { m with dest := w.resolveDest m }
    (m.origin ≠ .recovery → w.validate m1 = none →
      exec (.entryStart sensed) s = .next (s.putWork { w with
        cc := { w.cc with
          current := some (.move m1), state := .travel, step := some .travel, stepTimer := some 20,
          retryTimer := none },
        dispatchDue := true })) ∧
    (∀ r, m.origin ≠ .recovery → w.validate m1 = some r → m.faulted = false →
      s.lib.cc.faultRun < settingOf s.settings.working 16 → r ≠ .ok → r ≠ .lostInTransit →
      exec (.entryStart sensed) s = .next (s.putWork { w with
        cc := { w.cc with
          current := none, step := none, stepTimer := none, retryTimer := none, held := none, holdReason := none },
        signals := s.lib.signals ++ [.moveEnded m.origin m.ticket r m.cart], dispatchDue := true,
        out := if m.origin = .requested then
            [.moveDone m.id m.origin m.source m1.dest
              (if w.contentsAt m.source = .none then none else some m.source) (w.contentsRef (w.contentsAt m.source)) r]
          else [] })) ∧
    (∀ e, m.origin = .recovery → sensed = true → s.lib.cc.picker ≠ .none → w.recoveryChain = some e →
      exec (.entryStart true) s = .next (s.putWork { w with
        cc := { w.cc with
          current := some (.move { m with dest := some e }), state := .travelLoaded, step := some .travelLoaded,
          stepTimer := some 20, retryTimer := none },
        dispatchDue := true }))) ∧
  (∀ (s : State) (sensed : Bool), s.lib.cc.state = .idle → s.lib.cc.scanEntry = none → s.lib.cc.queue = [] →
    exec (.entryStart sensed) s = .next (s.putWork s.work))

/-- The steps of a move (R8, R16, R27, R48): arrival begins the grip or the place; the grip takes the cartridge out of its slot,
which stays RESERVED for it, and the label read is compared; the insertion puts it at its destination, whose slot becomes its
home, ends the move OK, and lets its old home go. -/
def Obligations.AMoveIsCarriedOut : Prop :=
  (∀ s : State, s.lib.cc.stepTimer.isSome = true →
    (s.lib.cc.step = some .travel → s.lib.cc.state = .travel →
      exec .travelArrival s = .next (s.putWork { s.work with
        cc := { s.lib.cc with state := .grip, step := some .grip, stepTimer := some 20, retryTimer := none },
        dispatchDue := true })) ∧
    (s.lib.cc.step = some .travelLoaded → s.lib.cc.state = .travelLoaded →
      exec .travelArrival s = .next (s.putWork { s.work with
        cc := { s.lib.cc with state := .place, step := some .place, stepTimer := some 20, retryTimer := none },
        dispatchDue := true }))) ∧
  (∀ (s : State) (reads : LabelReads) (m : Move) (n i : Nat) (c : CartRec), s.lib.cc.stepTimer.isSome = true →
    s.lib.cc.step = some .grip → s.lib.cc.state = .grip → s.lib.cc.current = some (.move m) → m.source = .slot n →
    s.work.cart i = some c → c.location = some (.slot n) → (s.work.slotAt (.slot n)).holder = some i →
    s.lib.cc.picker = .none →
    let read : Option Label :=
      if labelOk reads.first then some reads.first
      else if settingOf s.settings.working 13 = 1 ∧ labelOk reads.second then some reads.second else none
    let taken : W := { s.work with
      pins := { s.lib.pins with pickerSensor := true },
      ct := { s.lib.ct with
        carts := s.lib.ct.carts.set i (some { c with location := some .picker }),
        slots := s.lib.ct.slots.set (n - 1) { state := .reserved, holder := none, reservedFor := some i } },
      dispatchDue := true }
    let loaded (m : Move) : W := { taken with
      cc := { s.lib.cc with
        picker := .cart i, pickedFrom := some (.slot n), current := some (.move m), state := .travelLoaded,
        step := some .travelLoaded, stepTimer := some 20, retryTimer := none } }
    (∀ l, c.label = some l → (read = none ∨ read = some l) →
      exec (.gripDone true reads) s = .next (s.putWork (loaded m))) ∧
    (∀ l, c.label = some l → read.isSome = true → read ≠ some l → c.home = some n → n - 1 < s.lib.ct.slots.length →
      m.tried.contains (.slot n) = false →
      exec (.gripDone true reads) s = .next (s.putWork (loaded
        { m with putAway := some .labelMismatch, dest := some (.slot n), tried := m.tried ++ [.slot n] })))) ∧
  (∀ (s : State) (m : Move) (i : Nat) (c : CartRec), s.lib.cc.stepTimer.isSome = true →
    s.lib.cc.step = some .place → s.lib.cc.current = some (.move m) → s.lib.cc.picker = .cart i →
    s.work.cart i = some c →
    let w := ((s.work.sensePicker false).placeDone m).goToRest
    exec .insertDone s = .next (s.putWork w) ∧
    (∀ n, m.dest = some (.slot n) → 1 ≤ n → n ≤ s.lib.ct.slots.length →
      w.locationOf i = some (.slot n) ∧ w.homeOf i = some n ∧
        w.slotAt (.slot n) = { state := .occupied, holder := some i, reservedFor := none } ∧
        ((s.work.slotAt (.slot n)).reservedFor = none ∨ (s.work.slotAt (.slot n)).reservedFor = some i →
          (∀ j, (s.work.slotAt (.slot n)).holder = some j → j = i) →
          (∀ h, c.home = some h → h ≠ n → 1 ≤ h → h ≤ s.lib.ct.slots.length →
            (s.work.slotAt (.slot h)).reservedFor = some i →
            w.slotAt (.slot h) = { state := .empty, holder := none, reservedFor := none }) ∧
          (∀ k, 1 ≤ k → k ≠ n → c.home ≠ some k → w.slotAt (.slot k) = s.work.slotAt (.slot k)))) ∧
    (∀ d, m.dest = some (.drive d) → (s.work.port d).state = .empty → (s.work.port d).cartridge = .none →
      w.locationOf i = some (.drive d) ∧ w.homeOf i = c.home ∧
        w.port d = { s.work.port d with state := .holding, cartridge := .cart i, position := none }) ∧
    (m.dest = some .mail →
      w.locationOf i = some .mail ∧ w.homeOf i = none ∧
        w.slotAt .mail = { state := .occupied, holder := some i, reservedFor := none }) ∧
    (m.dest.isSome = true →
      w.cc.picker = .none ∧ w.cc.pickedFrom = none ∧ w.cc.current = none ∧ w.js.jobs = s.lib.js.jobs ∧
        w.cg = s.lib.cg ∧ w.streams = s.lib.streams ∧ w.cc.queue = s.lib.cc.queue ∧
        ((∀ e v, m.dest = some e → (s.work.slotAt e).reservedFor = some v → v = i) →
          (∀ e j, m.dest = some e → (s.work.slotAt e).holder = some j → j = i) →
          (∀ d, m.dest = some (.drive d) → (s.work.port d).cartridge = .none) →
          ∀ k, k ≠ i → w.cart k = s.work.cart k)) ∧
    (m.dest.isSome = true → m.putAway = none → m.faulted = false →
      w.cc.faultRun = 0 ∧ (m.origin = .requested → Notice.moveDone m.id .requested m.source m.dest m.dest
        (some (w.cartRef i)) .ok ∈ w.out)))

/-- STALL, GRIP-MISS and PLACE-BLOCKED (R29 to R31): the entry is marked faulted; under RETRY with attempts left the changer
waits the retry delay and does the step again; under HOLD, or with the retries exhausted, it holds, and CHANGER FAULT tells
whether they were. A step's timer of 20 seconds running out is taken as a STALL; a GRIP-MISS at a drive under REPORT is held. A
homing counts for itself when it is not part of an entry; the model's reading (log entry 12): that of a move or scan cleared for
is part of it, that of a close sequence is not. -/
def Obligations.FaultsAreRetriedOrHeld : Prop :=
  (∀ (s : State) (m : Move) (x : Step) (e : Instr) (reason : Reason) (number : Nat),
    (e, x, reason, number) ∈
      [(Instr.axisStall, Step.travel, Reason.stall, 10), (.axisStall, .grip, .stall, 10),
       (.axisStall, .travelLoaded, .stall, 10), (.axisStall, .place, .stall, 10),
       (.stepTimerExpiry, .travel, .stall, 10), (.stepTimerExpiry, .grip, .stall, 10),
       (.stepTimerExpiry, .travelLoaded, .stall, 10), (.stepTimerExpiry, .place, .stall, 10),
       (.placeBlocked, .place, .placeBlocked, 12)] →
    s.lib.cc.stepTimer.isSome = true → s.lib.cc.step = some x → s.lib.cc.state = W.stateOfStep x →
    s.lib.cc.current = some (.move m) → s.lib.cc.closing = false → s.lib.cc.held = none →
    let set := settingOf s.settings.working
    (set number = 1 → m.attempts < set 15 →
      exec e s = .next (s.putWork { s.work with
        cc := { s.lib.cc with
          current := some (.move { m with attempts := m.attempts + 1, faulted := true }), state := .retryWait,
          stepTimer := none, retryTimer := some (set 14) },
        dispatchDue := true })) ∧
    (set number = 2 ∨ (set number = 1 ∧ set 15 ≤ m.attempts) →
      exec e s = .next (s.putWork { s.work with
        cc := { s.lib.cc with
          current := some (.move { m with faulted := true }), state := .faultHold, stepTimer := none,
          retryTimer := none, holdReason := some reason,
          held := some { step := some x, ret := .faultHold, reason := some reason, seq := s.lib.cc.homingFor } },
        dispatchDue := true,
        out := [.changerFault (some m.id) (some m.origin) reason (some x)
          (if x = .travel ∨ x = .grip then some m.source else m.dest) m.attempts (decide (set number = 1)) .faultHold
          (s.work.contentsRef s.lib.cc.picker) s.lib.cc.faultRun] }))) ∧
  (∀ (s : State) (m : Move) (reads : LabelReads), s.lib.cc.stepTimer.isSome = true → s.lib.cc.step = some .grip →
    s.lib.cc.state = .grip → s.lib.cc.current = some (.move m) → s.lib.cc.closing = false → s.lib.cc.held = none →
    let set := settingOf s.settings.working
    let sensed : W := { s.work with pins := { s.lib.pins with pickerSensor := false }, dispatchDue := true }
    (set 11 = 1 → m.attempts < set 15 →
      exec (.gripDone false reads) s = .next (s.putWork { sensed with
        cc := { s.lib.cc with
          current := some (.move { m with attempts := m.attempts + 1, faulted := true }), state := .retryWait,
          stepTimer := none, retryTimer := some (set 14) } })) ∧
    (set 11 = 2 ∨ (set 11 = 1 ∧ set 15 ≤ m.attempts) ∨ (set 11 = 3 ∧ ∃ d, m.source = .drive d) →
      exec (.gripDone false reads) s = .next (s.putWork { sensed with
        cc := { s.lib.cc with
          current := some (.move { m with faulted := true }), state := .faultHold, stepTimer := none,
          retryTimer := none, holdReason := some .gripMiss,
          held := some { step := some .grip, ret := .faultHold, reason := some .gripMiss, seq := s.lib.cc.homingFor } },
        out := [.changerFault (some m.id) (some m.origin) .gripMiss (some .grip) (some m.source) m.attempts
          (decide (set 11 = 1)) .faultHold (s.work.contentsRef s.lib.cc.picker) s.lib.cc.faultRun] }))) ∧
  (∀ (s : State) (e : Instr), (e = .axisStall ∨ e = .stepTimerExpiry) → s.lib.cc.stepTimer.isSome = true →
    s.lib.cc.step = some .homing → s.lib.cc.state = .homing →
    let set := settingOf s.settings.working
    let waits (c : Changer) : W := { s.work with
      cc := { c with state := .retryWait, stepTimer := none, retryTimer := some (set 14) }, dispatchDue := true }
    (s.lib.cc.homingFor ∈ [HomingFor.toIdle, .powerOn, .reset, .pickerRecheck] ∨
        (s.lib.cc.homingFor = .settleHeld ∧ s.lib.cc.closing = true) →
      set 10 = 1 → s.lib.cc.homingAttempts < set 15 →
      exec e s = .next (s.putWork (waits { s.lib.cc with homingAttempts := s.lib.cc.homingAttempts + 1 }))) ∧
    (∀ m, s.lib.cc.homingFor = .settleHeld → s.lib.cc.closing = false → s.lib.cc.current = some (.move m) →
      set 10 = 1 → m.attempts < set 15 →
      exec e s = .next (s.putWork (waits { s.lib.cc with
        current := some (.move { m with attempts := m.attempts + 1, faulted := true }) }))) ∧
    (∀ x, s.lib.cc.homingFor = .continueScan → s.lib.cc.closeScan = none → s.lib.cc.current = some (.scan x) →
      set 10 = 1 → x.attempts < set 15 →
      exec e s = .next (s.putWork (waits { s.lib.cc with
        current := some (.scan { x with attempts := x.attempts + 1, faulted := true }) }))) ∧
    (∀ x, s.lib.cc.homingFor = .continueScan → s.lib.cc.closeScan = some x → set 10 = 1 → x.attempts < set 15 →
      exec e s = .next (s.putWork (waits { s.lib.cc with
        closeScan := some { x with attempts := x.attempts + 1, faulted := true } }))) ∧
    (s.lib.cc.homingFor ∈ [HomingFor.toIdle, .powerOn, .reset, .pickerRecheck] → s.lib.cc.current = none →
      s.lib.cc.closing = false → s.lib.cc.held = none →
      set 10 = 2 ∨ (set 10 = 1 ∧ set 15 ≤ s.lib.cc.homingAttempts) →
      exec e s = .next (s.putWork { s.work with
        cc := { s.lib.cc with
          state := .faultHold, stepTimer := none, retryTimer := none, holdReason := some .stall,
          held := some { step := some .homing, ret := .faultHold, reason := some .stall, seq := s.lib.cc.homingFor } },
        dispatchDue := true,
        out := [.changerFault none none .stall (some .homing) none s.lib.cc.homingAttempts (decide (set 10 = 1)) .faultHold
          (s.work.contentsRef s.lib.cc.picker) s.lib.cc.faultRun] }))) ∧
  (∀ (s : State) (x : Step), s.lib.cc.state = .retryWait → s.lib.cc.step = some x →
    exec .retryDelayExpiry s = .next (s.putWork { s.work with
      cc := { s.lib.cc with state := W.stateOfStep x, stepTimer := some 20, retryTimer := none },
      dispatchDue := true }))

/-- GRIP-MISS and PLACE-BLOCKED under REPORT (R32, R33): the source is found empty, its record absent, and the move ends
GRIP-MISS; a blocked place is put away at the cartridge's home, or M, not tried before, and with none left the changer holds
NOWHERE-TO-PLACE. The model's (log entry 42): a put-away already under way keeps its `putAway` reason. -/
def Obligations.ReportedFaultsGoOn : Prop :=
  (∀ (s : State) (m : Move) (reads : LabelReads) (n i : Nat) (c : CartRec), s.lib.cc.stepTimer.isSome = true →
    s.lib.cc.step = some .grip → s.lib.cc.current = some (.move m) → m.source = .slot n →
    settingOf s.settings.working 11 = 3 → s.work.cart i = some c → c.location = some (.slot n) →
    (s.work.slotAt (.slot n)).holder = some i → (s.work.slotAt (.slot n)).reservedFor = none → 1 ≤ n →
    n ≤ s.lib.ct.slots.length →
    ∃ w : W, exec (.gripDone false reads) s = .next (s.putWork w) ∧ w.locationOf i = none ∧
      w.slotAt (.slot n) = { state := .empty, holder := none, reservedFor := none } ∧ w.cc.current = none ∧
      w.cc.picker = s.lib.cc.picker ∧ Signal.moveEnded m.origin m.ticket .gripMiss m.cart ∈ w.signals ∧
      ∃ state run, Notice.changerFault (some m.id) (some m.origin) .gripMiss (some .grip) (some (.slot n)) m.attempts
        false state (s.work.contentsRef (.cart i)) run ∈ w.out) ∧
  (∀ (s : State) (m : Move), s.lib.cc.stepTimer.isSome = true → s.lib.cc.step = some .place →
    s.lib.cc.current = some (.move m) → settingOf s.settings.working 12 = 3 → s.lib.cc.closing = false →
    let candidates := s.work.putAwayCandidates.filter fun e =>
      !(m.tried.contains e) && decide (m.dest ≠ some e)
    ∃ w : W, exec .placeBlocked s = .next (s.putWork w) ∧ w.cc.picker = s.lib.cc.picker ∧
      (∀ e rest, candidates = e :: rest → w.cc.step = some .travelLoaded ∧ w.cc.stepTimer = some 20 ∧
        w.cc.current = some (.move { m with
          faulted := true, putAway := m.putAway.or (some .placeBlocked), dest := some e,
          tried := m.tried ++ m.dest.toList ++ [e] })) ∧
      (candidates = [] → w.cc.state = .faultHold ∧ w.cc.holdReason = some .nowhereToPlace ∧ w.cc.stepTimer = none))

/-- HOMING_COMPLETE outside a close sequence (R35, R37, R38, R43, R44): after a power-on reset a scan of all 41 slots is
queued and a cartridge in the picker is UNTRACKED and gets a RECOVERY move; a cleared PICKER-OCCUPIED reads the picker again; a
loaded move found without its cartridge ends LOST-IN-TRANSIT; one found with it goes on to an acceptable destination. The
model's: after a controller reset with no interrupted step a cartridge that the picker kept and the sensor does not show is lost
(log entry 42), and one that the sensor shows in a picker known to be empty is UNTRACKED (log entry 13). -/
def Obligations.HomingIsFollowedByItsSequence : Prop :=
  ∀ (s : State) (sensed : Bool), s.lib.cc.step = some .homing → s.lib.cc.stepTimer.isSome = true →
    s.lib.cc.closing = false →
    let w := s.work.homed sensed
    exec (.homingComplete sensed) s = .next (s.putWork w) ∧ w.pins = { s.lib.pins with pickerSensor := sensed } ∧
    (s.lib.cc.homingFor = .toIdle → w.cc.state = .idle ∧ w.cc.queue = s.lib.cc.queue ∧
      w.cc.scanEntry = s.lib.cc.scanEntry ∧ w.cc.picker = s.lib.cc.picker ∧ w.cc.stepTimer = none ∧ w.ct = s.lib.ct) ∧
    (s.lib.cc.homingFor = .powerOn → w.cc.state = .idle ∧ w.cc.scanEntry.map Scan.range = some scanOrder ∧
      (sensed = true → w.cc.picker = .untracked ∧ w.cc.queue.map Move.origin = .recovery :: s.lib.cc.queue.map Move.origin) ∧
      (sensed = false → w.cc.picker = s.lib.cc.picker ∧ w.cc.queue = s.lib.cc.queue)) ∧
    (s.lib.cc.homingFor = .pickerRecheck → w.cc.state = .idle ∧
      (sensed = true → w.cc.picker = s.lib.cc.picker ∧
        w.cc.queue.map Move.origin = .recovery :: s.lib.cc.queue.map Move.origin) ∧
      (sensed = false → w.cc.picker = .none ∧ w.cc.queue = s.lib.cc.queue)) ∧
    (s.lib.cc.homingFor = .reset → s.lib.cc.interrupted = none → w.cc.state = .idle ∧
      (sensed = true → w.cc.queue.map Move.origin = .recovery :: s.lib.cc.queue.map Move.origin ∧
        w.cc.picker = if s.lib.cc.picker = .none then .untracked else s.lib.cc.picker) ∧
      (sensed = false → w.cc.picker = .none ∧ w.cc.queue = s.lib.cc.queue ∧
        ∀ i, s.lib.cc.picker = .cart i → w.locationOf i = none)) ∧
    (∀ m h, s.lib.cc.homingFor = .settleHeld → s.lib.cc.current = some (.move m) → s.lib.cc.held = some h →
      h.step = some .travelLoaded →
      (sensed = false → w.cc.picker = .none ∧ w.cc.current = none ∧
        Signal.moveEnded m.origin m.ticket .lostInTransit m.cart ∈ w.signals ∧
        ∀ i, s.lib.cc.picker = .cart i → w.locationOf i = none) ∧
      (sensed = true → m.putAway = none → m.asked ≠ .recoveryChain →
        (m.dest = some .mail → s.lib.ct.mailDoorOpen = false) →
        s.work.destRefused m.source m.dest (s.work.recordAt .picker) = none →
        w.cc.step = some .travelLoaded ∧ w.cc.stepTimer = some 20 ∧ w.cc.current = some (.move m) ∧
          w.cc.picker = s.lib.cc.picker))

/-- The close sequence and spot checks (R37): the homing after the front door's closing is followed by a scan of every storage
slot, with what was being scanned or waited to be; a spot check tells whether the cartridge was placed, and if not the move
ends LOST-IN-TRANSIT. -/
def Obligations.TheCloseSequenceSettlesAndScans : Prop :=
  (∀ (s : State) (sensed : Bool), s.lib.cc.step = some .homing → s.lib.cc.stepTimer.isSome = true →
    s.lib.cc.closing = true → s.lib.cc.homingFor = .toIdle → s.lib.cc.current = none →
    (s.lib.cc.held.map Held.ret) = some .idle → (s.lib.cc.held.map Held.seq) = some .toIdle →
    s.lib.pins.magazineLeft = true →
    let asked := ((s.lib.cc.closeScan.map Scan.range).getD []) ++ ((s.lib.cc.scanEntry.map Scan.range).getD [])
    ∃ w : W, exec (.homingComplete sensed) s = .next (s.putWork w) ∧ w.cc.state = .scanning ∧
      w.cc.step = some .scanStep ∧ w.cc.stepTimer = some 20 ∧ w.cc.scanEntry = none ∧ w.cc.queue = s.lib.cc.queue ∧
      w.cc.picker = s.lib.cc.picker ∧
      (w.cc.closeScan.map Scan.remaining) = some (scanOrder.filter fun e =>
        decide (e ≠ .mail) || asked.contains e)) ∧
  (∀ (s : State) (present : Bool) (m : Move) (i n : Nat) (c : CartRec), s.lib.cc.step = some .spotCheck →
    s.lib.cc.stepTimer.isSome = true → s.lib.cc.closing = false → s.lib.cc.current = some (.move m) →
    s.lib.cc.picker = .cart i → s.work.cart i = some c → m.dest = some (.slot n) → 1 ≤ n →
    n ≤ s.lib.ct.slots.length → (s.work.slotAt (.slot n)).reservedFor = none →
    let w := s.work.spotChecked present
    exec (.spotCheckDone present) s = .next (s.putWork w) ∧ w.cc.picker = .none ∧ w.cc.current = none ∧
      (present = true → w.locationOf i = some (.slot n) ∧
        w.slotAt (.slot n) = { state := .occupied, holder := some i, reservedFor := none }) ∧
      (present = false → w.locationOf i = none ∧
        Signal.moveEnded m.origin m.ticket .lostInTransit m.cart ∈ w.signals))

/-- SCAN_SLOT_DONE (R11, R13, R14, R40): the slot in progress is reported, the changer goes on to the next, and the table takes
the finding: empty; the cartridge it knew; a cartridge with a new label, which gets a record, its media state by its kind and a
CARTRIDGE STATE notice. The model's (log entry 41): a label that only records with DUPLICATE-LABEL bear counts as new, and its
record is without that flag. Findings of M, of a cartridge unreadable, displaced, revived, moved by hand or a duplicate, and a
finding that gets no record, are not stated here. -/
def Obligations.AScanReportsItsSlots : Prop :=
  (∀ (s : State) (present : Bool) (reads : LabelReads) (n : Nat) (rest : List Element),
    s.lib.cc.step = some .scanStep → s.lib.cc.stepTimer.isSome = true → s.work.remainingSlots = .slot n :: rest →
    s.work.magazinePresent (magazineOf n) = true →
    exec (.scanSlotDone present reads) s = .next (s.putWork
      (((s.work.scanResult (.slot n)
        (if present then .cartridge (s.work.labelBy reads) else .empty)).putRemaining rest).endStep).scanGoesOn)) ∧
  (∀ (w : W) (n : Nat), w.slotAt (.slot n) = { (w.slotAt (.slot n)) with holder := none, reservedFor := none } →
    w.scanResult (.slot n) .empty = { w with
      ct := { w.ct with
        slots := w.ct.slots.set (n - 1) { state := .empty, holder := none, reservedFor := none },
        scan := w.ct.scan.map fun t => { t with reported := t.reported ++ [.slot n] } },
      rehomeDue := true }) ∧
  (∀ (w : W) (n i : Nat) (c : CartRec) (l : Option Label), (w.slotAt (.slot n)).holder = some i → w.cart i = some c →
    c.location = some (.slot n) → c.label = l →
    w.scanResult (.slot n) (.cartridge l) = { w with
      ct := { w.ct with
        slots := w.ct.slots.set (n - 1) { state := .occupied, holder := some i, reservedFor := none },
        carts := w.ct.carts.set i (some { c with lastSeen := w.ct.scanNumber }),
        scan := w.ct.scan.map fun t => { t with found := t.found + 1, reported := t.reported ++ [.slot n] } } }) ∧
  (∀ (w : W) (n i : Nat) (l : Label), (w.slotAt (.slot n)).holder = none → (w.slotAt (.slot n)).reservedFor = none →
    w.cartByLabel l = none → w.allocate = some i → i < w.ct.carts.length →
    let kind := kindOfLabel l
    let state : MediaState := match kind with
      | some .a => .new
      | some .b => .new
      | some .clean => .cleaning
      | none => .foreign
    w.scanResult (.slot n) (.cartridge (some l)) = { w with
      ct := { w.ct with
        slots := w.ct.slots.set (n - 1) { state := .occupied, holder := some i, reservedFor := none },
        carts := w.ct.carts.set i (some
          { label := some l, kind := kind, state := state, location := some (.slot n), home := some n,
            homeMagazine := some (magazineOf n), pool := 0, claim := none,
            blocksUsed := if kind = some .a ∨ kind = some .b then .unknown else .absent, rawBytes := 0,
            codedBytes := 0, extentCount := 0, loadCount := 0,
            usesLeft := if kind = some .clean then some 50 else none, writeProtect := .unknown,
            lastSeen := w.ct.scanNumber, duplicateLabel := false, noEndMark := false }),
        scan := w.ct.scan.map fun t =>
          { t with found := t.found + 1, created := t.created + 1, reported := t.reported ++ [.slot n] } },
      out := w.out ++ [.cartridgeState i (some l) none (some state) .scanOrPassage], dispatchDue := true })

/-- Rehoming (R9): a homeless cartridge takes the lowest EMPTY slot of its last home's magazine, or of the other; without a last
home, of magazine L alone. The slot is RESERVED for it, and one in HOLDING that nothing claims is sent there. Cartridges are
served in increasing record index, outside a scan; after it no EMPTY slot is left beside a homeless cartridge that had a home.
The model's (log entry 5): rehoming comes before the next report. -/
def Obligations.HomelessCartridgesAreRehomed : Prop :=
  (∀ (w : W) (i : Nat) (c : CartRec), w.cart i = some c →
    let free (m : Magazine) : Option Nat := ((List.range 20).map fun k => (match m with
      | .left => k + 1
      | .right => k + 21)).find? fun n => (w.slotAt (.slot n)).state = .empty
    let chosen : Option Nat := match c.homeMagazine with
      | some .left => (free .left).or (free .right)
      | some .right => (free .right).or (free .left)
      | none => free .left
    let away : Prop := c.location = some .picker ∨ ∃ d, c.location = some (.drive d)
    (c.home.isSome = true ∨ ¬away → w.rehomeOne i = w) ∧
    (c.home = none → away → chosen = none → w.rehomeOne i = w) ∧
    (∀ n, c.home = none → away → chosen = some n →
      w.rehomeOne i = { w with
        ct := { w.ct with
          slots := w.ct.slots.set (n - 1) { state := .reserved, holder := none, reservedFor := some i },
          carts := w.ct.carts.set i (some
            { c with home := some n, homeMagazine := some (if n ≤ 20 then .left else .right) }) },
        signals := w.signals ++ [.homeGained i], dispatchDue := true })) ∧
  (∀ w : W, w.rehome = (List.range 64).foldl W.rehomeOne w) ∧
  (∀ w : W, w.rehomeDue = true → w.ct.scan = none → w.settleOnce = some { w with rehomeDue := false }.rehome) ∧
  (∀ (w : W) (i : Nat) (c : CartRec) (m : Magazine), i < 64 → w.ct.slots.length = 40 → w.rehome.cart i = some c →
    c.home = none → (c.location = some .picker ∨ ∃ d, c.location = some (.drive d)) → c.homeMagazine = some m →
    ∀ n, 1 ≤ n → n ≤ 40 → (w.rehome.slotAt (.slot n)).state ≠ .empty) ∧
  (∀ (w : W) (i : Nat) (d : Drive), w.locationOf i = some (.drive d) → (w.port d).state = .holding →
    w.claimOf i = none → i ∉ w.js.returning → w.takeSignal (.homeGained i) = w.issueReturn d)

/-! ## Drive ports (R46 to R69) -/

/-- RETEST DRIVE and UNLOAD DRIVE (R63, R67): their checks in order; an accepted retest runs the self-test with `recovered`
clear; an Unload from READY begins, from HOLDING it is done already, and a return home is a RETURN move once it is. The idle
return (R65, R66): an expiry in ONLINE unloads a READY drive and its cartridge is returning; in another mode it is kept, and
carried out in ONLINE. The model's: the RETURN move expects the label of the cartridge's record (log entry 24) and bears a ticket
(log entry 4). -/
def Obligations.DrivesAreRetestedAndUnloaded : Prop :=
  ((∀ (s : State) (f : RequestFrame) (n : Byte), s.requests f 0x28 [n] →
    (n ≠ 65#8 → n ≠ 66#8 → exec .retestDrive s = .next (s.turnedDown f .noSuchElement .empty)) ∧
    (∀ d, (n, d) ∈ [(65#8, Drive.d0), (66#8, .d1)] →
      let p := s.work.port d
      exec .retestDrive s = .next (
        if p.state ∈ [PortState.loading, .active, .unloading, .cleaning] ∨ (p.state = .init ∧ p.selfTest.isSome = true)
        then s.turnedDown f .busy .empty
        else if p.state = .absent then s.turnedDown f .wrongState .empty
        else if driveTaken s.work d then s.turnedDown f .claimed .empty
        else s.answered f { s.work with
          ports := s.lib.ports.put d
            { p with state := .init, position := none, selfTest := some 180, recovered := false },
          js := { s.lib.js with
            idle := s.lib.js.idle.put d none, idlePending := s.lib.js.idlePending.put d false },
          dispatchDue := s.lib.dispatchDue || decide (p.state ≠ .init) } .empty))) ∧
  (∀ (s : State) (f : RequestFrame) (n home : Byte), s.requests f 0x29 [n, home] → s.lib.mode ≠ .secured →
    (n ≠ 65#8 → n ≠ 66#8 → exec .unloadDrive s = .next (s.turnedDown f .noSuchElement .empty)) ∧
    (∀ d, (n, d) ∈ [(65#8, Drive.d0), (66#8, .d1)] →
      let p := s.work.port d
      let homeless : Prop := ∀ i, p.cartridge = .cart i → s.work.homeOf i = none
      (1 < home.toNat → exec .unloadDrive s = .next (s.turnedDown f .badArgument .empty)) ∧
      (home.toNat ≤ 1 → driveTaken s.work d = true →
        exec .unloadDrive s = .next (s.turnedDown f .claimed .empty)) ∧
      (home.toNat ≤ 1 → driveTaken s.work d = false →
        (p.state ∈ [PortState.loading, .active, .unloading, .cleaning] →
          exec .unloadDrive s = .next (s.turnedDown f .busy .empty)) ∧
        (p.state ∈ [PortState.absent, .init, .empty, .faulted] ∨
            (home = 1#8 ∧ (p.state = .ready ∨ p.state = .holding) ∧ homeless) →
          exec .unloadDrive s = .next (s.turnedDown f .wrongState .empty)) ∧
        (home = 0#8 → p.state = .ready →
          exec .unloadDrive s = .next (s.answered f { s.work with
            ports := s.lib.ports.put d
              { p with state := .unloading, position := none,
                       pending := some { op := .unload, requester := .host false, timer := 120 } },
            js := { s.lib.js with
              idle := s.lib.js.idle.put d none, idlePending := s.lib.js.idlePending.put d false } } .empty)) ∧
        (home = 0#8 → p.state = .holding →
          exec .unloadDrive s = .next (s.answered f s.work .empty)) ∧
        (∀ i h, home = 1#8 → p.cartridge = .cart i → s.work.homeOf i = some h →
          let returning := if s.lib.js.returning.contains i then s.lib.js.returning else s.lib.js.returning ++ [i]
          (p.state = .ready →
            exec .unloadDrive s = .next (s.answered f { s.work with
              ports := s.lib.ports.put d
                { p with state := .unloading, position := none,
                         pending := some { op := .unload, requester := .host true, timer := 120 } },
              js := { s.lib.js with
                idle := s.lib.js.idle.put d none, idlePending := s.lib.js.idlePending.put d false,
                returning := returning } } .empty)) ∧
          (p.state = .holding → s.lib.js.heldMoves = [] →
            (s.lib.cc.queue.filter fun k => k.origin ≠ .recovery).length < 8 →
            exec .unloadDrive s = .next (s.answered f { s.work with
              js := { s.lib.js with returning := returning, nextTicket := s.lib.js.nextTicket + 1 },
              cc := { s.lib.cc with
                nextId := if s.lib.cc.nextId = 65535 then 1 else s.lib.cc.nextId + 1,
                queue := s.lib.cc.queue ++
                  [{ id := s.lib.cc.nextId, origin := .returned, source := .drive d, asked := .home, dest := none,
                     expectedLabel := s.work.labelOf i, attempts := 0, faulted := false, putAway := none,
                     tried := [], ticket := s.lib.js.nextTicket, cart := some i }] } } .empty))))))) ∧
  ((∀ (s : State) (d : Drive), (s.work.idleTimer d).isSome = true →
    (s.lib.mode = .online → (s.work.port d).state = .ready →
      exec (.idleReturnExpiry d) s = .next (s.putWork (s.work.idleUnload d))) ∧
    (s.lib.mode ≠ .online →
      exec (.idleReturnExpiry d) s = .next (s.putWork { s.work with js := { s.lib.js with
        idle := s.lib.js.idle.put d none, idlePending := s.lib.js.idlePending.put d true } }))) ∧
  (∀ (s : State) (d : Drive), s.lib.js.idlePending.get d = true →
    (s.lib.mode = .online → (s.work.port d).state = .ready →
      exec (.pendingIdleReturn d) s = .next (s.putWork (s.work.idleUnload d))) ∧
    (s.lib.mode ≠ .online → exec (.pendingIdleReturn d) s = .next (s.putWork s.work))))

/-- Presence and media reports (R46, R47, R61, R62): a fallen line leaves the port ABSENT with its cartridge, its clean request
and its latched reason, ends what was in flight with DRIVE-LOST and queues DRIVE FAULT; a rising one begins INIT with its
self-test of 180 seconds. The model's (log entry 34): `lastResult` takes DRIVE-LOST at the fall of the line. Self-tests (R16,
R47, R62): failed or out of time, the port stays in INIT with INIT-FAIL and DRIVE FAULT is queued; passed, the latched reason is
cleared and the port is EMPTY, its known cartridge gone absent, or HOLDING, or READY with `recovered` set and its position
UNKNOWN, by what the drive holds; a drive that had a fault or was absent tells that it is usable again. -/
def Obligations.PresenceAndSelfTestsDecideTheDrive : Prop :=
  ((∀ (s : State) (d : Drive), s.work.presence d = true →
    let p := s.work.port d
    let w := (s.work.putPresence d false).presenceFalls d
    exec (.presenceLost d) s = .next (s.putWork w) ∧ w.presence d = false ∧
      w.port d = { p with
        state := .absent, mediaSensed := none, position := none, recovered := false, pending := none,
        selfTest := none, resetting := false,
        lastResult := if p.pending.isSome then some .driveLost else p.lastResult } ∧
      w.port (otherDrive d) = s.work.port (otherDrive d) ∧ w.ct = s.lib.ct ∧ w.cc = s.lib.cc ∧
      w.streams = s.lib.streams ∧ w.js.jobs = s.lib.js.jobs ∧
      w.out = [] ∧
      w.signals = s.lib.signals ++ (match p.pending with
        | some q => [.opDone d q.requester q.op .driveLost]
        | none => []) ++
          [.notice (.driveFault d p.state .absent (some .presenceLost) (s.work.contentsRef p.cartridge) p.position),
           .portDown d]) ∧
  (∀ (s : State) (d : Drive), s.work.presence d = false → (s.work.port d).state = .absent →
    exec (.presenceRise d) s = .next (s.putWork { (s.work.putPresence d true) with
      ports := s.lib.ports.put d
        { s.work.port d with state := .init, position := none, selfTest := some 180, wasAbsent := true },
      dispatchDue := true })) ∧
  (∀ (s : State) (d : Drive) (m : MediaSense),
    exec (.mediaReport d m) s = .next (s.putWork (if (s.work.port d).state = .absent then s.work
      else { s.work with ports := s.lib.ports.put d { s.work.port d with mediaSensed := some m } })))) ∧
  (∀ (s : State) (d : Drive), (s.work.port d).state = .init → (s.work.port d).selfTest.isSome = true →
    let p := s.work.port d
    let failed : W := { s.work with
      ports := s.lib.ports.put d { p with selfTest := none, faultReason := some .initFail },
      signals := s.lib.signals ++
        [.notice (.driveFault d .init .init (some .initFail) (s.work.contentsRef p.cartridge) p.position), .portDown d] }
    exec (.selfTestResult d .failed) s = .next (s.putWork failed) ∧
    exec (.selfTestTimeout d) s = .next (s.putWork failed) ∧
    (∀ m, ∃ w : W, exec (.selfTestResult d (.passed m)) s = .next (s.putWork w) ∧
      (w.port d).selfTest = none ∧ (w.port d).faultReason = none ∧ (w.port d).wasAbsent = false ∧
      (w.port d).mediaSensed = some m ∧ (w.port d).position = none ∧ (w.port d).cleanRequest = p.cleanRequest ∧
      w.port (otherDrive d) = s.work.port (otherDrive d) ∧
      (if m = .threaded then Signal.recovered d else .idleCheck d) ∈ w.signals ∧
      (m = .nothing → (w.port d).state = .empty ∧ (w.port d).recovered = false ∧ (w.port d).cartridge = .none ∧
        ∀ i, p.cartridge = .cart i → w.locationOf i = none) ∧
      (m = .inserted → (w.port d).state = .holding ∧ (w.port d).recovered = false) ∧
      (m = .threaded → (w.port d).state = .ready ∧ (w.port d).recovered = true) ∧
      (m ≠ .nothing → ∀ i, s.work.cartAt (.drive d) = some i →
        (w.port d).cartridge = .cart i ∧ w.ct.carts = s.lib.ct.carts) ∧
      (p.faultReason.isSome = true ∨ p.wasAbsent = true →
        ∃ now ref, Notice.driveFault d .init now none ref none ∈ w.out)))

/-- What each operation's completion does to the port, and what its requester is handed (R51 to R58, R64): the position after
it, READY or HOLDING, `lastResult`, a clean request carried on it, and for a Load the load report. The settlement that hands
the outcome on comes after it. A completion with result TRANSPORT, a Load with LOAD-FAIL, an end mark with END-MARK-FAIL, and an
operation whose time has run out put the port in FAULTED with the reason latched and the position UNKNOWN, hand the requester
the result, and after that queue DRIVE FAULT (R47, R51, R52, R56, R59). The model's (log entry 34): `lastResult` takes TIMEOUT as the time runs
out. -/
def Obligations.OperationsEnd : Prop :=
  (∀ (s : State) (d : Drive) (q : PendingOp) (asked : Bool), (s.work.port d).pending = some q →
    (s.work.port d).resetting = false → (s.work.port d).state = flightState q.op →
    let p := s.work.port d
    let ready (position : Option Nat) : Port := { p with state := .ready, position := position }
    let ends (c : Instr) (port : Port) (r : OpOutcome) : Prop :=
      exec c s = .next (s.putWork (s.work.completed d q port r asked))
    (∀ b, q.op = .locate b →
      ends (.locateComplete d .ok asked) (ready (some b)) .ok ∧
      (∀ c, c ≤ 6000000 → ends (.locateComplete d (.blank c) asked) (ready (some c)) (.blank c)) ∧
      ends (.locateComplete d .readError asked) (ready none) .readError) ∧
    (q.op = .locateEnd →
      (∀ c, c ≤ 6000000 → ends (.locateEndComplete d (.ok c) asked) (ready (some c)) (.okCount c)) ∧
      ends (.locateEndComplete d .blank asked) (ready (some 0)) (.blank 0) ∧
      ends (.locateEndComplete d .readError asked) (ready none) .readError) ∧
    ((∃ k, q.op = .readBlock k ∨ q.op = .probeRead k) →
      (∀ block : List Byte, block.length ≤ 65536 →
        ends (.readBlockComplete d (.ok block) asked) (ready (p.position.map fun b => b + 1)) (.okBlock block)) ∧
      ends (.readBlockComplete d .endMark asked) (ready p.position) .endMark ∧
      ends (.readBlockComplete d .blank asked) (ready p.position) (.blank 0) ∧
      ends (.readBlockComplete d .readError asked) (ready none) .readError) ∧
    (∀ k, q.op = .writeBlock k →
      ends (.writeBlockComplete d .ok asked) (ready (p.position.map fun b => b + 1)) .ok ∧
      ends (.writeBlockComplete d .writeError asked) (ready none) .writeError) ∧
    (q.op = .writeEndMark → ends (.writeEndMarkComplete d .ok asked) (ready p.position) .ok) ∧
    (q.op = .unload →
      ends (.unloadComplete d .ok asked) { p with state := .holding, position := none, recovered := false } .ok) ∧
    (q.op = .clean →
      ends (.cleanComplete d .ok asked) { p with state := .ready, position := none, cleanRequest := false } .ok) ∧
    (∀ i c protect, q.op = .load → p.cartridge = .cart i → s.work.cart i = some c →
      exec (.loadComplete d (.ok protect) asked) s = .next (s.putWork (W.completed { s.work with
        ct := { s.lib.ct with carts := s.lib.ct.carts.set i (some
          { c with writeProtect := if protect then .yes else .no, loadCount := min (c.loadCount + 1) 4294967295 }) } }
        d q (ready none) (.okProtected protect) asked)))) ∧
  (∀ (s : State) (d : Drive) (q : PendingOp) (asked : Bool), (s.work.port d).pending = some q →
    (s.work.port d).resetting = false → (s.work.port d).state = flightState q.op →
    (∀ c, (q.op, c) ∈
        [(PortOp.load, Instr.loadComplete d .transport asked), (.locateEnd, .locateEndComplete d .transport asked),
         (.probeRead .a, .readBlockComplete d .transport asked), (.probeRead .b, .readBlockComplete d .transport asked),
         (.readBlock .a, .readBlockComplete d .transport asked), (.readBlock .b, .readBlockComplete d .transport asked),
         (.writeBlock .a, .writeBlockComplete d .transport asked),
         (.writeBlock .b, .writeBlockComplete d .transport asked),
         (.writeEndMark, .writeEndMarkComplete d .transport asked), (.unload, .unloadComplete d .transport asked),
         (.clean, .cleanComplete d .transport asked)] →
      exec c s = .next (s.putWork (s.work.faultedBy d q .transport .transport asked))) ∧
    (∀ b, q.op = .locate b →
      exec (.locateComplete d .transport asked) s =
        .next (s.putWork (s.work.faultedBy d q .transport .transport asked))) ∧
    (q.op = .load →
      exec (.loadComplete d .loadFail asked) s = .next (s.putWork (s.work.faultedBy d q .loadFail .loadFail asked))) ∧
    (q.op = .writeEndMark →
      exec (.writeEndMarkComplete d .endMarkFail asked) s =
        .next (s.putWork (s.work.faultedBy d q .endMarkFail .endMarkFail asked))) ∧
    exec (.operationTimeout d) s = .next (s.putWork (s.work.faultedBy d q .timeout .timeout false))) ∧
  (∀ (w : W) (n : Notice), w.takeSignal (.notice n) = { w with out := w.out ++ [n] })

/-- An operation's request (R50): a port in READY accepts a Locate within the capacity, and an Unload from HOLDING ends OK at
once; a read or a write is refused without a known position and on a cartridge of no data kind, a write on one that is
write-protected and beyond the early-warning threshold T, a Write End Mark beyond T + 1, a Clean on one that is no cleaning
cartridge; a port that has been recovered accepts an Unload alone (R62). A refused request changes nothing. -/
def Obligations.OperationsAreAcceptedOrRefused : Prop :=
  ∀ (w : W) (d : Drive) (r : Requester),
    let p := w.port d
    (∀ op why, w.opRefusal d op = some why → w.requestOp d op r = (w, false)) ∧
    (∀ op, w.opRefusal d op = none → p.state = .ready → op ≠ .unload →
      w.requestOp d op r = ({ w with
        ports := w.ports.put d
          { p with state := flightState op, pending := some { op := op, requester := r, timer := opTimer op } },
        js := { w.js with idle := w.js.idle.put d none, idlePending := w.js.idlePending.put d false } }, true)) ∧
    (p.state = .holding →
      w.requestOp d .unload r = ({ w with
        ports := w.ports.put d { p with lastResult := some .ok },
        signals := w.signals ++ [.opDone d r .unload .ok] }, true)) ∧
    (∀ i c k n, p.state = .ready → p.recovered = false → p.cartridge = .cart i → w.cart i = some c →
      c.kind = some k → k ≠ .clean → p.position = some n →
      let t := if k = .a then 2460938 else 5906250
      (∀ buf, w.opRefusal d (.readBlock buf) = none) ∧
      (∀ buf, w.opRefusal d (.writeBlock buf) =
        if c.writeProtect = .no then if n ≤ t then none else some .pastThreshold else some .protected_) ∧
      w.opRefusal d .writeEndMark =
        (if c.writeProtect = .no then if n ≤ t + 1 then none else some .pastThreshold else some .protected_) ∧
      (∀ b, w.opRefusal d (.locate b) =
        if b ≤ (if k = .a then 2500000 else 6000000) then none else some .badArgument)) ∧
    (p.state = .ready → p.recovered = true → ∀ op, w.opRefusal d op = if op = .unload then none else some .notReady) ∧
    (∀ op, p.state = .ready → p.recovered = false →
      op ∈ [PortOp.readBlock .a, .readBlock .b, .probeRead .a, .probeRead .b, .writeBlock .a, .writeBlock .b,
        .writeEndMark] →
      (p.position = none → w.opRefusal d op = some .noPosition) ∧
      (p.position.isSome = true →
        (∀ i c, p.cartridge = .cart i → w.cart i = some c → c.kind = none ∨ c.kind = some .clean) →
        w.opRefusal d op = some .wrongMedia)) ∧
    (p.state = .ready → p.recovered = false →
      w.opRefusal d .locateEnd = none ∧ w.opRefusal d .unload = none ∧ w.opRefusal d .load = some .notReady ∧
        (∀ i c, p.cartridge = .cart i → w.cart i = some c →
          w.opRefusal d .clean = if c.kind = some .clean then none else some .wrongMedia)) ∧
    (p.state = .holding → ∀ op, w.opRefusal d op =
      if op = .unload ∨ (op = .load ∧ p.cartridge ≠ .untracked) then none else some .notReady) ∧
    (p.state ∈ [PortState.loading, .active, .unloading, .cleaning] → ∀ op, w.opRefusal d op = some .busy) ∧
    (p.state ∈ [PortState.absent, .init, .empty, .faulted] → ∀ op, w.opRefusal d op = some .notReady)

/-! ## Jobs (R70 to R90) -/

/-- Admission (R72): with a record free the job takes it, its id the first that no record holds, counting upward from the id
given last and wrapping from 255 to 1, and the next `seq`; with none free the finished record of smallest `seq` is reclaimed;
with every record holding an unfinished job the admission fails and nothing changes. The model's (log entry 33): `seq` stays at
its largest value. -/
def Obligations.JobsAreAdmitted : Prop :=
  ∀ (w : W) (kind : JobKind) (session : Option Nat) (target : Target) (progress : Progress) (pins : List Nat),
    (w.js.jobs.length < 16 → w.js.lastId ≤ 255 →
      ∃ n, 1 ≤ n ∧ n ≤ 255 ∧ (∀ j ∈ w.js.jobs, j.id ≠ n) ∧
        (∀ k, 1 ≤ k → k ≤ 255 → (∀ j ∈ w.js.jobs, j.id ≠ k) →
          (n + 254 - w.js.lastId) % 255 ≤ (k + 254 - w.js.lastId) % 255) ∧
        w.admitJob kind session target progress pins = (w.withJob n kind session target progress pins, some n)) ∧
    (∀ j, w.js.jobs.length = 16 → j ∈ w.js.jobs → j.state.isFinished = true →
      (∀ k ∈ w.js.jobs, k.state.isFinished = true → k ≠ j → j.seq < k.seq) →
      w.admitJob kind session target progress pins =
        W.admitJob { w with js := { w.js with jobs := w.js.jobs.filter fun k => k.id ≠ j.id } } kind session target progress
          pins) ∧
    (16 ≤ w.js.jobs.length → (∀ j ∈ w.js.jobs, j.state.isFinished = false) →
      w.admitJob kind session target progress pins = (w, none))

/-- OPEN SESSION, START VERIFY, START RESTORE and START CLEAN (R86, R101, R129, R161, R162, R173 to R175): their checks in
order, then the admission of a job of their kind with the fields and the progress their rules give it, its id in the reply;
QUEUE-FULL when no record can be had. Which object of a session is available is R175's: it lies in an extent, the extents
holding it have consecutive sequences, and its first and last chunk are on tape in the chain. The model's: a RESTORE with no
available object has an empty label for its target, which nothing is mounted for (log entry 31). -/
def Obligations.JobsAreStartedOnRequest : Prop :=
  (∀ (s : State) (f : RequestFrame) (hi lo pool mode auto : Byte) (tag : List Byte),
    s.requests f 0x40 (hi :: lo :: pool :: mode :: auto :: tag) → tag.length = 8 → s.lib.mode ≠ .secured →
    let set := settingOf s.settings.working
    let id := hi.toNat * 256 + lo.toNat
    let number := if mode = 0#8 then set 4 else mode.toNat
    let coding : CodingMode := if number = 1 then .pack else if number = 2 then .pass else .auto
    let progress : Progress := .backup
      { objectsBegun := 0, openObject := none, closing := false, truncating := false, extentSeq := 0, extentOpen := false,
        securedThrough := 0, part := none, spanCause := none,
        autoVerify := decide ((if auto = 0#8 then set 5 else auto.toNat) = 1),
        snapshot := { mode := coding, gain := set 1, storedRun := set 2, skip := set 3 },
        coding := none, ending := none, truncEnd := none }
    exec .openSession s = .next (
      if id = 0 ∨ 7 < pool.toNat ∨ 3 < mode.toNat ∨ 2 < auto.toNat then s.turnedDown f .badArgument .empty
      else if (s.lib.cg.sessions.any fun x => x.id = id) = true then s.turnedDown f .duplicate .empty
      else if 64 ≤ s.lib.cg.sessions.length ∨ 1024 ≤ s.lib.cg.extents.length then s.turnedDown f .catalogFull .empty
      else match s.work.admitJob .backup (some id) (.pool pool.toNat) progress [] with
        | (_, none) => s.turnedDown f .queueFull .empty
        | (w, some n) => s.answered f { w with cg := { w.cg with
            sessions := insertBy SessionRec.id
              { id := id, hostTag := tag, state := .opened, origin := .written, pool := pool.toNat,
                codingMode := some coding, objectsBegun := 0, chunkCount := 0, rawBytes := 0, codedBytes := 0,
                verifySummary := .unverified } w.cg.sessions } } (.jobId n))) ∧
  (∀ (s : State) (f : RequestFrame) (label : Label) (hi lo flags : Byte), s.requests f 0x50 (label ++ [hi, lo, flags]) →
    label.length = 8 → s.lib.mode ≠ .secured →
    let id := hi.toNat * 256 + lo.toNat
    let on (i x : Nat) : Bool := (s.work.extentsOn i).any fun e => e.session = x
    let isOpen (x : Nat) : Bool := (s.work.session x).any fun r => r.state = .opened
    let selected (i : Nat) : List Nat :=
      if id = 0 then (s.lib.cg.sessions.map SessionRec.id).filter fun x => on i x && !isOpen x else [id]
    let pinned (i : Nat) : List Nat :=
      if id = 0 then (s.lib.cg.sessions.map SessionRec.id).filter (on i)
      else if (s.work.session id).isSome then [id] else []
    let zero : Tally := { framesChecked := 0, damaged := 0, unreadable := 0, missingBlocks := 0, headerBad := 0,
                          markerFaults := 0, kind3Seen := false }
    let progress (i : Nat) : Progress := .verify
      { all := decide (id = 0), rebuild := decide (flags = 1#8), selected := selected i,
        extents := ((s.work.extentsOn i).filter fun e => (selected i).contains e.session).map fun e =>
          { session := e.session, sequence := e.sequence, check := .pending, tally := zero },
        current := .none, expect := .unset, tally := zero, totals := zero, stray := 0, rebuilt := 0, conflicts := 0,
        endedVerified := 0, endedDamaged := 0, damageFound := false, skipped := [], entered := none,
        lastParsed := none, firstUnreadable := false, firstMoved := false }
    exec .startVerify s = .next (
      if labelOk label = false ∨ 1 < flags.toNat then s.turnedDown f .badArgument .empty
      else match s.work.cartByLabel label with
        | none => s.turnedDown f .noSuchCartridge .empty
        | some i =>
          if s.work.kindOf i ∉ [some CartKind.a, some .b] ∨ (id ≠ 0 ∧ isOpen id = true) then
            s.turnedDown f .wrongState .empty
          else if flags = 0#8 ∧ (if id = 0 then selected i = [] else (s.work.session id).isNone ∨ on i id = false) then
            s.turnedDown f .noSuchSession .empty
          else match s.work.admitJob .verify (if id = 0 then none else some id) (.label label) (progress i) (pinned i) with
            | (_, none) => s.turnedDown f .queueFull .empty
            | (w, some n) => s.answered f w (.jobId n))) ∧
  (∀ (s : State) (f : RequestFrame) (session first last label block : List Byte),
    s.requests f 0x51 (session ++ first ++ last ++ label ++ block) → session.length = 2 → first.length = 3 →
    last.length = 3 → label.length = 8 → block.length = 4 → s.lib.mode ≠ .secured → s.lib.js.jobs.length ≤ 16 →
    let unhinted : Prop := label = List.replicate 8 0#8
    let hint : Hint := if label = List.replicate 8 0#8 then .none else .unused label (beNat block)
    let policy : Policy := if settingOf s.settings.working 6 = 2 then .substitute else .stop
    exec .startRestore s = .next (
      if beNat first = 0 ∨ (¬unhinted ∧ labelOk label = false) then s.turnedDown f .badArgument .empty
      else match s.work.session (beNat session) with
        | none => s.turnedDown f .noSuchSession .empty
        | some x =>
          let top := min (beNat last) x.objectsBegun
          let extents := s.lib.cg.extents.filter fun e => e.session = x.id
          let range := (List.range (top + 1 - beNat first)).map fun k => k + beNat first
          let gone := range.filter fun o => !objectAvailable extents o
          let chain := (extents.filter fun e => range.any fun o => e.holdsObject o && objectAvailable extents o).map linkOf
          if x.state = .opened then s.turnedDown f .wrongState .empty
          else if top < beNat first then s.turnedDown f .badArgument .empty
          else match s.work.admitJob .restore (some x.id) (.label ((chain.head?.map Link.label).getD []))
              (.restore
                { firstObject := beNat first, lastObject := top, policy := policy, hint := hint, chain := chain,
                  link := none, nextObject := range.find? fun o => objectAvailable extents o, expect := 0, found := false,
                  objectOffset := 0, delivered := 0, substituted := 0, absent := gone.length, absentObjects := gone,
                  out := [], headOffset := 0, todo := [], fromHint := false, hinted := false, relocating := false,
                  stopped := false, filterFrom := beNat first, removed := [] }) [x.id] with
            | (_, none) => s.turnedDown f .queueFull .empty
            | (w, some n) =>
              let noted : W := { w with
                out := w.out ++ gone.map fun o => .chunkDamaged n x.id o 65535 0 .noExtent none 0 }
              s.answered f (if range = gone then noted.endJob n .done .incomplete else noted) (.restoreStarted n top))) ∧
  (∀ (s : State) (f : RequestFrame) (n : Byte), s.requests f 0x63 [n] → s.lib.mode ≠ .secured →
    (n ≠ 65#8 → n ≠ 66#8 → exec .startClean s = .next (s.turnedDown f .noSuchElement .empty)) ∧
    (∀ d, (n, d) ∈ [(65#8, Drive.d0), (66#8, .d1)] →
      exec .startClean s = .next (
        match s.lib.js.jobs.find? fun j => j.kind = .clean ∧ j.state.isFinished = false ∧ j.target = .drive d with
        | some j => s.turnedDown f .duplicate (.jobId j.id)
        | none =>
          match s.work.admitJob .clean none (.drive d) .clean [] with
          | (_, none) => s.turnedDown f .queueFull .empty
          | (w, some k) => s.answered f { w with js := { w.js with cleanNeed := w.js.cleanNeed.put d false } }
              (.jobId k)))) ∧
  (∀ (l : List ExtentRec) (o : Nat),
    let holds (e : ExtentRec) : Bool := e.firstObject.any (fun a => decide (a ≤ o)) && e.lastObject.any fun b => decide (o ≤ b)
    let held := l.filter holds
    (∀ e : ExtentRec, e.holdsObject o = holds e) ∧
    (objectAvailable l o = true ↔ held ≠ [] ∧
      (∀ (k : Nat) (a b : ExtentRec), held[k]? = some a → held[k + 1]? = some b → b.sequence = a.sequence + 1) ∧
      (∀ a, held.head? = some a → a.firstObject = some o → a.firstChunk = 0) ∧
      (∀ z, held.getLast? = some z → z.lastObject = some o → z.continues = true →
        ∃ e ∈ l, e.sequence = z.sequence + 1)))

/-- Dispatch (R74 to R78): in ONLINE alone, the jobs that wait in the order of class and `seq`; which drive is free and which
cartridge available; a BACKUP's choice, OPEN before BLANK before NEW, the fullest OPEN one, then the lowest home; the cartridge
a label names; a CLEAN's choice; the drive that holds the cartridge, then an EMPTY one, then one that can be cleared; and what
becomes of the job. What a waiting job may make yield is `maybeYield` (R84). -/
def Obligations.DispatchServesTheJobsInOrder : Prop :=
  (∀ w : W, w.mode ≠ .online → w.dispatch = w) ∧
  (∀ w : W, w.mode = .online → (∀ j ∈ w.js.jobs, j.seq ≤ 2 ^ 64 - 1) →
    let waits (j : Job) : Bool :=
      (decide (j.state = .queued) || (decide (j.state = .waiting) && decide (j.waitReason ≠ some .catalog))) &&
        !j.abortPending && !(j.backup?.any BackupData.truncating)
    let rank (k : JobKind) : Nat := match k with
      | .restore => 1
      | .clean => 2
      | .backup => 3
      | .verify => 4
    ∃ l : List Job, l.Perm (w.js.jobs.filter waits) ∧
      (l.Pairwise fun a b => rank a.kind < rank b.kind ∨ (a.kind = b.kind ∧ a.seq ≤ b.seq)) ∧
      w.dispatch = (l.map Job.id).foldl W.dispatchOne w) ∧
  (∀ (w : W) (j : Job) (d : Drive),
    let p := w.port d
    (w.driveFree j d = true ↔
      p.state ∈ [PortState.empty, .holding, .ready] ∧ p.recovered = false ∧ w.driveClaim d = none ∧
      (p.cartridge ≠ .none → ∀ m, w.cc.current = some (.move m) → m.source ≠ .drive d) ∧
      (∀ i, p.cartridge = .cart i → w.claimOf i = none ∧ i ∉ w.js.returning) ∧
      (j.kind ≠ .clean → ((w.stream d).job = none ∨ (w.stream d).job = some j.id) ∧
        ∀ k ∈ w.js.jobs, k.kind = .clean → k.target = .drive d → k.state.isFinished = true) ∧
      (j.kind = .clean → j.target = .drive d))) ∧
  (∀ (w : W) (j : Job) (i : Nat), w.available j i = true ↔ ∃ c, w.cart i = some c ∧ c.claim = none ∧ i ∉ w.js.returning ∧
    ((∃ n, c.location = some (.slot n) ∧ (w.slotAt (.slot n)).state = .occupied ∧ (w.slotAt (.slot n)).holder = some i ∧
        ∀ m, w.cc.current = some (.move m) → m.source ≠ .slot n) ∨
      ∃ d, c.location = some (.drive d) ∧ w.driveFree j d = true ∧
        ∀ m, w.cc.current = some (.move m) → m.source ≠ .drive d)) ∧
  (∀ (w : W) (j : Job),
    let place (i : Nat) (c : CartRec) : Nat := c.home.getD (100 + i)
    let used (c : CartRec) : Nat := match c.blocksUsed with
      | .known n => n
      | .unknown => 0
      | .absent => 0
    let group (c : CartRec) : Nat := if c.state = .opened then 0 else if c.state = .blank then 1 else 2
    (∀ p, j.target = .pool p →
      (∀ i c, w.cart i = some c → used c ≤ 10000000 ∧ place i c < 1000) →
      let fits (i : Nat) (c : CartRec) : Prop := i < 64 ∧ w.cart i = some c ∧
        c.state ∈ [MediaState.opened, .blank, .new] ∧ (c.kind = some .a ∨ c.kind = some .b) ∧ c.pool = p ∧
        c.writeProtect ≠ .yes ∧ w.available j i = true
      ((∃ i, w.chooseCart j = .cart i) ∨ (w.chooseCart j = .missing ∧ ∀ i c, ¬fits i c)) ∧
      (∀ i, w.chooseCart j = .cart i → ∃ c, fits i c ∧ ∀ k e, fits k e →
        group c < group e ∨ (group c = group e ∧
          ((group c = 0 ∧ used e < used c) ∨ ((group c ≠ 0 ∨ used e = used c) ∧ place i c ≤ place k e))))) ∧
    (∀ l, j.target = .label l →
      (w.cartByLabel l = none → w.chooseCart j = .missing) ∧
      (∀ i c, w.cartByLabel l = some i → w.cart i = some c →
        w.chooseCart j =
          if c.location = none then .missing
          else if c.kind ≠ some .a ∧ c.kind ≠ some .b then .wrong
          else if w.available j i = true then .cart i else .taken)) ∧
    (∀ d, j.target = .drive d →
      let fits (i : Nat) (c : CartRec) : Prop := i < 64 ∧ w.cart i = some c ∧ c.kind = some .clean ∧ c.state = .cleaning ∧
        0 < c.usesLeft.getD 0 ∧ w.available j i = true
      ((∃ i, w.chooseCart j = .cart i) ∨ (w.chooseCart j = .missing ∧ ∀ i c, ¬fits i c)) ∧
      (∀ i, w.chooseCart j = .cart i → ∃ c, fits i c ∧ (c.location = some (.drive d) ∨
        ∀ k e, fits k e → e.location ≠ some (.drive d) ∧ place i c ≤ place k e)))) ∧
  (∀ (w : W) (j : Job) (i : Nat),
    let able : List Drive := (match j.target with
      | .drive d => [d]
      | .label _ => [Drive.d0, .d1]
      | .pool _ => match j.stream with
        | some d => if (w.port d).state ∈ [PortState.absent, .init, .faulted] then [otherDrive d] else [d]
        | none => [Drive.d0, .d1]).filter (w.driveFree j)
    w.chooseDrive j i = ((able.find? fun d => (w.port d).cartridge = .cart i).or
      (able.find? fun d => (w.port d).state = .empty)).or
      (able.find? fun d => match (w.port d).cartridge with
        | .cart k => decide (w.claimOf k = none) && (w.homeOf k).isSome
        | .untracked => false
        | .none => false)) ∧
  (∀ (w : W) (n : Nat) (j : Job), w.job n = some j →
    (w.chooseCart j = .wrong → w.dispatchOne n = w.endJob n .failed .wrongMedia) ∧
    (w.chooseCart j = .missing → w.dispatchOne n = (w.waitMedia n (match j.target with
      | .pool p => .pool p
      | .label l => .label l
      | .drive _ => .cleaning)).maybeYield n) ∧
    (w.chooseCart j = .taken → w.dispatchOne n =
      ((w.waitFor n .media).modJob n fun k => { k with mediaAsked := false }).maybeYield n) ∧
    (∀ i, w.chooseCart j = .cart i →
      (w.chooseDrive j i = none → w.dispatchOne n = (w.waitFor n .drive).maybeYield n) ∧
      (∀ d, w.chooseDrive j i = some d →
        let barred : Prop := w.locationOf i ≠ some (.drive d) ∧
          w.cc.state ∈ [ChangerState.faultHold, .locked, .held, .unhomed]
        (barred → w.dispatchOne n = w.waitFor n .changer) ∧
        (¬barred → w.dispatchOne n = w.startMount n d i ∧ (w.dispatchOne n).driveClaim d = some n ∧
          (w.dispatchOne n).claimOf i = some n))))

/-- The steps of a mount (R79 to R81): another cartridge is unloaded and moved home first, the cartridge is brought, loaded, a
NEW one probed, and the tape positioned, a Locate that fails being tried once more. A cartridge that lies threaded in the other
drive is unloaded there before it is brought (R57). The probe's Read Block uses a buffer of the drive's stream, READING until it
has ended (R80). The probe's result is noted, and extents beyond the end found are removed (R157); a BACKUP puts away a
cartridge it cannot use. A failed move releases both claims and the job waits, for MEDIA or for the CHANGER by the reason. The
model's: the Unload in the other drive is a step of the mount (log entry 51), the probe takes the first FREE buffer (log entry
49), the JOB move expects the label of the cartridge's record (log entry 24) and bears a ticket (log entry 4). -/
def Obligations.TheMountTakesItsSteps : Prop :=
  (∀ (w : W) (n : Nat) (j : Job) (d : Drive) (i : Nat), w.job n = some j → j.drive = some d → j.cartridge = some i →
    let p := w.port d
    let at_ (x : MountStep) : W := w.modJob n fun k => { k with mountStep := some x }
    let next := w.mountNext n
    (p.cartridge ≠ .none → p.cartridge ≠ .cart i → next =
      if p.state = .ready then ((at_ .clearUnload).requestOp d .unload (.job n)).1
      else w.issueJobMove n (.drive d) .home (w.portCart d) .clearMove) ∧
    (∀ e, p.cartridge = .none → w.locationOf i = some e → (∀ o, e = .drive o → (w.port o).state ≠ .ready) →
      next = w.issueJobMove n e (.element (.drive d)) (some i) .bring) ∧
    (∀ o, p.cartridge = .none → w.locationOf i = some (.drive o) → (w.port o).state = .ready →
      next = ((at_ .bringUnload).requestOp o .unload (.job n)).1) ∧
    (p.cartridge = .cart i →
      (p.state = .holding → next = ((at_ .load).requestOp d .load (.job n)).1) ∧
      (p.state = .ready → j.kind = .clean →
        next = (((w.modJob n fun k => { k with mountStep := none }).setJob n .running none).requestOp d .clean (.job n)).1) ∧
      (p.state = .ready → j.kind ≠ .clean → next =
        if w.mediaOf i = some .new then ((at_ (.probeLocate false)).requestOp d (.locate 0) (.job n)).1
        else ((at_ (.position false)).requestOp d (.locate (w.startBlock j i)) (.job n)).1))) ∧
  (∀ (w : W) (n : Nat) (source : Element) (asked : Dest) (i : Nat) (x : MountStep),
    let t := w.js.nextTicket
    let w1 : W := { (w.modJob n fun j => { j with ticket := some t, mountStep := some x }) with cc := w.cc }
    let js1 := { w1.js with nextTicket := t + 1 }
    w.issueJobMove n source asked (some i) x =
      if w.js.heldMoves = [] ∧ (w.cc.queue.filter fun m => m.origin ≠ .recovery).length < 8 then
        { w1 with js := js1, cc := { w.cc with
          nextId := if w.cc.nextId = 65535 then 1 else w.cc.nextId + 1,
          queue := w.cc.queue ++
            [{ id := w.cc.nextId, origin := .job n, source := source, asked := asked, dest := none,
               expectedLabel := w.labelOf i, attempts := 0, faulted := false, putAway := none, tried := [], ticket := t,
               cart := some i }] } }
      else { w1 with js := { js1 with heldMoves := w.js.heldMoves ++
        [{ origin := .job n, source := source, asked := asked, expectedLabel := w.labelOf i, ticket := t,
           cart := some i }] } }) ∧
  (∀ (w : W) (n : Nat) (j : Job) (d : Drive) (i : Nat) (x : MountStep), w.job n = some j → j.state.isFinished = false →
    w.driveClaim d = some n → j.mountStep = some x → j.cartridge = some i → j.abortPending = false →
    (∀ b, j.progress = .backup b → b.truncating = false) →
    let told (op : PortOp) (r : OpOutcome) : W := w.takeSignal (.opDone d (.job n) op r)
    let at_ (v : W) (y : MountStep) : W := v.modJob n fun k => { k with mountStep := some y }
    let asks (y : MountStep) (op : PortOp) : W := ((at_ w y).requestOp d op (.job n)).1
    let s := w.stream d
    let t := if w.kindOf i = some .a then 2460938 else if w.kindOf i = some .b then 5906250 else 0
    (x = .clearUnload → told .unload .ok = w.issueJobMove n (.drive d) .home (w.portCart d) .clearMove) ∧
    (∀ protect, x = .load → j.drive = some d → (w.port d).cartridge = .cart i → told .load (.okProtected protect) =
      if protect = true ∧ j.kind = .backup then asks .awayUnload .unload else w.mountNext n) ∧
    (∀ retried, x = .probeLocate retried →
      (let k : BufId := if s.bufA.state = .free then .a else if s.bufB.state = .free then .b else .a
       told (.locate 0) .ok =
        if (at_ w .probeRead).opRefusal d (.probeRead k) = none then
          { asks .probeRead (.probeRead k) with
            streams := w.streams.put d (s.putBuf k { state := .reading, index := 0, frames := [], data := [] }) }
        else asks .probeRead (.probeRead k)) ∧
      told (.locate 0) .readError =
        if retried then w.probeResult n d i .foreign none else asks (.probeLocate true) (.locate 0)) ∧
    (∀ k, x = .probeRead →
      let v : W := { w with streams := w.streams.put d (if (s.buf k).state = .reading then s.putBuf k freeBuffer else s) }
      told (.probeRead k) .endMark = v.probeResult n d i .blank (some 0) ∧
      told (.probeRead k) (.blank 0) = v.probeResult n d i .blank (some 0) ∧
      told (.probeRead k) .readError = v.probeResult n d i .foreign none ∧
      (∀ block, told (.probeRead k) (.okBlock block) =
        match headerAt block 0 with
        | .good h =>
          if h.kind = 3 then ((at_ v .probeEnd).requestOp d .locateEnd (.job n)).1 else v.probeResult n d i .foreign none
        | .bad => v.probeResult n d i .foreign none
        | .pad => v.probeResult n d i .foreign none)) ∧
    (x = .probeEnd →
      told .locateEnd .readError = w.probeResult n d i .foreign none ∧
      (∀ c, told .locateEnd (.okCount c) =
        if c < t then w.probeResult n d i .opened (some c)
        else if c ≤ t + 1 then w.probeResult n d i .full (some c) else w.probeResult n d i .foreign none)) ∧
    (∀ b retried, x = .position retried →
      told (.locate b) .ok = w.mountDone n ∧
      told (.locate b) .readError =
        if retried = false then asks (.position true) (.locate b)
        else if j.kind = .backup then
          (w.modJob n fun k => { k with mountStep := none }).callTruncation n (.failed, .position)
        else (w.modJob n fun k => { k with mountStep := none }).endJob n .failed .position)) ∧
  (∀ (w : W) (n : Nat) (j : Job) (o : Drive) (i : Nat), w.job n = some j → j.state.isFinished = false →
    j.mountStep = some .bringUnload → j.cartridge = some i → w.locationOf i = some (.drive o) → j.abortPending = false →
    (∀ b, j.progress = .backup b → b.truncating = false) →
    w.takeSignal (.opDone o (.job n) .unload .ok) = w.mountNext n) ∧
  (∀ (w : W) (n : Nat) (j : Job) (d : Drive) (i : Nat) (c : CartRec) (state : MediaState) (used : Option Nat),
    w.job n = some j → w.cart i = some c →
    let t := w.probeResult n d i state used
    t.mediaOf i = some state ∧
    (∀ u, used = some u → t.knownUsed i = some u ∧
      ∀ e ∈ t.cg.extents, e.cartridge = i → e.firstBlock + e.blockCount ≤ u) ∧
    (used = none → t.knownUsed i = w.knownUsed i ∧ t.cg = w.cg) ∧
    (t.job n).bind Job.mountStep = some
      (if j.kind = .backup ∧ (state = .full ∨ state = .foreign) then .awayUnload else .position false)) ∧
  (∀ (w : W) (n ticket : Nat) (j : Job) (r : Reason) (cart : Option Nat), w.job n = some j → j.ticket = some ticket →
    j.mountStep = some .clearMove ∨ j.mountStep = some .bring → j.abortPending = false →
    (∀ b, j.progress = .backup b → b.truncating = false) →
    let t := w.takeSignal (.moveEnded (.job n) ticket r cart)
    (r = .ok → t = { (w.modJob n fun k => { k with ticket := none }) with dispatchDue := true }.mountNext n) ∧
    (r ≠ .ok → (t.job n).map Job.state = some .waiting ∧
      (t.job n).bind Job.waitReason = some
        (if r ∈ [Reason.sourceEmpty, .labelMismatch, .claimed] then .media else .changer) ∧
      (t.job n).bind Job.drive = none ∧ (t.job n).bind Job.cartridge = none ∧ (t.job n).bind Job.mountStep = none ∧
      (∀ d, j.drive = some d → t.driveClaim d ≠ some n) ∧ (∀ i, j.cartridge = some i → t.claimOf i ≠ some n)))

/-- ABORT JOB (R88, R125, R183): NO-SUCH-JOB, WRONG-STATE for a finished job; a second abort changes nothing; otherwise the
reply carries the state at the reply and the abort takes its course: a BACKUP's truncation is called, a running VERIFY or
RESTORE comes to rest, a running CLEAN goes on, and a job that waits ends ABORTED with result HOST. Of a RESTORE only a decoding
in flight is still taken (R183); what was still to be added as a substitute is dropped, which is the model's (log entry 31). How
a reader at rest ends, an abort of a reader that is stopping already, and a BACKUP without a stream are not stated here. A MOUNTING job waits for the move or the operation in
flight; with none, its mount stops, and a cartridge it leaves in HOLDING gets its RETURN move, in the drive it lay in too (log
entry 51). The truncation discards the intake but for the chunk being coded. The model's (log entry
29): a call takes back the closing's wait for its blocks to be written, which the procedure writes itself. -/
def Obligations.JobsAreAborted : Prop :=
  (∀ (s : State) (f : RequestFrame) (n : Byte), s.requests f 0x61 [n] →
    let w : W := s.work.modJob n.toNat fun k => { k with abortPending := true }
    (s.work.job n.toNat = none → exec .abortJob s = .next (s.turnedDown f .noSuchJob .empty)) ∧
    (∀ j, s.work.job n.toNat = some j →
      (j.state.isFinished = true → exec .abortJob s = .next (s.turnedDown f .wrongState .empty)) ∧
      (j.state.isFinished = false → j.abortPending = true →
        exec .abortJob s = .next (s.answered f s.work (.jobState j.state))) ∧
      (j.state.isFinished = false → j.abortPending = false →
        (∀ b, j.progress = .backup b →
          exec .abortJob s = .next (s.answered f (w.callTruncation n.toNat (.aborted, .host)) (.jobState j.state))) ∧
        (j.progress = .clean → j.state = .running → exec .abortJob s = .next (s.answered f w (.jobState .running))) ∧
        (∀ d, (∃ v, j.progress = .verify v) → j.state = .running → j.stream = some d → j.endAs = none →
          (∀ k ∈ s.lib.js.jobs, k.id = n.toNat → k = j) →
          exec .abortJob s = .next (s.answered f
            { (w.modJob n.toNat fun k => { k with endAs := some (.aborted, .host), yielding := false }) with
                streams := s.lib.streams.put d { s.work.stream d with stopping := some .abort },
                signals := s.lib.signals ++ [.parse d] } (.jobState .running))) ∧
        (∀ d r, j.progress = .restore r → j.state = .running → j.stream = some d → j.endAs = none →
          (∀ k ∈ s.lib.js.jobs, k.id = n.toNat → k = j) →
          exec .abortJob s = .next (s.answered f
            { (w.modJob n.toNat fun k => { k with
                endAs := some (.aborted, .host), yielding := false,
                progress := .restore { r with
                  todo := [], stopped := r.stopped || !(s.lib.coder.busy.any fun b => decide (b.job = n.toNat)) } }) with
                streams := s.lib.streams.put d { s.work.stream d with stopping := some .abort },
                signals := s.lib.signals ++ [.parse d] } (.jobState .running))) ∧
        ((∀ b, j.progress ≠ .backup b) → j.state = .mounting →
          let own (m : HeldMove) : Bool := decide (m.origin = .job n.toNat)
          let x : W := if s.lib.js.heldMoves.any own then
              { (w.modJob n.toNat fun k => { k with ticket := none }) with js := { s.lib.js with
                heldMoves := s.lib.js.heldMoves.filter fun m => !own m,
                jobs := (w.modJob n.toNat fun k => { k with ticket := none }).js.jobs } }
            else w
          let works : Prop := (s.lib.js.heldMoves.any own = false ∧ j.ticket.isSome = true) ∨
            ∃ d, (j.drive = some d ∨ (j.mountStep = some .bringUnload ∧
                ∃ i, j.cartridge = some i ∧ s.work.locationOf i = some (.drive d))) ∧
              (s.work.port d).pending.map PendingOp.requester = some (.job n.toNat)
          (works → exec .abortJob s = .next (s.answered f x (.jobState .mounting))) ∧
          (¬works → exec .abortJob s = .next (s.answered f (x.mountStops n.toNat) (.jobState .mounting)))) ∧
        ((∀ b, j.progress ≠ .backup b) → j.state ∈ [JobState.queued, .waiting, .held] →
          exec .abortJob s = .next (s.answered f (w.endJob n.toNat .aborted .host) (.jobState j.state)))))) ∧
  (∀ (w : W) (n : Nat) (j : Job), w.job n = some j → j.kind ≠ .backup →
    let x := (w.modJob n fun k => { k with mountStep := none }).endJob n .aborted .host
    let left (d : Drive) : Prop := (j.drive = some d ∨ ∃ i, j.cartridge = some i ∧ w.locationOf i = some (.drive d)) ∧
      (x.port d).state = .holding ∧ x.driveClaim d = none ∧ ∀ i, x.portCart d = some i → x.claimOf i = none
    (¬left .d0 → ¬left .d1 → w.mountStops n = x) ∧
    (left .d0 → ¬left .d1 → w.mountStops n = x.issueReturn .d0) ∧
    (¬left .d0 → left .d1 → w.mountStops n = x.issueReturn .d1) ∧
    (left .d0 → left .d1 → w.mountStops n = (x.issueReturn .d0).issueReturn .d1)) ∧
  (∀ (w : W) (n : Nat) (j : Job) (b : BackupData) (d : Drive) (how : JobState × JobResult), w.job n = some j →
    j.progress = .backup b → j.stream = some d → b.truncating = false →
    (w.callTruncation n how).backupData n = some { b with
        truncating := true, truncEnd := some how, openObject := none,
        ending := if b.ending = some .closeWrite then none else b.ending } ∧
      (w.callTruncation n how).stream d = { w.stream d with
        intake := (w.stream d).intake.filter fun c => c.state = .coding, openObject := none, markerWait := none } ∧
      (w.callTruncation n how).out = w.out ∧ (w.callTruncation n how).cg = w.cg ∧
      (w.callTruncation n how).signals = w.signals ++ [.advance n]) ∧
  (∀ (w : W) (n : Nat) (j : Job) (r : JobResult), w.job n = some j → j.state.isFinished = false → j.kind ≠ .verify →
    ((w.endJob n .aborted r).job n).map Job.state = some .aborted ∧
      ((w.endJob n .aborted r).job n).bind Job.result = some r ∧
      ((w.endJob n .aborted r).job n).map Job.pins = some [] ∧
      ((w.endJob n .aborted r).job n).bind Job.drive = none ∧
      ((w.endJob n .aborted r).job n).bind Job.cartridge = none)

/-- A clean request (R86): a CLEAN job is admitted unless an unfinished one names the drive, and the need is kept when no record
can be had; an admission meets the need. CLEAN_ADMISSION_RETRY: with a need kept the CLEAN job is admitted; without one, or while
no record can be had, nothing happens. The model's (log entry 35): the need is dropped when the request is gone or a CLEAN job names the drive
already. JOB INFO and RELEASE JOB (R89): one job's fields or all jobs by `seq`; a finished job's record is freed. -/
def Obligations.JobsAreListedAndReleased : Prop :=
  (∀ (w : W) (d : Drive),
    let need (v : W) (b : Bool) : W := { v with js := { v.js with cleanNeed := v.js.cleanNeed.put d b } }
    w.takeSignal (.cleanAsked d) =
      if (w.js.jobs.any fun j => j.kind = .clean ∧ j.state.isFinished = false ∧ j.target = .drive d) = true then w
      else match w.admitJob .clean none (.drive d) .clean [] with
        | (_, none) => need w true
        | (v, some _) => need v false) ∧
  (∀ (s : State) (d : Drive),
    (s.lib.js.cleanNeed.get d = false → exec (.cleanAdmissionRetry d) s = .next (s.putWork s.work)) ∧
    (s.lib.js.cleanNeed.get d = true →
      exec (.cleanAdmissionRetry d) s = .next (s.putWork (
        if (s.work.port d).cleanRequest = false ∨ (s.lib.js.jobs.any fun j =>
            j.kind = .clean ∧ j.state.isFinished = false ∧ j.target = .drive d) = true then
          { s.work with js := { s.lib.js with cleanNeed := s.lib.js.cleanNeed.put d false } }
        else match s.work.admitJob .clean none (.drive d) .clean [] with
          | (_, none) => s.work
          | (w, some _) => { w with js := { w.js with cleanNeed := s.lib.js.cleanNeed.put d false } })))) ∧
  (∀ (s : State) (f : RequestFrame) (n : Byte), s.requests f 0x60 [n] →
    exec .jobInfo s = .next (
      if n = 0#8 then s.reported f (.jobs ((sortBy Job.seq s.lib.js.jobs).map fun j =>
        { id := j.id, kind := j.kind, state := j.state, waitReason := j.waitReason, drive := j.drive,
          result := j.result }))
      else match s.lib.js.jobs.find? fun j => j.id = n.toNat with
        | some j => s.reported f (.job j (j.cartridge.bind s.work.labelOf))
        | none => s.turnedDown f .noSuchJob .empty)) ∧
  (∀ l : List Job, (sortBy Job.seq l).Perm l ∧ (sortBy Job.seq l).Pairwise fun a b => a.seq ≤ b.seq) ∧
  (∀ (s : State) (f : RequestFrame) (n : Byte), s.requests f 0x62 [n] →
    exec .releaseJob s = .next (
      match s.lib.js.jobs.find? fun j => j.id = n.toNat with
      | none => s.turnedDown f .noSuchJob .empty
      | some j =>
        if j.state.isFinished then s.answered f { s.work with
          js := { s.lib.js with jobs := s.lib.js.jobs.filter fun k => k.id ≠ n.toNat } } .empty
        else s.turnedDown f .wrongState .empty))

/-! ## Backup sessions and the intake (R111 to R113, R130 to R132, R142) -/

/-- BEGIN OBJECT, END OBJECT and CLOSE SESSION (R113, R130, R132, R142): their checks in order; an object takes the next number
and the settings' snapshot; its end makes the last chunk final, or adds an empty one; a session with no open object begins to
close. -/
def Obligations.ObjectsAreBegunAndEnded : Prop :=
  (∀ (s : State) (f : RequestFrame) (n : Byte), s.requests f 0x41 [n] →
    let set := settingOf s.settings.working
    exec .beginObject s = .next (match s.work.job n.toNat with
      | none => s.turnedDown f .noSuchJob .empty
      | some j => match j.backup? with
        | none => s.turnedDown f .wrongState .empty
        | some b =>
          if j.state.isFinished ∨ j.abortPending ∨ b.closing ∨ b.truncating ∨ b.openObject.isSome then
            s.turnedDown f .wrongState .empty
          else if 16777215 ≤ b.objectsBegun then s.turnedDown f .tooLarge .empty
          else
            let o := b.objectsBegun + 1
            let snap : Snapshot := { mode := b.snapshot.mode, gain := set 1, storedRun := set 2, skip := set 3 }
            let w := (s.work.modBackup n.toNat fun x =>
              { x with objectsBegun := o,
                       openObject := some { object := o, bytesAccepted := 0, snapshot := snap } }).modSession
              (j.sessionId.getD 0) fun x => { x with objectsBegun := o }
            s.answered f (match j.stream with
              | some d => { w with streams := s.lib.streams.put d { s.work.stream d with
                  openObject := some { object := o, snapshot := snap, nextChunk := 0, secureNow := false } } }
              | none => w) (.objectNumber o))) ∧
  (∀ (s : State) (f : RequestFrame) (n secure : Byte), s.requests f 0x43 [n, secure] →
    exec .endObject s = .next (match s.work.job n.toNat with
      | none => s.turnedDown f .noSuchJob .empty
      | some j =>
        if 1 < secure.toNat then s.turnedDown f .badArgument .empty
        else match j.backup? with
        | none => s.turnedDown f .wrongState .empty
        | some b =>
          if j.state.isFinished ∨ j.abortPending ∨ b.truncating then s.turnedDown f .wrongState .empty
          else match b.openObject with
          | none => s.turnedDown f .wrongState .empty
          | some o => match j.stream with
            | none => s.turnedDown f .full .empty
            | some d =>
              let x := s.work.stream d
              let tail : Option Chunk := x.intake.getLast?.filter fun c => c.state = .filling ∨ c.state = .full
              if tail = none ∧ 4 ≤ x.intake.length then s.turnedDown f .full .empty
              else
                let ended : List Chunk := match tail, x.openObject with
                  | some c, _ => x.intake.dropLast ++
                      [{ c with state := .closed, final := true, secureNow := decide (secure = 1#8) }]
                  | none, some k => x.intake ++
                      [{ state := .closed, session := j.sessionId.getD 0, object := k.object, index := k.nextChunk,
                         data := [], snapshot := k.snapshot, final := true, secureNow := decide (secure = 1#8) }]
                  | none, none => x.intake
                s.answered f { (s.work.modBackup n.toNat fun y => { y with openObject := none }) with
                  streams := s.lib.streams.put d { x with intake := ended, openObject := none },
                  signals := s.lib.signals ++ [.advance n.toNat] } (.objectEnded o.object o.bytesAccepted))) ∧
  (∀ (s : State) (f : RequestFrame) (n : Byte), s.requests f 0x44 [n] →
    exec .closeSession s = .next (match s.work.job n.toNat with
      | none => s.turnedDown f .noSuchJob .empty
      | some j => match j.backup? with
        | none => s.turnedDown f .wrongState .empty
        | some b =>
          if j.state.isFinished ∨ j.abortPending ∨ b.closing ∨ b.truncating ∨ b.openObject.isSome then
            s.turnedDown f .wrongState .empty
          else s.answered f { (s.work.modBackup n.toNat fun x => { x with closing := true }) with
            signals := s.lib.signals ++ [.advance n.toNat] } .empty))

/-- WRITE DATA (R111, R112, R131, R195): its checks in order; accepted data goes into the intake behind what is there, in
chunks of at most 16,368 bytes with consecutive indices; no more than four buffers hold it, and the room shrinks by its
length. -/
def Obligations.AcceptedDataFillsTheIntake : Prop :=
  (∀ (s : State) (f : RequestFrame) (n hi lo : Byte) (data : List Byte), s.requests f 0x42 (n :: hi :: lo :: data) →
    hi.toNat * 256 + lo.toNat = data.length →
    exec .writeData s = .next (
      if data = [] ∨ 4096 < data.length then s.turnedDown f .badArgument .empty
      else match s.work.job n.toNat with
      | none => s.turnedDown f .noSuchJob .empty
      | some j => match j.backup? with
        | none => s.turnedDown f .wrongState .empty
        | some b =>
          if j.state.isFinished ∨ j.abortPending ∨ b.truncating then s.turnedDown f .wrongState .empty
          else match b.openObject with
          | none => s.turnedDown f .wrongState .empty
          | some o =>
            if 1072693248 < o.bytesAccepted + data.length then s.turnedDown f .tooLarge .empty
            else match j.stream with
            | none => s.turnedDown f .full .empty
            | some d =>
              if (s.work.stream d).room < data.length then s.turnedDown f .full .empty
              else s.answered f { (s.work.modBackup n.toNat fun x => { x with
                  openObject := x.openObject.map fun y =>
                    { y with bytesAccepted := y.bytesAccepted + data.length } }) with
                streams := s.lib.streams.put d
                  (Stream.accept (data.length + 2) (j.sessionId.getD 0) data (s.work.stream d)) } .empty)) ∧
  (∀ x : Stream, x.room = (match x.intake.getLast? with
      | some c => if c.state = .filling then 16368 - c.data.length else 0
      | none => 0) + 16368 * (4 - x.intake.length)) ∧
  (∀ (x : Stream) (o : StreamObject) (session : Nat) (data : List Byte), x.openObject = some o → data.length ≤ x.room →
    x.intake.length ≤ 4 → (∀ c ∈ x.intake, c.data.length ≤ 16368) →
    let t := Stream.accept (data.length + 2) session data x
    (t.intake.map Chunk.data).flatten = (x.intake.map Chunk.data).flatten ++ data ∧ t.intake.length ≤ 4 ∧
      (∀ c ∈ t.intake, c.data.length ≤ 16368) ∧ t.room = x.room - data.length ∧
      (∃ k, t.openObject = some { o with nextChunk := o.nextChunk + k } ∧
        t.intake.length = x.intake.length + k ∧
        (t.intake.drop x.intake.length).map Chunk.index = (List.range k).map fun i => o.nextChunk + i) ∧
      (∀ c ∈ t.intake.drop x.intake.length, c.session = session ∧ c.object = o.object ∧ c.snapshot = o.snapshot ∧
        c.final = false) ∧
      { t with intake := x.intake, openObject := x.openObject } = x)

/-- READ DATA (R120, R182, R183, R195): NO-SUCH-JOB, WRONG-STATE for another kind of job; otherwise the next bytes of the head
entry, at most the maximum asked for kept within 1 to 4,096, with its object, its offset and its flags; an entry used up
leaves, and the last one taken ends the job. -/
def Obligations.RestoredDataIsReadOut : Prop :=
  ∀ (s : State) (f : RequestFrame) (n hi lo : Byte), s.requests f 0x52 [n, hi, lo] →
    (s.work.job n.toNat = none → exec .readData s = .next (s.turnedDown f .noSuchJob .empty)) ∧
    (∀ j, s.work.job n.toNat = some j → j.restore? = none →
      exec .readData s = .next (s.turnedDown f .wrongState .empty)) ∧
    (∀ j r, s.work.job n.toNat = some j → j.progress = .restore r → j.kind = .restore →
      let most := max 1 (min 4096 (hi.toNat * 256 + lo.toNat))
      let finish (x : RestoreData) : W :=
        let w := s.work.modRestore n.toNat fun _ => x
        if x.nextObject = none ∧ x.out = [] then
          w.endJob n.toNat .done (if x.substituted = 0 ∧ x.absent = 0 then .ok
            else if 0 < x.absent then .incomplete else .damaged)
        else w
      let last (x : RestoreData) : Bool :=
        decide (x.out = []) && (j.state.isFinished || decide (x.nextObject = none))
      (r.out = [] → exec .readData s = .next (s.answered f (finish r) (.data
        { object := 0, offset := 0, endOfObject := false, damaged := false, endOfJob := last r, data := [] }))) ∧
      (∀ e rest, r.out = e :: rest →
        let part := (e.data.drop r.headOffset).take most
        let used : Bool := decide (e.data.length ≤ r.headOffset + part.length)
        let x : RestoreData := { r with
          out := if used then rest else e :: rest, headOffset := if used then 0 else r.headOffset + part.length }
        exec .readData s = .next (s.answered f (finish x) (.data
          { object := e.object, offset := e.offset + r.headOffset, endOfObject := used && e.endOfObject,
            damaged := e.damaged, endOfJob := last x, data := part }))))

/-! ## The chunk coder (R91 to R109) -/

/-- The arbiter (R106, R107): a running stream asks for the coder when its BACKUP has a CLOSED chunk and room for a largest
frame, its VERIFY or RESTORE a frame presented and, for a RESTORE, a free place; the coder goes to the stream that asks, of two
to the one not served last; an encoding marks the oldest CLOSED chunk CODING and installs its snapshot, a decoding takes the
frame presented. A busy coder, or no stream asking, changes nothing. -/
def Obligations.TheCoderIsGranted : Prop :=
  (∀ (w : W) (d : Drive) (j : Job), (w.stream d).job = some j.id → w.job j.id = some j →
    let x := w.stream d
    let frameRoom : Prop := x.attached ≠ none ∧ x.carry = [] ∧ x.markerWait = none ∧
      (x.bufA.state = .free ∨ x.bufB.state = .free ∨
        (match x.bufIn .opened with
         | some i => ((x.buf i).frames.map fun f => 16 + f.payload.length).sum + 16384 ≤ 65536
         | none => False))
    (w.requestsCoder d = true ↔ x.enable = true ∧ w.gateOpen = true ∧ (match j.progress with
      | .backup _ => (∃ c ∈ x.intake, c.state = .closed) ∧ frameRoom
      | .verify _ => x.presented ≠ none ∧ j.state = .running
      | .restore r => x.presented ≠ none ∧ j.state = .running ∧ r.out.length < 4
      | .clean => False))) ∧
  (∀ s : State, s.lib.coder.busy ≠ none ∨ (s.work.requestsCoder .d0 = false ∧ s.work.requestsCoder .d1 = false) →
    exec .coderGrant s = .next (s.putWork s.work)) ∧
  (∀ (s : State) (d : Drive) (j : Job), s.lib.coder.busy = none → s.work.requestsCoder d = true →
    s.work.requestsCoder (otherDrive d) = false ∨ s.lib.coder.lastServed = otherDrive d →
    (s.work.stream d).job = some j.id → s.work.job j.id = some j →
    let x := s.work.stream d
    (∀ b before c after, j.kind = .backup → j.progress = .backup b → x.intake = before ++ c :: after →
      c.state = .closed → (∀ e ∈ before, e.state ≠ .closed) →
      exec .coderGrant s = .next (s.putWork { (s.work.modBackup j.id fun y =>
          { y with coding := y.coding.map fun cs => installSnapshot cs c.object c.snapshot }) with
        streams := s.lib.streams.put d { x with intake := before ++ { c with state := .coding } :: after },
        coder := { busy := some { stream := d, job := j.id, work := .encoding }, lastServed := d } })) ∧
    (∀ p i, j.kind = .verify ∨ j.kind = .restore → x.presented = some p → x.bufIn .parsing = some i →
      exec .coderGrant s = .next (s.putWork { s.work with
        coder := { busy := some { stream := d, job := j.id,
                                  work := .decoding (x.buf i).index p.header
                                    (bytesAt (x.buf i).data (p.offset + 16) p.header.payloadLength) },
                   lastServed := d } })))

/-- The end of a coding (R95, R99 to R102, R105, R108, R114): an encoding makes the frame, adapts the coding state and counts
the chunk, and hands the frame to block assembly; a decoding hands its result to the job's rules and the parser goes on behind
the frame. The adaptive state moves by the table of R100. The model's (log entry 1): a completion with no coding in progress
changes nothing. -/
def Obligations.CodingsEnd : Prop :=
  (∀ (s : State) (d e : Drive) (n : Nat) (j : Job) (b : BackupData) (c : Chunk) (cs : CodingState) (snap : Snapshot),
    s.lib.coder.busy = some { stream := e, job := n, work := .encoding } → s.work.job n = some j → j.stream = some d →
    j.progress = .backup b → (s.work.stream d).intake.find? (fun x => x.state = .coding) = some c →
    b.coding = some cs → cs.installed = some snap →
    let frame := encodeChunk snap cs.phase c
    let searched : Bool := decide (c.data ≠ []) &&
      (decide (snap.mode = .pack) || (decide (snap.mode = .auto) && decide (cs.phase ≠ .skip)))
    let packed : Bool := decide (frame.header.kind = 1)
    let adapted := if snap.mode = .auto ∧ c.data ≠ [] then adapt cs snap packed else cs
    let up (k : Nat) := min (k + 1) 4294967295
    let counted : CodingState := { adapted with
      packedCount := if packed then up adapted.packedCount else adapted.packedCount,
      searchedStoredCount := if !packed && searched then up adapted.searchedStoredCount else adapted.searchedStoredCount,
      unsearchedCount := if !packed && !searched then up adapted.unsearchedCount else adapted.unsearchedCount }
    exec .encodingComplete s = .next (s.putWork (W.takeFrame
      { (s.work.modBackup n fun y => { y with coding := some counted }) with
          coder := { s.lib.coder with busy := none },
          streams := s.lib.streams.put d { s.work.stream d with
            intake := (s.work.stream d).intake.filter fun x => x.state ≠ .coding } } n d frame))) ∧
  (∀ (w : W) (n : Nat) (j : Job) (b : BackupData) (d : Drive) (f : Frame), w.job n = some j → j.progress = .backup b →
    let x := w.stream d
    ((b.truncating = true ∨ x.attached = none ∨ x.carry ≠ [] ∨ x.markerWait ≠ none) →
      w.takeFrame n d f = { w with
        streams := w.streams.put d { x with carry := x.carry ++ [f] }, signals := w.signals ++ [.advance n] }) ∧
    (∀ i a, b.truncating = false → x.attached = some a → x.carry = [] → x.markerWait = none →
      x.bufIn .opened = some i →
      ((x.buf i).frames.map fun g => 16 + g.payload.length).sum + (16 + f.payload.length) ≤ 65536 →
      w.takeFrame n d f = { w with
        streams := w.streams.put d (x.putBuf i { x.buf i with
          frames := (x.buf i).frames ++ [f], state := if f.secureNow then .closed else .opened }),
        signals := w.signals ++ [.advance n] })) ∧
  (∀ s : State, (∀ e n, s.lib.coder.busy ≠ some { stream := e, job := n, work := .encoding }) →
    exec .encodingComplete s = .next (s.putWork s.work)) ∧
  (∀ (s : State) (d : Drive) (n block : Nat) (h : FrameHeader) (payload : List Byte) (p : Presented) (i : BufId),
    s.lib.coder.busy = some { stream := d, job := n, work := .decoding block h payload } →
    (s.work.stream d).presented = some p → (s.work.stream d).bufIn .parsing = some i → p.header = h →
    (s.work.stream d).job = some n → ((s.work.stream d).buf i).index = block →
    exec .decodingComplete s = .next (s.putWork ((W.handResult { s.work with
        coder := { s.lib.coder with busy := none },
        streams := s.lib.streams.put d { s.work.stream d with
          parseOffset := some (p.offset + 16 + h.payloadLength), presented := none } } n
      { block := block, header := h, result := decodeFrame h payload }).emit (.parse d)))) ∧
  (∀ s : State, (∀ e n b h p, s.lib.coder.busy ≠ some { stream := e, job := n, work := .decoding b h p }) →
    exec .decodingComplete s = .next (s.putWork s.work)) ∧
  (∀ (cs : CodingState) (snap : Snapshot),
    (cs.phase = .search →
      adapt cs snap true = { cs with storedRun := 0, skipLen := snap.skip } ∧
      (cs.storedRun + 1 < snap.storedRun → adapt cs snap false = { cs with storedRun := cs.storedRun + 1 }) ∧
      (snap.storedRun ≤ cs.storedRun + 1 →
        adapt cs snap false = { cs with phase := .skip, skipLeft := cs.skipLen, storedRun := 0 })) ∧
    (∀ packed, cs.phase = .skip →
      (1 < cs.skipLeft → adapt cs snap packed = { cs with skipLeft := cs.skipLeft - 1 }) ∧
      (cs.skipLeft ≤ 1 → adapt cs snap packed = { cs with phase := .probe, skipLeft := 0 })) ∧
    (cs.phase = .probe →
      adapt cs snap true = { cs with phase := .search, skipLen := snap.skip, storedRun := 0 } ∧
      (let len := min (2 * cs.skipLen) (8 * snap.skip)
       adapt cs snap false = { cs with phase := .skip, skipLen := len, skipLeft := len })) ∧
    (∀ o, (cs.lastObject = some o → installSnapshot cs o snap = cs) ∧
      (cs.lastObject ≠ some o → cs.installed = some snap →
        installSnapshot cs o snap = { cs with lastObject := some o }) ∧
      (cs.lastObject ≠ some o → cs.installed ≠ some snap →
        installSnapshot cs o snap = { cs with
          lastObject := some o, installed := some snap, phase := .search, storedRun := 0, skipLeft := 0,
          skipLen := snap.skip })))

/-- Decoding an encoded chunk gives the chunk back, under every snapshot and in every phase (R94 to R98, R103 to R105). The
frame is packed exactly when the chunk is searched and the packed payload saves what G asks (R98), its check sum is the CRC-32C
of the raw bytes, which of the nine digits is 0xE3069283 (R94). -/
def Obligations.DecodingRestoresTheChunk : Prop :=
  (∀ (snap : Snapshot) (phase : Phase) (c : Chunk), c.data.length ≤ 16368 →
    let frame := encodeChunk snap phase c
    let payload := packedPayload c.data
    let searched : Prop := c.data ≠ [] ∧ (snap.mode = .pack ∨ (snap.mode = .auto ∧ phase ≠ .skip))
    decodeFrame frame.header frame.payload = .ok c.data ∧
      (searched ∧ 64 * payload.length ≤ (64 - snap.gain) * c.data.length →
        frame.header.kind = 1 ∧ frame.payload = payload) ∧
      (¬(searched ∧ 64 * payload.length ≤ (64 - snap.gain) * c.data.length) →
        frame.header.kind = 2 ∧ frame.payload = c.data) ∧
      frame.header = { frame.header with
        last := c.final, continued := false, truncated := false, continues := false, rawLength := c.data.length,
        payloadLength := frame.payload.length, session := c.session, object := c.object, chunk := c.index,
        crc := crc32c c.data } ∧
      frame.secureNow = c.secureNow) ∧
  (∀ (h : FrameHeader) (payload raw : List Byte), decodeFrame h payload = .ok raw →
    crc32c raw = h.crc ∧ (h.kind ≠ 2 → raw.length = h.rawLength) ∧ (h.kind = 2 → raw = payload)) ∧
  crc32c [0x31#8, 0x32#8, 0x33#8, 0x34#8, 0x35#8, 0x36#8, 0x37#8, 0x38#8, 0x39#8] = 0xE3069283#32

/-- The 16-byte tape frame header, byte by byte, and its reading: what is written of a header whose fields fit their places is
read back whatever follows it, the payload begins at offset 16, and a zero byte at offset 0 reads as kind 0 with no flags, which
is pad (R196). -/
def Obligations.FrameHeadersRoundTrip : Prop :=
  (∀ h : FrameHeader, h.kind < 16 → h.rawLength < 65536 → h.payloadLength < 65536 → h.session < 65536 →
    h.object < 16777216 → h.chunk < 65536 →
    let byte (n : Nat) : Byte := BitVec.ofNat 8 n
    let flag (b : Bool) (n : Nat) : Nat := if b then n else 0
    headerBytes h =
      [byte (h.kind + flag h.last 16 + flag h.continued 32 + flag h.truncated 64 + flag h.continues 128),
       byte (h.rawLength / 256), byte h.rawLength, byte (h.payloadLength / 256), byte h.payloadLength,
       byte (h.session / 256), byte h.session,
       byte (h.object / 65536), byte (h.object / 256), byte h.object,
       byte (h.chunk / 256), byte h.chunk,
       byte (h.crc.toNat / 16777216), byte (h.crc.toNat / 65536), byte (h.crc.toNat / 256), byte h.crc.toNat] ∧
    (∀ rest, headerOfBytes (headerBytes h ++ rest) = h) ∧
    (∀ rest block offset, block.drop offset = headerBytes h ++ rest → offset + 16 + h.payloadLength ≤ 65536 →
      h.kind ∈ [1, 2, 3, 4] → flagsAllowed h = true → (h.kind ≤ 2 → chunkFieldsOk h = true) →
      (3 ≤ h.kind → markerFieldsOk h = true) → headerAt block offset = .good h)) ∧
  (∀ f : Frame, (frameBytes f).take 16 = headerBytes f.header ∧ (frameBytes f).drop 16 = f.payload) ∧
  (∀ (bytes : List Byte) (r : Nat), bytes.head? = some 0#8 →
    (headerOfBytes bytes).kind = 0 ∧ (headerOfBytes bytes).last = false ∧ (headerOfBytes bytes).continued = false ∧
      (headerOfBytes bytes).truncated = false ∧ (headerOfBytes bytes).continues = false ∧
      checkHeader bytes r = .pad)

/-! ## Blocks and waiting placements (R114 to R118, R133, R181) -/

/-- WRITE_BLOCK_PRESENT and READ_BLOCK_PRESENT (R115, R118): the CLOSED block with the lower index goes to a READY port that
accepts it and is WRITING; a Read Block of `nextRead` goes into a FREE buffer while the stream runs within its limit. A port
that is not READY is offered nothing. A Locate of a reader that waits is requested of a READY port with no read in flight; one
that fails is requested once more, also while the job yields or is being aborted (R84, R88), though not in SECURED then, and a
second failure ends the job FAILED with POSITION. That it is not requested again in SECURED is the model's (log entry 44). -/
def Obligations.BlocksArePresented : Prop :=
  (∀ (s : State) (d : Drive) (n : Nat) (i : BufId), let x := s.work.stream d
    let p := s.work.port d
    x.job = some n → (x.buf i).state = .closed →
    (∀ k, (x.buf k).state = .closed → (x.buf i).index ≤ (x.buf k).index ∧ ((x.buf k).index = (x.buf i).index → k = i ∨ i = .a)) →
    p.state = .ready → s.work.driveClaim d = some n → s.work.opRefusal d (.writeBlock i) = none →
    exec (.writeBlockPresent d) s = .next (s.putWork { s.work with
      ports := s.lib.ports.put d
        { p with state := .active, pending := some { op := .writeBlock i, requester := .job n, timer := 60 } },
      js := { s.lib.js with
        idle := s.lib.js.idle.put d none, idlePending := s.lib.js.idlePending.put d false },
      streams := s.lib.streams.put d (x.putBuf i { x.buf i with state := .writing }) })) ∧
  (∀ (s : State) (d : Drive), ((s.work.port d).state ≠ .ready ∨ (s.work.stream d).job = none ∨
      (∀ k, ((s.work.stream d).buf k).state ≠ .closed)) →
    exec (.writeBlockPresent d) s = .next (s.putWork s.work)) ∧
  (∀ (s : State) (d : Drive) (j : Job) (i : BufId) (b : Nat), let x := s.work.stream d
    let p := s.work.port d
    x.job = some j.id → s.work.job j.id = some j → x.bufIn .free = some i → x.nextRead = some b →
    x.enable = true → s.lib.gateOpen = true → x.stopping = none → x.seek = none → x.news = none →
    (x.readLimit = some .endMark ∨ ∃ l, x.readLimit = some (.block l) ∧ b ≤ l) → j.state = .running →
    ((∃ v, j.progress = .verify v) ∨ ∃ r, j.progress = .restore r ∧ r.out.length < 4 ∧ r.todo = [] ∧ r.stopped = false ∧
      r.relocating = false) →
    p.state = .ready → s.work.driveClaim d = some j.id → s.work.opRefusal d (.readBlock i) = none →
    exec (.readBlockPresent d) s = .next (s.putWork { s.work with
      ports := s.lib.ports.put d
        { p with state := .active, pending := some { op := .readBlock i, requester := .job j.id, timer := 60 } },
      js := { s.lib.js with
        idle := s.lib.js.idle.put d none, idlePending := s.lib.js.idlePending.put d false },
      streams := s.lib.streams.put d
        (x.putBuf i { state := .reading, index := b, frames := [], data := [] }) })) ∧
  (∀ (s : State) (d : Drive), ((s.work.port d).state ≠ .ready ∨ (s.work.stream d).enable = false ∨
      s.lib.gateOpen = false ∨ (s.work.stream d).nextRead = none ∨ (s.work.stream d).stopping ≠ none ∨
      (∃ n, (s.work.stream d).nextRead = some n ∧ ∃ l, (s.work.stream d).readLimit = some (.block l) ∧ l < n)) →
    exec (.readBlockPresent d) s = .next (s.putWork s.work)) ∧
  (∀ (w : W) (d : Drive) (j : Job) (k : Seek), let x := w.stream d
    let p := w.port d
    let seeks (y : Seek) : Pair Stream := w.streams.put d { x with seek := some y }
    x.job = some j.id → w.job j.id = some j → ((∃ v, j.progress = .verify v) ∨ ∃ r, j.progress = .restore r) →
    w.driveClaim d = some j.id → x.seek = some k →
    (∀ r, k.inFlight = true → j.mountStep = none → j.state.isFinished = false →
      (r = .readError ∨ ∃ c, r = .blank c ∧ k.purpose ≠ .afterError) →
      let t := w.takeSignal (.opDone d (.job j.id) (.locate k.target) r)
      (k.retried = false → t = { w with
        streams := seeks { k with retried := true, inFlight := false }, signals := w.signals ++ [.parse d] }) ∧
      (k.retried = true → t = w.endJob j.id .failed .position)) ∧
    (k.inFlight = false → j.state = .running → p.state = .ready → (∀ i, (x.buf i).state ≠ .reading) →
      w.opRefusal d (.locate k.target) = none →
      (x.stopping = none ∨ (k.retried = true ∧ w.mode ≠ .secured ∧
        (x.stopping = some .yielding ∨ x.stopping = some .abort)) → w.launchSeek d = { w with
          ports := w.ports.put d
            { p with state := .active,
                     pending := some { op := .locate k.target, requester := .job j.id, timer := 600 } },
          js := { w.js with idle := w.js.idle.put d none, idlePending := w.js.idlePending.put d false },
          streams := seeks { k with inFlight := true } }) ∧
      (x.stopping ≠ none → k.retried = false ∨ w.mode = .secured ∨ x.stopping = some .hold → w.launchSeek d = w)))

/-- The header checks in their order (R93), and the parser's walk (R119): pad and HEADER-BAD finish the block, a marker is
handed to the job's rules, a chunk frame within the filter is presented for decoding and one outside it passed over; a block
finished is reported and its buffer FREE, and the next LOADED one begins to be parsed, at a kept offset if it has one (R121). -/
def Obligations.TheParserWalksABlock : Prop :=
  (∀ (block : List Byte) (offset : Nat),
    let h := headerOfBytes (block.drop offset)
    let r := 65536 - offset
    let flagBad : Bool := (decide (h.kind ≤ 2) && (h.continued || h.truncated || h.continues)) ||
      (decide (h.kind = 3) && (h.last || h.truncated || h.continues)) ||
      (decide (h.kind = 4) && (h.last || h.continued || (h.truncated && h.continues)))
    let chunkBad : Bool := decide (h.kind ≤ 2) && (decide (16368 < h.rawLength) || decide (h.session = 0) ||
      decide (h.object = 0) || (decide (h.kind = 2) && decide (h.payloadLength ≠ h.rawLength)) ||
      (decide (h.kind = 1) && (decide (h.payloadLength = 0) || decide (h.rawLength < h.payloadLength))))
    let markerBad : Bool := decide (3 ≤ h.kind) && (decide (h.rawLength ≠ 0) || decide (h.payloadLength ≠ 0) ||
      decide (h.crc ≠ 0) || decide (h.session = 0) || (decide (h.kind = 3) && decide (h.object ≠ 0)) ||
      (decide (h.kind = 4) && decide (h.chunk ≠ 0)))
    headerAt block offset =
      if h.kind = 0 then .pad
      else if r < 16 ∨ 5 ≤ h.kind ∨ flagBad = true ∨ chunkBad = true ∨ markerBad = true ∨ r < 16 + h.payloadLength then .bad
      else .good h) ∧
  (∀ (w : W) (d : Drive) (j : Job) (i : BufId),
    let x := w.stream d
    x.job = some j.id → w.job j.id = some j → j.state = .running → x.stopping ≠ some .hold → x.presented = none →
    x.bufIn .parsing = some i →
    let b := x.buf i
    let o := x.parseOffset.getD 0
    let put (y : Stream) : W := { w with streams := w.streams.put d y }
    let finished (v : W) : W :=
      let y := v.stream d
      W.handBlockParsed { v with streams := v.streams.put d { y.putBuf i freeBuffer with parseOffset := none } } j.id
        (y.buf i).index (decide (y.readLimit = some (.block (y.buf i).index)))
    (∀ v, j.progress = .verify v → j.kind = .verify →
      (∀ k ∈ w.js.jobs, k.id = j.id → k = j) →
      (65536 ≤ o ∨ headerAt b.data o = .pad → w.parseOnce d = some (finished w)) ∧
      (o < 65536 → headerAt b.data o = .bad →
        let t := w.verifyHeaderBad j.id b.index
        w.parseOnce d = some (if (t.stream d).job = some j.id then finished t else t)) ∧
      (∀ h, o < 65536 → headerAt b.data o = .good h →
        (3 ≤ h.kind → w.parseOnce d =
          some ((put { x with parseOffset := some (o + 16), presented := none }).verifyMarker j.id h b.index o)) ∧
        (h.kind ≤ 2 → w.parseOnce d =
          if w.verifyAdmits v h.session = false then
            some (put { x with parseOffset := some (o + (16 + h.payloadLength)), presented := none })
          else if x.enable = true ∧ w.gateOpen = true then some (put { x with presented := some { offset := o, header := h } })
          else none))) ∧
    (∀ r, j.progress = .restore r → j.kind = .restore → r.todo = [] → r.fromHint = false →
      (∀ k ∈ w.js.jobs, k.id = j.id → k = j) →
      (65536 ≤ o ∨ headerAt b.data o = .pad ∨ headerAt b.data o = .bad →
        w.parseOnce d = some (finished w)) ∧
      (∀ h, o < 65536 → headerAt b.data o = .good h →
        (3 ≤ h.kind → w.parseOnce d =
          some ((put { x with parseOffset := some (o + 16), presented := none }).restoreMarker j.id h b.index)) ∧
        (h.kind ≤ 2 → w.parseOnce d =
          if ¬(j.sessionId = some h.session ∧ r.filterFrom ≤ h.object ∧ h.object ≤ r.lastObject) then
            some (put { x with parseOffset := some (o + (16 + h.payloadLength)), presented := none })
          else if x.enable = true ∧ w.gateOpen = true then some (put { x with presented := some { offset := o, header := h } })
          else none)))) ∧
  (∀ (w : W) (d : Drive) (j : Job) (i : BufId),
    let x := w.stream d
    x.job = some j.id → w.job j.id = some j → j.state = .running → x.stopping = none → x.presented = none →
    W.jobTodo j = [] → x.bufIn .parsing = none → (x.buf i).state = .loaded →
    (∀ k, (x.buf k).state = .loaded → k ≠ i → (x.buf i).index < (x.buf k).index) →
    let first : Nat := match x.startAt with
      | some (k, offset) => if k = (x.buf i).index then offset else 0
      | none => 0
    let y : Stream := { (x.putBuf i { x.buf i with state := .parsing }) with parseOffset := some first, startAt := none }
    w.parseOnce d = some { w with streams := w.streams.put d y })

/-- CARRY_PLACEMENT_RESUME, CATALOG_WAIT_RESUME and SUBSTITUTE_ENTRY_ADD (R114, R116, R125, R133, R181): the carry-over frames or
a marker that waited go into a new block of a FREE buffer, as many as it takes; the BACKUPs waiting for the catalog take free
extent records in increasing `seq`, one each while records remain; what a RESTORE has still to add is added as places are free.
Without the place nothing happens. `substituted` stays at the end of its range (log entry 33). The model's choice (log entry 36): the waits are served in the step that frees a record, and
by CATALOG_WAIT_RESUME; a BACKUP being truncated takes none. -/
def Obligations.WhatWaitedGoesOn : Prop :=
  (∀ (s : State) (d : Drive) (n : Nat) (a : Attached) (f : Frame) (i : BufId), let x := s.work.stream d
    x.job = some n → x.attached = some a → x.bufIn .opened = none → x.bufIn .free = some i →
    let placed : Stream := { (x.putBuf i { state := if f.secureNow then .closed else .opened, index := a.nextIndex,
                                           frames := [f], data := [] }) with
      attached := some { a with nextIndex := a.nextIndex + 1 } }
    (x.carry = [f] → (s.work.backupData n).bind BackupData.ending ≠ some .truncPlace →
      f.header.kind = 1 ∨ f.header.kind = 2 →
      (s.work.knownUsed a.cartridge).getD 0 + (x.countIn .closed + x.countIn .writing) <
        thresholdOf (s.work.kindOf a.cartridge) →
      exec (.carryPlacementResume d) s = .next (s.putWork { s.work with
        streams := s.lib.streams.put d { placed with carry := [] }, signals := s.lib.signals ++ [.advance n] })) ∧
    (∀ rest, x.carry = f :: rest → (s.work.backupData n).bind BackupData.ending ≠ some .truncPlace →
      (∀ g ∈ f :: rest, (g.header.kind = 1 ∨ g.header.kind = 2) ∧ g.secureNow = false) →
      ((f :: rest).map fun g => 16 + g.payload.length).sum ≤ 65536 →
      (s.work.knownUsed a.cartridge).getD 0 + (x.countIn .closed + x.countIn .writing) <
        thresholdOf (s.work.kindOf a.cartridge) →
      exec (.carryPlacementResume d) s = .next (s.putWork { s.work with
        streams := s.lib.streams.put d { (x.putBuf i { state := .opened, index := a.nextIndex, frames := f :: rest,
                                                       data := [] }) with
          attached := some { a with nextIndex := a.nextIndex + 1 }, carry := [] },
        signals := s.lib.signals ++ [.advance n] })) ∧
    (∀ g rest, x.carry = f :: g :: rest → (s.work.backupData n).bind BackupData.ending ≠ some .truncPlace →
      f.header.kind = 1 ∨ f.header.kind = 2 → f.secureNow = true →
      (∀ k, k ≠ i → (x.buf k).state ≠ .free) →
      (s.work.knownUsed a.cartridge).getD 0 + (x.countIn .closed + x.countIn .writing) + 1 <
        thresholdOf (s.work.kindOf a.cartridge) →
      exec (.carryPlacementResume d) s = .next (s.putWork { s.work with
        streams := s.lib.streams.put d { placed with carry := g :: rest },
        signals := s.lib.signals ++ [.advance n] })) ∧
    (x.carry = [] → x.markerWait = some f → 3 ≤ f.header.kind →
      exec (.carryPlacementResume d) s = .next (s.putWork { s.work with
        streams := s.lib.streams.put d
          { (if f.secureNow then placed else placed.putBuf i { placed.buf i with state := .closed }) with
              markerWait := none },
        signals := s.lib.signals ++ [.advance n] }))) ∧
  (∀ (s : State) (d : Drive), let x := s.work.stream d
    x.job = none ∨ x.attached = none ∨ (x.carry = [] ∧ x.markerWait = none) ∨ x.bufIn .free = none →
    exec (.carryPlacementResume d) s = .next (s.putWork s.work)) ∧
  (∀ s : State,
    let waits (j : Job) : Bool := decide (j.state = .waiting) && decide (j.waitReason = some .catalog) &&
      (match j.backup? with
       | some b => !b.truncating
       | none => false)
    let queue := s.lib.js.jobs.filter waits
    let served (l : List Job) : W := (l.map Job.id).foldl (fun (w : W) n =>
      if w.cg.extents.length < 1024 ∧ (w.job n).any waits = true then w.beginExtent n else w) s.work
    (∃ l : List Job, l.Perm queue ∧ (l.Pairwise fun a b => a.seq ≤ b.seq) ∧
      exec .catalogWaitResume s = .next (s.putWork (served l))) ∧
    (∀ j, queue = [j] → s.lib.cg.extents.length < 1024 → s.work.job j.id = some j →
      exec .catalogWaitResume s = .next (s.putWork (s.work.beginExtent j.id))) ∧
    (1024 ≤ s.lib.cg.extents.length ∨ queue = [] → exec .catalogWaitResume s = .next (s.putWork s.work))) ∧
  (∀ (w : W) (n : Nat) (j : Job) (b : BackupData) (d : Drive) (i : Nat), w.job n = some j → j.backup? = some b →
    j.drive = some d → j.cartridge = some i → b.extentSeq < 1024 → w.cg.extents.length < 1024 →
    let first := (w.port d).position.getD ((w.knownUsed i).getD 0)
    ∃ e ∈ (w.beginExtent n).cg.extents, e.session = j.sessionId.getD 0 ∧ e.sequence = b.extentSeq ∧ e.cartridge = i ∧
      e.firstBlock = first ∧ e.blockCount = 0 ∧ e.isOpen = true ∧ e.continued = decide (0 < b.extentSeq) ∧
      e.firstObject = none ∧ e.verifyState = .unverified) ∧
  (∀ (s : State) (n size : Nat) (final : Bool) (j : Job) (r : RestoreData) (o : Nat), s.work.job n = some j →
    j.progress = .restore r → r.nextObject = some o → r.todo = [.substitute size final] →
    r.out.length < 4 → (∀ k ∈ s.lib.js.jobs, k.id = n → k = j) →
    exec (.substituteEntryAdd n) s = .next (s.putWork { (s.work.modRestore n fun _ => { r with
      todo := [],
      out := r.out ++ [{ object := o, chunk := r.expect, offset := r.objectOffset,
                         data := List.replicate size 0#8, damaged := true, endOfObject := final }],
      objectOffset := if final then 0 else r.objectOffset + size, expect := if final then 0 else r.expect + 1,
      found := !final, delivered := r.delivered + (if final then 1 else 0), substituted := min (r.substituted + 1) 16777215,
      nextObject := if final then nextAfter o r.lastObject r.absentObjects else some o }) with
        signals := s.lib.signals ++ (j.stream.map Signal.parse).toList })) ∧
  (∀ (s : State) (n : Nat), (s.work.job n = none ∨ (∀ j, s.work.job n = some j → W.jobTodo j = [])) →
    exec (.substituteEntryAdd n) s = .next (s.putWork s.work))

/-! ## What the jobs make of blocks and frames (R134, R135, R165, R168, R177, R181) -/

/-- A block written OK is counted on its cartridge, its extent and its session (R134); a write lost makes the cartridge SUSPECT
after a Write Block and FULL otherwise, with NO-END-MARK (R141), in the truncation procedure too (the model's reading, log entry
29); a block's frames are taken for securing, and an object is reported secured at the frame with LAST (R135); a chunk frame verified is counted, checked and put in sequence (R165),
one of a session skipped is stray (R171), and a found extent collects from the headers of its chunk frames (R170); a chunk that
a RESTORE expects joins its queue, one it has passed over does not (R177). The model's (log entry 33): a count of bytes, chunks
or chunk frames that has reached its largest value stays there. -/
def Obligations.BlocksAndFramesAreCounted : Prop :=
  (∀ (w : W) (n i : Nat) (buf : Buffer) (j : Job) (b : BackupData) (c : CartRec) (e : ExtentRec) (x : SessionRec),
    w.job n = some j → j.progress = .backup b → w.cart i = some c →
    w.extent (j.sessionId.getD 0) b.extentSeq = some e → w.session (j.sessionId.getD 0) = some x →
    let chunks := buf.frames.filter fun f => f.header.kind = 1 ∨ f.header.kind = 2
    let raw := (chunks.map fun f => f.header.rawLength).sum
    let coded := (chunks.map fun f => 16 + f.payload.length).sum
    let up (k m : Nat) : Nat := min (k + m) (2 ^ 64 - 1)
    let t := w.countBlock n i buf
    t.cart i = some { c with
        blocksUsed := .known (buf.index + 1), rawBytes := up c.rawBytes raw, codedBytes := up c.codedBytes coded,
        state := if c.state = .blank then .opened else c.state } ∧
      (∀ k, k ≠ i → t.cart k = w.cart k) ∧
      t.extent (j.sessionId.getD 0) b.extentSeq = some { e with
        blockCount := e.blockCount + 1, chunkFrames := min (e.chunkFrames + chunks.length) (2 ^ 32 - 1),
        rawBytes := up e.rawBytes raw, codedBytes := up e.codedBytes coded,
        firstObject := if e.firstObject = none then chunks.head?.map fun f => f.header.object else e.firstObject,
        firstChunk := if e.firstObject = none then (chunks.head?.map fun f => f.header.chunk).getD 0 else e.firstChunk,
        lastObject := if chunks = [] then e.lastObject else chunks.getLast?.map fun f => f.header.object } ∧
      t.session (j.sessionId.getD 0) = some { x with
        chunkCount := up x.chunkCount chunks.length, rawBytes := up x.rawBytes raw,
        codedBytes := up x.codedBytes coded } ∧
      t.js = w.js ∧ t.ports = w.ports ∧ t.streams = w.streams ∧ t.cc = w.cc ∧
      t.out = w.out ++ (if c.state = .blank then
        [.cartridgeState i c.label (some .blank) (some .opened) .blockWrite] else [])) ∧
  (∀ (w : W) (n i : Nat) (d : Drive) (j : Job) (b : BackupData) (c : CartRec), w.job n = some j → j.progress = .backup b →
    j.state.isFinished = false → w.driveClaim d = some n → j.cartridge = some i → w.cart i = some c →
    b.extentOpen = true ∨ b.ending.isSome = true →
    (∀ k r, j.mountStep = none → r ∈ [OpOutcome.transport, .timeout, .driveLost] →
      ∃ t, (w.takeSignal (.opDone d (.job n) (.writeBlock k) r)).cart i = some t ∧ t.state = .suspect ∧
        t.noEndMark = true ∧ t.blocksUsed = c.blocksUsed) ∧
    (∃ t, (w.takeSignal (.portDown d)).cart i = some t ∧
      t.state = (if c.state = .suspect then .suspect else .full) ∧ t.noEndMark = true ∧ t.blocksUsed = c.blocksUsed)) ∧
  (∀ (w : W) (n block : Nat) (label : Option Label) (f : Frame) (j : Job) (b : BackupData), w.job n = some j →
    j.progress = .backup b →
    let h := f.header
    let start : Option PartialObject :=
      if h.chunk = 0 then some { object := h.object, firstLabel := label, firstBlock := block, raw := 0, coded := 0 }
      else b.part
    ∀ p, start = some p →
      (h.last = true → W.secureFrame n label block w f = { (w.modBackup n fun y =>
          { y with part := none, securedThrough := h.object }) with
        out := w.out ++ [.objectSecured (j.sessionId.getD 0) h.object p.firstLabel p.firstBlock label block
          (p.raw + h.rawLength) (p.coded + (16 + f.payload.length))] }) ∧
      (h.last = false → W.secureFrame n label block w f = w.modBackup n fun y =>
        { y with part := some { p with
            raw := p.raw + h.rawLength, coded := p.coded + (16 + f.payload.length) } })) ∧
  (∀ (w : W) (n s q : Nat) (v : VerifyData) (e : ExtentRec) (r : ResultRec), w.verifyData n = some v →
    v.entered = some r.block → v.current = .known s q → w.extent s q = some e → e.firstBlock ≤ r.block →
    r.block < e.firstBlock + e.blockCount → r.header.session = s → v.skipped.contains s = false →
    let o := r.header.object
    let i := r.header.chunk
    let bad := match r.result with
      | .ok _ => 0
      | .corrupt _ => 1
      | .mismatch => 1
    let from_ : Expect := if r.header.last then .frame (o + 1) 0 else .frame o (i + 1)
    ∃ d, (w.verifyFrame n r).verifyData n = some d ∧ d.tally.framesChecked = v.tally.framesChecked + 1 ∧
      d.current = v.current ∧ d.totals = v.totals ∧ d.stray = v.stray ∧
      (v.expect = .lost → d.tally.damaged = v.tally.damaged + bad ∧ d.expect = from_) ∧
      (∀ a k, v.expect = .frame a k →
        (o = a → i = k → d.tally.damaged = v.tally.damaged + bad ∧ d.expect = from_) ∧
        (o = a → k < i → d.tally.damaged = v.tally.damaged + bad + (i - k) ∧ d.expect = from_) ∧
        (a < o → d.tally.damaged = v.tally.damaged + bad + ((o - a) + i) ∧ d.expect = from_) ∧
        (o < a ∨ (o = a ∧ i < k) → d.tally.damaged = v.tally.damaged + bad + 1 ∧ d.expect = v.expect))) ∧
  (∀ (w : W) (n : Nat) (v : VerifyData) (r : ResultRec), w.verifyData n = some v → v.entered = some r.block →
    r.header.session ∈ v.skipped →
    (w.verifyFrame n r).verifyData n = some { v with stray := min (v.stray + 1) (2 ^ 32 - 1) }) ∧
  (∀ (f : FoundExtent) (l : List FrameHeader), f.chunkFrames < 2 ^ 32 → f.raw < 2 ^ 64 → f.coded < 2 ^ 64 →
    l.foldl FoundExtent.collect f = { f with
      chunkFrames := min (f.chunkFrames + l.length) (2 ^ 32 - 1),
      raw := min (f.raw + (l.map fun h => h.rawLength).sum) (2 ^ 64 - 1),
      coded := min (f.coded + (l.map fun h => 16 + h.payloadLength).sum) (2 ^ 64 - 1),
      firstObject := if f.firstObject.isSome then f.firstObject else l.head?.map fun h => h.object,
      firstChunk := if f.firstObject.isSome then f.firstChunk else (l.head?.map fun h => h.chunk).getD f.firstChunk,
      lastObject := if l = [] then f.lastObject else l.getLast?.map fun h => h.object }) ∧
  (∀ (w : W) (n o : Nat) (j : Job) (r : RestoreData) (res : ResultRec), w.job n = some j → j.progress = .restore r →
    r.nextObject = some o → r.stopped = false →
    (res.header.object < o ∨ (res.header.object = o ∧ res.header.chunk < r.expect) → w.takeResult n res = w) ∧
    (∀ bytes, res.header.object = o → res.header.chunk = r.expect → res.result = .ok bytes →
      (w.takeResult n res).restoreData n = some { r with
        out := r.out ++ [{ object := o, chunk := r.expect, offset := r.objectOffset, data := bytes, damaged := false,
                           endOfObject := res.header.last }],
        nextObject := if res.header.last then nextAfter o r.lastObject r.absentObjects else some o,
        expect := if res.header.last then 0 else r.expect + 1, found := !res.header.last,
        objectOffset := if res.header.last then 0 else r.objectOffset + bytes.length,
        delivered := r.delivered + (if res.header.last then 1 else 0) } ∧
      (w.takeResult n res).out = w.out))

/-- The end of an extent the catalog holds, in a VERIFY (R168): the marker fault of a first block without its kind-3 frame, the
end check, the verdict on the extent record, SUSPECT for an OPEN or FULL cartridge with damage (the model's, log entry 47: not
while a BACKUP claims it), the totals. The model's (log entry 45): `expect` is not set once the extent has ended. Damage that a
decoding's result shows in a RESTORE (R177, R179 to R181; an unreadable block is not stated here): a corrupt chunk, a gap, a missing final chunk are told in CHUNK DAMAGED; under SUBSTITUTE entries of zeros are still to
be added before the frame that showed the gap, under STOP the job comes to rest to end FAILED with DAMAGED; an object of which
nothing was found is absent. A job being aborted takes no damage, and an absence is none (R183; the reading is log entry 31's). The
model's (log entry 33): a count that reaches its largest value stays there. -/
def Obligations.EndedExtentsAndDamageAreRecorded : Prop :=
  (∀ (w : W) (n s q : Nat) (v : VerifyData) (e : ExtentRec), w.verifyData n = some v → v.current = .known s q →
    w.extent s q = some e → (w.js.jobs.map Job.id).Nodup →
    let lost : Nat := match v.expect, e.lastObject with
      | .frame o k, some l => if l < o ∨ (e.continues = true ∧ o = l ∧ 0 < k) then 0 else l + 1 - o
      | .frame _ _, none => 0
      | .lost, _ => 0
      | .unset, _ => 0
    let t : Tally := { v.tally with
      damaged := v.tally.damaged + lost,
      markerFaults := v.tally.markerFaults + (if v.tally.kind3Seen = true ∨ v.firstUnreadable = true then 0 else 1) }
    let good : Bool := decide (t.damaged = 0) && decide (t.markerFaults = 0)
    let writing (c : CartRec) : Bool := w.js.jobs.any fun k => decide (c.claim = some k.id) && decide (k.kind = .backup)
    let up (a b : Nat) : Nat := min (a + b) (2 ^ 32 - 1)
    let zero : Tally := { framesChecked := 0, damaged := 0, unreadable := 0, missingBlocks := 0, headerBad := 0,
                          markerFaults := 0, kind3Seen := false }
    let r := w.endChecking n
    r.extent s q = some { e with
        verifyState := if good then .verified else .damaged, damagedChunks := min t.damaged (2 ^ 32 - 1) } ∧
      r.verifyData n = some { v with
        current := .none, expect := .unset, tally := zero, firstUnreadable := false,
        damageFound := v.damageFound || !good,
        endedVerified := v.endedVerified + (if good then 1 else 0),
        endedDamaged := v.endedDamaged + (if good then 0 else 1),
        totals := { framesChecked := up v.totals.framesChecked t.framesChecked, damaged := up v.totals.damaged t.damaged,
                    unreadable := up v.totals.unreadable t.unreadable,
                    missingBlocks := up v.totals.missingBlocks t.missingBlocks,
                    headerBad := up v.totals.headerBad t.headerBad,
                    markerFaults := up v.totals.markerFaults t.markerFaults,
                    kind3Seen := v.totals.kind3Seen || t.kind3Seen },
        extents := v.extents.map fun x =>
          if x.session = s ∧ x.sequence = q then { x with check := .ended, tally := t } else x } ∧
      (∀ c, w.cart e.cartridge = some c →
        let suspect : Bool := !good && (decide (c.state = .opened) || decide (c.state = .full)) && !writing c
        r.cart e.cartridge = some (if suspect then { c with state := .suspect } else c) ∧
          r.out = w.out ++ (if suspect then
            [.cartridgeState e.cartridge c.label (some c.state) (some .suspect) .verify] else []))) ∧
  (∀ (w : W) (n e : Nat) (j : Job) (r : RestoreData) (res : ResultRec), w.job n = some j → j.progress = .restore r →
    r.nextObject = some e → r.stopped = false →
    let o := res.header.object
    let i := res.header.chunk
    let told (chunk count : Nat) (cause : DamageCause) : List Notice :=
      [.chunkDamaged n (j.sessionId.getD 0) e chunk count cause (r.link.map Link.label) res.block]
    let damage (chunk count : Nat) (cause : DamageCause) (instead : List RAction) : Prop := j.abortPending = false →
      (r.policy = .substitute → w.takeResult n res = { (w.modRestore n fun x => { x with todo := instead ++ x.todo }) with
        out := w.out ++ told chunk count cause }) ∧
      (∀ d, r.policy = .stop → j.stream = some d → w.takeResult n res =
        { ((w.modRestore n fun x => { x with stopped := true, todo := [] }).modJob n fun k =>
            { k with endAs := k.endAs.or (some (.failed, .damaged)), yielding := false }) with
          out := w.out ++ told chunk count cause,
          streams := w.streams.put d { w.stream d with stopping := some .abort },
          signals := w.signals ++ [.parse d] })
    let size := if res.header.last then res.header.rawLength else 16368
    (∀ why, o = e → i = r.expect → res.result = .corrupt why →
      damage i 1 .frameCorrupt [.substitute size res.header.last]) ∧
    (o = e → i = r.expect → res.result = .mismatch → damage i 1 .crcMismatch [.substitute size res.header.last]) ∧
    (o = e → r.expect < i →
      damage r.expect (i - r.expect) .gap (List.replicate (i - r.expect) (.substitute 16368 false) ++ [.take res])) ∧
    (e < o → r.found = true → damage 65535 1 .missingFinal [.substitute 0 true, .take res]) ∧
    (j.abortPending = true →
      (e < o ∧ r.found = true) ∨ (o = e ∧ r.expect < i) ∨ (o = e ∧ i = r.expect ∧ ∀ bytes, res.result ≠ .ok bytes) →
      w.takeResult n res = w) ∧
    (e < o → r.found = false → w.takeResult n res = { (w.modRestore n fun x => { x with
        absent := x.absent + 1, absentObjects := x.absentObjects ++ [e],
        nextObject := x.nextObject.bind fun k => nextAfter k x.lastObject (x.absentObjects ++ [e]),
        expect := 0, found := false, objectOffset := 0, todo := .take res :: x.todo }) with
      out := w.out ++ told 65535 0 .notFound }))

/-! ## The catalog (R145 to R159) -/

/-- SESSION INFO, EXTENT INFO and CATALOG INFO (R158, R159), the capacity figures (R145) and a session's verify summary
(R152), with the counts derived for a session that was not written here (R147). The model's (log entry 33): a sum that reaches
its largest value stays there. -/
def Obligations.TheCatalogIsReported : Prop :=
  (∀ (s : State) (f : RequestFrame) (ih il qh ql : Byte), s.requests f 0x70 [ih, il, qh, ql] →
    let id := ih.toNat * 256 + il.toNat
    let pins (x : Nat) : Nat := (s.lib.js.jobs.filter fun j => j.pins.contains x).length
    let extents (x : Nat) : List ExtentRec := s.lib.cg.extents.filter fun e => e.session = x
    exec .sessionInfo s = .next (
      if id = 0 then s.reported f (.sessions (s.lib.cg.sessions.map fun x =>
        { id := x.id, state := x.state, origin := x.origin, verifySummary := x.verifySummary,
          objectsBegun := x.objectsBegun, pinCount := pins x.id, extents := (extents x.id).length }))
      else match s.lib.cg.sessions.find? fun x => x.id = id with
        | none => s.turnedDown f .noSuchSession .empty
        | some x =>
          let rest := (extents id).filter fun e => qh.toNat * 256 + ql.toNat ≤ e.sequence
          s.reported f (.session x (pins id) (extents id).length ((rest.take 200).map fun e =>
            { sequence := e.sequence, label := e.label, firstBlock := e.firstBlock, blockCount := e.blockCount,
              verifyState := e.verifyState }) (decide (200 < rest.length))))) ∧
  (∀ (s : State) (f : RequestFrame) (ih il qh ql : Byte), s.requests f 0x71 [ih, il, qh, ql] →
    let id := ih.toNat * 256 + il.toNat
    exec .extentInfo s = .next (match s.lib.cg.sessions.find? (fun x => x.id = id),
        s.lib.cg.extents.find? (fun e => e.session = id ∧ e.sequence = qh.toNat * 256 + ql.toNat) with
      | some _, some e => s.reported f (.extent e)
      | _, _ => s.turnedDown f .noSuchSession .empty)) ∧
  (∀ (s : State) (f : RequestFrame), s.requests f 0x74 [] →
    let l := s.lib.cg.sessions
    let count (p : SessionRec → Bool) : Nat := (l.filter p).length
    let members (p : Nat) : List CartRec := ((List.range 64).filterMap s.work.cart).filter fun c => c.pool = p
    let held (p : Nat) (m : MediaState) : List CartRec := (members p).filter fun c => c.state = m
    exec .catalogInfo s = .next (s.reported f (.catalog l.length (64 - l.length) s.lib.cg.extents.length
      (1024 - s.lib.cg.extents.length)
      ([SessionState.opened, .closed, .truncated].map fun t => count fun x => x.state = t)
      ([SessionOrigin.written, .loaded, .rebuilt].map fun o => count fun x => x.origin = o)
      (count fun x => s.lib.js.jobs.any fun j => j.pins.contains x.id)
      ((List.range 8).map fun p =>
        { opened := (held p .opened).length, blank := (held p .blank).length, new := (held p .new).length,
          rawRoom := min (((held p .opened ++ held p .blank).filter fun c => isDataKind c.kind).map fun c =>
            ((capacityReport c).estimatedRawRoom).getD 0).sum (2 ^ 64 - 1) })))) ∧
  (∀ (c : CartRec) (k : CartKind) (n : Nat), c.kind = some k → k ≠ .clean → c.blocksUsed = .known n →
    let capacity := if k = .a then 2500000 else 6000000
    let t := capacity - capacity / 64
    let ratio := if c.codedBytes = 0 then 100 else min (100 * c.rawBytes / c.codedBytes) 9999
    capacityReport c =
      { capacity := capacity, reserve := capacity / 64, threshold := t, remainingBlocks := some (t - n), ratio := ratio,
        estimatedRawRoom := some ((t - n) * 65536 * ratio / 100) }) ∧
  (∀ (w : W) (id : Nat) (x : SessionRec), ((w.deriveSession id).session id) = some x →
    let l := w.cg.extents.filter fun e => e.session = id
    ((∀ e ∈ l, e.verifyState = .unverified) → x.verifySummary = .unverified) ∧
    (l ≠ [] → (∀ e ∈ l, e.verifyState = .verified) → x.verifySummary = .verified) ∧
    (l ≠ [] → (∀ e ∈ l, e.verifyState = .damaged) → x.verifySummary = .damaged) ∧
    (∀ a ∈ l, ∀ b ∈ l, a.verifyState ≠ b.verifyState → x.verifySummary = .partly) ∧
    (x.origin ≠ .written → x.objectsBegun = l.foldl (fun m e => max m (e.lastObject.getD 0)) 0 ∧
      x.chunkCount = min (l.map ExtentRec.chunkFrames).sum (2 ^ 64 - 1) ∧
      x.rawBytes = min (l.map ExtentRec.rawBytes).sum (2 ^ 64 - 1) ∧
      x.codedBytes = min (l.map ExtentRec.codedBytes).sum (2 ^ 64 - 1)))

/-- DROP SESSION and LOAD EXTENT (R150, R155, R156): an OPEN or pinned session is IN-USE, another goes with every extent it has,
the number of them in the reply; an extent handed in is taken when no check fails, and makes its session LOADED and CLOSED if no
record bears the id; the first failing check names the refusal, BAD-ARGUMENT's list written out. The bit of CONTINUED in the
flags is log entry 15's. -/
def Obligations.SessionsAreDroppedAndExtentsLoaded : Prop :=
  (∀ (s : State) (f : RequestFrame) (ih il : Byte), s.requests f 0x72 [ih, il] →
    let id := ih.toNat * 256 + il.toNat
    exec .dropSession s = .next (match s.lib.cg.sessions.find? fun x => x.id = id with
      | none => s.turnedDown f .noSuchSession .empty
      | some x =>
        if x.state = .opened ∨ (s.lib.js.jobs.any fun j => j.pins.contains id) = true then s.turnedDown f .inUse .empty
        else s.answered f (s.work.dropSession id).1
          (.extentsFreed (s.lib.cg.extents.filter fun e => e.session = id).length))) ∧
  (∀ (w : W) (id : Nat), (w.cg.extents.map fun e => (e.session, e.sequence)).Nodup →
    (w.dropSession id).1.cg.extents = w.cg.extents.filter (fun e => e.session ≠ id) ∧
    (w.dropSession id).1.cg.sessions = w.cg.sessions.filter (fun x => x.id ≠ id) ∧
    (∀ i c, w.cart i = some c → (w.dropSession id).1.cart i = some { c with
      extentCount := c.extentCount - (w.cg.extents.filter fun e => e.session = id ∧ e.cartridge = i).length }) ∧
    (w.dropSession id).1.js = w.js ∧ (w.dropSession id).1.streams = w.streams ∧ (w.dropSession id).1.cc = w.cc) ∧
  (∀ (s : State) (f : RequestFrame) (session sequence label first count o1 chunk o2 frames raw coded flags pool tag :
      List Byte),
    s.requests f 0x73 (session ++ sequence ++ label ++ first ++ count ++ o1 ++ chunk ++ o2 ++ frames ++ raw ++ coded ++
      flags ++ pool ++ tag) →
    session.length = 2 → sequence.length = 2 → label.length = 8 → first.length = 4 → count.length = 4 → o1.length = 3 →
    chunk.length = 2 → o2.length = 3 → frames.length = 4 → raw.length = 8 → coded.length = 8 → flags.length = 1 →
    pool.length = 1 → tag.length = 8 →
    let e : ExtentIn :=
      { session := beNat session, sequence := beNat sequence, label := label, firstBlock := beNat first,
        blockCount := beNat count, firstObject := beNat o1, firstChunk := beNat chunk, lastObject := beNat o2,
        chunkFrames := beNat frames, rawBytes := beNat raw, codedBytes := beNat coded, flags := beNat flags,
        pool := beNat pool, hostTag := tag }
    (s.work.extentAnswer e none ≠ .ok →
      exec .loadExtent s = .next (s.turnedDown f (s.work.extentAnswer e none) .empty)) ∧
    (∀ i c, s.work.extentAnswer e none = .ok → s.work.cartByLabel label = some i → s.work.cart i = some c →
      let w := s.work.takeExtent e .loaded
      exec .loadExtent s = .next (s.answered f w .empty) ∧
        (∃ x ∈ w.cg.extents, x.session = e.session ∧ x.sequence = e.sequence ∧ x.label = label ∧ x.cartridge = i ∧
          x.firstBlock = e.firstBlock ∧ x.blockCount = e.blockCount ∧ x.chunkFrames = e.chunkFrames ∧
          x.rawBytes = e.rawBytes ∧ x.codedBytes = e.codedBytes ∧ x.isOpen = false ∧ x.verifyState = .unverified ∧
          (e.firstObject = 0 → x.firstObject = none ∧ x.lastObject = none) ∧
          (e.firstObject ≠ 0 → x.firstObject = some e.firstObject ∧ x.firstChunk = e.firstChunk ∧
            x.lastObject = some e.lastObject)) ∧
        w.cg.extents.length = s.lib.cg.extents.length + 1 ∧
        w.cart i = some { c with extentCount := c.extentCount + 1 } ∧
        (∀ r, s.work.session e.session = some r → w.cg.sessions.length = s.lib.cg.sessions.length) ∧
        (s.work.session e.session = none →
          (w.session e.session).map SessionRec.origin = some .loaded ∧
            (w.session e.session).map SessionRec.state = some .closed ∧
            (w.session e.session).map SessionRec.hostTag = some tag ∧
            (w.session e.session).map SessionRec.pool = some e.pool))) ∧
  (∀ (w : W) (e : ExtentIn) (self : Option Nat),
    let i := w.cartByLabel e.label
    let x := w.session e.session
    let wrong : Prop := (∃ r, x = some r ∧ (r.state = .opened ∨ r.origin = .written))
    let pinned : Prop := x ≠ none ∧ ∃ j ∈ w.js.jobs, e.session ∈ j.pins ∧ some j.id ≠ self
    let taken : Prop := ∃ y ∈ w.cg.extents, y.session = e.session ∧ y.sequence = e.sequence
    let meets (k : Nat) : Prop := ∃ y ∈ w.cg.extents, y.cartridge = k ∧ 0 < y.blockCount ∧
      y.firstBlock < e.firstBlock + e.blockCount ∧ e.firstBlock < y.firstBlock + y.blockCount
    let labelRight : Prop := e.label.length = 8 ∧
      (∀ b ∈ e.label, (0x41 ≤ b.toNat ∧ b.toNat ≤ 0x5A) ∨ (0x30 ≤ b.toNat ∧ b.toNat ≤ 0x39)) ∧
      (e.label.drop 6 = [0x44#8, 0x41#8] ∨ e.label.drop 6 = [0x44#8, 0x42#8])
    let capacity := if e.label.drop 6 = [0x44#8, 0x41#8] then 2500000 else 6000000
    (extentArgsBad e = true ↔
      e.session = 0 ∨ 1023 < e.sequence ∨ ¬labelRight ∨ e.blockCount = 0 ∨
      capacity - capacity / 64 + 1 < e.firstBlock + e.blockCount ∨ (e.firstObject = 0 ↔ e.lastObject ≠ 0) ∨
      e.lastObject < e.firstObject ∨ (e.chunkFrames = 0 ↔ e.firstObject ≠ 0) ∨ (e.flags % 2 = 1 ↔ e.sequence = 0) ∨
      7 < e.flags ∨ 7 < e.pool) ∧
    (extentArgsBad e = true → w.extentAnswer e self = .badArgument) ∧
    (extentArgsBad e = false →
      (i = none → w.extentAnswer e self = .noSuchCartridge) ∧
      (∀ k, i = some k →
        (wrong → w.extentAnswer e self = .wrongState) ∧
        (¬wrong → pinned → w.extentAnswer e self = .inUse) ∧
        (¬wrong → ¬pinned → taken → w.extentAnswer e self = .duplicate) ∧
        (¬wrong → ¬pinned → ¬taken → meets k → w.extentAnswer e self = .overlap) ∧
        (¬wrong → ¬pinned → ¬taken → ¬meets k →
          (∀ n, w.knownUsed k = some n → n < e.firstBlock + e.blockCount → w.extentAnswer e self = .beyondEnd) ∧
          ((∀ n, w.knownUsed k = some n → e.firstBlock + e.blockCount ≤ n) →
            w.extentAnswer e self = (if 1024 ≤ w.cg.extents.length ∨ (x = none ∧ 64 ≤ w.cg.sessions.length)
              then .catalogFull else .ok))))))

/-- The placement law of R151 and R157, as the operations that make, lengthen and remove extents keep it: an extent handed in
and taken overlaps no other on its cartridge and ends at `blocksUsed` at the latest; a block written lengthens its extent to
`blocksUsed`; a probed end removes exactly the extents beyond it, each with its notice, and makes a WRITTEN session LOADED. -/
def Obligations.ExtentsStayInTheirPlaces : Prop :=
  (∀ (w : W) (e : ExtentIn) (self : Option Nat) (origin : SessionOrigin) (i : Nat), w.extentAnswer e self = .ok →
    w.cartByLabel e.label = some i →
    (∀ y ∈ w.cg.extents, y.cartridge = i → 0 < y.blockCount →
      y.firstBlock + y.blockCount ≤ e.firstBlock ∨ e.firstBlock + e.blockCount ≤ y.firstBlock) ∧
    (∀ n, w.knownUsed i = some n → e.firstBlock + e.blockCount ≤ n) ∧
    ∃ y, (w.takeExtent e origin).cg.extents.Perm (y :: w.cg.extents) ∧ y.session = e.session ∧ y.sequence = e.sequence ∧
      y.cartridge = i ∧ y.firstBlock = e.firstBlock ∧ y.blockCount = e.blockCount ∧ y.isOpen = false ∧
      (w.takeExtent e origin).knownUsed i = w.knownUsed i) ∧
  (∀ (w : W) (n i : Nat) (buf : Buffer) (j : Job) (b : BackupData) (c : CartRec) (e : ExtentRec),
    w.job n = some j → j.progress = .backup b → w.cart i = some c → w.extent (j.sessionId.getD 0) b.extentSeq = some e →
    e.firstBlock + e.blockCount = buf.index →
    let t := w.countBlock n i buf
    (∃ y, t.extent (j.sessionId.getD 0) b.extentSeq = some y ∧ y.firstBlock = e.firstBlock ∧ y.cartridge = e.cartridge ∧
      t.knownUsed i = some (y.firstBlock + y.blockCount)) ∧
    ((w.cg.extents.map fun y => (y.session, y.sequence)).Nodup →
      (∀ y ∈ w.cg.extents, y.cartridge = i → y.firstBlock + y.blockCount ≤ buf.index) →
      ∀ y ∈ t.cg.extents, y.cartridge = i → ∀ k, t.knownUsed i = some k → y.firstBlock + y.blockCount ≤ k)) ∧
  (∀ (w : W) (i u : Nat), (w.cg.extents.map fun e => (e.session, e.sequence)).Nodup →
    let gone (e : ExtentRec) : Bool := decide (e.cartridge = i) && decide (u < e.firstBlock + e.blockCount)
    let t := w.probedEnd i u
    t.cg.extents = w.cg.extents.filter (fun e => !gone e) ∧
    t.out = w.out ++ ((w.cg.extents.filter gone).map fun e =>
      Notice.extentRemoved e.session e.sequence e.label e.firstBlock e.blockCount u) ∧
    t.cg.sessions.map SessionRec.id = w.cg.sessions.map SessionRec.id ∧
    (∀ x, t.session x.id = some x → (∃ e ∈ w.cg.extents, gone e = true ∧ e.session = x.id) →
      x.origin ≠ .written ∧ (∀ y, w.session x.id = some y →
        x.origin = (if y.origin = .written then .loaded else y.origin) ∧
          x.codingMode = if y.origin = .written then none else y.codingMode)) ∧
    (∀ x, (∀ e ∈ w.cg.extents, gone e = true → e.session ≠ x) → t.session x = w.session x) ∧
    (∀ j ∈ w.js.jobs, ∀ e ∈ w.cg.extents, gone e = true → e.session ∈ j.pins →
      Signal.extentRemoved j.id e.session e.sequence ∈ t.signals))
end

