-- ==== Sys2Proof/Laws/Ambient.lean ====
section
/-! SUPPORT. One lemma per shared operation: what the operations of every block leave as it is (`W.ambient`). The few that
do change it, the commands of the lines, the modes, the gate and the enables, have no lemma here. -/

namespace Sys2Proof.Machine
open Sys2Proof

/-- What settling and every block's own work leave as it is: the mode, the gate, the lines but the picker sensor, the two
enables, the settings read, the sizes of the Cartridge Table, and the door it knows. -/
structure Ambient where
  mode : Mode
  gateOpen : Bool
  pins : Pins
  enable0 : Bool
  enable1 : Bool
  set : List Nat
  slots : Nat
  carts : Nat
  mailDoorOpen : Bool

/-- The part of a working state that `Ambient` keeps. -/
def W.ambient (w : W) : Ambient :=
  { mode := w.mode, gateOpen := w.gateOpen, pins := { w.pins with pickerSensor := false }, enable0 := w.streams.d0.enable, enable1 := w.streams.d1.enable, set := w.set, slots := w.ct.slots.length, carts := w.ct.carts.length, mailDoorOpen := w.ct.mailDoorOpen }

@[simp] theorem W.ambient_mk (mode gateOpen pins ct cc ports js streams coder cg signals dd rd cd set out) :
    (W.mk (Lib.mk mode gateOpen pins ct cc ports js streams coder cg signals dd rd cd) set out).ambient =
      Ambient.mk mode gateOpen { pins with pickerSensor := false } streams.d0.enable streams.d1.enable set ct.slots.length ct.carts.length ct.mailDoorOpen := rfl

@[simp] theorem W.ambient_fold (w : W) :
    Ambient.mk w.mode w.gateOpen { w.pins with pickerSensor := false } w.streams.d0.enable w.streams.d1.enable w.set w.ct.slots.length w.ct.carts.length w.ct.mailDoorOpen = w.ambient := rfl

@[simp] theorem W.ambient_ite (c : Prop) [Decidable c] (a b : W) :
    (if c then a else b).ambient = if c then a.ambient else b.ambient := apply_ite W.ambient c a b

@[simp] theorem Answer.ambient_ite (c : Prop) [Decidable c] (a b : Answer) :
    (if c then a else b).w.ambient = if c then a.w.ambient else b.w.ambient := by split <;> rfl

@[simp] theorem W.ambient_fst_ite {α : Type} (c : Prop) [Decidable c] (a b : W × α) :
    (if c then a else b).1.ambient = if c then a.1.ambient else b.1.ambient := by split <;> rfl

@[simp] theorem W.sensePicker_ambient (w : W) (b : Bool) : (w.sensePicker b).ambient = w.ambient := rfl

@[simp] theorem Stream.putBuf_enable (s : Stream) (i : BufId) (b : Buffer) : (s.putBuf i b).enable = s.enable := by cases i <;> rfl
@[simp] theorem W.bareStream_enable (s : Stream) : (W.bareStream s).enable = s.enable := rfl
@[simp] theorem Stream.modTail_enable (s : Stream) (f) : (s.modTail f).enable = s.enable := by unfold Stream.modTail; split <;> rfl
@[simp] theorem Stream.openChunk_enable (s : Stream) (a b c d e f) : (s.openChunk a b c d e f).enable = s.enable := rfl
@[simp] theorem Stream.accept_enable (n k : Nat) (l : List Byte) (s : Stream) : (Stream.accept n k l s).enable = s.enable := by
  induction n generalizing l s with
  | zero => rfl
  | succ n ih =>
    cases l with
    | nil => rfl
    | cons b t =>
      unfold Stream.accept
      split
      · simp [ih]
      · dsimp only
        split <;> (try split) <;> simp_all
@[simp] theorem Stream.endObject_enable (s : Stream) (a b) : (s.endObject a b).enable = s.enable := by
  unfold Stream.endObject; dsimp only; split <;> (try split) <;> simp
@[simp] theorem Stream.dropIntake_enable (s : Stream) : s.dropIntake.enable = s.enable := rfl
@[simp] theorem Stream.closeBuf_enable (s : Stream) (i) : (s.closeBuf i).enable = s.enable := by simp [Stream.closeBuf]
@[simp] theorem Stream.closeOpen_enable (s : Stream) : s.closeOpen.enable = s.enable := by unfold Stream.closeOpen; split <;> simp
@[simp] theorem Stream.addFrame_enable (s : Stream) (i f) : (s.addFrame i f).enable = s.enable := by
  unfold Stream.addFrame; dsimp only; split <;> simp
@[simp] theorem Stream.openBlock_enable (s : Stream) (i a f) : (s.openBlock i a f).enable = s.enable := by simp [Stream.openBlock]
@[simp] theorem Stream.freeBuffers_enable (s : Stream) : s.freeBuffers.enable = s.enable := rfl
@[simp] theorem Stream.carryOver_enable (s : Stream) : s.carryOver.enable = s.enable := rfl
@[simp] theorem Stream.discardAll_enable (s : Stream) : s.discardAll.enable = s.enable := rfl

@[simp] theorem W.putStream_stream (w : W) (d) (s) : (w.putStream d s).stream d = s := by cases d <;> rfl
@[simp] theorem W.putStream_ambient (w : W) (d : Drive) (s : Stream) (h : s.enable = (w.stream d).enable) :
    (w.putStream d s).ambient = w.ambient := by
  cases d <;> simp_all [W.putStream, -W.ambient_fold, W.ambient, W.stream, Pair.put, Pair.get]
@[simp] theorem W.modStream_ambient (w : W) (d : Drive) (f : Stream → Stream) (h : ∀ s, (f s).enable = s.enable) :
    (w.modStream d f).ambient = w.ambient := by simp [W.modStream, h]
@[simp] theorem W.bareStream_ambient (w : W) (d : Drive) : (w.modStream d W.bareStream).ambient = w.ambient :=
  w.modStream_ambient d _ fun _ => rfl
@[simp] theorem W.carryOver_ambient (w : W) (d : Drive) : (w.modStream d Stream.carryOver).ambient = w.ambient :=
  w.modStream_ambient d _ fun _ => rfl
@[simp] theorem W.discardAll_ambient (w : W) (d : Drive) : (w.modStream d Stream.discardAll).ambient = w.ambient :=
  w.modStream_ambient d _ fun _ => rfl
@[simp] theorem W.closeOpen_ambient (w : W) (d : Drive) : (w.modStream d Stream.closeOpen).ambient = w.ambient :=
  w.modStream_ambient d _ fun _ => by simp
@[simp] theorem W.accept_ambient (w : W) (d : Drive) (n k l) : (w.modStream d (Stream.accept n k l)).ambient = w.ambient :=
  w.modStream_ambient d _ fun _ => by simp
@[simp] theorem W.ite_enable (c : Prop) [Decidable c] (a b : Stream) :
    (if c then a else b).enable = if c then a.enable else b.enable := apply_ite Stream.enable c a b

@[simp] theorem W.ambient_foldl {α : Type} (f : W → α → W) (h : ∀ w a, (f w a).ambient = w.ambient) (l : List α) (w : W) :
    (l.foldl f w).ambient = w.ambient := by
  induction l generalizing w with
  | nil => rfl
  | cons a l ih => rw [List.foldl_cons, ih, h]

@[simp] theorem W.note_ambient (w : W) (n : Notice) :
    (W.note w n).ambient = w.ambient := by
  rfl

@[simp] theorem W.emit_ambient (w : W) (s : Signal) :
    (W.emit w s).ambient = w.ambient := by
  rfl

@[simp] theorem W.wantDispatch_ambient (w : W) :
    (W.wantDispatch w).ambient = w.ambient := by
  rfl

@[simp] theorem W.recordFreed_ambient (w : W) :
    (W.recordFreed w).ambient = w.ambient := by
  rfl

@[simp] theorem W.wantRehome_ambient (w : W) :
    (W.wantRehome w).ambient = w.ambient := by
  rfl

@[simp] theorem W.putSlot_ambient (w : W) (e : Element) (r : SlotRec) :
    (W.putSlot w e r).ambient = w.ambient := by
  unfold W.putSlot; split <;> simp

@[simp] theorem W.putCart_ambient (w : W) (i : Nat) (c : Option CartRec) :
    (W.putCart w i c).ambient = w.ambient := by
  simp [W.putCart]

@[simp] theorem W.modCart_ambient (w : W) (i : Nat) (f : CartRec → CartRec) :
    (W.modCart w i f).ambient = w.ambient := by
  unfold W.modCart; split <;> simp

@[simp] theorem W.setMedia_ambient (w : W) (i : Nat) (s : MediaState) (cause : StateCause) :
    (W.setMedia w i s cause).ambient = w.ambient := by
  unfold W.setMedia; split <;> simp

@[simp] theorem W.putPort_ambient (w : W) (d : Drive) (p : Port) :
    (W.putPort w d p).ambient = w.ambient := by
  rfl

@[simp] theorem W.modPort_ambient (w : W) (d : Drive) (f : Port → Port) :
    (W.modPort w d f).ambient = w.ambient := by
  rfl

@[simp] theorem W.modJob_ambient (w : W) (n : Nat) (f : Job → Job) :
    (W.modJob w n f).ambient = w.ambient := by
  rfl

@[simp] theorem W.modBackup_ambient (w : W) (n : Nat) (f : BackupData → BackupData) :
    (W.modBackup w n f).ambient = w.ambient := by
  rfl

@[simp] theorem W.modVerify_ambient (w : W) (n : Nat) (f : VerifyData → VerifyData) :
    (W.modVerify w n f).ambient = w.ambient := by
  rfl

@[simp] theorem W.modRestore_ambient (w : W) (n : Nat) (f : RestoreData → RestoreData) :
    (W.modRestore w n f).ambient = w.ambient := by
  rfl

@[simp] theorem W.putDriveClaim_ambient (w : W) (d : Drive) (c : Option Nat) :
    (W.putDriveClaim w d c).ambient = w.ambient := by
  rfl

@[simp] theorem W.stopIdle_ambient (w : W) (d : Drive) :
    (W.stopIdle w d).ambient = w.ambient := by
  rfl

@[simp] theorem W.markReturning_ambient (w : W) (i : Nat) :
    (W.markReturning w i).ambient = w.ambient := by
  rfl

@[simp] theorem W.unmarkReturning_ambient (w : W) (i : Nat) :
    (W.unmarkReturning w i).ambient = w.ambient := by
  simp [W.unmarkReturning]

@[simp] theorem W.modSession_ambient (w : W) (id : Nat) (f : SessionRec → SessionRec) :
    (W.modSession w id f).ambient = w.ambient := by
  rfl

@[simp] theorem W.modExtent_ambient (w : W) (id : Nat) (sequence : Nat) (f : ExtentRec → ExtentRec) :
    (W.modExtent w id sequence f).ambient = w.ambient := by
  rfl

@[simp] theorem W.emptySlot_ambient (w : W) (e : Element) :
    (W.emptySlot w e).ambient = w.ambient := by
  unfold W.emptySlot; split <;> simp

@[simp] theorem W.leaveHome_ambient (w : W) (i : Nat) :
    (W.leaveHome w i).ambient = w.ambient := by
  unfold W.leaveHome; split <;> simp

@[simp] theorem W.vacateSlot_ambient (w : W) (e : Element) : (W.vacateSlot w e).ambient = w.ambient := by
  unfold W.vacateSlot; split <;> simp

@[simp] theorem W.releaseHome_ambient (w : W) (i : Nat) :
    (W.releaseHome w i).ambient = w.ambient := by
  unfold W.releaseHome; split <;> simp

@[simp] theorem W.becomeAbsent_ambient (w : W) (i : Nat) :
    (W.becomeAbsent w i).ambient = w.ambient := by
  unfold W.becomeAbsent; (repeat' split) <;> simp

@[simp] theorem W.makeHomeless_ambient (w : W) (i : Nat) :
    (W.makeHomeless w i).ambient = w.ambient := by
  simp [W.makeHomeless]

@[simp] theorem W.rehomeOne_ambient (w : W) (i : Nat) :
    (W.rehomeOne w i).ambient = w.ambient := by
  unfold W.rehomeOne; (repeat' split) <;> simp

@[simp] theorem W.rehome_ambient (w : W) :
    (W.rehome w).ambient = w.ambient := by
  simp [W.rehome]

@[simp] theorem W.modTally_ambient (w : W) (f : ScanTally → ScanTally) :
    (W.modTally w f).ambient = w.ambient := by
  rfl

@[simp] theorem W.scanStarted_ambient (w : W) (range : List Element) :
    (W.scanStarted w range).ambient = w.ambient := by
  rfl

@[simp] theorem W.scanCompleted_ambient (w : W) :
    (W.scanCompleted w).ambient = w.ambient := by
  unfold W.scanCompleted; split <;> simp

@[simp] theorem W.scanAbsent_ambient (w : W) (i : Nat) :
    (W.scanAbsent w i).ambient = w.ambient := by
  simp [W.scanAbsent]

@[simp] theorem W.scanPlace_ambient (w : W) (e : Element) (i : Nat) :
    (W.scanPlace w e i).ambient = w.ambient := by
  simp [W.scanPlace]

@[simp] theorem W.scanCreate_ambient (w : W) (e : Element) (label : Option Label) (state : MediaState) (duplicate : Bool) :
    (W.scanCreate w e label state duplicate).ambient = w.ambient := by
  unfold W.scanCreate; split <;> simp

@[simp] theorem W.scanIdentify_ambient (w : W) (e : Element) (found : Option Label) :
    (W.scanIdentify w e found).ambient = w.ambient := by
  unfold W.scanIdentify; (repeat' split) <;> simp

@[simp] theorem W.scanCartridge_ambient (w : W) (e : Element) (found : Option Label) :
    (W.scanCartridge w e found).ambient = w.ambient := by
  unfold W.scanCartridge; dsimp only; (repeat' split) <;> simp

@[simp] theorem W.scanEmpty_ambient (w : W) (e : Element) :
    (W.scanEmpty w e).ambient = w.ambient := by
  unfold W.scanEmpty; dsimp only; (repeat' split) <;> simp

@[simp] theorem W.slotRemoved_ambient (w : W) (counted : Bool) (n : Nat) :
    (W.slotRemoved w counted n).ambient = w.ambient := by
  unfold W.slotRemoved; dsimp only; (repeat' split) <;> simp

@[simp] theorem W.scanResult_ambient (w : W) (e : Element) (f : SlotFinding) :
    (W.scanResult w e f).ambient = w.ambient := by
  unfold W.scanResult; (repeat' split) <;> simp

@[simp] theorem W.frontOpened_ambient (w : W) :
    (W.frontOpened w).ambient = w.ambient := by
  simp [W.frontOpened]

@[simp] theorem W.magazineGone_ambient (w : W) (m : Magazine) :
    (W.magazineGone w m).ambient = w.ambient := by
  simp [W.magazineGone]

@[simp] theorem W.magazineBack_ambient (w : W) (m : Magazine) :
    (W.magazineBack w m).ambient = w.ambient := by
  simp [W.magazineBack]

@[simp] theorem W.extracted_ambient (w : W) (i : Nat) (source : Element) :
    (W.extracted w i source).ambient = w.ambient := by
  unfold W.extracted; split <;> simp

@[simp] theorem W.extractedUntracked_ambient (w : W) (source : Element) :
    (W.extractedUntracked w source).ambient = w.ambient := by
  simp [W.extractedUntracked]

@[simp] theorem W.makeRoom_ambient (w : W) (i : Option Nat) (e : Element) :
    (W.makeRoom w i e).ambient = w.ambient := by
  unfold W.makeRoom; simp only []; (repeat' split) <;> simp

@[simp] theorem W.placed_ambient (w : W) (i : Nat) (dest : Element) :
    (W.placed w i dest).ambient = w.ambient := by
  unfold W.placed; split <;> simp

@[simp] theorem W.placedUntracked_ambient (w : W) (dest : Element) :
    (W.placedUntracked w dest).ambient = w.ambient := by
  unfold W.placedUntracked; (repeat' split) <;> simp

@[simp] theorem W.sourceFoundEmpty_ambient (w : W) (e : Element) :
    (W.sourceFoundEmpty w e).ambient = w.ambient := by
  unfold W.sourceFoundEmpty; split <;> simp

@[simp] theorem W.takeLabel_ambient (w : W) (i : Nat) (l : Label) (duplicate : Bool) :
    (W.takeLabel w i l duplicate).ambient = w.ambient := by
  simp [W.takeLabel]

@[simp] theorem W.mergeInto_ambient (w : W) (i : Nat) (y : Nat) :
    (W.mergeInto w i y).ambient = w.ambient := by
  unfold W.mergeInto; split <;> simp

@[simp] theorem W.passageRead_ambient (w : W) (i : Nat) (read : Option Label) :
    (W.passageRead w i read).1.ambient = w.ambient := by
  unfold W.passageRead; (repeat' split) <;> simp

@[simp] theorem W.driveReports_ambient (w : W) (d : Drive) :
    (W.driveReports w d).1.ambient = w.ambient := by
  unfold W.driveReports; (repeat' split) <;> simp

@[simp] theorem W.loadReport_ambient (w : W) (i : Nat) (protect : Bool) :
    (W.loadReport w i protect).ambient = w.ambient := by
  simp [W.loadReport]

@[simp] theorem W.putCartClaim_ambient (w : W) (i : Nat) (c : Option Nat) :
    (W.putCartClaim w i c).ambient = w.ambient := by
  simp [W.putCartClaim]

@[simp] theorem W.enterPort_ambient (w : W) (d : Drive) (s : PortState) :
    (W.enterPort w d s).ambient = w.ambient := by
  simp [W.enterPort]

@[simp] theorem W.reportDown_ambient (w : W) (d : Drive) (n : Notice) : (W.reportDown w d n).ambient = w.ambient := by
  rfl

@[simp] theorem W.portFaults_ambient (w : W) (d : Drive) (reason : DriveReason) :
    (W.portFaults w d reason).1.ambient = w.ambient := by
  simp [W.portFaults]

@[simp] theorem W.requestOp_ambient (w : W) (d : Drive) (op : PortOp) (req : Requester) :
    (W.requestOp w d op req).1.ambient = w.ambient := by
  unfold W.requestOp; split <;> simp

@[simp] theorem W.askOp_ambient (w : W) (d : Drive) (op : PortOp) (req : Requester) :
    (W.askOp w d op req).ambient = w.ambient := by
  simp [W.askOp]

@[simp] theorem W.takeCleanRequest_ambient (w : W) (d : Drive) (asked : Bool) :
    (W.takeCleanRequest w d asked).ambient = w.ambient := by
  simp [W.takeCleanRequest]

@[simp] theorem W.leaveReset_ambient (w : W) (d : Drive) :
    (W.leaveReset w d).ambient = w.ambient := by
  simp [W.leaveReset]

@[simp] theorem W.endOp_ambient (w : W) (d : Drive) (outcome : OpOutcome) (after : PortState × Option Nat) (fault : Option DriveReason) (asked : Bool) :
    (W.endOp w d outcome after fault asked).ambient = w.ambient := by
  unfold W.endOp; (repeat' split) <;> simp

@[simp] theorem W.endTransport_ambient (w : W) (d : Drive) (asked : Bool) :
    (W.endTransport w d asked).ambient = w.ambient := by
  simp [W.endTransport]

@[simp] theorem W.loadEnds_ambient (w : W) (d : Drive) (r : LoadReport) (asked : Bool) :
    (W.loadEnds w d r asked).ambient = w.ambient := by
  unfold W.loadEnds; (repeat' split) <;> simp

@[simp] theorem W.locateEnds_ambient (w : W) (d : Drive) (r : LocateReport) (asked : Bool) :
    (W.locateEnds w d r asked).ambient = w.ambient := by
  unfold W.locateEnds; (repeat' split) <;> simp

@[simp] theorem W.locateEndEnds_ambient (w : W) (d : Drive) (r : LocateEndReport) (asked : Bool) :
    (W.locateEndEnds w d r asked).ambient = w.ambient := by
  unfold W.locateEndEnds; (repeat' split) <;> simp

@[simp] theorem W.readEnds_ambient (w : W) (d : Drive) (r : ReadReport) (asked : Bool) :
    (W.readEnds w d r asked).ambient = w.ambient := by
  unfold W.readEnds; (repeat' split) <;> simp

@[simp] theorem W.writeEnds_ambient (w : W) (d : Drive) (r : WriteReport) (asked : Bool) :
    (W.writeEnds w d r asked).ambient = w.ambient := by
  unfold W.writeEnds; (repeat' split) <;> simp

@[simp] theorem W.endMarkEnds_ambient (w : W) (d : Drive) (r : EndMarkReport) (asked : Bool) :
    (W.endMarkEnds w d r asked).ambient = w.ambient := by
  unfold W.endMarkEnds; (repeat' split) <;> simp

@[simp] theorem W.unloadEnds_ambient (w : W) (d : Drive) (r : PlainReport) (asked : Bool) :
    (W.unloadEnds w d r asked).ambient = w.ambient := by
  unfold W.unloadEnds; (repeat' split) <;> simp

@[simp] theorem W.cleanEnds_ambient (w : W) (d : Drive) (r : PlainReport) (asked : Bool) :
    (W.cleanEnds w d r asked).ambient = w.ambient := by
  unfold W.cleanEnds; (repeat' split) <;> simp

@[simp] theorem W.opTimesOut_ambient (w : W) (d : Drive) :
    (W.opTimesOut w d).ambient = w.ambient := by
  simp [W.opTimesOut]

@[simp] theorem W.presenceFalls_ambient (w : W) (d : Drive) :
    (W.presenceFalls w d).ambient = w.ambient := by
  unfold W.presenceFalls; dsimp only; (repeat' split) <;> simp

@[simp] theorem W.enterInit_ambient (w : W) (d : Drive) (fromAbsent : Bool) :
    (W.enterInit w d fromAbsent).ambient = w.ambient := by
  simp [W.enterInit]

@[simp] theorem W.selfTestFails_ambient (w : W) (d : Drive) :
    (W.selfTestFails w d).ambient = w.ambient := by
  rfl

@[simp] theorem W.reportFound_ambient (w : W) (d : Drive) :
    (W.reportFound w d).ambient = w.ambient := by
  simp [W.reportFound]

@[simp] theorem W.selfTestPasses_ambient (w : W) (d : Drive) (holds : MediaSense) :
    (W.selfTestPasses w d holds).ambient = w.ambient := by
  unfold W.selfTestPasses; dsimp only; (repeat' split) <;> simp

@[simp] theorem W.displaceFrom_ambient (w : W) (d : Drive) (c : Contents) :
    (W.displaceFrom w d c).ambient = w.ambient := by
  unfold W.displaceFrom; split <;> simp

@[simp] theorem W.placedIntoOccupied_ambient (w : W) (d : Drive) :
    (W.placedIntoOccupied w d).ambient = w.ambient := by
  simp [W.placedIntoOccupied]

@[simp] theorem W.endByPlace_ambient (w : W) (d : Drive) :
    (W.endByPlace w d).ambient = w.ambient := by
  unfold W.endByPlace; split <;> simp

@[simp] theorem W.portPlaced_ambient (w : W) (d : Drive) (c : Contents) :
    (W.portPlaced w d c).ambient = w.ambient := by
  unfold W.portPlaced; split <;> simp

@[simp] theorem W.portExtracted_ambient (w : W) (d : Drive) :
    (W.portExtracted w d).ambient = w.ambient := by
  simp [W.portExtracted]

@[simp] theorem W.modCC_ambient (w : W) (f : Changer → Changer) :
    (W.modCC w f).ambient = w.ambient := by
  rfl

@[simp] theorem W.ccEnter_ambient (w : W) (s : ChangerState) :
    (W.ccEnter w s).ambient = w.ambient := by
  simp [W.ccEnter]

@[simp] theorem W.beginStep_ambient (w : W) (s : Step) :
    (W.beginStep w s).ambient = w.ambient := by
  simp [W.beginStep]

@[simp] theorem W.endStep_ambient (w : W) :
    (W.endStep w).ambient = w.ambient := by
  rfl

@[simp] theorem W.putMove_ambient (w : W) (m : Move) :
    (W.putMove w m).ambient = w.ambient := by
  rfl

@[simp] theorem W.takeEntryId_ambient (w : W) :
    (W.takeEntryId w).1.ambient = w.ambient := by
  rfl

@[simp] theorem W.queueMove_ambient (w : W) (origin : Origin) (source : Element) (asked : Dest) (expected : Option Label) (ticket : Nat) (cart : Option Nat) :
    (W.queueMove w origin source asked expected ticket cart).1.ambient = w.ambient := by
  simp [W.queueMove]

@[simp] theorem W.queueRecovery_ambient (w : W) :
    (W.queueRecovery w).ambient = w.ambient := by
  rfl

@[simp] theorem W.queueScan_ambient (w : W) (range : List Element) :
    (W.queueScan w range).1.ambient = w.ambient := by
  unfold W.queueScan; split <;> simp

@[simp] theorem W.changerFaultNotice_ambient (w : W) (reason : Reason) (step : Option Step) (element : Option Element) (attempts : Nat) (exhausted : Bool) (cart : Option CartRef) :
    (W.changerFaultNotice w reason step element attempts exhausted cart).ambient = w.ambient := by
  rfl

@[simp] theorem W.countRun_ambient (w : W) (faulted : Bool) (completed : Bool) :
    (W.countRun w faulted completed).ambient = w.ambient := by
  rfl

@[simp] theorem W.goToRest_ambient (w : W) :
    (W.goToRest w).ambient = w.ambient := by
  simp [W.goToRest]

@[simp] theorem W.reportMoveEnd_ambient (w : W) (m : Move) (r : Reason) (c : Contents) (ended : Option Element) :
    (W.reportMoveEnd w m r c ended).ambient = w.ambient := by
  simp [W.reportMoveEnd]

@[simp] theorem W.endMove_ambient (w : W) (m : Move) (r : Reason) (c : Contents) (ended : Option Element) :
    (W.endMove w m r c ended).ambient = w.ambient := by
  simp [W.endMove]

@[simp] theorem W.holdFault_ambient (w : W) (reason : Reason) (s : Option Step) (exhausted : Bool) :
    (W.holdFault w reason s exhausted).ambient = w.ambient := by
  simp [W.holdFault]

@[simp] theorem W.choosePutAway_ambient (w : W) (m : Move) :
    (W.choosePutAway w m).ambient = w.ambient := by
  unfold W.choosePutAway; split <;> simp

@[simp] theorem W.fillPicker_ambient (w : W) (c : Contents) (e : Option Element) :
    (W.fillPicker w c e).ambient = w.ambient := by
  unfold W.fillPicker; simp only []; (repeat' split) <;> simp

@[simp] theorem W.extractAt_ambient (w : W) (source : Element) (read : Option Label) :
    (W.extractAt w source read).1.ambient = w.ambient := by
  unfold W.extractAt; dsimp only; (repeat' split) <;> simp

@[simp] theorem W.extractDone_ambient (w : W) (m : Move) (read : Option Label) :
    (W.extractDone w m read).ambient = w.ambient := by
  unfold W.extractDone; dsimp only; (repeat' split) <;> simp

@[simp] theorem W.placeAt_ambient (w : W) (dest : Element) :
    (W.placeAt w dest).ambient = w.ambient := by
  unfold W.placeAt; dsimp only; (repeat' split) <;> simp

@[simp] theorem W.placeDone_ambient (w : W) (m : Move) :
    (W.placeDone w m).ambient = w.ambient := by
  unfold W.placeDone; split <;> simp

@[simp] theorem W.declareLost_ambient (w : W) :
    (W.declareLost w).ambient = w.ambient := by
  unfold W.declareLost; dsimp only; (repeat' split) <;> simp

@[simp] theorem W.passOver_ambient (x1 : List Element) (x2 : W) :
    (W.passOver x1 x2).1.ambient = x2.ambient := by
  induction x1 generalizing x2 with
  | nil => rfl
  | cons e rest ih => unfold W.passOver; (repeat' split) <;> simp [ih]

@[simp] theorem W.putRemaining_ambient (w : W) (l : List Element) :
    (W.putRemaining w l).ambient = w.ambient := by
  unfold W.putRemaining; (repeat' split) <;> simp

@[simp] theorem W.endScanEntry_ambient (w : W) (faulted : Bool) :
    (W.endScanEntry w faulted).ambient = w.ambient := by
  simp [W.endScanEntry]

@[simp] theorem W.resumeLoaded_ambient (w : W) (m : Move) :
    (W.resumeLoaded w m).ambient = w.ambient := by
  unfold W.resumeLoaded; dsimp only; (repeat' split) <;> simp

@[simp] theorem W.endAtSource_ambient (w : W) (m : Move) (r : Reason) :
    (W.endAtSource w m r).ambient = w.ambient := by
  simp [W.endAtSource]

@[simp] theorem W.resumeEmpty_ambient (w : W) (m : Move) :
    (W.resumeEmpty w m).ambient = w.ambient := by
  unfold W.resumeEmpty; dsimp only; (repeat' split) <;> simp

@[simp] theorem W.resumeHeld_ambient (w : W) (m : Move) (s : Option Step) :
    (W.resumeHeld w m s).ambient = w.ambient := by
  simp [W.resumeHeld]

@[simp] theorem W.endLost_ambient (w : W) (m : Move) :
    (W.endLost w m).ambient = w.ambient := by
  simp [W.endLost]

@[simp] theorem W.spotCheck_ambient (w : W) (dest : Option Element) :
    (W.spotCheck w dest).1.ambient = w.ambient := by
  unfold W.spotCheck; split <;> simp

@[simp] theorem W.spotCheckedMove_ambient (w : W) (m : Move) (present : Bool) :
    (W.spotCheckedMove w m present).ambient = w.ambient := by
  simp [W.spotCheckedMove]

@[simp] theorem W.settleMove_ambient (w : W) (m : Move) (s : Step) (sensed : Bool) :
    (W.settleMove w m s sensed).1.ambient = w.ambient := by
  unfold W.settleMove; dsimp only; (repeat' split) <;> simp

@[simp] theorem W.keepSettled_ambient (w : W) (s : Step) :
    (W.keepSettled w s).ambient = w.ambient := by
  rfl

@[simp] theorem W.holdPickerOccupied_ambient (w : W) :
    (W.holdPickerOccupied w).ambient = w.ambient := by
  simp [W.holdPickerOccupied]

@[simp] theorem W.closeFinished_ambient (w : W) :
    (W.closeFinished w).ambient = w.ambient := by
  unfold W.closeFinished; dsimp only; (repeat' split) <;> simp

@[simp] theorem W.scanGoesOn_ambient (w : W) :
    (W.scanGoesOn w).ambient = w.ambient := by
  unfold W.scanGoesOn; dsimp only; (repeat' split) <;> simp

@[simp] theorem W.startCloseScan_ambient (w : W) :
    (W.startCloseScan w).ambient = w.ambient := by
  simp [W.startCloseScan]

@[simp] theorem W.powerOnHomed_ambient (w : W) (sensed : Bool) :
    (W.powerOnHomed w sensed).ambient = w.ambient := by
  simp [W.powerOnHomed]

@[simp] theorem W.resetFound_ambient (w : W) :
    (W.resetFound w).ambient = w.ambient := by
  simp [W.resetFound]

@[simp] theorem W.resetSettled_ambient (w : W) (sensed : Bool) :
    (W.resetSettled w sensed).1.ambient = w.ambient := by
  unfold W.resetSettled; (repeat' split) <;> (try simp) <;> (repeat' split) <;> (try simp) <;> (repeat' split) <;> (try simp_all)
  all_goals (cases ‹Interrupted›.dest <;> simp)

@[simp] theorem W.dropInterrupted_ambient (w : W) :
    (W.dropInterrupted w).ambient = w.ambient := by
  rfl

@[simp] theorem W.pickerRechecked_ambient (w : W) (sensed : Bool) :
    (W.pickerRechecked w sensed).ambient = w.ambient := by
  simp [W.pickerRechecked]

@[simp] theorem W.runSequence_ambient (w : W) (seq : HomingFor) (sensed : Bool) :
    (W.runSequence w seq sensed).1.ambient = w.ambient := by
  unfold W.runSequence; split <;> simp

@[simp] theorem W.closeSettled_ambient (w : W) (sensed : Bool) :
    (W.closeSettled w sensed).ambient = w.ambient := by
  unfold W.closeSettled; dsimp only; (repeat' split) <;> simp

@[simp] theorem W.startHoming_ambient (w : W) (seq : HomingFor) :
    (W.startHoming w seq).ambient = w.ambient := by
  simp [W.startHoming]

@[simp] theorem W.clearSettled_ambient (w : W) (sensed : Bool) :
    (W.clearSettled w sensed).ambient = w.ambient := by
  unfold W.clearSettled; dsimp only; (repeat' split) <;> simp

@[simp] theorem W.homed_ambient (w : W) (sensed : Bool) :
    (W.homed w sensed).ambient = w.ambient := by
  simp [W.homed]

@[simp] theorem W.spotChecked_ambient (w : W) (present : Bool) :
    (W.spotChecked w present).ambient = w.ambient := by
  have h : ∀ o : Option Interrupted, ((o.bind fun a => a.dest.map w.endStep.placeAt).getD w.endStep).ambient = w.ambient := by
    intro o
    cases o with
    | none => simp
    | some a => cases h : a.dest <;> simp [h]
  unfold W.spotChecked; dsimp only; (repeat' split) <;> simp_all [Option.bind_map]

@[simp] theorem W.countAttempt_ambient (w : W) (s : Step) (mark : Bool) (n : Nat) :
    (W.countAttempt w s mark n).ambient = w.ambient := by
  unfold W.countAttempt; (repeat' split) <;> simp

@[simp] theorem W.noteResume_ambient (w : W) (s : Step) :
    (W.noteResume w s).ambient = w.ambient := by
  unfold W.noteResume; (repeat' split) <;> simp

@[simp] theorem W.retryOrHold_ambient (w : W) (reason : Reason) (s : Step) :
    (W.retryOrHold w reason s).ambient = w.ambient := by
  simp [W.retryOrHold]

@[simp] theorem W.reactHold_ambient (w : W) (reason : Reason) (s : Step) :
    (W.reactHold w reason s).ambient = w.ambient := by
  simp [W.reactHold]

@[simp] theorem W.stall_ambient (w : W) :
    (W.stall w).ambient = w.ambient := by
  unfold W.stall; split <;> simp

@[simp] theorem W.reportGripMiss_ambient (w : W) (m : Move) :
    (W.reportGripMiss w m).ambient = w.ambient := by
  simp [W.reportGripMiss]

@[simp] theorem W.gripMiss_ambient (w : W) :
    (W.gripMiss w).ambient = w.ambient := by
  unfold W.gripMiss; dsimp only; (repeat' split) <;> simp

@[simp] theorem W.reportPlaceBlocked_ambient (w : W) (m : Move) :
    (W.reportPlaceBlocked w m).ambient = w.ambient := by
  simp [W.reportPlaceBlocked]

@[simp] theorem W.placeBlocked_ambient (w : W) :
    (W.placeBlocked w).ambient = w.ambient := by
  unfold W.placeBlocked; dsimp only; (repeat' split) <;> simp

@[simp] theorem W.startScanEntry_ambient (w : W) (s : Scan) :
    (W.startScanEntry w s).ambient = w.ambient := by
  simp [W.startScanEntry]

@[simp] theorem W.startRecovery_ambient (w : W) (m : Move) (sensed : Bool) :
    (W.startRecovery w m sensed).ambient = w.ambient := by
  unfold W.startRecovery; dsimp only; (repeat' split) <;> simp

@[simp] theorem W.startMove_ambient (w : W) (m : Move) (sensed : Bool) :
    (W.startMove w m sensed).ambient = w.ambient := by
  unfold W.startMove; dsimp only; (repeat' split) <;> simp

@[simp] theorem W.startEntry_ambient (w : W) (sensed : Bool) :
    (W.startEntry w sensed).ambient = w.ambient := by
  unfold W.startEntry; dsimp only; (repeat' split) <;> simp

@[simp] theorem W.clearFault_ambient (w : W) :
    (W.clearFault w).ambient = w.ambient := by
  unfold W.clearFault; dsimp only; (repeat' split) <;> simp

@[simp] theorem W.frontDoorOpens_ambient (w : W) :
    (W.frontDoorOpens w).ambient = w.ambient := by
  simp [W.frontDoorOpens]

@[simp] theorem W.frontDoorCloses_ambient (w : W) :
    (W.frontDoorCloses w).ambient = w.ambient := by
  simp [W.frontDoorCloses]

@[simp] theorem W.resetChangerNow_ambient (w : W) :
    (W.resetChangerNow w).ambient = w.ambient := by
  simp [W.resetChangerNow]

@[simp] theorem W.deriveSession_ambient (w : W) (id : Nat) :
    (W.deriveSession w id).ambient = w.ambient := by
  rfl

@[simp] theorem W.createSession_ambient (w : W) (s : SessionRec) :
    (W.createSession w s).ambient = w.ambient := by
  rfl

@[simp] theorem W.makeExtent_ambient (w : W) (e : ExtentRec) :
    (W.makeExtent w e).ambient = w.ambient := by
  simp [W.makeExtent]

@[simp] theorem W.freeExtent_ambient (w : W) (id : Nat) (sequence : Nat) :
    (W.freeExtent w id sequence).ambient = w.ambient := by
  unfold W.freeExtent; split <;> simp

@[simp] theorem W.setVerdict_ambient (w : W) (id : Nat) (sequence : Nat) (v : VerifyState) (damaged : Nat) :
    (W.setVerdict w id sequence v damaged).ambient = w.ambient := by
  rfl

@[simp] theorem W.dropSession_ambient (w : W) (id : Nat) :
    (W.dropSession w id).1.ambient = w.ambient := by
  simp [W.dropSession]

@[simp] theorem W.takeExtent_ambient (w : W) (e : ExtentIn) (origin : SessionOrigin) :
    (W.takeExtent w e origin).ambient = w.ambient := by
  unfold W.takeExtent; split <;> simp

@[simp] theorem W.removeExtent_ambient (w : W) (u : Nat) (e : ExtentRec) :
    (W.removeExtent w u e).ambient = w.ambient := by
  simp [W.removeExtent]

@[simp] theorem W.probedEnd_ambient (w : W) (i : Nat) (u : Nat) :
    (W.probedEnd w i u).ambient = w.ambient := by
  simp [W.probedEnd]

@[simp] theorem W.suspectByVerify_ambient (w : W) (i : Nat) :
    (W.suspectByVerify w i).ambient = w.ambient := by
  simp [W.suspectByVerify]

@[simp] theorem W.countVerdict_ambient (w : W) (n : Nat) (t : Tally) :
    (W.countVerdict w n t).ambient = w.ambient := by
  simp [W.countVerdict]

@[simp] theorem W.noteVerdict_ambient (w : W) (n : Nat) (i : Nat) (t : Tally) :
    (W.noteVerdict w n i t).ambient = w.ambient := by
  simp [W.noteVerdict]

@[simp] theorem W.recordVerdict_ambient (w : W) (n : Nat) (session : Nat) (sequence : Nat) (t : Tally) :
    (W.recordVerdict w n session sequence t).ambient = w.ambient := by
  unfold W.recordVerdict; split <;> simp

@[simp] theorem W.endChecking_ambient (w : W) (n : Nat) :
    (W.endChecking w n).ambient = w.ambient := by
  unfold W.endChecking; (repeat' split) <;> simp

@[simp] theorem W.recordUnended_ambient (w : W) (n : Nat) :
    (W.recordUnended w n).ambient = w.ambient := by
  unfold W.recordUnended; (repeat' split) <;> simp

@[simp] theorem W.verifyDoneNotice_ambient (w : W) (n : Nat) (r : JobResult) :
    (W.verifyDoneNotice w n r).ambient = w.ambient := by
  unfold W.verifyDoneNotice; (repeat' split) <;> simp

@[simp] theorem W.jobNotice_ambient (w : W) (n : Nat) (was : Option JobState) :
    (W.jobNotice w n was).ambient = w.ambient := by
  unfold W.jobNotice; split <;> simp

@[simp] theorem W.setJob_ambient (w : W) (n : Nat) (s : JobState) (why : Option WaitReason) :
    (W.setJob w n s why).ambient = w.ambient := by
  unfold W.setJob; split <;> simp

@[simp] theorem W.waitFor_ambient (w : W) (n : Nat) (r : WaitReason) :
    (W.waitFor w n r).ambient = w.ambient := by
  simp [W.waitFor]

@[simp] theorem W.waitMedia_ambient (w : W) (n : Nat) (wanted : MediaWanted) :
    (W.waitMedia w n wanted).ambient = w.ambient := by
  unfold W.waitMedia; dsimp only; (repeat' split) <;> simp

@[simp] theorem W.freeJob_ambient (w : W) (n : Nat) :
    (W.freeJob w n).ambient = w.ambient := by
  rfl

@[simp] theorem W.admit_ambient (w : W) (kind : JobKind) (session : Option Nat) (target : Target) (progress : Progress) (pins : List Nat) :
    (W.admitJob w kind session target progress pins).1.ambient = w.ambient := by
  unfold W.admitJob; (repeat' split) <;> simp

@[simp] theorem W.releaseCart_ambient (w : W) (n : Nat) :
    (W.releaseCart w n).ambient = w.ambient := by
  unfold W.releaseCart; (repeat' split) <;> simp

@[simp] theorem W.unbind_ambient (w : W) (n : Nat) :
    (W.unbind w n).ambient = w.ambient := by
  unfold W.unbind; (repeat' split) <;> simp

@[simp] theorem W.releaseDrive_ambient (w : W) (n : Nat) :
    (W.releaseDrive w n).ambient = w.ambient := by
  unfold W.releaseDrive; (repeat' split) <;> simp

@[simp] theorem W.releaseBoth_ambient (w : W) (n : Nat) :
    (W.releaseBoth w n).ambient = w.ambient := by
  simp [W.releaseBoth]

@[simp] theorem W.dropHeld_ambient (w : W) (n : Nat) :
    (W.dropHeld w n).ambient = w.ambient := by
  rfl

@[simp] theorem W.finishJob_ambient (w : W) (n : Nat) (s : JobState) (r : JobResult) :
    (W.finishJob w n s r).ambient = w.ambient := by
  unfold W.finishJob; split <;> simp

@[simp] theorem W.endJob_ambient (w : W) (n : Nat) (s : JobState) (r : JobResult) :
    (W.endJob w n s r).ambient = w.ambient := by
  unfold W.endJob; split <;> simp

@[simp] theorem W.issueMove_ambient (w : W) (origin : Origin) (source : Element) (asked : Dest) (i : Option Nat) :
    (W.issueMove w origin source asked i).1.ambient = w.ambient := by
  unfold W.issueMove; dsimp only; (repeat' split) <;> simp

@[simp] theorem W.issueJobMove_ambient (w : W) (n : Nat) (source : Element) (asked : Dest) (i : Option Nat) (s : MountStep) :
    (W.issueJobMove w n source asked i s).ambient = w.ambient := by
  simp [W.issueJobMove]

@[simp] theorem W.issueReturn_ambient (w : W) (d : Drive) :
    (W.issueReturn w d).ambient = w.ambient := by
  unfold W.issueReturn; split <;> simp

@[simp] theorem W.issueHeld_ambient (w : W) :
    (W.issueHeld w).ambient = w.ambient := by
  unfold W.issueHeld; split <;> simp

@[simp] theorem W.bind_ambient (w : W) (n : Nat) (d : Drive) :
    (W.bind w n d).ambient = w.ambient := by
  unfold W.bind; (repeat' split) <;> simp

@[simp] theorem W.atStep_ambient (w : W) (n : Nat) (s : MountStep) :
    (W.atStep w n s).ambient = w.ambient := by
  rfl

@[simp] theorem W.startCleaning_ambient (w : W) (n : Nat) (d : Drive) :
    (W.startCleaning w n d).ambient = w.ambient := by
  simp [W.startCleaning]

@[simp] theorem W.mountLoaded_ambient (w : W) (n : Nat) (j : Job) (d : Drive) (i : Nat) :
    (W.mountLoaded w n j d i).ambient = w.ambient := by
  unfold W.mountLoaded; split <;> simp

@[simp] theorem W.returnLeft_ambient (w : W) (l : List Drive) : (W.returnLeft w l).ambient = w.ambient :=
  W.ambient_foldl _ (fun v d => by split <;> simp) l w

@[simp] theorem W.mountBring_ambient (w : W) (n : Nat) (j : Job) (d : Drive) (i : Nat) :
    (W.mountBring w n j d i).ambient = w.ambient := by
  unfold W.mountBring; (repeat' split) <;> simp

@[simp] theorem W.mountNext_ambient (w : W) (n : Nat) :
    (W.mountNext w n).ambient = w.ambient := by
  unfold W.mountNext; (repeat' split) <;> simp

@[simp] theorem W.startYield_ambient (w : W) (n : Nat) :
    (W.startYield w n).ambient = w.ambient := by
  unfold W.startYield; split <;> simp

@[simp] theorem W.maybeYield_ambient (w : W) (n : Nat) :
    (W.maybeYield w n).ambient = w.ambient := by
  unfold W.maybeYield; split <;> simp

@[simp] theorem W.claimCart_ambient (w : W) (n : Nat) (i : Nat) :
    (W.claimCart w n i).ambient = w.ambient := by
  unfold W.claimCart; split <;> simp

@[simp] theorem W.startMount_ambient (w : W) (n : Nat) (d : Drive) (i : Nat) :
    (W.startMount w n d i).ambient = w.ambient := by
  simp [W.startMount]

@[simp] theorem W.dispatchOne_ambient (w : W) (n : Nat) :
    (W.dispatchOne w n).ambient = w.ambient := by
  unfold W.dispatchOne; (repeat' split) <;> simp

@[simp] theorem W.dispatch_ambient (w : W) :
    (W.dispatch w).ambient = w.ambient := by
  simp [W.dispatch]

@[simp] theorem W.idleExpires_ambient (w : W) (d : Drive) :
    (W.idleExpires w d).ambient = w.ambient := by
  unfold W.idleExpires; (repeat' split) <;> simp

@[simp] theorem W.idleStarts_ambient (w : W) (d : Drive) (limit : Nat) :
    (W.idleStarts w d limit).ambient = w.ambient := by
  unfold W.idleStarts; dsimp only; (repeat' split) <;> simp

@[simp] theorem W.idleAtOnce_ambient (w : W) (d : Drive) :
    (W.idleAtOnce w d).ambient = w.ambient := by
  simp [W.idleAtOnce]

@[simp] theorem W.idleCheck_ambient (w : W) (d : Drive) :
    (W.idleCheck w d).ambient = w.ambient := by
  simp [W.idleCheck]

@[simp] theorem W.idlePendingRuns_ambient (w : W) (d : Drive) :
    (W.idlePendingRuns w d).ambient = w.ambient := by
  simp [W.idlePendingRuns]

@[simp] theorem W.returnRehomed_ambient (w : W) (i : Nat) :
    (W.returnRehomed w i).ambient = w.ambient := by
  unfold W.returnRehomed; split <;> simp

@[simp] theorem W.keepNeed_ambient (w : W) (d : Drive) (need : Bool) : (W.keepNeed w d need).ambient = w.ambient := rfl

@[simp] theorem W.admitClean_ambient (w : W) (d : Drive) :
    (W.admitClean w d).1.ambient = w.ambient := by
  unfold W.admitClean; dsimp only; split <;> simp

@[simp] theorem W.cleanWanted_ambient (w : W) (d : Drive) :
    (W.cleanWanted w d).ambient = w.ambient := by
  unfold W.cleanWanted; dsimp only; (repeat' split) <;> simp

@[simp] theorem W.cleanRetry_ambient (w : W) (d : Drive) :
    (W.cleanRetry w d).ambient = w.ambient := by
  unfold W.cleanRetry; (repeat' split) <;> simp

@[simp] theorem W.cleaningUse_ambient (w : W) (i : Nat) :
    (W.cleaningUse w i).ambient = w.ambient := by
  simp [W.cleaningUse]

@[simp] theorem W.placeFrame_ambient (w : W) (d : Drive) (f : Frame) :
    (W.placeFrame w d f).1.ambient = w.ambient := by
  unfold W.placeFrame; dsimp only; (repeat' split) <;> simp

@[simp] theorem W.placeCarry_ambient (x1 : Nat) (x2 : Drive) (x3 : W) :
    (W.placeCarry x1 x2 x3).1.ambient = x3.ambient := by
  induction x1 generalizing x3 with
  | zero => rfl
  | succ n ih => unfold W.placeCarry; dsimp only; (repeat' split) <;> simp [ih]

@[simp] theorem W.placeAllCarry_ambient (w : W) (d : Drive) :
    (W.placeAllCarry w d).1.ambient = w.ambient := by
  simp [W.placeAllCarry]

@[simp] theorem W.presentWrite_ambient (w : W) (d : Drive) :
    (W.presentWrite w d).ambient = w.ambient := by
  unfold W.presentWrite; dsimp only; (repeat' split) <;> simp

@[simp] theorem W.presentRead_ambient (w : W) (d : Drive) :
    (W.presentRead w d).ambient = w.ambient := by
  unfold W.presentRead; dsimp only; (repeat' split) <;> simp

@[simp] theorem W.beginEncoding_ambient (w : W) (d : Drive) (n : Nat) :
    (W.beginEncoding w d n).ambient = w.ambient := by
  unfold W.beginEncoding; dsimp only; (repeat' split) <;> simp

@[simp] theorem W.beginDecoding_ambient (w : W) (d : Drive) (n : Nat) :
    (W.beginDecoding w d n).ambient = w.ambient := by
  unfold W.beginDecoding; dsimp only; (repeat' split) <;> simp

@[simp] theorem W.considerGrant_ambient (w : W) :
    (W.considerGrant w).ambient = w.ambient := by
  unfold W.considerGrant; (repeat' split) <;> simp

@[simp] theorem W.coderIdle_ambient (w : W) :
    (W.coderIdle w).ambient = w.ambient := by
  rfl

@[simp] theorem W.markNoEnd_ambient (w : W) (n : Nat) (b : Bool) :
    (W.markNoEnd w n b).ambient = w.ambient := by
  unfold W.markNoEnd; split <;> simp

@[simp] theorem W.setEnding_ambient (w : W) (n : Nat) (e : Option Ending) :
    (W.setEnding w n e).ambient = w.ambient := by
  rfl

@[simp] theorem W.fullAtThreshold_ambient (w : W) (i : Nat) :
    (W.fullAtThreshold w i).ambient = w.ambient := by
  simp [W.fullAtThreshold]

@[simp] theorem W.closeExtent_ambient (w : W) (n : Nat) (continues : Bool) (endMark : Bool) :
    (W.closeExtent w n continues endMark).ambient = w.ambient := by
  unfold W.closeExtent; dsimp only; (repeat' split) <;> simp

@[simp] theorem W.startEndMark_ambient (w : W) (n : Nat) (why : EndFor) :
    (W.startEndMark w n why).ambient = w.ambient := by
  unfold W.startEndMark; (repeat' split) <;> simp

@[simp] theorem W.handOver_ambient (w : W) (n : Nat) :
    (W.handOver w n).ambient = w.ambient := by
  unfold W.handOver; (repeat' split) <;> simp

@[simp] theorem W.truncWritten_ambient (w : W) (n : Nat) (endMark : Bool) :
    (W.truncWritten w n endMark).ambient = w.ambient := by
  unfold W.truncWritten; dsimp only; (repeat' split) <;> simp

@[simp] theorem W.placeTruncMarker_ambient (w : W) (n : Nat) (d : Drive) (objects : Nat) :
    (W.placeTruncMarker w n d objects).ambient = w.ambient := by
  unfold W.placeTruncMarker; dsimp only; (repeat' split) <;> simp

@[simp] theorem W.truncPlaceCarry_ambient (w : W) (n : Nat) (d : Drive) (objects : Nat) :
    (W.truncPlaceCarry w n d objects).ambient = w.ambient := by
  unfold W.truncPlaceCarry; dsimp only; (repeat' split) <;> simp

@[simp] theorem W.callTruncation_ambient (w : W) (n : Nat) (how : JobState × JobResult) :
    (W.callTruncation w n how).ambient = w.ambient := by
  unfold W.callTruncation; dsimp only; (repeat' split) <;> simp

@[simp] theorem W.spanHandOver_ambient (w : W) (n : Nat) :
    (W.spanHandOver w n).ambient = w.ambient := by
  unfold W.spanHandOver; (repeat' split) <;> simp

@[simp] theorem W.beginEarlySpan_ambient (w : W) (n : Nat) (d : Drive) :
    (W.beginEarlySpan w n d).ambient = w.ambient := by
  simp [W.beginEarlySpan]

@[simp] theorem W.buildSpanMarker_ambient (w : W) (n : Nat) (d : Drive) (b : BackupData) :
    (W.buildSpanMarker w n d b).ambient = w.ambient := by
  unfold W.buildSpanMarker; dsimp only; (repeat' split) <;> simp

@[simp] theorem W.placeSessionEnd_ambient (w : W) (n : Nat) (d : Drive) (objects : Nat) :
    (W.placeSessionEnd w n d objects).ambient = w.ambient := by
  unfold W.placeSessionEnd; dsimp only; (repeat' split) <;> simp

@[simp] theorem W.sessionCloses_ambient (w : W) (n : Nat) (auto : Bool) :
    (W.sessionCloses w n auto).ambient = w.ambient := by
  simp [W.sessionCloses]

@[simp] theorem W.truncAdvance_ambient (w : W) (n : Nat) (b : BackupData) :
    (W.truncAdvance w n b).ambient = w.ambient := by
  unfold W.truncAdvance; dsimp only; (repeat' split) <;> simp

@[simp] theorem W.backupAdvance_ambient (w : W) (n : Nat) :
    (W.backupAdvance w n).ambient = w.ambient := by
  unfold W.backupAdvance; (repeat' split) <;> simp

@[simp] theorem W.attach_ambient (w : W) (n : Nat) (d : Drive) (b : BackupData) (i : Nat) (first : Nat) :
    (W.attach w n d b i first).ambient = w.ambient := by
  unfold W.attach; dsimp only; (repeat' split) <;> simp

@[simp] theorem W.beginExtent_ambient (w : W) (n : Nat) :
    (W.beginExtent w n).ambient = w.ambient := by
  unfold W.beginExtent; (repeat' split) <;> simp

@[simp] theorem W.secureFrame_ambient (n : Nat) (label : Option Label) (block : Nat) (w : W) (f : Frame) :
    (W.secureFrame n label block w f).ambient = w.ambient := by
  unfold W.secureFrame; dsimp only; (repeat' split) <;> simp

@[simp] theorem W.countBlock_ambient (w : W) (n : Nat) (i : Nat) (buf : Buffer) :
    (W.countBlock w n i buf).ambient = w.ambient := by
  simp [W.countBlock]

@[simp] theorem W.writeOk_ambient (w : W) (n : Nat) (d : Drive) (k : BufId) :
    (W.writeOk w n d k).ambient = w.ambient := by
  unfold W.writeOk; dsimp only; (repeat' split) <;> simp

@[simp] theorem W.writeFails_ambient (w : W) (n : Nat) (d : Drive) :
    (W.writeFails w n d).ambient = w.ambient := by
  unfold W.writeFails; dsimp only; (repeat' split) <;> simp

@[simp] theorem W.closingTruncated_ambient (w : W) (n : Nat) (endMark : Bool) :
    (W.closingTruncated w n endMark).ambient = w.ambient := by
  simp [W.closingTruncated]

@[simp] theorem W.endMarkDone_ambient (w : W) (n : Nat) (why : EndFor) (endMark : Bool) :
    (W.endMarkDone w n why endMark).ambient = w.ambient := by
  unfold W.endMarkDone; dsimp only; (repeat' split) <;> simp

@[simp] theorem W.backupReleases_ambient (w : W) (n : Nat) (why : WaitReason) :
    (W.backupReleases w n why).ambient = w.ambient := by
  simp [W.backupReleases]

@[simp] theorem W.loseCartridge_ambient (w : W) (n : Nat) (wasWrite : Bool) :
    (W.loseCartridge w n wasWrite).ambient = w.ambient := by
  unfold W.loseCartridge; dsimp only; (repeat' split) <;> simp

@[simp] theorem W.loseWrite_ambient (w : W) (n : Nat) (wasWrite : Bool) :
    (W.loseWrite w n wasWrite).ambient = w.ambient := by
  unfold W.loseWrite; dsimp only; (repeat' split) <;> simp

@[simp] theorem W.backupLetsGo_ambient (w : W) (n : Nat) (wasWrite : Bool) (absent : Bool) :
    (W.backupLetsGo w n wasWrite absent).ambient = w.ambient := by
  unfold W.backupLetsGo; (repeat' split) <;> simp

@[simp] theorem W.backupOp_ambient (w : W) (n : Nat) (d : Drive) (op : PortOp) (r : OpOutcome) :
    (W.backupOp w n d op r).ambient = w.ambient := by
  unfold W.backupOp; dsimp only; (repeat' split) <;> simp

@[simp] theorem W.takeFrame_ambient (w : W) (n : Nat) (d : Drive) (f : Frame) :
    (W.takeFrame w n d f).ambient = w.ambient := by
  unfold W.takeFrame; dsimp only; (repeat' split) <;> simp

@[simp] theorem W.encodingEnds_ambient (w : W) :
    (W.encodingEnds w).ambient = w.ambient := by
  unfold W.encodingEnds; (repeat' split) <;> simp

@[simp] theorem W.resumePlacing_ambient (w : W) (d : Drive) :
    (W.resumePlacing w d).ambient = w.ambient := by
  unfold W.resumePlacing; dsimp only; (repeat' split) <;> simp

@[simp] theorem W.takeRecord_ambient (w : W) (n : Nat) :
    (W.takeRecord w n).ambient = w.ambient := by
  simp [W.takeRecord]

@[simp] theorem W.serveCatalogWaits_ambient (w : W) :
    (W.serveCatalogWaits w).ambient = w.ambient := by
  simp [W.serveCatalogWaits]

@[simp] theorem W.modTallyOf_ambient (w : W) (n : Nat) (f : Tally → Tally) :
    (W.modTallyOf w n f).ambient = w.ambient := by
  rfl

@[simp] theorem W.pinFor_ambient (w : W) (n : Nat) (session : Nat) :
    (W.pinFor w n session).ambient = w.ambient := by
  rfl

@[simp] theorem W.restThenEnd_ambient (w : W) (n : Nat) (how : JobState × JobResult) :
    (W.restThenEnd w n how).ambient = w.ambient := by
  unfold W.restThenEnd; dsimp only; (repeat' split) <;> simp

@[simp] theorem W.handFound_ambient (w : W) (n : Nat) (i : Nat) (v : VerifyData) (f : FoundExtent) (e : ExtentIn) (t : Tally) :
    (W.handFound w n i v f e t).ambient = w.ambient := by
  unfold W.handFound; (repeat' split) <;> simp

@[simp] theorem W.endFound_ambient (w : W) (n : Nat) (markAt : Option Nat) :
    (W.endFound w n markAt).ambient = w.ambient := by
  unfold W.endFound; (repeat' split) <;> simp

@[simp] theorem W.endCurrent_ambient (w : W) (n : Nat) (markAt : Option Nat) :
    (W.endCurrent w n markAt).ambient = w.ambient := by
  simp [W.endCurrent]

@[simp] theorem W.makeCurrent_ambient (w : W) (n : Nat) (e : ExtentRec) :
    (W.makeCurrent w n e).ambient = w.ambient := by
  rfl

@[simp] theorem W.foundBoundary_ambient (w : W) (n : Nat) (b : Nat) :
    (W.foundBoundary w n b).ambient = w.ambient := by
  unfold W.foundBoundary; (repeat' split) <;> simp

@[simp] theorem W.enterBlock_ambient (w : W) (n : Nat) (b : Nat) :
    (W.enterBlock w n b).ambient = w.ambient := by
  unfold W.enterBlock; dsimp only; (repeat' split) <;> simp

@[simp] theorem W.verifyFrame_ambient (w : W) (n : Nat) (r : ResultRec) :
    (W.verifyFrame w n r).ambient = w.ambient := by
  unfold W.verifyFrame; dsimp only; (repeat' split) <;> simp

@[simp] theorem W.checkStart_ambient (w : W) (n : Nat) (v : VerifyData) (h : FrameHeader) (b : Nat) (offset : Nat) :
    (W.checkStart w n v h b offset).ambient = w.ambient := by
  simp [W.checkStart]

@[simp] theorem W.verifyStart_ambient (w : W) (n : Nat) (h : FrameHeader) (b : Nat) (offset : Nat) :
    (W.verifyStart w n h b offset).ambient = w.ambient := by
  unfold W.verifyStart; dsimp only; (repeat' split) <;> simp

@[simp] theorem W.verifyEnd_ambient (w : W) (n : Nat) (h : FrameHeader) (b : Nat) :
    (W.verifyEnd w n h b).ambient = w.ambient := by
  unfold W.verifyEnd; (repeat' split) <;> simp

@[simp] theorem W.verifyMarker_ambient (w : W) (n : Nat) (h : FrameHeader) (b : Nat) (offset : Nat) :
    (W.verifyMarker w n h b offset).ambient = w.ambient := by
  simp [W.verifyMarker]

@[simp] theorem W.verifyHeaderBad_ambient (w : W) (n : Nat) (b : Nat) :
    (W.verifyHeaderBad w n b).ambient = w.ambient := by
  unfold W.verifyHeaderBad; dsimp only; (repeat' split) <;> simp

@[simp] theorem W.verifyFinish_ambient (w : W) (n : Nat) :
    (W.verifyFinish w n).ambient = w.ambient := by
  unfold W.verifyFinish; split <;> simp

@[simp] theorem W.endRemaining_ambient (n : Nat) (from_ : Option Nat) (w : W) (x : VExtent) :
    (W.endRemaining n from_ w x).ambient = w.ambient := by
  unfold W.endRemaining; split <;> simp

@[simp] theorem W.verifyRangeEnd_ambient (w : W) (n : Nat) (from_ : Option Nat) :
    (W.verifyRangeEnd w n from_).ambient = w.ambient := by
  unfold W.verifyRangeEnd; split <;> simp

@[simp] theorem W.verifyBlockParsed_ambient (w : W) (n : Nat) (b : Nat) (last : Bool) :
    (W.verifyBlockParsed w n b last).ambient = w.ambient := by
  unfold W.verifyBlockParsed; dsimp only; (repeat' split) <;> simp

@[simp] theorem W.verifyUnreadable_ambient (w : W) (n : Nat) (b : Nat) (last : Bool) :
    (W.verifyUnreadable w n b last).ambient = w.ambient := by
  unfold W.verifyUnreadable; dsimp only; (repeat' split) <;> simp

@[simp] theorem W.verifyDataEnd_ambient (w : W) (n : Nat) (b : Nat) (mark : Bool) :
    (W.verifyDataEnd w n b mark).ambient = w.ambient := by
  simp [W.verifyDataEnd]

@[simp] theorem W.verifyExtentRemoved_ambient (w : W) (n : Nat) (session : Nat) (sequence : Nat) :
    (W.verifyExtentRemoved w n session sequence).ambient = w.ambient := by
  unfold W.verifyExtentRemoved; split <;> simp

@[simp] theorem W.admitVerify_ambient (w : W) (i : Nat) (label : Label) (session : Option Nat) (rebuild : Bool) :
    (W.admitVerify w i label session rebuild).1.ambient = w.ambient := by
  simp [W.admitVerify]

@[simp] theorem W.autoVerifyOne_ambient (session : Nat) (w : W) (e : Nat × Label) :
    (W.autoVerifyOne session w e).ambient = w.ambient := by
  unfold W.autoVerifyOne; dsimp only; (repeat' split) <;> simp

@[simp] theorem W.autoVerify_ambient (w : W) (session : Nat) :
    (W.autoVerify w session).ambient = w.ambient := by
  simp [W.autoVerify]

@[simp] theorem W.damageNotice_ambient (w : W) (n : Nat) (o : Nat) (chunk : Nat) (count : Nat) (cause : DamageCause) (label : Option Label) (block : Nat) :
    (W.damageNotice w n o chunk count cause label block).ambient = w.ambient := by
  rfl

@[simp] theorem W.passObject_ambient (w : W) (n : Nat) :
    (W.passObject w n).ambient = w.ambient := by
  rfl

@[simp] theorem W.reportAbsent_ambient (w : W) (n : Nat) (o : Nat) (cause : DamageCause) (label : Option Label) (block : Nat) :
    (W.reportAbsent w n o cause label block).ambient = w.ambient := by
  simp [W.reportAbsent]

@[simp] theorem W.restoreDone_ambient (w : W) (n : Nat) :
    (W.restoreDone w n).ambient = w.ambient := by
  unfold W.restoreDone; split <;> simp

@[simp] theorem W.addEntry_ambient (w : W) (n : Nat) (e : OutEntry) :
    (W.addEntry w n e).ambient = w.ambient := by
  simp [W.addEntry]

@[simp] theorem W.putFirst_ambient (w : W) (n : Nat) (l : List RAction) :
    (W.putFirst w n l).ambient = w.ambient := by
  rfl

@[simp] theorem W.takeDamage_ambient (w : W) (n : Nat) (o : Nat) (chunk : Nat) (count : Nat) (cause : DamageCause) (block : Nat) (instead : List RAction) :
    (W.takeDamage w n o chunk count cause block instead).ambient = w.ambient := by
  unfold W.takeDamage; (repeat' split) <;> simp

@[simp] theorem W.takeExpected_ambient (w : W) (n : Nat) (res : ResultRec) (r : RestoreData) :
    (W.takeExpected w n res r).ambient = w.ambient := by
  unfold W.takeExpected; split <;> simp

@[simp] theorem W.takeResult_ambient (w : W) (n : Nat) (res : ResultRec) :
    (W.takeResult w n res).ambient = w.ambient := by
  unfold W.takeResult; (repeat' split) <;> simp

@[simp] theorem W.addSubstitute_ambient (w : W) (n : Nat) (size : Nat) (final : Bool) :
    (W.addSubstitute w n size final).ambient = w.ambient := by
  unfold W.addSubstitute; (repeat' split) <;> simp

@[simp] theorem W.stopReading_ambient (w : W) (n : Nat) :
    (W.stopReading w n).ambient = w.ambient := by
  unfold W.stopReading; dsimp only; (repeat' split) <;> simp

@[simp] theorem W.readFrom_ambient (w : W) (n : Nat) (l : Link) :
    (W.readFrom w n l).ambient = w.ambient := by
  unfold W.readFrom; dsimp only; (repeat' split) <;> simp

@[simp] theorem W.takeLink_ambient (w : W) (n : Nat) (l : Link) :
    (W.takeLink w n l).ambient = w.ambient := by
  simp [W.takeLink]

@[simp] theorem W.linkNext_ambient (w : W) (n : Nat) :
    (W.linkNext w n).ambient = w.ambient := by
  unfold W.linkNext; (repeat' split) <;> simp

@[simp] theorem W.linkEnds_ambient (w : W) (n : Nat) (block : Nat) (dataEnd : Bool) :
    (W.linkEnds w n block dataEnd).ambient = w.ambient := by
  unfold W.linkEnds; dsimp only; (repeat' split) <;> simp

@[simp] theorem W.doAction_ambient (w : W) (n : Nat) (x1 : RAction) :
    (W.doAction w n x1).ambient = w.ambient := by
  unfold W.doAction; split <;> simp

@[simp] theorem W.runTodo_ambient (x1 : Nat) (x2 : Nat) (x3 : W) :
    (W.runTodo x1 x2 x3).ambient = x3.ambient := by
  induction x1 generalizing x3 with
  | zero => rfl
  | succ n ih => unfold W.runTodo; (repeat' split) <;> simp [ih]

@[simp] theorem W.runAll_ambient (w : W) (n : Nat) :
    (W.runAll w n).ambient = w.ambient := by
  unfold W.runAll; split <;> simp

@[simp] theorem W.runWaiting_ambient (w : W) (n : Nat) :
    (W.runWaiting w n).ambient = w.ambient := by
  unfold W.runWaiting; split <;> simp

@[simp] theorem W.restoreResult_ambient (w : W) (n : Nat) (res : ResultRec) :
    (W.restoreResult w n res).ambient = w.ambient := by
  simp [W.restoreResult]

@[simp] theorem W.restoreMarker_ambient (w : W) (n : Nat) (h : FrameHeader) (b : Nat) :
    (W.restoreMarker w n h b).ambient = w.ambient := by
  unfold W.restoreMarker; (repeat' split) <;> simp

@[simp] theorem W.relocate_ambient (w : W) (n : Nat) :
    (W.relocate w n).ambient = w.ambient := by
  unfold W.relocate; split <;> simp

@[simp] theorem W.hintHolds_ambient (w : W) (n : Nat) :
    (W.hintHolds w n).ambient = w.ambient := by
  rfl

@[simp] theorem W.restoreBlockParsed_ambient (w : W) (n : Nat) (b : Nat) (last : Bool) :
    (W.restoreBlockParsed w n b last).ambient = w.ambient := by
  unfold W.restoreBlockParsed; split <;> simp

@[simp] theorem W.restoreUnreadable_ambient (w : W) (n : Nat) (b : Nat) (last : Bool) :
    (W.restoreUnreadable w n b last).ambient = w.ambient := by
  unfold W.restoreUnreadable; (repeat' split) <;> simp

@[simp] theorem W.restoreDataEnd_ambient (w : W) (n : Nat) (b : Nat) :
    (W.restoreDataEnd w n b).ambient = w.ambient := by
  simp [W.restoreDataEnd]

@[simp] theorem W.rejudge_ambient (w : W) (n : Nat) (sequences : List Nat) :
    (W.rejudge w n sequences).ambient = w.ambient := by
  unfold W.rejudge; split <;> simp

@[simp] theorem W.restoreExtentRemoved_ambient (w : W) (n : Nat) (sequence : Nat) :
    (W.restoreExtentRemoved w n sequence).ambient = w.ambient := by
  simp [W.restoreExtentRemoved]

@[simp] theorem W.restoreAdmitted_ambient (w : W) (n : Nat) :
    (W.restoreAdmitted w n).ambient = w.ambient := by
  unfold W.restoreAdmitted; split <;> simp

@[simp] theorem W.handMarker_ambient (w : W) (n : Nat) (h : FrameHeader) (b : Nat) (offset : Nat) :
    (W.handMarker w n h b offset).ambient = w.ambient := by
  unfold W.handMarker; split <;> simp

@[simp] theorem W.handHeaderBad_ambient (w : W) (n : Nat) (b : Nat) :
    (W.handHeaderBad w n b).ambient = w.ambient := by
  unfold W.handHeaderBad; split <;> simp

@[simp] theorem W.handBlockParsed_ambient (w : W) (n : Nat) (b : Nat) (last : Bool) :
    (W.handBlockParsed w n b last).ambient = w.ambient := by
  unfold W.handBlockParsed; split <;> simp

@[simp] theorem W.handUnreadable_ambient (w : W) (n : Nat) (b : Nat) (last : Bool) :
    (W.handUnreadable w n b last).ambient = w.ambient := by
  unfold W.handUnreadable; split <;> simp

@[simp] theorem W.handDataEnd_ambient (w : W) (n : Nat) (b : Nat) (mark : Bool) :
    (W.handDataEnd w n b mark).ambient = w.ambient := by
  unfold W.handDataEnd; split <;> simp

@[simp] theorem W.handResult_ambient (w : W) (n : Nat) (res : ResultRec) :
    (W.handResult w n res).ambient = w.ambient := by
  unfold W.handResult; split <;> simp

@[simp] theorem W.beginParsing_ambient (w : W) (d : Drive) (i : BufId) :
    (W.beginParsing w d i).ambient = w.ambient := by
  simp [W.beginParsing]

@[simp] theorem W.finishBlock_ambient (w : W) (d : Drive) (n : Nat) (i : BufId) :
    (W.finishBlock w d n i).ambient = w.ambient := by
  simp [W.finishBlock]

@[simp] theorem W.advanceTo_ambient (w : W) (d : Drive) (offset : Nat) :
    (W.advanceTo w d offset).ambient = w.ambient := by
  simp [W.advanceTo]

theorem W.meetChunk_ambient (w : W) (d : Drive) (j : Job) (offset : Nat) (h : FrameHeader) :
    ∀ v, W.meetChunk w d j offset h = some v → v.ambient = w.ambient := by
  intro v h; unfold W.meetChunk at h; (repeat' split at h) <;> first | (cases h; simp) | simp_all

theorem W.parseAt_ambient (w : W) (d : Drive) (j : Job) (i : BufId) (offset : Nat) :
    ∀ v, W.parseAt w d j i offset = some v → v.ambient = w.ambient := by
  intro v h; unfold W.parseAt at h; dsimp only at h; (repeat' split at h) <;> first | (cases h; simp; done) | (cases h; split <;> simp; done) | exact W.meetChunk_ambient _ _ _ _ _ _ h

@[simp] theorem W.tellNews_ambient (w : W) (d : Drive) (n : Nat) (x : ReadNews) :
    (W.tellNews w d n x).ambient = w.ambient := by
  unfold W.tellNews; split <;> simp

theorem W.parseOnce_ambient (w : W) (d : Drive) :
    ∀ v, W.parseOnce w d = some v → v.ambient = w.ambient := by
  intro v h; unfold W.parseOnce at h; dsimp only at h; (repeat' split at h) <;> first | (cases h; done) | (cases h; simp; done) | exact W.parseAt_ambient _ _ _ _ _ _ h

@[simp] theorem W.parseLoop_ambient (x1 : Nat) (x2 : Drive) (x3 : W) :
    (W.parseLoop x1 x2 x3).ambient = x3.ambient := by
  induction x1 generalizing x3 with
  | zero => rfl
  | succ n ih =>
    unfold W.parseLoop
    split
    · rename_i v h
      rw [ih, W.parseOnce_ambient _ _ _ h]
    · rfl

@[simp] theorem W.launchSeek_ambient (w : W) (d : Drive) :
    (W.launchSeek w d).ambient = w.ambient := by
  unfold W.launchSeek; dsimp only; (repeat' split) <;> simp

@[simp] theorem W.seekFails_ambient (w : W) (d : Drive) (n : Nat) (k : Seek) :
    (W.seekFails w d n k).ambient = w.ambient := by
  simp [W.seekFails]

@[simp] theorem W.seekEnds_ambient (w : W) (n : Nat) (d : Drive) (r : OpOutcome) :
    (W.seekEnds w n d r).ambient = w.ambient := by
  unfold W.seekEnds; dsimp only; (repeat' split) <;> simp

@[simp] theorem W.readDone_ambient (w : W) (n : Nat) (d : Drive) (k : BufId) (r : OpOutcome) :
    (W.readDone w n d k r).ambient = w.ambient := by
  unfold W.readDone; split <;> simp

@[simp] theorem W.atRest_ambient (w : W) (d : Drive) (j : Job) (cause : StopCause) :
    (W.atRest w d j cause).ambient = w.ambient := by
  unfold W.atRest; split <;> simp

@[simp] theorem W.restCheck_ambient (w : W) (d : Drive) :
    (W.restCheck w d).ambient = w.ambient := by
  unfold W.restCheck; dsimp only; (repeat' split) <;> simp

@[simp] theorem W.parseOn_ambient (w : W) (d : Drive) :
    (W.parseOn w d).ambient = w.ambient := by
  simp [W.parseOn]

@[simp] theorem W.decodingEnds_ambient (w : W) :
    (W.decodingEnds w).ambient = w.ambient := by
  unfold W.decodingEnds; dsimp only; (repeat' split) <;> simp

@[simp] theorem W.readerLetsGo_ambient (w : W) (n : Nat) :
    (W.readerLetsGo w n).ambient = w.ambient := by
  unfold W.readerLetsGo; split <;> simp

@[simp] theorem W.readerHolds_ambient (w : W) (n : Nat) :
    (W.readerHolds w n).ambient = w.ambient := by
  unfold W.readerHolds; split <;> simp

@[simp] theorem W.readerResumes_ambient (w : W) (n : Nat) :
    (W.readerResumes w n).ambient = w.ambient := by
  unfold W.readerResumes; split <;> simp

@[simp] theorem W.mountStops_ambient (w : W) (n : Nat) :
    (W.mountStops w n).ambient = w.ambient := by
  unfold W.mountStops; (repeat' split) <;> simp

@[simp] theorem W.moveFails_ambient (w : W) (n : Nat) (r : Reason) :
    (W.moveFails w n r).ambient = w.ambient := by
  simp [W.moveFails]

@[simp] theorem W.leaveMount_ambient (w : W) (n : Nat) (absent : Bool) (j : Job) :
    (W.leaveMount w n absent j).ambient = w.ambient := by
  simp [W.leaveMount]

@[simp] theorem W.letGo_ambient (w : W) (n : Nat) (absent : Bool) (r : Option OpOutcome) :
    (W.letGo w n absent r).ambient = w.ambient := by
  unfold W.letGo; (repeat' split) <;> simp

@[simp] theorem W.chooseAgain_ambient (w : W) (n : Nat) :
    (W.chooseAgain w n).ambient = w.ambient := by
  unfold W.chooseAgain; (repeat' split) <;> simp

@[simp] theorem W.afterAway_ambient (w : W) (n : Nat) :
    (W.afterAway w n).ambient = w.ambient := by
  simp [W.afterAway]

@[simp] theorem W.putAway_ambient (w : W) (n : Nat) (d : Drive) :
    (W.putAway w n d).ambient = w.ambient := by
  simp [W.putAway]

@[simp] theorem W.sendHome_ambient (w : W) (n : Nat) (d : Drive) (i : Nat) (s : MountStep) :
    (W.sendHome w n d i s).ambient = w.ambient := by
  simp [W.sendHome]

@[simp] theorem W.restoreBegins_ambient (w : W) (n : Nat) (j : Job) (d : Drive) (i : Nat) (r : RestoreData) :
    (W.restoreBegins w n j d i r).ambient = w.ambient := by
  unfold W.restoreBegins; dsimp only; (repeat' split) <;> simp

@[simp] theorem W.restoreMounted_ambient (w : W) (n : Nat) (j : Job) (d : Drive) (i : Nat) (state : JobState) :
    (W.restoreMounted w n j d i state).ambient = w.ambient := by
  unfold W.restoreMounted; dsimp only; (repeat' split) <;> simp

@[simp] theorem W.verifyMounted_ambient (w : W) (n : Nat) (j : Job) (d : Drive) (i : Nat) (state : JobState) :
    (W.verifyMounted w n j d i state).ambient = w.ambient := by
  unfold W.verifyMounted; split <;> simp

@[simp] theorem W.mountDone_ambient (w : W) (n : Nat) :
    (W.mountDone w n).ambient = w.ambient := by
  unfold W.mountDone; (repeat' split) <;> simp

@[simp] theorem W.goPosition_ambient (w : W) (n : Nat) :
    (W.goPosition w n).ambient = w.ambient := by
  rfl

@[simp] theorem W.probeResult_ambient (w : W) (n : Nat) (d : Drive) (i : Nat) (s : MediaState) (used : Option Nat) :
    (W.probeResult w n d i s used).ambient = w.ambient := by
  unfold W.probeResult; dsimp only; (repeat' split) <;> simp

@[simp] theorem W.requestPosition_ambient (w : W) (n : Nat) :
    (W.requestPosition w n).ambient = w.ambient := by
  unfold W.requestPosition; (repeat' split) <;> simp

@[simp] theorem W.positionFails_ambient (w : W) (n : Nat) :
    (W.positionFails w n).ambient = w.ambient := by
  simp [W.positionFails]

@[simp] theorem W.probeBlock_ambient (w : W) (n : Nat) (d : Drive) :
    (W.probeBlock w n d).ambient = w.ambient := by
  unfold W.probeBlock; dsimp only; split <;> simp

@[simp] theorem W.freeProbe_ambient (w : W) (d : Drive) (op : PortOp) :
    (W.freeProbe w d op).ambient = w.ambient := by
  unfold W.freeProbe; (repeat' split) <;> simp

@[simp] theorem W.stepEnds_ambient (w : W) (n : Nat) (j : Job) (d : Drive) (i : Nat) (s : MountStep) (op : PortOp) (r : OpOutcome) :
    (W.stepEnds w n j d i s op r).ambient = w.ambient := by
  unfold W.stepEnds; split <;> simp

@[simp] theorem W.mountOp_ambient (w : W) (n : Nat) (j : Job) (d : Drive) (s : MountStep) (op : PortOp) (r : OpOutcome) :
    (W.mountOp w n j d s op r).ambient = w.ambient := by
  unfold W.mountOp; (repeat' split) <;> simp

@[simp] theorem W.jobMoveEnds_ambient (w : W) (n : Nat) (r : Reason) :
    (W.jobMoveEnds w n r).ambient = w.ambient := by
  unfold W.jobMoveEnds; (repeat' split) <;> simp

@[simp] theorem W.moveReported_ambient (w : W) (origin : Origin) (ticket : Nat) (r : Reason) (cart : Option Nat) :
    (W.moveReported w origin ticket r cart).ambient = w.ambient := by
  unfold W.moveReported; (repeat' split) <;> simp

@[simp] theorem W.cleanOp_ambient (w : W) (n : Nat) (j : Job) (d : Drive) (op : PortOp) (r : OpOutcome) :
    (W.cleanOp w n j d op r).ambient = w.ambient := by
  unfold W.cleanOp; (repeat' split) <;> simp

@[simp] theorem W.readerOp_ambient (w : W) (n : Nat) (d : Drive) (op : PortOp) (r : OpOutcome) :
    (W.readerOp w n d op r).ambient = w.ambient := by
  unfold W.readerOp; split <;> simp

@[simp] theorem W.jobOp_ambient (w : W) (n : Nat) (d : Drive) (op : PortOp) (r : OpOutcome) :
    (W.jobOp w n d op r).ambient = w.ambient := by
  unfold W.jobOp; (repeat' split) <;> simp

@[simp] theorem W.unloadEnded_ambient (w : W) (d : Drive) (returnHome : Bool) (r : OpOutcome) :
    (W.unloadEnded w d returnHome r).ambient = w.ambient := by
  unfold W.unloadEnded; (repeat' split) <;> simp

@[simp] theorem W.opReported_ambient (w : W) (d : Drive) (req : Requester) (op : PortOp) (r : OpOutcome) :
    (W.opReported w d req op r).ambient = w.ambient := by
  unfold W.opReported; split <;> simp

@[simp] theorem W.portReported_ambient (w : W) (d : Drive) :
    (W.portReported w d).ambient = w.ambient := by
  unfold W.portReported; split <;> simp

@[simp] theorem W.cartReported_ambient (w : W) (n : Nat) (i : Nat) :
    (W.cartReported w n i).ambient = w.ambient := by
  simp [W.cartReported]

@[simp] theorem W.extentGone_ambient (w : W) (n : Nat) (session : Nat) (sequence : Nat) :
    (W.extentGone w n session sequence).ambient = w.ambient := by
  unfold W.extentGone; split <;> simp

@[simp] theorem W.advanceJob_ambient (w : W) (n : Nat) :
    (W.advanceJob w n).ambient = w.ambient := by
  simp [W.advanceJob]

@[simp] theorem W.takeSignal_ambient (w : W) (x1 : Signal) :
    (W.takeSignal w x1).ambient = w.ambient := by
  unfold W.takeSignal; split <;> simp

theorem W.settleOnce_ambient (w : W) :
    ∀ v, W.settleOnce w = some v → v.ambient = w.ambient := by
  intro v h
  unfold W.settleOnce at h
  split at h
  · rw [← Option.some.inj h, W.rehome_ambient]; rfl
  · split at h
    · rw [← Option.some.inj h, W.takeSignal_ambient]; rfl
    · split at h
      · rw [← Option.some.inj h, W.serveCatalogWaits_ambient]; rfl
      · split at h
        · rw [← Option.some.inj h, W.dispatch_ambient]; rfl
        · cases h

@[simp] theorem W.settle_ambient (x1 : Nat) (x2 : W) :
    (W.settle x1 x2).ambient = x2.ambient := by
  induction x1 generalizing x2 with
  | zero => rfl
  | succ n ih =>
    unfold W.settle
    split
    · rename_i v h
      rw [ih, W.settleOnce_ambient _ _ h]
    · rfl

@[simp] theorem W.settled_ambient (w : W) :
    (W.settled w).ambient = w.ambient := by
  simp [W.settled]

@[simp] theorem W.secureJob_ambient (w : W) (n : Nat) :
    (W.secureJob w n).ambient = w.ambient := by
  unfold W.secureJob; (repeat' split) <;> simp

@[simp] theorem W.parseBoth_ambient (w : W) :
    (W.parseBoth w).ambient = w.ambient := by
  rfl

@[simp] theorem W.abortReader_ambient (w : W) (n : Nat) :
    (W.abortReader w n).ambient = w.ambient := by
  simp [W.abortReader]

@[simp] theorem W.abortNow_ambient (w : W) (n : Nat) :
    (W.abortNow w n).ambient = w.ambient := by
  simp [W.abortNow]

@[simp] theorem W.abortMounting_ambient (w : W) (n : Nat) :
    (W.abortMounting w n).ambient = w.ambient := by
  simp [W.abortMounting]

@[simp] theorem W.abortCourse_ambient (w : W) (j : Job) :
    (W.abortCourse w j).ambient = w.ambient := by
  unfold W.abortCourse; (repeat' split) <;> simp

@[simp] theorem W.abortJob_ambient (w : W) (j : Job) :
    (W.abortJob w j).ambient = w.ambient := by
  simp [W.abortJob]

@[simp] theorem refuse_ambient (w : W) (s : Status) :
    (refuse w s).w.ambient = w.ambient := by
  rfl

@[simp] theorem answer_ambient (w : W) (b : ReplyBody) :
    (answer w b).w.ambient = w.ambient := by
  rfl

@[simp] theorem ownScan_ambient (w : W) (p : List Byte) :
    (ownScan w p).w.ambient = w.ambient := by
  unfold ownScan; dsimp only; (repeat' split) <;> simp

@[simp] theorem ownSlotInfo_ambient (w : W) (p : List Byte) :
    (ownSlotInfo w p).w.ambient = w.ambient := by
  unfold ownSlotInfo; dsimp only; (repeat' split) <;> simp

@[simp] theorem ownCartridgeInfo_ambient (w : W) (p : List Byte) :
    (ownCartridgeInfo w p).w.ambient = w.ambient := by
  unfold ownCartridgeInfo; dsimp only; (repeat' split) <;> simp

@[simp] theorem ownEditCartridge_ambient (w : W) (p : List Byte) :
    (ownEditCartridge w p).w.ambient = w.ambient := by
  unfold ownEditCartridge; dsimp only; (repeat' split) <;> simp

@[simp] theorem queueRequested_ambient (w : W) (source : Element) (asked : Dest) (expected : Option Label) :
    (queueRequested w source asked expected).w.ambient = w.ambient := by
  unfold queueRequested; dsimp only; (repeat' split) <;> simp

@[simp] theorem ownMove_ambient (w : W) (p : List Byte) :
    (ownMove w p).w.ambient = w.ambient := by
  unfold ownMove; dsimp only; (repeat' split) <;> simp

@[simp] theorem ownImport_ambient (w : W) (p : List Byte) :
    (ownImport w p).w.ambient = w.ambient := by
  unfold ownImport; dsimp only; (repeat' split) <;> simp

@[simp] theorem exportFrom_ambient (w : W) (e : Element) :
    (exportFrom w e).w.ambient = w.ambient := by
  simp [exportFrom]

@[simp] theorem ownExport_ambient (w : W) (p : List Byte) :
    (ownExport w p).w.ambient = w.ambient := by
  unfold ownExport; (repeat' split) <;> simp

@[simp] theorem ownClearChangerFault_ambient (w : W) (x1 : List Byte) :
    (ownClearChangerFault w x1).w.ambient = w.ambient := by
  simp [ownClearChangerFault]

@[simp] theorem ownRetestDrive_ambient (w : W) (p : List Byte) :
    (ownRetestDrive w p).w.ambient = w.ambient := by
  unfold ownRetestDrive; split <;> simp

@[simp] theorem unloadAccepted_ambient (w : W) (d : Drive) (home : Bool) :
    (unloadAccepted w d home).ambient = w.ambient := by
  unfold unloadAccepted; split <;> simp

@[simp] theorem ownUnloadDrive_ambient (w : W) (p : List Byte) :
    (ownUnloadDrive w p).w.ambient = w.ambient := by
  unfold ownUnloadDrive; dsimp only; (repeat' split) <;> simp

@[simp] theorem ownOpenSession_ambient (w : W) (p : List Byte) :
    (ownOpenSession w p).w.ambient = w.ambient := by
  unfold ownOpenSession; dsimp only; (repeat' split) <;> simp

@[simp] theorem beginObject_ambient (w : W) (j : Job) (b : BackupData) :
    (beginObject w j b).ambient = w.ambient := by
  unfold beginObject; split <;> simp

@[simp] theorem ownBeginObject_ambient (w : W) (p : List Byte) :
    (ownBeginObject w p).w.ambient = w.ambient := by
  unfold ownBeginObject; (repeat' split) <;> simp

@[simp] theorem ownWriteData_ambient (w : W) (p : List Byte) :
    (ownWriteData w p).w.ambient = w.ambient := by
  unfold ownWriteData; (repeat' split) <;> simp

@[simp] theorem ownEndObject_ambient (w : W) (p : List Byte) :
    (ownEndObject w p).w.ambient = w.ambient := by
  have h : ∀ (n : Nat) (f : BackupData → BackupData) (d : Drive), (w.modBackup n f).stream d = w.stream d := fun _ _ _ => rfl
  unfold ownEndObject; dsimp only; (repeat' split) <;> simp [h]

@[simp] theorem ownCloseSession_ambient (w : W) (p : List Byte) :
    (ownCloseSession w p).w.ambient = w.ambient := by
  unfold ownCloseSession; (repeat' split) <;> simp

@[simp] theorem ownStartVerify_ambient (w : W) (p : List Byte) :
    (ownStartVerify w p).w.ambient = w.ambient := by
  unfold ownStartVerify; dsimp only; (repeat' split) <;> simp

@[simp] theorem ownStartRestore_ambient (w : W) (p : List Byte) :
    (ownStartRestore w p).w.ambient = w.ambient := by
  unfold ownStartRestore; dsimp only; (repeat' split) <;> simp

@[simp] theorem ownReadData_ambient (w : W) (p : List Byte) :
    (ownReadData w p).w.ambient = w.ambient := by
  unfold ownReadData; dsimp only; (repeat' split) <;> simp

@[simp] theorem ownJobInfo_ambient (w : W) (p : List Byte) :
    (ownJobInfo w p).w.ambient = w.ambient := by
  unfold ownJobInfo; dsimp only; (repeat' split) <;> simp

@[simp] theorem ownAbortJob_ambient (w : W) (p : List Byte) :
    (ownAbortJob w p).w.ambient = w.ambient := by
  unfold ownAbortJob; split <;> simp

@[simp] theorem ownReleaseJob_ambient (w : W) (p : List Byte) :
    (ownReleaseJob w p).w.ambient = w.ambient := by
  unfold ownReleaseJob; split <;> simp

@[simp] theorem ownStartClean_ambient (w : W) (p : List Byte) :
    (ownStartClean w p).w.ambient = w.ambient := by
  unfold ownStartClean; dsimp only; (repeat' split) <;> simp

@[simp] theorem addWaiting_ambient (n : Nat) (w : W) :
    (addWaiting n w).ambient = w.ambient := by
  unfold addWaiting; dsimp only; (repeat' split) <;> simp

@[simp] theorem ownSessionInfo_ambient (w : W) (p : List Byte) :
    (ownSessionInfo w p).w.ambient = w.ambient := by
  unfold ownSessionInfo; dsimp only; (repeat' split) <;> simp

@[simp] theorem ownExtentInfo_ambient (w : W) (p : List Byte) :
    (ownExtentInfo w p).w.ambient = w.ambient := by
  unfold ownExtentInfo; dsimp only; (repeat' split) <;> simp

@[simp] theorem ownDropSession_ambient (w : W) (p : List Byte) :
    (ownDropSession w p).w.ambient = w.ambient := by
  unfold ownDropSession; split <;> simp

@[simp] theorem ownLoadExtent_ambient (w : W) (p : List Byte) :
    (ownLoadExtent w p).w.ambient = w.ambient := by
  unfold ownLoadExtent; dsimp only; (repeat' split) <;> simp

@[simp] theorem ownCatalogInfo_ambient (w : W) (x1 : List Byte) :
    (ownCatalogInfo w x1).w.ambient = w.ambient := by
  rfl

@[simp] theorem W.resetCartridge_ambient (w : W) (j : Job) :
    (W.resetCartridge w j).ambient = w.ambient := by
  unfold W.resetCartridge; split <;> simp

@[simp] theorem W.resetSession_ambient (w : W) (s : SessionRec) :
    (W.resetSession w s).ambient = w.ambient := by
  simp [W.resetSession]

@[simp] theorem W.resetJobs_ambient (w : W) :
    (W.resetJobs w).ambient = w.ambient := by
  rfl

@[simp] theorem W.resetPortNow_ambient (w : W) (d : Drive) :
    (W.resetPortNow w d).ambient = w.ambient := by
  simp [W.resetPortNow]

@[simp] theorem W.afterReset_ambient (w : W) :
    (W.afterReset w).ambient = w.ambient := by
  simp [W.afterReset]

end Sys2Proof.Machine
end

