-- ==== Sys2Proof/Laws/Bounds.lean ====
section
/-! SUPPORT. One lemma per shared operation: the tables stay within their sizes (`W.inBounds`, `Lib.inBounds`). -/

namespace Sys2Proof.Machine
open Sys2Proof

/-- The tables of a working state stay within their sizes. -/
def W.inBounds (w : W) : Prop := w.toLib.inBounds

theorem boundsOk_congr {a b c : Nat} {x y : Changer} (hq : x.queue = y.queue) (hf : x.faultRun = y.faultRun) (hn : x.nextId = y.nextId) :
    boundsOk a b c x ↔ boundsOk a b c y := by simp [boundsOk, hq, hf, hn]

@[simp] theorem W.inBounds_mk (mode gateOpen pins ct cc ports js streams coder cg signals dd rd cd set out) :
    (W.mk (Lib.mk mode gateOpen pins ct cc ports js streams coder cg signals dd rd cd) set out).inBounds ↔
      boundsOk js.jobs.length cg.sessions.length cg.extents.length cc := Iff.rfl

@[simp] theorem W.inBounds_fold (w : W) :
    boundsOk w.js.jobs.length w.cg.sessions.length w.cg.extents.length w.cc ↔ w.inBounds := Iff.rfl

@[simp] theorem W.inBounds_ite (c : Prop) [Decidable c] (a b : W) (ha : a.inBounds) (hb : b.inBounds) :
    (if c then a else b).inBounds := by split <;> assumption

@[simp] theorem Answer.inBounds_ite (c : Prop) [Decidable c] (a b : Answer) (ha : a.w.inBounds) (hb : b.w.inBounds) :
    (if c then a else b).w.inBounds := by split <;> assumption

@[simp] theorem W.inBounds_fst_ite {α : Type} (c : Prop) [Decidable c] (a b : W × α) (ha : a.1.inBounds) (hb : b.1.inBounds) :
    (if c then a else b).1.inBounds := by split <;> assumption

@[simp] theorem W.inBounds_foldl {α : Type} (f : W → α → W) (h : ∀ w a, w.inBounds → (f w a).inBounds) (l : List α) (w : W)
    (hw : w.inBounds) : (l.foldl f w).inBounds := by
  induction l generalizing w with
  | nil => exact hw
  | cons a l ih => exact ih _ (h _ _ hw)

@[simp] theorem W.inBounds_foldl_iff {α : Type} (f : W → α → W) (h : ∀ w a, (f w a).inBounds ↔ w.inBounds) (l : List α)
    (w : W) : (l.foldl f w).inBounds ↔ w.inBounds := by
  induction l generalizing w with
  | nil => rfl
  | cons a l ih => rw [List.foldl_cons, ih, h]

theorem mem_insertBy {α : Type} (key : α → Nat) (x y : α) (l : List α) (h : y ∈ insertBy key x l) : y = x ∨ y ∈ l := by
  induction l with
  | nil => simpa [insertBy] using h
  | cons z zs ih =>
    unfold insertBy at h
    split at h
    · simpa using h
    · simp only [List.mem_cons] at h ⊢
      rcases h with h | h
      · exact .inr (.inl h)
      · rcases ih h with h | h
        · exact .inl h
        · exact .inr (.inr h)

theorem mem_sortBy {α : Type} (key : α → Nat) (y : α) (l : List α) (h : y ∈ sortBy key l) : y ∈ l := by
  have : ∀ (l acc : List α), y ∈ l.foldl (fun acc x => insertBy key x acc) acc → y ∈ l ∨ y ∈ acc := by
    intro l
    induction l with
    | nil => intro acc h; exact .inr h
    | cons a t ih =>
      intro acc h
      rcases ih _ h with h | h
      · exact .inl (List.mem_cons_of_mem _ h)
      · rcases mem_insertBy _ _ _ _ h with h | h
        · exact .inl (h ▸ List.mem_cons_self ..)
        · exact .inr h
  rcases this l [] h with h | h
  · exact h
  · cases h

@[simp] theorem W.sensePicker_inBounds (w : W) (b : Bool) : (w.sensePicker b).inBounds ↔ w.inBounds := Iff.rfl

@[simp] theorem W.modCC_inBounds (w : W) (f : Changer → Changer) (hq : ∀ c, (f c).queue = c.queue)
    (hf : ∀ c, (f c).faultRun = c.faultRun) (hn : ∀ c, (f c).nextId = c.nextId) : (w.modCC f).inBounds ↔ w.inBounds :=
  boundsOk_congr (hq _) (hf _) (hn _)

@[simp] theorem W.note_inBounds (w : W) (n : Notice)  :
    (W.note w n).inBounds ↔ w.inBounds := by
  rfl

@[simp] theorem W.emit_inBounds (w : W) (s : Signal)  :
    (W.emit w s).inBounds ↔ w.inBounds := by
  rfl

@[simp] theorem W.wantDispatch_inBounds (w : W)  :
    (W.wantDispatch w).inBounds ↔ w.inBounds := by
  rfl

@[simp] theorem W.recordFreed_inBounds (w : W)  :
    (W.recordFreed w).inBounds ↔ w.inBounds := by
  rfl

@[simp] theorem W.wantRehome_inBounds (w : W)  :
    (W.wantRehome w).inBounds ↔ w.inBounds := by
  rfl

@[simp] theorem W.putSlot_inBounds (w : W) (e : Element) (r : SlotRec)  :
    (W.putSlot w e r).inBounds ↔ w.inBounds := by
  unfold W.putSlot; (repeat' split) <;> simp

@[simp] theorem W.putCart_inBounds (w : W) (i : Nat) (c : Option CartRec)  :
    (W.putCart w i c).inBounds ↔ w.inBounds := by
  rfl

@[simp] theorem W.modCart_inBounds (w : W) (i : Nat) (f : CartRec → CartRec)  :
    (W.modCart w i f).inBounds ↔ w.inBounds := by
  unfold W.modCart; (repeat' split) <;> simp

@[simp] theorem W.setMedia_inBounds (w : W) (i : Nat) (s : MediaState) (cause : StateCause)  :
    (W.setMedia w i s cause).inBounds ↔ w.inBounds := by
  unfold W.setMedia; (repeat' split) <;> simp

@[simp] theorem W.putPort_inBounds (w : W) (d : Drive) (p : Port)  :
    (W.putPort w d p).inBounds ↔ w.inBounds := by
  rfl

@[simp] theorem W.modPort_inBounds (w : W) (d : Drive) (f : Port → Port)  :
    (W.modPort w d f).inBounds ↔ w.inBounds := by
  rfl

@[simp] theorem W.modJob_inBounds (w : W) (n : Nat) (f : Job → Job)  :
    (W.modJob w n f).inBounds ↔ w.inBounds := by
  simp [W.modJob]

@[simp] theorem W.modBackup_inBounds (w : W) (n : Nat) (f : BackupData → BackupData)  :
    (W.modBackup w n f).inBounds ↔ w.inBounds := by
  simp [W.modBackup]

@[simp] theorem W.modVerify_inBounds (w : W) (n : Nat) (f : VerifyData → VerifyData)  :
    (W.modVerify w n f).inBounds ↔ w.inBounds := by
  simp [W.modVerify]

@[simp] theorem W.modRestore_inBounds (w : W) (n : Nat) (f : RestoreData → RestoreData)  :
    (W.modRestore w n f).inBounds ↔ w.inBounds := by
  simp [W.modRestore]

@[simp] theorem W.putDriveClaim_inBounds (w : W) (d : Drive) (c : Option Nat)  :
    (W.putDriveClaim w d c).inBounds ↔ w.inBounds := by
  rfl

@[simp] theorem W.stopIdle_inBounds (w : W) (d : Drive)  :
    (W.stopIdle w d).inBounds ↔ w.inBounds := by
  rfl

@[simp] theorem W.markReturning_inBounds (w : W) (i : Nat)  :
    (W.markReturning w i).inBounds ↔ w.inBounds := by
  rfl

@[simp] theorem W.unmarkReturning_inBounds (w : W) (i : Nat)  :
    (W.unmarkReturning w i).inBounds ↔ w.inBounds := by
  unfold W.unmarkReturning; (repeat' split) <;> simp

@[simp] theorem W.putStream_inBounds (w : W) (d : Drive) (s : Stream)  :
    (W.putStream w d s).inBounds ↔ w.inBounds := by
  rfl

@[simp] theorem W.modStream_inBounds (w : W) (d : Drive) (f : Stream → Stream)  :
    (W.modStream w d f).inBounds ↔ w.inBounds := by
  rfl

@[simp] theorem W.modSession_inBounds (w : W) (id : Nat) (f : SessionRec → SessionRec)  :
    (W.modSession w id f).inBounds ↔ w.inBounds := by
  simp [W.modSession]

@[simp] theorem W.modExtent_inBounds (w : W) (id : Nat) (sequence : Nat) (f : ExtentRec → ExtentRec)  :
    (W.modExtent w id sequence f).inBounds ↔ w.inBounds := by
  simp [W.modExtent]

@[simp] theorem W.emptySlot_inBounds (w : W) (e : Element)  :
    (W.emptySlot w e).inBounds ↔ w.inBounds := by
  unfold W.emptySlot; (repeat' split) <;> simp

@[simp] theorem W.leaveHome_inBounds (w : W) (i : Nat)  (hB : w.inBounds) :
    (W.leaveHome w i).inBounds := by
  unfold W.leaveHome; (repeat' split) <;> simp (maxDischargeDepth := 20) [hB]

@[simp] theorem W.vacateSlot_inBounds (w : W) (e : Element) : (W.vacateSlot w e).inBounds ↔ w.inBounds := by
  unfold W.vacateSlot; split <;> simp

@[simp] theorem W.releaseHome_inBounds (w : W) (i : Nat)  (hB : w.inBounds) :
    (W.releaseHome w i).inBounds := by
  unfold W.releaseHome; (repeat' split) <;> simp (maxDischargeDepth := 20) [hB]

@[simp] theorem W.becomeAbsent_inBounds (w : W) (i : Nat)  (hB : w.inBounds) :
    (W.becomeAbsent w i).inBounds := by
  unfold W.becomeAbsent; (repeat' split) <;> simp (maxDischargeDepth := 20) [hB]

@[simp] theorem W.makeHomeless_inBounds (w : W) (i : Nat)  :
    (W.makeHomeless w i).inBounds ↔ w.inBounds := by
  simp [W.makeHomeless]

@[simp] theorem W.rehomeOne_inBounds (w : W) (i : Nat)  :
    (W.rehomeOne w i).inBounds ↔ w.inBounds := by
  unfold W.rehomeOne; (repeat' split) <;> simp

@[simp] theorem W.rehome_inBounds (w : W)  (hB : w.inBounds) :
    (W.rehome w).inBounds := by
  have h := hB
  unfold W.rehome; exact W.inBounds_foldl _ (fun v n hv => by simp [hv]) _ _ h

@[simp] theorem W.modTally_inBounds (w : W) (f : ScanTally → ScanTally)  :
    (W.modTally w f).inBounds ↔ w.inBounds := by
  rfl

@[simp] theorem W.scanStarted_inBounds (w : W) (range : List Element)  :
    (W.scanStarted w range).inBounds ↔ w.inBounds := by
  rfl

@[simp] theorem W.scanCompleted_inBounds (w : W)  (hB : w.inBounds) :
    (W.scanCompleted w).inBounds := by
  unfold W.scanCompleted; (repeat' split) <;> simp (maxDischargeDepth := 20) [hB]

@[simp] theorem W.scanAbsent_inBounds (w : W) (i : Nat)  (hB : w.inBounds) :
    (W.scanAbsent w i).inBounds := by
  simp (maxDischargeDepth := 20) [W.scanAbsent, hB]

@[simp] theorem W.scanPlace_inBounds (w : W) (e : Element) (i : Nat)  :
    (W.scanPlace w e i).inBounds ↔ w.inBounds := by
  simp [W.scanPlace]

@[simp] theorem W.scanCreate_inBounds (w : W) (e : Element) (label : Option Label) (state : MediaState) (duplicate : Bool)  :
    (W.scanCreate w e label state duplicate).inBounds ↔ w.inBounds := by
  unfold W.scanCreate; (repeat' split) <;> simp

@[simp] theorem W.scanIdentify_inBounds (w : W) (e : Element) (found : Option Label)  :
    (W.scanIdentify w e found).inBounds ↔ w.inBounds := by
  unfold W.scanIdentify; (repeat' split) <;> simp

@[simp] theorem W.scanCartridge_inBounds (w : W) (e : Element) (found : Option Label)  (hB : w.inBounds) :
    (W.scanCartridge w e found).inBounds := by
  unfold W.scanCartridge; dsimp only; (repeat' split) <;> simp (maxDischargeDepth := 20) [hB]

@[simp] theorem W.scanEmpty_inBounds (w : W) (e : Element)  (hB : w.inBounds) :
    (W.scanEmpty w e).inBounds := by
  unfold W.scanEmpty; dsimp only; (repeat' split) <;> simp (maxDischargeDepth := 20) [hB]

@[simp] theorem W.slotRemoved_inBounds (w : W) (counted : Bool) (n : Nat)  (hB : w.inBounds) :
    (W.slotRemoved w counted n).inBounds := by
  unfold W.slotRemoved; dsimp only; (repeat' split) <;> simp (maxDischargeDepth := 20) [hB]

@[simp] theorem W.scanResult_inBounds (w : W) (e : Element) (f : SlotFinding)  (hB : w.inBounds) :
    (W.scanResult w e f).inBounds := by
  unfold W.scanResult; (repeat' split) <;> simp (maxDischargeDepth := 20) [hB]

@[simp] theorem W.frontOpened_inBounds (w : W)  :
    (W.frontOpened w).inBounds ↔ w.inBounds := by
  rfl

@[simp] theorem W.magazineGone_inBounds (w : W) (m : Magazine)  (hB : w.inBounds) :
    (W.magazineGone w m).inBounds := by
  have h := hB
  unfold W.magazineGone; exact W.inBounds_foldl _ (fun v n hv => by simp [hv]) _ _ h

@[simp] theorem W.magazineBack_inBounds (w : W) (m : Magazine)  (hB : w.inBounds) :
    (W.magazineBack w m).inBounds := by
  have h := hB
  unfold W.magazineBack; exact W.inBounds_foldl _ (fun v n hv => by simp [hv]) _ _ h

@[simp] theorem W.mailOpened_inBounds (w : W)  :
    (W.mailOpened w).inBounds ↔ w.inBounds := by
  rfl

@[simp] theorem W.mailClosed_inBounds (w : W)  :
    (W.mailClosed w).inBounds ↔ w.inBounds := by
  rfl

@[simp] theorem W.extracted_inBounds (w : W) (i : Nat) (source : Element)  :
    (W.extracted w i source).inBounds ↔ w.inBounds := by
  unfold W.extracted; (repeat' split) <;> simp

@[simp] theorem W.extractedUntracked_inBounds (w : W) (source : Element)  :
    (W.extractedUntracked w source).inBounds ↔ w.inBounds := by
  simp [W.extractedUntracked]

@[simp] theorem W.makeRoom_inBounds (w : W) (i : Option Nat) (e : Element) (hB : w.inBounds) :
    (W.makeRoom w i e).inBounds := by
  unfold W.makeRoom; dsimp only; (repeat' split) <;> simp (maxDischargeDepth := 20) [hB]

@[simp] theorem W.placed_inBounds (w : W) (i : Nat) (dest : Element)  (hB : w.inBounds) :
    (W.placed w i dest).inBounds := by
  unfold W.placed; (repeat' split) <;> simp (maxDischargeDepth := 20) [hB]

@[simp] theorem W.placedUntracked_inBounds (w : W) (dest : Element)  (hB : w.inBounds) :
    (W.placedUntracked w dest).inBounds := by
  unfold W.placedUntracked; (repeat' split) <;> simp (maxDischargeDepth := 20) [hB]

@[simp] theorem W.sourceFoundEmpty_inBounds (w : W) (e : Element)  (hB : w.inBounds) :
    (W.sourceFoundEmpty w e).inBounds := by
  unfold W.sourceFoundEmpty; (repeat' split) <;> simp (maxDischargeDepth := 20) [hB]

@[simp] theorem W.takeLabel_inBounds (w : W) (i : Nat) (l : Label) (duplicate : Bool)  :
    (W.takeLabel w i l duplicate).inBounds ↔ w.inBounds := by
  simp [W.takeLabel]

@[simp] theorem W.mergeInto_inBounds (w : W) (i : Nat) (y : Nat)  :
    (W.mergeInto w i y).inBounds ↔ w.inBounds := by
  unfold W.mergeInto; (repeat' split) <;> simp

@[simp] theorem W.passageRead_inBounds (w : W) (i : Nat) (read : Option Label)  :
    (W.passageRead w i read).1.inBounds ↔ w.inBounds := by
  unfold W.passageRead; (repeat' split) <;> simp

@[simp] theorem W.driveReports_inBounds (w : W) (d : Drive)  :
    (W.driveReports w d).1.inBounds ↔ w.inBounds := by
  unfold W.driveReports; (repeat' split) <;> simp

@[simp] theorem W.loadReport_inBounds (w : W) (i : Nat) (protect : Bool)  :
    (W.loadReport w i protect).inBounds ↔ w.inBounds := by
  simp [W.loadReport]

@[simp] theorem W.putCartClaim_inBounds (w : W) (i : Nat) (c : Option Nat)  :
    (W.putCartClaim w i c).inBounds ↔ w.inBounds := by
  simp [W.putCartClaim]

@[simp] theorem W.enterPort_inBounds (w : W) (d : Drive) (s : PortState)  (hB : w.inBounds) :
    (W.enterPort w d s).inBounds := by
  simp (maxDischargeDepth := 20) [W.enterPort, hB]

@[simp] theorem W.reportDown_inBounds (w : W) (d : Drive) (n : Notice)  :
    (W.reportDown w d n).inBounds ↔ w.inBounds := by
  rfl

@[simp] theorem W.portFaults_inBounds (w : W) (d : Drive) (reason : DriveReason)  (hB : w.inBounds) :
    (W.portFaults w d reason).1.inBounds := by
  simp (maxDischargeDepth := 20) [W.portFaults, hB]

@[simp] theorem W.requestOp_inBounds (w : W) (d : Drive) (op : PortOp) (req : Requester)  (hB : w.inBounds) :
    (W.requestOp w d op req).1.inBounds := by
  unfold W.requestOp; (repeat' split) <;> simp (maxDischargeDepth := 20) [hB]

@[simp] theorem W.askOp_inBounds (w : W) (d : Drive) (op : PortOp) (req : Requester)  (hB : w.inBounds) :
    (W.askOp w d op req).inBounds := by
  simp (maxDischargeDepth := 20) [W.askOp, hB]

@[simp] theorem W.takeCleanRequest_inBounds (w : W) (d : Drive) (asked : Bool)  :
    (W.takeCleanRequest w d asked).inBounds ↔ w.inBounds := by
  unfold W.takeCleanRequest; (repeat' split) <;> simp

@[simp] theorem W.leaveReset_inBounds (w : W) (d : Drive)  (hB : w.inBounds) :
    (W.leaveReset w d).inBounds := by
  simp (maxDischargeDepth := 20) [W.leaveReset, hB]

@[simp] theorem W.endOp_inBounds (w : W) (d : Drive) (outcome : OpOutcome) (after : PortState × Option Nat) (fault : Option DriveReason) (asked : Bool)  (hB : w.inBounds) :
    (W.endOp w d outcome after fault asked).inBounds := by
  unfold W.endOp; (repeat' split) <;> simp (maxDischargeDepth := 20) [hB]

@[simp] theorem W.endTransport_inBounds (w : W) (d : Drive) (asked : Bool)  (hB : w.inBounds) :
    (W.endTransport w d asked).inBounds := by
  simp (maxDischargeDepth := 20) [W.endTransport, hB]

@[simp] theorem W.loadEnds_inBounds (w : W) (d : Drive) (r : LoadReport) (asked : Bool)  (hB : w.inBounds) :
    (W.loadEnds w d r asked).inBounds := by
  unfold W.loadEnds; (repeat' split) <;> simp (maxDischargeDepth := 20) [hB]

@[simp] theorem W.locateEnds_inBounds (w : W) (d : Drive) (r : LocateReport) (asked : Bool)  (hB : w.inBounds) :
    (W.locateEnds w d r asked).inBounds := by
  unfold W.locateEnds; (repeat' split) <;> simp (maxDischargeDepth := 20) [hB]

@[simp] theorem W.locateEndEnds_inBounds (w : W) (d : Drive) (r : LocateEndReport) (asked : Bool)  (hB : w.inBounds) :
    (W.locateEndEnds w d r asked).inBounds := by
  unfold W.locateEndEnds; (repeat' split) <;> simp (maxDischargeDepth := 20) [hB]

@[simp] theorem W.readEnds_inBounds (w : W) (d : Drive) (r : ReadReport) (asked : Bool)  (hB : w.inBounds) :
    (W.readEnds w d r asked).inBounds := by
  unfold W.readEnds; (repeat' split) <;> simp (maxDischargeDepth := 20) [hB]

@[simp] theorem W.writeEnds_inBounds (w : W) (d : Drive) (r : WriteReport) (asked : Bool)  (hB : w.inBounds) :
    (W.writeEnds w d r asked).inBounds := by
  unfold W.writeEnds; (repeat' split) <;> simp (maxDischargeDepth := 20) [hB]

@[simp] theorem W.endMarkEnds_inBounds (w : W) (d : Drive) (r : EndMarkReport) (asked : Bool)  (hB : w.inBounds) :
    (W.endMarkEnds w d r asked).inBounds := by
  unfold W.endMarkEnds; (repeat' split) <;> simp (maxDischargeDepth := 20) [hB]

@[simp] theorem W.unloadEnds_inBounds (w : W) (d : Drive) (r : PlainReport) (asked : Bool)  (hB : w.inBounds) :
    (W.unloadEnds w d r asked).inBounds := by
  unfold W.unloadEnds; (repeat' split) <;> simp (maxDischargeDepth := 20) [hB]

@[simp] theorem W.cleanEnds_inBounds (w : W) (d : Drive) (r : PlainReport) (asked : Bool)  (hB : w.inBounds) :
    (W.cleanEnds w d r asked).inBounds := by
  unfold W.cleanEnds; (repeat' split) <;> simp (maxDischargeDepth := 20) [hB]

@[simp] theorem W.opTimesOut_inBounds (w : W) (d : Drive)  (hB : w.inBounds) :
    (W.opTimesOut w d).inBounds := by
  simp (maxDischargeDepth := 20) [W.opTimesOut, hB]

@[simp] theorem W.presenceFalls_inBounds (w : W) (d : Drive)  (hB : w.inBounds) :
    (W.presenceFalls w d).inBounds := by
  unfold W.presenceFalls; dsimp only; (repeat' split) <;> simp (maxDischargeDepth := 20) [hB]

@[simp] theorem W.enterInit_inBounds (w : W) (d : Drive) (fromAbsent : Bool)  (hB : w.inBounds) :
    (W.enterInit w d fromAbsent).inBounds := by
  simp (maxDischargeDepth := 20) [W.enterInit, hB]

@[simp] theorem W.selfTestFails_inBounds (w : W) (d : Drive)  :
    (W.selfTestFails w d).inBounds ↔ w.inBounds := by
  rfl

@[simp] theorem W.reportFound_inBounds (w : W) (d : Drive)  :
    (W.reportFound w d).inBounds ↔ w.inBounds := by
  simp [W.reportFound]

@[simp] theorem W.selfTestPasses_inBounds (w : W) (d : Drive) (holds : MediaSense)  (hB : w.inBounds) :
    (W.selfTestPasses w d holds).inBounds := by
  unfold W.selfTestPasses; dsimp only; (repeat' split) <;> simp (maxDischargeDepth := 20) [hB]

@[simp] theorem W.displaceFrom_inBounds (w : W) (d : Drive) (c : Contents)  (hB : w.inBounds) :
    (W.displaceFrom w d c).inBounds := by
  unfold W.displaceFrom; (repeat' split) <;> simp (maxDischargeDepth := 20) [hB]

@[simp] theorem W.placedIntoOccupied_inBounds (w : W) (d : Drive) (hB : w.inBounds) :
    (W.placedIntoOccupied w d).inBounds := by
  simp (maxDischargeDepth := 20) [W.placedIntoOccupied, hB]

@[simp] theorem W.endByPlace_inBounds (w : W) (d : Drive) (hB : w.inBounds) :
    (W.endByPlace w d).inBounds := by
  unfold W.endByPlace; split <;> simp (maxDischargeDepth := 20) [hB]

@[simp] theorem W.portPlaced_inBounds (w : W) (d : Drive) (c : Contents)  (hB : w.inBounds) :
    (W.portPlaced w d c).inBounds := by
  unfold W.portPlaced; (repeat' split) <;> simp (maxDischargeDepth := 20) [hB]

@[simp] theorem W.portExtracted_inBounds (w : W) (d : Drive)  (hB : w.inBounds) :
    (W.portExtracted w d).inBounds := by
  simp (maxDischargeDepth := 20) [W.portExtracted, hB]

@[simp] theorem W.ccEnter_inBounds (w : W) (s : ChangerState)  :
    (W.ccEnter w s).inBounds ↔ w.inBounds := by
  unfold W.ccEnter; (repeat' split) <;> simp

@[simp] theorem W.beginStep_inBounds (w : W) (s : Step)  :
    (W.beginStep w s).inBounds ↔ w.inBounds := by
  simp [W.beginStep]

@[simp] theorem W.endStep_inBounds (w : W)  :
    (W.endStep w).inBounds ↔ w.inBounds := by
  rfl

@[simp] theorem W.putMove_inBounds (w : W) (m : Move)  :
    (W.putMove w m).inBounds ↔ w.inBounds := by
  rfl

@[simp] theorem W.takeEntryId_inBounds (w : W)  (hB : w.inBounds) :
    (W.takeEntryId w).1.inBounds := by
  have h := hB
  obtain ⟨h1, h2, h3, h4, h5, h6, h7⟩ := h
  refine ⟨h1, h2, h3, h4, h5, ?_, ?_⟩ <;> (simp only [W.takeEntryId, W.modCC]; split <;> omega)

@[simp] theorem W.queueMove_inBounds (w : W) (origin : Origin) (source : Element) (asked : Dest) (expected : Option Label) (ticket : Nat) (cart : Option Nat)  (hB : w.inBounds) :
    (W.queueMove w origin source asked expected ticket cart).1.inBounds := by
  have h := hB
  unfold W.queueMove
  split
  · exact h
  · rename_i hq
    have h' := W.takeEntryId_inBounds w h
    obtain ⟨h1, h2, h3, h4, h5, h6, h7⟩ := h'
    refine ⟨h1, h2, h3, ?_, h5, h6, h7⟩
    have hq' : (w.cc.queue.filter fun m => m.origin ≠ .recovery).length < 8 := by
      simpa [W.queueFull, W.placesTaken] using hq
    have := List.length_filter_le (fun m => decide (m.origin ≠ Origin.recovery)) [newMove w.takeEntryId.2 origin source asked expected ticket cart]
    show ((w.cc.queue ++ [newMove w.takeEntryId.2 origin source asked expected ticket cart]).filter fun m => m.origin ≠ .recovery).length ≤ 8
    rw [List.filter_append, List.length_append]
    simp only [List.length_singleton] at this
    omega

@[simp] theorem W.queueRecovery_inBounds (w : W)  (hB : w.inBounds) :
    (W.queueRecovery w).inBounds := by
  have h := hB
  have h' := W.takeEntryId_inBounds w h
  obtain ⟨h1, h2, h3, h4, h5, h6, h7⟩ := h'
  exact ⟨h1, h2, h3, by simpa [W.queueRecovery, W.modCC, newMove] using h4, h5, h6, h7⟩

@[simp] theorem W.queueScan_inBounds (w : W) (range : List Element)  (hB : w.inBounds) :
    (W.queueScan w range).1.inBounds := by
  unfold W.queueScan; (repeat' split) <;> simp (maxDischargeDepth := 20) [hB]

@[simp] theorem W.changerFaultNotice_inBounds (w : W) (reason : Reason) (step : Option Step) (element : Option Element) (attempts : Nat) (exhausted : Bool) (cart : Option CartRef)  :
    (W.changerFaultNotice w reason step element attempts exhausted cart).inBounds ↔ w.inBounds := by
  rfl

@[simp] theorem W.countRun_inBounds (w : W) (faulted : Bool) (completed : Bool)  (hB : w.inBounds) :
    (W.countRun w faulted completed).inBounds := by
  have h := hB
  obtain ⟨h1, h2, h3, h4, h5, h6, h7⟩ := h
  refine ⟨h1, h2, h3, h4, ?_, h6, h7⟩
  simp only [W.countRun, W.modCC]
  (repeat' split) <;> omega

@[simp] theorem W.goToRest_inBounds (w : W)  (hB : w.inBounds) :
    (W.goToRest w).inBounds := by
  simp (maxDischargeDepth := 20) [W.goToRest, hB]

@[simp] theorem W.reportMoveEnd_inBounds (w : W) (m : Move) (r : Reason) (c : Contents) (ended : Option Element)  (hB : w.inBounds) :
    (W.reportMoveEnd w m r c ended).inBounds := by
  simp (maxDischargeDepth := 20) [W.reportMoveEnd, hB]

@[simp] theorem W.endMove_inBounds (w : W) (m : Move) (r : Reason) (c : Contents) (ended : Option Element)  (hB : w.inBounds) :
    (W.endMove w m r c ended).inBounds := by
  simp (maxDischargeDepth := 20) [W.endMove, hB]

@[simp] theorem W.holdFault_inBounds (w : W) (reason : Reason) (s : Option Step) (exhausted : Bool)  :
    (W.holdFault w reason s exhausted).inBounds ↔ w.inBounds := by
  simp [W.holdFault]

@[simp] theorem W.choosePutAway_inBounds (w : W) (m : Move)  :
    (W.choosePutAway w m).inBounds ↔ w.inBounds := by
  unfold W.choosePutAway; (repeat' split) <;> simp

@[simp] theorem W.fillPicker_inBounds (w : W) (c : Contents) (e : Option Element) (hB : w.inBounds) :
    (W.fillPicker w c e).inBounds := by
  unfold W.fillPicker; dsimp only; (repeat' split) <;> simp (maxDischargeDepth := 20) [hB]

@[simp] theorem W.extractAt_inBounds (w : W) (source : Element) (read : Option Label)  (hB : w.inBounds) :
    (W.extractAt w source read).1.inBounds := by
  unfold W.extractAt; dsimp only; (repeat' split) <;> simp (maxDischargeDepth := 20) [hB]

@[simp] theorem W.extractDone_inBounds (w : W) (m : Move) (read : Option Label)  (hB : w.inBounds) :
    (W.extractDone w m read).inBounds := by
  unfold W.extractDone; dsimp only; (repeat' split) <;> simp (maxDischargeDepth := 20) [hB]

@[simp] theorem W.placeAt_inBounds (w : W) (dest : Element)  (hB : w.inBounds) :
    (W.placeAt w dest).inBounds := by
  unfold W.placeAt; dsimp only; (repeat' split) <;> simp (maxDischargeDepth := 20) [hB]

@[simp] theorem W.placeDone_inBounds (w : W) (m : Move)  (hB : w.inBounds) :
    (W.placeDone w m).inBounds := by
  unfold W.placeDone; (repeat' split) <;> simp (maxDischargeDepth := 20) [hB]

@[simp] theorem W.declareLost_inBounds (w : W)  (hB : w.inBounds) :
    (W.declareLost w).inBounds := by
  unfold W.declareLost; dsimp only; (repeat' split) <;> simp (maxDischargeDepth := 20) [hB]

@[simp] theorem W.passOver_inBounds (x1 : List Element) (x2 : W)  (hB : x2.inBounds) :
    (W.passOver x1 x2).1.inBounds := by
  have h := hB
  clear hB
  induction x1 generalizing x2 with
  | nil => exact h
  | cons e rest ih => unfold W.passOver; (repeat' split) <;> simp [ih, h]

@[simp] theorem W.putRemaining_inBounds (w : W) (l : List Element)  :
    (W.putRemaining w l).inBounds ↔ w.inBounds := by
  unfold W.putRemaining; (repeat' split) <;> simp

@[simp] theorem W.endScanEntry_inBounds (w : W) (faulted : Bool)  (hB : w.inBounds) :
    (W.endScanEntry w faulted).inBounds := by
  simp (maxDischargeDepth := 20) [W.endScanEntry, hB]

@[simp] theorem W.resumeLoaded_inBounds (w : W) (m : Move)  (hB : w.inBounds) :
    (W.resumeLoaded w m).inBounds := by
  unfold W.resumeLoaded; dsimp only; (repeat' split) <;> simp (maxDischargeDepth := 20) [hB]

@[simp] theorem W.endAtSource_inBounds (w : W) (m : Move) (r : Reason)  (hB : w.inBounds) :
    (W.endAtSource w m r).inBounds := by
  simp (maxDischargeDepth := 20) [W.endAtSource, hB]

@[simp] theorem W.resumeEmpty_inBounds (w : W) (m : Move)  (hB : w.inBounds) :
    (W.resumeEmpty w m).inBounds := by
  unfold W.resumeEmpty; dsimp only; (repeat' split) <;> simp (maxDischargeDepth := 20) [hB]

@[simp] theorem W.resumeHeld_inBounds (w : W) (m : Move) (s : Option Step)  (hB : w.inBounds) :
    (W.resumeHeld w m s).inBounds := by
  simp (maxDischargeDepth := 20) [W.resumeHeld, hB]

@[simp] theorem W.endLost_inBounds (w : W) (m : Move)  (hB : w.inBounds) :
    (W.endLost w m).inBounds := by
  simp (maxDischargeDepth := 20) [W.endLost, hB]

@[simp] theorem W.spotCheck_inBounds (w : W) (dest : Option Element)  :
    (W.spotCheck w dest).1.inBounds ↔ w.inBounds := by
  unfold W.spotCheck; (repeat' split) <;> simp

@[simp] theorem W.spotCheckedMove_inBounds (w : W) (m : Move) (present : Bool)  (hB : w.inBounds) :
    (W.spotCheckedMove w m present).inBounds := by
  simp (maxDischargeDepth := 20) [W.spotCheckedMove, hB]

@[simp] theorem W.settleMove_inBounds (w : W) (m : Move) (s : Step) (sensed : Bool)  (hB : w.inBounds) :
    (W.settleMove w m s sensed).1.inBounds := by
  unfold W.settleMove; dsimp only; (repeat' split) <;> simp (maxDischargeDepth := 20) [hB]

@[simp] theorem W.keepSettled_inBounds (w : W) (s : Step)  :
    (W.keepSettled w s).inBounds ↔ w.inBounds := by
  rfl

@[simp] theorem W.holdPickerOccupied_inBounds (w : W)  :
    (W.holdPickerOccupied w).inBounds ↔ w.inBounds := by
  simp [W.holdPickerOccupied]

@[simp] theorem W.closeFinished_inBounds (w : W)  (hB : w.inBounds) :
    (W.closeFinished w).inBounds := by
  unfold W.closeFinished; dsimp only; (repeat' split) <;> simp (maxDischargeDepth := 20) [hB]

@[simp] theorem W.scanGoesOn_inBounds (w : W)  (hB : w.inBounds) :
    (W.scanGoesOn w).inBounds := by
  unfold W.scanGoesOn; dsimp only; (repeat' split) <;> simp (maxDischargeDepth := 20) [hB]

@[simp] theorem W.startCloseScan_inBounds (w : W)  (hB : w.inBounds) :
    (W.startCloseScan w).inBounds := by
  simp (maxDischargeDepth := 20) [W.startCloseScan, hB]

@[simp] theorem W.powerOnHomed_inBounds (w : W) (sensed : Bool)  (hB : w.inBounds) :
    (W.powerOnHomed w sensed).inBounds := by
  simp (maxDischargeDepth := 20) [W.powerOnHomed, hB]

@[simp] theorem W.resetFound_inBounds (w : W)  (hB : w.inBounds) :
    (W.resetFound w).inBounds := by
  simp (maxDischargeDepth := 20) [W.resetFound, hB]

@[simp] theorem W.resetSettled_inBounds (w : W) (sensed : Bool)  (hB : w.inBounds) :
    (W.resetSettled w sensed).1.inBounds := by
  have h := hB
  unfold W.resetSettled; (repeat' split) <;> (try simp (maxDischargeDepth := 20) [h]) <;> (repeat' split) <;> (try simp (maxDischargeDepth := 20) [h])
  all_goals (cases ‹Interrupted›.dest <;> simp [h])

@[simp] theorem W.dropInterrupted_inBounds (w : W)  :
    (W.dropInterrupted w).inBounds ↔ w.inBounds := by
  rfl

@[simp] theorem W.pickerRechecked_inBounds (w : W) (sensed : Bool)  (hB : w.inBounds) :
    (W.pickerRechecked w sensed).inBounds := by
  simp (maxDischargeDepth := 20) [W.pickerRechecked, hB]

@[simp] theorem W.runSequence_inBounds (w : W) (seq : HomingFor) (sensed : Bool)  (hB : w.inBounds) :
    (W.runSequence w seq sensed).1.inBounds := by
  unfold W.runSequence; (repeat' split) <;> simp (maxDischargeDepth := 20) [hB]

@[simp] theorem W.closeSettled_inBounds (w : W) (sensed : Bool)  (hB : w.inBounds) :
    (W.closeSettled w sensed).inBounds := by
  unfold W.closeSettled; dsimp only; (repeat' split) <;> simp (maxDischargeDepth := 20) [hB]

@[simp] theorem W.startHoming_inBounds (w : W) (seq : HomingFor)  :
    (W.startHoming w seq).inBounds ↔ w.inBounds := by
  simp [W.startHoming]

@[simp] theorem W.clearSettled_inBounds (w : W) (sensed : Bool)  (hB : w.inBounds) :
    (W.clearSettled w sensed).inBounds := by
  unfold W.clearSettled; dsimp only; (repeat' split) <;> simp (maxDischargeDepth := 20) [hB]

@[simp] theorem W.homed_inBounds (w : W) (sensed : Bool)  (hB : w.inBounds) :
    (W.homed w sensed).inBounds := by
  simp (maxDischargeDepth := 20) [W.homed, hB]

@[simp] theorem W.spotChecked_inBounds (w : W) (present : Bool)  (hB : w.inBounds) :
    (W.spotChecked w present).inBounds := by
  have h := hB
  have hx : ∀ o : Option Interrupted, ((o.bind fun a => a.dest.map w.endStep.placeAt).getD w.endStep).inBounds := by
    intro o
    cases o with
    | none => simp [h]
    | some a => cases ha : a.dest <;> simp [ha, h]
  unfold W.spotChecked; dsimp only; (repeat' split) <;> simp_all [Option.bind_map]

@[simp] theorem W.countAttempt_inBounds (w : W) (s : Step) (mark : Bool) (n : Nat)  :
    (W.countAttempt w s mark n).inBounds ↔ w.inBounds := by
  unfold W.countAttempt; (repeat' split) <;> simp

@[simp] theorem W.noteResume_inBounds (w : W) (s : Step)  :
    (W.noteResume w s).inBounds ↔ w.inBounds := by
  unfold W.noteResume; (repeat' split) <;> simp

@[simp] theorem W.retryOrHold_inBounds (w : W) (reason : Reason) (s : Step)  :
    (W.retryOrHold w reason s).inBounds ↔ w.inBounds := by
  unfold W.retryOrHold; (repeat' split) <;> simp

@[simp] theorem W.reactHold_inBounds (w : W) (reason : Reason) (s : Step)  :
    (W.reactHold w reason s).inBounds ↔ w.inBounds := by
  simp [W.reactHold]

@[simp] theorem W.stall_inBounds (w : W)  (hB : w.inBounds) :
    (W.stall w).inBounds := by
  unfold W.stall; (repeat' split) <;> simp (maxDischargeDepth := 20) [hB]

@[simp] theorem W.reportGripMiss_inBounds (w : W) (m : Move)  (hB : w.inBounds) :
    (W.reportGripMiss w m).inBounds := by
  simp (maxDischargeDepth := 20) [W.reportGripMiss, hB]

@[simp] theorem W.gripMiss_inBounds (w : W)  (hB : w.inBounds) :
    (W.gripMiss w).inBounds := by
  unfold W.gripMiss; dsimp only; (repeat' split) <;> simp (maxDischargeDepth := 20) [hB]

@[simp] theorem W.reportPlaceBlocked_inBounds (w : W) (m : Move)  :
    (W.reportPlaceBlocked w m).inBounds ↔ w.inBounds := by
  simp [W.reportPlaceBlocked]

@[simp] theorem W.placeBlocked_inBounds (w : W)  (hB : w.inBounds) :
    (W.placeBlocked w).inBounds := by
  unfold W.placeBlocked; dsimp only; (repeat' split) <;> simp (maxDischargeDepth := 20) [hB]

@[simp] theorem W.startScanEntry_inBounds (w : W) (s : Scan)  (hB : w.inBounds) :
    (W.startScanEntry w s).inBounds := by
  simp (maxDischargeDepth := 20) [W.startScanEntry, hB]

@[simp] theorem W.startRecovery_inBounds (w : W) (m : Move) (sensed : Bool)  (hB : w.inBounds) :
    (W.startRecovery w m sensed).inBounds := by
  unfold W.startRecovery; dsimp only; (repeat' split) <;> simp (maxDischargeDepth := 20) [hB]

@[simp] theorem W.startMove_inBounds (w : W) (m : Move) (sensed : Bool)  (hB : w.inBounds) :
    (W.startMove w m sensed).inBounds := by
  have h := hB
  have h0 : (w.modCC fun c => { c with queue := c.queue.drop 1 }).inBounds := by
    obtain ⟨h1, h2, h3, h4, h5, h6, h7⟩ := h
    refine ⟨h1, h2, h3, Nat.le_trans ?_ h4, h5, h6, h7⟩
    exact ((List.drop_sublist 1 w.cc.queue).filter _).length_le
  unfold W.startMove; dsimp only
  revert h0
  generalize (w.modCC fun c => { c with queue := c.queue.drop 1 }) = v
  intro h0
  (repeat' split) <;> simp (maxDischargeDepth := 20) [h0]

@[simp] theorem W.startEntry_inBounds (w : W) (sensed : Bool)  (hB : w.inBounds) :
    (W.startEntry w sensed).inBounds := by
  unfold W.startEntry; dsimp only; (repeat' split) <;> simp (maxDischargeDepth := 20) [hB]

@[simp] theorem W.clearFault_inBounds (w : W)  (hB : w.inBounds) :
    (W.clearFault w).inBounds := by
  have h := hB
  have h0 : (w.modCC fun c => { c with faultRun := 0 }).inBounds := by
    obtain ⟨h1, h2, h3, h4, h5, h6, h7⟩ := h
    exact ⟨h1, h2, h3, h4, Nat.zero_le _, h6, h7⟩
  unfold W.clearFault; dsimp only; (repeat' split) <;> simp [h0]

@[simp] theorem W.frontDoorOpens_inBounds (w : W)  :
    (W.frontDoorOpens w).inBounds ↔ w.inBounds := by
  simp [W.frontDoorOpens]

@[simp] theorem W.frontDoorCloses_inBounds (w : W)  (hB : w.inBounds) :
    (W.frontDoorCloses w).inBounds := by
  simp (maxDischargeDepth := 20) [W.frontDoorCloses, hB]

@[simp] theorem W.resetChangerNow_inBounds (w : W)  (hB : w.inBounds) :
    (W.resetChangerNow w).inBounds := by
  have h := hB
  have h0 : ∀ k, (w.modCC fun c =>
    { resetChanger with
        state := .unhomed, picker := c.picker, pickedFrom := c.pickedFrom, nextId := c.nextId,
        interrupted := k, homingFor := .reset, step := none, stepTimer := none }).inBounds := by
    obtain ⟨h1, h2, h3, h4, h5, h6, h7⟩ := h
    exact fun _ => ⟨h1, h2, h3, Nat.zero_le _, Nat.zero_le _, h6, h7⟩
  unfold W.resetChangerNow; dsimp only; split <;> simp [h0]

@[simp] theorem W.deriveSession_inBounds (w : W) (id : Nat)  :
    (W.deriveSession w id).inBounds ↔ w.inBounds := by
  simp [W.deriveSession]

theorem length_insertExtent (x : ExtentRec) (l : List ExtentRec) : (insertExtent x l).length = l.length + 1 := by
  induction l with
  | nil => rfl
  | cons y ys ih => unfold insertExtent; split <;> simp [ih]

theorem length_insertBy {α : Type} (key : α → Nat) (x : α) (l : List α) : (insertBy key x l).length = l.length + 1 := by
  induction l with
  | nil => rfl
  | cons y ys ih => unfold insertBy; split <;> simp [ih]

theorem W.createSession_inBounds (w : W) (s : SessionRec) (h : w.inBounds) (hf : w.sessionFree = true) :
    (w.createSession s).inBounds := by
  obtain ⟨h1, h2, h3, h4, h5, h6, h7⟩ := h
  simp only [W.sessionFree, decide_eq_true_eq] at hf
  refine ⟨h1, ?_, h3, h4, h5, h6, h7⟩
  simp only [W.createSession, length_insertBy]; omega

theorem W.makeExtent_inBounds (w : W) (e : ExtentRec) (h : w.inBounds) (hf : w.extentFree = true) :
    (w.makeExtent e).inBounds := by
  unfold W.makeExtent
  rw [W.deriveSession_inBounds, W.modCart_inBounds]
  obtain ⟨h1, h2, h3, h4, h5, h6, h7⟩ := h
  simp only [W.extentFree, decide_eq_true_eq] at hf
  refine ⟨h1, h2, ?_, h4, h5, h6, h7⟩
  simp only [length_insertExtent]; omega

@[simp] theorem W.freeExtent_inBounds (w : W) (id : Nat) (sequence : Nat)  (hB : w.inBounds) :
    (W.freeExtent w id sequence).inBounds := by
  have h := hB
  unfold W.freeExtent
  split
  · exact h
  · dsimp only
    rw [W.deriveSession_inBounds, W.modCart_inBounds]
    obtain ⟨h1, h2, h3, h4, h5, h6, h7⟩ := h
    exact ⟨h1, h2, Nat.le_trans (List.length_filter_le _ _) h3, h4, h5, h6, h7⟩

@[simp] theorem W.setVerdict_inBounds (w : W) (id : Nat) (sequence : Nat) (v : VerifyState) (damaged : Nat)  :
    (W.setVerdict w id sequence v damaged).inBounds ↔ w.inBounds := by
  simp [W.setVerdict]

@[simp] theorem W.dropSession_inBounds (w : W) (id : Nat)  (hB : w.inBounds) :
    (W.dropSession w id).1.inBounds := by
  have h := hB
  have h0 : ((w.extentsOf id).foldl (fun (v : W) e => v.freeExtent id e.sequence) w).inBounds :=
    W.inBounds_foldl _ (fun v e hv => W.freeExtent_inBounds v id e.sequence hv) _ _ h
  obtain ⟨h1, h2, h3, h4, h5, h6, h7⟩ := h0
  exact ⟨h1, Nat.le_trans (List.length_filter_le _ _) h2, h3, h4, h5, h6, h7⟩

theorem W.extentAnswer_ok {w : W} {e : ExtentIn} {self : Option Nat} (h : w.extentAnswer e self = .ok) :
    w.extentFree = true ∧ ((w.session e.session).isSome = true ∨ w.sessionFree = true) := by
  unfold W.extentAnswer at h
  split at h
  · cases h
  · split at h
    · cases h
    · dsimp only at h
      (repeat' split at h) <;> first | (cases h; done) | (rename_i hx; cases hs : w.session e.session <;> simp_all)

theorem W.takeExtent_inBounds (w : W) (e : ExtentIn) (origin : SessionOrigin) (h : w.inBounds)
    (hf : w.extentFree = true) (hs : (w.session e.session).isSome = true ∨ w.sessionFree = true) :
    (w.takeExtent e origin).inBounds := by
  unfold W.takeExtent
  split
  · exact h
  · dsimp only
    split
    · exact W.makeExtent_inBounds _ _ h hf
    · rename_i hn
      exact W.makeExtent_inBounds _ _ (W.createSession_inBounds _ _ h (hs.resolve_left hn)) hf

@[simp] theorem W.removeExtent_inBounds (w : W) (u : Nat) (e : ExtentRec)  (hB : w.inBounds) :
    (W.removeExtent w u e).inBounds := by
  have h := hB
  unfold W.removeExtent
  exact W.inBounds_foldl _ (fun v n hv => by simp [hv]) _ _ (by simp (maxDischargeDepth := 20) [h])

@[simp] theorem W.probedEnd_inBounds (w : W) (i : Nat) (u : Nat)  (hB : w.inBounds) :
    (W.probedEnd w i u).inBounds := by
  have h := hB
  unfold W.probedEnd; exact W.inBounds_foldl _ (fun v n hv => by simp [hv]) _ _ h

@[simp] theorem W.suspectByVerify_inBounds (w : W) (i : Nat)  :
    (W.suspectByVerify w i).inBounds ↔ w.inBounds := by
  unfold W.suspectByVerify; (repeat' split) <;> simp

@[simp] theorem W.countVerdict_inBounds (w : W) (n : Nat) (t : Tally)  :
    (W.countVerdict w n t).inBounds ↔ w.inBounds := by
  simp [W.countVerdict]

@[simp] theorem W.noteVerdict_inBounds (w : W) (n : Nat) (i : Nat) (t : Tally)  (hB : w.inBounds) :
    (W.noteVerdict w n i t).inBounds := by
  simp (maxDischargeDepth := 20) [W.noteVerdict, hB]

@[simp] theorem W.recordVerdict_inBounds (w : W) (n : Nat) (session : Nat) (sequence : Nat) (t : Tally)  (hB : w.inBounds) :
    (W.recordVerdict w n session sequence t).inBounds := by
  unfold W.recordVerdict; (repeat' split) <;> simp (maxDischargeDepth := 20) [hB]

@[simp] theorem W.endChecking_inBounds (w : W) (n : Nat)  (hB : w.inBounds) :
    (W.endChecking w n).inBounds := by
  unfold W.endChecking; (repeat' split) <;> simp (maxDischargeDepth := 20) [hB]

@[simp] theorem W.recordUnended_inBounds (w : W) (n : Nat)  (hB : w.inBounds) :
    (W.recordUnended w n).inBounds := by
  unfold W.recordUnended; (repeat' split) <;> simp (maxDischargeDepth := 20) [hB]

@[simp] theorem W.verifyDoneNotice_inBounds (w : W) (n : Nat) (r : JobResult)  :
    (W.verifyDoneNotice w n r).inBounds ↔ w.inBounds := by
  unfold W.verifyDoneNotice; (repeat' split) <;> simp

@[simp] theorem W.jobNotice_inBounds (w : W) (n : Nat) (was : Option JobState)  :
    (W.jobNotice w n was).inBounds ↔ w.inBounds := by
  unfold W.jobNotice; (repeat' split) <;> simp

@[simp] theorem W.setJob_inBounds (w : W) (n : Nat) (s : JobState) (why : Option WaitReason)  :
    (W.setJob w n s why).inBounds ↔ w.inBounds := by
  unfold W.setJob; (repeat' split) <;> simp

@[simp] theorem W.waitFor_inBounds (w : W) (n : Nat) (r : WaitReason)  :
    (W.waitFor w n r).inBounds ↔ w.inBounds := by
  simp [W.waitFor]

@[simp] theorem W.waitMedia_inBounds (w : W) (n : Nat) (wanted : MediaWanted)  (hB : w.inBounds) :
    (W.waitMedia w n wanted).inBounds := by
  unfold W.waitMedia; dsimp only; (repeat' split) <;> simp (maxDischargeDepth := 20) [hB]

@[simp] theorem W.freeJob_inBounds (w : W) (n : Nat)  (hB : w.inBounds) :
    (W.freeJob w n).inBounds := by
  have h := hB
  obtain ⟨h1, h2, h3, h4, h5, h6, h7⟩ := h
  exact ⟨Nat.le_trans (List.length_filter_le _ _) h1, h2, h3, h4, h5, h6, h7⟩

@[simp] theorem W.admit_inBounds (w : W) (kind : JobKind) (session : Option Nat) (target : Target) (progress : Progress) (pins : List Nat)  (hB : w.inBounds) :
    (W.admitJob w kind session target progress pins).1.inBounds := by
  have h := hB
  unfold W.admitJob
  split
  · exact h
  · rename_i hc
    have hroom : (if w.js.jobs.length < 16 then w
      else match w.oldestFinished with
        | some n => w.freeJob n
        | none => w).inBounds ∧ (if w.js.jobs.length < 16 then w
      else match w.oldestFinished with
        | some n => w.freeJob n
        | none => w).js.jobs.length < 16 := by
      split
      · exact ⟨h, by assumption⟩
      · split
        · rename_i hn n hn'
          refine ⟨W.freeJob_inBounds w n h, ?_⟩
          obtain ⟨j, hj, hjn⟩ : ∃ j ∈ w.js.jobs, j.id = n := by
            unfold W.oldestFinished at hn'
            cases hh : (sortBy Job.seq (w.js.jobs.filter fun j => j.state.isFinished)).head? with
            | none => rw [hh] at hn'; cases hn'
            | some j =>
              rw [hh] at hn'
              refine ⟨j, ?_, Option.some.inj hn'⟩
              have := List.mem_of_mem_head? (l := sortBy Job.seq (w.js.jobs.filter fun j => j.state.isFinished)) (a := j) (by simp [hh])
              exact (List.mem_filter.mp (mem_sortBy _ _ _ this)).1
          have hlt : (w.js.jobs.filter fun j => j.id ≠ n).length < w.js.jobs.length :=
            List.length_filter_lt_length_iff_exists.mpr ⟨j, hj, by simp [hjn]⟩
          have := h.1
          have hfree : (w.freeJob n).js.jobs.length = (w.js.jobs.filter fun j => j.id ≠ n).length := rfl
          omega
        · exfalso; simp_all [W.canAdmit]
    revert hroom
    generalize (if w.js.jobs.length < 16 then w
      else match w.oldestFinished with
        | some n => w.freeJob n
        | none => w) = v
    intro hroom
    simp only [W.wantDispatch_inBounds, W.jobNotice_inBounds]
    obtain ⟨⟨h1, h2, h3, h4, h5, h6, h7⟩, hr⟩ := hroom
    refine ⟨?_, h2, h3, h4, h5, h6, h7⟩
    simp only [List.length_append, List.length_singleton]
    omega

@[simp] theorem W.releaseCart_inBounds (w : W) (n : Nat)  :
    (W.releaseCart w n).inBounds ↔ w.inBounds := by
  unfold W.releaseCart; (repeat' split) <;> simp

@[simp] theorem W.unbind_inBounds (w : W) (n : Nat)  :
    (W.unbind w n).inBounds ↔ w.inBounds := by
  unfold W.unbind; (repeat' split) <;> simp

@[simp] theorem W.releaseDrive_inBounds (w : W) (n : Nat)  (hB : w.inBounds) :
    (W.releaseDrive w n).inBounds := by
  unfold W.releaseDrive; (repeat' split) <;> simp (maxDischargeDepth := 20) [hB]

@[simp] theorem W.releaseBoth_inBounds (w : W) (n : Nat)  (hB : w.inBounds) :
    (W.releaseBoth w n).inBounds := by
  simp (maxDischargeDepth := 20) [W.releaseBoth, hB]

@[simp] theorem W.dropHeld_inBounds (w : W) (n : Nat)  :
    (W.dropHeld w n).inBounds ↔ w.inBounds := by
  rfl

@[simp] theorem W.finishJob_inBounds (w : W) (n : Nat) (s : JobState) (r : JobResult)  (hB : w.inBounds) :
    (W.finishJob w n s r).inBounds := by
  unfold W.finishJob; (repeat' split) <;> simp (maxDischargeDepth := 20) [hB]

@[simp] theorem W.endJob_inBounds (w : W) (n : Nat) (s : JobState) (r : JobResult)  (hB : w.inBounds) :
    (W.endJob w n s r).inBounds := by
  unfold W.endJob; (repeat' split) <;> simp (maxDischargeDepth := 20) [hB]

@[simp] theorem W.issueMove_inBounds (w : W) (origin : Origin) (source : Element) (asked : Dest) (i : Option Nat)  (hB : w.inBounds) :
    (W.issueMove w origin source asked i).1.inBounds := by
  unfold W.issueMove; dsimp only; (repeat' split) <;> simp (maxDischargeDepth := 20) [hB]

@[simp] theorem W.issueJobMove_inBounds (w : W) (n : Nat) (source : Element) (asked : Dest) (i : Option Nat) (s : MountStep)  (hB : w.inBounds) :
    (W.issueJobMove w n source asked i s).inBounds := by
  simp (maxDischargeDepth := 20) [W.issueJobMove, hB]

@[simp] theorem W.issueReturn_inBounds (w : W) (d : Drive)  (hB : w.inBounds) :
    (W.issueReturn w d).inBounds := by
  unfold W.issueReturn; (repeat' split) <;> simp (maxDischargeDepth := 20) [hB]

@[simp] theorem W.issueHeld_inBounds (w : W)  (hB : w.inBounds) :
    (W.issueHeld w).inBounds := by
  unfold W.issueHeld; (repeat' split) <;> simp (maxDischargeDepth := 20) [hB]

@[simp] theorem W.bind_inBounds (w : W) (n : Nat) (d : Drive)  :
    (W.bind w n d).inBounds ↔ w.inBounds := by
  unfold W.bind; (repeat' split) <;> simp

@[simp] theorem W.atStep_inBounds (w : W) (n : Nat) (s : MountStep)  :
    (W.atStep w n s).inBounds ↔ w.inBounds := by
  simp [W.atStep]

@[simp] theorem W.startCleaning_inBounds (w : W) (n : Nat) (d : Drive)  (hB : w.inBounds) :
    (W.startCleaning w n d).inBounds := by
  simp (maxDischargeDepth := 20) [W.startCleaning, hB]

@[simp] theorem W.mountLoaded_inBounds (w : W) (n : Nat) (j : Job) (d : Drive) (i : Nat)  (hB : w.inBounds) :
    (W.mountLoaded w n j d i).inBounds := by
  unfold W.mountLoaded; (repeat' split) <;> simp (maxDischargeDepth := 20) [hB]

@[simp] theorem W.returnLeft_inBounds (w : W) (l : List Drive)  (hB : w.inBounds) :
    (W.returnLeft w l).inBounds :=
  W.inBounds_foldl _ (fun v d hv => by split <;> simp [hv]) l w hB

@[simp] theorem W.mountBring_inBounds (w : W) (n : Nat) (j : Job) (d : Drive) (i : Nat)  (hB : w.inBounds) :
    (W.mountBring w n j d i).inBounds := by
  unfold W.mountBring; (repeat' split) <;> simp (maxDischargeDepth := 20) [hB]

@[simp] theorem W.mountNext_inBounds (w : W) (n : Nat)  (hB : w.inBounds) :
    (W.mountNext w n).inBounds := by
  unfold W.mountNext; (repeat' split) <;> simp (maxDischargeDepth := 20) [hB]

@[simp] theorem W.startYield_inBounds (w : W) (n : Nat)  :
    (W.startYield w n).inBounds ↔ w.inBounds := by
  unfold W.startYield; (repeat' split) <;> simp

@[simp] theorem W.maybeYield_inBounds (w : W) (n : Nat)  :
    (W.maybeYield w n).inBounds ↔ w.inBounds := by
  unfold W.maybeYield; (repeat' split) <;> simp

@[simp] theorem W.claimCart_inBounds (w : W) (n : Nat) (i : Nat)  :
    (W.claimCart w n i).inBounds ↔ w.inBounds := by
  unfold W.claimCart; (repeat' split) <;> simp

@[simp] theorem W.startMount_inBounds (w : W) (n : Nat) (d : Drive) (i : Nat)  (hB : w.inBounds) :
    (W.startMount w n d i).inBounds := by
  simp (maxDischargeDepth := 20) [W.startMount, hB]

@[simp] theorem W.dispatchOne_inBounds (w : W) (n : Nat)  (hB : w.inBounds) :
    (W.dispatchOne w n).inBounds := by
  unfold W.dispatchOne; (repeat' split) <;> simp (maxDischargeDepth := 20) [hB]

@[simp] theorem W.dispatch_inBounds (w : W)  (hB : w.inBounds) :
    (W.dispatch w).inBounds := by
  have h := hB
  unfold W.dispatch
  split
  · exact W.inBounds_foldl _ (fun v n hv => W.dispatchOne_inBounds v n hv) _ _ h
  · exact h

@[simp] theorem W.idleExpires_inBounds (w : W) (d : Drive)  (hB : w.inBounds) :
    (W.idleExpires w d).inBounds := by
  unfold W.idleExpires; (repeat' split) <;> simp (maxDischargeDepth := 20) [hB]

@[simp] theorem W.idleStarts_inBounds (w : W) (d : Drive) (limit : Nat)  (hB : w.inBounds) :
    (W.idleStarts w d limit).inBounds := by
  unfold W.idleStarts; dsimp only; (repeat' split) <;> simp (maxDischargeDepth := 20) [hB]

@[simp] theorem W.idleAtOnce_inBounds (w : W) (d : Drive)  (hB : w.inBounds) :
    (W.idleAtOnce w d).inBounds := by
  simp (maxDischargeDepth := 20) [W.idleAtOnce, hB]

@[simp] theorem W.idleCheck_inBounds (w : W) (d : Drive)  (hB : w.inBounds) :
    (W.idleCheck w d).inBounds := by
  simp (maxDischargeDepth := 20) [W.idleCheck, hB]

@[simp] theorem W.idlePendingRuns_inBounds (w : W) (d : Drive)  (hB : w.inBounds) :
    (W.idlePendingRuns w d).inBounds := by
  simp (maxDischargeDepth := 20) [W.idlePendingRuns, hB]

@[simp] theorem W.returnRehomed_inBounds (w : W) (i : Nat)  (hB : w.inBounds) :
    (W.returnRehomed w i).inBounds := by
  unfold W.returnRehomed; (repeat' split) <;> simp (maxDischargeDepth := 20) [hB]

@[simp] theorem W.keepNeed_inBounds (w : W) (d : Drive) (need : Bool) :
    (W.keepNeed w d need).inBounds ↔ w.inBounds := Iff.rfl

@[simp] theorem W.admitClean_inBounds (w : W) (d : Drive)  (hB : w.inBounds) :
    (W.admitClean w d).1.inBounds := by
  unfold W.admitClean; dsimp only; split <;> simp (maxDischargeDepth := 20) [hB]

@[simp] theorem W.cleanWanted_inBounds (w : W) (d : Drive)  (hB : w.inBounds) :
    (W.cleanWanted w d).inBounds := by
  unfold W.cleanWanted; dsimp only; (repeat' split) <;> simp (maxDischargeDepth := 20) [hB]

@[simp] theorem W.cleanRetry_inBounds (w : W) (d : Drive)  (hB : w.inBounds) :
    (W.cleanRetry w d).inBounds := by
  unfold W.cleanRetry; (repeat' split) <;> simp (maxDischargeDepth := 20) [hB]

@[simp] theorem W.cleaningUse_inBounds (w : W) (i : Nat)  (hB : w.inBounds) :
    (W.cleaningUse w i).inBounds := by
  simp (maxDischargeDepth := 20) [W.cleaningUse, hB]

@[simp] theorem W.placeFrame_inBounds (w : W) (d : Drive) (f : Frame)  (hB : w.inBounds) :
    (W.placeFrame w d f).1.inBounds := by
  unfold W.placeFrame; dsimp only; (repeat' split) <;> simp (maxDischargeDepth := 20) [hB]

@[simp] theorem W.placeCarry_inBounds (x1 : Nat) (x2 : Drive) (x3 : W)  (hB : x3.inBounds) :
    (W.placeCarry x1 x2 x3).1.inBounds := by
  have h := hB
  clear hB
  induction x1 generalizing x3 with
  | zero => exact h
  | succ n ih => unfold W.placeCarry; dsimp only; (repeat' split) <;> simp (maxDischargeDepth := 20) [ih, h]

@[simp] theorem W.placeAllCarry_inBounds (w : W) (d : Drive)  (hB : w.inBounds) :
    (W.placeAllCarry w d).1.inBounds := by
  simp (maxDischargeDepth := 20) [W.placeAllCarry, hB]

@[simp] theorem W.presentWrite_inBounds (w : W) (d : Drive)  (hB : w.inBounds) :
    (W.presentWrite w d).inBounds := by
  unfold W.presentWrite; dsimp only; (repeat' split) <;> simp (maxDischargeDepth := 20) [hB]

@[simp] theorem W.presentRead_inBounds (w : W) (d : Drive)  (hB : w.inBounds) :
    (W.presentRead w d).inBounds := by
  unfold W.presentRead; dsimp only; (repeat' split) <;> simp (maxDischargeDepth := 20) [hB]

@[simp] theorem W.beginEncoding_inBounds (w : W) (d : Drive) (n : Nat)  (hB : w.inBounds) :
    (W.beginEncoding w d n).inBounds := by
  unfold W.beginEncoding; dsimp only; (repeat' split) <;> simp (maxDischargeDepth := 20) [hB]

@[simp] theorem W.beginDecoding_inBounds (w : W) (d : Drive) (n : Nat)  (hB : w.inBounds) :
    (W.beginDecoding w d n).inBounds := by
  unfold W.beginDecoding; dsimp only; (repeat' split) <;> simp (maxDischargeDepth := 20) [hB]

@[simp] theorem W.considerGrant_inBounds (w : W)  (hB : w.inBounds) :
    (W.considerGrant w).inBounds := by
  unfold W.considerGrant; (repeat' split) <;> simp (maxDischargeDepth := 20) [hB]

@[simp] theorem W.coderIdle_inBounds (w : W)  :
    (W.coderIdle w).inBounds ↔ w.inBounds := by
  rfl

@[simp] theorem W.markNoEnd_inBounds (w : W) (n : Nat) (b : Bool)  :
    (W.markNoEnd w n b).inBounds ↔ w.inBounds := by
  unfold W.markNoEnd; (repeat' split) <;> simp

@[simp] theorem W.setEnding_inBounds (w : W) (n : Nat) (e : Option Ending)  :
    (W.setEnding w n e).inBounds ↔ w.inBounds := by
  simp [W.setEnding]

@[simp] theorem W.fullAtThreshold_inBounds (w : W) (i : Nat)  :
    (W.fullAtThreshold w i).inBounds ↔ w.inBounds := by
  unfold W.fullAtThreshold; (repeat' split) <;> simp

@[simp] theorem W.closeExtent_inBounds (w : W) (n : Nat) (continues : Bool) (endMark : Bool)  (hB : w.inBounds) :
    (W.closeExtent w n continues endMark).inBounds := by
  unfold W.closeExtent; dsimp only; (repeat' split) <;> simp (maxDischargeDepth := 20) [hB]

@[simp] theorem W.startEndMark_inBounds (w : W) (n : Nat) (why : EndFor)  (hB : w.inBounds) :
    (W.startEndMark w n why).inBounds := by
  unfold W.startEndMark; (repeat' split) <;> simp (maxDischargeDepth := 20) [hB]

@[simp] theorem W.handOver_inBounds (w : W) (n : Nat)  (hB : w.inBounds) :
    (W.handOver w n).inBounds := by
  unfold W.handOver; (repeat' split) <;> simp (maxDischargeDepth := 20) [hB]

@[simp] theorem W.truncWritten_inBounds (w : W) (n : Nat) (endMark : Bool)  (hB : w.inBounds) :
    (W.truncWritten w n endMark).inBounds := by
  unfold W.truncWritten; dsimp only; (repeat' split) <;> simp (maxDischargeDepth := 20) [hB]

@[simp] theorem W.placeTruncMarker_inBounds (w : W) (n : Nat) (d : Drive) (objects : Nat)  (hB : w.inBounds) :
    (W.placeTruncMarker w n d objects).inBounds := by
  unfold W.placeTruncMarker; dsimp only; (repeat' split) <;> simp (maxDischargeDepth := 20) [hB]

@[simp] theorem W.truncPlaceCarry_inBounds (w : W) (n : Nat) (d : Drive) (objects : Nat)  (hB : w.inBounds) :
    (W.truncPlaceCarry w n d objects).inBounds := by
  unfold W.truncPlaceCarry; dsimp only; (repeat' split) <;> simp (maxDischargeDepth := 20) [hB]

@[simp] theorem W.callTruncation_inBounds (w : W) (n : Nat) (how : JobState × JobResult)  (hB : w.inBounds) :
    (W.callTruncation w n how).inBounds := by
  unfold W.callTruncation; dsimp only; (repeat' split) <;> simp (maxDischargeDepth := 20) [hB]

@[simp] theorem W.spanHandOver_inBounds (w : W) (n : Nat)  (hB : w.inBounds) :
    (W.spanHandOver w n).inBounds := by
  unfold W.spanHandOver; (repeat' split) <;> simp (maxDischargeDepth := 20) [hB]

@[simp] theorem W.beginEarlySpan_inBounds (w : W) (n : Nat) (d : Drive)  :
    (W.beginEarlySpan w n d).inBounds ↔ w.inBounds := by
  simp [W.beginEarlySpan]

@[simp] theorem W.buildSpanMarker_inBounds (w : W) (n : Nat) (d : Drive) (b : BackupData)  (hB : w.inBounds) :
    (W.buildSpanMarker w n d b).inBounds := by
  unfold W.buildSpanMarker; dsimp only; (repeat' split) <;> simp (maxDischargeDepth := 20) [hB]

@[simp] theorem W.placeSessionEnd_inBounds (w : W) (n : Nat) (d : Drive) (objects : Nat)  (hB : w.inBounds) :
    (W.placeSessionEnd w n d objects).inBounds := by
  unfold W.placeSessionEnd; dsimp only; (repeat' split) <;> simp (maxDischargeDepth := 20) [hB]

@[simp] theorem W.sessionCloses_inBounds (w : W) (n : Nat) (auto : Bool)  (hB : w.inBounds) :
    (W.sessionCloses w n auto).inBounds := by
  simp (maxDischargeDepth := 20) [W.sessionCloses, hB]

@[simp] theorem W.truncAdvance_inBounds (w : W) (n : Nat) (b : BackupData)  (hB : w.inBounds) :
    (W.truncAdvance w n b).inBounds := by
  unfold W.truncAdvance; (repeat' split) <;> simp (maxDischargeDepth := 20) [hB]

@[simp] theorem W.backupAdvance_inBounds (w : W) (n : Nat)  (hB : w.inBounds) :
    (W.backupAdvance w n).inBounds := by
  unfold W.backupAdvance; (repeat' split) <;> simp (maxDischargeDepth := 20) [hB]

@[simp] theorem W.attach_inBounds (w : W) (n : Nat) (d : Drive) (b : BackupData) (i : Nat) (first : Nat)  (hB : w.inBounds) :
    (W.attach w n d b i first).inBounds := by
  unfold W.attach; dsimp only; (repeat' split) <;> simp (maxDischargeDepth := 20) [hB]

@[simp] theorem W.beginExtent_inBounds (w : W) (n : Nat)  (hB : w.inBounds) :
    (W.beginExtent w n).inBounds := by
  have h := hB
  unfold W.beginExtent
  (repeat' split) <;> (try simp [h]; done)
  rename_i hf
  simp only [Bool.not_eq_false] at hf
  dsimp only
  refine W.attach_inBounds _ _ _ _ _ _ ?_
  rw [W.setJob_inBounds, W.modBackup_inBounds]
  exact W.makeExtent_inBounds _ _ (by simpa using h) hf

@[simp] theorem W.secureFrame_inBounds (n : Nat) (label : Option Label) (block : Nat) (w : W) (f : Frame)  (hB : w.inBounds) :
    (W.secureFrame n label block w f).inBounds := by
  unfold W.secureFrame; dsimp only; (repeat' split) <;> simp (maxDischargeDepth := 20) [hB]

@[simp] theorem W.countBlock_inBounds (w : W) (n : Nat) (i : Nat) (buf : Buffer)  (hB : w.inBounds) :
    (W.countBlock w n i buf).inBounds := by
  simp (maxDischargeDepth := 20) [W.countBlock, hB]

@[simp] theorem W.writeOk_inBounds (w : W) (n : Nat) (d : Drive) (k : BufId)  (hB : w.inBounds) :
    (W.writeOk w n d k).inBounds := by
  have h := hB
  have h1 : ∀ i, ((((w.stream d).buf k).chunks.foldl (secureFrame n (w.labelOf i) ((w.stream d).buf k).index) (w.countBlock n i ((w.stream d).buf k)))).inBounds :=
    fun i => W.inBounds_foldl _ (fun v e hv => by simp [hv]) _ _ (by simp [h])
  unfold W.writeOk; dsimp only; (repeat' split) <;> simp (maxDischargeDepth := 20) [h, h1]

@[simp] theorem W.writeFails_inBounds (w : W) (n : Nat) (d : Drive)  (hB : w.inBounds) :
    (W.writeFails w n d).inBounds := by
  unfold W.writeFails; (repeat' split) <;> simp (maxDischargeDepth := 20) [hB]

@[simp] theorem W.closingTruncated_inBounds (w : W) (n : Nat) (endMark : Bool)  (hB : w.inBounds) :
    (W.closingTruncated w n endMark).inBounds := by
  unfold W.closingTruncated; split <;> simp (maxDischargeDepth := 20) [hB]

@[simp] theorem W.endMarkDone_inBounds (w : W) (n : Nat) (why : EndFor) (endMark : Bool)  (hB : w.inBounds) :
    (W.endMarkDone w n why endMark).inBounds := by
  unfold W.endMarkDone; dsimp only; (repeat' split) <;> simp (maxDischargeDepth := 20) [hB]

@[simp] theorem W.backupReleases_inBounds (w : W) (n : Nat) (why : WaitReason)  (hB : w.inBounds) :
    (W.backupReleases w n why).inBounds := by
  simp (maxDischargeDepth := 20) [W.backupReleases, hB]

@[simp] theorem W.loseCartridge_inBounds (w : W) (n : Nat) (wasWrite : Bool)  (hB : w.inBounds) :
    (W.loseCartridge w n wasWrite).inBounds := by
  unfold W.loseCartridge; dsimp only; (repeat' split) <;> simp (maxDischargeDepth := 20) [hB]

@[simp] theorem W.loseWrite_inBounds (w : W) (n : Nat) (wasWrite : Bool)  (hB : w.inBounds) :
    (W.loseWrite w n wasWrite).inBounds := by
  unfold W.loseWrite; dsimp only; (repeat' split) <;> simp (maxDischargeDepth := 20) [hB]

@[simp] theorem W.backupLetsGo_inBounds (w : W) (n : Nat) (wasWrite : Bool) (absent : Bool)  (hB : w.inBounds) :
    (W.backupLetsGo w n wasWrite absent).inBounds := by
  unfold W.backupLetsGo; (repeat' split) <;> simp (maxDischargeDepth := 20) [hB]

@[simp] theorem W.backupOp_inBounds (w : W) (n : Nat) (d : Drive) (op : PortOp) (r : OpOutcome)  (hB : w.inBounds) :
    (W.backupOp w n d op r).inBounds := by
  unfold W.backupOp; dsimp only; (repeat' split) <;> simp (maxDischargeDepth := 20) [hB]

@[simp] theorem W.takeFrame_inBounds (w : W) (n : Nat) (d : Drive) (f : Frame)  (hB : w.inBounds) :
    (W.takeFrame w n d f).inBounds := by
  unfold W.takeFrame; dsimp only; (repeat' split) <;> simp (maxDischargeDepth := 20) [hB]

@[simp] theorem W.encodingEnds_inBounds (w : W)  (hB : w.inBounds) :
    (W.encodingEnds w).inBounds := by
  unfold W.encodingEnds; (repeat' split) <;> simp (maxDischargeDepth := 20) [hB]

@[simp] theorem W.resumePlacing_inBounds (w : W) (d : Drive)  (hB : w.inBounds) :
    (W.resumePlacing w d).inBounds := by
  unfold W.resumePlacing; dsimp only; (repeat' split) <;> simp (maxDischargeDepth := 20) [hB]

@[simp] theorem W.takeRecord_inBounds (w : W) (n : Nat)  (hB : w.inBounds) :
    (W.takeRecord w n).inBounds := by
  unfold W.takeRecord; split <;> simp (maxDischargeDepth := 20) [hB]

@[simp] theorem W.serveCatalogWaits_inBounds (w : W)  (hB : w.inBounds) :
    (W.serveCatalogWaits w).inBounds := by
  unfold W.serveCatalogWaits
  exact W.inBounds_foldl _ (fun v n h => v.takeRecord_inBounds n h) _ _ hB

@[simp] theorem W.modTallyOf_inBounds (w : W) (n : Nat) (f : Tally → Tally)  :
    (W.modTallyOf w n f).inBounds ↔ w.inBounds := by
  simp [W.modTallyOf]

@[simp] theorem W.pinFor_inBounds (w : W) (n : Nat) (session : Nat)  :
    (W.pinFor w n session).inBounds ↔ w.inBounds := by
  simp [W.pinFor]

@[simp] theorem W.restThenEnd_inBounds (w : W) (n : Nat) (how : JobState × JobResult)  (hB : w.inBounds) :
    (W.restThenEnd w n how).inBounds := by
  unfold W.restThenEnd; dsimp only; (repeat' split) <;> simp (maxDischargeDepth := 20) [hB]

@[simp] theorem W.handFound_inBounds (w : W) (n : Nat) (i : Nat) (v : VerifyData) (f : FoundExtent) (e : ExtentIn) (t : Tally)  (hB : w.inBounds) :
    (W.handFound w n i v f e t).inBounds := by
  have h := hB
  by_cases hx : w.extentAnswer e (some n) = .ok
  · obtain ⟨hf, hs⟩ := W.extentAnswer_ok hx
    have ht : (w.takeExtent e .rebuilt).inBounds := W.takeExtent_inBounds w e _ h hf hs
    unfold W.handFound
    simp only [hx]
    (repeat' split) <;> simp (maxDischargeDepth := 20) [h, ht]
  · unfold W.handFound
    dsimp only
    (repeat' split) <;> first
      | (exfalso; exact hx ‹_›)
      | (simp (maxDischargeDepth := 20) [h]; done)
      | (split <;> simp (maxDischargeDepth := 20) [h])

@[simp] theorem W.endFound_inBounds (w : W) (n : Nat) (markAt : Option Nat)  (hB : w.inBounds) :
    (W.endFound w n markAt).inBounds := by
  unfold W.endFound; (repeat' split) <;> simp (maxDischargeDepth := 20) [hB]

@[simp] theorem W.endCurrent_inBounds (w : W) (n : Nat) (markAt : Option Nat)  (hB : w.inBounds) :
    (W.endCurrent w n markAt).inBounds := by
  simp (maxDischargeDepth := 20) [W.endCurrent, hB]

@[simp] theorem W.makeCurrent_inBounds (w : W) (n : Nat) (e : ExtentRec)  :
    (W.makeCurrent w n e).inBounds ↔ w.inBounds := by
  simp [W.makeCurrent]

@[simp] theorem W.foundBoundary_inBounds (w : W) (n : Nat) (b : Nat)  (hB : w.inBounds) :
    (W.foundBoundary w n b).inBounds := by
  unfold W.foundBoundary; (repeat' split) <;> simp (maxDischargeDepth := 20) [hB]

@[simp] theorem W.enterBlock_inBounds (w : W) (n : Nat) (b : Nat)  (hB : w.inBounds) :
    (W.enterBlock w n b).inBounds := by
  unfold W.enterBlock; dsimp only; (repeat' split) <;> simp (maxDischargeDepth := 20) [hB]

@[simp] theorem W.verifyFrame_inBounds (w : W) (n : Nat) (r : ResultRec)  (hB : w.inBounds) :
    (W.verifyFrame w n r).inBounds := by
  unfold W.verifyFrame; dsimp only; (repeat' split) <;> simp (maxDischargeDepth := 20) [hB]

@[simp] theorem W.checkStart_inBounds (w : W) (n : Nat) (v : VerifyData) (h : FrameHeader) (b : Nat) (offset : Nat)  :
    (W.checkStart w n v h b offset).inBounds ↔ w.inBounds := by
  unfold W.checkStart; (repeat' split) <;> simp

@[simp] theorem W.verifyStart_inBounds (w : W) (n : Nat) (h : FrameHeader) (b : Nat) (offset : Nat)  (hB : w.inBounds) :
    (W.verifyStart w n h b offset).inBounds := by
  unfold W.verifyStart; dsimp only; (repeat' split) <;> simp (maxDischargeDepth := 20) [hB]

@[simp] theorem W.verifyEnd_inBounds (w : W) (n : Nat) (h : FrameHeader) (b : Nat)  :
    (W.verifyEnd w n h b).inBounds ↔ w.inBounds := by
  unfold W.verifyEnd; (repeat' split) <;> simp

@[simp] theorem W.verifyMarker_inBounds (w : W) (n : Nat) (h : FrameHeader) (b : Nat) (offset : Nat)  (hB : w.inBounds) :
    (W.verifyMarker w n h b offset).inBounds := by
  simp (maxDischargeDepth := 20) [W.verifyMarker, hB]

@[simp] theorem W.verifyHeaderBad_inBounds (w : W) (n : Nat) (b : Nat)  (hB : w.inBounds) :
    (W.verifyHeaderBad w n b).inBounds := by
  unfold W.verifyHeaderBad; dsimp only; (repeat' split) <;> simp (maxDischargeDepth := 20) [hB]

@[simp] theorem W.verifyFinish_inBounds (w : W) (n : Nat)  (hB : w.inBounds) :
    (W.verifyFinish w n).inBounds := by
  unfold W.verifyFinish; (repeat' split) <;> simp (maxDischargeDepth := 20) [hB]

@[simp] theorem W.endRemaining_inBounds (n : Nat) (from_ : Option Nat) (w : W) (x : VExtent)  (hB : w.inBounds) :
    (W.endRemaining n from_ w x).inBounds := by
  unfold W.endRemaining; (repeat' split) <;> simp (maxDischargeDepth := 20) [hB]

@[simp] theorem W.verifyRangeEnd_inBounds (w : W) (n : Nat) (from_ : Option Nat)  (hB : w.inBounds) :
    (W.verifyRangeEnd w n from_).inBounds := by
  have h := hB
  unfold W.verifyRangeEnd
  split
  · exact h
  · exact W.verifyFinish_inBounds _ _ (W.inBounds_foldl _ (fun v e hv => by simp [hv]) _ _ h)

@[simp] theorem W.verifyBlockParsed_inBounds (w : W) (n : Nat) (b : Nat) (last : Bool)  (hB : w.inBounds) :
    (W.verifyBlockParsed w n b last).inBounds := by
  unfold W.verifyBlockParsed; dsimp only; (repeat' split) <;> simp (maxDischargeDepth := 20) [hB]

@[simp] theorem W.verifyUnreadable_inBounds (w : W) (n : Nat) (b : Nat) (last : Bool)  (hB : w.inBounds) :
    (W.verifyUnreadable w n b last).inBounds := by
  unfold W.verifyUnreadable; dsimp only; (repeat' split) <;> simp (maxDischargeDepth := 20) [hB]

@[simp] theorem W.verifyDataEnd_inBounds (w : W) (n : Nat) (b : Nat) (mark : Bool)  (hB : w.inBounds) :
    (W.verifyDataEnd w n b mark).inBounds := by
  simp (maxDischargeDepth := 20) [W.verifyDataEnd, hB]

@[simp] theorem W.verifyExtentRemoved_inBounds (w : W) (n : Nat) (session : Nat) (sequence : Nat)  (hB : w.inBounds) :
    (W.verifyExtentRemoved w n session sequence).inBounds := by
  unfold W.verifyExtentRemoved; (repeat' split) <;> simp (maxDischargeDepth := 20) [hB]

@[simp] theorem W.admitVerify_inBounds (w : W) (i : Nat) (label : Label) (session : Option Nat) (rebuild : Bool)  (hB : w.inBounds) :
    (W.admitVerify w i label session rebuild).1.inBounds := by
  simp (maxDischargeDepth := 20) [W.admitVerify, hB]

@[simp] theorem W.autoVerifyOne_inBounds (session : Nat) (w : W) (e : Nat × Label)  (hB : w.inBounds) :
    (W.autoVerifyOne session w e).inBounds := by
  unfold W.autoVerifyOne; dsimp only; (repeat' split) <;> simp (maxDischargeDepth := 20) [hB]

@[simp] theorem W.autoVerify_inBounds (w : W) (session : Nat)  (hB : w.inBounds) :
    (W.autoVerify w session).inBounds := by
  have h := hB
  unfold W.autoVerify
  exact W.inBounds_foldl _ (fun v e hv => by simp [hv]) _ _ h

@[simp] theorem W.damageNotice_inBounds (w : W) (n : Nat) (o : Nat) (chunk : Nat) (count : Nat) (cause : DamageCause) (label : Option Label) (block : Nat)  :
    (W.damageNotice w n o chunk count cause label block).inBounds ↔ w.inBounds := by
  rfl

@[simp] theorem W.passObject_inBounds (w : W) (n : Nat)  :
    (W.passObject w n).inBounds ↔ w.inBounds := by
  simp [W.passObject]

@[simp] theorem W.reportAbsent_inBounds (w : W) (n : Nat) (o : Nat) (cause : DamageCause) (label : Option Label) (block : Nat)  (hB : w.inBounds) :
    (W.reportAbsent w n o cause label block).inBounds := by
  simp (maxDischargeDepth := 20) [W.reportAbsent, hB]

@[simp] theorem W.restoreDone_inBounds (w : W) (n : Nat)  (hB : w.inBounds) :
    (W.restoreDone w n).inBounds := by
  unfold W.restoreDone; (repeat' split) <;> simp (maxDischargeDepth := 20) [hB]

@[simp] theorem W.addEntry_inBounds (w : W) (n : Nat) (e : OutEntry)  :
    (W.addEntry w n e).inBounds ↔ w.inBounds := by
  unfold W.addEntry; (repeat' split) <;> simp

@[simp] theorem W.putFirst_inBounds (w : W) (n : Nat) (l : List RAction)  :
    (W.putFirst w n l).inBounds ↔ w.inBounds := by
  simp [W.putFirst]

@[simp] theorem W.takeDamage_inBounds (w : W) (n : Nat) (o : Nat) (chunk : Nat) (count : Nat) (cause : DamageCause) (block : Nat) (instead : List RAction)  (hB : w.inBounds) :
    (W.takeDamage w n o chunk count cause block instead).inBounds := by
  unfold W.takeDamage; (repeat' split) <;> simp (maxDischargeDepth := 20) [hB]

@[simp] theorem W.takeExpected_inBounds (w : W) (n : Nat) (res : ResultRec) (r : RestoreData)  (hB : w.inBounds) :
    (W.takeExpected w n res r).inBounds := by
  unfold W.takeExpected; (repeat' split) <;> simp (maxDischargeDepth := 20) [hB]

@[simp] theorem W.takeResult_inBounds (w : W) (n : Nat) (res : ResultRec)  (hB : w.inBounds) :
    (W.takeResult w n res).inBounds := by
  unfold W.takeResult; (repeat' split) <;> simp (maxDischargeDepth := 20) [hB]

@[simp] theorem W.addSubstitute_inBounds (w : W) (n : Nat) (size : Nat) (final : Bool)  :
    (W.addSubstitute w n size final).inBounds ↔ w.inBounds := by
  unfold W.addSubstitute; (repeat' split) <;> simp

@[simp] theorem W.stopReading_inBounds (w : W) (n : Nat)  (hB : w.inBounds) :
    (W.stopReading w n).inBounds := by
  unfold W.stopReading; dsimp only; (repeat' split) <;> simp (maxDischargeDepth := 20) [hB]

@[simp] theorem W.readFrom_inBounds (w : W) (n : Nat) (l : Link)  (hB : w.inBounds) :
    (W.readFrom w n l).inBounds := by
  unfold W.readFrom; dsimp only; (repeat' split) <;> simp (maxDischargeDepth := 20) [hB]

@[simp] theorem W.takeLink_inBounds (w : W) (n : Nat) (l : Link)  (hB : w.inBounds) :
    (W.takeLink w n l).inBounds := by
  simp (maxDischargeDepth := 20) [W.takeLink, hB]

@[simp] theorem W.linkNext_inBounds (w : W) (n : Nat)  (hB : w.inBounds) :
    (W.linkNext w n).inBounds := by
  unfold W.linkNext; (repeat' split) <;> simp (maxDischargeDepth := 20) [hB]

@[simp] theorem W.linkEnds_inBounds (w : W) (n : Nat) (block : Nat) (dataEnd : Bool)  (hB : w.inBounds) :
    (W.linkEnds w n block dataEnd).inBounds := by
  have h := hB
  unfold W.linkEnds
  dsimp only
  (repeat' split) <;> (try simp (maxDischargeDepth := 20) [h]; done)
  all_goals exact W.inBounds_foldl _ (fun v o hv => by simp [hv]) _ _ (by simp (maxDischargeDepth := 20) [h])

@[simp] theorem W.doAction_inBounds (w : W) (n : Nat) (x1 : RAction)  (hB : w.inBounds) :
    (W.doAction w n x1).inBounds := by
  unfold W.doAction; (repeat' split) <;> simp (maxDischargeDepth := 20) [hB]

@[simp] theorem W.runTodo_inBounds (x1 : Nat) (x2 : Nat) (x3 : W)  (hB : x3.inBounds) :
    (W.runTodo x1 x2 x3).inBounds := by
  have h := hB
  clear hB
  induction x1 generalizing x3 with
  | zero => exact h
  | succ n ih =>
    unfold W.runTodo
    (repeat' split) <;> first | exact h | (simp [h]; done) | exact ih _ (W.doAction_inBounds _ _ _ (by simpa using h))

@[simp] theorem W.runAll_inBounds (w : W) (n : Nat)  (hB : w.inBounds) :
    (W.runAll w n).inBounds := by
  unfold W.runAll; (repeat' split) <;> simp (maxDischargeDepth := 20) [hB]

@[simp] theorem W.runWaiting_inBounds (w : W) (n : Nat)  (hB : w.inBounds) :
    (W.runWaiting w n).inBounds := by
  unfold W.runWaiting; split <;> simp (maxDischargeDepth := 20) [hB]

@[simp] theorem W.restoreResult_inBounds (w : W) (n : Nat) (res : ResultRec)  (hB : w.inBounds) :
    (W.restoreResult w n res).inBounds := by
  simp (maxDischargeDepth := 20) [W.restoreResult, hB]

@[simp] theorem W.restoreMarker_inBounds (w : W) (n : Nat) (h : FrameHeader) (b : Nat)  (hB : w.inBounds) :
    (W.restoreMarker w n h b).inBounds := by
  unfold W.restoreMarker; (repeat' split) <;> simp (maxDischargeDepth := 20) [hB]

@[simp] theorem W.relocate_inBounds (w : W) (n : Nat)  (hB : w.inBounds) :
    (W.relocate w n).inBounds := by
  unfold W.relocate; (repeat' split) <;> simp (maxDischargeDepth := 20) [hB]

@[simp] theorem W.hintHolds_inBounds (w : W) (n : Nat)  :
    (W.hintHolds w n).inBounds ↔ w.inBounds := by
  simp [W.hintHolds]

@[simp] theorem W.restoreBlockParsed_inBounds (w : W) (n : Nat) (b : Nat) (last : Bool)  (hB : w.inBounds) :
    (W.restoreBlockParsed w n b last).inBounds := by
  unfold W.restoreBlockParsed; (repeat' split) <;> simp (maxDischargeDepth := 20) [hB]

@[simp] theorem W.restoreUnreadable_inBounds (w : W) (n : Nat) (b : Nat) (last : Bool)  (hB : w.inBounds) :
    (W.restoreUnreadable w n b last).inBounds := by
  unfold W.restoreUnreadable; (repeat' split) <;> simp (maxDischargeDepth := 20) [hB]

@[simp] theorem W.restoreDataEnd_inBounds (w : W) (n : Nat) (b : Nat)  (hB : w.inBounds) :
    (W.restoreDataEnd w n b).inBounds := by
  simp (maxDischargeDepth := 20) [W.restoreDataEnd, hB]

@[simp] theorem W.rejudge_inBounds (w : W) (n : Nat) (sequences : List Nat)  (hB : w.inBounds) :
    (W.rejudge w n sequences).inBounds := by
  have h := hB
  unfold W.rejudge
  split
  · exact h
  · dsimp only
    refine W.runAll_inBounds _ _ ?_
    have h2 : ∀ (l : List Nat) (v : W), v.inBounds → (l.foldl (fun (v : W) o => v.reportAbsent n o .noExtent none 0) v).inBounds :=
      fun l v hv => W.inBounds_foldl _ (fun u o hu => by simp [hu]) _ _ hv
    split <;> simp (maxDischargeDepth := 20) [h, h2]

@[simp] theorem W.restoreExtentRemoved_inBounds (w : W) (n : Nat) (sequence : Nat)  (hB : w.inBounds) :
    (W.restoreExtentRemoved w n sequence).inBounds := by
  simp (maxDischargeDepth := 20) [W.restoreExtentRemoved, hB]

@[simp] theorem W.restoreAdmitted_inBounds (w : W) (n : Nat)  (hB : w.inBounds) :
    (W.restoreAdmitted w n).inBounds := by
  unfold W.restoreAdmitted; (repeat' split) <;> simp (maxDischargeDepth := 20) [hB]

@[simp] theorem W.handMarker_inBounds (w : W) (n : Nat) (h : FrameHeader) (b : Nat) (offset : Nat)  (hB : w.inBounds) :
    (W.handMarker w n h b offset).inBounds := by
  unfold W.handMarker; (repeat' split) <;> simp (maxDischargeDepth := 20) [hB]

@[simp] theorem W.handHeaderBad_inBounds (w : W) (n : Nat) (b : Nat)  (hB : w.inBounds) :
    (W.handHeaderBad w n b).inBounds := by
  unfold W.handHeaderBad; (repeat' split) <;> simp (maxDischargeDepth := 20) [hB]

@[simp] theorem W.handBlockParsed_inBounds (w : W) (n : Nat) (b : Nat) (last : Bool)  (hB : w.inBounds) :
    (W.handBlockParsed w n b last).inBounds := by
  unfold W.handBlockParsed; (repeat' split) <;> simp (maxDischargeDepth := 20) [hB]

@[simp] theorem W.handUnreadable_inBounds (w : W) (n : Nat) (b : Nat) (last : Bool)  (hB : w.inBounds) :
    (W.handUnreadable w n b last).inBounds := by
  unfold W.handUnreadable; (repeat' split) <;> simp (maxDischargeDepth := 20) [hB]

@[simp] theorem W.handDataEnd_inBounds (w : W) (n : Nat) (b : Nat) (mark : Bool)  (hB : w.inBounds) :
    (W.handDataEnd w n b mark).inBounds := by
  unfold W.handDataEnd; (repeat' split) <;> simp (maxDischargeDepth := 20) [hB]

@[simp] theorem W.handResult_inBounds (w : W) (n : Nat) (res : ResultRec)  (hB : w.inBounds) :
    (W.handResult w n res).inBounds := by
  unfold W.handResult; (repeat' split) <;> simp (maxDischargeDepth := 20) [hB]

@[simp] theorem W.beginParsing_inBounds (w : W) (d : Drive) (i : BufId)  :
    (W.beginParsing w d i).inBounds ↔ w.inBounds := by
  rfl

@[simp] theorem W.finishBlock_inBounds (w : W) (d : Drive) (n : Nat) (i : BufId)  (hB : w.inBounds) :
    (W.finishBlock w d n i).inBounds := by
  simp (maxDischargeDepth := 20) [W.finishBlock, hB]

@[simp] theorem W.advanceTo_inBounds (w : W) (d : Drive) (offset : Nat)  :
    (W.advanceTo w d offset).inBounds ↔ w.inBounds := by
  rfl

theorem W.meetChunk_inBounds (w : W) (d : Drive) (j : Job) (offset : Nat) (h : FrameHeader)  (hB : w.inBounds) :
    ∀ v, W.meetChunk w d j offset h = some v → v.inBounds := by
  intro v h'; unfold W.meetChunk at h'; (repeat' split at h') <;> first | (cases h'; simp (maxDischargeDepth := 20) [hB]) | simp_all

theorem W.parseAt_inBounds (w : W) (d : Drive) (j : Job) (i : BufId) (offset : Nat)  (hB : w.inBounds) :
    ∀ v, W.parseAt w d j i offset = some v → v.inBounds := by
  have h := hB
  intro v h'; unfold W.parseAt at h'; dsimp only at h'
  (repeat' split at h') <;> first | (cases h'; simp (maxDischargeDepth := 20) [h]; done) | (cases h'; split <;> simp (maxDischargeDepth := 20) [h]; done) | exact W.meetChunk_inBounds _ _ _ _ _ h _ h'

@[simp] theorem W.tellNews_inBounds (w : W) (d : Drive) (n : Nat) (x : ReadNews)  (hB : w.inBounds) :
    (W.tellNews w d n x).inBounds := by
  unfold W.tellNews; (repeat' split) <;> simp (maxDischargeDepth := 20) [hB]

theorem W.parseOnce_inBounds (w : W) (d : Drive)  (hB : w.inBounds) :
    ∀ v, W.parseOnce w d = some v → v.inBounds := by
  have h := hB
  intro v h'; unfold W.parseOnce at h'; dsimp only at h'
  (repeat' split at h') <;> first | (cases h'; done) | (cases h'; simp [h]; done) | exact W.parseAt_inBounds _ _ _ _ _ h _ h'

@[simp] theorem W.parseLoop_inBounds (x1 : Nat) (x2 : Drive) (x3 : W)  (hB : x3.inBounds) :
    (W.parseLoop x1 x2 x3).inBounds := by
  have h := hB
  clear hB
  induction x1 generalizing x3 with
  | zero => exact h
  | succ n ih =>
    unfold W.parseLoop
    split
    · rename_i v hv
      exact ih _ (W.parseOnce_inBounds _ _ h _ hv)
    · exact h

@[simp] theorem W.launchSeek_inBounds (w : W) (d : Drive)  (hB : w.inBounds) :
    (W.launchSeek w d).inBounds := by
  unfold W.launchSeek; dsimp only; (repeat' split) <;> simp (maxDischargeDepth := 20) [hB]

@[simp] theorem W.seekFails_inBounds (w : W) (d : Drive) (n : Nat) (k : Seek)  (hB : w.inBounds) :
    (W.seekFails w d n k).inBounds := by
  simp (maxDischargeDepth := 20) [W.seekFails, hB]

@[simp] theorem W.seekEnds_inBounds (w : W) (n : Nat) (d : Drive) (r : OpOutcome)  (hB : w.inBounds) :
    (W.seekEnds w n d r).inBounds := by
  unfold W.seekEnds; dsimp only; (repeat' split) <;> simp (maxDischargeDepth := 20) [hB]

@[simp] theorem W.readDone_inBounds (w : W) (n : Nat) (d : Drive) (k : BufId) (r : OpOutcome)  (hB : w.inBounds) :
    (W.readDone w n d k r).inBounds := by
  simp (maxDischargeDepth := 20) [W.readDone, hB]

@[simp] theorem W.atRest_inBounds (w : W) (d : Drive) (j : Job) (cause : StopCause)  (hB : w.inBounds) :
    (W.atRest w d j cause).inBounds := by
  unfold W.atRest; (repeat' split) <;> simp (maxDischargeDepth := 20) [hB]

@[simp] theorem W.restCheck_inBounds (w : W) (d : Drive)  (hB : w.inBounds) :
    (W.restCheck w d).inBounds := by
  unfold W.restCheck; dsimp only; (repeat' split) <;> simp (maxDischargeDepth := 20) [hB]

@[simp] theorem W.parseOn_inBounds (w : W) (d : Drive)  (hB : w.inBounds) :
    (W.parseOn w d).inBounds := by
  simp (maxDischargeDepth := 20) [W.parseOn, hB]

@[simp] theorem W.decodingEnds_inBounds (w : W)  (hB : w.inBounds) :
    (W.decodingEnds w).inBounds := by
  unfold W.decodingEnds; dsimp only; (repeat' split) <;> simp (maxDischargeDepth := 20) [hB]

@[simp] theorem W.readerLetsGo_inBounds (w : W) (n : Nat)  (hB : w.inBounds) :
    (W.readerLetsGo w n).inBounds := by
  unfold W.readerLetsGo; (repeat' split) <;> simp (maxDischargeDepth := 20) [hB]

@[simp] theorem W.readerHolds_inBounds (w : W) (n : Nat)  :
    (W.readerHolds w n).inBounds ↔ w.inBounds := by
  unfold W.readerHolds; (repeat' split) <;> simp

@[simp] theorem W.readerResumes_inBounds (w : W) (n : Nat)  (hB : w.inBounds) :
    (W.readerResumes w n).inBounds := by
  unfold W.readerResumes; (repeat' split) <;> simp (maxDischargeDepth := 20) [hB]

@[simp] theorem W.mountStops_inBounds (w : W) (n : Nat)  (hB : w.inBounds) :
    (W.mountStops w n).inBounds := by
  unfold W.mountStops; (repeat' split) <;> simp (maxDischargeDepth := 20) [hB]

@[simp] theorem W.moveFails_inBounds (w : W) (n : Nat) (r : Reason)  (hB : w.inBounds) :
    (W.moveFails w n r).inBounds := by
  simp (maxDischargeDepth := 20) [W.moveFails, hB]

@[simp] theorem W.leaveMount_inBounds (w : W) (n : Nat) (absent : Bool) (j : Job)  (hB : w.inBounds) :
    (W.leaveMount w n absent j).inBounds := by
  simp (maxDischargeDepth := 20) [W.leaveMount, hB]

@[simp] theorem W.letGo_inBounds (w : W) (n : Nat) (absent : Bool) (r : Option OpOutcome)  (hB : w.inBounds) :
    (W.letGo w n absent r).inBounds := by
  unfold W.letGo; (repeat' split) <;> simp (maxDischargeDepth := 20) [hB]

@[simp] theorem W.chooseAgain_inBounds (w : W) (n : Nat)  (hB : w.inBounds) :
    (W.chooseAgain w n).inBounds := by
  unfold W.chooseAgain; (repeat' split) <;> simp (maxDischargeDepth := 20) [hB]

@[simp] theorem W.afterAway_inBounds (w : W) (n : Nat)  (hB : w.inBounds) :
    (W.afterAway w n).inBounds := by
  simp (maxDischargeDepth := 20) [W.afterAway, hB]

@[simp] theorem W.putAway_inBounds (w : W) (n : Nat) (d : Drive)  (hB : w.inBounds) :
    (W.putAway w n d).inBounds := by
  simp (maxDischargeDepth := 20) [W.putAway, hB]

@[simp] theorem W.sendHome_inBounds (w : W) (n : Nat) (d : Drive) (i : Nat) (s : MountStep)  (hB : w.inBounds) :
    (W.sendHome w n d i s).inBounds := by
  simp (maxDischargeDepth := 20) [W.sendHome, hB]

@[simp] theorem W.restoreBegins_inBounds (w : W) (n : Nat) (j : Job) (d : Drive) (i : Nat) (r : RestoreData)  (hB : w.inBounds) :
    (W.restoreBegins w n j d i r).inBounds := by
  unfold W.restoreBegins; dsimp only; (repeat' split) <;> simp (maxDischargeDepth := 20) [hB]

@[simp] theorem W.restoreMounted_inBounds (w : W) (n : Nat) (j : Job) (d : Drive) (i : Nat) (state : JobState)  (hB : w.inBounds) :
    (W.restoreMounted w n j d i state).inBounds := by
  unfold W.restoreMounted; dsimp only; (repeat' split) <;> simp (maxDischargeDepth := 20) [hB]

@[simp] theorem W.verifyMounted_inBounds (w : W) (n : Nat) (j : Job) (d : Drive) (i : Nat) (state : JobState)  :
    (W.verifyMounted w n j d i state).inBounds ↔ w.inBounds := by
  unfold W.verifyMounted; (repeat' split) <;> simp

@[simp] theorem W.mountDone_inBounds (w : W) (n : Nat)  (hB : w.inBounds) :
    (W.mountDone w n).inBounds := by
  unfold W.mountDone; (repeat' split) <;> simp (maxDischargeDepth := 20) [hB]

@[simp] theorem W.goPosition_inBounds (w : W) (n : Nat)  :
    (W.goPosition w n).inBounds ↔ w.inBounds := by
  simp [W.goPosition]

@[simp] theorem W.probeResult_inBounds (w : W) (n : Nat) (d : Drive) (i : Nat) (s : MediaState) (used : Option Nat)  (hB : w.inBounds) :
    (W.probeResult w n d i s used).inBounds := by
  unfold W.probeResult; dsimp only; (repeat' split) <;> simp (maxDischargeDepth := 20) [hB]

@[simp] theorem W.requestPosition_inBounds (w : W) (n : Nat)  (hB : w.inBounds) :
    (W.requestPosition w n).inBounds := by
  unfold W.requestPosition; (repeat' split) <;> simp (maxDischargeDepth := 20) [hB]

@[simp] theorem W.positionFails_inBounds (w : W) (n : Nat)  (hB : w.inBounds) :
    (W.positionFails w n).inBounds := by
  simp (maxDischargeDepth := 20) [W.positionFails, hB]

@[simp] theorem W.probeBlock_inBounds (w : W) (n : Nat) (d : Drive)  (hB : w.inBounds) :
    (W.probeBlock w n d).inBounds := by
  unfold W.probeBlock; dsimp only; split <;> simp (maxDischargeDepth := 20) [hB]

@[simp] theorem W.freeProbe_inBounds (w : W) (d : Drive) (op : PortOp)  (hB : w.inBounds) :
    (W.freeProbe w d op).inBounds := by
  unfold W.freeProbe; (repeat' split) <;> simp (maxDischargeDepth := 20) [hB]

@[simp] theorem W.stepEnds_inBounds (w : W) (n : Nat) (j : Job) (d : Drive) (i : Nat) (s : MountStep) (op : PortOp) (r : OpOutcome)  (hB : w.inBounds) :
    (W.stepEnds w n j d i s op r).inBounds := by
  unfold W.stepEnds; (repeat' split) <;> simp (maxDischargeDepth := 20) [hB]

@[simp] theorem W.mountOp_inBounds (w : W) (n : Nat) (j : Job) (d : Drive) (s : MountStep) (op : PortOp) (r : OpOutcome)  (hB : w.inBounds) :
    (W.mountOp w n j d s op r).inBounds := by
  unfold W.mountOp; (repeat' split) <;> simp (maxDischargeDepth := 20) [hB]

@[simp] theorem W.jobMoveEnds_inBounds (w : W) (n : Nat) (r : Reason)  (hB : w.inBounds) :
    (W.jobMoveEnds w n r).inBounds := by
  unfold W.jobMoveEnds; (repeat' split) <;> simp (maxDischargeDepth := 20) [hB]

@[simp] theorem W.moveReported_inBounds (w : W) (origin : Origin) (ticket : Nat) (r : Reason) (cart : Option Nat)  (hB : w.inBounds) :
    (W.moveReported w origin ticket r cart).inBounds := by
  unfold W.moveReported; (repeat' split) <;> simp (maxDischargeDepth := 20) [hB]

@[simp] theorem W.cleanOp_inBounds (w : W) (n : Nat) (j : Job) (d : Drive) (op : PortOp) (r : OpOutcome)  (hB : w.inBounds) :
    (W.cleanOp w n j d op r).inBounds := by
  unfold W.cleanOp; (repeat' split) <;> simp (maxDischargeDepth := 20) [hB]

@[simp] theorem W.readerOp_inBounds (w : W) (n : Nat) (d : Drive) (op : PortOp) (r : OpOutcome)  (hB : w.inBounds) :
    (W.readerOp w n d op r).inBounds := by
  unfold W.readerOp; (repeat' split) <;> simp (maxDischargeDepth := 20) [hB]

@[simp] theorem W.jobOp_inBounds (w : W) (n : Nat) (d : Drive) (op : PortOp) (r : OpOutcome)  (hB : w.inBounds) :
    (W.jobOp w n d op r).inBounds := by
  unfold W.jobOp; (repeat' split) <;> simp (maxDischargeDepth := 20) [hB]

@[simp] theorem W.unloadEnded_inBounds (w : W) (d : Drive) (returnHome : Bool) (r : OpOutcome)  (hB : w.inBounds) :
    (W.unloadEnded w d returnHome r).inBounds := by
  unfold W.unloadEnded; (repeat' split) <;> simp (maxDischargeDepth := 20) [hB]

@[simp] theorem W.opReported_inBounds (w : W) (d : Drive) (req : Requester) (op : PortOp) (r : OpOutcome)  (hB : w.inBounds) :
    (W.opReported w d req op r).inBounds := by
  unfold W.opReported; (repeat' split) <;> simp (maxDischargeDepth := 20) [hB]

@[simp] theorem W.portReported_inBounds (w : W) (d : Drive)  (hB : w.inBounds) :
    (W.portReported w d).inBounds := by
  unfold W.portReported; (repeat' split) <;> simp (maxDischargeDepth := 20) [hB]

@[simp] theorem W.cartReported_inBounds (w : W) (n : Nat) (i : Nat)  (hB : w.inBounds) :
    (W.cartReported w n i).inBounds := by
  simp (maxDischargeDepth := 20) [W.cartReported, hB]

@[simp] theorem W.extentGone_inBounds (w : W) (n : Nat) (session : Nat) (sequence : Nat)  (hB : w.inBounds) :
    (W.extentGone w n session sequence).inBounds := by
  unfold W.extentGone; (repeat' split) <;> simp (maxDischargeDepth := 20) [hB]

@[simp] theorem W.advanceJob_inBounds (w : W) (n : Nat)  (hB : w.inBounds) :
    (W.advanceJob w n).inBounds := by
  simp (maxDischargeDepth := 20) [W.advanceJob, hB]

@[simp] theorem W.takeSignal_inBounds (w : W) (x1 : Signal)  (hB : w.inBounds) :
    (W.takeSignal w x1).inBounds := by
  unfold W.takeSignal; (repeat' split) <;> simp (maxDischargeDepth := 20) [hB]

theorem W.settleOnce_inBounds (w : W)  (hB : w.inBounds) :
    ∀ v, W.settleOnce w = some v → v.inBounds := by
  have h := hB
  intro v h'
  unfold W.settleOnce at h'
  split at h'
  · rw [← Option.some.inj h']; exact W.rehome_inBounds _ h
  · split at h'
    · rw [← Option.some.inj h']; exact W.takeSignal_inBounds _ _ h
    · split at h'
      · rw [← Option.some.inj h']; exact W.serveCatalogWaits_inBounds _ h
      · split at h'
        · rw [← Option.some.inj h']; exact W.dispatch_inBounds _ h
        · cases h'

@[simp] theorem W.settle_inBounds (x1 : Nat) (x2 : W)  (hB : x2.inBounds) :
    (W.settle x1 x2).inBounds := by
  have h := hB
  clear hB
  induction x1 generalizing x2 with
  | zero => exact h
  | succ n ih =>
    unfold W.settle
    split
    · rename_i v hv
      exact ih _ (W.settleOnce_inBounds _ h _ hv)
    · exact h

@[simp] theorem W.settled_inBounds (w : W)  (hB : w.inBounds) :
    (W.settled w).inBounds := by
  simp (maxDischargeDepth := 20) [W.settled, hB]

@[simp] theorem W.secureJob_inBounds (w : W) (n : Nat)  (hB : w.inBounds) :
    (W.secureJob w n).inBounds := by
  unfold W.secureJob; (repeat' split) <;> simp (maxDischargeDepth := 20) [hB]

@[simp] theorem W.parseBoth_inBounds (w : W)  :
    (W.parseBoth w).inBounds ↔ w.inBounds := by
  rfl

@[simp] theorem W.abortReader_inBounds (w : W) (n : Nat)  (hB : w.inBounds) :
    (W.abortReader w n).inBounds := by
  simp (maxDischargeDepth := 20) [W.abortReader, hB]

@[simp] theorem W.abortNow_inBounds (w : W) (n : Nat)  (hB : w.inBounds) :
    (W.abortNow w n).inBounds := by
  simp (maxDischargeDepth := 20) [W.abortNow, hB]

@[simp] theorem W.abortMounting_inBounds (w : W) (n : Nat)  (hB : w.inBounds) :
    (W.abortMounting w n).inBounds := by
  simp (maxDischargeDepth := 20) [W.abortMounting, hB]

@[simp] theorem W.abortCourse_inBounds (w : W) (j : Job)  (hB : w.inBounds) :
    (W.abortCourse w j).inBounds := by
  unfold W.abortCourse; (repeat' split) <;> simp (maxDischargeDepth := 20) [hB]

@[simp] theorem W.abortJob_inBounds (w : W) (j : Job)  (hB : w.inBounds) :
    (W.abortJob w j).inBounds := by
  simp (maxDischargeDepth := 20) [W.abortJob, hB]

@[simp] theorem refuse_inBounds (w : W) (s : Status)  :
    (refuse w s).w.inBounds ↔ w.inBounds := by
  rfl

@[simp] theorem answer_inBounds (w : W) (b : ReplyBody)  :
    (answer w b).w.inBounds ↔ w.inBounds := by
  rfl

@[simp] theorem ownScan_inBounds (w : W) (p : List Byte)  (hB : w.inBounds) :
    (ownScan w p).w.inBounds := by
  unfold ownScan; dsimp only; (repeat' split) <;> simp (maxDischargeDepth := 20) [hB]

@[simp] theorem ownSlotInfo_inBounds (w : W) (p : List Byte)  (hB : w.inBounds) :
    (ownSlotInfo w p).w.inBounds := by
  unfold ownSlotInfo; dsimp only; (repeat' split) <;> simp (maxDischargeDepth := 20) [hB]

@[simp] theorem ownCartridgeInfo_inBounds (w : W) (p : List Byte)  (hB : w.inBounds) :
    (ownCartridgeInfo w p).w.inBounds := by
  unfold ownCartridgeInfo; dsimp only; (repeat' split) <;> simp (maxDischargeDepth := 20) [hB]

@[simp] theorem ownEditCartridge_inBounds (w : W) (p : List Byte)  (hB : w.inBounds) :
    (ownEditCartridge w p).w.inBounds := by
  unfold ownEditCartridge; dsimp only; (repeat' split) <;> simp (maxDischargeDepth := 20) [hB]

@[simp] theorem queueRequested_inBounds (w : W) (source : Element) (asked : Dest) (expected : Option Label)  (hB : w.inBounds) :
    (queueRequested w source asked expected).w.inBounds := by
  unfold queueRequested; dsimp only; (repeat' split) <;> simp (maxDischargeDepth := 20) [hB]

@[simp] theorem ownMove_inBounds (w : W) (p : List Byte)  (hB : w.inBounds) :
    (ownMove w p).w.inBounds := by
  unfold ownMove; dsimp only; (repeat' split) <;> simp (maxDischargeDepth := 20) [hB]

@[simp] theorem ownImport_inBounds (w : W) (p : List Byte)  (hB : w.inBounds) :
    (ownImport w p).w.inBounds := by
  unfold ownImport; dsimp only; (repeat' split) <;> simp (maxDischargeDepth := 20) [hB]

@[simp] theorem exportFrom_inBounds (w : W) (e : Element)  (hB : w.inBounds) :
    (exportFrom w e).w.inBounds := by
  simp (maxDischargeDepth := 20) [exportFrom, hB]

@[simp] theorem ownExport_inBounds (w : W) (p : List Byte)  (hB : w.inBounds) :
    (ownExport w p).w.inBounds := by
  unfold ownExport; (repeat' split) <;> simp (maxDischargeDepth := 20) [hB]

@[simp] theorem ownClearChangerFault_inBounds (w : W) (x1 : List Byte)  (hB : w.inBounds) :
    (ownClearChangerFault w x1).w.inBounds := by
  simp (maxDischargeDepth := 20) [ownClearChangerFault, hB]

@[simp] theorem ownRetestDrive_inBounds (w : W) (p : List Byte)  (hB : w.inBounds) :
    (ownRetestDrive w p).w.inBounds := by
  unfold ownRetestDrive; (repeat' split) <;> simp (maxDischargeDepth := 20) [hB]

@[simp] theorem unloadAccepted_inBounds (w : W) (d : Drive) (home : Bool)  (hB : w.inBounds) :
    (unloadAccepted w d home).inBounds := by
  unfold unloadAccepted; (repeat' split) <;> simp (maxDischargeDepth := 20) [hB]

@[simp] theorem ownUnloadDrive_inBounds (w : W) (p : List Byte)  (hB : w.inBounds) :
    (ownUnloadDrive w p).w.inBounds := by
  unfold ownUnloadDrive; dsimp only; (repeat' split) <;> simp (maxDischargeDepth := 20) [hB]

@[simp] theorem W.jobNotice_cg (w : W) (n : Nat) (s : Option JobState) : (w.jobNotice n s).cg = w.cg := by
  unfold W.jobNotice; split <;> rfl

theorem W.admit_sessionFree (w : W) (k : JobKind) (s : Option Nat) (t : Target) (p : Progress) (l : List Nat) :
    (w.admitJob k s t p l).1.sessionFree = w.sessionFree := by
  unfold W.admitJob
  split
  · rfl
  · simp only [W.sessionFree, W.wantDispatch, W.jobNotice_cg]
    (repeat' split) <;> rfl

@[simp] theorem ownOpenSession_inBounds (w : W) (p : List Byte)  (hB : w.inBounds) :
    (ownOpenSession w p).w.inBounds := by
  have h := hB
  unfold ownOpenSession
  dsimp only
  (repeat' split) <;> (try simp [h]; done)
  all_goals
    have hcf : w.sessionFree = true := by
      cases hs : w.sessionFree
      · exact absurd (Or.inl hs) ‹¬(w.sessionFree = false ∨ w.extentFree = false)›
      · rfl
    refine W.createSession_inBounds _ _ (W.admit_inBounds _ _ _ _ _ _ h) ?_
    exact (W.admit_sessionFree w _ _ _ _ _).trans hcf

@[simp] theorem beginObject_inBounds (w : W) (j : Job) (b : BackupData)  :
    (beginObject w j b).inBounds ↔ w.inBounds := by
  unfold beginObject; (repeat' split) <;> simp

@[simp] theorem ownBeginObject_inBounds (w : W) (p : List Byte)  :
    (ownBeginObject w p).w.inBounds ↔ w.inBounds := by
  unfold ownBeginObject; (repeat' split) <;> simp

@[simp] theorem ownWriteData_inBounds (w : W) (p : List Byte)  (hB : w.inBounds) :
    (ownWriteData w p).w.inBounds := by
  unfold ownWriteData; (repeat' split) <;> simp (maxDischargeDepth := 20) [hB]

@[simp] theorem ownEndObject_inBounds (w : W) (p : List Byte)  (hB : w.inBounds) :
    (ownEndObject w p).w.inBounds := by
  unfold ownEndObject; dsimp only; (repeat' split) <;> simp (maxDischargeDepth := 20) [hB]

@[simp] theorem ownCloseSession_inBounds (w : W) (p : List Byte)  :
    (ownCloseSession w p).w.inBounds ↔ w.inBounds := by
  unfold ownCloseSession; (repeat' split) <;> simp

@[simp] theorem ownStartVerify_inBounds (w : W) (p : List Byte)  (hB : w.inBounds) :
    (ownStartVerify w p).w.inBounds := by
  unfold ownStartVerify; dsimp only; (repeat' split) <;> simp (maxDischargeDepth := 20) [hB]

@[simp] theorem ownStartRestore_inBounds (w : W) (p : List Byte)  (hB : w.inBounds) :
    (ownStartRestore w p).w.inBounds := by
  unfold ownStartRestore; dsimp only; (repeat' split) <;> simp (maxDischargeDepth := 20) [hB]

@[simp] theorem ownReadData_inBounds (w : W) (p : List Byte)  (hB : w.inBounds) :
    (ownReadData w p).w.inBounds := by
  unfold ownReadData; dsimp only; (repeat' split) <;> simp (maxDischargeDepth := 20) [hB]

@[simp] theorem ownJobInfo_inBounds (w : W) (p : List Byte)  (hB : w.inBounds) :
    (ownJobInfo w p).w.inBounds := by
  unfold ownJobInfo; dsimp only; (repeat' split) <;> simp (maxDischargeDepth := 20) [hB]

@[simp] theorem ownAbortJob_inBounds (w : W) (p : List Byte)  (hB : w.inBounds) :
    (ownAbortJob w p).w.inBounds := by
  unfold ownAbortJob; (repeat' split) <;> simp (maxDischargeDepth := 20) [hB]

@[simp] theorem ownReleaseJob_inBounds (w : W) (p : List Byte)  (hB : w.inBounds) :
    (ownReleaseJob w p).w.inBounds := by
  unfold ownReleaseJob; (repeat' split) <;> simp (maxDischargeDepth := 20) [hB]

@[simp] theorem ownStartClean_inBounds (w : W) (p : List Byte)  (hB : w.inBounds) :
    (ownStartClean w p).w.inBounds := by
  unfold ownStartClean; dsimp only; (repeat' split) <;> simp (maxDischargeDepth := 20) [hB]

@[simp] theorem addWaiting_inBounds (n : Nat) (w : W)  (hB : w.inBounds) :
    (addWaiting n w).inBounds := by
  unfold addWaiting; dsimp only; (repeat' split) <;> simp (maxDischargeDepth := 20) [hB]

@[simp] theorem ownSessionInfo_inBounds (w : W) (p : List Byte)  (hB : w.inBounds) :
    (ownSessionInfo w p).w.inBounds := by
  unfold ownSessionInfo; dsimp only; (repeat' split) <;> simp (maxDischargeDepth := 20) [hB]

@[simp] theorem ownExtentInfo_inBounds (w : W) (p : List Byte)  (hB : w.inBounds) :
    (ownExtentInfo w p).w.inBounds := by
  unfold ownExtentInfo; dsimp only; (repeat' split) <;> simp (maxDischargeDepth := 20) [hB]

@[simp] theorem ownDropSession_inBounds (w : W) (p : List Byte)  (hB : w.inBounds) :
    (ownDropSession w p).w.inBounds := by
  unfold ownDropSession; (repeat' split) <;> simp (maxDischargeDepth := 20) [hB]

@[simp] theorem ownLoadExtent_inBounds (w : W) (p : List Byte)  (hB : w.inBounds) :
    (ownLoadExtent w p).w.inBounds := by
  have h := hB
  unfold ownLoadExtent
  dsimp only
  split
  · rename_i hx
    obtain ⟨hf, hs⟩ := W.extentAnswer_ok hx
    exact W.takeExtent_inBounds w _ _ h hf hs
  · exact h

@[simp] theorem ownCatalogInfo_inBounds (w : W) (x1 : List Byte)  :
    (ownCatalogInfo w x1).w.inBounds ↔ w.inBounds := by
  rfl

@[simp] theorem W.resetCartridge_inBounds (w : W) (j : Job)  :
    (W.resetCartridge w j).inBounds ↔ w.inBounds := by
  unfold W.resetCartridge; (repeat' split) <;> simp

@[simp] theorem W.resetSession_inBounds (w : W) (s : SessionRec)  (hB : w.inBounds) :
    (W.resetSession w s).inBounds := by
  have h := hB
  unfold W.resetSession
  split
  · exact W.inBounds_foldl _ (fun v e hv => by split <;> simp [hv]) _ _ (by simpa using h)
  · exact h

@[simp] theorem W.resetJobs_inBounds (w : W)  :
    (W.resetJobs w).inBounds ↔ w.inBounds := by
  simp [W.resetJobs]

@[simp] theorem W.resetTable_inBounds (w : W)  (hB : w.inBounds) :
    (W.resetTable w).inBounds := by
  simp (maxDischargeDepth := 20) [W.resetTable, hB]

@[simp] theorem W.resetPortNow_inBounds (w : W) (d : Drive)  (hB : w.inBounds) :
    (W.resetPortNow w d).inBounds := by
  simp (maxDischargeDepth := 20) [W.resetPortNow, hB]

@[simp] theorem W.afterReset_inBounds (w : W)  (hB : w.inBounds) :
    (W.afterReset w).inBounds := by
  simp (maxDischargeDepth := 20) [W.afterReset, hB]

end Sys2Proof.Machine
end

