-- ==== Sys2Proof/Laws/State.lean ====
section
/-! SUPPORT. One lemma per field per update, each true by rfl: what each record update of the working state and of the
machine's state leaves in every field. -/

namespace Sys2Proof.Machine

/-! ### `W.note` -/

@[simp] theorem W.note_mode (w : W) (n : Notice) : (w.note n).mode = w.mode := rfl
@[simp] theorem W.note_gateOpen (w : W) (n : Notice) : (w.note n).gateOpen = w.gateOpen := rfl
@[simp] theorem W.note_pins (w : W) (n : Notice) : (w.note n).pins = w.pins := rfl
@[simp] theorem W.note_ct (w : W) (n : Notice) : (w.note n).ct = w.ct := rfl
@[simp] theorem W.note_cc (w : W) (n : Notice) : (w.note n).cc = w.cc := rfl
@[simp] theorem W.note_ports (w : W) (n : Notice) : (w.note n).ports = w.ports := rfl
@[simp] theorem W.note_js (w : W) (n : Notice) : (w.note n).js = w.js := rfl
@[simp] theorem W.note_streams (w : W) (n : Notice) : (w.note n).streams = w.streams := rfl
@[simp] theorem W.note_coder (w : W) (n : Notice) : (w.note n).coder = w.coder := rfl
@[simp] theorem W.note_cg (w : W) (n : Notice) : (w.note n).cg = w.cg := rfl
@[simp] theorem W.note_signals (w : W) (n : Notice) : (w.note n).signals = w.signals := rfl
@[simp] theorem W.note_dispatchDue (w : W) (n : Notice) : (w.note n).dispatchDue = w.dispatchDue := rfl
@[simp] theorem W.note_rehomeDue (w : W) (n : Notice) : (w.note n).rehomeDue = w.rehomeDue := rfl
@[simp] theorem W.note_catalogDue (w : W) (n : Notice) : (w.note n).catalogDue = w.catalogDue := rfl
@[simp] theorem W.note_set (w : W) (n : Notice) : (w.note n).set = w.set := rfl
@[simp] theorem W.note_out (w : W) (n : Notice) : (w.note n).out = w.out ++ [n] := rfl

/-! ### `W.emit` -/

@[simp] theorem W.emit_mode (w : W) (s : Signal) : (w.emit s).mode = w.mode := rfl
@[simp] theorem W.emit_gateOpen (w : W) (s : Signal) : (w.emit s).gateOpen = w.gateOpen := rfl
@[simp] theorem W.emit_pins (w : W) (s : Signal) : (w.emit s).pins = w.pins := rfl
@[simp] theorem W.emit_ct (w : W) (s : Signal) : (w.emit s).ct = w.ct := rfl
@[simp] theorem W.emit_cc (w : W) (s : Signal) : (w.emit s).cc = w.cc := rfl
@[simp] theorem W.emit_ports (w : W) (s : Signal) : (w.emit s).ports = w.ports := rfl
@[simp] theorem W.emit_js (w : W) (s : Signal) : (w.emit s).js = w.js := rfl
@[simp] theorem W.emit_streams (w : W) (s : Signal) : (w.emit s).streams = w.streams := rfl
@[simp] theorem W.emit_coder (w : W) (s : Signal) : (w.emit s).coder = w.coder := rfl
@[simp] theorem W.emit_cg (w : W) (s : Signal) : (w.emit s).cg = w.cg := rfl
@[simp] theorem W.emit_signals (w : W) (s : Signal) : (w.emit s).signals = w.signals ++ [s] := rfl
@[simp] theorem W.emit_dispatchDue (w : W) (s : Signal) : (w.emit s).dispatchDue = w.dispatchDue := rfl
@[simp] theorem W.emit_rehomeDue (w : W) (s : Signal) : (w.emit s).rehomeDue = w.rehomeDue := rfl
@[simp] theorem W.emit_catalogDue (w : W) (s : Signal) : (w.emit s).catalogDue = w.catalogDue := rfl
@[simp] theorem W.emit_set (w : W) (s : Signal) : (w.emit s).set = w.set := rfl
@[simp] theorem W.emit_out (w : W) (s : Signal) : (w.emit s).out = w.out := rfl

/-! ### `W.wantDispatch` -/

@[simp] theorem W.wantDispatch_mode (w : W) : (w.wantDispatch).mode = w.mode := rfl
@[simp] theorem W.wantDispatch_gateOpen (w : W) : (w.wantDispatch).gateOpen = w.gateOpen := rfl
@[simp] theorem W.wantDispatch_pins (w : W) : (w.wantDispatch).pins = w.pins := rfl
@[simp] theorem W.wantDispatch_ct (w : W) : (w.wantDispatch).ct = w.ct := rfl
@[simp] theorem W.wantDispatch_cc (w : W) : (w.wantDispatch).cc = w.cc := rfl
@[simp] theorem W.wantDispatch_ports (w : W) : (w.wantDispatch).ports = w.ports := rfl
@[simp] theorem W.wantDispatch_js (w : W) : (w.wantDispatch).js = w.js := rfl
@[simp] theorem W.wantDispatch_streams (w : W) : (w.wantDispatch).streams = w.streams := rfl
@[simp] theorem W.wantDispatch_coder (w : W) : (w.wantDispatch).coder = w.coder := rfl
@[simp] theorem W.wantDispatch_cg (w : W) : (w.wantDispatch).cg = w.cg := rfl
@[simp] theorem W.wantDispatch_signals (w : W) : (w.wantDispatch).signals = w.signals := rfl
@[simp] theorem W.wantDispatch_dispatchDue (w : W) : (w.wantDispatch).dispatchDue = true := rfl
@[simp] theorem W.wantDispatch_rehomeDue (w : W) : (w.wantDispatch).rehomeDue = w.rehomeDue := rfl
@[simp] theorem W.wantDispatch_catalogDue (w : W) : (w.wantDispatch).catalogDue = w.catalogDue := rfl
@[simp] theorem W.wantDispatch_set (w : W) : (w.wantDispatch).set = w.set := rfl
@[simp] theorem W.wantDispatch_out (w : W) : (w.wantDispatch).out = w.out := rfl

/-! ### `W.recordFreed` -/

@[simp] theorem W.recordFreed_mode (w : W) : (w.recordFreed).mode = w.mode := rfl
@[simp] theorem W.recordFreed_gateOpen (w : W) : (w.recordFreed).gateOpen = w.gateOpen := rfl
@[simp] theorem W.recordFreed_pins (w : W) : (w.recordFreed).pins = w.pins := rfl
@[simp] theorem W.recordFreed_ct (w : W) : (w.recordFreed).ct = w.ct := rfl
@[simp] theorem W.recordFreed_cc (w : W) : (w.recordFreed).cc = w.cc := rfl
@[simp] theorem W.recordFreed_ports (w : W) : (w.recordFreed).ports = w.ports := rfl
@[simp] theorem W.recordFreed_js (w : W) : (w.recordFreed).js = w.js := rfl
@[simp] theorem W.recordFreed_streams (w : W) : (w.recordFreed).streams = w.streams := rfl
@[simp] theorem W.recordFreed_coder (w : W) : (w.recordFreed).coder = w.coder := rfl
@[simp] theorem W.recordFreed_cg (w : W) : (w.recordFreed).cg = w.cg := rfl
@[simp] theorem W.recordFreed_signals (w : W) : (w.recordFreed).signals = w.signals := rfl
@[simp] theorem W.recordFreed_dispatchDue (w : W) : (w.recordFreed).dispatchDue = true := rfl
@[simp] theorem W.recordFreed_rehomeDue (w : W) : (w.recordFreed).rehomeDue = w.rehomeDue := rfl
@[simp] theorem W.recordFreed_catalogDue (w : W) : (w.recordFreed).catalogDue = true := rfl
@[simp] theorem W.recordFreed_set (w : W) : (w.recordFreed).set = w.set := rfl
@[simp] theorem W.recordFreed_out (w : W) : (w.recordFreed).out = w.out := rfl

/-! ### `W.wantRehome` -/

@[simp] theorem W.wantRehome_mode (w : W) : (w.wantRehome).mode = w.mode := rfl
@[simp] theorem W.wantRehome_gateOpen (w : W) : (w.wantRehome).gateOpen = w.gateOpen := rfl
@[simp] theorem W.wantRehome_pins (w : W) : (w.wantRehome).pins = w.pins := rfl
@[simp] theorem W.wantRehome_ct (w : W) : (w.wantRehome).ct = w.ct := rfl
@[simp] theorem W.wantRehome_cc (w : W) : (w.wantRehome).cc = w.cc := rfl
@[simp] theorem W.wantRehome_ports (w : W) : (w.wantRehome).ports = w.ports := rfl
@[simp] theorem W.wantRehome_js (w : W) : (w.wantRehome).js = w.js := rfl
@[simp] theorem W.wantRehome_streams (w : W) : (w.wantRehome).streams = w.streams := rfl
@[simp] theorem W.wantRehome_coder (w : W) : (w.wantRehome).coder = w.coder := rfl
@[simp] theorem W.wantRehome_cg (w : W) : (w.wantRehome).cg = w.cg := rfl
@[simp] theorem W.wantRehome_signals (w : W) : (w.wantRehome).signals = w.signals := rfl
@[simp] theorem W.wantRehome_dispatchDue (w : W) : (w.wantRehome).dispatchDue = w.dispatchDue := rfl
@[simp] theorem W.wantRehome_rehomeDue (w : W) : (w.wantRehome).rehomeDue = true := rfl
@[simp] theorem W.wantRehome_catalogDue (w : W) : (w.wantRehome).catalogDue = w.catalogDue := rfl
@[simp] theorem W.wantRehome_set (w : W) : (w.wantRehome).set = w.set := rfl
@[simp] theorem W.wantRehome_out (w : W) : (w.wantRehome).out = w.out := rfl

/-! ### `W.sensePicker` -/

@[simp] theorem W.sensePicker_mode (w : W) (b : Bool) : (w.sensePicker b).mode = w.mode := rfl
@[simp] theorem W.sensePicker_gateOpen (w : W) (b : Bool) : (w.sensePicker b).gateOpen = w.gateOpen := rfl
@[simp] theorem W.sensePicker_pins (w : W) (b : Bool) :
    (w.sensePicker b).pins = { w.pins with pickerSensor := b } := rfl
@[simp] theorem W.sensePicker_ct (w : W) (b : Bool) : (w.sensePicker b).ct = w.ct := rfl
@[simp] theorem W.sensePicker_cc (w : W) (b : Bool) : (w.sensePicker b).cc = w.cc := rfl
@[simp] theorem W.sensePicker_ports (w : W) (b : Bool) : (w.sensePicker b).ports = w.ports := rfl
@[simp] theorem W.sensePicker_js (w : W) (b : Bool) : (w.sensePicker b).js = w.js := rfl
@[simp] theorem W.sensePicker_streams (w : W) (b : Bool) : (w.sensePicker b).streams = w.streams := rfl
@[simp] theorem W.sensePicker_coder (w : W) (b : Bool) : (w.sensePicker b).coder = w.coder := rfl
@[simp] theorem W.sensePicker_cg (w : W) (b : Bool) : (w.sensePicker b).cg = w.cg := rfl
@[simp] theorem W.sensePicker_signals (w : W) (b : Bool) : (w.sensePicker b).signals = w.signals := rfl
@[simp] theorem W.sensePicker_dispatchDue (w : W) (b : Bool) : (w.sensePicker b).dispatchDue = w.dispatchDue := rfl
@[simp] theorem W.sensePicker_rehomeDue (w : W) (b : Bool) : (w.sensePicker b).rehomeDue = w.rehomeDue := rfl
@[simp] theorem W.sensePicker_catalogDue (w : W) (b : Bool) : (w.sensePicker b).catalogDue = w.catalogDue := rfl
@[simp] theorem W.sensePicker_set (w : W) (b : Bool) : (w.sensePicker b).set = w.set := rfl
@[simp] theorem W.sensePicker_out (w : W) (b : Bool) : (w.sensePicker b).out = w.out := rfl

/-! ### `W.putCart` -/

@[simp] theorem W.putCart_mode (w : W) (i : Nat) (c : Option CartRec) : (w.putCart i c).mode = w.mode := rfl
@[simp] theorem W.putCart_gateOpen (w : W) (i : Nat) (c : Option CartRec) : (w.putCart i c).gateOpen = w.gateOpen := rfl
@[simp] theorem W.putCart_pins (w : W) (i : Nat) (c : Option CartRec) : (w.putCart i c).pins = w.pins := rfl
@[simp] theorem W.putCart_ct (w : W) (i : Nat) (c : Option CartRec) :
    (w.putCart i c).ct = { w.ct with carts := w.ct.carts.set i c } := rfl
@[simp] theorem W.putCart_cc (w : W) (i : Nat) (c : Option CartRec) : (w.putCart i c).cc = w.cc := rfl
@[simp] theorem W.putCart_ports (w : W) (i : Nat) (c : Option CartRec) : (w.putCart i c).ports = w.ports := rfl
@[simp] theorem W.putCart_js (w : W) (i : Nat) (c : Option CartRec) : (w.putCart i c).js = w.js := rfl
@[simp] theorem W.putCart_streams (w : W) (i : Nat) (c : Option CartRec) : (w.putCart i c).streams = w.streams := rfl
@[simp] theorem W.putCart_coder (w : W) (i : Nat) (c : Option CartRec) : (w.putCart i c).coder = w.coder := rfl
@[simp] theorem W.putCart_cg (w : W) (i : Nat) (c : Option CartRec) : (w.putCart i c).cg = w.cg := rfl
@[simp] theorem W.putCart_signals (w : W) (i : Nat) (c : Option CartRec) : (w.putCart i c).signals = w.signals := rfl
@[simp] theorem W.putCart_dispatchDue (w : W) (i : Nat) (c : Option CartRec) :
    (w.putCart i c).dispatchDue = w.dispatchDue := rfl
@[simp] theorem W.putCart_rehomeDue (w : W) (i : Nat) (c : Option CartRec) :
    (w.putCart i c).rehomeDue = w.rehomeDue := rfl
@[simp] theorem W.putCart_catalogDue (w : W) (i : Nat) (c : Option CartRec) :
    (w.putCart i c).catalogDue = w.catalogDue := rfl
@[simp] theorem W.putCart_set (w : W) (i : Nat) (c : Option CartRec) : (w.putCart i c).set = w.set := rfl
@[simp] theorem W.putCart_out (w : W) (i : Nat) (c : Option CartRec) : (w.putCart i c).out = w.out := rfl

/-! ### `W.putPort` -/

@[simp] theorem W.putPort_mode (w : W) (d : Drive) (p : Port) : (w.putPort d p).mode = w.mode := rfl
@[simp] theorem W.putPort_gateOpen (w : W) (d : Drive) (p : Port) : (w.putPort d p).gateOpen = w.gateOpen := rfl
@[simp] theorem W.putPort_pins (w : W) (d : Drive) (p : Port) : (w.putPort d p).pins = w.pins := rfl
@[simp] theorem W.putPort_ct (w : W) (d : Drive) (p : Port) : (w.putPort d p).ct = w.ct := rfl
@[simp] theorem W.putPort_cc (w : W) (d : Drive) (p : Port) : (w.putPort d p).cc = w.cc := rfl
@[simp] theorem W.putPort_ports (w : W) (d : Drive) (p : Port) : (w.putPort d p).ports = w.ports.put d p := rfl
@[simp] theorem W.putPort_js (w : W) (d : Drive) (p : Port) : (w.putPort d p).js = w.js := rfl
@[simp] theorem W.putPort_streams (w : W) (d : Drive) (p : Port) : (w.putPort d p).streams = w.streams := rfl
@[simp] theorem W.putPort_coder (w : W) (d : Drive) (p : Port) : (w.putPort d p).coder = w.coder := rfl
@[simp] theorem W.putPort_cg (w : W) (d : Drive) (p : Port) : (w.putPort d p).cg = w.cg := rfl
@[simp] theorem W.putPort_signals (w : W) (d : Drive) (p : Port) : (w.putPort d p).signals = w.signals := rfl
@[simp] theorem W.putPort_dispatchDue (w : W) (d : Drive) (p : Port) :
    (w.putPort d p).dispatchDue = w.dispatchDue := rfl
@[simp] theorem W.putPort_rehomeDue (w : W) (d : Drive) (p : Port) : (w.putPort d p).rehomeDue = w.rehomeDue := rfl
@[simp] theorem W.putPort_catalogDue (w : W) (d : Drive) (p : Port) : (w.putPort d p).catalogDue = w.catalogDue := rfl
@[simp] theorem W.putPort_set (w : W) (d : Drive) (p : Port) : (w.putPort d p).set = w.set := rfl
@[simp] theorem W.putPort_out (w : W) (d : Drive) (p : Port) : (w.putPort d p).out = w.out := rfl

/-! ### `W.modPort` -/

@[simp] theorem W.modPort_mode (w : W) (d : Drive) (f : Port → Port) : (w.modPort d f).mode = w.mode := rfl
@[simp] theorem W.modPort_gateOpen (w : W) (d : Drive) (f : Port → Port) : (w.modPort d f).gateOpen = w.gateOpen := rfl
@[simp] theorem W.modPort_pins (w : W) (d : Drive) (f : Port → Port) : (w.modPort d f).pins = w.pins := rfl
@[simp] theorem W.modPort_ct (w : W) (d : Drive) (f : Port → Port) : (w.modPort d f).ct = w.ct := rfl
@[simp] theorem W.modPort_cc (w : W) (d : Drive) (f : Port → Port) : (w.modPort d f).cc = w.cc := rfl
@[simp] theorem W.modPort_ports (w : W) (d : Drive) (f : Port → Port) :
    (w.modPort d f).ports = w.ports.put d (f (w.port d)) := rfl
@[simp] theorem W.modPort_js (w : W) (d : Drive) (f : Port → Port) : (w.modPort d f).js = w.js := rfl
@[simp] theorem W.modPort_streams (w : W) (d : Drive) (f : Port → Port) : (w.modPort d f).streams = w.streams := rfl
@[simp] theorem W.modPort_coder (w : W) (d : Drive) (f : Port → Port) : (w.modPort d f).coder = w.coder := rfl
@[simp] theorem W.modPort_cg (w : W) (d : Drive) (f : Port → Port) : (w.modPort d f).cg = w.cg := rfl
@[simp] theorem W.modPort_signals (w : W) (d : Drive) (f : Port → Port) : (w.modPort d f).signals = w.signals := rfl
@[simp] theorem W.modPort_dispatchDue (w : W) (d : Drive) (f : Port → Port) :
    (w.modPort d f).dispatchDue = w.dispatchDue := rfl
@[simp] theorem W.modPort_rehomeDue (w : W) (d : Drive) (f : Port → Port) :
    (w.modPort d f).rehomeDue = w.rehomeDue := rfl
@[simp] theorem W.modPort_catalogDue (w : W) (d : Drive) (f : Port → Port) :
    (w.modPort d f).catalogDue = w.catalogDue := rfl
@[simp] theorem W.modPort_set (w : W) (d : Drive) (f : Port → Port) : (w.modPort d f).set = w.set := rfl
@[simp] theorem W.modPort_out (w : W) (d : Drive) (f : Port → Port) : (w.modPort d f).out = w.out := rfl

/-! ### `W.modJob` -/

@[simp] theorem W.modJob_mode (w : W) (n : Nat) (f : Job → Job) : (w.modJob n f).mode = w.mode := rfl
@[simp] theorem W.modJob_gateOpen (w : W) (n : Nat) (f : Job → Job) : (w.modJob n f).gateOpen = w.gateOpen := rfl
@[simp] theorem W.modJob_pins (w : W) (n : Nat) (f : Job → Job) : (w.modJob n f).pins = w.pins := rfl
@[simp] theorem W.modJob_ct (w : W) (n : Nat) (f : Job → Job) : (w.modJob n f).ct = w.ct := rfl
@[simp] theorem W.modJob_cc (w : W) (n : Nat) (f : Job → Job) : (w.modJob n f).cc = w.cc := rfl
@[simp] theorem W.modJob_ports (w : W) (n : Nat) (f : Job → Job) : (w.modJob n f).ports = w.ports := rfl
@[simp] theorem W.modJob_js (w : W) (n : Nat) (f : Job → Job) :
    (w.modJob n f).js = { w.js with jobs := w.js.jobs.map fun j => if j.id = n then f j else j } := rfl
@[simp] theorem W.modJob_streams (w : W) (n : Nat) (f : Job → Job) : (w.modJob n f).streams = w.streams := rfl
@[simp] theorem W.modJob_coder (w : W) (n : Nat) (f : Job → Job) : (w.modJob n f).coder = w.coder := rfl
@[simp] theorem W.modJob_cg (w : W) (n : Nat) (f : Job → Job) : (w.modJob n f).cg = w.cg := rfl
@[simp] theorem W.modJob_signals (w : W) (n : Nat) (f : Job → Job) : (w.modJob n f).signals = w.signals := rfl
@[simp] theorem W.modJob_dispatchDue (w : W) (n : Nat) (f : Job → Job) :
    (w.modJob n f).dispatchDue = w.dispatchDue := rfl
@[simp] theorem W.modJob_rehomeDue (w : W) (n : Nat) (f : Job → Job) : (w.modJob n f).rehomeDue = w.rehomeDue := rfl
@[simp] theorem W.modJob_catalogDue (w : W) (n : Nat) (f : Job → Job) : (w.modJob n f).catalogDue = w.catalogDue := rfl
@[simp] theorem W.modJob_set (w : W) (n : Nat) (f : Job → Job) : (w.modJob n f).set = w.set := rfl
@[simp] theorem W.modJob_out (w : W) (n : Nat) (f : Job → Job) : (w.modJob n f).out = w.out := rfl

/-! ### `W.putDriveClaim` -/

@[simp] theorem W.putDriveClaim_mode (w : W) (d : Drive) (c : Option Nat) : (w.putDriveClaim d c).mode = w.mode := rfl
@[simp] theorem W.putDriveClaim_gateOpen (w : W) (d : Drive) (c : Option Nat) :
    (w.putDriveClaim d c).gateOpen = w.gateOpen := rfl
@[simp] theorem W.putDriveClaim_pins (w : W) (d : Drive) (c : Option Nat) : (w.putDriveClaim d c).pins = w.pins := rfl
@[simp] theorem W.putDriveClaim_ct (w : W) (d : Drive) (c : Option Nat) : (w.putDriveClaim d c).ct = w.ct := rfl
@[simp] theorem W.putDriveClaim_cc (w : W) (d : Drive) (c : Option Nat) : (w.putDriveClaim d c).cc = w.cc := rfl
@[simp] theorem W.putDriveClaim_ports (w : W) (d : Drive) (c : Option Nat) :
    (w.putDriveClaim d c).ports = w.ports := rfl
@[simp] theorem W.putDriveClaim_js (w : W) (d : Drive) (c : Option Nat) :
    (w.putDriveClaim d c).js = { w.js with claims := w.js.claims.put d c } := rfl
@[simp] theorem W.putDriveClaim_streams (w : W) (d : Drive) (c : Option Nat) :
    (w.putDriveClaim d c).streams = w.streams := rfl
@[simp] theorem W.putDriveClaim_coder (w : W) (d : Drive) (c : Option Nat) :
    (w.putDriveClaim d c).coder = w.coder := rfl
@[simp] theorem W.putDriveClaim_cg (w : W) (d : Drive) (c : Option Nat) : (w.putDriveClaim d c).cg = w.cg := rfl
@[simp] theorem W.putDriveClaim_signals (w : W) (d : Drive) (c : Option Nat) :
    (w.putDriveClaim d c).signals = w.signals := rfl
@[simp] theorem W.putDriveClaim_dispatchDue (w : W) (d : Drive) (c : Option Nat) :
    (w.putDriveClaim d c).dispatchDue = w.dispatchDue := rfl
@[simp] theorem W.putDriveClaim_rehomeDue (w : W) (d : Drive) (c : Option Nat) :
    (w.putDriveClaim d c).rehomeDue = w.rehomeDue := rfl
@[simp] theorem W.putDriveClaim_catalogDue (w : W) (d : Drive) (c : Option Nat) :
    (w.putDriveClaim d c).catalogDue = w.catalogDue := rfl
@[simp] theorem W.putDriveClaim_set (w : W) (d : Drive) (c : Option Nat) : (w.putDriveClaim d c).set = w.set := rfl
@[simp] theorem W.putDriveClaim_out (w : W) (d : Drive) (c : Option Nat) : (w.putDriveClaim d c).out = w.out := rfl

/-! ### `W.stopIdle` -/

@[simp] theorem W.stopIdle_mode (w : W) (d : Drive) : (w.stopIdle d).mode = w.mode := rfl
@[simp] theorem W.stopIdle_gateOpen (w : W) (d : Drive) : (w.stopIdle d).gateOpen = w.gateOpen := rfl
@[simp] theorem W.stopIdle_pins (w : W) (d : Drive) : (w.stopIdle d).pins = w.pins := rfl
@[simp] theorem W.stopIdle_ct (w : W) (d : Drive) : (w.stopIdle d).ct = w.ct := rfl
@[simp] theorem W.stopIdle_cc (w : W) (d : Drive) : (w.stopIdle d).cc = w.cc := rfl
@[simp] theorem W.stopIdle_ports (w : W) (d : Drive) : (w.stopIdle d).ports = w.ports := rfl
@[simp] theorem W.stopIdle_js (w : W) (d : Drive) :
    (w.stopIdle d).js = { w.js with idle := w.js.idle.put d none, idlePending := w.js.idlePending.put d false } := rfl
@[simp] theorem W.stopIdle_streams (w : W) (d : Drive) : (w.stopIdle d).streams = w.streams := rfl
@[simp] theorem W.stopIdle_coder (w : W) (d : Drive) : (w.stopIdle d).coder = w.coder := rfl
@[simp] theorem W.stopIdle_cg (w : W) (d : Drive) : (w.stopIdle d).cg = w.cg := rfl
@[simp] theorem W.stopIdle_signals (w : W) (d : Drive) : (w.stopIdle d).signals = w.signals := rfl
@[simp] theorem W.stopIdle_dispatchDue (w : W) (d : Drive) : (w.stopIdle d).dispatchDue = w.dispatchDue := rfl
@[simp] theorem W.stopIdle_rehomeDue (w : W) (d : Drive) : (w.stopIdle d).rehomeDue = w.rehomeDue := rfl
@[simp] theorem W.stopIdle_catalogDue (w : W) (d : Drive) : (w.stopIdle d).catalogDue = w.catalogDue := rfl
@[simp] theorem W.stopIdle_set (w : W) (d : Drive) : (w.stopIdle d).set = w.set := rfl
@[simp] theorem W.stopIdle_out (w : W) (d : Drive) : (w.stopIdle d).out = w.out := rfl

/-! ### `W.putStream` -/

@[simp] theorem W.putStream_mode (w : W) (d : Drive) (s : Stream) : (w.putStream d s).mode = w.mode := rfl
@[simp] theorem W.putStream_gateOpen (w : W) (d : Drive) (s : Stream) : (w.putStream d s).gateOpen = w.gateOpen := rfl
@[simp] theorem W.putStream_pins (w : W) (d : Drive) (s : Stream) : (w.putStream d s).pins = w.pins := rfl
@[simp] theorem W.putStream_ct (w : W) (d : Drive) (s : Stream) : (w.putStream d s).ct = w.ct := rfl
@[simp] theorem W.putStream_cc (w : W) (d : Drive) (s : Stream) : (w.putStream d s).cc = w.cc := rfl
@[simp] theorem W.putStream_ports (w : W) (d : Drive) (s : Stream) : (w.putStream d s).ports = w.ports := rfl
@[simp] theorem W.putStream_js (w : W) (d : Drive) (s : Stream) : (w.putStream d s).js = w.js := rfl
@[simp] theorem W.putStream_streams (w : W) (d : Drive) (s : Stream) :
    (w.putStream d s).streams = w.streams.put d s := rfl
@[simp] theorem W.putStream_coder (w : W) (d : Drive) (s : Stream) : (w.putStream d s).coder = w.coder := rfl
@[simp] theorem W.putStream_cg (w : W) (d : Drive) (s : Stream) : (w.putStream d s).cg = w.cg := rfl
@[simp] theorem W.putStream_signals (w : W) (d : Drive) (s : Stream) : (w.putStream d s).signals = w.signals := rfl
@[simp] theorem W.putStream_dispatchDue (w : W) (d : Drive) (s : Stream) :
    (w.putStream d s).dispatchDue = w.dispatchDue := rfl
@[simp] theorem W.putStream_rehomeDue (w : W) (d : Drive) (s : Stream) :
    (w.putStream d s).rehomeDue = w.rehomeDue := rfl
@[simp] theorem W.putStream_catalogDue (w : W) (d : Drive) (s : Stream) :
    (w.putStream d s).catalogDue = w.catalogDue := rfl
@[simp] theorem W.putStream_set (w : W) (d : Drive) (s : Stream) : (w.putStream d s).set = w.set := rfl
@[simp] theorem W.putStream_out (w : W) (d : Drive) (s : Stream) : (w.putStream d s).out = w.out := rfl

/-! ### `W.modStream` -/

@[simp] theorem W.modStream_mode (w : W) (d : Drive) (f : Stream → Stream) : (w.modStream d f).mode = w.mode := rfl
@[simp] theorem W.modStream_gateOpen (w : W) (d : Drive) (f : Stream → Stream) :
    (w.modStream d f).gateOpen = w.gateOpen := rfl
@[simp] theorem W.modStream_pins (w : W) (d : Drive) (f : Stream → Stream) : (w.modStream d f).pins = w.pins := rfl
@[simp] theorem W.modStream_ct (w : W) (d : Drive) (f : Stream → Stream) : (w.modStream d f).ct = w.ct := rfl
@[simp] theorem W.modStream_cc (w : W) (d : Drive) (f : Stream → Stream) : (w.modStream d f).cc = w.cc := rfl
@[simp] theorem W.modStream_ports (w : W) (d : Drive) (f : Stream → Stream) : (w.modStream d f).ports = w.ports := rfl
@[simp] theorem W.modStream_js (w : W) (d : Drive) (f : Stream → Stream) : (w.modStream d f).js = w.js := rfl
@[simp] theorem W.modStream_streams (w : W) (d : Drive) (f : Stream → Stream) :
    (w.modStream d f).streams = w.streams.put d (f (w.stream d)) := rfl
@[simp] theorem W.modStream_coder (w : W) (d : Drive) (f : Stream → Stream) : (w.modStream d f).coder = w.coder := rfl
@[simp] theorem W.modStream_cg (w : W) (d : Drive) (f : Stream → Stream) : (w.modStream d f).cg = w.cg := rfl
@[simp] theorem W.modStream_signals (w : W) (d : Drive) (f : Stream → Stream) :
    (w.modStream d f).signals = w.signals := rfl
@[simp] theorem W.modStream_dispatchDue (w : W) (d : Drive) (f : Stream → Stream) :
    (w.modStream d f).dispatchDue = w.dispatchDue := rfl
@[simp] theorem W.modStream_rehomeDue (w : W) (d : Drive) (f : Stream → Stream) :
    (w.modStream d f).rehomeDue = w.rehomeDue := rfl
@[simp] theorem W.modStream_catalogDue (w : W) (d : Drive) (f : Stream → Stream) :
    (w.modStream d f).catalogDue = w.catalogDue := rfl
@[simp] theorem W.modStream_set (w : W) (d : Drive) (f : Stream → Stream) : (w.modStream d f).set = w.set := rfl
@[simp] theorem W.modStream_out (w : W) (d : Drive) (f : Stream → Stream) : (w.modStream d f).out = w.out := rfl

/-! ### `W.modSession` -/

@[simp] theorem W.modSession_mode (w : W) (k : Nat) (f : SessionRec → SessionRec) :
    (w.modSession k f).mode = w.mode := rfl
@[simp] theorem W.modSession_gateOpen (w : W) (k : Nat) (f : SessionRec → SessionRec) :
    (w.modSession k f).gateOpen = w.gateOpen := rfl
@[simp] theorem W.modSession_pins (w : W) (k : Nat) (f : SessionRec → SessionRec) :
    (w.modSession k f).pins = w.pins := rfl
@[simp] theorem W.modSession_ct (w : W) (k : Nat) (f : SessionRec → SessionRec) : (w.modSession k f).ct = w.ct := rfl
@[simp] theorem W.modSession_cc (w : W) (k : Nat) (f : SessionRec → SessionRec) : (w.modSession k f).cc = w.cc := rfl
@[simp] theorem W.modSession_ports (w : W) (k : Nat) (f : SessionRec → SessionRec) :
    (w.modSession k f).ports = w.ports := rfl
@[simp] theorem W.modSession_js (w : W) (k : Nat) (f : SessionRec → SessionRec) : (w.modSession k f).js = w.js := rfl
@[simp] theorem W.modSession_streams (w : W) (k : Nat) (f : SessionRec → SessionRec) :
    (w.modSession k f).streams = w.streams := rfl
@[simp] theorem W.modSession_coder (w : W) (k : Nat) (f : SessionRec → SessionRec) :
    (w.modSession k f).coder = w.coder := rfl
@[simp] theorem W.modSession_cg (w : W) (k : Nat) (f : SessionRec → SessionRec) :
    (w.modSession k f).cg = { w.cg with sessions := w.cg.sessions.map fun s => if s.id = k then f s else s } := rfl
@[simp] theorem W.modSession_signals (w : W) (k : Nat) (f : SessionRec → SessionRec) :
    (w.modSession k f).signals = w.signals := rfl
@[simp] theorem W.modSession_dispatchDue (w : W) (k : Nat) (f : SessionRec → SessionRec) :
    (w.modSession k f).dispatchDue = w.dispatchDue := rfl
@[simp] theorem W.modSession_rehomeDue (w : W) (k : Nat) (f : SessionRec → SessionRec) :
    (w.modSession k f).rehomeDue = w.rehomeDue := rfl
@[simp] theorem W.modSession_catalogDue (w : W) (k : Nat) (f : SessionRec → SessionRec) :
    (w.modSession k f).catalogDue = w.catalogDue := rfl
@[simp] theorem W.modSession_set (w : W) (k : Nat) (f : SessionRec → SessionRec) : (w.modSession k f).set = w.set := rfl
@[simp] theorem W.modSession_out (w : W) (k : Nat) (f : SessionRec → SessionRec) : (w.modSession k f).out = w.out := rfl

/-! ### `W.createSession` -/

@[simp] theorem W.createSession_mode (w : W) (s : SessionRec) : (w.createSession s).mode = w.mode := rfl
@[simp] theorem W.createSession_gateOpen (w : W) (s : SessionRec) : (w.createSession s).gateOpen = w.gateOpen := rfl
@[simp] theorem W.createSession_pins (w : W) (s : SessionRec) : (w.createSession s).pins = w.pins := rfl
@[simp] theorem W.createSession_ct (w : W) (s : SessionRec) : (w.createSession s).ct = w.ct := rfl
@[simp] theorem W.createSession_cc (w : W) (s : SessionRec) : (w.createSession s).cc = w.cc := rfl
@[simp] theorem W.createSession_ports (w : W) (s : SessionRec) : (w.createSession s).ports = w.ports := rfl
@[simp] theorem W.createSession_js (w : W) (s : SessionRec) : (w.createSession s).js = w.js := rfl
@[simp] theorem W.createSession_streams (w : W) (s : SessionRec) : (w.createSession s).streams = w.streams := rfl
@[simp] theorem W.createSession_coder (w : W) (s : SessionRec) : (w.createSession s).coder = w.coder := rfl
@[simp] theorem W.createSession_cg (w : W) (s : SessionRec) :
    (w.createSession s).cg = { w.cg with sessions := insertBy SessionRec.id s w.cg.sessions } := rfl
@[simp] theorem W.createSession_signals (w : W) (s : SessionRec) : (w.createSession s).signals = w.signals := rfl
@[simp] theorem W.createSession_dispatchDue (w : W) (s : SessionRec) :
    (w.createSession s).dispatchDue = w.dispatchDue := rfl
@[simp] theorem W.createSession_rehomeDue (w : W) (s : SessionRec) : (w.createSession s).rehomeDue = w.rehomeDue := rfl
@[simp] theorem W.createSession_catalogDue (w : W) (s : SessionRec) : (w.createSession s).catalogDue = w.catalogDue := rfl
@[simp] theorem W.createSession_set (w : W) (s : SessionRec) : (w.createSession s).set = w.set := rfl
@[simp] theorem W.createSession_out (w : W) (s : SessionRec) : (w.createSession s).out = w.out := rfl

/-! ### `W.freeJob` -/

@[simp] theorem W.freeJob_mode (w : W) (n : Nat) : (w.freeJob n).mode = w.mode := rfl
@[simp] theorem W.freeJob_gateOpen (w : W) (n : Nat) : (w.freeJob n).gateOpen = w.gateOpen := rfl
@[simp] theorem W.freeJob_pins (w : W) (n : Nat) : (w.freeJob n).pins = w.pins := rfl
@[simp] theorem W.freeJob_ct (w : W) (n : Nat) : (w.freeJob n).ct = w.ct := rfl
@[simp] theorem W.freeJob_cc (w : W) (n : Nat) : (w.freeJob n).cc = w.cc := rfl
@[simp] theorem W.freeJob_ports (w : W) (n : Nat) : (w.freeJob n).ports = w.ports := rfl
@[simp] theorem W.freeJob_js (w : W) (n : Nat) :
    (w.freeJob n).js = { w.js with jobs := w.js.jobs.filter fun j => j.id ≠ n } := rfl
@[simp] theorem W.freeJob_streams (w : W) (n : Nat) : (w.freeJob n).streams = w.streams := rfl
@[simp] theorem W.freeJob_coder (w : W) (n : Nat) : (w.freeJob n).coder = w.coder := rfl
@[simp] theorem W.freeJob_cg (w : W) (n : Nat) : (w.freeJob n).cg = w.cg := rfl
@[simp] theorem W.freeJob_signals (w : W) (n : Nat) : (w.freeJob n).signals = w.signals := rfl
@[simp] theorem W.freeJob_dispatchDue (w : W) (n : Nat) : (w.freeJob n).dispatchDue = w.dispatchDue := rfl
@[simp] theorem W.freeJob_rehomeDue (w : W) (n : Nat) : (w.freeJob n).rehomeDue = w.rehomeDue := rfl
@[simp] theorem W.freeJob_catalogDue (w : W) (n : Nat) : (w.freeJob n).catalogDue = w.catalogDue := rfl
@[simp] theorem W.freeJob_set (w : W) (n : Nat) : (w.freeJob n).set = w.set := rfl
@[simp] theorem W.freeJob_out (w : W) (n : Nat) : (w.freeJob n).out = w.out := rfl

/-! ### `W.coderIdle` -/

@[simp] theorem W.coderIdle_mode (w : W) : (w.coderIdle).mode = w.mode := rfl
@[simp] theorem W.coderIdle_gateOpen (w : W) : (w.coderIdle).gateOpen = w.gateOpen := rfl
@[simp] theorem W.coderIdle_pins (w : W) : (w.coderIdle).pins = w.pins := rfl
@[simp] theorem W.coderIdle_ct (w : W) : (w.coderIdle).ct = w.ct := rfl
@[simp] theorem W.coderIdle_cc (w : W) : (w.coderIdle).cc = w.cc := rfl
@[simp] theorem W.coderIdle_ports (w : W) : (w.coderIdle).ports = w.ports := rfl
@[simp] theorem W.coderIdle_js (w : W) : (w.coderIdle).js = w.js := rfl
@[simp] theorem W.coderIdle_streams (w : W) : (w.coderIdle).streams = w.streams := rfl
@[simp] theorem W.coderIdle_coder (w : W) : (w.coderIdle).coder = { w.coder with busy := none } := rfl
@[simp] theorem W.coderIdle_cg (w : W) : (w.coderIdle).cg = w.cg := rfl
@[simp] theorem W.coderIdle_signals (w : W) : (w.coderIdle).signals = w.signals := rfl
@[simp] theorem W.coderIdle_dispatchDue (w : W) : (w.coderIdle).dispatchDue = w.dispatchDue := rfl
@[simp] theorem W.coderIdle_rehomeDue (w : W) : (w.coderIdle).rehomeDue = w.rehomeDue := rfl
@[simp] theorem W.coderIdle_catalogDue (w : W) : (w.coderIdle).catalogDue = w.catalogDue := rfl
@[simp] theorem W.coderIdle_set (w : W) : (w.coderIdle).set = w.set := rfl
@[simp] theorem W.coderIdle_out (w : W) : (w.coderIdle).out = w.out := rfl

/-! ### `State.sendReply`, `State.dropFrame`, `State.putWork`, `LinkState.push` -/

@[simp] theorem State.sendReply_pending (s : State) (f : RequestFrame) (r : Status) (b : ReplyBody) :
    (s.sendReply f r b).pending = s.pending := rfl
@[simp] theorem State.sendReply_settings (s : State) (f : RequestFrame) (r : Status) (b : ReplyBody) :
    (s.sendReply f r b).settings = s.settings := rfl
@[simp] theorem State.sendReply_lib (s : State) (f : RequestFrame) (r : Status) (b : ReplyBody) :
    (s.sendReply f r b).lib = s.lib := rfl
@[simp] theorem State.sendReply_receiver (s : State) (f : RequestFrame) (r : Status) (b : ReplyBody) :
    (s.sendReply f r b).link.receiver = s.link.receiver := rfl
@[simp] theorem State.sendReply_frames (s : State) (f : RequestFrame) (r : Status) (b : ReplyBody) :
    (s.sendReply f r b).link.frames = s.link.frames := rfl
@[simp] theorem State.sendReply_notices (s : State) (f : RequestFrame) (r : Status) (b : ReplyBody) :
    (s.sendReply f r b).link.notices = s.link.notices := rfl
@[simp] theorem State.sendReply_lost (s : State) (f : RequestFrame) (r : Status) (b : ReplyBody) :
    (s.sendReply f r b).link.lost = s.link.lost := rfl
@[simp] theorem State.sendReply_nextNotice (s : State) (f : RequestFrame) (r : Status) (b : ReplyBody) :
    (s.sendReply f r b).link.nextNotice = s.link.nextNotice := rfl
@[simp] theorem State.sendReply_silence (s : State) (f : RequestFrame) (r : Status) (b : ReplyBody) :
    (s.sendReply f r b).link.silence = s.link.silence := rfl
@[simp] theorem State.sendReply_silenceLimit (s : State) (f : RequestFrame) (r : Status) (b : ReplyBody) :
    (s.sendReply f r b).link.silenceLimit = s.link.silenceLimit := rfl
@[simp] theorem State.sendReply_reject (s : State) (f : RequestFrame) (r : Status) (b : ReplyBody) :
    (s.sendReply f r b).link.reject = false := rfl
@[simp] theorem State.sendReply_reply (s : State) (f : RequestFrame) (r : Status) (b : ReplyBody) :
    (s.sendReply f r b).link.reply = some
      { tag := f.tag, code := f.code, status := r, previousRejected := s.link.reject,
        noticesWaiting := s.link.attention, powerWarning := s.lib.pins.powerWarning, body := b } := rfl
@[simp] theorem State.dropFrame_pending (s : State) : s.dropFrame.pending = s.pending := rfl
@[simp] theorem State.dropFrame_settings (s : State) : s.dropFrame.settings = s.settings := rfl
@[simp] theorem State.dropFrame_lib (s : State) : s.dropFrame.lib = s.lib := rfl
@[simp] theorem State.dropFrame_receiver (s : State) : s.dropFrame.link.receiver = s.link.receiver := rfl
@[simp] theorem State.dropFrame_reject (s : State) : s.dropFrame.link.reject = s.link.reject := rfl
@[simp] theorem State.dropFrame_notices (s : State) : s.dropFrame.link.notices = s.link.notices := rfl
@[simp] theorem State.dropFrame_lost (s : State) : s.dropFrame.link.lost = s.link.lost := rfl
@[simp] theorem State.dropFrame_nextNotice (s : State) : s.dropFrame.link.nextNotice = s.link.nextNotice := rfl
@[simp] theorem State.dropFrame_silence (s : State) : s.dropFrame.link.silence = s.link.silence := rfl
@[simp] theorem State.dropFrame_silenceLimit (s : State) : s.dropFrame.link.silenceLimit = s.link.silenceLimit := rfl
@[simp] theorem State.dropFrame_reply (s : State) : s.dropFrame.link.reply = s.link.reply := rfl
@[simp] theorem State.dropFrame_frames (s : State) : s.dropFrame.link.frames = s.link.frames.drop 1 := rfl
@[simp] theorem State.dropFrame_work (s : State) : s.dropFrame.work = s.work := rfl
@[simp] theorem State.putWork_pending (s : State) (w : W) : (s.putWork w).pending = s.pending := rfl
@[simp] theorem State.putWork_settings (s : State) (w : W) : (s.putWork w).settings = s.settings := rfl
@[simp] theorem State.putWork_lib (s : State) (w : W) : (s.putWork w).lib = w.settled.toLib := rfl
@[simp] theorem State.putWork_link (s : State) (w : W) : (s.putWork w).link = s.link.pushAll w.settled.out := rfl
@[simp] theorem LinkState.push_receiver (k : LinkState) (n : Notice) : (k.push n).receiver = k.receiver := rfl
@[simp] theorem LinkState.push_frames (k : LinkState) (n : Notice) : (k.push n).frames = k.frames := rfl
@[simp] theorem LinkState.push_reject (k : LinkState) (n : Notice) : (k.push n).reject = k.reject := rfl
@[simp] theorem LinkState.push_silence (k : LinkState) (n : Notice) : (k.push n).silence = k.silence := rfl
@[simp] theorem LinkState.push_silenceLimit (k : LinkState) (n : Notice) : (k.push n).silenceLimit = k.silenceLimit := rfl
@[simp] theorem LinkState.startSilence_silence (k : LinkState) (n : Nat) : (k.startSilence n).silence = silenceStart n := rfl
@[simp] theorem LinkState.startSilence_silenceLimit (k : LinkState) (n : Nat) : (k.startSilence n).silenceLimit = n := rfl
@[simp] theorem LinkState.startSilence_receiver (k : LinkState) (n : Nat) : (k.startSilence n).receiver = k.receiver := rfl
@[simp] theorem LinkState.startSilence_frames (k : LinkState) (n : Nat) : (k.startSilence n).frames = k.frames := rfl
@[simp] theorem LinkState.startSilence_reject (k : LinkState) (n : Nat) : (k.startSilence n).reject = k.reject := rfl
@[simp] theorem LinkState.startSilence_notices (k : LinkState) (n : Nat) : (k.startSilence n).notices = k.notices := rfl
@[simp] theorem LinkState.startSilence_lost (k : LinkState) (n : Nat) : (k.startSilence n).lost = k.lost := rfl
@[simp] theorem LinkState.startSilence_nextNotice (k : LinkState) (n : Nat) :
    (k.startSilence n).nextNotice = k.nextNotice := rfl
@[simp] theorem LinkState.startSilence_reply (k : LinkState) (n : Nat) : (k.startSilence n).reply = k.reply := rfl
@[simp] theorem LinkState.push_reply (k : LinkState) (n : Notice) : (k.push n).reply = k.reply := rfl
@[simp] theorem LinkState.push_nextNotice (k : LinkState) (n : Notice) :
    (k.push n).nextNotice = (k.nextNotice + 1) % 65536 := rfl
@[simp] theorem State.work_toLib (s : State) : s.work.toLib = s.lib := rfl
@[simp] theorem State.work_set (s : State) : s.work.set = s.settings.working := rfl
@[simp] theorem State.work_out (s : State) : s.work.out = [] := rfl

/-! ## The need of a CLEAN job (R86) -/

@[simp] theorem W.keepNeed_mode (w : W) (d : Drive) (need : Bool) : (w.keepNeed d need).mode = w.mode := rfl
@[simp] theorem W.keepNeed_gateOpen (w : W) (d : Drive) (need : Bool) : (w.keepNeed d need).gateOpen = w.gateOpen := rfl
@[simp] theorem W.keepNeed_pins (w : W) (d : Drive) (need : Bool) : (w.keepNeed d need).pins = w.pins := rfl
@[simp] theorem W.keepNeed_ct (w : W) (d : Drive) (need : Bool) : (w.keepNeed d need).ct = w.ct := rfl
@[simp] theorem W.keepNeed_cc (w : W) (d : Drive) (need : Bool) : (w.keepNeed d need).cc = w.cc := rfl
@[simp] theorem W.keepNeed_ports (w : W) (d : Drive) (need : Bool) : (w.keepNeed d need).ports = w.ports := rfl
@[simp] theorem W.keepNeed_streams (w : W) (d : Drive) (need : Bool) : (w.keepNeed d need).streams = w.streams := rfl
@[simp] theorem W.keepNeed_coder (w : W) (d : Drive) (need : Bool) : (w.keepNeed d need).coder = w.coder := rfl
@[simp] theorem W.keepNeed_cg (w : W) (d : Drive) (need : Bool) : (w.keepNeed d need).cg = w.cg := rfl
@[simp] theorem W.keepNeed_set (w : W) (d : Drive) (need : Bool) : (w.keepNeed d need).set = w.set := rfl
@[simp] theorem W.keepNeed_out (w : W) (d : Drive) (need : Bool) : (w.keepNeed d need).out = w.out := rfl
@[simp] theorem W.keepNeed_signals (w : W) (d : Drive) (need : Bool) : (w.keepNeed d need).signals = w.signals := rfl
@[simp] theorem W.keepNeed_dispatchDue (w : W) (d : Drive) (need : Bool) : (w.keepNeed d need).dispatchDue = w.dispatchDue := rfl
@[simp] theorem W.keepNeed_rehomeDue (w : W) (d : Drive) (need : Bool) : (w.keepNeed d need).rehomeDue = w.rehomeDue := rfl
@[simp] theorem W.keepNeed_catalogDue (w : W) (d : Drive) (need : Bool) : (w.keepNeed d need).catalogDue = w.catalogDue := rfl
@[simp] theorem W.keepNeed_jobs (w : W) (d : Drive) (need : Bool) : (w.keepNeed d need).js.jobs = w.js.jobs := rfl
@[simp] theorem W.keepNeed_cleanNeed (w : W) (d : Drive) (need : Bool) :
    (w.keepNeed d need).js.cleanNeed = w.js.cleanNeed.put d need := rfl

end Sys2Proof.Machine
end

