-- ==== Sys2Proof/Laws/Ops.lean ====
section
/-! SUPPORT. What each shared operation does, said once: reading after writing for every kind of record, and what a refused
and an accepted drive operation leave. -/

namespace Sys2Proof.Machine

/-! ## Pairs -/

@[simp] theorem Pair.get_put_same {α : Type} (p : Pair α) (d : Drive) (x : α) : (p.put d x).get d = x := by
  cases d <;> rfl

theorem Pair.get_put_other {α : Type} (p : Pair α) {d e : Drive} (x : α) (h : e ≠ d) : (p.put d x).get e = p.get e := by
  cases d <;> cases e <;> first | rfl | exact absurd rfl h

@[simp] theorem Pair.put_get {α : Type} (p : Pair α) (d : Drive) : p.put d (p.get d) = p := by
  cases d <;> rfl

@[simp] theorem Pair.put_put {α : Type} (p : Pair α) (d : Drive) (x y : α) : (p.put d x).put d y = p.put d y := by
  cases d <;> rfl

/-! ## Slots, cartridge records, ports, streams -/

theorem W.cart_putCart_same {w : W} {i : Nat} {c : CartRec} (h : w.cart i = some c) (x : Option CartRec) :
    (w.putCart i x).cart i = x := by
  unfold W.cart W.putCart at *
  have hi : i < w.ct.carts.length := by
    by_contra hn
    simp [List.getD_eq_getElem?_getD, List.getElem?_eq_none (Nat.le_of_not_lt hn)] at h
  simp [List.getD_eq_getElem?_getD, hi]

theorem W.cart_putCart_other (w : W) {i k : Nat} (x : Option CartRec) (h : k ≠ i) :
    (w.putCart i x).cart k = w.cart k := by
  unfold W.cart W.putCart
  simp [List.getD_eq_getElem?_getD, List.getElem?_set_ne (Ne.symm h)]

theorem W.cart_modCart {w : W} {i : Nat} {c : CartRec} (h : w.cart i = some c) (f : CartRec → CartRec) (k : Nat) :
    (w.modCart i f).cart k = if k = i then some (f c) else w.cart k := by
  unfold W.modCart
  rw [h]
  by_cases hk : k = i
  · subst hk; simp [W.cart_putCart_same h]
  · simp [hk, W.cart_putCart_other _ _ hk]

theorem W.slotAt_putSlot_same {w : W} {n : Nat} (h : n - 1 < w.ct.slots.length) (r : SlotRec) :
    (w.putSlot (.slot n) r).slotAt (.slot n) = r := by
  simp [W.slotAt, W.putSlot, List.getD_eq_getElem?_getD, h]

theorem W.slotAt_putSlot_other (w : W) {n k : Nat} (r : SlotRec) (h : k - 1 ≠ n - 1) :
    (w.putSlot (.slot n) r).slotAt (.slot k) = w.slotAt (.slot k) := by
  simp [W.slotAt, W.putSlot, List.getD_eq_getElem?_getD, List.getElem?_set_ne (Ne.symm h)]

@[simp] theorem W.port_putPort_same (w : W) (d : Drive) (p : Port) : (w.putPort d p).port d = p := by
  simp [W.port, W.putPort]

theorem W.port_putPort_other (w : W) {d e : Drive} (p : Port) (h : e ≠ d) : (w.putPort d p).port e = w.port e := by
  simp [W.port, W.putPort, Pair.get_put_other _ _ h]

@[simp] theorem W.stream_putStream_same (w : W) (d : Drive) (s : Stream) : (w.putStream d s).stream d = s := by
  simp [W.stream, W.putStream]

theorem W.stream_putStream_other (w : W) {d e : Drive} (s : Stream) (h : e ≠ d) :
    (w.putStream d s).stream e = w.stream e := by
  simp [W.stream, W.putStream, Pair.get_put_other _ _ h]

@[simp] theorem W.stream_modStream_same (w : W) (d : Drive) (f : Stream → Stream) :
    (w.modStream d f).stream d = f (w.stream d) := by
  simp [W.modStream]

/-! ## Jobs, sessions, extents -/

theorem find?_map_of_key {α : Type} (l : List α) (p : α → Bool) (g : α → α) (hg : ∀ a, p (g a) = p a) :
    (l.map fun a => if p a then g a else a).find? p = (l.find? p).map g := by
  induction l with
  | nil => rfl
  | cons a l ih => by_cases h : p a <;> simp [List.find?_cons, h, hg, ih]

/-- A job found by its id bears it. -/
theorem W.job_id {w : W} {n : Nat} {j : Job} (h : w.job n = some j) : j.id = n := by
  unfold W.job at h; simpa using List.find?_some h

theorem W.job_modJob (w : W) (n : Nat) (g : Job → Job) (hg : ∀ j, (g j).id = j.id) :
    (w.modJob n g).job n = (w.job n).map g := by
  simpa [W.job, W.modJob] using find?_map_of_key w.js.jobs (fun j => decide (j.id = n)) g (by simp [hg])

theorem W.job_modRestore (w : W) (n : Nat) (f : RestoreData → RestoreData) :
    (w.modRestore n f).job n = (w.job n).map fun j => match j.progress with
      | .restore r => { j with progress := .restore (f r) }
      | .backup _ => j
      | .verify _ => j
      | .clean => j :=
  W.job_modJob w n _ fun j => by cases j.progress <;> rfl

theorem W.job_modVerify (w : W) (n : Nat) (f : VerifyData → VerifyData) :
    (w.modVerify n f).job n = (w.job n).map fun j => match j.progress with
      | .verify v => { j with progress := .verify (f v) }
      | .backup _ => j
      | .restore _ => j
      | .clean => j :=
  W.job_modJob w n _ fun j => by cases j.progress <;> rfl

theorem W.job_modBackup (w : W) (n : Nat) (f : BackupData → BackupData) :
    (w.modBackup n f).job n = (w.job n).map fun j => match j.progress with
      | .backup b => { j with progress := .backup (f b) }
      | .verify _ => j
      | .restore _ => j
      | .clean => j :=
  W.job_modJob w n _ fun j => by cases j.progress <;> rfl

theorem W.session_modSession (w : W) (k : Nat) (g : SessionRec → SessionRec) (hg : ∀ s, (g s).id = s.id) :
    (w.modSession k g).session k = (w.session k).map g := by
  simpa [W.session, W.modSession] using find?_map_of_key w.cg.sessions (fun s => decide (s.id = k)) g (by simp [hg])

theorem W.extent_modExtent (w : W) (k q : Nat) (g : ExtentRec → ExtentRec)
    (hg : ∀ e, (g e).session = e.session ∧ (g e).sequence = e.sequence) :
    (w.modExtent k q g).extent k q = (w.extent k q).map g := by
  simpa [W.extent, W.modExtent] using
    find?_map_of_key w.cg.extents (fun e => decide (e.session = k ∧ e.sequence = q)) g (by simp [hg])

/-! ## Sorting by a key -/

theorem perm_insertBy {α : Type} (key : α → Nat) (x : α) (l : List α) : (insertBy key x l).Perm (x :: l) := by
  induction l with
  | nil => exact List.Perm.refl _
  | cons y ys ih =>
    unfold insertBy
    split
    · exact List.Perm.refl _
    · exact (ih.cons y).trans (List.Perm.swap x y ys)

theorem perm_insertExtent (x : ExtentRec) (l : List ExtentRec) : (insertExtent x l).Perm (x :: l) := by
  induction l with
  | nil => exact List.Perm.refl _
  | cons y ys ih =>
    unfold insertExtent
    split
    · exact List.Perm.refl _
    · exact (ih.cons y).trans (List.Perm.swap x y ys)

theorem extentBefore_iff (a b : ExtentRec) :
    extentBefore a b = true ↔ a.session < b.session ∨ (a.session = b.session ∧ a.sequence < b.sequence) := by
  simp [extentBefore]

/-- An extent with a session and sequence of its own keeps the catalog's order. -/
theorem pairwise_insertExtent {x : ExtentRec} {l : List ExtentRec} (h : l.Pairwise fun a b => extentBefore a b = true)
    (hx : ∀ y ∈ l, (y.session, y.sequence) ≠ (x.session, x.sequence)) :
    (insertExtent x l).Pairwise fun a b => extentBefore a b = true := by
  induction l with
  | nil => simp [insertExtent]
  | cons y ys ih =>
    have hy := List.pairwise_cons.mp h
    have hne := hx y (by simp)
    unfold insertExtent
    split
    · rename_i hb
      refine List.pairwise_cons.mpr ⟨fun z hz => ?_, h⟩
      rcases List.mem_cons.mp hz with rfl | hz
      · exact hb
      · have := hy.1 z hz
        rw [extentBefore_iff] at *
        omega
    · rename_i hb
      refine List.pairwise_cons.mpr ⟨fun z hz => ?_, ih hy.2 fun z hz => hx z (by simp [hz])⟩
      rcases List.mem_cons.mp ((perm_insertExtent x ys).mem_iff.mp hz) with rfl | hz
      · rw [extentBefore_iff] at *
        simp only [ne_eq, Prod.mk.injEq] at hne
        omega
      · exact hy.1 z hz

/-! ## Drive operations (R50) -/

/-- A refused operation changes nothing and says so. -/
theorem W.requestOp_refused {w : W} {d : Drive} {op : PortOp} {why : PortRefusal} (r : Requester)
    (h : w.opRefusal d op = some why) : w.requestOp d op r = (w, false) := by
  simp [W.requestOp, h]

end Sys2Proof.Machine
end

