-- ==== Sys2Proof/Laws/Link.lean ====
section
/-! SUPPORT. What the taking of a request and the queueing of notices do, said once: a request with its frame at the head is
refused by the mode, by its form, or goes to its owner; without one nothing happens; what an owner's answer leaves. -/

namespace Sys2Proof.Machine

theorem acceptedIn_of_ne {m : Mode} (k : Nat) (h : m ≠ .secured) : acceptedIn m k = true := by
  cases m with
  | online => rfl
  | maintenance => rfl
  | secured => exact absurd rfl h

theorem acceptedIn_of_not_refused (m : Mode) {k : Nat} (h : refusedSecured.contains k = false) :
    acceptedIn m k = true := by
  cases m with
  | online => rfl
  | maintenance => rfl
  | secured => simp only [acceptedIn, h, Bool.not_false]

/-- Without the code at the head of the buffer nothing is taken (log entry 1). -/
theorem State.take_none {s : State} {k : Nat} (form : List Byte → Bool) (owner : State → RequestFrame → State)
    (h : ∀ f, s.link.frames.head? = some f → f.code.toNat ≠ k) : s.take k form owner = s := by
  unfold State.take
  split
  · rfl
  · rw [if_pos (h _ ‹_›)]

/-- A request that the mode and the form let through goes to its owner, its frame gone. -/
theorem State.take_some {s : State} {f : RequestFrame} {k : Nat} {p : List Byte} {form : List Byte → Bool}
    (owner : State → RequestFrame → State) (h : s.requests f k p) (hm : acceptedIn s.lib.mode k = true)
    (hf : form p = true) : s.take k form owner = owner s.dropFrame f := by
  obtain ⟨h1, h2, h3⟩ := h
  simp [State.take, h1, h2, h3, hm, hf]

/-- The mode refuses first (R186). -/
theorem State.take_notInMode {s : State} {f : RequestFrame} {k : Nat} {p : List Byte} (form : List Byte → Bool)
    (owner : State → RequestFrame → State) (h : s.requests f k p) (hm : acceptedIn s.lib.mode k = false) :
    s.take k form owner = s.turnedDown f .notInMode .empty := by
  obtain ⟨h1, h2, -⟩ := h
  simp [State.take, h1, h2, hm, State.turnedDown]

/-- Then the form (R185, item 3). -/
theorem State.take_badForm {s : State} {f : RequestFrame} {k : Nat} {p : List Byte} {form : List Byte → Bool}
    (owner : State → RequestFrame → State) (h : s.requests f k p) (hm : acceptedIn s.lib.mode k = true)
    (hf : form p = false) : s.take k form owner = s.turnedDown f .badArgument .empty := by
  obtain ⟨h1, h2, h3⟩ := h
  simp [State.take, h1, h2, h3, hm, hf, State.turnedDown]

/-- An owner that answers OK leaves the answered state. -/
theorem State.ask_ok {s : State} {f : RequestFrame} {k : Nat} {p : List Byte} {form : List Byte → Bool}
    {owner : W → List Byte → Answer} {w : W} {b : ReplyBody} (h : s.requests f k p)
    (hm : acceptedIn s.lib.mode k = true) (hf : form p = true) (ho : owner s.work p = answer w b) :
    goesOn (s.ask k form owner) = .next (s.answered f w b) := by
  unfold State.ask
  rw [State.take_some _ h hm hf]
  simp [h.2.2, ho, answer, goesOn, State.answered]

/-- An owner that refuses leaves the state but for the buffer and the reply. -/
theorem State.ask_refused {s : State} {f : RequestFrame} {k : Nat} {p : List Byte} {form : List Byte → Bool}
    {owner : W → List Byte → Answer} {w : W} {r : Status} {b : ReplyBody} (h : s.requests f k p)
    (hm : acceptedIn s.lib.mode k = true) (hf : form p = true) (ho : owner s.work p = { w := w, status := r, body := b })
    (hr : r ≠ .ok) : goesOn (s.ask k form owner) = .next (s.turnedDown f r b) := by
  unfold State.ask
  rw [State.take_some _ h hm hf]
  simp [h.2.2, ho, hr, goesOn, State.turnedDown]

/-- A request that reads only leaves its reply. -/
theorem State.look_answer {s : State} {f : RequestFrame} {k : Nat} {p : List Byte} {form : List Byte → Bool}
    {owner : W → List Byte → Answer} {w : W} {r : Status} {b : ReplyBody} (h : s.requests f k p)
    (hm : acceptedIn s.lib.mode k = true) (hf : form p = true)
    (ho : owner s.work p = { w := w, status := r, body := b }) :
    goesOn (s.look k form owner) = .next (s.dropFrame.sendReply f r b) := by
  unfold State.look
  rw [State.take_some _ h hm hf]
  simp [h.2.2, ho, goesOn]

/-! ## Fields of a payload (R185, item 3) -/

@[simp] theorem fieldsOf_one (a : Byte) : fieldsOf [1] [a] 0 = a.toNat := by
  simp [fieldsOf, natFields, fields, beNat]

@[simp] theorem fieldsOf_two_zero (a b : Byte) : fieldsOf [1, 1] [a, b] 0 = a.toNat := by
  simp [fieldsOf, natFields, fields, beNat]

@[simp] theorem fieldsOf_two_one (a b : Byte) : fieldsOf [1, 1] [a, b] 1 = b.toNat := by
  simp [fieldsOf, natFields, fields, beNat]

@[simp] theorem fieldsOf_word (a b : Byte) : fieldsOf [2] [a, b] 0 = a.toNat * 256 + b.toNat := by
  simp [fieldsOf, natFields, fields, beNat]

/-! ## Notices (R189) -/

@[simp] theorem LinkState.pushAll_nil (k : LinkState) : k.pushAll [] = k := rfl

@[simp] theorem LinkState.pushAll_cons (k : LinkState) (n : Notice) (l : List Notice) :
    k.pushAll (n :: l) = (k.push n).pushAll l := rfl

theorem LinkState.pushAll_append (k : LinkState) (a b : List Notice) : k.pushAll (a ++ b) = (k.pushAll a).pushAll b := by
  simp [LinkState.pushAll]

/-- Of the link, queued notices touch the notice queue alone. -/
theorem LinkState.pushAll_rest (k : LinkState) (l : List Notice) :
    (k.pushAll l).receiver = k.receiver ∧ (k.pushAll l).frames = k.frames ∧ (k.pushAll l).reject = k.reject ∧
      (k.pushAll l).silence = k.silence ∧ (k.pushAll l).silenceLimit = k.silenceLimit ∧ (k.pushAll l).reply = k.reply := by
  induction l generalizing k with
  | nil => exact ⟨rfl, rfl, rfl, rfl, rfl, rfl⟩
  | cons n l ih => exact ih (k.push n)

/-! ## Settling -/

/-- What leaves nothing due stands as it is. -/
theorem W.settled_of_nothingDue {w : W} (h : w.nothingDue) : w.settled = w := by
  obtain ⟨hs, hc, hd, hr⟩ := h
  have h1 : w.settleOnce = none := by
    unfold W.settleOnce
    rw [if_neg (by rintro ⟨a, b⟩; rcases hr with hr | hr <;> simp_all)]
    simp [hs, hc, hd]
  show W.settle (3999 + 1) w = w
  unfold W.settle
  rw [h1]

end Sys2Proof.Machine
end

