-- ==== Sys2Proof/Laws/PerInstr.lean ====
section
/-! SUPPORT. A law of every command, said per constructor: the code a command takes is one of the request codes of section
11.7. -/

namespace Sys2Proof.Laws

/-- The code a command takes, if it takes one, names a request (R185, section 11.7). -/
def RequestCodeIsNamed.Statement (i : Instr) : Prop :=
  ∀ k, i.requestCode = some k → Machine.requestCodes.contains k = true

theorem requestCode_named {i : Instr} {n : Nat} (h : i.requestCode = some n)
    (hn : Machine.requestCodes.contains n = true) : RequestCodeIsNamed.Statement i :=
  fun _ hk => Option.some.inj (h.symm.trans hk) ▸ hn

theorem no_requestCode_named {i : Instr} (h : i.requestCode = none) : RequestCodeIsNamed.Statement i :=
  fun _ hk => nomatch h.symm.trans hk

theorem RequestCodeIsNamed.powerOnReset (lines : Pins) : RequestCodeIsNamed.Statement (.powerOnReset lines) :=
  no_requestCode_named rfl
theorem RequestCodeIsNamed.resetController : RequestCodeIsNamed.Statement .resetController :=
  requestCode_named rfl rfl
theorem RequestCodeIsNamed.frameReceived (bytes : List Byte) : RequestCodeIsNamed.Statement (.frameReceived bytes) :=
  no_requestCode_named rfl
theorem RequestCodeIsNamed.frameMalformed (bytes : List Byte) :
    RequestCodeIsNamed.Statement (.frameMalformed bytes) :=
  no_requestCode_named rfl
theorem RequestCodeIsNamed.requestUnknownCode : RequestCodeIsNamed.Statement .requestUnknownCode :=
  no_requestCode_named rfl
theorem RequestCodeIsNamed.identify : RequestCodeIsNamed.Statement .identify :=
  requestCode_named rfl rfl
theorem RequestCodeIsNamed.status : RequestCodeIsNamed.Statement .status :=
  requestCode_named rfl rfl
theorem RequestCodeIsNamed.setMode : RequestCodeIsNamed.Statement .setMode :=
  requestCode_named rfl rfl
theorem RequestCodeIsNamed.resume : RequestCodeIsNamed.Statement .resume :=
  requestCode_named rfl rfl
theorem RequestCodeIsNamed.haltStreams : RequestCodeIsNamed.Statement .haltStreams :=
  requestCode_named rfl rfl
theorem RequestCodeIsNamed.resumeStream : RequestCodeIsNamed.Statement .resumeStream :=
  requestCode_named rfl rfl
theorem RequestCodeIsNamed.fetchNotices : RequestCodeIsNamed.Statement .fetchNotices :=
  requestCode_named rfl rfl
theorem RequestCodeIsNamed.setSetting : RequestCodeIsNamed.Statement .setSetting :=
  requestCode_named rfl rfl
theorem RequestCodeIsNamed.getSetting : RequestCodeIsNamed.Statement .getSetting :=
  requestCode_named rfl rfl
theorem RequestCodeIsNamed.saveSettings : RequestCodeIsNamed.Statement .saveSettings :=
  requestCode_named rfl rfl
theorem RequestCodeIsNamed.settingsSaveComplete (written : Bool) :
    RequestCodeIsNamed.Statement (.settingsSaveComplete written) :=
  no_requestCode_named rfl
theorem RequestCodeIsNamed.linkSilent : RequestCodeIsNamed.Statement .linkSilent :=
  no_requestCode_named rfl
theorem RequestCodeIsNamed.powerWarningAsserted : RequestCodeIsNamed.Statement .powerWarningAsserted :=
  no_requestCode_named rfl
theorem RequestCodeIsNamed.powerWarningWithdrawn : RequestCodeIsNamed.Statement .powerWarningWithdrawn :=
  no_requestCode_named rfl
theorem RequestCodeIsNamed.scan : RequestCodeIsNamed.Statement .scan :=
  requestCode_named rfl rfl
theorem RequestCodeIsNamed.slotInfo : RequestCodeIsNamed.Statement .slotInfo :=
  requestCode_named rfl rfl
theorem RequestCodeIsNamed.cartridgeInfo : RequestCodeIsNamed.Statement .cartridgeInfo :=
  requestCode_named rfl rfl
theorem RequestCodeIsNamed.editCartridge : RequestCodeIsNamed.Statement .editCartridge :=
  requestCode_named rfl rfl
theorem RequestCodeIsNamed.move : RequestCodeIsNamed.Statement .move :=
  requestCode_named rfl rfl
theorem RequestCodeIsNamed.importCartridge : RequestCodeIsNamed.Statement .importCartridge :=
  requestCode_named rfl rfl
theorem RequestCodeIsNamed.exportCartridge : RequestCodeIsNamed.Statement .exportCartridge :=
  requestCode_named rfl rfl
theorem RequestCodeIsNamed.clearChangerFault : RequestCodeIsNamed.Statement .clearChangerFault :=
  requestCode_named rfl rfl
theorem RequestCodeIsNamed.retestDrive : RequestCodeIsNamed.Statement .retestDrive :=
  requestCode_named rfl rfl
theorem RequestCodeIsNamed.unloadDrive : RequestCodeIsNamed.Statement .unloadDrive :=
  requestCode_named rfl rfl
theorem RequestCodeIsNamed.openSession : RequestCodeIsNamed.Statement .openSession :=
  requestCode_named rfl rfl
theorem RequestCodeIsNamed.beginObject : RequestCodeIsNamed.Statement .beginObject :=
  requestCode_named rfl rfl
theorem RequestCodeIsNamed.writeData : RequestCodeIsNamed.Statement .writeData :=
  requestCode_named rfl rfl
theorem RequestCodeIsNamed.endObject : RequestCodeIsNamed.Statement .endObject :=
  requestCode_named rfl rfl
theorem RequestCodeIsNamed.closeSession : RequestCodeIsNamed.Statement .closeSession :=
  requestCode_named rfl rfl
theorem RequestCodeIsNamed.startVerify : RequestCodeIsNamed.Statement .startVerify :=
  requestCode_named rfl rfl
theorem RequestCodeIsNamed.startRestore : RequestCodeIsNamed.Statement .startRestore :=
  requestCode_named rfl rfl
theorem RequestCodeIsNamed.readData : RequestCodeIsNamed.Statement .readData :=
  requestCode_named rfl rfl
theorem RequestCodeIsNamed.jobInfo : RequestCodeIsNamed.Statement .jobInfo :=
  requestCode_named rfl rfl
theorem RequestCodeIsNamed.abortJob : RequestCodeIsNamed.Statement .abortJob :=
  requestCode_named rfl rfl
theorem RequestCodeIsNamed.releaseJob : RequestCodeIsNamed.Statement .releaseJob :=
  requestCode_named rfl rfl
theorem RequestCodeIsNamed.startClean : RequestCodeIsNamed.Statement .startClean :=
  requestCode_named rfl rfl
theorem RequestCodeIsNamed.sessionInfo : RequestCodeIsNamed.Statement .sessionInfo :=
  requestCode_named rfl rfl
theorem RequestCodeIsNamed.extentInfo : RequestCodeIsNamed.Statement .extentInfo :=
  requestCode_named rfl rfl
theorem RequestCodeIsNamed.dropSession : RequestCodeIsNamed.Statement .dropSession :=
  requestCode_named rfl rfl
theorem RequestCodeIsNamed.loadExtent : RequestCodeIsNamed.Statement .loadExtent :=
  requestCode_named rfl rfl
theorem RequestCodeIsNamed.catalogInfo : RequestCodeIsNamed.Statement .catalogInfo :=
  requestCode_named rfl rfl
theorem RequestCodeIsNamed.frontDoorOpened : RequestCodeIsNamed.Statement .frontDoorOpened :=
  no_requestCode_named rfl
theorem RequestCodeIsNamed.frontDoorClosed : RequestCodeIsNamed.Statement .frontDoorClosed :=
  no_requestCode_named rfl
theorem RequestCodeIsNamed.mailSlotDoorOpened : RequestCodeIsNamed.Statement .mailSlotDoorOpened :=
  no_requestCode_named rfl
theorem RequestCodeIsNamed.mailSlotDoorClosed : RequestCodeIsNamed.Statement .mailSlotDoorClosed :=
  no_requestCode_named rfl
theorem RequestCodeIsNamed.magazineRemoved (m : Magazine) : RequestCodeIsNamed.Statement (.magazineRemoved m) :=
  no_requestCode_named rfl
theorem RequestCodeIsNamed.magazineInserted (m : Magazine) : RequestCodeIsNamed.Statement (.magazineInserted m) :=
  no_requestCode_named rfl
theorem RequestCodeIsNamed.entryStart (pickerSensed : Bool) :
    RequestCodeIsNamed.Statement (.entryStart pickerSensed) :=
  no_requestCode_named rfl
theorem RequestCodeIsNamed.travelArrival : RequestCodeIsNamed.Statement .travelArrival :=
  no_requestCode_named rfl
theorem RequestCodeIsNamed.gripDone (pickerSensed : Bool) (reads : LabelReads) :
    RequestCodeIsNamed.Statement (.gripDone pickerSensed reads) :=
  no_requestCode_named rfl
theorem RequestCodeIsNamed.insertDone : RequestCodeIsNamed.Statement .insertDone :=
  no_requestCode_named rfl
theorem RequestCodeIsNamed.placeBlocked : RequestCodeIsNamed.Statement .placeBlocked :=
  no_requestCode_named rfl
theorem RequestCodeIsNamed.axisStall : RequestCodeIsNamed.Statement .axisStall :=
  no_requestCode_named rfl
theorem RequestCodeIsNamed.stepTimerExpiry : RequestCodeIsNamed.Statement .stepTimerExpiry :=
  no_requestCode_named rfl
theorem RequestCodeIsNamed.retryDelayExpiry : RequestCodeIsNamed.Statement .retryDelayExpiry :=
  no_requestCode_named rfl
theorem RequestCodeIsNamed.homingComplete (pickerSensed : Bool) :
    RequestCodeIsNamed.Statement (.homingComplete pickerSensed) :=
  no_requestCode_named rfl
theorem RequestCodeIsNamed.spotCheckDone (present : Bool) : RequestCodeIsNamed.Statement (.spotCheckDone present) :=
  no_requestCode_named rfl
theorem RequestCodeIsNamed.scanSlotDone (present : Bool) (reads : LabelReads) :
    RequestCodeIsNamed.Statement (.scanSlotDone present reads) :=
  no_requestCode_named rfl
theorem RequestCodeIsNamed.heldMoveIssue : RequestCodeIsNamed.Statement .heldMoveIssue :=
  no_requestCode_named rfl
theorem RequestCodeIsNamed.presenceLost (d : Drive) : RequestCodeIsNamed.Statement (.presenceLost d) :=
  no_requestCode_named rfl
theorem RequestCodeIsNamed.presenceRise (d : Drive) : RequestCodeIsNamed.Statement (.presenceRise d) :=
  no_requestCode_named rfl
theorem RequestCodeIsNamed.mediaReport (d : Drive) (m : MediaSense) :
    RequestCodeIsNamed.Statement (.mediaReport d m) :=
  no_requestCode_named rfl
theorem RequestCodeIsNamed.selfTestResult (d : Drive) (r : SelfTestReport) :
    RequestCodeIsNamed.Statement (.selfTestResult d r) :=
  no_requestCode_named rfl
theorem RequestCodeIsNamed.selfTestTimeout (d : Drive) : RequestCodeIsNamed.Statement (.selfTestTimeout d) :=
  no_requestCode_named rfl
theorem RequestCodeIsNamed.loadComplete (d : Drive) (r : LoadReport) (cleanAsked : Bool) :
    RequestCodeIsNamed.Statement (.loadComplete d r cleanAsked) :=
  no_requestCode_named rfl
theorem RequestCodeIsNamed.locateComplete (d : Drive) (r : LocateReport) (cleanAsked : Bool) :
    RequestCodeIsNamed.Statement (.locateComplete d r cleanAsked) :=
  no_requestCode_named rfl
theorem RequestCodeIsNamed.locateEndComplete (d : Drive) (r : LocateEndReport) (cleanAsked : Bool) :
    RequestCodeIsNamed.Statement (.locateEndComplete d r cleanAsked) :=
  no_requestCode_named rfl
theorem RequestCodeIsNamed.readBlockComplete (d : Drive) (r : ReadReport) (cleanAsked : Bool) :
    RequestCodeIsNamed.Statement (.readBlockComplete d r cleanAsked) :=
  no_requestCode_named rfl
theorem RequestCodeIsNamed.writeBlockComplete (d : Drive) (r : WriteReport) (cleanAsked : Bool) :
    RequestCodeIsNamed.Statement (.writeBlockComplete d r cleanAsked) :=
  no_requestCode_named rfl
theorem RequestCodeIsNamed.writeEndMarkComplete (d : Drive) (r : EndMarkReport) (cleanAsked : Bool) :
    RequestCodeIsNamed.Statement (.writeEndMarkComplete d r cleanAsked) :=
  no_requestCode_named rfl
theorem RequestCodeIsNamed.unloadComplete (d : Drive) (r : PlainReport) (cleanAsked : Bool) :
    RequestCodeIsNamed.Statement (.unloadComplete d r cleanAsked) :=
  no_requestCode_named rfl
theorem RequestCodeIsNamed.cleanComplete (d : Drive) (r : PlainReport) (cleanAsked : Bool) :
    RequestCodeIsNamed.Statement (.cleanComplete d r cleanAsked) :=
  no_requestCode_named rfl
theorem RequestCodeIsNamed.operationTimeout (d : Drive) : RequestCodeIsNamed.Statement (.operationTimeout d) :=
  no_requestCode_named rfl
theorem RequestCodeIsNamed.cleanAdmissionRetry (d : Drive) : RequestCodeIsNamed.Statement (.cleanAdmissionRetry d) :=
  no_requestCode_named rfl
theorem RequestCodeIsNamed.idleReturnExpiry (d : Drive) : RequestCodeIsNamed.Statement (.idleReturnExpiry d) :=
  no_requestCode_named rfl
theorem RequestCodeIsNamed.pendingIdleReturn (d : Drive) : RequestCodeIsNamed.Statement (.pendingIdleReturn d) :=
  no_requestCode_named rfl
theorem RequestCodeIsNamed.coderGrant : RequestCodeIsNamed.Statement .coderGrant :=
  no_requestCode_named rfl
theorem RequestCodeIsNamed.encodingComplete : RequestCodeIsNamed.Statement .encodingComplete :=
  no_requestCode_named rfl
theorem RequestCodeIsNamed.writeBlockPresent (d : Drive) : RequestCodeIsNamed.Statement (.writeBlockPresent d) :=
  no_requestCode_named rfl
theorem RequestCodeIsNamed.carryPlacementResume (d : Drive) :
    RequestCodeIsNamed.Statement (.carryPlacementResume d) :=
  no_requestCode_named rfl
theorem RequestCodeIsNamed.catalogWaitResume : RequestCodeIsNamed.Statement .catalogWaitResume :=
  no_requestCode_named rfl
theorem RequestCodeIsNamed.readBlockPresent (d : Drive) : RequestCodeIsNamed.Statement (.readBlockPresent d) :=
  no_requestCode_named rfl
theorem RequestCodeIsNamed.decodingComplete : RequestCodeIsNamed.Statement .decodingComplete :=
  no_requestCode_named rfl
theorem RequestCodeIsNamed.substituteEntryAdd (job : Nat) : RequestCodeIsNamed.Statement (.substituteEntryAdd job) :=
  no_requestCode_named rfl

end Sys2Proof.Laws
end

