-- ==== Sys2Proof/Tests/Slice0.lean ====
section
/-! SUPPORT. Tests: ill-formed commands that WellFormed refuses, small steps checked against the spec's worked cases and
tables, and for each statement with hypotheses a state and operands that meet them all. -/

namespace Sys2Proof.Tests
open Sys2Proof.Machine

/-! ## Small states -/

/-- A frame with a tag. -/
def req (code : Byte) (payload : List Byte) : RequestFrame := { tag := 7#8, code := code, payload := payload }

/-- A state with one request waiting. -/
def asked (s : State) (code : Byte) (payload : List Byte) : State :=
  { s with link := { s.link with frames := [req code payload] } }

/-- The machine after reset with one request waiting. -/
def ask (code : Byte) (payload : List Byte) : State := asked State.reset code payload

theorem ask_requests (s : State) (code : Byte) (payload : List Byte) :
    (asked s code payload).requests (req code payload) code.toNat payload := ⟨rfl, rfl, rfl⟩

/-- After reset, but with the library changed. -/
def onLib (f : Lib → Lib) : State := { State.reset with lib := f resetLib }

/-- After reset, but SECURED. -/
def secured : State := onLib fun l => { l with mode := .secured, gateOpen := false }

/-- After reset, but with the changer changed. -/
def onCC (f : Changer → Changer) : State := onLib fun l => { l with cc := f l.cc }

/-- After reset, but with the port of D0 changed. -/
def onPort (f : Port → Port) : State := onLib fun l => { l with ports := { l.ports with d0 := f l.ports.d0 } }

/-- A cartridge of kind A in S1, OPEN, with its home. -/
def cart : CartRec :=
  { label := some [0x30#8, 0x30#8, 0x30#8, 0x30#8, 0x30#8, 0x31#8, 0x44#8, 0x41#8], kind := some .a, state := .opened,
    location := some (.slot 1), home := some 1, homeMagazine := some .left, pool := 0, claim := none,
    blocksUsed := .known 10, rawBytes := 0, codedBytes := 0, extentCount := 0, loadCount := 0, usesLeft := none,
    writeProtect := .no, lastSeen := 0, duplicateLabel := false, noEndMark := false }

/-- The Cartridge Table with a cartridge as record 0 and S1 holding it. -/
def tableWith (c : CartRec) : CartTable :=
  { resetCartTable with
      slots := { state := .occupied, holder := some 0, reservedFor := none } ::
        List.replicate 39 { state := .empty, holder := none, reservedFor := none },
      mail := { state := .empty, holder := none, reservedFor := none },
      carts := some c :: List.replicate 63 none }

/-- A library with the cartridge in S1. -/
def stocked (f : Lib → Lib) : State := onLib fun l => f { l with ct := tableWith cart }

/-- A job of a kind in a state, with its progress. -/
def jobOf (kind : JobKind) (state : JobState) (progress : Progress) (drive : Option Drive) (cartridge : Option Nat) : Job :=
  { id := 1, kind := kind, state := state, waitReason := none, seq := 1, drive := drive, cartridge := cartridge,
    stream := drive, sessionId := some 5, target := .pool 0, mountStep := none, progress := progress,
    resumePoint := none, kept := none, abortPending := false, yielding := false, result := none, ticket := none,
    mediaAsked := false, endAs := none, pins := [], cleaned := false }

/-- The settings a session takes at reset. -/
def snap : Snapshot := { mode := .auto, gain := 2, storedRun := 8, skip := 32 }

/-- A BACKUP's progress with an open object. -/
def backup : BackupData :=
  { startBackup snap true with
      objectsBegun := 1, openObject := some { object := 1, bytesAccepted := 0, snapshot := snap },
      coding := some (freshCoding snap) }

/-- A VERIFY's progress. -/
def verify : VerifyData :=
  { all := false, rebuild := false, selected := [5], extents := [], current := .known 5 0, expect := .frame 1 2,
    tally := zeroTally, totals := zeroTally, stray := 0, rebuilt := 0, conflicts := 0, endedVerified := 0,
    endedDamaged := 0, damageFound := false, skipped := [], entered := some 3, lastParsed := none,
    firstUnreadable := false, firstMoved := false }

/-- A RESTORE's progress. -/
def restore : RestoreData :=
  { W.startRestoreData [] 1 2 .substitute .none with nextObject := some 1, absent := 0, absentObjects := [] }

/-- A library with one job and the stream of its drive. -/
def working (j : Job) (s : Stream) (f : Lib → Lib) : State :=
  stocked fun l => f { l with
    js := { l.js with jobs := [j], claims := { l.js.claims with d0 := some 1 } },
    streams := { l.streams with d0 := { s with job := some 1 } } }

/-- A RUNNING BACKUP on S0. -/
def running (s : Stream) (f : Lib → Lib) : State :=
  working (jobOf .backup .running (.backup backup) (some .d0) (some 0)) s f

/-- A session record and an extent of it on record 0. -/
def sessionRec : SessionRec :=
  { id := 5, hostTag := List.replicate 8 0#8, state := .closed, origin := .written, pool := 0, codingMode := some .auto,
    objectsBegun := 2, chunkCount := 2, rawBytes := 0, codedBytes := 0, verifySummary := .unverified }

/-- See `sessionRec`. -/
def extentRec : ExtentRec :=
  { session := 5, sequence := 0, label := (cart.label).getD [], cartridge := 0, firstBlock := 0, blockCount := 10,
    firstObject := some 1, firstChunk := 0, lastObject := some 2, chunkFrames := 2, rawBytes := 0, codedBytes := 0,
    continued := false, continues := false, endMark := true, isOpen := false, verifyState := .unverified,
    damagedChunks := 0 }

/-- A catalog with them. -/
def catalog : Catalog := { sessions := [sessionRec], extents := [extentRec] }

/-- A chunk of an intake. -/
def chunk (st : ChunkState) (data : List Byte) : Chunk :=
  { state := st, session := 5, object := 1, index := 0, data := data, snapshot := snap, final := true, secureNow := false }

/-- A chunk frame. -/
def frame : Frame := encodeChunk snap .search (chunk .coding [0x41#8])

/-- The status of the reply a step leaves. -/
def status (o : Host.Outcome State Fault Refusal) : Option Status :=
  match o with
  | .next t => t.link.reply.map Reply.status
  | .fault _ => none
  | .refused _ => none

/-- The notices a step leaves queued. -/
def notices (o : Host.Outcome State Fault Refusal) : List Notice :=
  match o with
  | .next t => t.link.notices.map NoticeRec.notice
  | .fault _ => []
  | .refused _ => []

/-! ## Ill-formed commands -/

theorem test_illFormed_frameReceived : (Instr.frameReceived (List.replicate 4209 0#8)).wellFormed = false := by
  show decide ((List.replicate 4209 0#8).length ≤ 4208) = false
  rw [List.length_replicate]; decide
theorem test_illFormed_frameMalformed : (Instr.frameMalformed (List.replicate 4209 0#8)).wellFormed = false := by
  show decide ((List.replicate 4209 0#8).length ≤ 4208) = false
  rw [List.length_replicate]; decide
theorem test_illFormed_gripDone :
    (Instr.gripDone true { first := List.replicate 9 0#8, second := [] }).wellFormed = false := by decide
theorem test_illFormed_gripDone_second :
    (Instr.gripDone true { first := [], second := List.replicate 9 0#8 }).wellFormed = false := by decide
theorem test_illFormed_scanSlotDone :
    (Instr.scanSlotDone true { first := List.replicate 9 0#8, second := [] }).wellFormed = false := by decide
theorem test_illFormed_locateComplete : (Instr.locateComplete .d0 (.blank 6000001) false).wellFormed = false := by
  decide
theorem test_illFormed_locateEndComplete : (Instr.locateEndComplete .d0 (.ok 6000001) false).wellFormed = false := by
  decide
theorem test_illFormed_readBlockComplete :
    (Instr.readBlockComplete .d0 (.ok (List.replicate 65537 0#8)) false).wellFormed = false := by
  show decide ((List.replicate 65537 0#8).length ≤ 65536) = false
  rw [List.length_replicate]; decide
theorem test_illFormed_substituteEntryAdd_zero : (Instr.substituteEntryAdd 0).wellFormed = false := by decide
theorem test_illFormed_substituteEntryAdd_256 : (Instr.substituteEntryAdd 256).wellFormed = false := by decide

/-! ## Small steps -/

/-- Worked case of section 5.3: "ABABABABABC" is packed into six bytes. -/
theorem test_coder_packs_ABABABABABC :
    packedPayload [0x41#8, 0x42#8, 0x41#8, 0x42#8, 0x41#8, 0x42#8, 0x41#8, 0x42#8, 0x41#8, 0x42#8, 0x43#8] =
      [0x04#8, 0x41#8, 0x42#8, 0x28#8, 0x01#8, 0x43#8] := by decide

/-- R94: the CRC of no bytes is 0. -/
theorem test_crc_of_nothing : crc32c [] = 0#32 := by decide

/-- R145: T is 2,460,938 blocks for kind A and 5,906,250 for kind B. -/
theorem test_thresholds : thresholdOf (some .a) = 2460938 ∧ thresholdOf (some .b) = 5906250 := by decide

/-- R193: 3 lies between 2 and 5 and is nearer to 2; 12 is above the range of setting 14. -/
theorem test_clamp_delay : clampSetting 14 3 = 2 ∧ clampSetting 14 12 = 10 ∧ clampSetting 14 0 = 1 := by decide

/-- R186: SECURED refuses SCAN. -/
theorem test_scan_in_secured : status (exec .scan (asked secured 0x20#8 [1#8, 64#8])) = some .notInMode := by decide

/-- R185: the mode is judged before the payload, so a short SCAN in SECURED is refused by the mode. -/
theorem test_mode_before_form : status (exec .scan (asked secured 0x20#8 [])) = some .notInMode := by decide

/-- R41: 41 to 63 name no slot; M does not come before S1. -/
theorem test_scan_arguments :
    status (exec .scan (ask 0x20#8 [1#8, 41#8])) = some .noSuchElement ∧
      status (exec .scan (ask 0x20#8 [64#8, 1#8])) = some .badArgument := by decide

/-- R187: RESUME outside SECURED. -/
theorem test_resume_online : status (exec .resume (ask 0x04#8 [])) = some .wrongState := by decide

/-- R189: the first notice after a power-on reset is RESET DONE, and a power warning adds its own. -/
theorem test_power_warning_notice :
    notices (exec .powerWarningAsserted State.reset) = [.resetDone true .online, .powerWarning true] := by decide

/-- R36: the front door's opening queues DOOR. -/
theorem test_front_door_notice :
    notices (exec .frontDoorOpened State.reset) = [.resetDone true .online, .door true true] := by decide

/-- R196: the first byte of a kind-2 header with LAST. -/
theorem test_header_byte : (headerBytes frame.header).head? = some 0x12#8 := by decide

/-- R92: a chunk of one byte is stored, and its frame is 17 bytes. -/
theorem test_single_byte_is_stored : frame.header.kind = 2 ∧ frame.size = 17 := by decide

/-! ## Witnesses: the machine, the invariants, the requests -/

theorem witness_EmptyQueueLetsASecondPass : State.reset.pending = [] := rfl

/-- R53, R54 give a drive no such report: the port takes a free value and the machine goes on. -/
theorem test_report_beyond_goes_on :
    (∃ t, exec (.locateComplete .d0 (.blank 6000001) false) State.reset = .next t) ∧
      (∃ t, exec (.locateEndComplete .d0 (.ok 6000001) false) State.reset = .next t) ∧
      ∃ t, exec (.readBlockComplete .d0 (.ok (List.replicate 65537 0#8)) false) State.reset = .next t :=
  ⟨⟨_, rfl⟩, ⟨_, rfl⟩, ⟨_, rfl⟩⟩

theorem witness_SettlingRestsOnQuietStates : State.reset.work.nothingDue := ⟨rfl, rfl, rfl, Or.inl rfl⟩

/-- A state with a command waiting, for the statements about every step. -/
def waiting : State := { secured with pending := [.entryStart false] }

theorem witness_EveryStepKeepsTheLinkAndTheSettingsSound :
    waiting.link.Sound ∧ waiting.settings.Sound ∧ ∃ t, step waiting = .next t := by
  refine ⟨⟨trivial, by decide, by decide, by decide, by decide, by decide, by decide, by decide⟩, ⟨⟨rfl, ?_⟩, ?_, ?_⟩, _, rfl⟩
  · intro n h1 h2; interval_cases n <;> rfl
  · intro l h; cases h
  · intro l h; cases h

theorem witness_EveryStepKeepsTheTablesInBounds :
    waiting.lib.inBounds ∧ waiting.lib.TableSound ∧ ∃ t, step waiting = .next t :=
  ⟨⟨by decide, by decide, by decide, by decide, by decide, by decide, by decide⟩, ⟨rfl, rfl, rfl⟩, _, rfl⟩

theorem witness_EveryStepKeepsTheGateClosedWhileSecured : waiting.lib.Secure ∧ ∃ t, step waiting = .next t :=
  ⟨⟨fun _ => rfl, fun h => nomatch h⟩, _, rfl⟩

theorem waiting_carts (i : Nat) (c : CartRec) : waiting.lib.ct.carts[i]? ≠ some (some c) := by
  show (List.replicate 64 (none : Option CartRec))[i]? ≠ some (some c)
  rw [List.getElem?_replicate]
  split <;> simp

theorem waiting_slots (k : Nat) (r : SlotRec) (h : waiting.lib.ct.slots[k]? = some r) :
    r.holder = none ∧ r.reservedFor = none :=
  (show ∀ x ∈ waiting.lib.ct.slots, x.holder = none ∧ x.reservedFor = none by decide) r (List.mem_of_getElem? h)

theorem waiting_jobs : waiting.lib.js.jobs = [] := rfl
theorem waiting_catalog : waiting.lib.cg = { sessions := [], extents := [] } := rfl
theorem waiting_changer : waiting.lib.cc = resetChanger := rfl
theorem waiting_claims (d : Drive) : waiting.lib.js.claims.get d = none := by cases d <;> rfl
theorem waiting_stream (d : Drive) : waiting.lib.streams.get d = resetStream := by cases d <;> rfl
theorem waiting_port (d : Drive) : waiting.lib.ports.get d = resetPort := by cases d <;> rfl

theorem witness_EveryStepKeepsTheCartridgeLaw :
    waiting.lib.TableSound ∧ waiting.lib.ElementsSound ∧ waiting.lib.CartridgeLaw ∧ ∃ t, step waiting = .next t := by
  have none_ (i : Nat) (c : CartRec) (h : waiting.lib.ct.carts[i]? = some (some c)) : False := waiting_carts i c h
  have moves : waiting.lib.js.heldMoves = [] := rfl
  refine ⟨⟨rfl, rfl, rfl⟩, ⟨?_, ?_, ?_, ?_, ?_, ?_⟩, ⟨?_, ?_, ?_, ?_, ?_, ?_, ?_, ?_, ⟨rfl, ?_⟩, ?_, ?_⟩, _, rfl⟩
  · rw [waiting_changer]; intro m h; simp [resetChanger] at h
  · rw [waiting_changer]; intro m h; simp [resetChanger] at h
  · rw [waiting_changer]; intro x h; simp [resetChanger] at h
  · rw [moves]; intro m h; simp at h
  · rw [waiting_changer]; intro e h; simp [resetChanger] at h
  · rw [waiting_changer]; intro x h; simp [resetChanger] at h
  · exact fun i c h => (none_ i c h).elim
  · exact fun i c n h => (none_ i c h).elim
  · exact fun i c h => (none_ i c h).elim
  · exact fun i c d h => (none_ i c h).elim
  · exact fun i c h => (none_ i c h).elim
  · exact fun i c n h => (none_ i c h).elim
  · intro k r i h g; rw [(waiting_slots k r h).1] at g; cases g
  · intro k r i h g; rw [(waiting_slots k r h).2] at g; cases g
  · intro i h; exact nomatch (show (none : Option Nat) = some i from h)
  · intro d i h; rw [waiting_port] at h; simp [resetPort] at h
  · rw [waiting_changer]; intro i h; simp [resetChanger] at h

theorem witness_EveryStepKeepsTheClaimsLaw : waiting.lib.inBounds ∧ waiting.lib.ClaimsLaw := by
  refine ⟨witness_EveryStepKeepsTheTablesInBounds.1, ⟨?_, ?_, ?_, ?_, ?_, ?_, ?_, ?_, ?_⟩⟩
  · rw [waiting_jobs]; simp
  · intro d n h; rw [waiting_claims] at h; cases h
  · exact fun i c n h => (waiting_carts i c h).elim
  · intro d n h; rw [waiting_stream] at h; simp [resetStream] at h
  all_goals (try rw [waiting_jobs]; simp)
  · intro d; rw [waiting_stream]; exact ⟨rfl, rfl, rfl⟩

/-- A cartridge in D0, claimed by job 1, with no home. -/
def mountedCart : CartRec :=
  { cart with location := some (.drive .d0), home := none, homeMagazine := none, claim := some 1 }

/-- A RUNNING VERIFY on it. -/
def mountedJob : Job :=
  { jobOf .verify .running (.verify verify) (some .d0) (some 0) with target := .label ((cart.label).getD []) }

/-- The library that runs it: the changer idle, the cartridge in D0. -/
def mountedState : State :=
  { onLib fun l => { l with
      ct := { l.ct with carts := some mountedCart :: List.replicate 63 none },
      ports := { l.ports with d0 := { resetPort with state := .ready, cartridge := .cart 0 } },
      js := { l.js with jobs := [mountedJob], claims := { l.js.claims with d0 := some 1 } },
      streams := { l.streams with d0 := { resetStream with job := some 1 } } } with
    pending := [.identify] }

theorem mounted_carts {i : Nat} {c : CartRec} (h : mountedState.lib.ct.carts[i]? = some (some c)) :
    i = 0 ∧ c = mountedCart := by
  change (some mountedCart :: List.replicate 63 none)[i]? = some (some c) at h
  cases i with
  | zero => exact ⟨rfl, by simpa using h.symm⟩
  | succ n =>
    rw [List.getElem?_cons_succ, List.getElem?_replicate] at h
    split at h <;> simp at h

theorem mounted_slots {k : Nat} {r : SlotRec} (h : mountedState.lib.ct.slots[k]? = some r) :
    r.holder = none ∧ r.reservedFor = none :=
  (show ∀ x ∈ mountedState.lib.ct.slots, x.holder = none ∧ x.reservedFor = none by decide) r (List.mem_of_getElem? h)

theorem mounted_jobs {j : Job} (h : j ∈ mountedState.lib.js.jobs) : j = mountedJob := List.mem_singleton.mp h
theorem mounted_changer : mountedState.lib.cc = resetChanger := rfl

theorem mounted_elementsSound : mountedState.lib.ElementsSound := by
  refine ⟨?_, ?_, ?_, ?_, ?_, ?_⟩
  · rw [mounted_changer]; intro m h; simp [resetChanger] at h
  · rw [mounted_changer]; intro m h; simp [resetChanger] at h
  · rw [mounted_changer]; intro x h; simp [resetChanger] at h
  · intro m h; exact absurd h List.not_mem_nil
  · rw [mounted_changer]; intro e h; simp [resetChanger] at h
  · rw [mounted_changer]; intro x h; simp [resetChanger] at h

theorem mounted_cartridgeLaw : mountedState.lib.CartridgeLaw := by
  refine ⟨?_, ?_, ?_, ?_, ?_, ?_, ?_, ?_, ⟨rfl, ?_⟩, ?_, ?_⟩
  · intro i c h l; obtain ⟨-, rfl⟩ := mounted_carts h; cases l
  · intro i c n h l; obtain ⟨-, rfl⟩ := mounted_carts h; cases l
  · intro i c h l; obtain ⟨-, rfl⟩ := mounted_carts h; cases l
  · intro i c d h l; obtain ⟨rfl, rfl⟩ := mounted_carts h; cases l; rfl
  · intro i c h l; obtain ⟨-, rfl⟩ := mounted_carts h; cases l
  · intro i c n h _ l; obtain ⟨-, rfl⟩ := mounted_carts h; cases l
  · intro k r i h g; rw [(mounted_slots h).1] at g; cases g
  · intro k r i h g; rw [(mounted_slots h).2] at g; cases g
  · intro i h; exact nomatch (show (none : Option Nat) = some i from h)
  · intro d i h
    cases d with
    | d0 => cases h; exact ⟨mountedCart, rfl, rfl⟩
    | d1 => cases h
  · rw [mounted_changer]; intro i h; simp [resetChanger] at h

theorem mounted_claimsLaw : mountedState.lib.ClaimsLaw := by
  have inJobs : mountedJob ∈ mountedState.lib.js.jobs := List.mem_singleton.mpr rfl
  refine ⟨by decide, ?_, ?_, ?_, ?_, ?_, ?_, ?_, ?_⟩
  · intro d n h
    cases d with
    | d0 => cases h; exact ⟨_, inJobs, rfl, rfl, rfl⟩
    | d1 => cases h
  · intro i c n h g; obtain ⟨rfl, rfl⟩ := mounted_carts h; cases g; exact ⟨_, inJobs, rfl, rfl, rfl⟩
  · intro d n h
    cases d with
    | d0 => cases h; exact ⟨_, inJobs, rfl, rfl, rfl⟩
    | d1 => cases h
  · intro j h d g; rw [mounted_jobs h] at g ⊢; cases g; rfl
  · intro j h d g; rw [mounted_jobs h] at g ⊢; cases g; rfl
  · intro j h; rw [mounted_jobs h]
    refine ⟨?_, ?_, ?_, fun _ => rfl, List.nodup_nil⟩
    · rintro (h | h | ⟨h, -⟩) <;> cases h
    · intro h; cases h
    · intro h; cases h
  · intro j h; rw [mounted_jobs h]
    refine ⟨rfl, Or.inl rfl, fun _ => ⟨rfl, rfl⟩, fun _ => rfl, ?_, ?_, ?_⟩
    · rintro (h | h) <;> cases h
    · intro x r h; cases h
    · intro b x r h; cases h
  · intro d _; cases d <;> exact ⟨rfl, rfl, rfl⟩

/-- A RUNNING job with its cartridge at its drive, and a step taken there. -/
theorem witness_EveryStepKeepsTheClaimsLaw_mounted :
    mountedState.lib.inBounds ∧ mountedState.lib.TableSound ∧ mountedState.lib.ElementsSound ∧
      mountedState.lib.CartridgeLaw ∧ mountedState.lib.ClaimsLaw ∧ mountedState.lib.CartridgesAtDrives ∧
      mountedState.lib.ChangerKeepsOff ∧ (∃ j ∈ mountedState.lib.js.jobs, Job.isMounted j) ∧
      ∃ t, step mountedState = .next t := by
  refine ⟨⟨by decide, by decide, by decide, by decide, by decide, by decide, by decide⟩, ⟨rfl, rfl, rfl⟩,
    mounted_elementsSound, mounted_cartridgeLaw, mounted_claimsLaw, ?_, ?_,
    ⟨_, List.mem_singleton.mpr rfl, Or.inl (Or.inl rfl)⟩, _, rfl⟩
  · intro j h d i _ a b
    rw [mounted_jobs h] at a b
    cases a; cases b
    exact Or.inl ⟨mountedCart, rfl, rfl⟩
  · intro j _ d _ _
    rw [mounted_changer]
    exact ⟨fun m h => by simp [resetChanger] at h, fun x h => by simp [resetChanger] at h⟩

theorem witness_EveryStepKeepsTheCatalogLaw : waiting.lib.CatalogLaw := by
  constructor <;> simp [waiting_catalog, waiting_jobs]

theorem witness_FewCommandsChangeTheMode :
    (∃ t, exec .identify State.reset = .next t) ∧ (∀ p, Instr.identify ≠ .powerOnReset p) ∧
      Instr.identify ≠ .setMode ∧ Instr.identify ≠ .resume ∧ Instr.identify ≠ .resetController ∧
      Instr.identify ≠ .powerWarningAsserted ∧ Instr.identify ≠ .linkSilent ∧ Instr.identify ≠ .haltStreams ∧
      Instr.identify ≠ .resumeStream ∧ Instr.identify ≠ .powerWarningWithdrawn ∧ Instr.identify ≠ .frontDoorOpened ∧
      Instr.identify ≠ .frontDoorClosed ∧ Instr.identify ≠ .mailSlotDoorOpened ∧
      Instr.identify ≠ .mailSlotDoorClosed ∧ Instr.identify ≠ .magazineRemoved .left ∧
      Instr.identify ≠ .magazineInserted .left ∧ Instr.identify ≠ .magazineRemoved .right ∧
      Instr.identify ≠ .magazineInserted .right ∧ Instr.identify ≠ .presenceLost .d0 ∧
      Instr.identify ≠ .presenceRise .d0 ∧ Instr.identify ≠ .presenceLost .d1 ∧ Instr.identify ≠ .presenceRise .d1 ∧
      Instr.identify ≠ .setSetting ∧ (∀ b, Instr.identify ≠ .settingsSaveComplete b) ∧ Instr.identify ≠ .saveSettings :=
  ⟨⟨_, rfl⟩, nofun, nofun, nofun, nofun, nofun, nofun, nofun, nofun, nofun, nofun, nofun, nofun, nofun, nofun, nofun, nofun,
   nofun, nofun, nofun, nofun, nofun, nofun, nofun, nofun⟩

theorem witness_RequestsAreJudgedInOrder :
    ((ask 0x3F#8 []).link.frames.head? = some (req 0x3F#8 []) ∧ ∀ c : Instr, c.requestCode ≠ some (0x3F#8).toNat) ∧
    (Instr.scan.requestCode = some 0x20 ∧ (asked secured 0x20#8 [1#8, 64#8]).requests (req 0x20#8 [1#8, 64#8]) 0x20
        [1#8, 64#8] ∧ (asked secured 0x20#8 [1#8, 64#8]).lib.mode = .secured ∧
      0x20 ∈ [0x03, 0x06, 0x20, 0x24, 0x25, 0x26, 0x29, 0x40, 0x50, 0x51, 0x63]) ∧
    (Instr.setMode.requestCode = some 0x03 ∧ (ask 0x03#8 []).requests (req 0x03#8 []) 0x03 [] ∧
      ((ask 0x03#8 []).lib.mode = .secured → 0x03 ∉ [0x03, 0x06, 0x20, 0x24, 0x25, 0x26, 0x29, 0x40, 0x50, 0x51, 0x63]) ∧
      payloadFits 0x03 [] = false) :=
  ⟨⟨rfl, fun c => by cases c <;> simp [Instr.requestCode]⟩, ⟨rfl, ask_requests _ _ _, rfl, by decide⟩,
   rfl, ask_requests _ _ _, (fun h => nomatch h), rfl⟩

theorem witness_RequestsAreJudgedInOrder_noFrame :
    (Instr.identify.requestCode = some 0x01 ∧ ∀ f, State.reset.link.frames.head? = some f → f.code.toNat ≠ 0x01) ∧
      (∀ f, (ask 0x74#8 []).link.frames.head? = some f → ∃ b : Instr, b.requestCode = some f.code.toNat) :=
  ⟨⟨rfl, fun f h => nomatch h⟩, fun f h => ⟨.catalogInfo, by cases h; rfl⟩⟩

theorem witness_EveryRequestGetsOneReply :
    Instr.catalogInfo.requestCode = some 0x74 ∧ Instr.catalogInfo ≠ .resetController ∧
      (ask 0x74#8 []).requests (req 0x74#8 []) 0x74 (req 0x74#8 []).payload :=
  ⟨rfl, nofun, ask_requests _ _ _⟩

theorem witness_FramesJoinTheBufferOrAreRefused_good :
    (req 0x01#8 []).payload.length ≤ 4198 ∧ (req 0x01#8 (List.replicate 4198 0#8)).payload.length ≤ 4198 ∧
      State.reset.link.receiver = [] ∧ 0x7E#8 ∉ [0x51#8] ∧
      [0x51#8] ++ requestBytes (req 0x01#8 []) = [0x51#8] ++ requestBytes (req 0x01#8 []) :=
  ⟨by decide, by show (List.replicate 4198 0#8).length ≤ 4198; rw [List.length_replicate], rfl, by decide, rfl⟩

theorem witness_FramesJoinTheBufferOrAreRefused_malformed :
    State.reset.link.receiver = [] ∧ (0x00#8).toNat * 256 + (0x01#8).toNat < 2 ∧
      4200 < (0x10#8).toNat * 256 + (0x69#8).toNat ∧ (req 0x01#8 []).payload.length ≤ 4198 ∧
      [0#8, 0#8, 0#8, 0#8].length = 4 ∧
      [0#8, 0#8, 0#8, 0#8] ≠ (requestBytes (req 0x01#8 [])).drop (6 + (req 0x01#8 []).payload.length) ∧
      0x7E#8 ∉ [0x51#8, 0x00#8] :=
  ⟨rfl, by decide, by simp, by simp [req], rfl, by decide +kernel, by decide⟩

/-! ## Witnesses: the device -/

theorem witness_IdentityStatusAndNoticesAreReported :
    (ask 0x01#8 []).requests (req 0x01#8 []) 0x01 [] ∧ (ask 0x02#8 []).requests (req 0x02#8 []) 0x02 [] :=
  ⟨ask_requests _ _ _, ask_requests _ _ _⟩

theorem witness_IdentityStatusAndNoticesAreReported_fetched : (ask 0x08#8 []).requests (req 0x08#8 []) 0x08 [] := ask_requests _ _ _

theorem witness_SettingsAreSetReadAndSaved :
    (ask 0x09#8 [16#8, 0#8, 15#8]).requests (req 0x09#8 [16#8, 0#8, 15#8]) 0x09 [16#8, 0#8, 15#8] ∧
      (ask 0x0A#8 [17#8]).requests (req 0x0A#8 [17#8]) 0x0A [17#8] ∧
      (16, 1, 15) ∈ [(1, 0, 15), (2, 1, 64), (3, 1, 255), (4, 1, 3), (5, 1, 2), (6, 1, 2), (7, 0, 3600), (8, 0, 255),
        (9, 1, 2), (15, 0, 7), (16, 1, 15)] ∧
      10 ∈ [1, 2, 5, 10] ∧ ((3 - clampSetting 14 3) + (clampSetting 14 3 - 3) = (3 - 2) + (2 - 3)) ∧
      (10 ≤ 13 ∧ 13 ≤ 13 ∧ 1 ≤ 3 ∧ 3 ≤ 3) ∧ (1 ≤ 16 ∧ 16 ≤ 16) :=
  ⟨ask_requests _ _ _, ask_requests _ _ _, by decide, by decide, by decide, by decide, by decide⟩

/-- A save in progress, and a request waiting. -/
def saving (code : Byte) (payload : List Byte) : State :=
  { ask code payload with settings := { State.reset.settings with saving := some factorySettings } }

theorem witness_SettingsAreSetReadAndSaved_saved :
    (ask 0x0B#8 []).requests (req 0x0B#8 []) 0x0B [] ∧
      ((saving 0x09#8 [7#8, 0#8, 0#8]).settings.saving = some factorySettings ∧
        (saving 0x09#8 [7#8, 0#8, 0#8]).requests (req 0x09#8 [7#8, 0#8, 0#8]) 0x09 [7#8, 0#8, 0#8]) :=
  ⟨ask_requests _ _ _, rfl, ⟨rfl, rfl, rfl⟩⟩

/-- A HELD VERIFY on D0. -/
def heldVerify : State := working (jobOf .verify .held (.verify verify) (some .d0) (some 0)) resetStream id

theorem witness_ModesChangeOnRequest :
    ((ask 0x03#8 [1#8]).requests (req 0x03#8 [1#8]) 0x03 [1#8] ∧ (ask 0x03#8 [1#8]).lib.mode ≠ .secured) ∧
    ((ask 0x04#8 []).requests (req 0x04#8 []) 0x04 [] ∧ (ask 0x04#8 []).lib.mode ≠ .secured) ∧
    ((asked secured 0x04#8 []).requests (req 0x04#8 []) 0x04 [] ∧ (asked secured 0x04#8 []).lib.mode = .secured ∧
      (asked secured 0x04#8 []).lib.pins.powerWarning = false) ∧
    (onLib fun l => { l with mode := .secured, pins := { l.pins with powerWarning := true } }).lib.pins.powerWarning =
      true ∧
    (∃ j, heldVerify.work.job 1 = some j ∧ j.state = .held ∧ j.stream = some .d0 ∧ W.jobTodo j = [] ∧ j.waitReason = none ∧
      (heldVerify.work.stream .d0).nextRead = none) ∧
    (∃ (s : State) (j : Job), s.work.job 1 = some j ∧ j.state = .running ∧ j.stream = some .d0 ∧ W.jobTodo j = [] ∧
      j.waitReason = none ∧ (s.work.stream .d0).stopping = some .hold ∧ (s.work.stream .d0).seek = none ∧
      (s.work.stream .d0).news = none ∧ (s.work.stream .d0).nextRead = some 7 ∧ (s.work.port .d0).position = none) :=
  ⟨⟨ask_requests _ _ _, nofun⟩, ⟨ask_requests _ _ _, nofun⟩, ⟨ask_requests _ _ _, rfl, rfl⟩, rfl,
   ⟨_, rfl, rfl, rfl, rfl, rfl, rfl⟩,
   ⟨working (jobOf .verify .running (.verify verify) (some .d0) (some 0))
      { resetStream with stopping := some .hold, nextRead := some 7 } id, _, rfl, rfl, rfl, rfl, rfl, rfl, rfl, rfl, rfl, rfl⟩⟩

theorem witness_HaltWarningAndSilenceStopTheStreams_halt :
    (ask 0x05#8 []).requests (req 0x05#8 []) 0x05 [] ∧ ∃ t, exec .haltStreams (ask 0x05#8 []) = .next t :=
  ⟨ask_requests _ _ _, _, rfl⟩

theorem witness_ResumeStreamSetsOneEnable :
    ((asked secured 0x06#8 [0#8]).requests (req 0x06#8 [0#8]) 0x06 [0#8] ∧
      (asked secured 0x06#8 [0#8]).lib.mode = .secured) ∧
    ((ask 0x06#8 [2#8]).requests (req 0x06#8 [2#8]) 0x06 [2#8] ∧ (ask 0x06#8 [2#8]).lib.mode ≠ .secured ∧
      1 < (2#8).toNat) ∧
    ((ask 0x06#8 [1#8]).requests (req 0x06#8 [1#8]) 0x06 [1#8] ∧ (ask 0x06#8 [1#8]).lib.mode ≠ .secured ∧
      (1#8).toNat ≤ 1) ∧
    ((asked secured 0x04#8 []).requests (req 0x04#8 []) 0x04 [] ∧ (asked secured 0x04#8 []).lib.mode = .secured ∧
      (asked secured 0x04#8 []).lib.pins.powerWarning = false ∧ ∃ t, exec .resume (asked secured 0x04#8 []) = .next t) :=
  ⟨⟨ask_requests _ _ _, rfl⟩, ⟨ask_requests _ _ _, nofun, by decide⟩, ⟨ask_requests _ _ _, nofun, by decide⟩,
   ask_requests _ _ _, rfl, rfl, _, rfl⟩

theorem witness_HaltWarningAndSilenceStopTheStreams :
    State.reset.lib.pins.powerWarning = false ∧
      (onLib fun l => { l with pins := { l.pins with powerWarning := true } }).lib.pins.powerWarning = true ∧
      ({ State.reset with link := { State.reset.link with silence := some 0 } } : State).link.silence = some 0 ∧
      ∃ j, heldVerify.work.job 1 = some j :=
  ⟨rfl, rfl, rfl, _, rfl⟩

/-- A BACKUP that writes an extent. -/
def writer : Job := jobOf .backup .running (.backup { backup with extentOpen := true }) (some .d0) (some 0)

theorem witness_ControllerResetEmptiesTheBlocks :
    let s := asked (working writer resetStream fun l => { l with cg :=
      { sessions := [{ sessionRec with state := .opened }], extents := [{ extentRec with isOpen := true }] } }) 0x07#8 []
    s.requests (req 0x07#8 []) 0x07 [] ∧ (s.lib.cg.sessions.map SessionRec.id).Nodup ∧
      (s.lib.cg.extents.map fun e => (e.session, e.sequence)).Nodup ∧
      (writer ∈ s.lib.js.jobs ∧ writer.state.isFinished = false ∧
        writer.progress = .backup { backup with extentOpen := true } ∧ writer.cartridge = some 0 ∧
        s.work.cart 0 = some cart ∧ ∀ k ∈ s.lib.js.jobs, k.cartridge = some 0 → k = writer) ∧
      ((stocked id).work.cart 0 = some cart ∧ ∀ k ∈ (stocked id).lib.js.jobs, k.cartridge ≠ some 0) :=
  ⟨ask_requests _ _ _, by decide, by decide,
   ⟨List.mem_singleton.mpr rfl, rfl, rfl, rfl, rfl, fun k h _ => List.mem_singleton.mp h⟩, rfl,
   fun k h => absurd h List.not_mem_nil⟩

/-- The same reset where a drive holds a cartridge, the only one recorded there. -/
theorem witness_ControllerResetEmptiesTheBlocks_port :
    (asked mountedState 0x07#8 []).requests (req 0x07#8 []) 0x07 [] ∧
      (asked mountedState 0x07#8 []).lib.ports.d0.cartridge = .cart 0 ∧
      (asked mountedState 0x07#8 []).work.cart 0 = some mountedCart ∧ mountedCart.location = some (.drive .d0) ∧
      ∀ k r, (asked mountedState 0x07#8 []).work.cart k = some r → r.location = some (.drive .d0) → k = 0 := by
  refine ⟨ask_requests _ _ _, rfl, rfl, rfl, fun k r h _ => ?_⟩
  change (some mountedCart :: List.replicate 63 none).getD k none = some r at h
  cases k with
  | zero => rfl
  | succ n =>
    rw [List.getD_eq_getElem?_getD, List.getElem?_cons_succ, List.getElem?_replicate] at h
    split at h <;> simp at h

/-! ## Witnesses: the inventory and the changer -/

theorem witness_TheInventoryIsReportedAndEdited :
    (ask 0x21#8 [64#8]).requests (req 0x21#8 [64#8]) 0x21 [64#8] ∧
    ((asked (stocked id) 0x22#8 (0#8 :: (cart.label).getD [])).requests (req 0x22#8 (0#8 :: (cart.label).getD [])) 0x22
        (0#8 :: (cart.label).getD []) ∧ ((cart.label).getD []).length = 8 ∧
      (stocked id).work.cartByLabel ((cart.label).getD []) = some 0 ∧ (stocked id).work.cart 0 = some cart) ∧
    State.reset.work.cartByLabel ((cart.label).getD []) = none ∧
    (ask 0x22#8 [1#8, 63#8]).requests (req 0x22#8 [1#8, 63#8]) 0x22 [1#8, 63#8] ∧
    ((ask 0x22#8 [2#8]).requests (req 0x22#8 [2#8]) 0x22 [2#8] ∧ 1 < (2#8).toNat) ∧
    (asked (stocked id) 0x23#8 [0#8, 1#8, 7#8]).requests (req 0x23#8 [0#8, 1#8, 7#8]) 0x23 [0#8, 1#8, 7#8] :=
  ⟨ask_requests _ _ _, ⟨ask_requests _ _ _, rfl, by decide, rfl⟩, by decide, ask_requests _ _ _,
   ⟨ask_requests _ _ _, by decide⟩, ask_requests _ _ _⟩

theorem witness_EntriesAreQueued :
    ((ask 0x20#8 [1#8, 64#8]).requests (req 0x20#8 [1#8, 64#8]) 0x20 [1#8, 64#8] ∧
      (ask 0x20#8 [1#8, 64#8]).lib.mode ≠ .secured ∧ ((1 ≤ (1#8).toNat ∧ (1#8).toNat ≤ 40) ∨ (1#8).toNat = 64) ∧
      ((1 ≤ (64#8).toNat ∧ (64#8).toNat ≤ 40) ∨ (64#8).toNat = 64) ∧ (1#8).toNat ≤ (64#8).toNat) ∧
    ((ask 0x20#8 [64#8, 40#8]).requests (req 0x20#8 [64#8, 40#8]) 0x20 [64#8, 40#8] ∧
      (ask 0x20#8 [64#8, 40#8]).lib.mode ≠ .secured ∧ (40#8).toNat < (64#8).toNat) ∧
    ((ask 0x20#8 [0#8, 41#8]).requests (req 0x20#8 [0#8, 41#8]) 0x20 [0#8, 41#8] ∧
      ¬(((1 ≤ (0#8).toNat ∧ (0#8).toNat ≤ 40) ∨ (0#8).toNat = 64) ∧
        ((1 ≤ (41#8).toNat ∧ (41#8).toNat ≤ 40) ∨ (41#8).toNat = 64))) ∧
    ((ask 0x24#8 (1#8 :: 64#8 :: List.replicate 8 0#8)).requests (req 0x24#8 (1#8 :: 64#8 :: List.replicate 8 0#8)) 0x24
        (1#8 :: 64#8 :: List.replicate 8 0#8) ∧ (List.replicate 8 0#8).length = 8 ∧
      elementOfByte (1#8).toNat = some (.slot 1) ∧ elementOfByte (64#8).toNat = some .mail ∧ Element.slot 1 ≠ .mail ∧
      (∀ i, State.reset.work.contentsAt (.slot 1) = .cart i → State.reset.work.claimOf i = none) ∧
      elementOfByte (41#8).toNat = none ∧ elementOfByte (65#8).toNat = some (.drive .d0) ∧
      (ask 0x24#8 []).lib.mode = .online) ∧
    ((ask 0x25#8 [7#8]).requests (req 0x25#8 [7#8]) 0x25 [7#8] ∧ [7#8].length ≤ 1 ∧
      State.reset.lib.ct.mail.state ≠ .occupied) ∧
    (∃ s : State, s.requests (req 0x25#8 []) 0x25 [] ∧ s.lib.mode ≠ .secured ∧ s.lib.ct.mail.state = .occupied ∧
      s.lib.ct.mail.holder = some 0) ∧
    (∃ s : State, s.requests (req 0x26#8 [1#8, 1#8]) 0x26 [1#8, 1#8] ∧ s.lib.mode ≠ .secured ∧
      elementOfByte (1#8).toNat = some (.slot 1) ∧ Element.slot 1 ≠ .mail ∧
      (s.work.slotAt (.slot 1)).state = .occupied ∧ ∀ i, s.work.contentsAt (.slot 1) = .cart i → s.work.claimOf i = none) ∧
    (∃ s : State, s.requests (req 0x26#8 (0#8 :: (cart.label).getD [])) 0x26 (0#8 :: (cart.label).getD []) ∧
      (s.work.cartByLabel ((cart.label).getD [])).bind s.work.locationOf = some (.slot 1)) ∧
    ((ask 0x26#8 [1#8, 64#8]).requests (req 0x26#8 [1#8, 64#8]) 0x26 [1#8, 64#8] ∧
      (elementOfByte (64#8).toNat = none ∨ 64#8 = 64#8)) ∧
    (State.reset.work.cartByLabel ((cart.label).getD [])).bind State.reset.work.locationOf = none ∧
    (∃ (s : State) (m : HeldMove), s.lib.js.heldMoves = [m]) ∧ State.reset.lib.js.heldMoves = [] := by
  refine ⟨⟨ask_requests _ _ _, nofun, by decide, by decide, by decide⟩, ⟨ask_requests _ _ _, nofun, by decide⟩,
    ⟨ask_requests _ _ _, by decide⟩, ⟨ask_requests _ _ _, rfl, rfl, rfl, nofun, ?_, rfl, rfl, rfl⟩,
    ⟨ask_requests _ _ _, by decide, nofun⟩,
    ⟨asked (stocked fun l => { l with ct := { l.ct with mail := { state := .occupied, holder := some 0, reservedFor := none } } })
      0x25#8 [], ask_requests _ _ _, nofun, rfl, rfl⟩,
    ⟨asked (stocked id) 0x26#8 [1#8, 1#8], ask_requests _ _ _, nofun, rfl, nofun, rfl, ?_⟩,
    ⟨asked (stocked id) 0x26#8 (0#8 :: (cart.label).getD []), ask_requests _ _ _, rfl⟩,
    ⟨ask_requests _ _ _, Or.inr rfl⟩, by decide,
    ⟨onLib fun l => { l with js := { l.js with heldMoves :=
        [{ origin := .returned, source := .drive .d0, asked := .home, expectedLabel := none, ticket := 1, cart := none }] } },
      _, rfl⟩, rfl⟩
  · intro i h; cases h
  · intro i h; cases h; rfl

theorem witness_TheFrontDoorAndAClearedFaultHomeTheChanger_cleared :
    (ask 0x27#8 []).requests (req 0x27#8 []) 0x27 [] ∧ (ask 0x27#8 []).lib.cc.state ≠ .faultHold ∧
      (ask 0x27#8 []).lib.cc.state ≠ .locked ∧
      (asked (onCC fun c => { c with state := .locked }) 0x27#8 []).requests (req 0x27#8 []) 0x27 [] ∧
      (asked (onCC fun c => { c with state := .locked }) 0x27#8 []).lib.cc.state = .locked :=
  ⟨ask_requests _ _ _, nofun, nofun, ask_requests _ _ _, rfl⟩

/-- A REQUESTED move from S1. -/
def move (dest : Option Element) : Move :=
  { id := 1, origin := .requested, source := .slot 1, asked := .element .mail, dest := dest, expectedLabel := none,
    attempts := 0, faulted := false, putAway := none, tried := [], ticket := 0, cart := some 0 }

/-- The changer at a step of a move, with the cartridge in S1. -/
def moving (x : Step) (st : ChangerState) (dest : Option Element) (picker : Contents) : State :=
  stocked fun l => { l with cc := { l.cc with
    state := st, step := some x, stepTimer := some 20, current := some (.move (move dest)), picker := picker,
    pickedFrom := if picker = .none then none else some (.slot 1), homingFor := .toIdle } }

theorem witness_TheFrontDoorAndAClearedFaultHomeTheChanger :
    State.reset.lib.pins.frontDoorOpen = false ∧ State.reset.lib.cc.closing = false ∧
      (onCC fun c => { c with state := .idle, step := none, stepTimer := none }).lib.cc.state = .idle ∧
      (onCC fun c => { c with closing := true }).lib.cc.closing = true ∧
      ((moving .grip .grip (some .mail) .none).lib.cc.step = some .grip ∧ Step.grip ∈ [Step.travel, .grip, .travelLoaded, .place] ∧
        (moving .grip .grip (some .mail) .none).lib.cc.state = W.stateOfStep .grip) ∧
      (onCC fun c => { c with state := .faultHold }).lib.cc.state = .faultHold ∧
      (onLib fun l => { l with pins := { l.pins with frontDoorOpen := true } }).lib.pins.frontDoorOpen = true := by
  decide

theorem witness_MailDoorAndMagazinesAreNoted :
    State.reset.lib.pins.mailDoorOpen = false ∧
      (onLib fun l => { l with pins := { l.pins with mailDoorOpen := true } }).lib.pins.mailDoorOpen = true ∧
      State.reset.work.magazinePresent .right = true ∧ State.reset.lib.ct.slots.length = 40 ∧
      ((stocked id).work.slotAt (.slot 1)).holder = some 0 ∧ (stocked id).work.locationOf 0 = some (.slot 1) ∧
      ((stocked id).work.slotAt (.slot 1)).reservedFor = none ∧
      40 ∉ slotsOf .left ∧ (State.reset.work.slotAt (.slot 40)).reservedFor = none ∧
      (onLib fun l => { l with pins := { l.pins with magazineLeft := false } }).work.magazinePresent .left = false ∧
      (let s := stocked fun l => { l with pins := { l.pins with magazineLeft := false } }
       s.work.magazinePresent .left = false ∧ s.lib.ct.slots.length = 40 ∧ 1 ∈ slotsOf .left ∧
        (s.work.slotAt (.slot 1)).holder = some 0 ∧ s.work.locationOf 0 = some (.slot 1) ∧
        (s.work.slotAt (.slot 1)).reservedFor = none) := by
  decide

theorem witness_MovesAreValidatedInOrder :
    (move (some .mail)).source = .slot 1 ∧ (stocked id).work.cc.picker = .none ∧
      ((stocked id).work.slotAt (.slot 1)).state = .occupied ∧
      (moving .travel .travel none (.cart 0)).work.cc.picker ≠ .none ∧
      (State.reset.work.slotAt (.slot 1)).state ≠ .occupied ∧ (move (some .mail)).expectedLabel = none ∧
      ¬(match (move (some .mail)).origin, (stocked id).work.claimOf 0 with
        | .requested, some _ => True
        | .job k, some c => c ≠ k
        | _, _ => False) ∧
      ((moving .place .place none (.cart 0)).work.cc.picker = .cart 0 ∧
        (moving .place .place none (.cart 0)).work.cc.pickedFrom = some (.slot 1)) ∧
      (onCC fun c => { c with picker := .untracked }).work.cc.picker = .untracked := by
  refine ⟨rfl, rfl, rfl, nofun, nofun, rfl, ?_, ⟨rfl, rfl⟩, rfl⟩
  exact fun h => h

theorem witness_EntriesStartInIdle :
    State.reset.lib.cc.state ≠ .idle ∧
    (∃ (s : State) (x : Scan), s.lib.cc.state = .idle ∧ s.lib.cc.scanEntry = some x ∧ x.range = [.slot 40] ∧
      s.lib.cc.closeScan = none ∧ s.work.magazinePresent (magazineOf 40) = true) ∧
    (∃ s : State, s.lib.cc.state = .idle ∧ s.lib.cc.scanEntry = none ∧ s.lib.cc.queue = [move none] ∧
      s.lib.ct.mailDoorOpen = false ∧ (move none).origin ≠ .recovery ∧
      s.work.validate { move none with dest := s.work.resolveDest (move none) } = none ∧ (move none).faulted = false ∧
      s.lib.cc.faultRun < settingOf s.settings.working 16) ∧
    (∃ s : State, s.lib.cc.state = .idle ∧ s.lib.cc.queue = [move none] ∧
      s.work.validate { move none with dest := s.work.resolveDest (move none) } = some .sourceEmpty) ∧
    (∃ (s : State) (m : Move), s.lib.cc.queue = [m] ∧ m.origin = .recovery ∧ s.lib.cc.picker ≠ .none ∧
      W.recoveryChain { s.work with cc := { s.lib.cc with queue := [] } } = some .mail) ∧
    (∃ s : State, s.lib.cc.state = .idle ∧ s.lib.cc.scanEntry = none ∧ s.lib.cc.queue = []) := by
  refine ⟨nofun, ⟨onCC fun c => { c with state := .idle, scanEntry := some ⟨1, [.slot 40], [], 0, none, false⟩ }, _, rfl, rfl,
      rfl, rfl, rfl⟩,
    ⟨stocked fun l => { l with cc := { l.cc with state := .idle, queue := [move none] } }, rfl, rfl, rfl, rfl, nofun, rfl,
      rfl, by decide⟩,
    ⟨onCC fun c => { c with state := .idle, queue := [move none] }, rfl, rfl, rfl⟩,
    ⟨stocked fun l => { l with cc := { l.cc with picker := .untracked, queue := [{ move none with origin := .recovery }] } },
      _, rfl, rfl, nofun, rfl⟩,
    ⟨onCC fun c => { c with state := .idle }, rfl, rfl, rfl⟩⟩

/-- The changer in IDLE with the left magazine out, a scan entry waiting. -/
def scanOut (range : List Element) (mailOpen : Bool) : State :=
  onLib fun l => { l with
    pins := { l.pins with magazineLeft := false },
    ct := { l.ct with
      mailDoorOpen := mailOpen,
      slots := List.replicate 20 { state := .noMagazine, holder := none, reservedFor := none } ++
        List.replicate 20 { state := .empty, holder := none, reservedFor := none } },
    cc := { l.cc with state := .idle, scanEntry := some ⟨1, range, [], 0, none, false⟩ } }

theorem witness_EntriesStartInIdle_scan :
    (let s := scanOut [.slot 20, .slot 21] false
     s.lib.cc.state = .idle ∧ s.lib.cc.scanEntry.map Scan.range = some ([20].map Element.slot ++ Element.slot 21 :: []) ∧
      s.lib.cc.closeScan = none ∧
      (∀ k ∈ [20], 1 ≤ k ∧ k ≤ s.lib.ct.slots.length ∧ s.work.magazinePresent (magazineOf k) = false ∧
        s.work.slotAt (.slot k) = { state := .noMagazine, holder := none, reservedFor := none }) ∧
      s.work.magazinePresent (magazineOf 21) = true) ∧
    (let s := scanOut [.slot 1, .mail] true
     s.lib.cc.scanEntry.map Scan.range = some ([1].map Element.slot ++ [Element.mail]) ∧ s.lib.ct.mailDoorOpen = true ∧
      s.lib.cc.scanEntry.map Scan.faulted = some false ∧ 1 ≤ settingOf s.settings.working 16) ∧
    (let s := stocked fun l =>
       { l with ct := { l.ct with mailDoorOpen := true }, cc := { l.cc with state := .idle, queue := [move none] } }
     s.lib.cc.state = .idle ∧ s.lib.cc.scanEntry = none ∧ s.lib.cc.queue = [move none] ∧
      (move none).asked = .element .mail ∧ s.lib.ct.mailDoorOpen = true) := by
  decide

theorem witness_AMoveIsCarriedOut :
    ((moving .travel .travel (some .mail) .none).lib.cc.stepTimer.isSome = true ∧
      (moving .travel .travel (some .mail) .none).lib.cc.step = some .travel ∧
      (moving .travel .travel (some .mail) .none).lib.cc.state = .travel) ∧
    ((moving .travelLoaded .travelLoaded (some .mail) (.cart 0)).lib.cc.step = some .travelLoaded ∧
      (moving .travelLoaded .travelLoaded (some .mail) (.cart 0)).lib.cc.state = .travelLoaded) ∧
    (let s := moving .grip .grip (some .mail) .none
     s.lib.cc.stepTimer.isSome = true ∧ s.lib.cc.step = some .grip ∧ s.lib.cc.state = .grip ∧
      s.lib.cc.current = some (.move (move (some .mail))) ∧ (move (some .mail)).source = .slot 1 ∧
      s.work.cart 0 = some cart ∧ cart.location = some (.slot 1) ∧ (s.work.slotAt (.slot 1)).holder = some 0 ∧
      s.lib.cc.picker = .none ∧ cart.label.isSome = true ∧ cart.home = some 1 ∧ 1 - 1 < s.lib.ct.slots.length ∧
      (move (some .mail)).tried.contains (.slot 1) = false) ∧
    (let s := moving .place .place (some (.slot 40)) (.cart 0)
     s.lib.cc.stepTimer.isSome = true ∧ s.lib.cc.step = some .place ∧
      s.lib.cc.current = some (.move (move (some (.slot 40)))) ∧ s.lib.cc.picker = .cart 0 ∧ s.work.cart 0 = some cart ∧
      1 ≤ 40 ∧ 40 ≤ s.lib.ct.slots.length ∧ (s.work.slotAt (.slot 40)).reservedFor = none) ∧
    (let s := moving .place .place (some (.drive .d0)) (.cart 0)
     s.lib.cc.current = some (.move (move (some (.drive .d0)))) ∧ (s.work.port .d0).cartridge = .none) ∧
    (onPort fun p => { p with state := .empty, selfTest := none }).work.port .d0 =
      { resetPort with state := .empty, selfTest := none } ∧
    (moving .place .place (some .mail) (.cart 0)).lib.cc.current = some (.move (move (some .mail))) := by
  decide

theorem witness_FaultsAreRetriedOrHeld :
    (let s := moving .place .place (some .mail) (.cart 0)
     s.lib.cc.stepTimer.isSome = true ∧ s.lib.cc.step = some .place ∧ s.lib.cc.state = W.stateOfStep .place ∧
      s.lib.cc.current = some (.move (move (some .mail))) ∧ s.lib.cc.closing = false ∧ s.lib.cc.held = none ∧
      settingOf s.settings.working 10 = 1 ∧ (move (some .mail)).attempts < settingOf s.settings.working 15 ∧
      settingOf s.settings.working 12 = 2) ∧
    (let s : State := { moving .grip .grip (some .mail) .none with
       settings := { State.reset.settings with working := factorySettings.set 10 1 } }
     s.lib.cc.stepTimer.isSome = true ∧ s.lib.cc.step = some .grip ∧ s.lib.cc.state = .grip ∧
      s.lib.cc.current = some (.move (move (some .mail))) ∧ settingOf s.settings.working 11 = 1 ∧
      (move (some .mail)).attempts < settingOf s.settings.working 15) ∧
    (State.reset.lib.cc.step = some .homing ∧ State.reset.lib.cc.state = .homing ∧
      settingOf State.reset.settings.working 10 = 1 ∧
      State.reset.lib.cc.homingAttempts < settingOf State.reset.settings.working 15) ∧
    (onCC fun c => { c with state := .retryWait }).lib.cc.state = .retryWait := by
  decide

theorem witness_FaultsAreRetriedOrHeld_held :
    (let s : State := { moving .grip .grip (some .mail) .none with
       settings := { State.reset.settings with working := factorySettings.set 10 2 } }
     s.lib.cc.step = some .grip ∧ s.lib.cc.state = .grip ∧ s.lib.cc.closing = false ∧ s.lib.cc.held = none ∧
      settingOf s.settings.working 11 = 2) ∧
    settingOf (moving .grip .grip (some .mail) .none).settings.working 11 = 3 ∧
    { move none with source := .drive .d0 }.source = .drive .d0 ∧
    (let s := onCC fun c => { c with homingFor := .settleHeld, current := some (.move (move none)) }
     s.lib.cc.step = some .homing ∧ s.lib.cc.state = .homing ∧ s.lib.cc.homingFor = .settleHeld ∧
      s.lib.cc.closing = false ∧ s.lib.cc.current = some (.move (move none)) ∧ settingOf s.settings.working 10 = 1 ∧
      (move none).attempts < settingOf s.settings.working 15) ∧
    (onCC fun c => { c with homingFor := .settleHeld, closing := true }).lib.cc.closing = true ∧
    (let s := onCC fun c => { c with homingFor := .continueScan, current := some (.scan ⟨1, [], [], 0, none, false⟩) }
     s.lib.cc.homingFor = .continueScan ∧ s.lib.cc.closeScan = none) ∧
    (let s := onCC fun c => { c with homingFor := .continueScan, closeScan := some ⟨1, [], [], 0, none, false⟩ }
     s.lib.cc.homingFor = .continueScan ∧ s.lib.cc.closeScan.map Scan.attempts = some 0) ∧
    (let s := onCC fun c => { c with homingFor := .powerOn, homingAttempts := 3 }
     s.lib.cc.homingFor ∈ [HomingFor.toIdle, .powerOn, .reset, .pickerRecheck] ∧ s.lib.cc.current = none ∧
      s.lib.cc.held = none ∧ settingOf s.settings.working 15 ≤ s.lib.cc.homingAttempts) := by
  decide

theorem witness_ReportedFaultsGoOn :
    (let s := moving .grip .grip (some .mail) .none
     s.lib.cc.stepTimer.isSome = true ∧ s.lib.cc.step = some .grip ∧
      s.lib.cc.current = some (.move (move (some .mail))) ∧ (move (some .mail)).source = .slot 1 ∧
      settingOf s.settings.working 11 = 3 ∧ s.work.cart 0 = some cart ∧ cart.location = some (.slot 1) ∧
      (s.work.slotAt (.slot 1)).holder = some 0 ∧ 1 ≤ 1 ∧ 1 ≤ s.lib.ct.slots.length) ∧
    (let s : State := { moving .place .place (some (.slot 40)) (.cart 0) with
       settings := { State.reset.settings with working := factorySettings.set 11 3 } }
     s.lib.cc.stepTimer.isSome = true ∧ s.lib.cc.step = some .place ∧
      s.lib.cc.current = some (.move (move (some (.slot 40)))) ∧ settingOf s.settings.working 12 = 3 ∧
      s.lib.cc.closing = false ∧ (s.work.putAwayCandidates.filter fun e => decide (some (.slot 40) ≠ some e)) ≠ []) ∧
    (let s : State := { onCC fun c => { c with
         state := .place, step := some .place, current := some (.move (move (some .mail))), picker := .untracked } with
       settings := { State.reset.settings with working := factorySettings.set 11 3 } }
     (s.work.putAwayCandidates.filter fun e => decide (some Element.mail ≠ some e)) = []) := by
  decide

theorem witness_HomingIsFollowedByItsSequence :
    (State.reset.lib.cc.step = some .homing ∧ State.reset.lib.cc.stepTimer.isSome = true ∧
      State.reset.lib.cc.closing = false ∧ State.reset.lib.cc.homingFor = .powerOn) ∧
    (onCC fun c => { c with homingFor := .toIdle }).lib.cc.homingFor = .toIdle ∧
    (onCC fun c => { c with homingFor := .pickerRecheck, picker := .cart 0 }).lib.cc.homingFor = .pickerRecheck ∧
    ((onCC fun c => { c with homingFor := .reset, picker := .cart 0 }).lib.cc.homingFor = .reset ∧
      (onCC fun c => { c with homingFor := .reset, picker := .cart 0 }).lib.cc.interrupted = none) ∧
    (let s := stocked fun l => { l with cc := { l.cc with
       homingFor := .settleHeld, current := some (.move (move (some .mail))), picker := .cart 0,
       held := some { step := some .travelLoaded, ret := .faultHold, reason := some .stall, seq := .toIdle } } }
     s.lib.cc.homingFor = .settleHeld ∧ s.lib.cc.current = some (.move (move (some .mail))) ∧
      s.lib.cc.held.bind Held.step = some .travelLoaded ∧ (move (some .mail)).putAway = none ∧
      (move (some .mail)).asked ≠ .recoveryChain ∧ s.lib.ct.mailDoorOpen = false ∧
      s.work.destRefused (.slot 1) (some .mail) (s.work.recordAt .picker) = none) := by
  decide

theorem witness_TheCloseSequenceSettlesAndScans :
    (let s := onCC fun c => { c with
       closing := true, homingFor := .toIdle, held := some { step := none, ret := .idle, reason := none, seq := .toIdle } }
     s.lib.cc.step = some .homing ∧ s.lib.cc.stepTimer.isSome = true ∧ s.lib.cc.closing = true ∧
      s.lib.cc.homingFor = .toIdle ∧ s.lib.cc.current = none ∧ s.lib.cc.held.map Held.ret = some .idle ∧
      s.lib.cc.held.map Held.seq = some .toIdle ∧ s.lib.pins.magazineLeft = true) ∧
    (let s := moving .spotCheck .homing (some (.slot 40)) (.cart 0)
     s.lib.cc.step = some .spotCheck ∧ s.lib.cc.stepTimer.isSome = true ∧ s.lib.cc.closing = false ∧
      s.lib.cc.current = some (.move (move (some (.slot 40)))) ∧ s.lib.cc.picker = .cart 0 ∧
      s.work.cart 0 = some cart ∧ (move (some (.slot 40))).dest = some (.slot 40) ∧ 1 ≤ 40 ∧
      40 ≤ s.lib.ct.slots.length ∧ (s.work.slotAt (.slot 40)).reservedFor = none) := by
  decide

theorem witness_AScanReportsItsSlots :
    (let s := stocked fun l => { l with cc := { l.cc with
       state := .scanning, step := some .scanStep,
       current := some (.scan { id := 1, range := [.slot 40], remaining := [.slot 40], attempts := 0,
                                resumeSlot := none, faulted := false }) } }
     s.lib.cc.step = some .scanStep ∧ s.lib.cc.stepTimer.isSome = true ∧ s.work.remainingSlots = [.slot 40] ∧
      s.work.magazinePresent (magazineOf 40) = true ∧
      s.work.slotAt (.slot 40) = { (s.work.slotAt (.slot 40)) with holder := none, reservedFor := none } ∧
      (s.work.slotAt (.slot 1)).holder = some 0 ∧ s.work.cart 0 = some cart ∧ cart.location = some (.slot 1) ∧
      (s.work.slotAt (.slot 40)).holder = none ∧ (s.work.slotAt (.slot 40)).reservedFor = none ∧
      s.work.cartByLabel (List.replicate 8 0x30#8) = none ∧ s.work.allocate = some 1 ∧ 1 < s.lib.ct.carts.length) := by
  decide

/-- A homeless cartridge in D0, with every storage slot in a state. -/
def homeless (x : SlotState) : State :=
  onLib fun l => { l with
    ct := { (tableWith { cart with location := some (.drive .d0), home := none }) with
      slots := List.replicate 40 { state := x, holder := none, reservedFor := none } },
    ports := { l.ports with d0 := { l.ports.d0 with state := .holding, cartridge := .cart 0, selfTest := none } },
    rehomeDue := true }

theorem witness_HomelessCartridgesAreRehomed :
    (let w := (homeless .empty).work
     w.cart 0 = some { cart with location := some (.drive .d0), home := none } ∧
      ((((List.range 20).map fun k => k + 1).find? fun n => (w.slotAt (.slot n)).state = .empty) = some 1)) ∧
    (((List.range 40).map fun k => k + 1).find? fun n => ((homeless .unknown).work.slotAt (.slot n)).state = .empty) = none ∧
    cart.home.isSome = true ∧ (homeless .empty).work.rehomeDue = true ∧ (homeless .empty).work.ct.scan = none ∧
    (let w := (homeless .unknown).work
     0 < 64 ∧ w.ct.slots.length = 40 ∧ w.rehome.cart 0 = some { cart with location := some (.drive .d0), home := none } ∧
      cart.homeMagazine = some .left ∧ 1 ≤ 40 ∧ 40 ≤ 40) ∧
    (let w := (homeless .empty).work
     w.locationOf 0 = some (.drive .d0) ∧ (w.port .d0).state = .holding ∧ w.claimOf 0 = none ∧ 0 ∉ w.js.returning) := by
  decide +kernel

/-! ## Witnesses: the drive ports -/

/-- The cartridge of record 0 lies READY in D0 at a block. -/
def loaded (f : Port → Port) (g : Lib → Lib) : State :=
  onLib fun l => g { l with
    ct := tableWith { cart with location := some (.drive .d0) },
    ports := { l.ports with d0 := f { l.ports.d0 with
      state := .ready, cartridge := .cart 0, position := some 10, selfTest := none } } }

/-- An operation of the host in flight at D0. -/
def inFlight (op : PortOp) : State :=
  loaded (fun p => { p with
    state := flightState op, pending := some { op := op, requester := .host false, timer := opTimer op } }) id

theorem witness_DrivesAreRetestedAndUnloaded :
    (ask 0x28#8 [67#8]).requests (req 0x28#8 [67#8]) 0x28 [67#8] ∧ (67#8 ≠ 65#8 ∧ 67#8 ≠ 66#8) ∧
    (ask 0x28#8 [66#8]).requests (req 0x28#8 [66#8]) 0x28 [66#8] ∧ (66#8, Drive.d1) ∈ [(65#8, Drive.d0), (66#8, .d1)] ∧
    (∃ s : State, s.requests (req 0x29#8 [65#8, 0#8]) 0x29 [65#8, 0#8] ∧ s.lib.mode ≠ .secured ∧
      (65#8, Drive.d0) ∈ [(65#8, Drive.d0), (66#8, .d1)] ∧ driveTaken s.work .d0 = false ∧
      (s.work.port .d0).state = .ready) ∧
    (∃ s : State, s.requests (req 0x29#8 [65#8, 1#8]) 0x29 [65#8, 1#8] ∧ (1#8).toNat ≤ 1 ∧
      driveTaken s.work .d0 = false ∧ (s.work.port .d0).state = .holding ∧ (s.work.port .d0).cartridge = .cart 0 ∧
      s.work.homeOf 0 = some 1 ∧ s.lib.js.heldMoves = [] ∧
      (s.lib.cc.queue.filter fun k => k.origin ≠ .recovery).length < 8) ∧
    (∃ s : State, s.requests (req 0x29#8 [65#8, 0#8]) 0x29 [65#8, 0#8] ∧ driveTaken s.work .d0 = true) ∧
    ((ask 0x29#8 [65#8, 2#8]).requests (req 0x29#8 [65#8, 2#8]) 0x29 [65#8, 2#8] ∧ 1 < (2#8).toNat) ∧
    (∃ s : State, (s.work.idleTimer .d0).isSome = true ∧ s.lib.mode = .online ∧ (s.work.port .d0).state = .ready) ∧
    (∃ s : State, (s.work.idleTimer .d0).isSome = true ∧ s.lib.mode ≠ .online) ∧
    (∃ s : State, s.lib.js.idlePending.get .d0 = true ∧ s.lib.mode = .online ∧ (s.work.port .d0).state = .ready) ∧
    (∃ s : State, s.lib.js.idlePending.get .d0 = true ∧ s.lib.mode ≠ .online) :=
  ⟨ask_requests _ _ _, by decide, ask_requests _ _ _, by decide,
   ⟨asked (loaded id id) 0x29#8 [65#8, 0#8], ask_requests _ _ _, nofun, by decide, rfl, rfl⟩,
   ⟨asked (loaded (fun p => { p with state := .holding, position := none }) id) 0x29#8 [65#8, 1#8], ask_requests _ _ _,
     by decide, rfl, rfl, rfl, rfl, rfl, by decide⟩,
   ⟨asked (loaded id fun l => { l with js := { l.js with claims := ⟨some 1, none⟩ } }) 0x29#8 [65#8, 0#8],
     ask_requests _ _ _, rfl⟩,
   ⟨ask_requests _ _ _, by decide⟩,
   ⟨loaded id fun l => { l with js := { l.js with idle := ⟨some 0, none⟩ } }, rfl, rfl, rfl⟩,
   ⟨onLib fun l => { l with mode := .maintenance, js := { l.js with idle := ⟨some 0, none⟩ } }, rfl, nofun⟩,
   ⟨loaded id fun l => { l with js := { l.js with idlePending := ⟨true, false⟩ } }, rfl, rfl, rfl⟩,
   ⟨onLib fun l => { l with mode := .maintenance, js := { l.js with idlePending := ⟨true, false⟩ } }, rfl, nofun⟩⟩

theorem witness_PresenceAndSelfTestsDecideTheDrive :
    State.reset.work.presence .d1 = true ∧
      (∃ s : State, s.work.presence .d0 = false ∧ (s.work.port .d0).state = .absent) :=
  ⟨rfl, onLib fun l => { l with
    pins := { l.pins with presence0 := false }, ports := { l.ports with d0 := { l.ports.d0 with state := .absent } } },
   rfl, rfl⟩

theorem witness_PresenceAndSelfTestsDecideTheDrive_selfTest :
    ((State.reset.work.port .d0).state = .init ∧ (State.reset.work.port .d0).selfTest.isSome = true) ∧
      (∃ s : State, (s.work.port .d0).state = .init ∧ (s.work.port .d0).selfTest.isSome = true ∧
        (s.work.port .d0).cartridge = .cart 0 ∧ s.work.cartAt (.drive .d0) = some 0 ∧
        ((s.work.port .d0).faultReason.isSome = true ∨ (s.work.port .d0).wasAbsent = true)) :=
  ⟨⟨rfl, rfl⟩, loaded (fun p => { p with state := .init, selfTest := some 180, wasAbsent := true }) id, rfl, rfl, rfl,
   by decide, Or.inr rfl⟩

theorem witness_OperationsEnd :
    ∀ op ∈ [PortOp.load, .locate 10, .locateEnd, .readBlock .a, .probeRead .b, .writeBlock .b, .writeEndMark, .unload,
      .clean],
      ((inFlight op).work.port .d0).pending = some { op := op, requester := .host false, timer := opTimer op } ∧
        ((inFlight op).work.port .d0).resetting = false ∧
        ((inFlight op).work.port .d0).state = flightState op ∧ ((inFlight op).work.port .d0).cartridge = .cart 0 ∧
        (inFlight op).work.cart 0 = some { cart with location := some (.drive .d0) } ∧ 6000000 ≤ 6000000 ∧
        ([] : List Byte).length ≤ 65536 := by
  intro op h
  simp only [List.mem_cons, List.not_mem_nil, or_false] at h
  rcases h with rfl | rfl | rfl | rfl | rfl | rfl | rfl | rfl | rfl <;>
    exact ⟨rfl, rfl, rfl, rfl, rfl, le_refl _, Nat.zero_le _⟩

theorem witness_OperationsEnd_failed :
    ((inFlight .writeEndMark).work.port .d0).pending =
        some { op := .writeEndMark, requester := .host false, timer := opTimer .writeEndMark } ∧
      ((inFlight .writeEndMark).work.port .d0).resetting = false ∧
      ((inFlight .writeEndMark).work.port .d0).state = flightState .writeEndMark ∧
      (PortOp.writeEndMark, Instr.writeEndMarkComplete .d0 .transport true) ∈
        [(PortOp.load, Instr.loadComplete .d0 .transport true), (.writeEndMark, .writeEndMarkComplete .d0 .transport true)] ∧
      ((inFlight (.locate 3)).work.port .d0).pending.map PendingOp.op = some (.locate 3) ∧
      ((inFlight .load).work.port .d0).pending.map PendingOp.op = some .load := by
  decide

theorem witness_OperationsAreAcceptedOrRefused :
    ((loaded id id).work.opRefusal .d0 (.locate 2500001) = some .badArgument) ∧
    ((loaded id id).work.opRefusal .d0 (.locate 2500000) = none ∧ ((loaded id id).work.port .d0).state = .ready) ∧
    ((loaded (fun p => { p with state := .holding }) id).work.port .d0).state = .holding ∧
    (((loaded id id).work.port .d0).recovered = false ∧ ((loaded id id).work.port .d0).cartridge = .cart 0 ∧
      (loaded id id).work.cart 0 = some { cart with location := some (.drive .d0) } ∧ cart.kind = some .a ∧
      CartKind.a ≠ .clean ∧ ((loaded id id).work.port .d0).position = some 10) ∧
    ((inFlight .clean).work.port .d0).state ∈ [PortState.loading, .active, .unloading, .cleaning] ∧
    (State.reset.work.port .d0).state ∈ [PortState.absent, .init, .empty, .faulted] ∧
    (((loaded (fun p => { p with recovered := true }) id).work.port .d0).recovered = true ∧
      ((loaded (fun p => { p with recovered := true }) id).work.port .d0).state = .ready) ∧
    ((loaded (fun p => { p with position := none }) id).work.port .d0).position = none ∧
    (let s := loaded id fun l => { l with
       ct := tableWith { cart with location := some (.drive .d0), kind := some .clean } }
     (s.work.port .d0).position.isSome = true ∧ (s.work.port .d0).cartridge = .cart 0 ∧
      (s.work.cart 0).bind CartRec.kind = some .clean) := by
  decide

/-! ## Witnesses: jobs -/

/-- Sixteen finished jobs, numbered from 1. -/
def finished : List Job :=
  (List.range 16).map fun n =>
    { (jobOf .clean .done .clean none none) with id := n + 1, seq := n + 1, result := some .ok }

theorem witness_JobsAreAdmitted :
    (State.reset.work.js.jobs.length < 16 ∧ State.reset.work.js.lastId ≤ 255) ∧
    (∃ w : W, w.js.lastId = 255 ∧ w.js.jobs.length = 15) ∧
    (∃ (w : W) (j : Job), w.js.jobs.length = 16 ∧ j ∈ w.js.jobs ∧ j.state.isFinished = true ∧
      ∀ k ∈ w.js.jobs, k.state.isFinished = true → k ≠ j → j.seq < k.seq) ∧
    (∃ w : W, 16 ≤ w.js.jobs.length ∧ ∀ j ∈ w.js.jobs, j.state.isFinished = false) :=
  ⟨by decide, ⟨(onLib fun l => { l with js := { l.js with lastId := 255, jobs := finished.drop 1 } }).work, rfl, rfl⟩,
   ⟨(onLib fun l => { l with js := { l.js with jobs := finished } }).work,
     { (jobOf .clean .done .clean none none) with result := some .ok }, rfl, by decide, rfl, by decide⟩,
   ⟨(onLib fun l => { l with js := { l.js with
      jobs := List.replicate 16 (jobOf .clean .queued .clean none none) } }).work, by decide, by decide⟩⟩

/-- What OPEN SESSION, START VERIFY and START RESTORE are handed in the witnesses. -/
def openArgs : List Byte := 0#8 :: 1#8 :: 7#8 :: 3#8 :: 2#8 :: [0#8, 0#8, 0#8, 0#8, 0#8, 0#8, 0#8, 0#8]

theorem witness_JobsAreStartedOnRequest_session :
    (ask 0x40#8 openArgs).requests (req 0x40#8 openArgs) 0x40
        (0#8 :: 1#8 :: 7#8 :: 3#8 :: 2#8 :: [0#8, 0#8, 0#8, 0#8, 0#8, 0#8, 0#8, 0#8]) ∧
      (ask 0x40#8 openArgs).lib.mode ≠ .secured :=
  ⟨⟨rfl, rfl, rfl⟩, nofun⟩

theorem witness_JobsAreStartedOnRequest_verify :
    (ask 0x50#8 ([48#8, 48#8, 48#8, 48#8, 48#8, 49#8, 68#8, 65#8] ++ [0#8, 0#8, 1#8])).requests
        (req 0x50#8 ([48#8, 48#8, 48#8, 48#8, 48#8, 49#8, 68#8, 65#8] ++ [0#8, 0#8, 1#8])) 0x50
        ([48#8, 48#8, 48#8, 48#8, 48#8, 49#8, 68#8, 65#8] ++ [0#8, 0#8, 1#8]) :=
  ⟨rfl, rfl, rfl⟩

/-- See `openArgs`: sixteen bytes of a session and a range, with no hint. -/
def restoreArgs : List Byte :=
  [0#8, 5#8] ++ [0#8, 0#8, 1#8] ++ [0#8, 0#8, 2#8] ++ [0#8, 0#8, 0#8, 0#8, 0#8, 0#8, 0#8, 0#8] ++ [0#8, 0#8, 0#8, 0#8]

theorem witness_JobsAreStartedOnRequest_restore :
    (ask 0x51#8 restoreArgs).requests (req 0x51#8 restoreArgs) 0x51
        ([0#8, 5#8] ++ [0#8, 0#8, 1#8] ++ [0#8, 0#8, 2#8] ++ [0#8, 0#8, 0#8, 0#8, 0#8, 0#8, 0#8, 0#8] ++
          [0#8, 0#8, 0#8, 0#8]) ∧
      (ask 0x51#8 restoreArgs).lib.mode ≠ .secured ∧ (ask 0x51#8 restoreArgs).lib.js.jobs.length = 0 :=
  ⟨⟨rfl, rfl, rfl⟩, nofun, rfl⟩

theorem witness_JobsAreStartedOnRequest_clean :
    (ask 0x63#8 [65#8]).requests (req 0x63#8 [65#8]) 0x63 [65#8] ∧
      (65#8, Drive.d0) ∈ [(65#8, Drive.d0), (66#8, .d1)] :=
  ⟨⟨rfl, rfl, rfl⟩, by decide⟩

/-- A library with one job, asked for an abort. -/
def aborting (j : Job) : State := asked (working j resetStream id) 0x61#8 [1#8]

theorem aborting_job (j : Job) (h : j.id = 1) : (aborting j).work.job 1 = some j := by
  show List.find? _ [j] = some j
  simp [List.find?, h]

theorem aborting_only (j : Job) : ∀ k ∈ (aborting j).lib.js.jobs, k.id = 1 → k = j := by
  intro k hk _
  have hk : k ∈ [j] := hk
  exact List.mem_singleton.mp hk

/-- A job that waits for dispatch, with the cartridge of record 0 in S1, D0 EMPTY and the changer in a state. -/
def queued (j : Job) (c : CartRec) (x : ChangerState) : State :=
  onLib fun l => { l with
    ct := tableWith c, js := { l.js with jobs := [j] }, cc := { l.cc with state := x },
    ports := { l.ports with d0 := { l.ports.d0 with state := .empty, selfTest := none } } }

/-- A BACKUP and a VERIFY of the cartridge, QUEUED. -/
def waiters : Job × Job :=
  (jobOf .backup .queued (.backup (startBackup snap true)) none none,
   { (jobOf .verify .queued (.verify verify) none none) with target := .label ((cart.label).getD []) })

theorem witness_DispatchServesTheJobsInOrder :
    secured.work.mode ≠ .online ∧
    ((queued waiters.1 cart .idle).work.mode = .online ∧
      ∀ j ∈ (queued waiters.1 cart .idle).work.js.jobs, j.seq ≤ 2 ^ 64 - 1) ∧
    (waiters.1.target = .pool 0 ∧ (queued waiters.1 cart .idle).work.chooseCart waiters.1 = .cart 0 ∧
      (queued waiters.1 cart .idle).work.chooseDrive waiters.1 0 = some .d0 ∧
      (queued waiters.1 cart .idle).work.job 1 = some waiters.1) ∧
    ((queued waiters.1 cart .locked).work.locationOf 0 ≠ some (.drive .d0) ∧
      (queued waiters.1 cart .locked).work.cc.state ∈ [ChangerState.faultHold, .locked, .held, .unhomed]) ∧
    (onLib fun l => { l with js := { l.js with jobs := [waiters.1] } }).work.chooseCart waiters.1 = .missing ∧
    (stocked id).work.chooseDrive waiters.1 0 = none ∧
    (waiters.2.target = .label ((cart.label).getD []) ∧
      (queued waiters.2 cart .idle).work.cartByLabel ((cart.label).getD []) = some 0 ∧
      (queued waiters.2 { cart with kind := some .clean } .idle).work.chooseCart waiters.2 = .wrong ∧
      (queued waiters.2 { cart with claim := some 9 } .idle).work.chooseCart waiters.2 = .taken) ∧
    State.reset.work.cartByLabel ((cart.label).getD []) = none := by
  decide

/-- A job in MOUNTING at a step, with the cartridge of record 0 at an element and D0 in a state. -/
def mounting (j : Job) (x : MountStep) (e : Element) (f : Port → Port) : State :=
  onLib fun l => { l with
    ct := tableWith { cart with location := some e },
    js := { l.js with
      jobs := [{ j with state := .mounting, mountStep := some x, drive := some .d0, cartridge := some 0, ticket := some 3 }],
      claims := { l.js.claims with d0 := some 1 } },
    ports := { l.ports with d0 := f { l.ports.d0 with state := .empty, selfTest := none } } }

theorem witness_TheMountTakesItsSteps_next :
    (let w := (mounting waiters.2 .bring (.slot 1) fun p => { p with state := .holding, cartridge := .untracked }).work
     (w.job 1).bind Job.drive = some .d0 ∧ (w.job 1).bind Job.cartridge = some 0 ∧ (w.port .d0).cartridge ≠ .none ∧
      (w.port .d0).cartridge ≠ .cart 0) ∧
    (let w := (mounting waiters.2 .bring (.slot 1) id).work
     (w.port .d0).cartridge = .none ∧ w.locationOf 0 = some (.slot 1)) ∧
    (let w := (mounting waiters.2 .bring (.drive .d0) fun p => { p with state := .holding, cartridge := .cart 0 }).work
     (w.port .d0).cartridge = .cart 0 ∧ (w.port .d0).state = .holding) ∧
    (let w := (mounting waiters.2 .bring (.drive .d0) fun p => { p with state := .ready, cartridge := .cart 0 }).work
     (w.port .d0).cartridge = .cart 0 ∧ (w.port .d0).state = .ready ∧ (w.job 1).map Job.kind = some .verify) := by
  decide

/-- A VERIFY in MOUNTING for D0, at a step, whose cartridge lies in D1. -/
def fetching (x : MountStep) (st : PortState) : State :=
  onLib fun l => { l with
    ct := tableWith { cart with location := some (.drive .d1) },
    js := { l.js with
      jobs := [{ waiters.2 with state := .mounting, mountStep := some x, drive := some .d0, cartridge := some 0 }],
      claims := { l.js.claims with d0 := some 1 } },
    ports := { l.ports with d0 := { l.ports.d0 with state := .empty, selfTest := none },
                            d1 := { l.ports.d1 with state := st, selfTest := none, cartridge := .cart 0 } } }

theorem witness_TheMountTakesItsSteps_fetched :
    let w := (fetching .bringUnload .ready).work
    ((w.job 1).bind Job.drive = some .d0 ∧ (w.job 1).bind Job.cartridge = some 0 ∧ (w.port .d0).cartridge = .none ∧
      w.locationOf 0 = some (.drive .d1) ∧ (w.port .d1).state = .ready) ∧
    ∃ j, w.job 1 = some j ∧ j.state.isFinished = false ∧ j.mountStep = some .bringUnload ∧ j.cartridge = some 0 ∧
      j.abortPending = false ∧ ∀ b, j.progress = .backup b → b.truncating = false :=
  ⟨by decide, _, rfl, rfl, rfl, rfl, rfl, fun b h => (by cases h)⟩

/-- A cartridge READY in the other drive is unloaded there before the move that brings it (R57). -/
theorem test_mount_unloads_the_other_drive :
    let w := (fetching .bring .ready).work.mountNext 1
    (w.port .d1).state = .unloading ∧ w.cc.queue = [] ∧ (w.job 1).bind Job.mountStep = some .bringUnload := by
  decide

/-- The block buffer of a probe's Read Block is READING (R80). -/
theorem test_probe_uses_a_buffer :
    let w := (mounting waiters.2 (.probeLocate false) (.drive .d0) fun p =>
      { p with state := .ready, cartridge := .cart 0, position := some 0 }).work.takeSignal
        (.opDone .d0 (.job 1) (.locate 0) .ok)
    (w.stream .d0).bufA.state = .reading ∧ (w.stream .d0).bufB.state = .free ∧
      (w.port .d0).pending.map PendingOp.op = some (.probeRead .a) := by
  decide

theorem witness_TheMountTakesItsSteps_told :
    ∀ x ∈ [MountStep.clearUnload, .load, .probeLocate false, .probeRead, .probeEnd, .position true],
      let w := (mounting waiters.1 x (.drive .d0) fun p => { p with state := .ready, cartridge := .cart 0 }).work
      ∃ j, w.job 1 = some j ∧ j.state.isFinished = false ∧ w.driveClaim .d0 = some 1 ∧ j.mountStep = some x ∧
        j.cartridge = some 0 ∧ j.abortPending = false ∧ j.progress = .backup (startBackup snap true) ∧
        (startBackup snap true).truncating = false ∧ j.drive = some .d0 ∧ (w.port .d0).cartridge = .cart 0 ∧
        w.cart 0 = some { cart with location := some (.drive .d0) } := by
  intro x _
  exact ⟨_, rfl, rfl, rfl, rfl, rfl, rfl, rfl, rfl, rfl, rfl, rfl⟩

theorem witness_TheMountTakesItsSteps_moved :
    ∀ x ∈ [MountStep.clearMove, .bring],
      let w := (mounting waiters.2 x (.slot 1) id).work
      ∃ j, w.job 1 = some j ∧ j.ticket = some 3 ∧ (j.mountStep = some .clearMove ∨ j.mountStep = some .bring) ∧
        j.abortPending = false ∧ ∀ b, j.progress = .backup b → b.truncating = false := by
  intro x h
  refine ⟨_, rfl, rfl, ?_, rfl, fun b hb => (by cases hb)⟩
  simpa using h

theorem witness_JobsAreAborted_refused :
    ((ask 0x61#8 [1#8]).requests (req 0x61#8 [1#8]) 0x61 [1#8] ∧ State.reset.work.job 1 = none) ∧
    (∃ j, (aborting j).requests (req 0x61#8 [1#8]) 0x61 [1#8] ∧ (aborting j).work.job 1 = some j ∧
      j.state.isFinished = true) ∧
    (∃ j, (aborting j).work.job 1 = some j ∧ j.state.isFinished = false ∧ j.abortPending = true) :=
  ⟨⟨ask_requests _ _ _, rfl⟩,
   ⟨jobOf .clean .done .clean none none, ask_requests _ _ _, aborting_job _ rfl, rfl⟩,
   ⟨{ (jobOf .clean .running .clean (some .d0) none) with abortPending := true }, aborting_job _ rfl, rfl, rfl⟩⟩

theorem witness_JobsAreAborted_taken :
    (∃ j, (aborting j).work.job 1 = some j ∧ j.progress = .backup backup ∧ j.stream = some .d0 ∧
      backup.truncating = false ∧ j.state = .running ∧ j.abortPending = false) ∧
    (∃ j, (aborting j).work.job 1 = some j ∧ j.progress = .clean ∧ j.state = .running ∧ j.kind ≠ .verify ∧
      j.abortPending = false) ∧
    (∃ j, (aborting j).work.job 1 = some j ∧ j.progress = .verify verify ∧ j.state = .running ∧ j.stream = some .d0 ∧
      j.endAs = none ∧ ∀ k ∈ (aborting j).lib.js.jobs, k.id = 1 → k = j) ∧
    (∃ j, (aborting j).work.job 1 = some j ∧ j.progress = .verify verify ∧ j.state = .held ∧ j.abortPending = false) :=
  ⟨⟨jobOf .backup .running (.backup backup) (some .d0) (some 0), aborting_job _ rfl, rfl, rfl, rfl, rfl, rfl⟩,
   ⟨jobOf .clean .running .clean (some .d0) none, aborting_job _ rfl, rfl, rfl, nofun, rfl⟩,
   ⟨jobOf .verify .running (.verify verify) (some .d0) (some 0), aborting_job _ rfl, rfl, rfl, rfl, rfl,
    aborting_only _⟩,
   ⟨jobOf .verify .held (.verify verify) (some .d0) (some 0), aborting_job _ rfl, rfl, rfl, rfl⟩⟩

/-- A VERIFY in MOUNTING, waiting for a move or not. -/
def mountingVerify (ticket : Option Nat) : Job :=
  { (jobOf .verify .mounting (.verify verify) (some .d0) (some 0)) with ticket := ticket }

theorem witness_JobsAreAborted_restore :
    ∃ j, (aborting j).work.job 1 = some j ∧ j.progress = .restore restore ∧ j.state = .running ∧ j.stream = some .d0 ∧
      j.endAs = none ∧ ∀ k ∈ (aborting j).lib.js.jobs, k.id = 1 → k = j :=
  ⟨jobOf .restore .running (.restore restore) (some .d0) (some 0), aborting_job _ rfl, rfl, rfl, rfl, rfl, aborting_only _⟩

theorem witness_JobsAreAborted_mounting (t : Option Nat) :
    (aborting (mountingVerify t)).work.job 1 = some (mountingVerify t) ∧ (∀ b, (mountingVerify t).progress ≠ .backup b) ∧
      (mountingVerify t).state = .mounting ∧ (aborting (mountingVerify t)).lib.js.heldMoves = [] ∧
      (mountingVerify t).ticket = t ∧ (mountingVerify t).drive = some .d0 ∧
      ((aborting (mountingVerify t)).work.port .d0).pending = none ∧ (mountingVerify t).kind ≠ .backup :=
  ⟨aborting_job _ rfl, fun b h => (by cases h), rfl, rfl, rfl, rfl, rfl, nofun⟩

/-- Mounts that stop, leaving no cartridge in HOLDING, one in the drive claimed, one in the other. -/
theorem witness_JobsAreAborted_left :
    (let x := ((fetching .bringUnload .holding).work.modJob 1 fun k => { k with mountStep := none }).endJob 1
      .aborted .host
     (fetching .bringUnload .holding).work.locationOf 0 = some (.drive .d1) ∧ (x.port .d1).state = .holding ∧
      x.driveClaim .d1 = none ∧ x.portCart .d1 = some 0 ∧ x.claimOf 0 = none ∧ (x.port .d0).state ≠ .holding) ∧
    (let w := (mounting waiters.2 .load (.drive .d0) fun p => { p with state := .holding, cartridge := .cart 0 }).work
     let x := (w.modJob 1 fun k => { k with mountStep := none }).endJob 1 .aborted .host
     (w.job 1).bind Job.drive = some .d0 ∧ (x.port .d0).state = .holding ∧ x.driveClaim .d0 = none ∧
      x.portCart .d0 = some 0 ∧ x.claimOf 0 = none ∧ (x.port .d1).state ≠ .holding) := by
  decide

theorem witness_JobsAreListedAndReleased :
    State.reset.lib.js.cleanNeed.get .d0 = false ∧
      (onLib fun l => { l with js := { l.js with cleanNeed := ⟨true, false⟩ } }).lib.js.cleanNeed.get .d0 = true ∧
      (ask 0x60#8 [0#8]).requests (req 0x60#8 [0#8]) 0x60 [0#8] ∧
      (ask 0x62#8 [255#8]).requests (req 0x62#8 [255#8]) 0x62 [255#8] :=
  ⟨rfl, rfl, ask_requests _ _ _, ask_requests _ _ _⟩

/-! ## Witnesses: sessions, streams, the coder -/

theorem witness_ObjectsAreBegunAndEnded :
    (ask 0x41#8 [1#8]).requests (req 0x41#8 [1#8]) 0x41 [1#8] ∧
      (ask 0x43#8 [1#8, 1#8]).requests (req 0x43#8 [1#8, 1#8]) 0x43 [1#8, 1#8] ∧
      (ask 0x44#8 [1#8]).requests (req 0x44#8 [1#8]) 0x44 [1#8] :=
  ⟨ask_requests _ _ _, ask_requests _ _ _, ask_requests _ _ _⟩

/-- A stream with an object begun. -/
def begun : Stream :=
  { resetStream with openObject := some { object := 1, snapshot := snap, nextChunk := 0, secureNow := false } }

theorem witness_AcceptedDataFillsTheIntake :
    ((ask 0x42#8 [1#8, 0#8, 1#8, 0x41#8]).requests (req 0x42#8 [1#8, 0#8, 1#8, 0x41#8]) 0x42
        [1#8, 0#8, 1#8, 0x41#8] ∧ (0#8).toNat * 256 + (1#8).toNat = [0x41#8].length) ∧
    (begun.openObject = some { object := 1, snapshot := snap, nextChunk := 0, secureNow := false } ∧
      [0x41#8].length ≤ begun.room ∧ begun.intake.length ≤ 4 ∧ ∀ c ∈ begun.intake, c.data.length ≤ 16368) :=
  ⟨⟨ask_requests _ _ _, rfl⟩, rfl, by decide, by decide, by decide⟩

/-- A RESTORE with an entry in its queue, asked for data. -/
def reading : State :=
  asked (working (jobOf .restore .running (.restore { restore with out := [zeroEntry 1 0 0 2 true] }) (some .d0) (some 0))
    resetStream id) 0x52#8 [1#8, 0#8, 0#8]

theorem witness_RestoredDataIsReadOut :
    ((ask 0x52#8 [1#8, 0#8, 0#8]).requests (req 0x52#8 [1#8, 0#8, 0#8]) 0x52 [1#8, 0#8, 0#8] ∧
      State.reset.work.job 1 = none) ∧
    (∃ j, (running resetStream id).work.job 1 = some j ∧ j.restore? = none) ∧
    (reading.requests (req 0x52#8 [1#8, 0#8, 0#8]) 0x52 [1#8, 0#8, 0#8] ∧
      ∃ j r, reading.work.job 1 = some j ∧ j.progress = .restore r ∧ j.kind = .restore ∧
        r.out = [zeroEntry 1 0 0 2 true]) ∧
    (∃ (s : State) (j : Job), s.work.job 1 = some j ∧ j.progress = .restore restore ∧ restore.out = []) :=
  ⟨⟨ask_requests _ _ _, rfl⟩, ⟨_, rfl, rfl⟩, ⟨ask_requests _ _ _, _, _, rfl, rfl, rfl, rfl⟩,
   ⟨working (jobOf .restore .running (.restore restore) (some .d0) (some 0)) resetStream id, _, rfl, rfl, rfl⟩⟩

/-- A stream attached to record 0, with an OPEN block. -/
def attached : Stream :=
  { begun with
      attached := some { cartridge := 0, nextIndex := 11 },
      bufA := { state := .opened, index := 10, frames := [frame], data := [] } }

/-- The same with a CLOSED chunk. -/
def closedChunk : Stream := { attached with intake := [chunk .closed [0x41#8]] }

/-- A reader's stream with a frame presented. -/
def presenting : Stream :=
  { resetStream with
      bufA := { state := .parsing, index := 3, frames := [], data := frameBytes frame }, parseOffset := some 0,
      presented := some { offset := 0, header := frame.header } }

/-- A RUNNING VERIFY on S0. -/
def verifying (s : Stream) (f : Lib → Lib) : State :=
  working (jobOf .verify .running (.verify verify) (some .d0) (some 0)) s f

theorem witness_TheCoderIsGranted :
    (∃ j, ((running closedChunk id).work.stream .d0).job = some j.id ∧ (running closedChunk id).work.job j.id = some j) ∧
    (State.reset.lib.coder.busy ≠ none ∨
      (State.reset.work.requestsCoder .d0 = false ∧ State.reset.work.requestsCoder .d1 = false)) ∧
    ((running closedChunk id).lib.coder.busy = none ∧ (running closedChunk id).work.requestsCoder .d0 = true ∧
      (running closedChunk id).work.requestsCoder (otherDrive .d0) = false ∧
      ((running closedChunk id).work.stream .d0).intake = [] ++ chunk .closed [0x41#8] :: [] ∧
      (chunk .closed [0x41#8]).state = .closed) ∧
    ((verifying presenting id).work.requestsCoder .d0 = true ∧
      (verifying presenting id).work.requestsCoder (otherDrive .d0) = false ∧
      ((verifying presenting id).work.stream .d0).presented = some { offset := 0, header := frame.header } ∧
      ((verifying presenting id).work.stream .d0).bufIn .parsing = some .a) :=
  ⟨⟨jobOf .backup .running (.backup backup) (some .d0) (some 0), rfl, rfl⟩, Or.inr ⟨rfl, rfl⟩, ⟨rfl, by decide, by decide, rfl, rfl⟩, by decide, by decide, rfl, rfl⟩

/-- The coder at work on S0 for job 1. -/
def coding (x : CoderWork) (l : Lib) : Lib := { l with coder := { l.coder with busy := some ⟨.d0, 1, x⟩ } }

theorem witness_CodingsEnd :
    (let s := running { attached with intake := [chunk .coding [0x41#8]] } (coding .encoding)
     s.lib.coder.busy = some ⟨.d0, 1, .encoding⟩ ∧
      s.work.job 1 = some (jobOf .backup .running (.backup backup) (some .d0) (some 0)) ∧
      (s.work.stream .d0).intake.find? (fun x => x.state = .coding) = some (chunk .coding [0x41#8]) ∧
      backup.coding = some (freshCoding snap) ∧ (freshCoding snap).installed = some snap ∧ backup.truncating = false ∧
      (s.work.stream .d0).attached = some { cartridge := 0, nextIndex := 11 } ∧ (s.work.stream .d0).carry = [] ∧
      (s.work.stream .d0).markerWait = none ∧ (s.work.stream .d0).bufIn .opened = some .a) ∧
    (∀ e n, State.reset.lib.coder.busy ≠ some { stream := e, job := n, work := .encoding }) ∧
    (let s := verifying presenting (coding (.decoding 3 frame.header frame.payload))
     s.lib.coder.busy = some ⟨.d0, 1, .decoding 3 frame.header frame.payload⟩ ∧
      (s.work.stream .d0).presented = some { offset := 0, header := frame.header } ∧
      (s.work.stream .d0).bufIn .parsing = some .a ∧ (s.work.stream .d0).job = some 1 ∧
      ((s.work.stream .d0).buf .a).index = 3) ∧
    (∀ e n b h p, State.reset.lib.coder.busy ≠ some { stream := e, job := n, work := .decoding b h p }) ∧
    ((freshCoding snap).phase = .search ∧ (freshCoding snap).storedRun + 1 < snap.storedRun ∧
      (freshCoding snap).lastObject ≠ some 1 ∧ (freshCoding snap).installed = some snap) :=
  ⟨⟨rfl, rfl, rfl, rfl, rfl, rfl, rfl, rfl, rfl, rfl⟩, nofun, ⟨rfl, rfl, rfl, rfl, rfl⟩, nofun, by decide⟩

theorem witness_DecodingRestoresTheChunk :
    (chunk .coding [0x41#8]).data.length ≤ 16368 ∧ (chunk .coding (List.replicate 16368 0#8)).data.length ≤ 16368 ∧
      decodeFrame frame.header frame.payload = .ok [0x41#8] :=
  ⟨by simp [chunk], by show (List.replicate 16368 0#8).length ≤ 16368; rw [List.length_replicate], by decide +kernel⟩

theorem witness_FrameHeadersRoundTrip :
    (let h := frame.header
     h.kind < 16 ∧ h.rawLength < 65536 ∧ h.payloadLength < 65536 ∧ h.session < 65536 ∧ h.object < 16777216 ∧
      h.chunk < 65536 ∧ h.kind ∈ [1, 2, 3, 4] ∧ flagsAllowed h = true ∧ chunkFieldsOk h = true ∧
      0 + 16 + h.payloadLength ≤ 65536 ∧ (frameBytes frame).drop 0 = headerBytes h ++ frame.payload) ∧
      (let h := (endFrame 65535 16777215 true false).header
       h.session < 65536 ∧ h.object < 16777216 ∧ markerFieldsOk h = true ∧ flagsAllowed h = true) ∧
      ([0#8] : List Byte).head? = some 0#8 := by
  refine ⟨⟨?_, ?_, ?_, ?_, ?_, ?_, ?_, ?_, ?_, ?_, rfl⟩, ⟨?_, ?_, ?_, ?_⟩, rfl⟩ <;> decide +kernel


/-- The changed library of a job on S0: record 0 READY in D0 at a block, its drive claimed. -/
def readyAt (n : Option Nat) (l : Lib) : Lib :=
  { l with
      ct := tableWith { cart with location := some (.drive .d0) },
      ports := { l.ports with d0 := { l.ports.d0 with
        state := .ready, cartridge := .cart 0, position := n, selfTest := none } } }

theorem witness_BlocksArePresented_write :
    ∃ (s : State) (n : Nat) (i : BufId), (s.work.stream .d0).job = some n ∧
      ((s.work.stream .d0).buf i).state = .closed ∧
      (∀ k, ((s.work.stream .d0).buf k).state = .closed →
        ((s.work.stream .d0).buf i).index ≤ ((s.work.stream .d0).buf k).index ∧ (k = i ∨ i = .a)) ∧
      (s.work.port .d0).state = .ready ∧ s.work.driveClaim .d0 = some n ∧
      s.work.opRefusal .d0 (.writeBlock i) = none :=
  ⟨running { attached with bufA := { state := .closed, index := 10, frames := [frame], data := [] } } (readyAt (some 10)),
   1, .a, rfl, rfl, fun k h => by cases k; exact ⟨le_refl _, Or.inl rfl⟩; exact (nomatch h), rfl, rfl, by decide⟩

theorem witness_BlocksArePresented_read :
    ∃ (s : State) (j : Job), (s.work.stream .d0).job = some j.id ∧ s.work.job j.id = some j ∧
      (s.work.stream .d0).bufIn .free = some .a ∧ (s.work.stream .d0).nextRead = some 10 ∧
      (s.work.stream .d0).enable = true ∧ s.lib.gateOpen = true ∧ (s.work.stream .d0).stopping = none ∧
      (s.work.stream .d0).seek = none ∧ (s.work.stream .d0).news = none ∧
      (s.work.stream .d0).readLimit = some (.block 10) ∧ j.state = .running ∧ j.progress = .verify verify ∧
      (s.work.port .d0).state = .ready ∧ s.work.driveClaim .d0 = some j.id ∧
      s.work.opRefusal .d0 (.readBlock .a) = none :=
  ⟨verifying { resetStream with nextRead := some 10, readLimit := some (.block 10) } (readyAt (some 10)),
   jobOf .verify .running (.verify verify) (some .d0) (some 0), rfl, rfl, rfl, rfl, rfl, rfl, rfl, rfl, rfl, rfl, rfl,
   rfl, rfl, rfl, by decide⟩

/-- A Locate past an unreadable block. -/
def seekAt (retried inFlight : Bool) : Seek := { target := 4, purpose := .afterError, retried := retried, inFlight := inFlight }

/-- A reader's Locate: in flight, and waiting to be requested again while the job yields. -/
theorem witness_BlocksArePresented_locate (retried : Bool) :
    (∃ (w : W) (j : Job), (w.stream .d0).job = some j.id ∧ w.job j.id = some j ∧ j.progress = .verify verify ∧
      w.driveClaim .d0 = some j.id ∧ (w.stream .d0).seek = some (seekAt retried true) ∧ j.mountStep = none ∧
      j.state.isFinished = false) ∧
    ∃ (w : W) (j : Job), (w.stream .d0).job = some j.id ∧ w.job j.id = some j ∧ j.progress = .verify verify ∧
      w.driveClaim .d0 = some j.id ∧ (w.stream .d0).seek = some (seekAt true false) ∧ j.state = .running ∧
      (w.port .d0).state = .ready ∧ (∀ i, ((w.stream .d0).buf i).state ≠ .reading) ∧
      w.opRefusal .d0 (.locate 4) = none ∧ w.mode ≠ .secured ∧ (w.stream .d0).stopping = some .yielding :=
  ⟨⟨(verifying { resetStream with seek := some (seekAt retried true) } (readyAt (some 10))).work,
    jobOf .verify .running (.verify verify) (some .d0) (some 0), rfl, rfl, rfl, rfl, rfl, rfl, rfl⟩,
   (verifying { resetStream with seek := some (seekAt true false), stopping := some .yielding } (readyAt (some 10))).work,
   jobOf .verify .running (.verify verify) (some .d0) (some 0), rfl, rfl, rfl, rfl, rfl, rfl, rfl,
   fun i => by cases i <;> nofun, by decide, nofun, rfl⟩

theorem witness_BlocksArePresented_idle :
    (State.reset.work.port .d0).state ≠ .ready ∧ (State.reset.work.stream .d0).nextRead = none := ⟨nofun, rfl⟩

/-- A marker that waits for a place. -/
def marker : Frame := endFrame 5 2 false false

/-- A reader's stream with a block in A, being parsed from an offset or LOADED. -/
def block (x : BufState) (data : List Byte) (offset : Option Nat) : Stream :=
  { resetStream with bufA := { state := x, index := 3, frames := [], data := data }, parseOffset := offset }

theorem witness_TheParserWalksABlock_walk :
    ∀ data, ∀ o ∈ [0, 65536],
      let w := (verifying (block .parsing data (some o)) id).work
      let x := w.stream .d0
      ∃ j, x.job = some j.id ∧ w.job j.id = some j ∧ j.state = .running ∧ x.stopping ≠ some .hold ∧ x.presented = none ∧
        x.bufIn .parsing = some .a ∧ j.progress = .verify verify ∧ j.kind = .verify ∧ x.parseOffset = some o ∧
        (x.buf .a).data = data ∧ ∀ k ∈ w.js.jobs, k.id = j.id → k = j := by
  intro data o _
  exact ⟨jobOf .verify .running (.verify verify) (some .d0) (some 0), rfl, rfl, rfl, nofun, rfl, rfl, rfl, rfl, rfl, rfl,
    fun k h _ => List.mem_singleton.mp h⟩

theorem witness_TheParserWalksABlock_headers :
    headerAt [0#8] 0 = .pad ∧ headerAt [0x0F#8] 0 = .bad ∧ headerAt (frameBytes frame) 0 = .good frame.header ∧
      frame.header.kind ≤ 2 ∧ headerAt (frameBytes marker) 0 = .good marker.header ∧ 3 ≤ marker.header.kind := by
  decide +kernel

theorem witness_TheParserWalksABlock_restore :
    ∃ (s : State) (j : Job) (r : RestoreData), (s.work.stream .d0).job = some j.id ∧ s.work.job j.id = some j ∧
      (s.work.stream .d0).bufIn .parsing = some .a ∧ j.progress = .restore r ∧ j.kind = .restore ∧ r.todo = [] ∧
      r.fromHint = false ∧ j.sessionId = some 5 ∧ r.filterFrom ≤ 1 ∧ 1 ≤ r.lastObject :=
  ⟨working (jobOf .restore .running (.restore restore) (some .d0) (some 0)) (block .parsing (frameBytes frame) (some 0)) id,
   jobOf .restore .running (.restore restore) (some .d0) (some 0), restore, rfl, rfl, rfl, rfl, rfl, rfl, rfl, rfl,
   by decide, by decide⟩

theorem witness_TheParserWalksABlock_begin :
    ∃ (s : State) (j : Job), (s.work.stream .d0).job = some j.id ∧ s.work.job j.id = some j ∧ j.state = .running ∧
      (s.work.stream .d0).stopping = none ∧ (s.work.stream .d0).presented = none ∧ W.jobTodo j = [] ∧
      (s.work.stream .d0).bufIn .parsing = none ∧ ((s.work.stream .d0).buf .a).state = .loaded ∧
      (∀ k, ((s.work.stream .d0).buf k).state = .loaded → k ≠ .a →
        ((s.work.stream .d0).buf .a).index < ((s.work.stream .d0).buf k).index) ∧
      (s.work.stream .d0).startAt = some (3, 16) :=
  ⟨verifying { (block .loaded [] none) with startAt := some (3, 16) } id,
   jobOf .verify .running (.verify verify) (some .d0) (some 0), rfl, rfl, rfl, rfl, rfl, rfl, rfl, rfl,
   (fun k h g => by cases k; exact absurd rfl g; exact nomatch h), rfl⟩

theorem witness_WhatWaitedGoesOn_placed :
    (∃ (s : State) (a : Attached) (i : BufId), (s.work.stream .d0).job = some 1 ∧
      (s.work.stream .d0).attached = some a ∧ (s.work.stream .d0).bufIn .opened = none ∧
      (s.work.stream .d0).bufIn .free = some i ∧ (s.work.stream .d0).carry = [frame] ∧
      (s.work.backupData 1).bind BackupData.ending ≠ some .truncPlace ∧ (s.work.kindOf a.cartridge) = some .a ∧
      s.work.knownUsed a.cartridge = some 10 ∧
      (s.work.stream .d0).countIn .closed + (s.work.stream .d0).countIn .writing = 0) ∧
    (∃ (s : State) (a : Attached) (i : BufId), (s.work.stream .d0).job = some 1 ∧
      (s.work.stream .d0).attached = some a ∧ (s.work.stream .d0).bufIn .opened = none ∧
      (s.work.stream .d0).bufIn .free = some i ∧ (s.work.stream .d0).carry = [] ∧
      (s.work.stream .d0).markerWait = some marker ∧ 3 ≤ marker.header.kind) ∧
    (State.reset.work.stream .d0).job = none :=
  ⟨⟨running { resetStream with attached := some { cartridge := 0, nextIndex := 11 }, carry := [frame] } id,
     { cartridge := 0, nextIndex := 11 }, .a, rfl, rfl, rfl, rfl, rfl, nofun, rfl, rfl, rfl⟩,
   ⟨running { resetStream with attached := some { cartridge := 0, nextIndex := 11 }, markerWait := some marker } id,
     { cartridge := 0, nextIndex := 11 }, .a, rfl, rfl, rfl, rfl, rfl, rfl, by decide⟩, rfl⟩

/-- A frame after which nothing more goes into its block. -/
def lastFrame : Frame := { frame with secureNow := true }

theorem witness_WhatWaitedGoesOn_carry :
    (∃ (s : State) (a : Attached), (s.work.stream .d0).job = some 1 ∧ (s.work.stream .d0).attached = some a ∧
      (s.work.stream .d0).bufIn .opened = none ∧ (s.work.stream .d0).bufIn .free = some .a ∧
      (s.work.stream .d0).carry = frame :: [frame] ∧ (s.work.backupData 1).bind BackupData.ending ≠ some .truncPlace ∧
      (∀ g ∈ frame :: [frame], (g.header.kind = 1 ∨ g.header.kind = 2) ∧ g.secureNow = false) ∧
      ((frame :: [frame]).map fun g => 16 + g.payload.length).sum ≤ 65536 ∧
      (s.work.knownUsed a.cartridge).getD 0 + ((s.work.stream .d0).countIn .closed + (s.work.stream .d0).countIn .writing) <
        thresholdOf (s.work.kindOf a.cartridge)) ∧
    (∃ (s : State) (a : Attached), (s.work.stream .d0).job = some 1 ∧ (s.work.stream .d0).attached = some a ∧
      (s.work.stream .d0).bufIn .opened = none ∧ (s.work.stream .d0).bufIn .free = some .a ∧
      (s.work.stream .d0).carry = lastFrame :: frame :: [] ∧ lastFrame.header.kind = 2 ∧ lastFrame.secureNow = true ∧
      (s.work.backupData 1).bind BackupData.ending ≠ some .truncPlace ∧
      (∀ k, k ≠ .a → ((s.work.stream .d0).buf k).state ≠ .free) ∧
      (s.work.knownUsed a.cartridge).getD 0 +
        ((s.work.stream .d0).countIn .closed + (s.work.stream .d0).countIn .writing) + 1 <
          thresholdOf (s.work.kindOf a.cartridge)) :=
  ⟨⟨running { resetStream with attached := some { cartridge := 0, nextIndex := 11 }, carry := [frame, frame] } id,
     { cartridge := 0, nextIndex := 11 }, rfl, rfl, rfl, rfl, rfl, nofun, by decide, by decide, by decide⟩,
   ⟨running { resetStream with
       attached := some { cartridge := 0, nextIndex := 12 }, carry := [lastFrame, frame],
       bufB := { state := .writing, index := 10, frames := [], data := [] } } id,
     { cartridge := 0, nextIndex := 12 }, rfl, rfl, rfl, rfl, rfl, by decide, rfl, nofun,
     (fun k h => by cases k; exact absurd rfl h; exact nofun), by decide⟩⟩

/-- A BACKUP waiting for a free extent record. -/
def catalogWaiter : Job :=
  { (jobOf .backup .waiting (.backup backup) (some .d0) (some 0)) with waitReason := some .catalog }

theorem witness_WhatWaitedGoesOn_catalog :
    ∃ s : State, s.lib.cg.extents.length < 1024 ∧ s.lib.js.jobs = [catalogWaiter] ∧
      catalogWaiter.state = .waiting ∧ catalogWaiter.waitReason = some .catalog ∧ backup.truncating = false ∧
      s.work.job 1 = some catalogWaiter ∧ catalogWaiter.backup? = some backup ∧ catalogWaiter.drive = some .d0 ∧
      catalogWaiter.cartridge = some 0 ∧ backup.extentSeq < 1024 :=
  ⟨working catalogWaiter resetStream id, by decide, rfl, rfl, rfl, rfl, rfl, rfl, rfl, rfl, by decide⟩

/-- A RESTORE with one substituted entry still to add. -/
def substituting : RestoreData := { restore with todo := [.substitute 3 false] }

theorem witness_WhatWaitedGoesOn_substitute :
    (∃ (s : State) (j : Job), s.work.job 1 = some j ∧ j.progress = .restore substituting ∧
      substituting.nextObject = some 1 ∧ substituting.todo = [.substitute 3 false] ∧ substituting.out.length < 4 ∧
      s.lib.js.jobs = [j]) ∧ State.reset.work.job 1 = none :=
  ⟨⟨working (jobOf .restore .running (.restore substituting) (some .d0) (some 0)) resetStream id,
    jobOf .restore .running (.restore substituting) (some .d0) (some 0), rfl, rfl, rfl, rfl, by decide, rfl⟩, rfl⟩

/-! ## Witnesses: what the jobs count, the catalog -/

theorem witness_BlocksAndFramesAreCounted_block :
    ∃ (w : W) (j : Job) (c : CartRec) (e : ExtentRec) (x : SessionRec), w.job 1 = some j ∧ j.progress = .backup backup ∧
      w.cart 0 = some c ∧ w.extent (j.sessionId.getD 0) backup.extentSeq = some e ∧
      w.session (j.sessionId.getD 0) = some x :=
  ⟨(running attached fun l => { l with cg := catalog }).work, jobOf .backup .running (.backup backup) (some .d0) (some 0),
   cart, extentRec, sessionRec, rfl, rfl, rfl, rfl, rfl⟩

/-- A write lost in a BACKUP with an extent open, being truncated or not. -/
theorem witness_BlocksAndFramesAreCounted_lost :
    ∀ b ∈ [{ backup with extentOpen := true }, { backup with extentOpen := true, truncating := true, ending := some .truncMark }],
      ∃ (w : W) (j : Job) (c : CartRec), w.job 1 = some j ∧ j.progress = .backup b ∧ j.state.isFinished = false ∧
        w.driveClaim .d0 = some 1 ∧ j.cartridge = some 0 ∧ w.cart 0 = some c ∧
        (b.extentOpen = true ∨ b.ending.isSome = true) ∧ j.mountStep = none :=
  fun b hb => ⟨(working (jobOf .backup .running (.backup b) (some .d0) (some 0)) attached fun l => { l with cg := catalog }).work,
    _, _, rfl, rfl, rfl, rfl, rfl, rfl, by revert b; decide, rfl⟩

/-- A BACKUP writing block 10 at D0, or truncating it. -/
def losing (truncating : Bool) : State :=
  working (jobOf .backup .running (.backup { backup with extentOpen := true, truncating := truncating }) (some .d0) (some 0))
    attached fun l => { l with cg := catalog, ports := { l.ports with d0 := { l.ports.d0 with
      state := .active, selfTest := none, cartridge := .cart 0, position := some 10,
      pending := some { op := .writeBlock .a, requester := .job 1, timer := 60 } } } }

/-- The requester's notice of its cartridge precedes DRIVE FAULT (R51), and R141 holds in the truncation procedure. -/
theorem test_lost_write :
    ∀ truncating ∈ [false, true],
      let w := (losing truncating).work.endTransport .d0 false
      let v := (w.signals.take 2).foldl W.takeSignal { w with signals := [] }
      v.out.filterMap (fun n => match n with
        | .cartridgeState _ _ _ now _ => some (some now, none)
        | .driveFault _ _ _ reason _ _ => some (none, reason)
        | _ => none) = [(some (some .suspect), none), (none, some .transport)] ∧
      (v.cart 0).map CartRec.noEndMark = some true := by
  decide

theorem witness_BlocksAndFramesAreCounted_found :
    (newFound frame.header 0).chunkFrames < 2 ^ 32 ∧ (newFound frame.header 0).raw < 2 ^ 64 ∧
      (newFound frame.header 0).coded < 2 ^ 64 := by
  decide

theorem witness_BlocksAndFramesAreCounted_verify :
    ∃ (w : W) (v : VerifyData) (r : ResultRec), w.verifyData 1 = some v ∧ v.entered = some r.block ∧
      v.current = .known 5 0 ∧ w.extent 5 0 = some extentRec ∧ extentRec.firstBlock ≤ r.block ∧
      r.block < extentRec.firstBlock + extentRec.blockCount ∧ r.header.session = 5 ∧ v.skipped.contains 5 = false ∧
      v.expect = .frame 1 2 ∧ (1 = r.header.object ∧ r.header.chunk < 2) ∧ 5 ∈ { v with skipped := [5] }.skipped :=
  ⟨(verifying presenting fun l => { l with cg := catalog }).work, verify,
   { block := 3, header := frame.header, result := .ok [0x41#8] }, rfl, rfl, rfl, rfl, by decide, by decide, by decide,
   rfl, rfl, by decide, by decide⟩

theorem witness_BlocksAndFramesAreCounted_restore :
    ∃ (w : W) (j : Job) (res : ResultRec), w.job 1 = some j ∧ j.progress = .restore restore ∧
      restore.nextObject = some 1 ∧ restore.stopped = false ∧ res.header.object = 1 ∧
      res.header.chunk = restore.expect ∧ res.result = .ok [0x41#8] :=
  ⟨(working (jobOf .restore .running (.restore restore) (some .d0) (some 0)) resetStream id).work,
   jobOf .restore .running (.restore restore) (some .d0) (some 0),
   { block := 3, header := frame.header, result := .ok [0x41#8] }, rfl, rfl, rfl, rfl, by decide, by decide, rfl⟩

theorem witness_EndedExtentsAndDamageAreRecorded_extent :
    ∃ w : W, w.verifyData 1 = some verify ∧ verify.current = .known 5 0 ∧ w.extent 5 0 = some extentRec ∧
      (w.js.jobs.map Job.id).Nodup ∧
      verify.expect = .frame 1 2 ∧ extentRec.lastObject = some 2 ∧ w.cart extentRec.cartridge = some cart ∧
      cart.state = .opened :=
  ⟨(verifying presenting fun l => { l with cg := catalog }).work, rfl, rfl, rfl, by decide, rfl, rfl, rfl, rfl⟩

/-- A decoding's result for a chunk of an object. -/
def decoded (object chunk : Nat) (x : DecodeResult) : ResultRec :=
  { block := 3, header := { frame.header with object := object, chunk := chunk }, result := x }

theorem witness_EndedExtentsAndDamageAreRecorded_damage (p : Policy) :
    ∃ (w : W) (j : Job), w.job 1 = some j ∧ j.progress = .restore { restore with policy := p } ∧
      { restore with policy := p }.nextObject = some 1 ∧ restore.stopped = false ∧ j.abortPending = false ∧
      j.stream = some .d0 ∧ { restore with policy := p }.policy = p ∧
      ((decoded 1 0 .mismatch).header.object = 1 ∧ (decoded 1 0 .mismatch).header.chunk = restore.expect) ∧
      restore.expect < (decoded 1 1 .mismatch).header.chunk ∧
      1 < (decoded 2 0 (.ok [])).header.object ∧ restore.found = false ∧ { restore with found := true }.found = true :=
  ⟨(working (jobOf .restore .running (.restore { restore with policy := p }) (some .d0) (some 0)) resetStream id).work,
   _, rfl, rfl, rfl, rfl, rfl, rfl, rfl, ⟨rfl, rfl⟩, by decide, by decide, rfl, rfl⟩

/-- The same job being aborted, with a corrupt frame, a gap, a missing final chunk. -/
theorem witness_EndedExtentsAndDamageAreRecorded_aborted :
    ∃ (w : W) (j : Job), w.job 1 = some j ∧ j.progress = .restore { restore with found := true } ∧
      { restore with found := true }.nextObject = some 1 ∧ restore.stopped = false ∧ j.abortPending = true ∧
      ((decoded 1 0 .mismatch).header.object = 1 ∧ (decoded 1 0 .mismatch).header.chunk = restore.expect ∧
        ∀ bytes, (decoded 1 0 .mismatch).result ≠ .ok bytes) ∧
      restore.expect < (decoded 1 1 .mismatch).header.chunk ∧ 1 < (decoded 2 0 (.ok [])).header.object :=
  ⟨(working { jobOf .restore .running (.restore { restore with found := true }) (some .d0) (some 0) with
      abortPending := true } resetStream id).work,
   _, rfl, rfl, rfl, rfl, rfl, ⟨rfl, rfl, nofun⟩, by decide, by decide⟩

/-- R183: a HELD RESTORE that stands at the end of its link, the next one on another cartridge, loses its drive: it is QUEUED
without a claim, and asks for that cartridge. -/
theorem test_held_restore_crosses_when_its_drive_is_lost :
    let l : Link := { sequence := 1, label := [0x31#8], cartridge := 7, firstBlock := 0, blockCount := 4,
                      firstObject := 1, firstChunk := 0, lastObject := 2, continues := false }
    let r : RestoreData := { restore with chain := [l], link := some { l with sequence := 0, cartridge := 0 }, todo := [.linkNext] }
    let w := (working (jobOf .restore .held (.restore r) (some .d0) (some 0)) resetStream id).work.letGo 1 false none
    (w.job 1).map (fun j => (j.state, j.drive, j.target)) = some (.queued, none, .label [0x31#8]) := by
  decide +kernel

/-- R133, R169: an aborted VERIFY without a claim does not make SUSPECT the cartridge that a BACKUP claims. -/
theorem test_a_verify_leaves_a_backups_cartridge :
    let w := (running resetStream fun l => { l with ct := tableWith { cart with claim := some 1 } }).work
    (w.suspectByVerify 0).mediaOf 0 = some .opened ∧
      ((stocked id).work.suspectByVerify 0).mediaOf 0 = some .suspect := by
  decide +kernel

theorem witness_TheCatalogIsReported :
    (ask 0x70#8 [0#8, 0#8, 0#8, 0#8]).requests (req 0x70#8 [0#8, 0#8, 0#8, 0#8]) 0x70 [0#8, 0#8, 0#8, 0#8] ∧
      (ask 0x71#8 [0#8, 5#8, 3#8, 255#8]).requests (req 0x71#8 [0#8, 5#8, 3#8, 255#8]) 0x71 [0#8, 5#8, 3#8, 255#8] ∧
      (ask 0x74#8 []).requests (req 0x74#8 []) 0x74 [] ∧
      (cart.kind = some .a ∧ CartKind.a ≠ .clean ∧ cart.blocksUsed = .known 10) ∧
      (∃ (w : W) (x : SessionRec), (w.deriveSession 5).session 5 = some x ∧ w.cg.extents = [extentRec] ∧
        extentRec.verifyState = .unverified) :=
  ⟨ask_requests _ _ _, ask_requests _ _ _, ask_requests _ _ _, ⟨rfl, nofun, rfl⟩,
   ⟨(stocked fun l => { l with cg := catalog }).work, sessionRec, by decide, rfl, rfl⟩⟩

/-- LOAD EXTENT's fields: session 6, extent 0 on the cartridge of record 0, blocks 2 to 5, no object. -/
def extentArgs : List Byte :=
  [0#8, 6#8] ++ [0#8, 0#8] ++ [0x30#8, 0x30#8, 0x30#8, 0x30#8, 0x30#8, 0x31#8, 0x44#8, 0x41#8] ++
    [0#8, 0#8, 0#8, 2#8] ++ [0#8, 0#8, 0#8, 4#8] ++ [0#8, 0#8, 0#8] ++ [0#8, 0#8] ++ [0#8, 0#8, 0#8] ++
    [0#8, 0#8, 0#8, 0#8] ++ [0#8, 0#8, 0#8, 0#8, 0#8, 0#8, 0#8, 0#8] ++
    [0#8, 0#8, 0#8, 0#8, 0#8, 0#8, 0#8, 0#8] ++ [0#8] ++ [0#8] ++ [0#8, 0#8, 0#8, 0#8, 0#8, 0#8, 0#8, 0#8]

/-- The extent they hand in. -/
def extentIn : ExtentIn :=
  { session := 6, sequence := 0, label := [0x30#8, 0x30#8, 0x30#8, 0x30#8, 0x30#8, 0x31#8, 0x44#8, 0x41#8],
    firstBlock := 2, blockCount := 4, firstObject := 0, firstChunk := 0, lastObject := 0, chunkFrames := 0, rawBytes := 0,
    codedBytes := 0, flags := 0, pool := 0, hostTag := List.replicate 8 0#8 }

theorem witness_SessionsAreDroppedAndExtentsLoaded_requests :
    (ask 0x72#8 [0#8, 5#8]).requests (req 0x72#8 [0#8, 5#8]) 0x72 [0#8, 5#8] ∧
      (asked (stocked id) 0x73#8 extentArgs).requests (req 0x73#8 extentArgs) 0x73 extentArgs ∧
      (catalog.extents.map fun e => (e.session, e.sequence)).Nodup :=
  ⟨ask_requests _ _ _, ask_requests _ _ _, by decide⟩

theorem witness_SessionsAreDroppedAndExtentsLoaded_answers :
    (stocked id).work.extentAnswer extentIn none = .ok ∧
      (stocked id).work.cartByLabel extentIn.label = some 0 ∧ (stocked id).work.cart 0 = some cart ∧
      extentArgsBad extentIn = false ∧ State.reset.work.cartByLabel extentIn.label = none ∧
      (stocked fun l => { l with cg := catalog }).work.extentAnswer { extentIn with session := 5 } none = .wrongState := by
  decide +kernel

theorem witness_ExtentsStayInTheirPlaces :
    ((stocked fun l => { l with cg := { catalog with extents := [{ extentRec with firstBlock := 6, blockCount := 4 }] } }).work
        |>.extentAnswer extentIn none) = .ok ∧
    (∃ (w : W) (j : Job) (b : BackupData) (buf : Buffer), w.job 1 = some j ∧ j.progress = .backup b ∧ w.cart 0 = some cart ∧
      w.extent (j.sessionId.getD 0) b.extentSeq = some extentRec ∧
      extentRec.firstBlock + extentRec.blockCount = buf.index ∧
      (w.cg.extents.map fun y => (y.session, y.sequence)).Nodup ∧
      (∀ y ∈ w.cg.extents, y.cartridge = 0 → y.firstBlock + y.blockCount ≤ buf.index)) ∧
    ((catalog.extents.map fun e => (e.session, e.sequence)).Nodup ∧ extentRec.cartridge = 0 ∧
      9 < extentRec.firstBlock + extentRec.blockCount ∧ sessionRec.id = extentRec.session ∧ sessionRec.origin = .written) := by
  refine ⟨by decide +kernel, ⟨(running attached fun l => { l with cg := catalog }).work,
    jobOf .backup .running (.backup backup) (some .d0) (some 0), backup,
    { state := .writing, index := 10, frames := [frame], data := [] }, rfl, rfl, rfl, rfl, rfl, by decide, ?_⟩, by decide⟩
  intro y h _
  rw [List.mem_singleton.mp h]; decide

end Sys2Proof.Tests
end

