-- ==== Sys2Proof/Proofs/GateAndEnables.lean ====
section
/-! PROOF. The gate and the enables at RESUME STREAM and at RESUME (R123, R187). What both turn on is that settling, and all
the work that RESUME sets going, leave `W.ambient` alone: so the gate, the mode and the enables after a request are those its
owner's own effect wrote. -/

namespace Sys2Proof.Machine

/-! ## What a request answered OK leaves of the mode, the gate and the enables -/

@[simp] theorem State.answered_mode (s : State) (f : RequestFrame) (w : W) (b : ReplyBody) :
    (s.answered f w b).lib.mode = w.mode :=
  congrArg Ambient.mode w.settled_ambient

@[simp] theorem State.answered_gateOpen (s : State) (f : RequestFrame) (w : W) (b : ReplyBody) :
    (s.answered f w b).lib.gateOpen = w.gateOpen :=
  congrArg Ambient.gateOpen w.settled_ambient

@[simp] theorem State.answered_enable0 (s : State) (f : RequestFrame) (w : W) (b : ReplyBody) :
    (s.answered f w b).lib.streams.d0.enable = w.streams.d0.enable :=
  congrArg Ambient.enable0 w.settled_ambient

@[simp] theorem State.answered_enable1 (s : State) (f : RequestFrame) (w : W) (b : ReplyBody) :
    (s.answered f w b).lib.streams.d1.enable = w.streams.d1.enable :=
  congrArg Ambient.enable1 w.settled_ambient

/-! ## RESUME (R187) -/

theorem exec_resume (s : State) : exec .resume s = execResume s := rfl

/-- Of what `Ambient` holds, becoming ONLINE changes the mode alone. -/
theorem W.nowOnline_ambient (w : W) : w.nowOnline.ambient = { w.ambient with mode := .online } := by
  rw [W.nowOnline, W.idlePendingRuns_ambient, W.idlePendingRuns_ambient, W.settled_ambient, W.wantDispatch_ambient]
  rfl

/-- Of what `Ambient` holds, RESUME changes the mode and the gate alone: taking the HELD jobs on changes none of it. -/
theorem W.resumeAll_ambient (w : W) :
    w.resumeAll.ambient = { w.ambient with gateOpen := true, mode := .online } := by
  rw [W.resumeAll, W.nowOnline_ambient, W.parseBoth_ambient, W.ambient_foldl _ W.readerResumes_ambient]
  rfl

theorem ownResume_secured {w : W} (p : List Byte) (hm : w.mode = .secured) (hp : w.pins.powerWarning = false) :
    ownResume w p = answer w.resumeAll .empty := by
  simp [ownResume, hm, hp]

/-- RESUME is accepted in every mode, SECURED among them, and there it takes everything on (R186, R187). -/
theorem exec_resume_secured {s : State} {f : RequestFrame} (h : s.requests f 0x04 []) (hm : s.lib.mode = .secured)
    (hp : s.lib.pins.powerWarning = false) : exec .resume s = .next (s.answered f s.work.resumeAll .empty) := by
  rw [exec_resume]
  exact State.ask_ok h (acceptedIn_of_not_refused _ rfl) rfl (ownResume_secured [] hm hp)

/-! ## RESUME STREAM (R123) -/

theorem exec_resumeStream (s : State) : exec .resumeStream s = execResumeStream s := rfl

/-- The working state after RESUME STREAM of stream `n`: the gate open, the stream's enable set, both read sides asked to look
again. -/
def W.streamResumed (w : W) (n : Byte) : W :=
  { w with
      gateOpen := true,
      streams := if n = 0#8 then ⟨{ w.streams.d0 with enable := true }, w.streams.d1⟩
                 else ⟨w.streams.d0, { w.streams.d1 with enable := true }⟩,
      signals := w.signals ++ [.parse .d0, .parse .d1] }

theorem byte_le_one {n : Byte} (h : n.toNat ≤ 1) : n = 0#8 ∨ n = 1#8 := by
  bv_omega

theorem ownResumeStream_named (w : W) {n : Byte} (h : n.toNat ≤ 1) :
    ownResumeStream w [n] = answer (w.streamResumed n) .empty := by
  rcases byte_le_one h with rfl | rfl <;>
    simp [ownResumeStream, W.streamResumed, W.parseBoth, W.emit, W.modStream, W.putStream, W.stream, Pair.put, Pair.get]

theorem ownResumeStream_unnamed (w : W) {n : Byte} (h : 1 < n.toNat) :
    ownResumeStream w [n] = refuse w .badArgument := by
  unfold ownResumeStream
  rw [fieldsOf_one]
  dsimp only
  rw [if_neg (by omega), if_neg (by omega)]

theorem W.streamResumed_enable0 (w : W) (n : Byte) :
    (w.streamResumed n).streams.d0.enable = (w.streams.d0.enable || decide (n = 0#8)) := by
  by_cases h : n = 0#8 <;> simp [W.streamResumed, h]

theorem W.streamResumed_enable1 (w : W) {n : Byte} (hn : n.toNat ≤ 1) :
    (w.streamResumed n).streams.d1.enable = (w.streams.d1.enable || decide (n = 1#8)) := by
  rcases byte_le_one hn with rfl | rfl <;> simp [W.streamResumed]

theorem exec_resumeStream_secured {s : State} {f : RequestFrame} {n : Byte} (h : s.requests f 0x06 [n])
    (hm : s.lib.mode = .secured) : exec .resumeStream s = .next (s.turnedDown f .notInMode .empty) := by
  rw [exec_resumeStream]
  exact congrArg goesOn (State.take_notInMode _ _ h (by rw [hm]; rfl))

theorem exec_resumeStream_unnamed {s : State} {f : RequestFrame} {n : Byte} (h : s.requests f 0x06 [n])
    (hm : s.lib.mode ≠ .secured) (hn : 1 < n.toNat) :
    exec .resumeStream s = .next (s.turnedDown f .badArgument .empty) := by
  rw [exec_resumeStream]
  exact State.ask_refused h (acceptedIn_of_ne _ hm) rfl (ownResumeStream_unnamed _ hn) nofun

theorem exec_resumeStream_named {s : State} {f : RequestFrame} {n : Byte} (h : s.requests f 0x06 [n])
    (hm : s.lib.mode ≠ .secured) (hn : n.toNat ≤ 1) :
    exec .resumeStream s = .next (s.answered f (s.work.streamResumed n) .empty) := by
  rw [exec_resumeStream]
  exact State.ask_ok h (acceptedIn_of_ne _ hm) rfl (ownResumeStream_named _ hn)

/-- Settles O19. RESUME STREAM by the order of R185 (mode, value, then the effect); RESUME by `W.resumeAll_ambient`. -/
theorem resumeStreamSetsOneEnable : Obligations.ResumeStreamSetsOneEnable := by
  unfold Obligations.ResumeStreamSetsOneEnable
  constructor
  · intro s f n h
    refine ⟨exec_resumeStream_secured h, exec_resumeStream_unnamed h, fun hm hn =>
      ⟨s.answered f (s.work.streamResumed n) .empty, exec_resumeStream_named h hm hn, rfl, ?_, ?_, ?_⟩⟩
    · exact State.answered_gateOpen ..
    · rw [State.answered_enable0]; exact W.streamResumed_enable0 ..
    · rw [State.answered_enable1]; exact W.streamResumed_enable1 _ hn
  · intro s t f h hm hp ht
    obtain rfl : s.answered f s.work.resumeAll .empty = t :=
      Host.Outcome.next.inj ((exec_resume_secured h hm hp).symm.trans ht)
    have hr := s.work.resumeAll_ambient
    rw [State.answered_mode, State.answered_gateOpen, State.answered_enable0, State.answered_enable1]
    exact ⟨congrArg Ambient.mode hr, congrArg Ambient.gateOpen hr, congrArg Ambient.enable0 hr, congrArg Ambient.enable1 hr⟩

end Sys2Proof.Machine
end

/-! PROOF. READ DATA (R120, R182, R183). The reply's `endOfJob` is read off the job as it stands after the effect, so the fact it
turns on is what an ending leaves of a job's record: the record stays, and its state is the one it ends in. -/

namespace Sys2Proof.Machine

/-! ## What an ending leaves of a job's record (R71) -/

@[simp] theorem W.job_emit (w : W) (g : Signal) (n : Nat) : (w.emit g).job n = w.job n := rfl

@[simp] theorem W.job_wantDispatch (w : W) (n : Nat) : w.wantDispatch.job n = w.job n := rfl

@[simp] theorem W.job_dropHeld (w : W) (k n : Nat) : (w.dropHeld k).job n = w.job n := rfl

@[simp] theorem W.job_putDriveClaim (w : W) (d : Drive) (c : Option Nat) (n : Nat) :
    (w.putDriveClaim d c).job n = w.job n := rfl

@[simp] theorem W.job_modStream (w : W) (d : Drive) (f : Stream → Stream) (n : Nat) :
    (w.modStream d f).job n = w.job n := rfl

@[simp] theorem W.job_putCartClaim (w : W) (i : Nat) (c : Option Nat) (n : Nat) :
    (w.putCartClaim i c).job n = w.job n := by
  unfold W.putCartClaim W.modCart
  split <;> rfl

@[simp] theorem W.job_jobNotice (w : W) (k : Nat) (was : Option JobState) (n : Nat) :
    (w.jobNotice k was).job n = w.job n := by
  unfold W.jobNotice
  split <;> rfl

/-- The releases of claims and bindings (R73) change a job this way: its id and its state are kept. -/
theorem W.jobState_modJob {g : Job → Job} (w : W) (n : Nat) (hid : ∀ j, (g j).id = j.id)
    (hst : ∀ j, (g j).state = j.state) : ((w.modJob n g).job n).map Job.state = (w.job n).map Job.state := by
  rw [W.job_modJob w n g hid, Option.map_map]
  exact congrArg (Option.map · (w.job n)) (funext hst)

@[simp] theorem W.jobState_releaseCart (w : W) (n : Nat) :
    ((w.releaseCart n).job n).map Job.state = (w.job n).map Job.state := by
  unfold W.releaseCart
  split
  · rfl
  · next i _ =>
    have hclaim : (if w.claimOf i = some n then w.putCartClaim i none else w).job n = w.job n := by
      split <;> simp
    rw [← hclaim]
    dsimp only
    split <;> exact W.jobState_modJob _ n (fun _ => rfl) fun _ => rfl

@[simp] theorem W.jobState_unbind (w : W) (n : Nat) :
    ((w.unbind n).job n).map Job.state = (w.job n).map Job.state := by
  unfold W.unbind
  split
  · rfl
  · next d _ =>
    have hstream : (if (w.stream d).job = some n then w.modStream d bareStream else w).job n = w.job n := by
      split <;> simp
    rw [← hstream]
    exact W.jobState_modJob _ n (fun _ => rfl) fun _ => rfl

@[simp] theorem W.jobState_releaseDrive (w : W) (n : Nat) :
    ((w.releaseDrive n).job n).map Job.state = (w.job n).map Job.state := by
  unfold W.releaseDrive
  split
  · rfl
  · next j _ =>
    split
    · rfl
    · next d _ =>
      have hbound : ((if j.kind = .verify ∨ j.kind = .restore then w.unbind n else w).job n).map Job.state =
          (w.job n).map Job.state := by
        split <;> simp
      rw [← hbound]
      generalize (if j.kind = .verify ∨ j.kind = .restore then w.unbind n else w) = v
      dsimp only
      rw [W.job_emit, W.job_wantDispatch, W.jobState_modJob]
      · split <;> simp
      · exact fun _ => rfl
      · exact fun _ => rfl

/-- An unfinished job's record takes the state it finishes in; a finished one's stays (R71). -/
theorem W.jobState_finishJob (w : W) (n : Nat) (t : JobState) (r : JobResult) :
    ((w.finishJob n t r).job n).map Job.state = (w.job n).map fun j => if j.state.isFinished then j.state else t := by
  unfold W.finishJob
  split
  · next h => simp [h]
  · next j h =>
    split
    · next hf => simp [h, hf]
    · next hf =>
      have hkept : ((((w.dropHeld n).releaseBoth n).unbind n).job n).map Job.state = some j.state := by
        simp [W.releaseBoth, h]
      obtain ⟨k, hk, -⟩ := Option.map_eq_some_iff.mp hkept
      rw [W.job_wantDispatch, W.job_jobNotice, W.job_modJob, hk, h]
      · simp [hf]
      · exact fun _ => rfl

/-- A job that is no VERIFY just enters its finished state. -/
theorem W.endJob_of_ne_verify {w : W} {n : Nat} {j : Job} (hj : w.job n = some j) (hk : j.kind ≠ .verify)
    (t : JobState) (r : JobResult) : w.endJob n t r = w.finishJob n t r := by
  cases hf : j.state.isFinished <;> simp [W.endJob, W.finishJob, hj, hk, hf]

/-! ## What READ DATA takes, and how the job stands then (R120, R182, R183) -/

theorem W.takeHead_nil {r : RestoreData} (h : r.out = []) (m : Nat) : W.takeHead r m =
    (r, { object := 0, offset := 0, endOfObject := false, damaged := false, endOfJob := false, data := [] }) := by
  simp [W.takeHead, h]

theorem W.takeHead_cons {r : RestoreData} {e : OutEntry} {rest : List OutEntry} (h : r.out = e :: rest) (m : Nat) :
    W.takeHead r m =
      let part := (e.data.drop r.headOffset).take m
      let used : Bool := decide (e.data.length ≤ r.headOffset + part.length)
      ({ r with out := if used then rest else e :: rest, headOffset := if used then 0 else r.headOffset + part.length },
       { object := e.object, offset := e.offset + r.headOffset, endOfObject := used && e.endOfObject,
         damaged := e.damaged, endOfJob := false, data := part }) := by
  unfold W.takeHead
  rw [h]

/-- The working state with a RESTORE's progress as it is after data has been taken, and the job ended by that if nothing more
can come. -/
def W.readOut (w : W) (n : Nat) (x : RestoreData) : W := (w.modRestore n fun _ => x).restoreDone n

section
variable {w : W} {n : Nat} {j : Job} {r : RestoreData} (hj : w.job n = some j) (hr : j.progress = .restore r)
include hj hr

theorem W.job_modRestore_restore (x : RestoreData) :
    (w.modRestore n fun _ => x).job n = some { j with progress := .restore x } := by
  rw [W.job_modRestore, hj, Option.map_some, hr]

/-- The job ends with the last entry taken and no object left; its result says what it delivered (R183). -/
theorem W.readOut_eq (x : RestoreData) : w.readOut n x =
    if x.nextObject = none ∧ x.out = [] then (w.modRestore n fun _ => x).endJob n .done (restoreOutcome x)
    else w.modRestore n fun _ => x := by
  simp [W.readOut, W.restoreDone, W.restoreData, W.job_modRestore_restore hj hr, Job.restore?]

/-- After data has been taken the job is finished if it was before, or if this ended it. -/
theorem W.readOut_isFinished (hk : j.kind = .restore) (x : RestoreData) :
    ((w.readOut n x).job n).any (fun k => k.state.isFinished) =
      (j.state.isFinished || decide (x.nextObject = none ∧ x.out = [])) := by
  have hx := W.job_modRestore_restore hj hr x
  have hfin (o : Option Job) : o.any (fun k => k.state.isFinished) = (o.map Job.state).any JobState.isFinished := by
    cases o <;> rfl
  rw [W.readOut_eq hj hr, hfin]
  split
  · next hend =>
    have hdone : JobState.done.isFinished = true := rfl
    rw [W.endJob_of_ne_verify hx (by simp [hk]), W.jobState_finishJob, hx]
    cases hs : j.state.isFinished <;> simp [hs, hend, hdone]
  · next hend => simp [hx, hend]

end

/-! ## READ DATA's owner -/

theorem exec_readData (s : State) : exec .readData s = execReadData s := rfl

@[simp] theorem fieldsOf_byte_word_zero (n hi lo : Byte) : fieldsOf [1, 2] [n, hi, lo] 0 = n.toNat := by
  simp [fieldsOf, natFields, fields, beNat]

@[simp] theorem fieldsOf_byte_word_one (n hi lo : Byte) :
    fieldsOf [1, 2] [n, hi, lo] 1 = hi.toNat * 256 + lo.toNat := by
  simp [fieldsOf, natFields, fields, beNat]

theorem ownReadData_noJob {w : W} {n : Byte} (hi lo : Byte) (h : w.job n.toNat = none) :
    ownReadData w [n, hi, lo] = refuse w .noSuchJob := by
  simp [ownReadData, h]

theorem ownReadData_otherKind {w : W} {n : Byte} {j : Job} (hi lo : Byte) (hj : w.job n.toNat = some j)
    (h : j.restore? = none) : ownReadData w [n, hi, lo] = refuse w .wrongState := by
  simp [ownReadData, hj, h]

/-- For a RESTORE: what `takeHead` takes goes, and the end of the job is told when the queue is empty and the job finished. -/
theorem ownReadData_restore {w : W} {n : Byte} {j : Job} {r : RestoreData} (hi lo : Byte) (hj : w.job n.toNat = some j)
    (hr : j.progress = .restore r) (hk : j.kind = .restore) :
    ownReadData w [n, hi, lo] =
      let taken := W.takeHead r (clampTo 1 4096 (hi.toNat * 256 + lo.toNat))
      answer (w.readOut n.toNat taken.1) (.data { taken.2 with
        endOfJob := decide (taken.1.out = []) && (j.state.isFinished || decide (taken.1.nextObject = none)) }) := by
  have hend (x : RestoreData) : (decide (x.out = []) &&
        ((w.readOut n.toNat x).job n.toNat).any fun k => k.state.isFinished) =
      (decide (x.out = []) && (j.state.isFinished || decide (x.nextObject = none))) := by
    rw [W.readOut_isFinished hj hr hk]
    by_cases ho : x.out = [] <;> simp [ho]
  have hr? : j.restore? = some r := by simp [Job.restore?, hr]
  dsimp only
  rw [← hend]
  simp [ownReadData, hj, hr?, W.job_id hj, W.readOut]

/-! ## READ DATA -/

theorem exec_readData_refused {s : State} {f : RequestFrame} {n hi lo : Byte} {t : Status}
    (h : s.requests f 0x52 [n, hi, lo]) (ho : ownReadData s.work [n, hi, lo] = refuse s.work t) (ht : t ≠ .ok) :
    exec .readData s = .next (s.turnedDown f t .empty) := by
  rw [exec_readData]
  exact State.ask_refused h (acceptedIn_of_not_refused _ rfl) rfl ho ht

theorem exec_readData_answered {s : State} {f : RequestFrame} {n hi lo : Byte} {w : W} {b : ReplyBody}
    (h : s.requests f 0x52 [n, hi, lo]) (ho : ownReadData s.work [n, hi, lo] = answer w b) :
    exec .readData s = .next (s.answered f w b) := by
  rw [exec_readData]
  exact State.ask_ok h (acceptedIn_of_not_refused _ rfl) rfl ho

/-- Settles O48. The refusals by the order of R185; otherwise by what `takeHead` takes, an empty queue and a head entry apart,
and `W.readOut_eq` for the end of the job. -/
theorem restoredDataIsReadOut : Obligations.RestoredDataIsReadOut := by
  unfold Obligations.RestoredDataIsReadOut
  intro s f n hi lo h
  refine ⟨fun hj => exec_readData_refused h (ownReadData_noJob hi lo hj) nofun,
    fun j hj hk => exec_readData_refused h (ownReadData_otherKind hi lo hj hk) nofun, ?_⟩
  intro j r hj hr hk most finish last
  have hfinish (x : RestoreData) : s.work.readOut n.toNat x = finish x := W.readOut_eq hj hr x
  have hown := ownReadData_restore hi lo hj hr hk
  constructor
  · intro hout
    rw [W.takeHead_nil hout] at hown
    rw [← hfinish]
    exact exec_readData_answered h hown
  · intro e rest hout part used x
    rw [W.takeHead_cons hout] at hown
    rw [← hfinish]
    exact exec_readData_answered h hown

end Sys2Proof.Machine

/-! PROOF. The tape frame header (R196). Reading it back turns on two facts: the bytes of an integer give it back
(`beNat_beBytes`), and each field is read from the very bytes written for it (`headerOfBytes_append`). -/

namespace Sys2Proof.Machine

/-! ## Integers and their bytes -/

@[simp] theorem beNat_append_singleton (l : List Byte) (b : Byte) : beNat (l ++ [b]) = beNat l * 256 + b.toNat := by
  simp [beNat]

theorem beNat_beBytes (n : Nat) : ∀ {v : Nat}, v < 256 ^ n → beNat (beBytes n v) = v := by
  induction n with
  | zero =>
    intro v h
    obtain rfl : v = 0 := by simpa using h
    rfl
  | succ n ih =>
    intro v h
    rw [beBytes, beNat_append_singleton, ih (by rw [pow_succ] at h; omega), BitVec.toNat_ofNat]
    omega

/-! ## The byte at offset 0 -/

/-- The value of a header's first byte: the kind in bits 0 to 3, a flag in each of bits 4 to 7. -/
def FrameHeader.firstValue (h : FrameHeader) : Nat :=
  h.kind % 16 + flagBit h.last 4 + flagBit h.continued 5 + flagBit h.truncated 6 + flagBit h.continues 7

theorem flagBit_eq_toNat_mul (b : Bool) (k : Nat) : flagBit b k = b.toNat * 2 ^ k := by
  cases b <;> simp [flagBit]

theorem bitOf_eq_iff {k v : Nat} {b : Bool} : bitOf k v = b ↔ v / 2 ^ k % 2 = b.toNat := by
  cases b <;> simp [bitOf]

theorem FrameHeader.firstValue_eq (h : FrameHeader) : h.firstValue =
    h.kind % 16 + h.last.toNat * 16 + h.continued.toNat * 32 + h.truncated.toNat * 64 + h.continues.toNat * 128 := by
  simp [firstValue, flagBit_eq_toNat_mul]

/-- The value fits a byte, and the kind and the flags come back out of it. -/
theorem FrameHeader.firstValue_read (h : FrameHeader) :
    h.firstValue < 256 ∧ h.firstValue % 16 = h.kind % 16 ∧ bitOf 4 h.firstValue = h.last ∧
      bitOf 5 h.firstValue = h.continued ∧ bitOf 6 h.firstValue = h.truncated ∧ bitOf 7 h.firstValue = h.continues := by
  have hlast := h.last.toNat_le
  have hcontinued := h.continued.toNat_le
  have htruncated := h.truncated.toNat_le
  have hcontinues := h.continues.toNat_le
  simp only [bitOf_eq_iff, firstValue_eq]
  omega

/-! ## Writing and reading a header -/

theorem headerBytes_length (h : FrameHeader) : (headerBytes h).length = 16 := rfl

/-- Each field is read from the very bytes written for it. -/
theorem headerOfBytes_append (h : FrameHeader) (rest : List Byte) :
    headerOfBytes (headerBytes h ++ rest) =
      let first := (BitVec.ofNat 8 h.firstValue).toNat
      { kind := first % 16, last := bitOf 4 first, continued := bitOf 5 first, truncated := bitOf 6 first,
        continues := bitOf 7 first, rawLength := beNat (beBytes 2 h.rawLength),
        payloadLength := beNat (beBytes 2 h.payloadLength), session := beNat (beBytes 2 h.session),
        object := beNat (beBytes 3 h.object), chunk := beNat (beBytes 2 h.chunk),
        crc := BitVec.ofNat 32 (beNat (beBytes 4 h.crc.toNat)) } := rfl

/-- A header whose fields fit their places in the layout. -/
structure FrameHeader.Fits (h : FrameHeader) : Prop where
  kind : h.kind < 16
  rawLength : h.rawLength < 65536
  payloadLength : h.payloadLength < 65536
  session : h.session < 65536
  object : h.object < 16777216
  chunk : h.chunk < 65536

theorem headerOfBytes_headerBytes {h : FrameHeader} (hf : h.Fits) (rest : List Byte) :
    headerOfBytes (headerBytes h ++ rest) = h := by
  have hcrc : h.crc.toNat < 256 ^ 4 := h.crc.isLt
  obtain ⟨hbyte, hkind, hlast, hcontinued, htruncated, hcontinues⟩ := h.firstValue_read
  rw [headerOfBytes_append, BitVec.toNat_ofNat, Nat.mod_eq_of_lt hbyte]
  simp only [hkind, hlast, hcontinued, htruncated, hcontinues, Nat.mod_eq_of_lt hf.kind,
    beNat_beBytes 2 hf.rawLength, beNat_beBytes 2 hf.payloadLength, beNat_beBytes 2 hf.session,
    beNat_beBytes 3 hf.object, beNat_beBytes 2 hf.chunk, beNat_beBytes 4 hcrc, BitVec.ofNat_toNat, BitVec.setWidth_eq]

theorem headerBytes_layout {h : FrameHeader} (hk : h.kind < 16) :
    let byte (n : Nat) : Byte := BitVec.ofNat 8 n
    let flag (b : Bool) (n : Nat) : Nat := if b then n else 0
    headerBytes h =
      [byte (h.kind + flag h.last 16 + flag h.continued 32 + flag h.truncated 64 + flag h.continues 128),
       byte (h.rawLength / 256), byte h.rawLength, byte (h.payloadLength / 256), byte h.payloadLength,
       byte (h.session / 256), byte h.session,
       byte (h.object / 65536), byte (h.object / 256), byte h.object,
       byte (h.chunk / 256), byte h.chunk,
       byte (h.crc.toNat / 16777216), byte (h.crc.toNat / 65536), byte (h.crc.toNat / 256), byte h.crc.toNat] := by
  simp [headerBytes, beBytes, flagBit, Nat.mod_eq_of_lt hk, Nat.div_div_eq_div_mul]

theorem headerOfBytes_zero (rest : List Byte) :
    (headerOfBytes (0#8 :: rest)).kind = 0 ∧ (headerOfBytes (0#8 :: rest)).last = false ∧
      (headerOfBytes (0#8 :: rest)).continued = false ∧ (headerOfBytes (0#8 :: rest)).truncated = false ∧
      (headerOfBytes (0#8 :: rest)).continues = false := by
  simp [headerOfBytes, bitOf]

/-! ## The checks of R93 -/

theorem checkHeader_good {bytes : List Byte} {r : Nat} {h : FrameHeader} (hh : headerOfBytes bytes = h)
    (hkind : h.kind ∈ [1, 2, 3, 4]) (hflags : flagsAllowed h = true) (hchunk : h.kind ≤ 2 → chunkFieldsOk h = true)
    (hmarker : 3 ≤ h.kind → markerFieldsOk h = true) (hroom : 16 + h.payloadLength ≤ r) :
    checkHeader bytes r = .good h := by
  have hrange : 1 ≤ h.kind ∧ h.kind ≤ 4 := by
    simp only [List.mem_cons, List.not_mem_nil, or_false] at hkind
    omega
  unfold checkHeader
  simp only [hh]
  rw [if_neg (by omega), if_neg (by omega), if_neg (by omega), if_neg (by simp [hflags]),
    if_neg (fun hc => by simp [hchunk hc.1] at hc), if_neg (fun hm => by simp [hmarker hm.1] at hm),
    if_neg (by omega)]

theorem checkHeader_pad {bytes : List Byte} (h : (headerOfBytes bytes).kind = 0) (r : Nat) :
    checkHeader bytes r = .pad := by
  simp [checkHeader, h]

/-- Settles O52, by `headerBytes_layout`, `headerOfBytes_headerBytes` and the two lemmas about `checkHeader`. -/
theorem frameHeadersRoundTrip : Obligations.FrameHeadersRoundTrip := by
  unfold Obligations.FrameHeadersRoundTrip
  refine ⟨?_, ?_, ?_⟩
  · intro h hkind hraw hpayload hsession hobject hchunk
    have hback := headerOfBytes_headerBytes (h := h) ⟨hkind, hraw, hpayload, hsession, hobject, hchunk⟩
    refine ⟨headerBytes_layout hkind, hback, ?_⟩
    intro rest block offset hdrop hroom hk hflags hchunkOk hmarkerOk
    have hread : headerOfBytes (block.drop offset) = h := hdrop ▸ hback rest
    exact checkHeader_good hread hk hflags hchunkOk hmarkerOk (by unfold blockSize; omega)
  · exact fun f => ⟨List.take_left' (headerBytes_length f.header), List.drop_left' (headerBytes_length f.header)⟩
  · intro bytes r hzero
    obtain ⟨rest, rfl⟩ := List.head?_eq_some_iff.mp hzero
    obtain ⟨hkind, hlast, hcontinued, htruncated, hcontinues⟩ := headerOfBytes_zero rest
    exact ⟨hkind, hlast, hcontinued, htruncated, hcontinues, checkHeader_pad hkind r⟩

end Sys2Proof.Machine

/-! PROOF. What the commands leave of the library, by the four courses a command of the library can take: nothing, a reply alone,
an effect that is settled, or that with a reply (R185). -/

namespace Sys2Proof.Machine

/-! ## The four courses of a command -/

/-- A state that a command of the library can leave, its effect on the working state meeting `P`. -/
inductive State.Leaves (P : W → Prop) (s : State) : State → Prop
  | unmoved : State.Leaves P s s
  | turnedDown (f : RequestFrame) (r : Status) (b : ReplyBody) : State.Leaves P s (s.turnedDown f r b)
  | worked (w : W) (h : P w) : State.Leaves P s (s.putWork w)
  | answered (f : RequestFrame) (w : W) (b : ReplyBody) (h : P w) : State.Leaves P s (s.answered f w b)

theorem State.take_cases (s : State) (code : Nat) (form : List Byte → Bool) (owner : State → RequestFrame → State) :
    s.take code form owner = s ∨ (∃ f r, s.take code form owner = s.turnedDown f r .empty) ∨
      ∃ f, s.link.frames.head? = some f ∧ acceptedIn s.lib.mode code = true ∧ form f.payload = true ∧
        s.take code form owner = owner s.dropFrame f := by
  unfold State.take
  split
  · exact .inl rfl
  next f hf =>
    dsimp only
    split
    · exact .inl rfl
    · split
      · exact .inr (.inl ⟨f, .notInMode, rfl⟩)
      next hm =>
        split
        · exact .inr (.inl ⟨f, .badArgument, rfl⟩)
        next hp => exact .inr (.inr ⟨f, hf, eq_true_of_ne_false hm, eq_true_of_ne_false hp, rfl⟩)

theorem State.leaves_onLib {P : W → Prop} {s : State} {f : W → W} (h : P (f s.work)) : s.Leaves P (s.onLib f) :=
  .worked _ h

theorem State.leaves_ask {P : W → Prop} {s : State} {code : Nat} {form : List Byte → Bool} {owner : W → List Byte → Answer}
    (h : ∀ p, acceptedIn s.work.mode code = true → P (owner s.work p).w) : s.Leaves P (s.ask code form owner) := by
  unfold State.ask
  rcases s.take_cases code form _ with e | ⟨f, r, e⟩ | ⟨f, -, hm, -, e⟩ <;> rw [e]
  · exact .unmoved
  · exact .turnedDown f r .empty
  · dsimp only
    split
    next hok => rw [hok]; exact .answered f _ _ (h f.payload hm)
    next => exact .turnedDown f _ _

theorem State.leaves_look {P : W → Prop} {s : State} {code : Nat} {form : List Byte → Bool}
    {owner : W → List Byte → Answer} : s.Leaves P (s.look code form owner) := by
  unfold State.look
  rcases s.take_cases code form _ with e | ⟨f, r, e⟩ | ⟨f, -, -, -, e⟩ <;> rw [e]
  · exact .unmoved
  · exact .turnedDown f r .empty
  · exact .turnedDown f _ _

theorem State.Leaves.mono {P Q : W → Prop} {s t : State} (h : s.Leaves P t) (hPQ : ∀ w, P w → Q w) : s.Leaves Q t := by
  cases h with
  | unmoved => exact .unmoved
  | turnedDown f r b => exact .turnedDown f r b
  | worked w h => exact .worked w (hPQ w h)
  | answered f w b h => exact .answered f w b (hPQ w h)

theorem State.Leaves.pending {P : W → Prop} {s t : State} (h : s.Leaves P t) : t.pending = s.pending := by
  cases h <;> rfl

theorem State.Leaves.settings {P : W → Prop} {s t : State} (h : s.Leaves P t) : t.settings = s.settings := by
  cases h <;> rfl

/-- A property of the library that settling keeps holds after a command when the command's own effect has it. -/
theorem State.Leaves.keeps {P : W → Prop} {Q : Lib → Prop} {s t : State} (h : s.Leaves P t) (hs : Q s.lib)
    (hPQ : ∀ w, P w → Q w.settled.toLib) : Q t.lib := by
  cases h with
  | unmoved => exact hs
  | turnedDown f r b => exact hs
  | worked w h => exact hPQ w h
  | answered f w b h => exact hPQ w h

/-! ## What each command can do -/

/-- The commands whose course is none of the four: the arrival of bytes, the requests and events that read or change the link
or the settings, and the two resets. -/
def ofLink : Instr → Bool
  | .powerOnReset _ | .resetController | .frameReceived _ | .frameMalformed _ | .requestUnknownCode | .status
  | .fetchNotices | .setSetting | .getSetting | .saveSettings | .settingsSaveComplete _ | .linkSilent => true
  | _ => false

/-- What a command of the library can do to the working state before it is settled, with what it finds there. -/
inductive Effect (w : W) : Instr → W → Prop
  | nothing (c : Instr) : Effect w c w
  | setMode (p : List Byte) (h : acceptedIn w.mode 0x03 = true) : Effect w .setMode (ownSetMode w p).w
  | resume (p : List Byte) : Effect w .resume (ownResume w p).w
  | haltStreams (p : List Byte) : Effect w .haltStreams (ownHaltStreams w p).w
  | resumeStream (p : List Byte) (h : acceptedIn w.mode 0x06 = true) : Effect w .resumeStream (ownResumeStream w p).w
  | powerWarningAsserted (h : w.pins.powerWarning = false) : Effect w .powerWarningAsserted
      (W.note { w with pins := { w.pins with powerWarning := true } } (.powerWarning true)).secureStop
  | powerWarningWithdrawn (h : w.pins.powerWarning = true) : Effect w .powerWarningWithdrawn
      (W.note { w with pins := { w.pins with powerWarning := false } } (.powerWarning false))
  | scan (p : List Byte) : Effect w .scan (ownScan w p).w
  | editCartridge (p : List Byte) : Effect w .editCartridge (ownEditCartridge w p).w
  | move (p : List Byte) : Effect w .move (ownMove w p).w
  | importCartridge (p : List Byte) : Effect w .importCartridge (ownImport w p).w
  | exportCartridge (p : List Byte) : Effect w .exportCartridge (ownExport w p).w
  | clearChangerFault (p : List Byte) : Effect w .clearChangerFault (ownClearChangerFault w p).w
  | retestDrive (p : List Byte) : Effect w .retestDrive (ownRetestDrive w p).w
  | unloadDrive (p : List Byte) : Effect w .unloadDrive (ownUnloadDrive w p).w
  | openSession (p : List Byte) : Effect w .openSession (ownOpenSession w p).w
  | beginObject (p : List Byte) : Effect w .beginObject (ownBeginObject w p).w
  | writeData (p : List Byte) : Effect w .writeData (ownWriteData w p).w
  | endObject (p : List Byte) : Effect w .endObject (ownEndObject w p).w
  | closeSession (p : List Byte) : Effect w .closeSession (ownCloseSession w p).w
  | startVerify (p : List Byte) : Effect w .startVerify (ownStartVerify w p).w
  | startRestore (p : List Byte) : Effect w .startRestore (ownStartRestore w p).w
  | readData (p : List Byte) : Effect w .readData (ownReadData w p).w
  | abortJob (p : List Byte) : Effect w .abortJob (ownAbortJob w p).w
  | releaseJob (p : List Byte) : Effect w .releaseJob (ownReleaseJob w p).w
  | startClean (p : List Byte) : Effect w .startClean (ownStartClean w p).w
  | dropSession (p : List Byte) : Effect w .dropSession (ownDropSession w p).w
  | loadExtent (p : List Byte) : Effect w .loadExtent (ownLoadExtent w p).w
  | frontDoorOpened (h : w.pins.frontDoorOpen = false) : Effect w .frontDoorOpened
      (W.frontDoorOpens { w with pins := { w.pins with frontDoorOpen := true } })
  | frontDoorClosed (h : w.pins.frontDoorOpen = true) : Effect w .frontDoorClosed
      (W.frontDoorCloses { w with pins := { w.pins with frontDoorOpen := false } })
  | mailSlotDoorOpened (h : w.pins.mailDoorOpen = false) : Effect w .mailSlotDoorOpened
      (W.note { w with pins := { w.pins with mailDoorOpen := true } } (.door false true)).mailOpened
  | mailSlotDoorClosed (h : w.pins.mailDoorOpen = true) : Effect w .mailSlotDoorClosed
      ((W.note { w with pins := { w.pins with mailDoorOpen := false } } (.door false false)).mailClosed.queueScan [.mail]).1
  | magazineRemoved (m : Magazine) (h : w.magazinePresent m = true) : Effect w (.magazineRemoved m)
      ((putMagazine w m false).magazineGone m)
  | magazineInserted (m : Magazine) (h : w.magazinePresent m = false) : Effect w (.magazineInserted m)
      ((putMagazine w m true).magazineBack m)
  | entryStart (sensed : Bool) : Effect w (.entryStart sensed) (w.startEntry sensed)
  | travelToSource (h : w.stepRuns .travel = true) : Effect w .travelArrival (w.beginStep .grip)
  | travelLoaded (h : w.stepRuns .travelLoaded = true) : Effect w .travelArrival (w.beginStep .place)
  | gripSensed (reads : LabelReads) (m : Move) (h : w.stepRuns .grip = true) (hm : w.currentMove = some m) :
      Effect w (.gripDone true reads) ((w.sensePicker true).endStep.extractDone m ((w.sensePicker true).labelBy reads))
  | gripMissed (reads : LabelReads) (m : Move) (h : w.stepRuns .grip = true) (hm : w.currentMove = some m) :
      Effect w (.gripDone false reads) (w.sensePicker false).gripMiss
  | gripIdle (sensed : Bool) (reads : LabelReads) (hm : w.currentMove = none) :
      Effect w (.gripDone sensed reads) (w.sensePicker sensed)
  | insertDone (m : Move) (h : w.stepRuns .place = true) (hm : w.currentMove = some m) :
      Effect w .insertDone (((w.sensePicker false).placeDone m).goToRest)
  | insertIdle (hm : w.currentMove = none) : Effect w .insertDone (w.sensePicker false)
  | placeBlocked (h : w.stepRuns .place = true) : Effect w .placeBlocked w.placeBlocked
  | axisStall (h : w.cc.stepTimer.isSome = true) : Effect w .axisStall w.stall
  | stepTimerExpiry (h : w.cc.stepTimer.isSome = true) : Effect w .stepTimerExpiry w.stall
  | retryDelayExpiry (k : Step) (h : w.cc.state = .retryWait) (hk : w.cc.step = some k) :
      Effect w .retryDelayExpiry (w.beginStep k)
  | homingComplete (sensed : Bool) (h : w.stepRuns .homing = true) : Effect w (.homingComplete sensed) (w.homed sensed)
  | spotCheckDone (present : Bool) (h : w.stepRuns .spotCheck = true) :
      Effect w (.spotCheckDone present) (w.spotChecked present)
  | scanPassesMail (present : Bool) (reads : LabelReads) (rest : List Element) (h : w.stepRuns .scanStep = true)
      (hr : w.remainingSlots = .mail :: rest) (ho : w.ct.mailDoorOpen = true) :
      Effect w (.scanSlotDone present reads) ((w.putRemaining rest).endStep).scanGoesOn
  | scanSlotDone (present : Bool) (reads : LabelReads) (e : Element) (rest : List Element) (h : w.stepRuns .scanStep = true)
      (hr : w.remainingSlots = e :: rest) :
      Effect w (.scanSlotDone present reads) (((w.scanResult e (findingOf w e present reads)).putRemaining rest).endStep).scanGoesOn
  | heldMoveIssue : Effect w .heldMoveIssue w.issueHeld
  | presenceLost (d : Drive) (h : w.presence d = true) : Effect w (.presenceLost d) ((w.putPresence d false).presenceFalls d)
  | presenceRise (d : Drive) (h : w.presence d = false) (ha : (w.port d).state = .absent) :
      Effect w (.presenceRise d) ((w.putPresence d true).enterInit d true)
  | presenceBack (d : Drive) (h : w.presence d = false) (ha : (w.port d).state ≠ .absent) :
      Effect w (.presenceRise d) (w.putPresence d true)
  | mediaReport (d : Drive) (m : MediaSense) (h : (w.port d).state ≠ .absent) :
      Effect w (.mediaReport d m) (w.modPort d fun q => { q with mediaSensed := some m })
  | selfTestPassed (d : Drive) (holds : MediaSense) (h : selfTesting w d = true) :
      Effect w (.selfTestResult d (.passed holds)) (w.selfTestPasses d holds)
  | selfTestFailed (d : Drive) (h : selfTesting w d = true) : Effect w (.selfTestResult d .failed) (w.selfTestFails d)
  | selfTestTimeout (d : Drive) (h : selfTesting w d = true) : Effect w (.selfTestTimeout d) (w.selfTestFails d)
  | loadComplete (d : Drive) (r : LoadReport) (asked : Bool) : Effect w (.loadComplete d r asked) (w.loadEnds d r asked)
  | locateComplete (d : Drive) (r : LocateReport) (asked : Bool) :
      Effect w (.locateComplete d r asked) (w.locateEnds d (locateTaken r) asked)
  | locateEndComplete (d : Drive) (r : LocateEndReport) (asked : Bool) :
      Effect w (.locateEndComplete d r asked) (w.locateEndEnds d (locateEndTaken r) asked)
  | readBlockComplete (d : Drive) (r : ReadReport) (asked : Bool) :
      Effect w (.readBlockComplete d r asked) (w.readEnds d (readTaken r) asked)
  | writeBlockComplete (d : Drive) (r : WriteReport) (asked : Bool) :
      Effect w (.writeBlockComplete d r asked) (w.writeEnds d r asked)
  | writeEndMarkComplete (d : Drive) (r : EndMarkReport) (asked : Bool) :
      Effect w (.writeEndMarkComplete d r asked) (w.endMarkEnds d r asked)
  | unloadComplete (d : Drive) (r : PlainReport) (asked : Bool) : Effect w (.unloadComplete d r asked) (w.unloadEnds d r asked)
  | cleanComplete (d : Drive) (r : PlainReport) (asked : Bool) : Effect w (.cleanComplete d r asked) (w.cleanEnds d r asked)
  | operationTimeout (d : Drive) : Effect w (.operationTimeout d) (w.opTimesOut d)
  | cleanAdmissionRetry (d : Drive) : Effect w (.cleanAdmissionRetry d) (w.cleanRetry d)
  | idleReturnExpiry (d : Drive) (h : (w.idleTimer d).isSome = true) : Effect w (.idleReturnExpiry d) (w.idleExpires d)
  | pendingIdleReturn (d : Drive) : Effect w (.pendingIdleReturn d) (w.idlePendingRuns d)
  | coderGrant : Effect w .coderGrant w.considerGrant
  | encodingComplete : Effect w .encodingComplete w.encodingEnds
  | writeBlockPresent (d : Drive) : Effect w (.writeBlockPresent d) (w.presentWrite d)
  | carryPlacementResume (d : Drive) : Effect w (.carryPlacementResume d) (w.resumePlacing d)
  | catalogWaitResume : Effect w .catalogWaitResume w.serveCatalogWaits
  | readBlockPresent (d : Drive) : Effect w (.readBlockPresent d) (w.presentRead d)
  | decodingComplete : Effect w .decodingComplete w.decodingEnds
  | substituteEntryAdd (n : Nat) : Effect w (.substituteEntryAdd n) (addWaiting n w)

theorem effect_ite {c : Instr} {w a b : W} {q : Prop} [Decidable q] (ha : q → Effect w c a) (hb : ¬q → Effect w c b) :
    Effect w c (if q then a else b) := by
  split
  · exact ha ‹_›
  · exact hb ‹_›


theorem effect_grip {w : W} {sensed : Bool} {reads : LabelReads} (h : w.stepRuns .grip = true) :
    Effect w (.gripDone sensed reads)
      (match (w.sensePicker sensed).currentMove with
        | some m => if sensed then (w.sensePicker sensed).endStep.extractDone m ((w.sensePicker sensed).labelBy reads)
            else (w.sensePicker sensed).gripMiss
        | none => w.sensePicker sensed) := by
  split
  next m hm =>
    cases sensed with
    | true => exact .gripSensed reads m h hm
    | false => exact .gripMissed reads m h hm
  next hm => exact .gripIdle sensed reads hm

theorem effect_insert {w : W} (h : w.stepRuns .place = true) :
    Effect w .insertDone
      (match (w.sensePicker false).currentMove with
        | some m => ((w.sensePicker false).placeDone m).goToRest
        | none => w.sensePicker false) := by
  split
  next m hm => exact .insertDone m h hm
  next hm => exact .insertIdle hm

theorem effect_retry {w : W} (h : w.cc.state = .retryWait) :
    Effect w .retryDelayExpiry (match w.cc.step with
      | some k => w.beginStep k
      | none => w) := by
  split
  next k hk => exact .retryDelayExpiry k h hk
  next => exact .nothing _

theorem effect_scanSlot {w : W} {present : Bool} {reads : LabelReads} (h : w.stepRuns .scanStep = true) :
    Effect w (.scanSlotDone present reads) (match w.remainingSlots with
      | e :: rest =>
        (((if e = .mail ∧ w.ct.mailDoorOpen = true then w
          else w.scanResult e (findingOf w e present reads)).putRemaining rest).endStep).scanGoesOn
      | [] => w) := by
  split
  next e rest hr =>
    split
    next hq => obtain ⟨rfl, ho⟩ := hq; exact .scanPassesMail present reads rest h hr ho
    next => exact .scanSlotDone present reads e rest h hr
  next => exact .nothing _

theorem effect_presenceRise {w : W} {d : Drive} (h : w.presence d = false) :
    Effect w (.presenceRise d)
      (if ((w.putPresence d true).port d).state = .absent then (w.putPresence d true).enterInit d true
       else w.putPresence d true) := by
  have hp : (w.putPresence d true).port d = w.port d := by cases d <;> rfl
  rw [hp]
  exact effect_ite (fun ha => .presenceRise d h ha) fun ha => .presenceBack d h ha

theorem effect_selfTest {w : W} {d : Drive} {r : SelfTestReport} (h : selfTesting w d = true) :
    Effect w (.selfTestResult d r) (match r with
      | .passed holds => w.selfTestPasses d holds
      | .failed => w.selfTestFails d) := by
  cases r with
  | passed holds => exact .selfTestPassed d holds h
  | failed => exact .selfTestFailed d h

/-- A command of the library answers with one of its effects, settled, or with nothing. -/
theorem exec_leaves (c : Instr) (s : State) (hc : ofLink c = false) :
    ∃ t, exec c s = .next t ∧ s.Leaves (Effect s.work c) t := by
  cases c with
  | powerOnReset _ => cases hc
  | resetController => cases hc
  | frameReceived _ => cases hc
  | frameMalformed _ => cases hc
  | requestUnknownCode => cases hc
  | identify => exact ⟨_, rfl, State.leaves_look⟩
  | status => cases hc
  | setMode => exact ⟨_, rfl, State.leaves_ask fun p hm => .setMode p hm⟩
  | resume => exact ⟨_, rfl, State.leaves_ask fun p hm => .resume p⟩
  | haltStreams => exact ⟨_, rfl, State.leaves_ask fun p hm => .haltStreams p⟩
  | resumeStream => exact ⟨_, rfl, State.leaves_ask fun p hm => .resumeStream p hm⟩
  | fetchNotices => cases hc
  | setSetting => cases hc
  | getSetting => cases hc
  | saveSettings => cases hc
  | settingsSaveComplete _ => cases hc
  | linkSilent => cases hc
  | powerWarningAsserted => exact ⟨_, rfl, State.leaves_onLib (effect_ite (fun h => .nothing _) fun h => .powerWarningAsserted (eq_false_of_ne_true h))⟩
  | powerWarningWithdrawn => exact ⟨_, rfl, State.leaves_onLib (effect_ite (fun h => .powerWarningWithdrawn h) fun h => .nothing _)⟩
  | scan => exact ⟨_, rfl, State.leaves_ask fun p hm => .scan p⟩
  | slotInfo => exact ⟨_, rfl, State.leaves_look⟩
  | cartridgeInfo => exact ⟨_, rfl, State.leaves_look⟩
  | editCartridge => exact ⟨_, rfl, State.leaves_ask fun p hm => .editCartridge p⟩
  | move => exact ⟨_, rfl, State.leaves_ask fun p hm => .move p⟩
  | importCartridge => exact ⟨_, rfl, State.leaves_ask fun p hm => .importCartridge p⟩
  | exportCartridge => exact ⟨_, rfl, State.leaves_ask fun p hm => .exportCartridge p⟩
  | clearChangerFault => exact ⟨_, rfl, State.leaves_ask fun p hm => .clearChangerFault p⟩
  | retestDrive => exact ⟨_, rfl, State.leaves_ask fun p hm => .retestDrive p⟩
  | unloadDrive => exact ⟨_, rfl, State.leaves_ask fun p hm => .unloadDrive p⟩
  | openSession => exact ⟨_, rfl, State.leaves_ask fun p hm => .openSession p⟩
  | beginObject => exact ⟨_, rfl, State.leaves_ask fun p hm => .beginObject p⟩
  | writeData => exact ⟨_, rfl, State.leaves_ask fun p hm => .writeData p⟩
  | endObject => exact ⟨_, rfl, State.leaves_ask fun p hm => .endObject p⟩
  | closeSession => exact ⟨_, rfl, State.leaves_ask fun p hm => .closeSession p⟩
  | startVerify => exact ⟨_, rfl, State.leaves_ask fun p hm => .startVerify p⟩
  | startRestore => exact ⟨_, rfl, State.leaves_ask fun p hm => .startRestore p⟩
  | readData => exact ⟨_, rfl, State.leaves_ask fun p hm => .readData p⟩
  | jobInfo => exact ⟨_, rfl, State.leaves_look⟩
  | abortJob => exact ⟨_, rfl, State.leaves_ask fun p hm => .abortJob p⟩
  | releaseJob => exact ⟨_, rfl, State.leaves_ask fun p hm => .releaseJob p⟩
  | startClean => exact ⟨_, rfl, State.leaves_ask fun p hm => .startClean p⟩
  | sessionInfo => exact ⟨_, rfl, State.leaves_look⟩
  | extentInfo => exact ⟨_, rfl, State.leaves_look⟩
  | dropSession => exact ⟨_, rfl, State.leaves_ask fun p hm => .dropSession p⟩
  | loadExtent => exact ⟨_, rfl, State.leaves_ask fun p hm => .loadExtent p⟩
  | catalogInfo => exact ⟨_, rfl, State.leaves_look⟩
  | frontDoorOpened => exact ⟨_, rfl, State.leaves_onLib (effect_ite (fun h => .nothing _) fun h => .frontDoorOpened (eq_false_of_ne_true h))⟩
  | frontDoorClosed => exact ⟨_, rfl, State.leaves_onLib (effect_ite (fun h => .frontDoorClosed h) fun h => .nothing _)⟩
  | mailSlotDoorOpened => exact ⟨_, rfl, State.leaves_onLib (effect_ite (fun h => .nothing _) fun h => .mailSlotDoorOpened (eq_false_of_ne_true h))⟩
  | mailSlotDoorClosed => exact ⟨_, rfl, State.leaves_onLib (effect_ite (fun h => .mailSlotDoorClosed h) fun h => .nothing _)⟩
  | magazineRemoved _ => exact ⟨_, rfl, State.leaves_onLib (effect_ite (fun h => .magazineRemoved _ h) fun h => .nothing _)⟩
  | magazineInserted _ => exact ⟨_, rfl, State.leaves_onLib (effect_ite (fun h => .nothing _) fun h => .magazineInserted _ (eq_false_of_ne_true h))⟩
  | entryStart _ => exact ⟨_, rfl, State.leaves_onLib (.entryStart _)⟩
  | travelArrival => exact ⟨_, rfl, State.leaves_onLib (effect_ite (fun h => .travelToSource h) fun h => effect_ite (fun h => .travelLoaded h) fun h => .nothing _)⟩
  | gripDone _ _ => exact ⟨_, rfl, State.leaves_onLib (effect_ite (fun h => effect_grip h) fun _ => .nothing _)⟩
  | insertDone => exact ⟨_, rfl, State.leaves_onLib (effect_ite (fun h => effect_insert h) fun _ => .nothing _)⟩
  | placeBlocked => exact ⟨_, rfl, State.leaves_onLib (effect_ite (fun h => .placeBlocked h) fun h => .nothing _)⟩
  | axisStall => exact ⟨_, rfl, State.leaves_onLib (effect_ite (fun h => .axisStall h) fun h => .nothing _)⟩
  | stepTimerExpiry => exact ⟨_, rfl, State.leaves_onLib (effect_ite (fun h => .stepTimerExpiry h) fun h => .nothing _)⟩
  | retryDelayExpiry => exact ⟨_, rfl, State.leaves_onLib (effect_ite (fun h => effect_retry h) fun _ => .nothing _)⟩
  | homingComplete _ => exact ⟨_, rfl, State.leaves_onLib (effect_ite (fun h => .homingComplete _ h) fun h => .nothing _)⟩
  | spotCheckDone _ => exact ⟨_, rfl, State.leaves_onLib (effect_ite (fun h => .spotCheckDone _ h) fun h => .nothing _)⟩
  | scanSlotDone _ _ => exact ⟨_, rfl, State.leaves_onLib (effect_ite (fun h => effect_scanSlot h) fun _ => .nothing _)⟩
  | heldMoveIssue => exact ⟨_, rfl, State.leaves_onLib .heldMoveIssue⟩
  | presenceLost _ => exact ⟨_, rfl, State.leaves_onLib (effect_ite (fun h => .presenceLost _ h) fun h => .nothing _)⟩
  | presenceRise _ => exact ⟨_, rfl, State.leaves_onLib (effect_ite (fun h => .nothing _) fun h => effect_presenceRise (eq_false_of_ne_true h))⟩
  | mediaReport _ _ => exact ⟨_, rfl, State.leaves_onLib (effect_ite (fun h => .nothing _) fun h => .mediaReport _ _ h)⟩
  | selfTestResult _ _ => exact ⟨_, rfl, State.leaves_onLib (effect_ite (fun h => effect_selfTest h) fun _ => .nothing _)⟩
  | selfTestTimeout _ => exact ⟨_, rfl, State.leaves_onLib (effect_ite (fun h => .selfTestTimeout _ h) fun h => .nothing _)⟩
  | loadComplete _ _ _ => exact ⟨_, rfl, State.leaves_onLib (.loadComplete _ _ _)⟩
  | locateComplete _ _ _ => exact ⟨_, rfl, State.leaves_onLib (.locateComplete _ _ _)⟩
  | locateEndComplete _ _ _ => exact ⟨_, rfl, State.leaves_onLib (.locateEndComplete _ _ _)⟩
  | readBlockComplete _ _ _ => exact ⟨_, rfl, State.leaves_onLib (.readBlockComplete _ _ _)⟩
  | writeBlockComplete _ _ _ => exact ⟨_, rfl, State.leaves_onLib (.writeBlockComplete _ _ _)⟩
  | writeEndMarkComplete _ _ _ => exact ⟨_, rfl, State.leaves_onLib (.writeEndMarkComplete _ _ _)⟩
  | unloadComplete _ _ _ => exact ⟨_, rfl, State.leaves_onLib (.unloadComplete _ _ _)⟩
  | cleanComplete _ _ _ => exact ⟨_, rfl, State.leaves_onLib (.cleanComplete _ _ _)⟩
  | operationTimeout _ => exact ⟨_, rfl, State.leaves_onLib (.operationTimeout _)⟩
  | cleanAdmissionRetry _ => exact ⟨_, rfl, State.leaves_onLib (.cleanAdmissionRetry _)⟩
  | idleReturnExpiry _ => exact ⟨_, rfl, State.leaves_onLib (effect_ite (fun h => .idleReturnExpiry _ h) fun h => .nothing _)⟩
  | pendingIdleReturn _ => exact ⟨_, rfl, State.leaves_onLib (.pendingIdleReturn _)⟩
  | coderGrant => exact ⟨_, rfl, State.leaves_onLib .coderGrant⟩
  | encodingComplete => exact ⟨_, rfl, State.leaves_onLib .encodingComplete⟩
  | writeBlockPresent _ => exact ⟨_, rfl, State.leaves_onLib (.writeBlockPresent _)⟩
  | carryPlacementResume _ => exact ⟨_, rfl, State.leaves_onLib (.carryPlacementResume _)⟩
  | catalogWaitResume => exact ⟨_, rfl, State.leaves_onLib .catalogWaitResume⟩
  | readBlockPresent _ => exact ⟨_, rfl, State.leaves_onLib (.readBlockPresent _)⟩
  | decodingComplete => exact ⟨_, rfl, State.leaves_onLib .decodingComplete⟩
  | substituteEntryAdd _ => exact ⟨_, rfl, State.leaves_onLib (.substituteEntryAdd _)⟩

end Sys2Proof.Machine

/-! PROOF. The mode, the gate, the enables and the lines (R186, R187): only the commands that name them write them. -/

namespace Sys2Proof.Machine

/-- The commands that write a line, the mode, the gate or an enable. -/
def ofLines : Instr → Bool
  | .setMode | .resume | .haltStreams | .resumeStream | .powerWarningAsserted | .powerWarningWithdrawn | .frontDoorOpened
  | .frontDoorClosed | .mailSlotDoorOpened | .mailSlotDoorClosed | .magazineRemoved _ | .magazineInserted _
  | .presenceLost _ | .presenceRise _ => true
  | _ => false

theorem Effect.ambient {c : Instr} {w v : W} (h : Effect w c v) (hl : ofLines c = false) : v.ambient = w.ambient := by
  cases h with
  | setMode | resume | haltStreams | resumeStream | powerWarningAsserted | powerWarningWithdrawn | frontDoorOpened 
  | frontDoorClosed | mailSlotDoorOpened | mailSlotDoorClosed | magazineRemoved | magazineInserted
  | presenceLost | presenceRise | presenceBack => cases hl
  | _ => simp

/-! ## What the events of the lines, and the requests that name them, write -/

theorem W.secureStop_ambient (w : W) :
    w.secureStop.ambient =
      if w.mode = .secured then w.ambient else { w.ambient with mode := .secured, gateOpen := false } := by
  unfold W.secureStop
  split
  · rfl
  · rw [W.parseBoth_ambient, W.ambient_foldl _ W.secureJob_ambient]
    rfl

theorem ownSetMode_ambient (w : W) (p : List Byte) :
    ∃ m, (ownSetMode w p).w.ambient = { w.ambient with mode := m } ∧ (m = w.mode ∨ m = .online ∨ m = .maintenance) := by
  unfold ownSetMode
  dsimp only
  split
  · split
    · exact ⟨w.mode, rfl, .inl rfl⟩
    · exact ⟨.online, W.nowOnline_ambient w, .inr (.inl rfl)⟩
  · split
    · split
      · exact ⟨w.mode, rfl, .inl rfl⟩
      · exact ⟨.maintenance, rfl, .inr (.inr rfl)⟩
    · exact ⟨w.mode, rfl, .inl rfl⟩

theorem ownResume_ambient (w : W) (p : List Byte) :
    (ownResume w p).w = w ∨ (w.pins.powerWarning = false ∧
      (ownResume w p).w.ambient = { w.ambient with gateOpen := true, mode := .online }) := by
  unfold ownResume
  split
  · exact .inl rfl
  · split
    · exact .inl rfl
    next h => exact .inr ⟨eq_false_of_ne_true h, W.resumeAll_ambient w⟩

theorem ownHaltStreams_ambient (w : W) (p : List Byte) :
    (ownHaltStreams w p).w.ambient = { w.ambient with gateOpen := false, enable0 := false, enable1 := false } := rfl

theorem ownResumeStream_ambient (w : W) (p : List Byte) :
    (ownResumeStream w p).w = w ∨ ∃ e0 e1,
      (ownResumeStream w p).w.ambient = { w.ambient with gateOpen := true, enable0 := e0, enable1 := e1 } := by
  unfold ownResumeStream
  dsimp only
  split
  · exact .inr ⟨true, w.streams.d1.enable, rfl⟩
  · split
    · exact .inr ⟨w.streams.d0.enable, true, rfl⟩
    · exact .inl rfl

/-- What a command that writes a line, the mode, the gate or an enable leaves of what all other work leaves alone. -/
inductive AmbientChange (a : Ambient) : Instr → Ambient → Prop
  | setMode (m : Mode) (h : a.mode ≠ .secured) (hm : m ≠ .secured) : AmbientChange a .setMode { a with mode := m }
  | resume (h : a.pins.powerWarning = false) : AmbientChange a .resume { a with gateOpen := true, mode := .online }
  | haltStreams : AmbientChange a .haltStreams { a with gateOpen := false, enable0 := false, enable1 := false }
  | resumeStream (e0 e1 : Bool) (h : a.mode ≠ .secured) :
      AmbientChange a .resumeStream { a with gateOpen := true, enable0 := e0, enable1 := e1 }
  | warned (h : a.mode = .secured) :
      AmbientChange a .powerWarningAsserted { a with pins := { a.pins with powerWarning := true } }
  | secured : AmbientChange a .powerWarningAsserted
      { a with pins := { a.pins with powerWarning := true }, mode := .secured, gateOpen := false }
  | withdrawn : AmbientChange a .powerWarningWithdrawn { a with pins := { a.pins with powerWarning := false } }
  | frontOpened : AmbientChange a .frontDoorOpened { a with pins := { a.pins with frontDoorOpen := true } }
  | frontClosed : AmbientChange a .frontDoorClosed { a with pins := { a.pins with frontDoorOpen := false } }
  | mailOpened : AmbientChange a .mailSlotDoorOpened
      { a with pins := { a.pins with mailDoorOpen := true }, mailDoorOpen := true }
  | mailClosed : AmbientChange a .mailSlotDoorClosed
      { a with pins := { a.pins with mailDoorOpen := false }, mailDoorOpen := false }
  | leftRemoved : AmbientChange a (.magazineRemoved .left) { a with pins := { a.pins with magazineLeft := false } }
  | rightRemoved : AmbientChange a (.magazineRemoved .right) { a with pins := { a.pins with magazineRight := false } }
  | leftInserted : AmbientChange a (.magazineInserted .left) { a with pins := { a.pins with magazineLeft := true } }
  | rightInserted : AmbientChange a (.magazineInserted .right) { a with pins := { a.pins with magazineRight := true } }
  | lost0 : AmbientChange a (.presenceLost .d0) { a with pins := { a.pins with presence0 := false } }
  | lost1 : AmbientChange a (.presenceLost .d1) { a with pins := { a.pins with presence1 := false } }
  | risen0 : AmbientChange a (.presenceRise .d0) { a with pins := { a.pins with presence0 := true } }
  | risen1 : AmbientChange a (.presenceRise .d1) { a with pins := { a.pins with presence1 := true } }

theorem acceptedIn_ne_secured {m : Mode} {k : Nat} (hk : refusedSecured.contains k = true) (h : acceptedIn m k = true) :
    m ≠ .secured := by
  rintro rfl
  simp only [acceptedIn, hk] at h
  cases h

/-- Every command leaves what `Ambient` holds, or writes of it what it names. -/
theorem Effect.ambient_cases {c : Instr} {w v : W} (h : Effect w c v) :
    v.ambient = w.ambient ∨ AmbientChange w.ambient c v.ambient := by
  by_cases hl : ofLines c = false
  · exact .inl (h.ambient hl)
  cases h with
  | nothing => exact .inl rfl
  | setMode p hm =>
    have hs := acceptedIn_ne_secured rfl hm
    obtain ⟨m, e, hm⟩ := ownSetMode_ambient w p
    rw [e]
    refine .inr (.setMode m hs ?_)
    rcases hm with rfl | rfl | rfl
    · exact hs
    · exact nofun
    · exact nofun
  | resume p =>
    rcases ownResume_ambient w p with e | ⟨hp, e⟩ <;> rw [e]
    · exact .inl rfl
    · exact .inr (.resume hp)
  | haltStreams p => exact .inr .haltStreams
  | resumeStream p hm =>
    rcases ownResumeStream_ambient w p with e | ⟨e0, e1, e⟩ <;> rw [e]
    · exact .inl rfl
    · exact .inr (.resumeStream e0 e1 (acceptedIn_ne_secured rfl hm))
  | powerWarningAsserted =>
    rw [W.secureStop_ambient]
    split
    next hs => exact .inr (.warned hs)
    next => exact .inr .secured
  | powerWarningWithdrawn => exact .inr .withdrawn
  | frontDoorOpened => rw [W.frontDoorOpens_ambient]; exact .inr .frontOpened
  | frontDoorClosed => rw [W.frontDoorCloses_ambient]; exact .inr .frontClosed
  | mailSlotDoorOpened => exact .inr .mailOpened
  | mailSlotDoorClosed => rw [W.queueScan_ambient]; exact .inr .mailClosed
  | magazineRemoved m =>
    rw [W.magazineGone_ambient]
    cases m with
    | left => exact .inr .leftRemoved
    | right => exact .inr .rightRemoved
  | magazineInserted m =>
    rw [W.magazineBack_ambient]
    cases m with
    | left => exact .inr .leftInserted
    | right => exact .inr .rightInserted
  | presenceLost d =>
    rw [W.presenceFalls_ambient]
    cases d with
    | d0 => exact .inr .lost0
    | d1 => exact .inr .lost1
  | presenceRise d =>
    rw [W.enterInit_ambient]
    cases d with
    | d0 => exact .inr .risen0
    | d1 => exact .inr .risen1
  | presenceBack d =>
    cases d with
    | d0 => exact .inr .risen0
    | d1 => exact .inr .risen1
  | _ => exact absurd rfl hl

end Sys2Proof.Machine

/-! PROOF. The two resets and the commands of the link, and what a property of the library needs to be kept by every step. -/

namespace Sys2Proof.Machine

/-! ## The controller reset (R194), stage by stage -/

/-- The records of the cartridges, sessions and jobs at a controller reset (R90, R146, R160). -/
def W.recordsReset (w : W) : W :=
  let w1 := w.js.jobs.foldl W.resetCartridge w
  let w2 := w1.cg.sessions.foldl W.resetSession w1
  w2.cg.sessions.foldl (fun (v : W) s => v.deriveSession s.id) w2.resetJobs

/-- The Cartridge Table, the streams, the coder and the mode at a controller reset (R21, R109, R127, R187). -/
def W.enginesReset (w : W) (p : Pins) : W :=
  { w.resetTable with
    signals := [], dispatchDue := false, catalogDue := false, streams := ⟨resetStream, resetStream⟩,
    coder := { busy := none, lastServed := .d1 }, mode := modeAfterReset p, gateOpen := !p.powerWarning }

/-- The changer and the ports at a controller reset (R44, R69). -/
def W.machinesReset (w : W) : W := ((w.resetChangerNow).resetPortNow .d0).resetPortNow .d1

@[simp] theorem W.recordsReset_ambient (w : W) : w.recordsReset.ambient = w.ambient := by
  simp [W.recordsReset]

@[simp] theorem W.machinesReset_ambient (w : W) : w.machinesReset.ambient = w.ambient := by
  simp [W.machinesReset]

theorem W.resetTable_ambient (w : W) : w.resetTable.ambient = { w.ambient with mailDoorOpen := w.pins.mailDoorOpen } := by
  unfold W.resetTable
  dsimp only
  split
  next h => simp [W.ambient, h, -W.ambient_fold]
  · split
    next h => simp [W.mailOpened, W.ambient, h, -W.ambient_fold]
    next h => simp [W.mailClosed, W.ambient, h, -W.ambient_fold]

theorem W.enginesReset_ambient (w : W) (p : Pins) : (w.enginesReset p).ambient =
    { w.ambient with mode := modeAfterReset p, gateOpen := !p.powerWarning, enable0 := true, enable1 := true,
                     mailDoorOpen := w.pins.mailDoorOpen } := by
  have h := w.resetTable_ambient
  simp only [W.ambient, Ambient.mk.injEq] at h
  obtain ⟨-, -, hp, -, -, hset, hslots, hcarts, hdoor⟩ := h
  simp [W.enginesReset, W.ambient, -W.ambient_fold, hp, hset, hslots, hcarts, hdoor, resetStream]

/-- The stages of a controller reset: the records, the engines by the lines as they stand, the machines, then the scan of what is
UNKNOWN. -/
theorem W.resetBlocks_eq (w : W) : w.resetBlocks =
    let v := (w.recordsReset.enginesReset w.pins).machinesReset
    let slots := v.unknownSlots ++ (if w.mailFoundClosed then [Element.mail] else [])
    if slots = [] then v else (v.queueScan slots).1 := rfl

/-- Of what `Ambient` holds, a controller reset writes the mode, the gate and the enables, and the mail-slot door as the Cartridge
Table knows it (R21, R127, R187). -/
theorem W.resetBlocks_ambient (w : W) : w.resetBlocks.ambient =
    { w.ambient with mode := modeAfterReset w.pins, gateOpen := !w.pins.powerWarning, enable0 := true, enable1 := true,
                     mailDoorOpen := w.pins.mailDoorOpen } := by
  have hd : w.recordsReset.pins.mailDoorOpen = w.pins.mailDoorOpen := by
    show w.recordsReset.ambient.pins.mailDoorOpen = w.ambient.pins.mailDoorOpen
    rw [W.recordsReset_ambient]
  have h := w.recordsReset.enginesReset_ambient w.pins
  rw [W.recordsReset_ambient, hd] at h
  rw [W.resetBlocks_eq]
  dsimp only
  rw [W.ambient_ite, W.queueScan_ambient, ite_self, W.machinesReset_ambient, h]

/-! ## What the commands of the link, and the two resets, leave -/

/-- The state that LINK SILENT leaves when the timer ran (R188). -/
def State.silenced (s : State) : State :=
  State.onLib { s with link := { s.link with silence := none } } fun w =>
    if w.setting 9 = 2 then (w.note (.linkSilent s.link.silenceLimit)).secureStop
    else w.note (.linkSilent s.link.silenceLimit)

/-- What a command may do to the settings: only SET SETTING writes a working copy, only the completion of a save the store, only
these two ends of a save the snapshot (R193). -/
def SettingsCourse (c : Instr) (x y : SettingsState) : Prop :=
  (c ≠ .setSetting → y.working = x.working) ∧
  ((∀ b, c ≠ .settingsSaveComplete b) → y.stored = x.stored) ∧
  (c ≠ .saveSettings → (∀ b, c ≠ .settingsSaveComplete b) → y.saving = x.saving)

theorem SettingsCourse.refl (c : Instr) (x : SettingsState) : SettingsCourse c x x :=
  ⟨fun _ => rfl, fun _ => rfl, fun _ _ => rfl⟩

/-- What a command of the link leaves: the library as it was, or a reset, or what link silence brings. -/
inductive State.LinkCourse (s : State) : Instr → State → Prop
  | kept (c : Instr) (t : State) (hl : t.lib = s.lib) (hp : t.pending = s.pending)
      (hs : SettingsCourse c s.settings t.settings) : State.LinkCourse s c t
  | powerOn (p : Pins) : State.LinkCourse s (.powerOnReset p) (s.powerOn p)
  | reset (f : RequestFrame) : State.LinkCourse s .resetController (s.dropFrame.sendReply f .ok .empty).resetController
  | silenced : State.LinkCourse s .linkSilent s.silenced

theorem State.linkCourse_take {s : State} {c : Instr} {code : Nat} {form : List Byte → Bool}
    {owner : State → RequestFrame → State} (h : ∀ f, s.LinkCourse c (owner s.dropFrame f)) :
    s.LinkCourse c (s.take code form owner) := by
  rcases s.take_cases code form owner with e | ⟨f, r, e⟩ | ⟨f, -, -, -, e⟩ <;> rw [e]
  · exact .kept _ _ rfl rfl (.refl c _)
  · exact .kept _ _ rfl rfl (.refl c _)
  · exact h f

theorem exec_linkCourse (c : Instr) (s : State) (hc : ofLink c = true) : ∃ t, exec c s = .next t ∧ s.LinkCourse c t := by
  cases c with
  | powerOnReset p => exact ⟨_, rfl, .powerOn p⟩
  | resetController => exact ⟨_, rfl, State.linkCourse_take fun f => .reset f⟩
  | frameReceived bytes => exact ⟨_, rfl, .kept _ _ rfl rfl (.refl _ _)⟩
  | frameMalformed bytes => exact ⟨_, rfl, .kept _ _ rfl rfl (.refl _ _)⟩
  | requestUnknownCode =>
    refine ⟨_, rfl, ?_⟩
    split
    · exact .kept _ _ rfl rfl (.refl _ _)
    · split <;> exact .kept _ _ rfl rfl (.refl _ _)
  | status | fetchNotices => exact ⟨_, rfl, State.linkCourse_take fun f => .kept _ _ rfl rfl (.refl _ _)⟩
  | setSetting =>
    refine ⟨_, rfl, State.linkCourse_take fun f => ?_⟩
    dsimp only
    split
    · exact .kept _ _ rfl rfl (.refl _ _)
    · exact .kept _ _ rfl rfl ⟨fun h => absurd rfl h, fun _ => rfl, fun _ _ => rfl⟩
  | getSetting =>
    exact ⟨_, rfl, State.linkCourse_take fun f => by dsimp only; split <;> exact .kept _ _ rfl rfl (.refl _ _)⟩
  | saveSettings =>
    refine ⟨_, rfl, State.linkCourse_take fun f => ?_⟩
    dsimp only
    split
    · exact .kept _ _ rfl rfl (.refl _ _)
    · exact .kept _ _ rfl rfl ⟨fun _ => rfl, fun _ => rfl, fun h => absurd rfl h⟩
  | settingsSaveComplete written =>
    refine ⟨_, rfl, ?_⟩
    split
    · exact .kept _ _ rfl rfl (.refl _ _)
    · exact .kept _ _ rfl rfl ⟨fun _ => rfl, fun h => absurd rfl (h written), fun _ h => absurd rfl (h written)⟩
  | linkSilent =>
    refine ⟨_, rfl, ?_⟩
    split
    · exact .kept _ _ rfl rfl (.refl _ _)
    · exact .silenced
  | _ => cases hc

/-! ## What every step keeps of the library -/

theorem State.powerOn_lib (s : State) (p : Pins) : (s.powerOn p).lib = powerOnLib p := rfl

theorem State.resetController_lib (s : State) : s.resetController.lib =
    (W.afterReset
      { toLib := (W.resetBlocks { toLib := s.lib, set := loadedSettings s.settings, out := [] }).toLib,
        set := loadedSettings s.settings, out := [] }).settled.toLib := rfl

/-- A property of the library is kept by every step when the second that passes, every effect, settling, the secure stop and the
two resets keep it. -/
theorem step_keeps {Q : Lib → Prop} {s t : State} (ht : step s = .next t) (hs : Q s.lib) (htick : Q s.lib.tick)
    (heffect : ∀ c v, Effect s.work c v → Q v.toLib) (hsettle : ∀ w : W, Q w.toLib → Q w.settled.toLib)
    (hstop : ∀ w : W, w.toLib = s.lib → Q w.secureStop.toLib) (hpower : ∀ p, Q (powerOnLib p))
    (hreset : ∀ w : W, w.toLib = s.lib → Q w.resetBlocks.toLib)
    (hafter : ∀ w : W, Q w.toLib → Q w.afterReset.toLib) : Q t.lib := by
  unfold step at ht
  split at ht
  · obtain rfl := Host.Outcome.next.inj ht
    exact htick
  next c rest _ =>
    cases hc : ofLink c with
    | false =>
      obtain ⟨u, hu, hl⟩ := exec_leaves c { s with pending := rest } hc
      obtain rfl := Host.Outcome.next.inj (hu.symm.trans ht)
      exact hl.keeps hs fun v hv => hsettle v (heffect c v hv)
    | true =>
      obtain ⟨u, hu, hl⟩ := exec_linkCourse c { s with pending := rest } hc
      obtain rfl := Host.Outcome.next.inj (hu.symm.trans ht)
      cases hl with
      | kept _ _ hk _ _ => rw [hk]; exact hs
      | powerOn p => rw [State.powerOn_lib]; exact hpower p
      | reset f =>
        rw [State.resetController_lib]
        exact hsettle _ (hafter _ (hreset { toLib := s.lib, set := loadedSettings s.settings, out := [] } rfl))
      | silenced =>
        refine hsettle _ ?_
        dsimp only
        split
        · exact hstop _ rfl
        · exact hs

end Sys2Proof.Machine

/-! PROOF. The law of the gate, the sizes of the tables, and who may change the mode, the gate, the lines and the settings. What they
turn on is `AmbientChange`: of what settling leaves alone, a command writes what it names. -/

namespace Sys2Proof.Machine

/-! ## The law of the gate (R186, R187) -/

/-- The law of the gate, of what all work but a few commands' leaves alone. -/
structure Ambient.Secure (a : Ambient) : Prop where
  gate : a.mode = .secured → a.gateOpen = false
  warning : a.pins.powerWarning = true → a.mode = .secured

theorem W.secure_iff (w : W) : w.ambient.Secure ↔ w.toLib.Secure :=
  ⟨fun h => ⟨h.gate, h.warning⟩, fun h => ⟨h.gate, h.warning⟩⟩

theorem AmbientChange.secure {c : Instr} {a b : Ambient} (h : AmbientChange a c b) (ha : a.Secure) : b.Secure := by
  cases h with
  | setMode m h hm => exact ⟨fun e => absurd e hm, fun e => absurd (ha.warning e) h⟩
  | resume h => exact ⟨nofun, fun e => absurd (h.symm.trans e) nofun⟩
  | haltStreams => exact ⟨fun _ => rfl, ha.warning⟩
  | resumeStream e0 e1 h => exact ⟨fun e => absurd e h, ha.warning⟩
  | warned h => exact ⟨ha.gate, fun _ => h⟩
  | secured => exact ⟨fun _ => rfl, fun _ => rfl⟩
  | withdrawn => exact ⟨ha.gate, nofun⟩
  | _ => exact ⟨ha.gate, ha.warning⟩

theorem modeAfterReset_gate (p : Pins) : modeAfterReset p = .secured → (!p.powerWarning) = false := by
  unfold modeAfterReset
  cases p.powerWarning <;> simp

theorem modeAfterReset_warning {p : Pins} (h : p.powerWarning = true) : modeAfterReset p = .secured := by
  simp [modeAfterReset, h]

theorem W.secureStop_secure {w : W} (h : w.toLib.Secure) : w.secureStop.toLib.Secure := by
  rw [← W.secure_iff, W.secureStop_ambient] at *
  split
  · exact h
  · exact ⟨fun _ => rfl, fun _ => rfl⟩

theorem W.resetBlocks_secure (w : W) : w.resetBlocks.toLib.Secure := by
  rw [← W.secure_iff, W.resetBlocks_ambient]
  exact ⟨modeAfterReset_gate _, modeAfterReset_warning⟩

/-- Settles O8: the law reads `W.ambient` alone, which settling leaves, and every command that writes of it keeps the law. -/
theorem everyStepKeepsTheGateClosedWhileSecured : Obligations.EveryStepKeepsTheGateClosedWhileSecured := by
  intro s t hs ht
  refine step_keeps ht hs ⟨hs.gate, hs.warning⟩ (fun c v hv => ?_) (fun w h => ?_) (fun w h => ?_)
    (fun p => ⟨modeAfterReset_gate p, modeAfterReset_warning⟩) (fun w _ => w.resetBlocks_secure) (fun w h => ?_)
  · rw [← W.secure_iff]
    rcases hv.ambient_cases with e | e
    · rw [e]; exact (W.secure_iff _).mpr hs
    · exact e.secure ((W.secure_iff _).mpr hs)
  · rw [← W.secure_iff, W.settled_ambient]; exact (W.secure_iff _).mpr h
  · exact W.secureStop_secure (h ▸ hs)
  · rw [← W.secure_iff, W.afterReset_ambient]; exact (W.secure_iff _).mpr h

/-! ## The Cartridge Table's sizes (R1 to R3) -/

/-- The law of the Cartridge Table's sizes, of what all work but a few commands' leaves alone. -/
structure Ambient.TableSound (a : Ambient) : Prop where
  slots : a.slots = 40
  carts : a.carts = 64
  door : a.mailDoorOpen = a.pins.mailDoorOpen

theorem W.tableSound_iff (w : W) : w.ambient.TableSound ↔ w.toLib.TableSound :=
  ⟨fun h => ⟨h.slots, h.carts, h.door⟩, fun h => ⟨h.slots, h.carts, h.door⟩⟩

theorem AmbientChange.tableSound {c : Instr} {a b : Ambient} (h : AmbientChange a c b) (ha : a.TableSound) :
    b.TableSound := by
  cases h with
  | mailOpened | mailClosed => exact ⟨ha.slots, ha.carts, rfl⟩
  | _ => exact ⟨ha.slots, ha.carts, ha.door⟩

theorem Effect.tableSound {c : Instr} {w v : W} (h : Effect w c v) (hw : w.toLib.TableSound) : v.toLib.TableSound := by
  rw [← W.tableSound_iff] at *
  rcases h.ambient_cases with e | e
  · rw [e]; exact hw
  · exact e.tableSound hw

theorem W.settled_tableSound {w : W} (h : w.toLib.TableSound) : w.settled.toLib.TableSound := by
  rw [← W.tableSound_iff, W.settled_ambient]; exact (W.tableSound_iff _).mpr h

theorem W.secureStop_tableSound {w : W} (h : w.toLib.TableSound) : w.secureStop.toLib.TableSound := by
  rw [← W.tableSound_iff, W.secureStop_ambient] at *
  split
  · exact h
  · exact ⟨h.slots, h.carts, h.door⟩

theorem W.resetBlocks_tableSound {w : W} (h : w.toLib.TableSound) : w.resetBlocks.toLib.TableSound := by
  rw [← W.tableSound_iff, W.resetBlocks_ambient] at *
  exact ⟨h.slots, h.carts, rfl⟩

theorem W.afterReset_tableSound {w : W} (h : w.toLib.TableSound) : w.afterReset.toLib.TableSound := by
  rw [← W.tableSound_iff, W.afterReset_ambient]; exact (W.tableSound_iff _).mpr h

theorem step_tableSound {s t : State} (hs : s.lib.TableSound) (ht : step s = .next t) : t.lib.TableSound :=
  step_keeps ht hs ⟨hs.slots, hs.carts, hs.door⟩ (fun _ _ hv => hv.tableSound hs) (fun _ => W.settled_tableSound)
    (fun _ h => W.secureStop_tableSound (h ▸ hs)) (fun _ => ⟨by simp [powerOnLib, powerOnTable], rfl, rfl⟩)
    (fun _ h => W.resetBlocks_tableSound (h ▸ hs)) (fun _ => W.afterReset_tableSound)

/-! ## The tables' sizes (R22 to R24, R70, R147, R149) -/

theorem W.secureStop_inBounds {w : W} (h : w.inBounds) : w.secureStop.inBounds := by
  unfold W.secureStop
  split
  · exact h
  · exact (W.parseBoth_inBounds _).mpr (W.inBounds_foldl _ (fun _ n h => W.secureJob_inBounds _ n h) _ _ h)

theorem W.nowOnline_inBounds {w : W} (h : w.inBounds) : w.nowOnline.inBounds := by
  exact W.idlePendingRuns_inBounds _ _ (W.idlePendingRuns_inBounds _ _ (W.settled_inBounds _ h))

theorem W.resumeAll_inBounds {w : W} (h : w.inBounds) : w.resumeAll.inBounds :=
  W.nowOnline_inBounds ((W.parseBoth_inBounds _).mpr
    (W.inBounds_foldl _ (fun _ n h => W.readerResumes_inBounds _ n h) _ _ h))

theorem ownSetMode_inBounds {w : W} (p : List Byte) (h : w.inBounds) : (ownSetMode w p).w.inBounds := by
  unfold ownSetMode
  dsimp only
  split
  · split
    · exact h
    · exact W.nowOnline_inBounds h
  · split
    · split <;> exact h
    · exact h

theorem ownResume_inBounds {w : W} (p : List Byte) (h : w.inBounds) : (ownResume w p).w.inBounds := by
  unfold ownResume
  split
  · exact h
  · split
    · exact h
    · exact W.resumeAll_inBounds h

theorem ownResumeStream_inBounds {w : W} (p : List Byte) (h : w.inBounds) : (ownResumeStream w p).w.inBounds := by
  unfold ownResumeStream
  dsimp only
  (repeat' split) <;> exact h

theorem Effect.inBounds {c : Instr} {w v : W} (h : Effect w c v) (hB : w.inBounds) : v.inBounds := by
  cases h with
  | setMode p => exact ownSetMode_inBounds p hB
  | resume p => exact ownResume_inBounds p hB
  | resumeStream p => exact ownResumeStream_inBounds p hB
  | powerWarningAsserted => exact W.secureStop_inBounds hB
  | frontDoorOpened => exact (W.frontDoorOpens_inBounds _).mpr hB
  | frontDoorClosed => exact W.frontDoorCloses_inBounds _ hB
  | mailSlotDoorClosed => exact W.queueScan_inBounds _ _ hB
  | magazineRemoved m => exact W.magazineGone_inBounds _ m (by cases m <;> exact hB)
  | magazineInserted m => exact W.magazineBack_inBounds _ m (by cases m <;> exact hB)
  | presenceLost d => exact W.presenceFalls_inBounds _ d (by cases d <;> exact hB)
  | presenceRise d => exact W.enterInit_inBounds _ d true (by cases d <;> exact hB)
  | presenceBack d => cases d <;> exact hB
  | nothing | haltStreams | powerWarningWithdrawn | mailSlotDoorOpened | gripIdle | insertIdle | mediaReport => exact hB
  | _ => simp [hB]

theorem W.recordsReset_inBounds {w : W} (h : w.inBounds) : w.recordsReset.inBounds := by
  have h1 : (w.js.jobs.foldl W.resetCartridge w).inBounds :=
    W.inBounds_foldl _ (fun _ j h => (W.resetCartridge_inBounds _ j).mpr h) _ _ h
  have h2 := W.inBounds_foldl W.resetSession (fun _ x h => W.resetSession_inBounds _ x h)
    (w.js.jobs.foldl W.resetCartridge w).cg.sessions _ h1
  exact W.inBounds_foldl _ (fun v x h => by simpa using h) _ _ ((W.resetJobs_inBounds _).mpr h2)

theorem W.resetBlocks_inBounds {w : W} (h : w.inBounds) : w.resetBlocks.inBounds := by
  have he : (w.recordsReset.enginesReset w.pins).inBounds := W.resetTable_inBounds _ (W.recordsReset_inBounds h)
  have hm : (w.recordsReset.enginesReset w.pins).machinesReset.inBounds :=
    W.resetPortNow_inBounds _ _ (W.resetPortNow_inBounds _ _ (W.resetChangerNow_inBounds _ he))
  rw [W.resetBlocks_eq]
  exact W.inBounds_ite _ _ _ hm (W.queueScan_inBounds _ _ hm)

theorem powerOnLib_inBounds (p : Pins) : (powerOnLib p).inBounds := by
  unfold powerOnLib Lib.inBounds powerOnChanger
  dsimp only
  split <;> simp [boundsOk, resetLib, resetScheduler, resetChanger]

theorem step_inBounds {s t : State} (hs : s.lib.inBounds) (ht : step s = .next t) : t.lib.inBounds :=
  step_keeps ht hs hs (fun _ _ hv => hv.inBounds hs) (fun w h => W.settled_inBounds w h)
    (fun _ h => W.secureStop_inBounds (show Lib.inBounds _ from h ▸ hs)) powerOnLib_inBounds
    (fun _ h => W.resetBlocks_inBounds (show Lib.inBounds _ from h ▸ hs)) (fun w h => W.afterReset_inBounds w h)

/-- Settles O7. -/
theorem everyStepKeepsTheTablesInBounds : Obligations.EveryStepKeepsTheTablesInBounds :=
  ⟨fun _ _ => step_inBounds, fun _ _ => step_tableSound⟩

/-! ## Who may change what (R2, R36, R39, R61, R122, R123, R187, R193) -/

/-- Of what all work but a few commands' leaves alone, a command changes no more than it names. -/
def ChangesOnlyNamed (c : Instr) (a b : Ambient) : Prop :=
  (c ≠ .setMode → c ≠ .resume → c ≠ .resetController → c ≠ .powerWarningAsserted → c ≠ .linkSilent →
    b.mode = a.mode ∧ (c ≠ .haltStreams → c ≠ .resumeStream →
      b.gateOpen = a.gateOpen ∧ b.enable0 = a.enable0 ∧ b.enable1 = a.enable1)) ∧
  (c ≠ .powerWarningAsserted → c ≠ .powerWarningWithdrawn → b.pins.powerWarning = a.pins.powerWarning) ∧
  (c ≠ .frontDoorOpened → c ≠ .frontDoorClosed → b.pins.frontDoorOpen = a.pins.frontDoorOpen) ∧
  (c ≠ .mailSlotDoorOpened → c ≠ .mailSlotDoorClosed → b.pins.mailDoorOpen = a.pins.mailDoorOpen) ∧
  (c ≠ .magazineRemoved .left → c ≠ .magazineInserted .left → b.pins.magazineLeft = a.pins.magazineLeft) ∧
  (c ≠ .magazineRemoved .right → c ≠ .magazineInserted .right → b.pins.magazineRight = a.pins.magazineRight) ∧
  (c ≠ .presenceLost .d0 → c ≠ .presenceRise .d0 → b.pins.presence0 = a.pins.presence0) ∧
  (c ≠ .presenceLost .d1 → c ≠ .presenceRise .d1 → b.pins.presence1 = a.pins.presence1)

theorem ChangesOnlyNamed.refl (c : Instr) (a : Ambient) : ChangesOnlyNamed c a a := by simp [ChangesOnlyNamed]

theorem AmbientChange.named {c : Instr} {a b : Ambient} (h : AmbientChange a c b) : ChangesOnlyNamed c a b := by
  cases h <;> simp [ChangesOnlyNamed]

/-- Link silence and a controller reset leave every line. -/
theorem changesOnlyNamed_of_pins {c : Instr} {a b : Ambient} (hc : c = .linkSilent ∨ c = .resetController)
    (h : b.pins = a.pins) : ChangesOnlyNamed c a b := by
  rcases hc with rfl | rfl <;> simp [ChangesOnlyNamed, h]

theorem W.secureStop_pins (w : W) : w.secureStop.ambient.pins = w.ambient.pins := by
  rw [W.secureStop_ambient]
  split <;> rfl

theorem State.onLib_pins (s : State) (f : W → W) : (s.onLib f).work.ambient.pins = (f s.work).ambient.pins := by
  show (f s.work).settled.ambient.pins = _
  rw [W.settled_ambient]

theorem W.resetBlocks_pins (w : W) :
    { w.resetBlocks.pins with pickerSensor := false } = { w.pins with pickerSensor := false } :=
  congrArg Ambient.pins w.resetBlocks_ambient

theorem State.silenced_pins (s : State) : s.silenced.work.ambient.pins = s.work.ambient.pins := by
  unfold State.silenced
  rw [State.onLib_pins]
  dsimp only
  split
  · exact W.secureStop_pins _
  · rfl

theorem State.resetController_pins (s : State) : s.resetController.work.ambient.pins = s.work.ambient.pins := by
  unfold State.resetController
  dsimp only
  rw [State.onLib_pins, W.afterReset_ambient]
  exact W.resetBlocks_pins _

theorem exec_changesOnlyNamed {c : Instr} {s t : State} (ht : exec c s = .next t) (hp : ∀ p, c ≠ .powerOnReset p) :
    ChangesOnlyNamed c s.work.ambient t.work.ambient := by
  cases hc : ofLink c with
  | false =>
    obtain ⟨u, hu, hl⟩ := exec_leaves c s hc
    obtain rfl := Host.Outcome.next.inj (hu.symm.trans ht)
    have settled (v : W) (hv : Effect s.work c v) : ChangesOnlyNamed c s.work.ambient v.settled.ambient := by
      rw [W.settled_ambient]
      rcases hv.ambient_cases with e | e
      · rw [e]; exact .refl c _
      · exact e.named
    cases hl with
    | unmoved | turnedDown => exact .refl c _
    | worked v hv => exact settled v hv
    | answered f v b hv => exact settled v hv
  | true =>
    obtain ⟨u, hu, hl⟩ := exec_linkCourse c s hc
    obtain rfl := Host.Outcome.next.inj (hu.symm.trans ht)
    cases hl with
    | kept _ _ hk _ _ =>
      have e : u.work.ambient = { s.work.ambient with set := u.settings.working } := by
        unfold State.work; rw [hk]; rfl
      rw [e]
      exact .refl c s.work.ambient
    | powerOn p => exact absurd rfl (hp p)
    | reset f => exact changesOnlyNamed_of_pins (.inr rfl) (State.resetController_pins _)
    | silenced => exact changesOnlyNamed_of_pins (.inl rfl) (State.silenced_pins s)

theorem exec_pending {c : Instr} {s t : State} (ht : exec c s = .next t) : t.pending = s.pending := by
  cases hc : ofLink c with
  | false =>
    obtain ⟨u, hu, hl⟩ := exec_leaves c s hc
    obtain rfl := Host.Outcome.next.inj (hu.symm.trans ht)
    exact hl.pending
  | true =>
    obtain ⟨u, hu, hl⟩ := exec_linkCourse c s hc
    obtain rfl := Host.Outcome.next.inj (hu.symm.trans ht)
    cases hl with
    | kept _ _ _ hk _ => exact hk
    | _ => rfl

/-! ## Who may change the settings (R193) -/

theorem exec_settings {c : Instr} {s t : State} (ht : exec c s = .next t) (hp : ∀ p, c ≠ .powerOnReset p)
    (hr : c ≠ .resetController) : SettingsCourse c s.settings t.settings := by
  cases hc : ofLink c with
  | false =>
    obtain ⟨u, hu, hl⟩ := exec_leaves c s hc
    obtain rfl := Host.Outcome.next.inj (hu.symm.trans ht)
    rw [hl.settings]
    exact ⟨fun _ => rfl, fun _ => rfl, fun _ _ => rfl⟩
  | true =>
    obtain ⟨u, hu, hl⟩ := exec_linkCourse c s hc
    obtain rfl := Host.Outcome.next.inj (hu.symm.trans ht)
    cases hl with
    | kept _ _ _ _ hk => exact hk
    | powerOn p => exact absurd rfl (hp p)
    | reset => exact absurd rfl hr
    | silenced => exact .refl _ _

/-- Settles O12: of what settling leaves alone every command writes what it names (`AmbientChange`), and of the settings the
commands of the link alone write. -/
theorem fewCommandsChangeTheMode : Obligations.FewCommandsChangeTheMode :=
  ⟨fun _ _ _ => exec_pending, fun _ _ _ ht hp => exec_changesOnlyNamed ht hp, fun _ _ _ => exec_settings⟩
end Sys2Proof.Machine

/-! PROOF. The message link and the settings (R184, R188, R189, R193): what every step keeps of them. -/

namespace Sys2Proof.Machine

/-! ## Settings in range (R193) -/

theorem clampSetting_clampSetting {n : Nat} (h1 : 1 ≤ n) (h2 : n ≤ 16) (v : Nat) :
    clampSetting n (clampSetting n v) = clampSetting n v := by
  interval_cases n <;> simp only [clampSetting, clampTo, clampDelay, clampReaction] <;> grind

theorem settingOf_putSetting {l : List Nat} {n m : Nat} (hl : l.length = 16) (hn : 1 ≤ n) (hm : 1 ≤ m) (hm' : m ≤ 16)
    (v : Nat) : settingOf (putSetting l n v) m = if m = n then v else settingOf l m := by
  unfold settingOf putSetting
  split
  next h => subst h; rw [List.getD_eq_getElem?_getD, List.getElem?_set_self (by omega)]; rfl
  next h => rw [List.getD_eq_getElem?_getD, List.getElem?_set_ne (by omega), ← List.getD_eq_getElem?_getD]

theorem settingsInRange_putSetting {l : List Nat} (hl : settingsInRange l) {n : Nat} (h1 : 1 ≤ n) (v : Nat) :
    settingsInRange (putSetting l n (clampSetting n v)) := by
  refine ⟨by simpa [putSetting] using hl.1, fun m hm hm' => ?_⟩
  rw [settingOf_putSetting hl.1 h1 hm hm']
  split
  next h => subst h; exact clampSetting_clampSetting hm hm' v
  next => exact hl.2 m hm hm'

theorem settingsInRange_factory : settingsInRange factorySettings :=
  ⟨rfl, by decide⟩

theorem SettingsState.Sound.loaded {x : SettingsState} (h : x.Sound) : settingsInRange (loadedSettings x) := by
  unfold loadedSettings
  cases e : x.stored with
  | none => exact settingsInRange_factory
  | some l => exact h.stored l e

/-- The silence limit is at most 255 seconds (R188, R193). -/
theorem settingsInRange.silence {l : List Nat} (h : settingsInRange l) : settingOf l 8 ≤ 255 := by
  have e := h.2 8 (by omega) (by omega)
  simp only [clampSetting, clampTo] at e
  omega

/-! ## The link (R184, R188, R189) -/

/-- The numbers of the queued notices, one by one. -/
theorem numbers_iff (l : List NoticeRec) (g : Nat → Nat) :
    l.map NoticeRec.seq = (List.range l.length).map g ↔ ∀ (i : Nat) (h : i < l.length), l[i].seq = g i := by
  constructor
  · intro e i h
    simpa [h] using congrArg (fun x : List Nat => x[i]?) e
  · intro h
    apply List.ext_getElem
    · simp
    · intro i h1 h2
      simpa using h i (by simpa using h1)

theorem LinkState.Sound.push {k : LinkState} (h : k.Sound) (n : Notice) : (k.push n).Sound := by
  have hn := h.notices
  have hx := h.next
  have e := (numbers_iff _ _).mp h.numbers
  refine ⟨h.receiver, h.frames, h.payloads, ?_, ?_, (numbers_iff _ _).mpr fun i hi => ?_, h.silence, h.limit⟩
  · simp only [LinkState.push]
    split <;> simp_all
    omega
  · simp only [LinkState.push]
    omega
  · simp only [LinkState.push, decide_eq_true_eq, List.getElem_append] at hi ⊢
    by_cases hf : 32 ≤ k.notices.length
    · simp only [hf, if_true, List.length_append, List.length_drop, List.length_singleton, List.getElem_drop] at hi ⊢
      split
      next hlt =>
        rw [e (1 + i) (by omega)]
        omega
      next hge => simp only [List.getElem_singleton]; omega
    · simp only [hf, if_false, List.length_append, List.length_singleton] at hi ⊢
      split
      next hlt =>
        rw [e i hlt]
        omega
      next hge => simp only [List.getElem_singleton]; omega

theorem LinkState.Sound.pushAll {k : LinkState} (h : k.Sound) (l : List Notice) : (k.pushAll l).Sound := by
  induction l generalizing k with
  | nil => exact h
  | cons n l ih => exact ih (h.push n)

theorem LinkState.Sound.dropFrame {s : State} (h : s.link.Sound) : s.dropFrame.link.Sound :=
  ⟨h.receiver, List.length_drop.trans_le ((Nat.sub_le _ _).trans h.frames), fun f hf => h.payloads f (List.mem_of_mem_drop hf), h.notices, h.next,
    h.numbers, h.silence, h.limit⟩

theorem LinkState.Sound.sendReply {s : State} (h : s.link.Sound) (f : RequestFrame) (r : Status) (b : ReplyBody) :
    (s.sendReply f r b).link.Sound :=
  ⟨h.receiver, h.frames, h.payloads, h.notices, h.next, h.numbers, h.silence, h.limit⟩

theorem LinkState.Sound.fetched {k : LinkState} (h : k.Sound) :
    ({ k with notices := k.notices.drop 8, lost := false } : LinkState).Sound := by
  have hn := h.notices
  have e := (numbers_iff _ _).mp h.numbers
  refine ⟨h.receiver, h.frames, h.payloads, ?_, h.next, (numbers_iff _ _).mpr fun i hi => ?_, h.silence, h.limit⟩
  · simp only [List.length_drop]
    omega
  · simp only [List.length_drop, List.getElem_drop] at hi ⊢
    rw [e (8 + i) (by omega)]
    omega

theorem LinkState.Sound.turnedDown {s : State} (h : s.link.Sound) (f : RequestFrame) (r : Status) (b : ReplyBody) :
    (s.turnedDown f r b).link.Sound := h.dropFrame.sendReply f r b

theorem LinkState.Sound.putWork {s : State} (h : s.link.Sound) (w : W) : (s.putWork w).link.Sound := h.pushAll _

theorem LinkState.Sound.take {s : State} (h : s.link.Sound) {code : Nat} {form : List Byte → Bool}
    {owner : State → RequestFrame → State} (ho : ∀ f, (owner s.dropFrame f).link.Sound) :
    (s.take code form owner).link.Sound := by
  rcases s.take_cases code form owner with e | ⟨f, r, e⟩ | ⟨f, -, -, -, e⟩ <;> rw [e]
  · exact h
  · exact h.turnedDown f r .empty
  · exact ho f

theorem State.Leaves.linkSound {P : W → Prop} {s t : State} (hl : s.Leaves P t) (h : s.link.Sound) : t.link.Sound := by
  cases hl with
  | unmoved => exact h
  | turnedDown f r b => exact h.turnedDown f r b
  | worked w _ => exact h.putWork w
  | answered f w b _ => exact (h.dropFrame.putWork w).sendReply f .ok b

/-! ## The receiver (R184) -/

/-- What the receiver is left with, between arrivals, is sound, and so is the rest of the link. -/
theorem LinkState.Sound.receiver_put {k : LinkState} {r : List Byte} (h : ({ k with receiver := [] } : LinkState).Sound)
    (hr : receiverSound r) : ({ k with receiver := r } : LinkState).Sound :=
  ⟨hr, h.frames, h.payloads, h.notices, h.next, h.numbers, h.silence, h.limit⟩

theorem LinkState.Sound.emptied {k : LinkState} (h : k.Sound) : ({ k with receiver := [] } : LinkState).Sound :=
  ⟨trivial, h.frames, h.payloads, h.notices, h.next, h.numbers, h.silence, h.limit⟩

theorem LinkState.Sound.refuseFrame {k : LinkState} (h : ({ k with receiver := [] } : LinkState).Sound) :
    ({ k.refuseFrame with receiver := [] } : LinkState).Sound :=
  ⟨h.receiver, h.frames, h.payloads, h.notices, h.next, h.numbers, h.silence, h.limit⟩

theorem silenceStart_le {limit t : Nat} (h : silenceStart limit = some t) : t ≤ limit := by
  unfold silenceStart at h
  split at h
  · cases h
  · exact (Option.some.inj h).ge

theorem LinkState.Sound.startSilence {k : LinkState} (h : k.Sound) {limit : Nat} (hl : limit ≤ 255) :
    (k.startSilence limit).Sound :=
  ⟨h.receiver, h.frames, h.payloads, h.notices, h.next, h.numbers, fun _ => silenceStart_le, hl⟩

theorem LinkState.Sound.goodFrame {k : LinkState} (h : ({ k with receiver := [] } : LinkState).Sound) {limit : Nat}
    (hl : limit ≤ 255) {f : RequestFrame} (hf : f.payload.length ≤ 4198) :
    ({ k.goodFrame limit f with receiver := [] } : LinkState).Sound := by
  unfold LinkState.goodFrame
  dsimp only
  split
  next hlt =>
    refine ⟨h.receiver, ?_, fun g hg => ?_, h.notices, h.next, h.numbers, fun _ => silenceStart_le, hl⟩
    · simpa using hlt
    · rcases List.mem_append.mp hg with hg | hg
      · exact h.payloads g hg
      · rw [List.mem_singleton.mp hg]; exact hf
  next => exact ⟨h.receiver, h.frames, h.payloads, h.notices, h.next, h.numbers, fun _ => silenceStart_le, hl⟩

theorem receive_sound {limit : Nat} (hl : limit ≤ 255) (fuel : Nat) (bytes : List Byte) (k : LinkState)
    (hb : bytes.length < fuel) (h : ({ k with receiver := [] } : LinkState).Sound) :
    (receive fuel limit bytes k).Sound := by
  induction fuel generalizing bytes k with
  | zero => omega
  | succ fuel ih =>
    unfold receive
    split
    · exact h
    next b => exact h.receiver_put (by split <;> simp_all [receiverSound])
    next b c rest =>
      simp only [List.length_cons] at hb
      split
      next hm =>
        split
        next hs => exact h.receiver_put ⟨hm.1, hm.2, .inl hs⟩
        next hs =>
          dsimp only
          split
          next hbad => exact ih _ _ (by simp only [List.length_cons]; omega) h.refuseFrame
          next hgood =>
            split
            next hshort => exact h.receiver_put ⟨hm.1, hm.2, .inr ⟨by omega, by omega, hshort⟩⟩
            next =>
              split
              next =>
                refine ih _ _ ?_ (h.goodFrame hl ?_)
                · simp only [List.length_drop, List.length_cons]; omega
                · simp only [frameOf, List.length_take]; omega
              next => exact ih _ _ (by simp only [List.length_cons]; omega) h.refuseFrame
      next => exact ih _ _ (by simp only [List.length_cons]; omega) h

theorem State.hear_sound {s : State} (h : s.link.Sound) (hx : s.settings.Sound) (bytes : List Byte) :
    (s.hear bytes).link.Sound :=
  receive_sound hx.working.silence _ _ _ (Nat.lt_succ_self _) h.emptied

/-! ## The steps -/

theorem State.silenced_linkSound {s : State} (h : s.link.Sound) : s.silenced.link.Sound := by
  refine LinkState.Sound.putWork ?_ _
  exact ⟨h.receiver, h.frames, h.payloads, h.notices, h.next, h.numbers, fun _ e => (nomatch e), h.limit⟩

/-- A power-on reset queues RESET DONE on an empty link (R189). -/
theorem powerOnLink_sound (p : Pins) {working : List Nat} (h : settingOf working 8 ≤ 255) :
    (powerOnLink p working).Sound := by
  have empty : ({ receiver := [], frames := [], reject := false, notices := [], lost := false, nextNotice := 0,
                  silence := silenceStart (settingOf working 8), silenceLimit := settingOf working 8,
                  reply := none } : LinkState).Sound :=
    ⟨trivial, Nat.zero_le _, nofun, Nat.zero_le _, Nat.zero_lt_succ _, rfl, fun _ => silenceStart_le, h⟩
  exact empty.push (.resetDone true (modeAfterReset p))

theorem State.resetController_linkSound {s : State} (h : s.link.Sound) (hx : s.settings.Sound) :
    s.resetController.link.Sound := by
  refine LinkState.Sound.putWork (LinkState.Sound.push ?_ _) _
  refine LinkState.Sound.startSilence ?_ hx.loaded.silence
  exact ⟨trivial, Nat.zero_le _, nofun, Nat.zero_le _, h.next, rfl, h.silence, h.limit⟩

theorem exec_linkSound {c : Instr} {s t : State} (ht : exec c s = .next t) (h : s.link.Sound) (hx : s.settings.Sound) :
    t.link.Sound := by
  cases hc : ofLink c with
  | false =>
    obtain ⟨u, hu, hl⟩ := exec_leaves c s hc
    obtain rfl := Host.Outcome.next.inj (hu.symm.trans ht)
    exact hl.linkSound h
  | true =>
    cases c with
    | powerOnReset p => obtain rfl := Host.Outcome.next.inj ht; exact powerOnLink_sound p hx.loaded.silence
    | resetController =>
      obtain rfl := Host.Outcome.next.inj ht
      exact h.take fun f => State.resetController_linkSound (h.dropFrame.sendReply f .ok .empty) hx
    | frameReceived bytes => obtain rfl := Host.Outcome.next.inj ht; exact State.hear_sound h hx bytes
    | frameMalformed bytes => obtain rfl := Host.Outcome.next.inj ht; exact State.hear_sound h hx bytes
    | requestUnknownCode =>
      obtain rfl := Host.Outcome.next.inj ht
      split
      · exact h
      · split
        · exact h
        · exact h.turnedDown _ _ _
    | status => obtain rfl := Host.Outcome.next.inj ht; exact h.take fun f => h.dropFrame.sendReply f _ _
    | fetchNotices =>
      obtain rfl := Host.Outcome.next.inj ht
      exact h.take fun f => LinkState.Sound.sendReply (s := { s.dropFrame with link := _ }) h.dropFrame.fetched f _ _
    | setSetting =>
      obtain rfl := Host.Outcome.next.inj ht
      refine h.take fun f => ?_
      dsimp only
      split
      · exact h.dropFrame.sendReply f _ _
      · refine LinkState.Sound.sendReply ?_ f _ _
        have hd := h.dropFrame
        refine ⟨hd.receiver, hd.frames, hd.payloads, hd.notices, hd.next, hd.numbers, fun t e => ?_, hd.limit⟩
        simp only [State.putSetting] at e
        split at e
        · cases e
        · exact hd.silence t e
    | getSetting =>
      obtain rfl := Host.Outcome.next.inj ht
      refine h.take fun f => ?_
      dsimp only
      split <;> exact h.dropFrame.sendReply f _ _
    | saveSettings =>
      obtain rfl := Host.Outcome.next.inj ht
      refine h.take fun f => ?_
      dsimp only
      split
      · exact h.dropFrame.sendReply f _ _
      · exact LinkState.Sound.sendReply (s := { s.dropFrame with settings := _ }) h.dropFrame f _ _
    | settingsSaveComplete b =>
      obtain rfl := Host.Outcome.next.inj ht
      split
      · exact h
      · exact h.push _
    | linkSilent =>
      obtain rfl := Host.Outcome.next.inj ht
      split
      · exact h
      · exact State.silenced_linkSound h
    | _ => cases hc

theorem State.take_settings {s : State} {P : SettingsState → Prop} {code : Nat} {form : List Byte → Bool}
    {owner : State → RequestFrame → State} (hs : P s.settings) (h : ∀ f, P (owner s.dropFrame f).settings) :
    P (s.take code form owner).settings := by
  rcases s.take_cases code form owner with e | ⟨f, r, e⟩ | ⟨f, -, -, -, e⟩ <;> rw [e]
  · exact hs
  · exact hs
  · exact h f

theorem exec_settingsSound {c : Instr} {s t : State} (ht : exec c s = .next t) (hx : s.settings.Sound) : t.settings.Sound := by
  cases hc : ofLink c with
  | false =>
    obtain ⟨u, hu, hl⟩ := exec_leaves c s hc
    obtain rfl := Host.Outcome.next.inj (hu.symm.trans ht)
    exact hl.settings ▸ hx
  | true =>
    cases c with
    | powerOnReset p => obtain rfl := Host.Outcome.next.inj ht; exact ⟨hx.loaded, hx.stored, nofun⟩
    | resetController =>
      obtain rfl := Host.Outcome.next.inj ht
      exact State.take_settings hx fun f => ⟨hx.loaded, hx.stored, nofun⟩
    | requestUnknownCode =>
      obtain rfl := Host.Outcome.next.inj ht
      split
      · exact hx
      · split <;> exact hx
    | status | fetchNotices => obtain rfl := Host.Outcome.next.inj ht; exact State.take_settings hx fun f => hx
    | setSetting =>
      obtain rfl := Host.Outcome.next.inj ht
      refine State.take_settings hx fun f => ?_
      dsimp only
      split
      · exact hx
      next hn => exact ⟨settingsInRange_putSetting hx.working (by omega) _, hx.stored, hx.saving⟩
    | getSetting =>
      obtain rfl := Host.Outcome.next.inj ht
      refine State.take_settings hx fun f => ?_
      dsimp only
      split <;> exact hx
    | saveSettings =>
      obtain rfl := Host.Outcome.next.inj ht
      refine State.take_settings hx fun f => ?_
      dsimp only
      split
      · exact hx
      · exact ⟨hx.working, hx.stored, fun l e => Option.some.inj e ▸ hx.working⟩
    | settingsSaveComplete b =>
      obtain rfl := Host.Outcome.next.inj ht
      split
      · exact hx
      next snapshot e =>
        refine ⟨hx.working, fun l el => ?_, nofun⟩
        cases b with
        | false => exact hx.stored l el
        | true => exact Option.some.inj el ▸ hx.saving snapshot e
    | linkSilent => 
      obtain rfl := Host.Outcome.next.inj ht
      split <;> exact hx
    | frameReceived bytes => obtain rfl := Host.Outcome.next.inj ht; exact hx
    | frameMalformed bytes => obtain rfl := Host.Outcome.next.inj ht; exact hx
    | _ => cases hc

theorem State.tick_linkSound {s : State} (h : s.link.Sound) : s.tick.link.Sound := by
  refine ⟨h.receiver, h.frames, h.payloads, h.notices, h.next, h.numbers, fun t e => ?_, h.limit⟩
  obtain ⟨n, hn, rfl⟩ := Option.map_eq_some_iff.mp e
  exact (Nat.sub_le n 1).trans (h.silence n hn)

/-- Settles O6. -/
theorem everyStepKeepsTheLinkAndTheSettingsSound : Obligations.EveryStepKeepsTheLinkAndTheSettingsSound := by
  constructor
  · intro s t h hx ht
    unfold step at ht
    split at ht
    · obtain rfl := Host.Outcome.next.inj ht
      exact State.tick_linkSound h
    · exact exec_linkSound ht h hx
  · intro s t hx ht
    unfold step at ht
    split at ht
    · obtain rfl := Host.Outcome.next.inj ht
      exact hx
    · exact exec_settingsSound ht hx

end Sys2Proof.Machine

/-! PROOF. The machine as a whole: what a step takes, that every command goes on, how settling rests, and the state after reset. -/

namespace Sys2Proof.Machine

/-! ## A step (log entries 1 and 8) -/

/-- Settles O1. -/
theorem stepTakesTheFrontCommand : Obligations.StepTakesTheFrontCommand := by
  intro c rest s
  unfold step
  rfl

/-- Settles O2. -/
theorem emptyQueueLetsASecondPass : Obligations.EmptyQueueLetsASecondPass := by
  rintro ⟨pending, link, settings, lib⟩ h
  obtain rfl : pending = [] := h
  rfl

/-! ## Every command goes on (log entry 6) -/

theorem exec_next (c : Instr) (s : State) : ∃ t, exec c s = .next t := by
  cases hc : ofLink c with
  | false => obtain ⟨t, ht, -⟩ := exec_leaves c s hc; exact ⟨t, ht⟩
  | true => obtain ⟨t, ht, -⟩ := exec_linkCourse c s hc; exact ⟨t, ht⟩

/-- The count a port takes is one it takes as it is. -/
theorem countTaken_countTaken (n : Nat) : countTaken (countTaken n) = countTaken n := by
  have h : countTaken n ≤ largestCount := by
    unfold countTaken
    split
    · assumption
    · exact Nat.min_le_right _ _
  generalize countTaken n = k at h
  exact if_pos h

/-- The block a port takes is one it takes as it is. -/
theorem blockTaken_blockTaken (l : List Byte) : blockTaken (blockTaken l) = blockTaken l := by
  have h : (blockTaken l).length ≤ blockSize := by
    unfold blockTaken
    split
    · assumption
    · exact List.length_take_le _ _
  generalize blockTaken l = k at h
  exact if_pos h

/-- Settles O3. -/
theorem everyCommandGoesOn : Obligations.EveryCommandGoesOn := by
  refine ⟨exec_next, fun s => ?_, fun d n asked s => ?_, fun d l asked s => ?_⟩
  · unfold step
    split
    · exact ⟨_, rfl⟩
    · exact exec_next _ _
  · change execLocateComplete d (.blank n) asked s = execLocateComplete d (.blank (countTaken n)) asked s ∧
      execLocateEndComplete d (.ok n) asked s = execLocateEndComplete d (.ok (countTaken n)) asked s
    simp [execLocateComplete, execLocateEndComplete, locateTaken, locateEndTaken, countTaken_countTaken]
  · change execReadBlockComplete d (.ok l) asked s = execReadBlockComplete d (.ok (blockTaken l)) asked s
    simp [execReadBlockComplete, readTaken, blockTaken_blockTaken]

/-! ## Settling (log entry 5) -/

theorem State.putWork_of_nothingDue {s : State} {w : W} (h : w.nothingDue) :
    s.putWork w = { s with lib := w.toLib, link := s.link.pushAll w.out } := by
  unfold State.putWork
  rw [W.settled_of_nothingDue h]

/-- Settles O4. -/
theorem settlingRestsOnQuietStates : Obligations.SettlingRestsOnQuietStates := by
  intro s w
  obtain ⟨h1, h2, h3, h4, h5, h6⟩ := s.link.pushAll_rest w.settled.out
  have ha := w.settled_ambient
  exact ⟨State.putWork_of_nothingDue, rfl, rfl, h1, h2, h3, h4, h5, h6, congrArg Ambient.mode ha, congrArg Ambient.gateOpen ha,
    congrArg Ambient.pins ha, congrArg Ambient.enable0 ha, congrArg Ambient.enable1 ha⟩

/-! ## The state after reset -/

theorem reset_noCartridge (i : Nat) (c : CartRec) : State.reset.lib.ct.carts[i]? ≠ some (some c) := by
  intro h
  have hm := List.mem_of_getElem? h
  rw [show State.reset.lib.ct.carts = List.replicate 64 none from rfl] at hm
  exact absurd (List.eq_of_mem_replicate hm) nofun

theorem reset_slot {k : Nat} {r : SlotRec} (h : State.reset.lib.ct.slots[k]? = some r) :
    r = { state := .unknown, holder := none, reservedFor := none } :=
  List.eq_of_mem_replicate (List.mem_of_getElem? h)

theorem reset_changer : State.reset.lib.cc = resetChanger := rfl

theorem reset_scheduler : State.reset.lib.js = resetScheduler := rfl

theorem reset_catalog : State.reset.lib.cg = { sessions := [], extents := [] } := rfl

theorem reset_ports : State.reset.lib.ports = ⟨resetPort, resetPort⟩ := rfl

theorem reset_streams : State.reset.lib.streams = ⟨resetStream, resetStream⟩ := rfl

theorem reset_elementsSound : State.reset.lib.ElementsSound := by
  constructor <;> simp [reset_changer, reset_scheduler, resetChanger, resetScheduler]

theorem reset_port (d : Drive) : State.reset.lib.ports.get d = resetPort := by
  rw [reset_ports]
  cases d <;> rfl

theorem reset_stream (d : Drive) : State.reset.lib.streams.get d = resetStream := by
  rw [reset_streams]
  cases d <;> rfl

theorem reset_cartridgeLaw : State.reset.lib.CartridgeLaw where
  absent i c h := absurd h (reset_noCartridge i c)
  inSlot i c n h := absurd h (reset_noCartridge i c)
  inMail i c h := absurd h (reset_noCartridge i c)
  inDrive i c d h := absurd h (reset_noCartridge i c)
  inPicker i c h := absurd h (reset_noCartridge i c)
  home i c n h := absurd h (reset_noCartridge i c)
  holder k r i h e := by rw [reset_slot h] at e; cases e
  reserved k r i h e := by rw [reset_slot h] at e; cases e
  mail := ⟨rfl, fun i e => by rw [show State.reset.lib.ct.mail.holder = none from rfl] at e; cases e⟩
  port d i e := by rw [reset_port] at e; cases e
  picker i e := by rw [reset_changer] at e; cases e

theorem reset_claimsLaw : State.reset.lib.ClaimsLaw := by
  constructor
  case carts => exact fun i c n h => absurd h (reset_noCartridge i c)
  case drives => rintro (_ | _) n e <;> rw [reset_scheduler] at e <;> cases e
  case streams => intro d n e; rw [reset_stream] at e; cases e
  case reading => intro d _; rw [reset_stream]; exact ⟨rfl, rfl, rfl⟩
  all_goals simp [reset_scheduler, resetScheduler]

theorem reset_catalogLaw : State.reset.lib.CatalogLaw := by
  constructor <;> simp [reset_catalog, reset_scheduler, resetScheduler]

/-- Settles O5. -/
theorem resetMeetsTheInvariants : Obligations.ResetMeetsTheInvariants := by
  refine ⟨?_, ⟨settingsInRange_factory, nofun, nofun⟩, ?_, ⟨rfl, rfl, rfl⟩, ⟨nofun, nofun⟩, reset_elementsSound,
    reset_cartridgeLaw, reset_claimsLaw, ?_, reset_catalogLaw⟩
  · have empty : ({ State.reset.link with notices := [], nextNotice := 0 } : LinkState).Sound :=
      ⟨trivial, Nat.zero_le _, nofun, Nat.zero_le _, Nat.zero_lt_succ _, rfl, nofun, Nat.zero_le _⟩
    exact empty.push (.resetDone true .online)
  · simp [Lib.inBounds, boundsOk, reset_scheduler, reset_catalog, reset_changer, resetScheduler, resetChanger]
  · intro j hj
    rw [reset_scheduler] at hj
    cases hj

end Sys2Proof.Machine

/-! PROOF. Requests (R185, R186): every command that takes a request takes it from the head of the receive buffer by the code and
the payload's form that are its own, so the order of the checks, and what a reply carries, are proved of the taking. -/

namespace Sys2Proof.Machine

/-! ## The code and the form of each request -/

theorem formOf_eq_beq (sizes : List Nat) (p : List Byte) : formOf sizes p = (p.length == sizes.sum) := by
  rw [formOf, Bool.eq_iff_iff]; simp

theorem noFields_eq_beq (p : List Byte) : noFields p = (p.length == 0) := by
  cases p <;> simp [noFields]

theorem formByte_eq (p : List Byte) : formByte p = payloadFits 0x22 p := by
  cases p with
  | nil => rfl
  | cons b rest => simp [formByte, payloadFits, Bool.beq_eq_decide_eq]

theorem writeDataForm_eq (p : List Byte) : writeDataForm p = payloadFits 0x42 p := by
  rcases p with _ | ⟨a, _ | ⟨hi, _ | ⟨lo, data⟩⟩⟩
  · rfl
  · rfl
  · rfl
  · simp [writeDataForm, payloadFits, beNat, eq_comm]

/-- A command that takes a request takes it by its code and by the length of its fields. -/
theorem exec_eq_take {c : Instr} {k : Nat} (h : c.requestCode = some k) :
    ∃ (owner : State → RequestFrame → State) (form : List Byte → Bool),
      (∀ s, exec c s = goesOn (s.take k form owner)) ∧ ∀ p, form p = payloadFits k p := by
  cases c with
  | resetController | identify | status | resume | haltStreams | fetchNotices | saveSettings | clearChangerFault | catalogInfo =>
    obtain rfl := Option.some.inj h
    exact ⟨_, noFields, fun _ => rfl, noFields_eq_beq⟩
  | setMode | resumeStream | getSetting | slotInfo | retestDrive | beginObject | closeSession | jobInfo | abortJob | releaseJob
  | startClean | scan | unloadDrive | endObject | setSetting | readData | editCartridge | move | openSession | startVerify
  | startRestore | sessionInfo | extentInfo | dropSession | loadExtent =>
    obtain rfl := Option.some.inj h
    exact ⟨_, formOf _, fun _ => rfl, formOf_eq_beq _⟩
  | cartridgeInfo | exportCartridge =>
    obtain rfl := Option.some.inj h
    exact ⟨_, formByte, fun _ => rfl, formByte_eq⟩
  | importCartridge =>
    obtain rfl := Option.some.inj h
    exact ⟨_, optionalByte, fun _ => rfl, fun _ => rfl⟩
  | writeData =>
    obtain rfl := Option.some.inj h
    exact ⟨_, writeDataForm, fun _ => rfl, writeDataForm_eq⟩
  | _ => cases h

theorem exists_requestCode {k : Nat} (h : requestCodes.contains k = true) : ∃ c : Instr, c.requestCode = some k := by
  have all : ∀ n ∈ requestCodes, ∃ c : Instr, c.requestCode = some n := by
    simp only [requestCodes, List.forall_mem_cons]
    refine ⟨⟨.identify, rfl⟩, ⟨.status, rfl⟩, ⟨.setMode, rfl⟩, ⟨.resume, rfl⟩, ⟨.haltStreams, rfl⟩, ⟨.resumeStream, rfl⟩,
      ⟨.resetController, rfl⟩, ⟨.fetchNotices, rfl⟩, ⟨.setSetting, rfl⟩, ⟨.getSetting, rfl⟩, ⟨.saveSettings, rfl⟩, ⟨.scan, rfl⟩,
      ⟨.slotInfo, rfl⟩, ⟨.cartridgeInfo, rfl⟩, ⟨.editCartridge, rfl⟩, ⟨.move, rfl⟩, ⟨.importCartridge, rfl⟩,
      ⟨.exportCartridge, rfl⟩, ⟨.clearChangerFault, rfl⟩, ⟨.retestDrive, rfl⟩, ⟨.unloadDrive, rfl⟩, ⟨.openSession, rfl⟩,
      ⟨.beginObject, rfl⟩, ⟨.writeData, rfl⟩, ⟨.endObject, rfl⟩, ⟨.closeSession, rfl⟩, ⟨.startVerify, rfl⟩,
      ⟨.startRestore, rfl⟩, ⟨.readData, rfl⟩, ⟨.jobInfo, rfl⟩, ⟨.abortJob, rfl⟩, ⟨.releaseJob, rfl⟩, ⟨.startClean, rfl⟩,
      ⟨.sessionInfo, rfl⟩, ⟨.extentInfo, rfl⟩, ⟨.dropSession, rfl⟩, ⟨.loadExtent, rfl⟩, ⟨.catalogInfo, rfl⟩, nofun⟩
  exact all k (List.contains_iff_mem.mp h)

/-- A code names a request exactly when a command takes it (section 11.7). -/
theorem requestCodes_contains_iff (k : Nat) : requestCodes.contains k = true ↔ ∃ c : Instr, c.requestCode = some k := by
  refine ⟨exists_requestCode, ?_⟩
  rintro ⟨c, hc⟩
  cases c with
  | _ => cases hc <;> rfl

theorem acceptedIn_secured_refused {m : Mode} {k : Nat} (hm : m = .secured)
    (hk : k ∈ [0x03, 0x06, 0x20, 0x24, 0x25, 0x26, 0x29, 0x40, 0x50, 0x51, 0x63]) : acceptedIn m k = false := by
  subst hm
  have hc : refusedSecured.contains k = true := List.contains_iff_mem.mpr hk
  simp only [acceptedIn, hc, Bool.not_true]

theorem acceptedIn_of_imp {m : Mode} {k : Nat}
    (h : m = .secured → k ∉ [0x03, 0x06, 0x20, 0x24, 0x25, 0x26, 0x29, 0x40, 0x50, 0x51, 0x63]) : acceptedIn m k = true := by
  cases m with
  | online | maintenance => rfl
  | secured => simpa [acceptedIn, refusedSecured] using h rfl

theorem exec_requestUnknownCode_named {s : State}
    (h : ∀ f, s.link.frames.head? = some f → requestCodes.contains f.code.toNat = true) :
    exec .requestUnknownCode s = .next s := by
  change goesOn (match s.link.frames.head? with
    | none => s
    | some f => if requestCodes.contains f.code.toNat then s else s.dropFrame.sendReply f .unknownCode .empty) = _
  split
  · rfl
  next f hf => rw [if_pos (h f hf)]; rfl

theorem exec_requestUnknownCode_unnamed {s : State} {f : RequestFrame} (hf : s.link.frames.head? = some f)
    (h : requestCodes.contains f.code.toNat = false) :
    exec .requestUnknownCode s = .next (s.turnedDown f .unknownCode .empty) := by
  change goesOn (match s.link.frames.head? with
    | none => s
    | some f => if requestCodes.contains f.code.toNat then s else s.dropFrame.sendReply f .unknownCode .empty) = _
  rw [hf]
  dsimp only
  rw [if_neg (by rw [h]; exact nofun)]
  rfl

/-- Settles O13. -/
theorem requestsAreJudgedInOrder : Obligations.RequestsAreJudgedInOrder := by
  refine ⟨⟨fun s f hf hc => ?_, fun c s f k p hc h hm hk => ?_, fun c s f k p hc h hm hp => ?_⟩, fun c s h => ?_⟩
  · refine exec_requestUnknownCode_unnamed hf (eq_false_of_ne_true fun hn => ?_)
    obtain ⟨c, e⟩ := exists_requestCode hn
    exact hc c e
  · obtain ⟨owner, form, he, -⟩ := exec_eq_take hc
    rw [he, State.take_notInMode _ _ h (acceptedIn_secured_refused hm hk)]
    rfl
  · obtain ⟨owner, form, he, hform⟩ := exec_eq_take hc
    rw [he, State.take_badForm _ h (acceptedIn_of_imp hm) ((hform p).trans hp)]
    rfl
  · rcases h with ⟨k, hc, hf⟩ | ⟨rfl, hf⟩
    · obtain ⟨owner, form, he, -⟩ := exec_eq_take hc
      rw [he, State.take_none _ _ hf]
      rfl
    · exact exec_requestUnknownCode_named fun f e => (requestCodes_contains_iff _).mpr (hf f e)

/-! ## The reply (R185) -/

/-- A request has been replied to: its frame has left the buffer, the flags are those of the moment, and a refusal changed nothing
else. -/
def State.Replied (s : State) (f : RequestFrame) (t : State) : Prop :=
  ∃ (x : State) (r : Status) (b : ReplyBody), t = x.sendReply f r b ∧ x.link.frames = s.link.frames.drop 1 ∧
    x.link.receiver = s.link.receiver ∧ x.link.reject = s.link.reject ∧ (r ≠ .ok → x = s.dropFrame)

theorem State.replied_refused (s : State) (f : RequestFrame) (r : Status) (b : ReplyBody) :
    s.Replied f (s.dropFrame.sendReply f r b) := ⟨s.dropFrame, r, b, rfl, rfl, rfl, rfl, fun _ => rfl⟩

theorem State.replied_take {s : State} {f : RequestFrame} {k : Nat} {p : List Byte} {form : List Byte → Bool}
    {owner : State → RequestFrame → State} (h : s.requests f k p) (ho : s.Replied f (owner s.dropFrame f)) :
    s.Replied f (s.take k form owner) := by
  cases hm : acceptedIn s.lib.mode k with
  | false => rw [State.take_notInMode _ _ h hm]; exact s.replied_refused f _ _
  | true =>
    cases hp : form p with
    | false => rw [State.take_badForm _ h hm hp]; exact s.replied_refused f _ _
    | true => rw [State.take_some _ h hm hp]; exact ho

theorem State.replied_ask {s : State} {f : RequestFrame} {k : Nat} {p : List Byte} {form : List Byte → Bool}
    {owner : W → List Byte → Answer} (h : s.requests f k p) : s.Replied f (s.ask k form owner) := by
  refine State.replied_take h ?_
  dsimp only
  split
  next hok =>
    obtain ⟨h1, h2, h3, -⟩ := s.dropFrame.link.pushAll_rest (owner s.dropFrame.work f.payload).w.settled.out
    exact ⟨_, _, _, rfl, h2, h1, h3, fun hr => absurd hok hr⟩
  next => exact s.replied_refused f _ _

theorem State.replied_look {s : State} {f : RequestFrame} {k : Nat} {p : List Byte} {form : List Byte → Bool}
    {owner : W → List Byte → Answer} (h : s.requests f k p) : s.Replied f (s.look k form owner) :=
  State.replied_take h (s.replied_refused f _ _)

theorem exec_replied {c : Instr} {s : State} {f : RequestFrame} {k : Nat} {p : List Byte} (hc : c.requestCode = some k)
    (hr : c ≠ .resetController) (h : s.requests f k p) : ∃ t, exec c s = .next t ∧ s.Replied f t := by
  cases c with
  | resetController => exact absurd rfl hr
  | identify | slotInfo | cartridgeInfo | jobInfo | sessionInfo | extentInfo | catalogInfo =>
    obtain rfl := Option.some.inj hc
    exact ⟨_, rfl, State.replied_look h⟩
  | status =>
    obtain rfl := Option.some.inj hc
    exact ⟨_, rfl, State.replied_take h (s.replied_refused f _ _)⟩
  | fetchNotices =>
    obtain rfl := Option.some.inj hc
    exact ⟨_, rfl, State.replied_take h ⟨_, .ok, _, rfl, rfl, rfl, rfl, fun e => absurd rfl e⟩⟩
  | setSetting | saveSettings =>
    obtain rfl := Option.some.inj hc
    refine ⟨_, rfl, State.replied_take h ?_⟩
    dsimp only
    split
    · exact s.replied_refused f _ _
    · exact ⟨_, .ok, _, rfl, rfl, rfl, rfl, fun e => absurd rfl e⟩
  | getSetting =>
    obtain rfl := Option.some.inj hc
    refine ⟨_, rfl, State.replied_take h ?_⟩
    dsimp only
    split <;> exact s.replied_refused f _ _
  | setMode | resume | haltStreams | resumeStream | scan | editCartridge | move | importCartridge | exportCartridge
  | clearChangerFault | retestDrive | unloadDrive | openSession | beginObject | writeData | endObject | closeSession
  | startVerify | startRestore | readData | abortJob | releaseJob | startClean | dropSession | loadExtent =>
    obtain rfl := Option.some.inj hc
    exact ⟨_, rfl, State.replied_ask h⟩
  | _ => cases hc

/-- Settles O14. -/
theorem everyRequestGetsOneReply : Obligations.EveryRequestGetsOneReply := by
  intro c s f k hc hr h
  obtain ⟨t, ht, x, r, b, e, hframes, hreceiver, hreject, hrefused⟩ := exec_replied hc hr h
  have hp : t.lib.pins.powerWarning = s.lib.pins.powerWarning :=
    (exec_changesOnlyNamed ht (by rintro p rfl; cases hc)).2.1 (by rintro rfl; cases hc) (by rintro rfl; cases hc)
  subst e
  refine ⟨_, _, ht, rfl, rfl, rfl, hreject, rfl, hp, rfl, hframes, hreceiver, fun hne => ?_⟩
  rw [hrefused hne]
  rfl

end Sys2Proof.Machine

/-! PROOF. The device: IDENTIFY, STATUS and the notices (R189, R190, R192), the settings (R193), the modes, HALT STREAMS, warnings and
silence (R122, R124, R187, R188). -/

namespace Sys2Proof.Machine

/-! ## Taking a request without payload checks of its own -/

theorem State.take_of_any_mode {s : State} {f : RequestFrame} {k : Nat} {p : List Byte} {form : List Byte → Bool}
    (owner : State → RequestFrame → State) (h : s.requests f k p) (hk : refusedSecured.contains k = false)
    (hf : form p = true) : s.take k form owner = owner s.dropFrame f :=
  State.take_some owner h (acceptedIn_of_not_refused _ hk) hf

/-! ## IDENTIFY and STATUS (R192) -/

theorem partName_eq : partName = "ROWPLEX TL-440  ".toList.map fun x => BitVec.ofNat 8 x.toNat := by decide

theorem exec_identify {s : State} {f : RequestFrame} (h : s.requests f 0x01 []) :
    exec .identify s = .next (s.reported f (.identity partName revisionNumber 40 1 2 4096)) :=
  State.look_answer h (acceptedIn_of_not_refused _ rfl) rfl rfl

theorem exec_status {s : State} {f : RequestFrame} (h : s.requests f 0x02 []) :
    exec .status s = .next (s.reported f (.status (statusReport s.dropFrame))) :=
  congrArg goesOn (State.take_of_any_mode _ h rfl rfl)

theorem W.contentsRef_eq (w : W) (x : Contents) : w.contentsRef x = match x with
    | .none => none
    | .cart i => some { index := some i, label := (w.ct.carts.getD i none).bind CartRec.label }
    | .untracked => some { index := none, label := none } := by
  cases x <;> rfl

theorem outbound_eq (w : W) (job : Option Nat) :
    (((job.bind w.restoreData).map RestoreData.out).getD []).length =
      match job.bind fun n => w.js.jobs.find? fun j => j.id = n with
      | some j => (match j.progress with
        | .restore r => r.out.length
        | _ => 0)
      | none => 0 := by
  cases job with
  | none => rfl
  | some n =>
    simp only [Option.bind_some, W.restoreData, W.job]
    cases w.js.jobs.find? fun j => j.id = n with
    | none => rfl
    | some j =>
      simp only [Option.bind_some, Job.restore?]
      cases j.progress <;> rfl

/-! ## Notices (R189, R190) -/

theorem LinkState.push_eq (k : LinkState) (n : Notice) :
    k.push n = { k with
      notices := (if k.notices.length < 32 then k.notices else k.notices.drop 1) ++
        [{ seq := k.nextNotice, notice := n }],
      lost := k.lost || decide (32 ≤ k.notices.length), nextNotice := (k.nextNotice + 1) % 65536 } := by
  unfold LinkState.push
  by_cases h : k.notices.length < 32
  · simp [h]
  · simp [h, Nat.le_of_not_lt h]

theorem attention_drop (l : List NoticeRec) (n : Nat) : decide (l.drop n ≠ []) = decide (n < l.length) := by
  simp [List.drop_eq_nil_iff]

theorem exec_fetchNotices {s : State} {f : RequestFrame} (h : s.requests f 0x08 []) :
    exec .fetchNotices s = .next { s with link := { s.link with
      frames := s.link.frames.drop 1, notices := s.link.notices.drop 8, lost := false, reject := false,
      reply := some { tag := f.tag, code := f.code, status := .ok, previousRejected := s.link.reject,
                      noticesWaiting := decide (8 < s.link.notices.length),
                      powerWarning := s.lib.pins.powerWarning,
                      body := .notices s.link.lost (s.link.notices.take 8) } } } := by
  rw [← attention_drop]
  exact congrArg goesOn (State.take_of_any_mode _ h rfl rfl)

/-- Settles O16. -/
theorem identityStatusAndNoticesAreReported : Obligations.IdentityStatusAndNoticesAreReported := by
  refine ⟨⟨⟨revisionNumber, Nat.le_add_right 1 _, fun s f h => ?_⟩, fun s f h => ?_⟩, LinkState.push_eq,
    fun s f => exec_fetchNotices⟩
  · rw [exec_identify h, partName_eq]
  · rw [exec_status h]
    simp only [statusReport, portReport, streamReport, W.contentsRef_eq, outbound_eq]
    rfl

/-! ## Settings (R193) -/

theorem fieldsOf_byte_word (n hi lo : Byte) :
    fieldsOf [1, 2] [n, hi, lo] 0 = n.toNat ∧ fieldsOf [1, 2] [n, hi, lo] 1 = hi.toNat * 256 + lo.toNat := by
  simp [fieldsOf, natFields, fields, beNat]

theorem exec_setSetting {s : State} {f : RequestFrame} {n hi lo : Byte} (h : s.requests f 0x09 [n, hi, lo]) :
    exec .setSetting s = .next (if n.toNat = 0 ∨ 16 < n.toNat then s.turnedDown f .badArgument .empty
      else State.reported { s with
        settings := { s.settings with
          working := s.settings.working.set (n.toNat - 1) (clampSetting n.toNat (hi.toNat * 256 + lo.toNat)) },
        link := { s.link with
          silence := if n.toNat = 8 ∧ clampSetting n.toNat (hi.toNat * 256 + lo.toNat) = 0 then none else s.link.silence } }
        f (.setting (clampSetting n.toNat (hi.toNat * 256 + lo.toNat)))) := by
  obtain ⟨h0, h1⟩ := fieldsOf_byte_word n hi lo
  refine (congrArg goesOn (State.take_of_any_mode _ h rfl rfl)).trans ?_
  simp only [h.2.2, h0, h1]
  rw [goesOn]
  rfl

theorem exec_getSetting {s : State} {f : RequestFrame} {n : Byte} (h : s.requests f 0x0A [n]) :
    exec .getSetting s = .next (if n.toNat = 0 ∨ 16 < n.toNat then s.turnedDown f .badArgument .empty
      else s.reported f (.settingCopies (s.settings.working.getD (n.toNat - 1) 0)
        (match s.settings.stored with
         | some l => l.getD (n.toNat - 1) 0
         | none => 65535))) := by
  refine (congrArg goesOn (State.take_of_any_mode _ h rfl rfl)).trans ?_
  simp only [h.2.2, fieldsOf_one]
  rfl

theorem exec_saveSettings {s : State} {f : RequestFrame} (h : s.requests f 0x0B []) :
    exec .saveSettings s = .next (if s.settings.saving.isSome then s.turnedDown f .busy .empty
      else State.reported { s with settings := { s.settings with saving := some s.settings.working } } f .empty) :=
  congrArg goesOn (State.take_of_any_mode _ h rfl rfl)

theorem exec_settingsSaveComplete {s : State} {snapshot : List Nat} {written : Bool}
    (h : s.settings.saving = some snapshot) :
    exec (.settingsSaveComplete written) s = .next { s with
      settings := { s.settings with
        stored := if written then some snapshot else s.settings.stored, saving := none },
      link := s.link.push (.settingsSaved written) } := by
  change execSettingsSaveComplete written s = _
  simp only [execSettingsSaveComplete, h, goesOn]

/-- Clamping takes the nearer end of the range for the settings that have one. -/
theorem clampTo_eq {lo hi : Nat} (h : lo ≤ hi) (v : Nat) : clampTo lo hi v = if v < lo then lo else if hi < v then hi else v := by
  unfold clampTo
  split
  · omega
  · split <;> omega

theorem clampSetting_range {n lo hi : Nat} (v : Nat)
    (h : (n, lo, hi) ∈ [(1, 0, 15), (2, 1, 64), (3, 1, 255), (4, 1, 3), (5, 1, 2), (6, 1, 2), (7, 0, 3600),
      (8, 0, 255), (9, 1, 2), (15, 0, 7), (16, 1, 15)]) :
    clampSetting n v = if v < lo then lo else if hi < v then hi else v := by
  simp only [List.mem_cons, Prod.mk.injEq, List.not_mem_nil, or_false] at h
  rcases h with ⟨rfl, rfl, rfl⟩ | ⟨rfl, rfl, rfl⟩ | ⟨rfl, rfl, rfl⟩ | ⟨rfl, rfl, rfl⟩ | ⟨rfl, rfl, rfl⟩ | ⟨rfl, rfl, rfl⟩ |
      ⟨rfl, rfl, rfl⟩ | ⟨rfl, rfl, rfl⟩ | ⟨rfl, rfl, rfl⟩ | ⟨rfl, rfl, rfl⟩ | ⟨rfl, rfl, rfl⟩ <;>
    exact clampTo_eq (by omega) v

theorem clampDelay_nearest (v x : Nat) (h : x ∈ [1, 2, 5, 10]) :
    clampDelay v ∈ [1, 2, 5, 10] ∧ (v - clampDelay v) + (clampDelay v - v) ≤ (v - x) + (x - v) ∧
      ((v - clampDelay v) + (clampDelay v - v) = (v - x) + (x - v) → clampDelay v ≤ x) := by
  simp only [List.mem_cons, List.not_mem_nil, or_false] at h ⊢
  unfold clampDelay
  split
  · omega
  · split
    · omega
    · split <;> omega

theorem clampReaction_allowed {n v : Nat} (h1 : 10 ≤ n) (h2 : n ≤ 13) (h3 : 1 ≤ v) (h4 : v ≤ 3) :
    clampSetting n v = (if n = 10 ∧ v = 3 then 1 else if n = 13 ∧ v = 2 then 1 else v) := by
  interval_cases n <;> interval_cases v <;> rfl

/-- Settles O17. -/
theorem settingsAreSetReadAndSaved : Obligations.SettingsAreSetReadAndSaved := by
  refine ⟨⟨fun s f n hi lo => exec_setSetting, fun s f n => exec_getSetting, fun n lo hi v => clampSetting_range v,
    clampDelay_nearest, fun n v => clampReaction_allowed, fun n v h1 h2 => clampSetting_clampSetting h1 h2 v⟩,
    fun s f => exec_saveSettings, fun s snapshot written => exec_settingsSaveComplete, fun s f snapshot p hs h => ?_⟩
  obtain ⟨t, ht⟩ := exec_next .setSetting s
  have hk : t.settings.saving = s.settings.saving := (exec_settings ht (by nofun) (by nofun)).2.2 (by nofun) (by nofun)
  exact ⟨t, ht, _, exec_settingsSaveComplete (hk.trans hs), rfl⟩

end Sys2Proof.Machine

/-! PROOF. Modes, warnings, silence and the power-on reset (R85, R122, R124, R187, R188): what their commands set going. -/

namespace Sys2Proof.Machine

/-! ## A job enters a state (R71) -/

theorem W.jobNotice_eq {w : W} {n : Nat} {j : Job} (h : w.job n = some j) (was : Option JobState) :
    w.jobNotice n was = w.note (.jobState n j.kind was j.state j.waitReason j.drive (j.cartridge.map w.cartRef)
      (if j.state.isFinished then j.result else none)) := by
  unfold W.jobNotice
  rw [h]

/-- A job's record once it has entered a state. -/
def Job.entered (j : Job) (s : JobState) (why : Option WaitReason) : Job :=
  { j with state := s, waitReason := why, mediaAsked := j.mediaAsked && decide (why = some .media) }

theorem W.setJob_same {w : W} {n : Nat} {j : Job} (h : w.job n = some j) {s : JobState} {why : Option WaitReason}
    (hs : j.state = s ∧ j.waitReason = why) : w.setJob n s why = w := by
  unfold W.setJob
  rw [h]
  exact if_pos hs

/-- A job that enters another state, or waits for another reason, tells of it. -/
theorem W.setJob_changed {w : W} {n : Nat} {j : Job} (h : w.job n = some j) {s : JobState} {why : Option WaitReason}
    (hs : ¬(j.state = s ∧ j.waitReason = why)) : w.setJob n s why =
      (w.modJob n fun k => k.entered s why).note
        (.jobState n j.kind (some j.state) s why j.drive (j.cartridge.map w.cartRef)
          (if s.isFinished then j.result else none)) := by
  have hj : (w.modJob n fun k => k.entered s why).job n = some (j.entered s why) := by
    rw [W.job_modJob w n (fun k => k.entered s why) fun _ => rfl, h]
    rfl
  unfold W.setJob
  rw [h]
  exact (if_neg hs).trans (W.jobNotice_eq hj _)

theorem W.job_note (w : W) (x : Notice) (n : Nat) : (w.note x).job n = w.job n := rfl

theorem W.job_setJob {w : W} {n : Nat} {j : Job} (h : w.job n = some j) (s : JobState) (why : Option WaitReason) :
    ∃ k, (w.setJob n s why).job n = some k ∧ k.state = s ∧ k.waitReason = why ∧ k.progress = j.progress ∧
      k.stream = j.stream := by
  by_cases hs : j.state = s ∧ j.waitReason = why
  · rw [W.setJob_same h hs]
    exact ⟨j, h, hs.1, hs.2, rfl, rfl⟩
  · rw [W.setJob_changed h hs, W.job_note, W.job_modJob w n (fun k => k.entered s why) fun _ => rfl, h]
    exact ⟨_, rfl, rfl, rfl, rfl, rfl⟩

theorem W.setJob_streams_ports (w : W) (n : Nat) (s : JobState) (why : Option WaitReason) :
    (w.setJob n s why).streams = w.streams ∧ (w.setJob n s why).ports = w.ports := by
  unfold W.setJob
  split
  · exact ⟨rfl, rfl⟩
  · split
    · exact ⟨rfl, rfl⟩
    · unfold W.jobNotice
      split <;> exact ⟨rfl, rfl⟩

theorem W.runWaiting_of_todo_nil {w : W} {n : Nat} {j : Job} (h : w.job n = some j) (ht : W.jobTodo j = []) :
    w.runWaiting n = w := by
  unfold W.runWaiting W.restoreData
  rw [h]
  refine if_neg ?_
  unfold W.jobTodo at ht
  simp only [Option.bind_some, Job.restore?]
  split at ht <;> simp_all

/-! ## SET MODE and RESUME (R85, R187) -/

theorem exec_setMode {s : State} {f : RequestFrame} {n : Byte} (h : s.requests f 0x03 [n]) (hm : s.lib.mode ≠ .secured) :
    exec .setMode s = .next (
      if n = 1#8 then if s.lib.mode = .online then s.answered f s.work .empty else s.answered f s.work.nowOnline .empty
      else if n = 2#8 then s.answered f { s.work with mode := .maintenance } .empty
      else s.turnedDown f .badArgument .empty) := by
  have ha : acceptedIn s.lib.mode 0x03 = true := acceptedIn_of_ne _ hm
  change goesOn (s.ask 0x03 (formOf [1]) ownSetMode) = _
  by_cases h1 : n = 1#8
  · subst h1
    rw [if_pos rfl]
    by_cases ho : s.lib.mode = .online
    · rw [if_pos ho]
      exact State.ask_ok h ha rfl (by simp [ownSetMode, ho])
    · rw [if_neg ho]
      exact State.ask_ok h ha rfl (by simp [ownSetMode, ho])
  · have hn1 : n.toNat ≠ 1 := fun e => h1 (BitVec.eq_of_toNat_eq e)
    rw [if_neg h1]
    by_cases h2 : n = 2#8
    · subst h2
      rw [if_pos rfl]
      refine State.ask_ok h ha rfl ?_
      by_cases ho : s.lib.mode = .maintenance
      · have e : ({ s.work with mode := .maintenance } : W) = s.work := by
          rw [← ho]
          rfl
        rw [e]
        simp [ownSetMode, ho]
      · simp [ownSetMode, ho]
    · have hn2 : n.toNat ≠ 2 := fun e => h2 (BitVec.eq_of_toNat_eq e)
      rw [if_neg h2]
      exact State.ask_refused h ha rfl (w := s.work) (by simp [ownSetMode, hn1, hn2, refuse]) nofun

theorem exec_resume_refused {s : State} {f : RequestFrame} (h : s.requests f 0x04 []) {r : Status}
    (ho : ownResume s.work [] = refuse s.work r) (hr : r ≠ .ok) : exec .resume s = .next (s.turnedDown f r .empty) :=
  State.ask_refused h (acceptedIn_of_not_refused _ rfl) rfl ho hr

/-- A stream that RESUME takes on: not stopping for HOLD, with the Locate its port's position asks for (R85). -/
def Stream.takenOn (x : Stream) (position : Option Nat) : Stream :=
  { x with stopping := if x.stopping = some .hold then none else x.stopping, seek := W.resumeSeek x position }

/-- What RESUME does with a job that has nothing left to add. -/
theorem W.readerResumes_eq {w : W} {n : Nat} {j : Job} {d : Drive} (h : w.job n = some j) (hd : j.stream = some d)
    (ht : W.jobTodo j = []) : w.readerResumes n =
      ((w.setJob n .running none).modStream d fun x => x.takenOn (w.port d).position).emit (.parse d) := by
  obtain ⟨k, hk, -, -, hp, -⟩ := W.job_setJob h .running none
  have hw : w.readerResumes n = (W.runWaiting ((w.setJob n .running none).modStream d fun x =>
      x.takenOn (w.port d).position) n).emit (.parse d) := by
    simp [W.readerResumes, h, hd, Stream.takenOn]
  have hn : (W.modStream (w.setJob n .running none) d fun x => x.takenOn (w.port d).position).job n = some k := hk
  have htodo : W.jobTodo k = [] := by
    unfold W.jobTodo at ht ⊢
    rw [hp]
    exact ht
  rw [hw, W.runWaiting_of_todo_nil hn htodo]

theorem W.stream_emit (w : W) (g : Signal) (d : Drive) : (w.emit g).stream d = w.stream d := rfl

theorem W.readerResumes_taken_on {w : W} {n : Nat} {j : Job} {d : Drive} (h : w.job n = some j)
    (hs : j.state = .held ∨ j.state = .running) (hd : j.stream = some d) (ht : W.jobTodo j = []) (hw : j.waitReason = none) :
    ((w.readerResumes n).job n).map Job.state = some .running ∧
      (w.readerResumes n).out.length = w.out.length + (if j.state = .held then 1 else 0) ∧
      (w.readerResumes n).ports = w.ports ∧
      (w.readerResumes n).stream d = (w.stream d).takenOn (w.port d).position := by
  obtain ⟨k, hk, hrun, -⟩ := W.job_setJob h .running none
  obtain ⟨hstreams, hports⟩ := w.setJob_streams_ports n .running none
  rw [W.readerResumes_eq h hd ht]
  refine ⟨?_, ?_, hports, ?_⟩
  · rw [W.job_emit, W.job_modStream, hk]
    exact congrArg some hrun
  · change (w.setJob n .running none).out.length = _
    rcases hs with hs | hs
    · rw [W.setJob_changed h (by simp [hs])]
      simp [hs, W.note, W.modJob]
    · rw [W.setJob_same h ⟨hs, hw⟩]
      simp [hs]
  · rw [W.stream_emit, W.stream_modStream_same]
    simp only [W.stream, hstreams]

/-- Settles O18. -/
theorem modesChangeOnRequest : Obligations.ModesChangeOnRequest := by
  refine ⟨fun s f n h hm => exec_setMode h hm, fun s f h => ⟨fun hm => ?_, fun hm hp => ?_, fun hm hp => ?_⟩, ?_⟩
  · exact exec_resume_refused h (by simp [ownResume, hm]) nofun
  · exact exec_resume_refused h
      (by simp [ownResume, hm, hp]) nofun
  · obtain ⟨hmode, hgate, he0, he1⟩ := resumeStreamSetsOneEnable.2 s _ f h hm hp (exec_resume_secured h hm hp)
    exact ⟨_, exec_resume_secured h hm hp, rfl, hmode, hgate, he0, he1⟩
  · intro w n j d h hs hd ht hw
    obtain ⟨hstate, hout, hports, hstream⟩ := W.readerResumes_taken_on h hs hd ht hw
    dsimp only
    rw [hstream]
    refine ⟨hstate, hout, rfl, rfl, hports, fun hk => ?_, fun b h1 h2 h3 h4 => ?_⟩
    · simp only [Stream.takenOn, W.resumeSeek]
      rcases hk with hk | hk | hk | hk
      · obtain ⟨k, e⟩ := Option.isSome_iff_exists.mp hk
        simp [e]
      · obtain ⟨k, e⟩ := Option.isSome_iff_exists.mp hk
        cases (w.stream d).seek <;> simp [e]
      · cases (w.stream d).seek <;> cases (w.stream d).news <;> simp [hk]
      · obtain ⟨p, e⟩ := Option.isSome_iff_exists.mp hk
        cases (w.stream d).seek <;> cases (w.stream d).news <;> cases (w.stream d).nextRead <;> simp [e]
    · simp [Stream.takenOn, W.resumeSeek, h1, h2, h3, h4]

end Sys2Proof.Machine

/-! PROOF. What stops the streams (R122, R124, R187, R188), and the power-on reset (R21, R43, R68, R90, R109, R127, R160, R193). -/

namespace Sys2Proof.Machine

/-! ## Warnings and silence (R187, R188) -/

theorem State.putWork_mode (s : State) (w : W) : (s.putWork w).lib.mode = w.mode :=
  congrArg Ambient.mode w.settled_ambient

theorem State.putWork_gateOpen (s : State) (w : W) : (s.putWork w).lib.gateOpen = w.gateOpen :=
  congrArg Ambient.gateOpen w.settled_ambient

theorem State.putWork_powerWarning (s : State) (w : W) : (s.putWork w).lib.pins.powerWarning = w.pins.powerWarning :=
  congrArg (fun a => a.pins.powerWarning) w.settled_ambient

theorem exec_powerWarningAsserted {s : State} (h : s.lib.pins.powerWarning = false) :
    exec .powerWarningAsserted s = .next (s.putWork (W.secureStop { s.work with
      pins := { s.lib.pins with powerWarning := true }, out := [.powerWarning true] })) := by
  change execPowerWarningAsserted s = _
  simp only [execPowerWarningAsserted, State.onLib, goesOn]
  rw [if_neg (by rw [show s.work.pins.powerWarning = false from h]; exact nofun)]
  rfl

theorem exec_powerWarningWithdrawn {s : State} (h : s.lib.pins.powerWarning = true) :
    exec .powerWarningWithdrawn s = .next (s.putWork { s.work with
      pins := { s.lib.pins with powerWarning := false }, out := [.powerWarning false] }) := by
  change execPowerWarningWithdrawn s = _
  simp only [execPowerWarningWithdrawn, State.onLib, goesOn]
  rw [if_pos (show s.work.pins.powerWarning = true from h)]
  rfl

theorem W.secureStop_secured (w : W) : w.secureStop.mode = .secured := by
  have h : w.secureStop.ambient.mode = .secured := by
    rw [W.secureStop_ambient]
    split
    · assumption
    · rfl
  exact h

theorem W.secureStop_powerWarning (w : W) : w.secureStop.pins.powerWarning = w.pins.powerWarning := by
  show w.secureStop.ambient.pins.powerWarning = _
  rw [W.secureStop_pins]
  rfl

/-- Unless the mode is SECURED already, the gate closes (R124). -/
theorem W.secureStop_gateOpen {w : W} (h : w.mode ≠ .secured) : w.secureStop.gateOpen = false := by
  have e := w.secureStop_ambient
  rw [if_neg h] at e
  exact congrArg Ambient.gateOpen e

theorem W.secureStop_eq (w : W) : w.secureStop = if w.mode = .secured then w
    else ((w.js.jobs.map Job.id).foldl W.secureJob { w with mode := .secured, gateOpen := false }).parseBoth := rfl

theorem exec_linkSilent {s : State} (h : s.link.silence ≠ none) : exec .linkSilent s = .next s.silenced := by
  change execLinkSilent s = _
  simp only [execLinkSilent, goesOn]
  rw [if_neg (by simpa using h)]
  rfl

theorem ite_secureStop (c : Prop) [Decidable c] (w : W) : (if c then w.secureStop else w) =
    if c ∧ w.mode ≠ .secured then
      ((w.js.jobs.map Job.id).foldl W.secureJob { w with mode := .secured, gateOpen := false }).parseBoth
    else w := by
  rw [W.secureStop_eq]
  by_cases hc : c <;> by_cases hm : w.mode = .secured <;> simp [hc, hm]

theorem State.silenced_eq (s : State) :
    s.silenced = State.putWork { s with link := { s.link with silence := none } }
      (let w : W := { s.work with out := [.linkSilent s.link.silenceLimit] }
       if settingOf s.settings.working 9 = 2 ∧ s.lib.mode ≠ .secured then
         ((s.lib.js.jobs.map Job.id).foldl W.secureJob { w with mode := .secured, gateOpen := false }).parseBoth
       else w) :=
  congrArg (State.putWork _) (ite_secureStop _ _)

theorem W.secureJob_eq {w : W} {n : Nat} {j : Job} (h : w.job n = some j) :
    w.secureJob n = if j.state.isFinished then w else match j.progress with
      | .backup _ => w.callTruncation n (.failed, .truncated)
      | .verify _ => if j.state = .running then w.readerHolds n else w
      | .restore _ => if j.state = .running then w.readerHolds n else w
      | .clean => w := by
  simp only [W.secureJob, h] <;> rfl

theorem exec_haltStreams {s : State} {f : RequestFrame} (h : s.requests f 0x05 []) :
    exec .haltStreams s = .next (s.answered f
      { s.work with
          gateOpen := false,
          streams := ⟨{ s.lib.streams.d0 with enable := false }, { s.lib.streams.d1 with enable := false }⟩,
          signals := s.lib.signals ++ [.parse .d0, .parse .d1] } .empty) := by
  refine State.ask_ok h (acceptedIn_of_not_refused _ rfl) rfl ?_
  simp [ownHaltStreams, W.parseBoth, W.emit, W.modStream, W.putStream, W.stream, Pair.put, Pair.get]

/-- Settles O20. -/
theorem haltWarningAndSilenceStopTheStreams : Obligations.HaltWarningAndSilenceStopTheStreams := by
  refine ⟨⟨fun s h => ?_, fun s => exec_powerWarningWithdrawn, fun s left h => ?_, fun w n j => W.secureJob_eq⟩,
    fun s f h => ⟨exec_haltStreams h, fun t ht => ?_⟩⟩
  · refine ⟨_, exec_powerWarningAsserted h, ?_, ?_, rfl, fun hm => ?_⟩
    · rw [State.putWork_mode, W.secureStop_secured]
    · rw [State.putWork_powerWarning, W.secureStop_powerWarning]
    · rw [State.putWork_gateOpen, W.secureStop_gateOpen hm]
  · exact (exec_linkSilent (by simp [h])).trans (congrArg Host.Outcome.next s.silenced_eq)
  · obtain rfl := Host.Outcome.next.inj ((exec_haltStreams h).symm.trans ht)
    exact ⟨State.answered_gateOpen .., State.answered_enable0 .., State.answered_enable1 ..⟩

/-! ## The power-on reset (R21, R43, R68) -/

theorem powerOnTable_slotAt (p : Pins) {n : Nat} (h1 : 1 ≤ n) (h2 : n ≤ 40) :
    (powerOnTable p).slots.getD (n - 1) default =
      { state := if (n ≤ 20 ∧ p.magazineLeft = true) ∨ (20 < n ∧ p.magazineRight = true) then .unknown else .noMagazine,
        holder := none, reservedFor := none } := by
  have hn : n - 1 < 40 := by omega
  have hk : n - 1 + 1 = n := by omega
  have hlt : 20 < n ↔ ¬n ≤ 20 := by omega
  by_cases hl : n ≤ 20 <;>
    simp [powerOnTable, List.getD_eq_getElem?_getD, hn, powerOnSlot, hk, magazineOf, linePresent, hl, hlt]

theorem powerOnChanger_fresh (p : Pins) :
    (powerOnChanger p).picker = .none ∧ (powerOnChanger p).queue = [] ∧ (powerOnChanger p).scanEntry = none ∧
      (powerOnChanger p).current = none ∧ (powerOnChanger p).nextId = 1 ∧ (powerOnChanger p).faultRun = 0 := by
  unfold powerOnChanger
  split <;> simp [resetChanger]

theorem powerOnChanger_homing {p : Pins} (h : p.frontDoorOpen = false) :
    (powerOnChanger p).state = .homing ∧ (powerOnChanger p).step = some .homing ∧
      (powerOnChanger p).stepTimer = some 20 := by
  unfold powerOnChanger
  rw [if_neg (by simp [h])]
  exact ⟨rfl, rfl, rfl⟩

theorem powerOnChanger_held {p : Pins} (h : p.frontDoorOpen = true) :
    (powerOnChanger p).state = .held ∧ (powerOnChanger p).stepTimer = none := by
  unfold powerOnChanger
  rw [if_pos h]
  exact ⟨rfl, rfl⟩

theorem powerOnPort_fresh (present : Bool) :
    (powerOnPort present).state = (if present then .init else .absent) ∧
      (powerOnPort present).selfTest = (if present then some 180 else none) ∧ (powerOnPort present).cartridge = .none ∧
      (powerOnPort present).pending = none ∧ (powerOnPort present).faultReason = none ∧
      (powerOnPort present).cleanRequest = false := by
  cases present <;> exact ⟨rfl, rfl, rfl, rfl, rfl, rfl⟩

/-- Settles O22. -/
theorem powerOnResetKeepsTheStoreAlone : Obligations.PowerOnResetKeepsTheStoreAlone := by
  intro s p
  obtain ⟨hpicker, hqueue, hscan, hcurrent, hnext, hrun⟩ := powerOnChanger_fresh p
  refine ⟨s.powerOn p, rfl, rfl, rfl, rfl, rfl, rfl, rfl, fun n => powerOnTable_slotAt p,
    by simp [State.powerOn, powerOnLib, powerOnTable], rfl, rfl, rfl, rfl, hpicker, hqueue, hscan, hcurrent, hnext, hrun,
    powerOnChanger_homing, powerOnChanger_held, fun d present hd => ?_, rfl, rfl, rfl, rfl, rfl, rfl, rfl⟩
  simp only [List.mem_cons, Prod.mk.injEq, List.not_mem_nil, or_false] at hd
  rcases hd with ⟨rfl, rfl⟩ | ⟨rfl, rfl⟩ <;> exact powerOnPort_fresh _

end Sys2Proof.Machine

/-! PROOF. Frames on the wire (R184, R195). The receiver's answer depends on the bytes that have arrived and not on how they were cut
(`arrive_append`): what it decides of a beginning it decides of the whole, and what it leaves undecided it keeps. -/

namespace Sys2Proof.Machine

/-! ## What the receiver's answer depends on -/

/-- The bytes it starts from are given apart: what the receiver held before does not matter. -/
theorem receive_receiver (fuel limit : Nat) (bytes r : List Byte) (k : LinkState) :
    receive fuel limit bytes { k with receiver := r } = receive fuel limit bytes k := by
  induction fuel generalizing bytes k with
  | zero => rfl
  | succ fuel ih =>
    unfold receive
    split
    · rfl
    · rfl
    next b c rest =>
      split
      · split
        · rfl
        · dsimp only
          split
          · exact ih (c :: rest) k.refuseFrame
          · split
            · rfl
            · split
              · have e (f : RequestFrame) : LinkState.goodFrame { k with receiver := r } limit f =
                    { k.goodFrame limit f with receiver := r } := by
                  unfold LinkState.goodFrame
                  dsimp only [LinkState.startSilence]
                  split <;> rfl
                rw [e]
                exact ih _ _
              · exact ih (c :: rest) k.refuseFrame
      · exact ih _ _

/-- Fuel beyond the bytes there are makes no difference. -/
theorem receive_fuel {limit : Nat} (fuel more : Nat) (bytes : List Byte) (k : LinkState) (h : bytes.length < fuel) :
    receive (fuel + more) limit bytes k = receive fuel limit bytes k := by
  induction fuel generalizing bytes k with
  | zero => omega
  | succ fuel ih =>
    rw [Nat.add_right_comm]
    unfold receive
    split
    · rfl
    · rfl
    next b c rest =>
      simp only [List.length_cons] at h
      have hrest (k : LinkState) : receive (fuel + more) limit (c :: rest) k = receive fuel limit (c :: rest) k :=
        ih _ _ (by simp only [List.length_cons]; omega)
      have hdrop (n : Nat) (k : LinkState) : receive (fuel + more) limit ((b :: c :: rest).drop (8 + n)) k =
          receive fuel limit ((b :: c :: rest).drop (8 + n)) k :=
        ih _ _ (by simp only [List.length_drop, List.length_cons]; omega)
      simp only [hrest, hdrop]

theorem receive_eq_of_fuel {limit fuel fuel' : Nat} {bytes : List Byte} (k : LinkState) (h : bytes.length < fuel)
    (h' : bytes.length < fuel') : receive fuel limit bytes k = receive fuel' limit bytes k := by
  rcases Nat.le_total fuel fuel' with e | e
  · obtain ⟨m, rfl⟩ := Nat.exists_eq_add_of_le e
    exact (receive_fuel fuel m bytes k h).symm
  · obtain ⟨m, rfl⟩ := Nat.exists_eq_add_of_le e
    exact receive_fuel fuel' m bytes k h'

/-- The receiver over bytes, with all the fuel they need. -/
def received (limit : Nat) (bytes : List Byte) (k : LinkState) : LinkState := receive (bytes.length + 1) limit bytes k

theorem receive_eq_received {limit fuel : Nat} {bytes : List Byte} (k : LinkState) (h : bytes.length < fuel) :
    receive fuel limit bytes k = received limit bytes k :=
  receive_eq_of_fuel k h (Nat.lt_succ_self _)

theorem arrive_eq_received (k : LinkState) (limit : Nat) (bytes : List Byte) :
    k.arrive limit bytes = received limit (k.receiver ++ bytes) k := rfl

theorem received_receiver (limit : Nat) (bytes r : List Byte) (k : LinkState) :
    received limit bytes { k with receiver := r } = received limit bytes k := receive_receiver _ _ _ _ _

theorem received_nil (limit : Nat) (k : LinkState) : received limit [] k = { k with receiver := [] } := rfl

theorem received_singleton (limit : Nat) (b : Byte) (k : LinkState) :
    received limit [b] k = { k with receiver := if b = 0x7E#8 then [b] else [] } := rfl

/-- The receiver's decision, with at least two bytes (R184). -/
theorem received_cons_cons (limit : Nat) (b c : Byte) (rest : List Byte) (k : LinkState) :
    received limit (b :: c :: rest) k =
      if b = 0x7E#8 ∧ c = 0x51#8 then
        if rest.length < 2 then { k with receiver := b :: c :: rest }
        else if beNat (rest.take 2) < 2 ∨ 4200 < beNat (rest.take 2) then received limit (c :: rest) k.refuseFrame
        else if rest.length < 6 + beNat (rest.take 2) then { k with receiver := b :: c :: rest }
        else if frameCrcOk (b :: c :: rest) (beNat (rest.take 2)) then
          received limit (rest.drop (6 + beNat (rest.take 2)))
            (k.goodFrame limit (frameOf (b :: c :: rest) (beNat (rest.take 2))))
        else received limit (c :: rest) k.refuseFrame
      else received limit (c :: rest) k := by
  have hdrop (n : Nat) (k : LinkState) : receive (rest.length + 2) limit ((b :: c :: rest).drop (8 + n)) k =
      received limit (rest.drop (6 + n)) k := by
    rw [show 8 + n = (6 + n) + 2 by omega, List.drop_succ_cons, List.drop_succ_cons]
    exact receive_eq_received _ (by simp only [List.length_drop]; omega)
  have hlen (n : Nat) : rest.length + 1 + 1 < 8 + n ↔ rest.length < 6 + n := by omega
  conv_lhs => unfold received receive
  simp only [List.length_cons, hdrop, hlen]
  rfl

/-- What is decided of a beginning is decided of the whole. -/
theorem frameCrcOk_append {bytes more : List Byte} {n : Nat} (h : 8 + n ≤ bytes.length) :
    frameCrcOk (bytes ++ more) n = frameCrcOk bytes n := by
  unfold frameCrcOk
  rw [List.drop_append_of_le_length (by omega), List.drop_append_of_le_length (by omega),
    List.take_append_of_le_length (by simp only [List.length_drop]; omega),
    List.take_append_of_le_length (by simp only [List.length_drop]; omega)]

theorem frameOf_append {bytes more : List Byte} {n : Nat} (h : 8 + n ≤ bytes.length) :
    frameOf (bytes ++ more) n = frameOf bytes n := by
  unfold frameOf
  rw [List.getD_append _ _ _ _ (by omega), List.getD_append _ _ _ _ (by omega), List.drop_append_of_le_length (by omega),
    List.take_append_of_le_length (by simp only [List.length_drop]; omega)]

/-- Bytes that arrive in two pieces are received as if they had arrived in one. -/
theorem received_append (limit : Nat) (a b : List Byte) (k : LinkState) :
    received limit ((received limit a k).receiver ++ b) (received limit a k) = received limit (a ++ b) k := by
  induction hn : a.length using Nat.strong_induction_on generalizing a k with
  | _ n ih =>
    subst hn
    rcases a with _ | ⟨x, _ | ⟨y, rest⟩⟩
    · rw [received_nil, received_receiver, List.nil_append]
    · rw [received_singleton, received_receiver]
      dsimp only
      split
      · rfl
      next hx =>
        rcases b with _ | ⟨z, b⟩
        · simp [received_nil, received_singleton, hx]
        · rw [List.nil_append, List.singleton_append, received_cons_cons, if_neg fun e => hx e.1]
    · have hrec (m : LinkState) : received limit ((received limit (y :: rest) m).receiver ++ b)
          (received limit (y :: rest) m) = received limit (y :: (rest ++ b)) m :=
        ih _ (by simp) (y :: rest) m rfl
      rw [received_cons_cons limit x y rest k, List.cons_append, List.cons_append]
      by_cases hm : x = 0x7E#8 ∧ y = 0x51#8
      · rw [if_pos hm]
        by_cases h2 : rest.length < 2
        · rw [if_pos h2, received_receiver]
          rfl
        have htake : (rest ++ b).take 2 = rest.take 2 := List.take_append_of_le_length (by omega)
        have h2' : ¬(rest ++ b).length < 2 := by simp only [List.length_append]; omega
        rw [if_neg h2]
        by_cases hbad : beNat (rest.take 2) < 2 ∨ 4200 < beNat (rest.take 2)
        · rw [if_pos hbad, received_cons_cons limit x y (rest ++ b), if_pos hm, if_neg h2', htake, if_pos hbad]
          exact hrec _
        rw [if_neg hbad]
        by_cases hshort : rest.length < 6 + beNat (rest.take 2)
        · rw [if_pos hshort, received_receiver]
          rfl
        have hshort' : ¬(rest ++ b).length < 6 + beNat (rest.take 2) := by simp only [List.length_append]; omega
        have hlong : 8 + beNat (rest.take 2) ≤ (x :: y :: rest).length := by simp only [List.length_cons]; omega
        rw [if_neg hshort, received_cons_cons limit x y (rest ++ b), if_pos hm, if_neg h2', htake, if_neg hbad,
          if_neg hshort', ← List.cons_append, ← List.cons_append, frameCrcOk_append hlong, frameOf_append hlong]
        split
        · rw [List.drop_append_of_le_length (by omega)]
          exact ih _ (by simp only [List.length_drop, List.length_cons]; omega) _ _ rfl
        · exact hrec _
      · rw [if_neg hm, received_cons_cons limit x y (rest ++ b), if_neg hm]
        exact hrec k

theorem arrive_append (k : LinkState) (limit : Nat) (a b : List Byte) :
    (k.arrive limit a).arrive limit b = k.arrive limit (a ++ b) := by
  rw [arrive_eq_received, arrive_eq_received, arrive_eq_received, received_append, List.append_assoc]

/-! ## Frames sent (R195) -/

/-- Bytes before a marker's first are passed over. -/
theorem received_noise {limit : Nat} {noise : List Byte} (h : 0x7E#8 ∉ noise) (rest : List Byte) (k : LinkState) :
    received limit (noise ++ rest) k = received limit rest k := by
  induction noise with
  | nil => rfl
  | cons b noise ih =>
    obtain ⟨hb, hn⟩ := not_or.mp (mt List.mem_cons.mpr h)
    have hb' : b ≠ 0x7E#8 := fun e => hb e.symm
    rw [← ih hn, List.cons_append]
    rcases noise ++ rest with _ | ⟨c, l⟩
    · rw [received_singleton, if_neg hb', received_nil]
    · rw [received_cons_cons, if_neg fun e => hb' e.1]

theorem beBytes_length (n v : Nat) : (beBytes n v).length = n := by
  induction n generalizing v with
  | zero => rfl
  | succ n ih => simp [beBytes, ih]

/-- The bytes of the integer that bytes store are those bytes. -/
theorem beBytes_beNat (l : List Byte) : beBytes l.length (beNat l) = l := by
  induction l using List.reverseRecOn with
  | nil => rfl
  | append_singleton l b ih =>
    have hb := b.isLt
    rw [beNat_append_singleton, List.length_append, List.length_singleton, beBytes,
      show (beNat l * 256 + b.toNat) / 256 = beNat l by omega, ih]
    congr 2
    apply BitVec.eq_of_toNat_eq
    rw [BitVec.toNat_ofNat]
    omega

/-- What a request frame's check sum covers: its length, tag, code and payload. -/
def RequestFrame.covered (f : RequestFrame) : List Byte :=
  beBytes 2 (2 + f.payload.length) ++ [f.tag, f.code] ++ f.payload

theorem requestBytes_eq (f : RequestFrame) :
    requestBytes f = 0x7E#8 :: 0x51#8 :: (f.covered ++ beBytes 4 (crc32c f.covered).toNat) := rfl

theorem RequestFrame.covered_length (f : RequestFrame) : f.covered.length = 4 + f.payload.length := by
  simp [RequestFrame.covered, beBytes_length]
  omega

theorem RequestFrame.covered_take (f : RequestFrame) (more : List Byte) (h : f.payload.length ≤ 4198) :
    beNat ((f.covered ++ more).take 2) = 2 + f.payload.length := by
  have e : (f.covered ++ more).take 2 = beBytes 2 (2 + f.payload.length) := by
    simp only [RequestFrame.covered, List.append_assoc]
    exact List.take_left' (beBytes_length _ _)
  rw [e, beNat_beBytes 2 (by omega)]

theorem frameOf_covered (f : RequestFrame) (more : List Byte) :
    frameOf (0x7E#8 :: 0x51#8 :: (f.covered ++ more)) (2 + f.payload.length) = f := by
  simp [frameOf, RequestFrame.covered, beBytes]

theorem crc_covered (f : RequestFrame) {crc : List Byte} (hc : crc.length = 4) (rest : List Byte) :
    frameCrcOk (0x7E#8 :: 0x51#8 :: (f.covered ++ (crc ++ rest))) (2 + f.payload.length) =
      decide (crc = beBytes 4 (crc32c f.covered).toNat) := by
  have hl := f.covered_length
  have h1 : ((0x7E#8 :: 0x51#8 :: (f.covered ++ (crc ++ rest))).drop 2).take (2 + (2 + f.payload.length)) = f.covered :=
    List.take_left' (by omega)
  have h2 : ((0x7E#8 :: 0x51#8 :: (f.covered ++ (crc ++ rest))).drop (4 + (2 + f.payload.length))).take 4 = crc := by
    rw [show 4 + (2 + f.payload.length) = f.covered.length + 2 by omega, List.drop_succ_cons, List.drop_succ_cons,
      List.drop_left, List.take_left' hc]
  rw [frameCrcOk, h1, h2]
  refine decide_eq_decide.mpr ⟨fun e => ?_, fun e => ?_⟩
  · rw [e, ← hc, beBytes_beNat]
  · rw [e, beNat_beBytes 4 (by have := (crc32c f.covered).isLt; omega)]

/-- A frame's bytes, right or wrong in the check sum, and what follows them (R184). -/
theorem received_frame (limit : Nat) (f : RequestFrame) (hf : f.payload.length ≤ 4198) {crc : List Byte}
    (hc : crc.length = 4) (rest : List Byte) (k : LinkState) :
    received limit (0x7E#8 :: 0x51#8 :: (f.covered ++ (crc ++ rest))) k =
      if crc = beBytes 4 (crc32c f.covered).toNat then received limit rest (k.goodFrame limit f)
      else received limit (0x51#8 :: (f.covered ++ (crc ++ rest))) k.refuseFrame := by
  have hl := f.covered_length
  have hn := f.covered_take (crc ++ rest) hf
  have hlen : (f.covered ++ (crc ++ rest)).length = 8 + f.payload.length + rest.length := by
    simp only [List.length_append]; omega
  rw [received_cons_cons, if_pos ⟨rfl, rfl⟩, if_neg (by omega), hn, if_neg (by omega), if_neg (by omega),
    crc_covered f hc, frameOf_covered]
  have hdrop : (f.covered ++ (crc ++ rest)).drop (6 + (2 + f.payload.length)) = rest := by
    rw [← List.append_assoc]
    exact List.drop_left' (by simp only [List.length_append]; omega)
  rw [hdrop]
  simp only [decide_eq_true_eq]

/-! ## FRAME_RECEIVED and FRAME_MALFORMED (R184, R188) -/

theorem exec_frameReceived (s : State) (bytes : List Byte) : exec (.frameReceived bytes) s = .next (s.hear bytes) := rfl

theorem exec_frameMalformed (s : State) (bytes : List Byte) : exec (.frameMalformed bytes) s = .next (s.hear bytes) := rfl

theorem State.hear_hear (s : State) (a b : List Byte) : (s.hear a).hear b = s.hear (a ++ b) := by
  simp only [State.hear, arrive_append]

theorem State.hear_eq {s : State} (h : s.link.receiver = []) (bytes : List Byte) :
    s.hear bytes = { s with link := received (settingOf s.settings.working 8) bytes s.link } := by
  rw [State.hear, arrive_eq_received, h, List.nil_append]

/-- The bytes of a request frame, with noise before them, bring that frame. -/
theorem State.hear_frame {s : State} (h : s.link.receiver = []) {f : RequestFrame} (hf : f.payload.length ≤ 4198)
    {noise : List Byte} (hn : 0x7E#8 ∉ noise) : s.hear (noise ++ requestBytes f) = { s with link := { s.link with
        silence := silenceStart (settingOf s.settings.working 8), silenceLimit := settingOf s.settings.working 8,
        frames := if s.link.frames.length < 4 then s.link.frames ++ [f] else s.link.frames,
        reject := s.link.reject || decide (4 ≤ s.link.frames.length) } } := by
  have e := received_frame (settingOf s.settings.working 8) f hf (beBytes_length 4 (crc32c f.covered).toNat) [] s.link
  rw [List.append_nil, if_pos rfl, received_nil] at e
  rw [State.hear_eq h, received_noise hn, requestBytes_eq, e]
  simp only [LinkState.goodFrame, LinkState.startSilence]
  by_cases hl : s.link.frames.length < 4
  · simp [hl, h, Nat.not_le.mpr hl]
  · simp [hl, h, Nat.le_of_not_lt hl]

/-- A length that no frame can have costs the frame alone. -/
theorem received_badLength (limit : Nat) (hi lo : Byte) (rest : List Byte) (k : LinkState)
    (h : hi.toNat * 256 + lo.toNat < 2 ∨ 4200 < hi.toNat * 256 + lo.toNat) :
    received limit (0x7E#8 :: 0x51#8 :: hi :: lo :: rest) k =
      received limit (0x51#8 :: hi :: lo :: rest) k.refuseFrame := by
  have hn : beNat ((hi :: lo :: rest).take 2) = hi.toNat * 256 + lo.toNat := by simp [beNat]
  rw [received_cons_cons, if_pos ⟨rfl, rfl⟩, if_neg (by simp), hn, if_pos h]

/-- Settles O15. -/
theorem framesJoinTheBufferOrAreRefused : Obligations.FramesJoinTheBufferOrAreRefused := by
  refine ⟨fun s f noise a b hf h hn e => ⟨_, exec_frameReceived s a, ?_⟩, fun s hi lo rest h hbad => ?_,
    fun s f crc rest h hf hc hne => ?_, fun s bytes h hn => ?_⟩
  · rw [exec_frameReceived, State.hear_hear, ← e, State.hear_frame h hf hn]
    rfl
  · rw [exec_frameMalformed, State.hear_eq h, received_badLength _ _ _ _ _ hbad, arrive_eq_received,
      show ({ s.link with reject := true } : LinkState).receiver = [] from h]
    rfl
  · have hl := f.covered_length
    have htake : (requestBytes f).take (6 + f.payload.length) = 0x7E#8 :: 0x51#8 :: f.covered := by
      rw [requestBytes_eq, ← List.cons_append, ← List.cons_append]
      exact List.take_left' (by simp only [List.length_cons]; omega)
    have hdrop : (requestBytes f).drop (6 + f.payload.length) = beBytes 4 (crc32c f.covered).toNat := by
      rw [requestBytes_eq, ← List.cons_append, ← List.cons_append]
      exact List.drop_left' (by simp only [List.length_cons]; omega)
    rw [hdrop] at hne
    rw [exec_frameMalformed, State.hear_eq h, htake, List.append_assoc, List.cons_append, List.cons_append,
      received_frame _ f hf hc, if_neg hne, arrive_eq_received,
      show ({ s.link with reject := true } : LinkState).receiver = [] from h]
    rfl
  · have e := received_noise (limit := settingOf s.settings.working 8) hn [] s.link
    rw [List.append_nil, received_nil, ← h] at e
    rw [exec_frameMalformed, State.hear_eq h, e]

end Sys2Proof.Machine

/-! PROOF. The inventory's requests (R17 to R20, R24, R41, R42, R79): what an owner answers is what the host gets
(`State.ask_eq`), and what it answers is its rule's table of checks. -/

namespace Sys2Proof.Machine

/-! ## What an owner's answer becomes -/

/-- The state that an owner's answer leaves: answered, or turned down with the library as it was. -/
def State.replying (s : State) (f : RequestFrame) (a : Answer) : State :=
  if a.status = .ok then s.answered f a.w a.body else s.turnedDown f a.status a.body

@[simp] theorem State.replying_answer (s : State) (f : RequestFrame) (w : W) (b : ReplyBody) :
    s.replying f (answer w b) = s.answered f w b := rfl

theorem State.replying_refuse (s : State) (f : RequestFrame) (w : W) {r : Status} (hr : r ≠ .ok) :
    s.replying f (refuse w r) = s.turnedDown f r .empty := if_neg hr

theorem State.replying_ite (s : State) (f : RequestFrame) (c : Prop) [Decidable c] (a b : Answer) :
    s.replying f (if c then a else b) = if c then s.replying f a else s.replying f b := apply_ite _ c a b

theorem State.ask_eq {s : State} {f : RequestFrame} {k : Nat} {p : List Byte} {form : List Byte → Bool}
    {owner : W → List Byte → Answer} (h : s.requests f k p) (hm : acceptedIn s.lib.mode k = true) (hf : form p = true) :
    goesOn (s.ask k form owner) = .next (s.replying f (owner s.work p)) := by
  unfold State.ask
  rw [State.take_some _ h hm hf, h.2.2, goesOn]
  unfold State.replying
  have kept : s.dropFrame.work = s.work := rfl
  rw [kept]
  refine congrArg Host.Outcome.next ?_
  dsimp only
  by_cases hok : (owner s.work p).status = .ok
  · rw [if_pos hok, if_pos hok, hok]
    rfl
  · rw [if_neg hok, if_neg hok]
    rfl

theorem State.look_eq {s : State} {f : RequestFrame} {k : Nat} {p : List Byte} {form : List Byte → Bool}
    {owner : W → List Byte → Answer} (h : s.requests f k p) (hm : acceptedIn s.lib.mode k = true) (hf : form p = true) :
    goesOn (s.look k form owner) = .next (s.dropFrame.sendReply f (owner s.work p).status (owner s.work p).body) :=
  State.look_answer h hm hf rfl

/-! ## SLOT INFO and CARTRIDGE INFO (R20) -/

/-- The slot report of an element as R20 lists its fields. -/
theorem slotReport_eq (w : W) (e : Element) : slotReport w e =
    let r := w.slotAt e
    { element := e, state := r.state,
      holder := if r.state = .occupied ∨ r.state = .unknown then r.holder.map w.cartRef else none,
      reservedFor := if r.state = .reserved ∨ r.state = .unknown then r.reservedFor.map w.cartRef else none,
      mailDoorOpen := if e = .mail then some w.ct.mailDoorOpen else none } := by
  simp [slotReport]

theorem ownSlotInfo_eq (w : W) (n : Byte) : ownSlotInfo w [n] =
    if n.toNat = 0 then answer w (.slots (scanOrder.map (slotReport w)))
    else if n.toNat ≤ 40 then answer w (.slots [slotReport w (.slot n.toNat)])
    else if n.toNat = 64 then answer w (.slots [slotReport w .mail])
    else refuse w .noSuchElement := by
  simp only [ownSlotInfo, fieldsOf_one, slotOfByte]
  by_cases h0 : n.toNat = 0
  · simp [h0]
  · by_cases h40 : n.toNat ≤ 40
    · simp [h0, h40, Nat.one_le_iff_ne_zero]
    · by_cases h64 : n.toNat = 64 <;> simp [h0, h40, h64]

theorem exec_slotInfo {s : State} {f : RequestFrame} {n : Byte} (h : s.requests f 0x21 [n]) :
    exec .slotInfo s = .next (
      if n.toNat = 0 then s.reported f (.slots (scanOrder.map (slotReport s.work)))
      else if n.toNat ≤ 40 then s.reported f (.slots [slotReport s.work (.slot n.toNat)])
      else if n.toNat = 64 then s.reported f (.slots [slotReport s.work .mail])
      else s.turnedDown f .noSuchElement .empty) := by
  refine (State.look_eq h (acceptedIn_of_not_refused _ rfl) rfl).trans (congrArg _ ?_)
  rw [ownSlotInfo_eq]
  (repeat' split) <;> rfl

theorem W.cartByLabel_isSome {w : W} {l : Label} {i : Nat} (h : w.cartByLabel l = some i) : ∃ c, w.cart i = some c := by
  have := List.find?_some h
  cases e : w.cart i with
  | none => simp [e] at this
  | some c => exact ⟨c, rfl⟩

theorem ownCartridgeInfo_label (w : W) (label : List Byte) : ownCartridgeInfo w (0#8 :: label) =
    match w.cartByLabel label with
    | some i => (match w.cart i with
      | some c => answer w (.cartridge i c (capacityReport c))
      | none => refuse w .noSuchCartridge)
    | none => refuse w .noSuchCartridge := rfl

theorem ownCartridgeInfo_index (w : W) (i : Byte) : ownCartridgeInfo w [1#8, i] =
    match (if i.toNat < 64 then w.cart i.toNat else none) with
    | some c => answer w (.cartridge i.toNat c (capacityReport c))
    | none => refuse w .noSuchCartridge := by
  have hi : beNat [i] = i.toNat := by simp [beNat]
  simp only [ownCartridgeInfo, List.headD_cons, List.drop_succ_cons, List.drop_zero, hi]
  by_cases h : i.toNat < 64
  · cases hc : w.cart i.toNat <;> simp [h, hc]
  · simp [h]

theorem ownCartridgeInfo_badForm (w : W) {b : Byte} (rest : List Byte) (h : 1 < b.toNat) :
    ownCartridgeInfo w (b :: rest) = refuse w .badArgument := by
  simp [ownCartridgeInfo, h]

theorem formByte_of_form {b : Byte} (rest : List Byte) (h : 1 < b.toNat) : formByte (b :: rest) = true := by
  have h0 : b ≠ 0#8 := by rintro rfl; simp at h
  have h1 : b ≠ 1#8 := by rintro rfl; simp at h
  simp [formByte, h0, h1]

theorem exec_cartridgeInfo {s : State} {f : RequestFrame} {p : List Byte} (h : s.requests f 0x22 p)
    (hf : formByte p = true) : exec .cartridgeInfo s =
      .next (s.dropFrame.sendReply f (ownCartridgeInfo s.work p).status (ownCartridgeInfo s.work p).body) :=
  State.look_eq h (acceptedIn_of_not_refused _ rfl) hf

/-! ## EDIT CARTRIDGE (R7, R19) -/

theorem fieldsOf_three (a b c : Byte) : fieldsOf [1, 1, 1] [a, b, c] 0 = a.toNat ∧
    fieldsOf [1, 1, 1] [a, b, c] 1 = b.toNat ∧ fieldsOf [1, 1, 1] [a, b, c] 2 = c.toNat := by
  simp [fieldsOf, natFields, fields, beNat]

/-- A byte is the one whose value it has. -/
theorem byte_eq_iff (b : Byte) {n : Nat} (h : n < 256) : b.toNat = n ↔ b = BitVec.ofNat 8 n := by
  constructor
  · intro e
    apply BitVec.eq_of_toNat_eq
    rw [BitVec.toNat_ofNat, e]
    omega
  · rintro rfl
    rw [BitVec.toNat_ofNat]
    omega

theorem W.modCart_eq {w : W} {i : Nat} {c : CartRec} (h : w.cart i = some c) (g : CartRec → CartRec) :
    w.modCart i g = w.putCart i (some (g c)) := by
  simp only [W.modCart, h]

/-- A media state update writes the record and tells of the change, or does nothing (R7). -/
theorem W.setMedia_eq {w : W} {i : Nat} {c : CartRec} (h : w.cart i = some c) (state : MediaState) (cause : StateCause) :
    w.setMedia i state cause = if c.state = state then w
      else { w with
        ct := { w.ct with carts := w.ct.carts.set i (some { c with state := state }) },
        out := w.out ++ [.cartridgeState i c.label (some c.state) (some state) cause], dispatchDue := true } := by
  simp only [W.setMedia, h]
  rfl

theorem retirable_iff (m : MediaState) :
    retirable m = true ↔ m ∈ [MediaState.new, .blank, .opened, .full, .suspect] := by
  cases m <;> simp [retirable]

/-- What a host edit leaves of a record whose state it sets. -/
theorem setMedia_work (s : State) {i : Nat} {c : CartRec} (h : s.work.cart i = some c) (state : MediaState) :
    s.work.setMedia i state .hostEdit =
      if c.state = state then s.work
      else { s.work with
        ct := { s.lib.ct with carts := s.lib.ct.carts.set i (some { c with state := state }) },
        out := [.cartridgeState i c.label (some c.state) (some state) .hostEdit], dispatchDue := true } :=
  W.setMedia_eq h state .hostEdit

theorem ownEditCartridge_none {w : W} {i : Byte} (action value : Byte)
    (h : (if i.toNat < 64 then w.cart i.toNat else none) = none) :
    ownEditCartridge w [i, action, value] = refuse w .noSuchCartridge := by
  simp only [ownEditCartridge, fieldsOf_three, h]

theorem ownEditCartridge_some {w : W} {i : Byte} {c : CartRec} (action value : Byte)
    (h : (if i.toNat < 64 then w.cart i.toNat else none) = some c) : ownEditCartridge w [i, action, value] =
      if action = 1#8 then
        if 7 < value.toNat then refuse w .badArgument
        else answer ((w.modCart i.toNat fun r => { r with pool := value.toNat }).wantDispatch) (.mediaState c.state)
      else if action = 2#8 then
        if c.claim.isSome then refuse w .claimed
        else if c.state ∈ [MediaState.new, .blank, .opened, .full, .suspect] then
          answer (w.setMedia i.toNat .retired .hostEdit) (.mediaState .retired)
        else refuse w .wrongState
      else if action = 3#8 then
        if c.state = .suspect then
          answer (w.setMedia i.toNat (clearedState c) .hostEdit) (.mediaState (clearedState c))
        else refuse w .wrongState
      else refuse w .badArgument := by
  simp only [ownEditCartridge, fieldsOf_three, h, byte_eq_iff action (show 1 < 256 by omega),
    byte_eq_iff action (show 2 < 256 by omega), byte_eq_iff action (show 3 < 256 by omega), retirable_iff]

theorem exec_editCartridge {s : State} {f : RequestFrame} {p : List Byte} (h : s.requests f 0x23 p) (hp : p.length = 3) :
    exec .editCartridge s = .next (s.replying f (ownEditCartridge s.work p)) :=
  State.ask_eq h (acceptedIn_of_not_refused _ rfl) (decide_eq_true hp)

/-- Settles O23. -/
theorem theInventoryIsReportedAndEdited : Obligations.TheInventoryIsReportedAndEdited := by
  refine ⟨⟨fun s f n h => ?_, fun s f label h hl => ⟨fun i c hi hc => ?_, fun hn => ?_⟩, fun s f i h => ?_,
    fun s f b rest h hb => ?_⟩, fun s f i action value h => ?_⟩
  · rw [exec_slotInfo h]
    refine congrArg Host.Outcome.next ?_
    dsimp only
    split
    · rw [scanOrder, List.map_append, List.map_map]
      refine congrArg (fun l => s.reported f (.slots l)) (congrArg₂ _ (List.map_congr_left fun k _ => ?_) ?_)
      · exact slotReport_eq s.work _
      · exact congrArg (fun r => [r]) (slotReport_eq s.work .mail)
    · rw [slotReport_eq, slotReport_eq]
      rfl
  · rw [exec_cartridgeInfo h (decide_eq_true hl), ownCartridgeInfo_label, hi]
    simp only [hc]
    rfl
  · rw [exec_cartridgeInfo h (decide_eq_true hl), ownCartridgeInfo_label, hn]
    rfl
  · rw [exec_cartridgeInfo h rfl, ownCartridgeInfo_index]
    change _ = Host.Outcome.next (match (if i.toNat < 64 then s.work.cart i.toNat else none) with
      | some c => s.reported f (.cartridge i.toNat c (capacityReport c))
      | none => s.turnedDown f .noSuchCartridge .empty)
    split <;> rfl
  · rw [exec_cartridgeInfo h (formByte_of_form rest hb), ownCartridgeInfo_badForm _ _ hb]
    rfl
  · rw [exec_editCartridge h rfl]
    refine congrArg Host.Outcome.next ?_
    dsimp only
    change _ = (match (if i.toNat < 64 then s.work.cart i.toNat else none) with
      | none => s.turnedDown f .noSuchCartridge .empty
      | some c => _)
    cases e : (if i.toNat < 64 then s.work.cart i.toNat else none) with
    | none =>
      rw [ownEditCartridge_none action value e]
      rfl
    | some c =>
      have hc : s.work.cart i.toNat = some c := by
        split at e
        · exact e
        · cases e
      rw [ownEditCartridge_some action value e]
      simp only [State.replying_ite, State.replying_answer, W.modCart_eq hc, setMedia_work s hc,
        State.replying_refuse _ _ _ (show Status.badArgument ≠ .ok by nofun),
        State.replying_refuse _ _ _ (show Status.claimed ≠ .ok by nofun),
        State.replying_refuse _ _ _ (show Status.wrongState ≠ .ok by nofun)]
      rfl

end Sys2Proof.Machine

/-! PROOF. SCAN, MOVE, IMPORT, EXPORT and the issue of a held move (R17, R18, R24, R41, R42, R79). -/

namespace Sys2Proof.Machine

/-! ## SCAN (R41) -/

/-- A SCAN value names one of the slots that a scan visits (R41). -/
def scanValue (n : Nat) : Prop := (1 ≤ n ∧ n ≤ 40) ∨ n = 64

theorem slotOfByte_known {n : Nat} (h : scanValue n) : ∃ e, slotOfByte n = some e ∧ visitPlace e = min n 41 := by
  rcases h with h | rfl
  · exact ⟨.slot n, if_pos h, (min_eq_left (show n ≤ 41 by omega)).symm⟩
  · exact ⟨.mail, rfl, rfl⟩

theorem slotOfByte_unknown {n : Nat} (h : ¬scanValue n) : slotOfByte n = none := by
  have ho : ¬(1 ≤ n ∧ n ≤ 40) := fun e => h (.inl e)
  have hm : n ≠ 64 := fun e => h (.inr e)
  simp only [slotOfByte, if_neg ho, if_neg hm]

theorem mem_scanOrder {e : Element} (h : e ∈ scanOrder) : (∃ k, k < 40 ∧ e = .slot (k + 1)) ∨ e = .mail := by
  simp only [scanOrder, List.mem_append, List.mem_map, List.mem_range, List.mem_singleton] at h
  rcases h with ⟨k, hk, rfl⟩ | rfl
  · exact .inl ⟨k, hk, rfl⟩
  · exact .inr rfl

/-- Putting a part of the visiting order in visiting order leaves it. -/
theorem inScanOrder_filter (p : Element → Bool) : inScanOrder (scanOrder.filter p) = scanOrder.filter p := by
  refine List.filter_congr fun e he => ?_
  rw [Bool.eq_iff_iff, List.contains_iff_mem, List.mem_filter]
  exact and_iff_right he

/-- The slots of a SCAN from one value to another, in visiting order (R41). -/
theorem slotsBetween_eq {a b : Byte} {x y : Element} (hb : scanValue b.toNat)
    (hx : visitPlace x = min a.toNat 41) (hy : visitPlace y = min b.toNat 41) :
    slotsBetween x y = scanOrder.filter fun e => match e with
      | .slot n => decide (a.toNat ≤ n) && decide (n ≤ b.toNat)
      | .mail => decide (b = 64#8)
      | .drive _ => false
      | .picker => false := by
  refine List.filter_congr fun e he => ?_
  rw [hx, hy, Bool.eq_iff_iff, Bool.and_eq_true, decide_eq_true_iff, decide_eq_true_iff]
  rcases mem_scanOrder he with ⟨k, hk, rfl⟩ | rfl
  · simp only [visitPlace, Bool.and_eq_true, decide_eq_true_iff]
    unfold scanValue at hb
    omega
  · simp only [visitPlace, decide_eq_true_iff, ← byte_eq_iff b (show 64 < 256 by omega)]
    unfold scanValue at hb
    omega

theorem W.queueScan_eq (w : W) (p : Element → Bool) : w.queueScan (scanOrder.filter p) = match w.cc.scanEntry with
    | some x => ({ w with
        cc := { w.cc with scanEntry := some { x with range := inScanOrder (x.range ++ scanOrder.filter p) } } }, x.id)
    | none => ({ w with
        cc := { w.cc with
          nextId := if w.cc.nextId = 65535 then 1 else w.cc.nextId + 1,
          scanEntry := some { id := w.cc.nextId, range := scanOrder.filter p, remaining := [], attempts := 0,
                              resumeSlot := none, faulted := false } } }, w.cc.nextId) := by
  unfold W.queueScan
  rw [inScanOrder_filter]
  cases w.cc.scanEntry <;> rfl

theorem ownScan_unknown (w : W) {a b : Byte} (h : ¬(scanValue a.toNat ∧ scanValue b.toNat)) :
    ownScan w [a, b] = refuse w .noSuchElement := by
  simp only [ownScan, fieldsOf_two_zero, fieldsOf_two_one]
  by_cases ha : scanValue a.toNat
  · rw [slotOfByte_unknown fun hb => h ⟨ha, hb⟩]
    split
    · contradiction
    · rfl
  · rw [slotOfByte_unknown ha]

theorem ownScan_backwards (w : W) {a b : Byte} (ha : scanValue a.toNat) (hb : scanValue b.toNat)
    (h : b.toNat < a.toNat) : ownScan w [a, b] = refuse w .badArgument := by
  obtain ⟨x, hx, px⟩ := slotOfByte_known ha
  obtain ⟨y, hy, py⟩ := slotOfByte_known hb
  simp only [ownScan, fieldsOf_two_zero, fieldsOf_two_one, hx, hy]
  refine if_pos ?_
  unfold scanValue at ha hb
  omega

theorem ownScan_forwards (w : W) {a b : Byte} (ha : scanValue a.toNat) (hb : scanValue b.toNat)
    (h : a.toNat ≤ b.toNat) : ∃ x y, slotsBetween x y = (scanOrder.filter fun e => match e with
        | .slot n => decide (a.toNat ≤ n) && decide (n ≤ b.toNat)
        | .mail => decide (b = 64#8)
        | .drive _ => false
        | .picker => false) ∧
      ownScan w [a, b] = answer (w.queueScan (slotsBetween x y)).1 (.entryId (w.queueScan (slotsBetween x y)).2) := by
  obtain ⟨x, hx, px⟩ := slotOfByte_known ha
  obtain ⟨y, hy, py⟩ := slotOfByte_known hb
  refine ⟨x, y, slotsBetween_eq hb px py, ?_⟩
  simp only [ownScan, fieldsOf_two_zero, fieldsOf_two_one, hx, hy]
  refine if_neg ?_
  unfold scanValue at ha hb
  omega

theorem exec_scan {s : State} {f : RequestFrame} {a b : Byte} (h : s.requests f 0x20 [a, b])
    (hm : s.lib.mode ≠ .secured) : exec .scan s = .next (s.replying f (ownScan s.work [a, b])) :=
  State.ask_eq h (acceptedIn_of_ne _ hm) rfl

/-! ## A REQUESTED move (R17, R18, R23, R24, R42) -/

theorem W.ite_queueFull {α : Type} (w : W) (a b : α) : (if w.queueFull then a else b) =
    if 8 ≤ (w.cc.queue.filter fun m => m.origin ≠ .recovery).length then a else b := if_congr decide_eq_true_iff rfl rfl

theorem W.queueMove_eq (w : W) (origin : Origin) (source : Element) (asked : Dest) (expected : Option Label) (t : Nat)
    (i : Option Nat) : w.queueMove origin source asked expected t i =
      if 8 ≤ (w.cc.queue.filter fun m => m.origin ≠ .recovery).length then (w, none)
      else ({ w with cc := { w.cc with
        nextId := if w.cc.nextId = 65535 then 1 else w.cc.nextId + 1,
        queue := w.cc.queue ++
          [{ id := w.cc.nextId, origin := origin, source := source, asked := asked, dest := none,
             expectedLabel := expected, attempts := 0, faulted := false, putAway := none, tried := [], ticket := t,
             cart := i }] } }, some w.cc.nextId) := by
  unfold W.queueMove
  rw [W.ite_queueFull]
  rfl

theorem queueRequested_eq (w : W) (source : Element) (asked : Dest) (expected : Option Label) :
    queueRequested w source asked expected =
      if 8 ≤ (w.cc.queue.filter fun m => m.origin ≠ .recovery).length then refuse w .busy
      else answer (w.withRequested source asked expected) (.entryId w.cc.nextId) := by
  unfold queueRequested
  rw [W.queueMove_eq]
  split <;> rfl

theorem recordAt_eq_some_iff (w : W) (e : Element) (i : Nat) : w.recordAt e = some i ↔ w.contentsAt e = .cart i := by
  unfold W.recordAt
  cases w.contentsAt e <;> simp

/-- Whether the cartridge that an element holds is claimed. -/
theorem claimedAt_iff (w : W) (e : Element) : ((w.recordAt e).bind w.claimOf).isSome = true ↔
    ∃ i, w.contentsAt e = .cart i ∧ (w.claimOf i).isSome = true := by
  cases h : w.recordAt e with
  | none =>
    simp only [Option.bind_none, Option.isSome_none, Bool.false_eq_true, false_iff, not_exists, not_and]
    intro i hi
    rw [← recordAt_eq_some_iff, h] at hi
    cases hi
  | some i =>
    have hi := (recordAt_eq_some_iff w e i).1 h
    simp only [hi, Option.bind_some, Contents.cart.injEq, exists_eq_left']

theorem not_claimedAt {w : W} {e : Element} (h : ∀ i, w.contentsAt e = .cart i → w.claimOf i = none) :
    ¬((w.recordAt e).bind w.claimOf).isSome = true := by
  rw [claimedAt_iff]
  rintro ⟨i, hi, hc⟩
  rw [h i hi] at hc
  cases hc

/-! ## MOVE (R42) -/

theorem driveOf_eq_some_iff (e : Element) (d : Drive) : driveOf e = some d ↔ e = .drive d := by
  cases e <;> simp [driveOf]

/-- The drives that a MOVE names. -/
theorem mem_movedDrives (x y : Element) (d : Drive) :
    d ∈ [driveOf x, driveOf y].filterMap id ↔ x = .drive d ∨ y = .drive d := by
  simp only [List.mem_filterMap, List.mem_cons, List.not_mem_nil, or_false, id, ← driveOf_eq_some_iff]
  constructor
  · rintro ⟨_, h | h, rfl⟩
    · exact .inl h.symm
    · exact .inr h.symm
  · rintro (h | h)
    · exact ⟨_, .inl rfl, h⟩
    · exact ⟨_, .inr rfl, h⟩

theorem fieldsOf_moved {a b : Byte} {label : List Byte} (hl : label.length = 8) :
    fieldsOf [1, 1, 8] (a :: b :: label) 0 = a.toNat ∧ fieldsOf [1, 1, 8] (a :: b :: label) 1 = b.toNat := by
  simp [fieldsOf, natFields, fields, beNat, hl, List.drop_eq_nil_of_le hl.le]

theorem ownMove_unknown (w : W) {a b : Byte} {label : List Byte} (hl : label.length = 8)
    (h : elementOfByte a.toNat = none ∨ elementOfByte b.toNat = none) :
    ownMove w (a :: b :: label) = refuse w .noSuchElement := by
  simp only [ownMove, fieldsOf_moved hl]
  rcases h with h | h
  · simp only [h]
  · simp only [h]
    split
    · contradiction
    · rfl

theorem ownMove_known (w : W) {a b : Byte} {label : List Byte} {x y : Element} (hl : label.length = 8)
    (hx : elementOfByte a.toNat = some x) (hy : elementOfByte b.toNat = some y) :
    ownMove w (a :: b :: label) =
      if x = y then refuse w .badArgument
      else if w.mode = .online ∧ [driveOf x, driveOf y].filterMap id ≠ [] then refuse w .claimed
      else if ([driveOf x, driveOf y].filterMap id).any fun d => (w.driveClaim d).isSome then refuse w .claimed
      else if ((w.recordAt x).bind w.claimOf).isSome then refuse w .claimed
      else queueRequested w x (.element y) (labelField label) := by
  simp only [ownMove, fieldsOf_moved hl, hx, hy]
  rfl

theorem exec_move {s : State} {f : RequestFrame} {a b : Byte} {label : List Byte} (h : s.requests f 0x24 (a :: b :: label))
    (hl : label.length = 8) (hm : s.lib.mode ≠ .secured) :
    exec .move s = .next (s.replying f (ownMove s.work (a :: b :: label))) :=
  State.ask_eq h (acceptedIn_of_ne _ hm) (by simp [formOf, hl])

/-- The element is a drive. -/
def isDrive (e : Element) : Prop := e = .drive .d0 ∨ e = .drive .d1

theorem isDrive_iff (e : Element) : isDrive e ↔ ∃ d, e = .drive d := by
  constructor
  · rintro (h | h)
    · exact ⟨_, h⟩
    · exact ⟨_, h⟩
  · rintro ⟨d, rfl⟩
    cases d
    · exact .inl rfl
    · exact .inr rfl

/-- The element is a drive that a job claims. -/
def isClaimedDrive (w : W) (e : Element) : Prop :=
  (e = .drive .d0 ∧ w.js.claims.d0.isSome = true) ∨ (e = .drive .d1 ∧ w.js.claims.d1.isSome = true)

theorem isClaimedDrive_iff (w : W) (e : Element) :
    isClaimedDrive w e ↔ ∃ d, e = .drive d ∧ (w.driveClaim d).isSome = true := by
  constructor
  · rintro (h | h)
    · exact ⟨.d0, h⟩
    · exact ⟨.d1, h⟩
  · rintro ⟨d, h⟩
    cases d
    · exact .inl h
    · exact .inr h

theorem movedDrives_ne_nil_iff (x y : Element) :
    [driveOf x, driveOf y].filterMap id ≠ [] ↔ isDrive x ∨ isDrive y := by
  rw [ne_eq, List.eq_nil_iff_forall_not_mem, not_forall]
  simp only [not_not, mem_movedDrives, isDrive_iff, exists_or]

theorem movedDrives_any_iff (w : W) (x y : Element) :
    ([driveOf x, driveOf y].filterMap id).any (fun d => (w.driveClaim d).isSome) = true ↔
      isClaimedDrive w x ∨ isClaimedDrive w y := by
  simp only [List.any_eq_true, mem_movedDrives, isClaimedDrive_iff, or_and_right, exists_or]

/-- A MOVE that R42 answers CLAIMED: of a drive while ONLINE, of a claimed drive, or of a claimed cartridge. -/
def moveClaimed (w : W) (x y : Element) : Prop :=
  (w.mode = .online ∧ (isDrive x ∨ isDrive y)) ∨ isClaimedDrive w x ∨ isClaimedDrive w y ∨
    ∃ i, w.contentsAt x = .cart i ∧ (w.claimOf i).isSome = true

theorem ownMove_claimed {w : W} {a b : Byte} {label : List Byte} {x y : Element} (hl : label.length = 8)
    (hx : elementOfByte a.toNat = some x) (hy : elementOfByte b.toNat = some y) (hne : x ≠ y) (h : moveClaimed w x y) :
    ownMove w (a :: b :: label) = refuse w .claimed := by
  rw [ownMove_known w hl hx hy, if_neg hne]
  split
  · rfl
  next hd =>
    split
    · rfl
    next hc =>
      refine if_pos ((claimedAt_iff w x).2 ?_)
      rcases h with ⟨ho, h⟩ | h | h | h
      · exact absurd ⟨ho, (movedDrives_ne_nil_iff x y).2 h⟩ hd
      · exact absurd ((movedDrives_any_iff w x y).2 (.inl h)) hc
      · exact absurd ((movedDrives_any_iff w x y).2 (.inr h)) hc
      · exact h

theorem ownMove_queued {w : W} {a b : Byte} {label : List Byte} {x y : Element} (hl : label.length = 8)
    (hx : elementOfByte a.toNat = some x) (hy : elementOfByte b.toNat = some y) (hne : x ≠ y) (h : ¬moveClaimed w x y) :
    ownMove w (a :: b :: label) = queueRequested w x (.element y) (labelField label) := by
  rw [ownMove_known w hl hx hy, if_neg hne]
  rw [if_neg fun e => h (.inl ⟨e.1, (movedDrives_ne_nil_iff x y).1 e.2⟩),
    if_neg fun e => h (((movedDrives_any_iff w x y).1 e).elim (fun e => .inr (.inl e)) fun e => .inr (.inr (.inl e))),
    if_neg fun e => h (.inr (.inr (.inr ((claimedAt_iff w x).1 e))))]

/-! ## IMPORT and EXPORT (R17, R18) -/

theorem exec_importCartridge {s : State} {f : RequestFrame} {p : List Byte} (h : s.requests f 0x25 p)
    (hp : p.length ≤ 1) (hm : s.lib.mode ≠ .secured) :
    exec .importCartridge s = .next (s.replying f (ownImport s.work p)) :=
  State.ask_eq h (acceptedIn_of_ne _ hm) (decide_eq_true hp)

theorem exec_exportCartridge {s : State} {f : RequestFrame} {p : List Byte} (h : s.requests f 0x26 p)
    (hp : formByte p = true) (hm : s.lib.mode ≠ .secured) :
    exec .exportCartridge s = .next (s.replying f (ownExport s.work p)) :=
  State.ask_eq h (acceptedIn_of_ne _ hm) hp

theorem mem_slotsOf (g : Magazine) (n : Nat) : n ∈ slotsOf g ↔ 1 ≤ n ∧ n ≤ 40 ∧ magazineOf n = g := by
  cases g <;> simp only [slotsOf, List.mem_map, List.mem_range, magazineOf]
  · constructor
    · rintro ⟨k, hk, rfl⟩
      exact ⟨by omega, by omega, if_pos (by omega)⟩
    · rintro ⟨h1, h40, hm⟩
      split at hm
      · exact ⟨n - 1, by omega, by omega⟩
      · cases hm
  · constructor
    · rintro ⟨k, hk, rfl⟩
      exact ⟨by omega, by omega, if_neg (by omega)⟩
    · rintro ⟨h1, h40, hm⟩
      split at hm
      · cases hm
      · exact ⟨n - 21, by omega, by omega⟩

/-- No storage slot is EMPTY. -/
theorem lowestEmpty_eq_none_iff (w : W) : w.lowestEmpty = none ↔
    ((List.range 40).all fun n => (w.slotAt (.slot (n + 1))).state ≠ .empty) = true := by
  simp only [W.lowestEmpty, W.lowestEmptyIn, Option.or_eq_none_iff, List.find?_eq_none, mem_slotsOf, decide_eq_true_eq,
    List.all_eq_true, List.mem_range]
  constructor
  · intro ⟨hl, hr⟩ n hn
    cases hm : magazineOf (n + 1)
    · exact hl (n + 1) ⟨by omega, by omega, hm⟩
    · exact hr (n + 1) ⟨by omega, by omega, hm⟩
  · intro h
    have slot (n : Nat) (h1 : 1 ≤ n) (h40 : n ≤ 40) : (w.slotAt (.slot n)).state ≠ .empty := by
      have := h (n - 1) (by omega)
      rwa [Nat.sub_add_cancel h1] at this
    exact ⟨fun n hn => slot n hn.1 hn.2.1, fun n hn => slot n hn.1 hn.2.1⟩

theorem ownImport_nothing {w : W} (p : List Byte) (h : w.ct.mail.state ≠ .occupied ∨ w.ct.mail.holder = none) :
    ownImport w p = refuse w .wrongState := by
  have hn : (if (w.slotAt .mail).state = .occupied then (w.slotAt .mail).holder else none) = none := by
    split
    next ho => exact h.resolve_left fun hne => hne ho
    next => rfl
  simp only [ownImport, hn]

theorem ownImport_holding {w : W} {i : Nat} (p : List Byte) (ho : w.ct.mail.state = .occupied)
    (hi : w.ct.mail.holder = some i) : ownImport w p =
      if w.lowestEmpty = none then refuse w .full
      else if 8 ≤ (w.cc.queue.filter fun m => m.origin ≠ .recovery).length then refuse w .busy
      else if 8 ≤ (p.map BitVec.toNat).headD 255 ∧ (p.map BitVec.toNat).headD 255 ≤ 254 then refuse w .badArgument
      else queueRequested
        (if (p.map BitVec.toNat).headD 255 ≤ 7 then
          (w.modCart i fun c => { c with pool := (p.map BitVec.toNat).headD 255 }).wantDispatch else w)
        .mail .lowestFree (w.labelOf i) := by
  have hn : (if (w.slotAt .mail).state = .occupied then (w.slotAt .mail).holder else none) = some i := (if_pos ho).trans hi
  have hp : (p.head?.map BitVec.toNat).getD 255 = (p.map BitVec.toNat).headD 255 := by
    cases p <;> rfl
  simp only [ownImport, hn, hp]
  rw [W.ite_queueFull]

theorem modCart_cc (w : W) (i : Nat) (g : CartRec → CartRec) : (w.modCart i g).cc = w.cc := by
  unfold W.modCart
  split <;> rfl

/-- What an element of EXPORT must hold: a slot OCCUPIED or UNTRACKED, a drive any cartridge (R18). -/
def exportable (w : W) : Element → Prop
  | .slot n => (w.slotAt (.slot n)).state = .occupied ∨ (w.slotAt (.slot n)).state = .untracked
  | .drive d => (w.port d).cartridge ≠ .none
  | .mail => False
  | .picker => False

theorem exportFrom_of_not_exportable {w : W} {e : Element} (h : ¬exportable w e) :
    exportFrom w e = refuse w .wrongState := by
  cases e with
  | slot n =>
    obtain ⟨ho, hu⟩ := not_or.1 h
    simp only [exportFrom, decide_eq_false ho, decide_eq_false hu, Bool.or_false, if_true]
  | drive d =>
    have hd : ¬(w.port d).cartridge ≠ .none := h
    simp only [exportFrom, decide_eq_false hd, if_true]
  | mail | picker => rfl

theorem exportFrom_of_exportable {w : W} {e : Element} (h : exportable w e) : exportFrom w e =
    if ((w.recordAt e).bind w.claimOf).isSome then refuse w .claimed
    else queueRequested w e (.element .mail) ((w.recordAt e).bind w.labelOf) := by
  refine if_neg ?_
  cases e with
  | slot n =>
    rcases h with h | h
    · simp [h]
    · simp [h]
  | drive d =>
    have hd : (w.port d).cartridge ≠ .none := h
    simpa using hd
  | mail | picker => exact absurd h id

theorem labelAt_eq (w : W) (e : Element) : (w.recordAt e).bind w.labelOf = match w.contentsAt e with
    | .cart i => w.labelOf i
    | .none => none
    | .untracked => none := by
  unfold W.recordAt
  cases w.contentsAt e <;> rfl

theorem exportElement_eq {n : Nat} {e : Element} (h : elementOfByte n = some e) (hm : e ≠ .mail) (hp : e ≠ .picker) :
    exportElement n = some e := by
  unfold exportElement
  rw [h]
  cases e with
  | slot | drive => rfl
  | mail => exact absurd rfl hm
  | picker => exact absurd rfl hp

theorem elementOfByte_ne_picker {n : Nat} {e : Element} (h : elementOfByte n = some e) : e ≠ .picker := by
  rintro rfl
  unfold elementOfByte at h
  (repeat' split at h) <;> cases h

theorem ownExport_element {w : W} {n : Byte} {e : Element} (h : elementOfByte n.toNat = some e) (hm : e ≠ .mail) :
    ownExport w [1#8, n] = exportFrom w e := by
  have hn : beNat [n] = n.toNat := by simp [beNat]
  have he : exportElement (beNat [n]) = some e := by
    rw [hn]
    exact exportElement_eq h hm (elementOfByte_ne_picker h)
  simp only [ownExport, List.headD_cons, List.drop_succ_cons, List.drop_zero, he]
  rfl

theorem ownExport_noElement {w : W} {n : Byte} (h : elementOfByte n.toNat = none ∨ n = 64#8) :
    ownExport w [1#8, n] = refuse w .noSuchElement := by
  have hn : beNat [n] = n.toNat := by simp [beNat]
  have he : exportElement (beNat [n]) = none := by
    rw [hn]
    rcases h with h | rfl
    · simp only [exportElement, h]
    · rfl
  simp only [ownExport, List.headD_cons, List.drop_succ_cons, List.drop_zero, he]
  rfl

theorem ownExport_label (w : W) (label : List Byte) : ownExport w (0#8 :: label) =
    match (w.cartByLabel label).bind w.locationOf with
    | some e => exportFrom w e
    | none => refuse w .noSuchCartridge := rfl

theorem replying_queueRequested (s : State) (f : RequestFrame) (w : W) (source : Element) (asked : Dest)
    (expected : Option Label) : s.replying f (queueRequested w source asked expected) =
      if 8 ≤ (w.cc.queue.filter fun m => m.origin ≠ .recovery).length then s.turnedDown f .busy .empty
      else s.answered f (w.withRequested source asked expected) (.entryId w.cc.nextId) := by
  rw [queueRequested_eq, State.replying_ite, State.replying_refuse _ _ _ (show Status.busy ≠ .ok by nofun),
    State.replying_answer]

/-- IMPORT of the cartridge in M, once its checks have been passed: its pool is set unless the byte is 255 (R17). -/
theorem replying_import (s : State) (f : RequestFrame) (w : W) (p : List Byte) (i : Nat) :
    s.replying f (if w.lowestEmpty = none then refuse w .full
      else if 8 ≤ (w.cc.queue.filter fun m => m.origin ≠ .recovery).length then refuse w .busy
      else if 8 ≤ (p.map BitVec.toNat).headD 255 ∧ (p.map BitVec.toNat).headD 255 ≤ 254 then refuse w .badArgument
      else queueRequested
        (if (p.map BitVec.toNat).headD 255 ≤ 7 then
          (w.modCart i fun c => { c with pool := (p.map BitVec.toNat).headD 255 }).wantDispatch else w)
        .mail .lowestFree (w.labelOf i)) =
      if w.lowestEmpty = none then s.turnedDown f .full .empty
      else if 8 ≤ (w.cc.queue.filter fun m => m.origin ≠ .recovery).length then s.turnedDown f .busy .empty
      else if 8 ≤ (p.map BitVec.toNat).headD 255 ∧ (p.map BitVec.toNat).headD 255 ≤ 254 then
        s.turnedDown f .badArgument .empty
      else if (p.map BitVec.toNat).headD 255 = 255 then
        s.answered f (w.withRequested .mail .lowestFree (w.labelOf i)) (.entryId w.cc.nextId)
      else
        s.answered f (({ (w.modCart i fun c => { c with pool := (p.map BitVec.toNat).headD 255 }) with
          dispatchDue := true } : W).withRequested .mail .lowestFree (w.labelOf i)) (.entryId w.cc.nextId) := by
  have small : (p.map BitVec.toNat).headD 255 ≤ 255 := by
    cases p with
    | nil => exact le_rfl
    | cons b rest => exact Nat.le_of_lt_succ b.isLt
  by_cases he : w.lowestEmpty = none
  · rw [if_pos he, if_pos he]
    rfl
  rw [if_neg he, if_neg he]
  by_cases hq : 8 ≤ (w.cc.queue.filter fun m => m.origin ≠ .recovery).length
  · rw [if_pos hq, if_pos hq]
    rfl
  rw [if_neg hq, if_neg hq]
  by_cases hp : 8 ≤ (p.map BitVec.toNat).headD 255 ∧ (p.map BitVec.toNat).headD 255 ≤ 254
  · rw [if_pos hp, if_pos hp]
    rfl
  rw [if_neg hp, if_neg hp, replying_queueRequested]
  by_cases ha : (p.map BitVec.toNat).headD 255 = 255
  · rw [if_pos ha, if_neg (show ¬(p.map BitVec.toNat).headD 255 ≤ 7 by omega), if_neg hq]
  · have hcc : ((w.modCart i fun c => { c with pool := (p.map BitVec.toNat).headD 255 }).wantDispatch).cc = w.cc :=
      modCart_cc w i _
    rw [if_neg ha, if_pos (show (p.map BitVec.toNat).headD 255 ≤ 7 by omega), hcc, if_neg hq]
    rfl

theorem exec_exportOf {s : State} {f : RequestFrame} {e : Element} (hm : s.lib.mode ≠ .secured)
    (h : (∃ n, s.requests f 0x26 [1#8, n] ∧ elementOfByte n.toNat = some e ∧ e ≠ .mail) ∨
      (∃ label, s.requests f 0x26 (0#8 :: label) ∧ label.length = 8 ∧
        (s.work.cartByLabel label).bind s.work.locationOf = some e)) :
    exec .exportCartridge s = .next (s.replying f (exportFrom s.work e)) := by
  rcases h with ⟨n, h, hn, hne⟩ | ⟨label, h, hl, he⟩
  · rw [exec_exportCartridge h rfl hm, ownExport_element hn hne]
  · rw [exec_exportCartridge h (decide_eq_true hl) hm, ownExport_label, he]

/-! ## Held moves (R79) -/

theorem W.issueHeld_nil {w : W} (h : w.js.heldMoves = []) : w.issueHeld = w := by
  simp only [W.issueHeld, h]

theorem W.issueHeld_cons {w : W} {m : HeldMove} {rest : List HeldMove} (h : w.js.heldMoves = m :: rest) :
    w.issueHeld = if 8 ≤ (w.cc.queue.filter fun k => k.origin ≠ .recovery).length then w
      else { w with
        js := { w.js with heldMoves := rest },
        cc := { w.cc with
          nextId := if w.cc.nextId = 65535 then 1 else w.cc.nextId + 1,
          queue := w.cc.queue ++
            [{ id := w.cc.nextId, origin := m.origin, source := m.source, asked := m.asked, dest := none,
               expectedLabel := m.expectedLabel, attempts := 0, faulted := false, putAway := none, tried := [],
               ticket := m.ticket, cart := m.cart }] } } := by
  simp only [W.issueHeld, h]
  rw [W.ite_queueFull]
  by_cases hq : 8 ≤ (w.cc.queue.filter fun k => k.origin ≠ .recovery).length
  · rw [if_pos hq, if_pos hq]
  · rw [if_neg hq, if_neg hq, W.queueMove_eq, if_neg hq]

theorem exec_heldMoveIssue (s : State) : exec .heldMoveIssue s = .next (s.putWork s.work.issueHeld) := rfl

/-- Settles O24. -/
theorem entriesAreQueued : Obligations.EntriesAreQueued := by
  refine ⟨⟨fun s f a b h hm => ⟨fun hn => ?_, fun ha hb hlt => ?_, fun ha hb hle => ?_⟩,
    fun s f a b label h hl hm => ⟨fun hn => ?_, fun x y hx hy => ⟨fun he => ?_, fun hne hc => ?_, fun hne hd hcx hcy hi => ?_⟩⟩,
    fun s f p h hp hm => ⟨fun hn => ?_, fun i ho hi => ?_⟩,
    fun s f e hm h => ⟨fun hn => ?_, fun hh hc => ?_, fun hh hc => ?_⟩,
    fun s f hm => ⟨fun ⟨n, h, hn⟩ => ?_, fun ⟨label, h, hl, hn⟩ => ?_⟩⟩, fun s m rest hq => ?_, fun s hq => ?_⟩
  · rw [exec_scan h hm, ownScan_unknown _ hn]
    rfl
  · rw [exec_scan h hm, ownScan_backwards _ ha hb hlt]
    rfl
  · obtain ⟨x, y, hr, ho⟩ := ownScan_forwards s.work ha hb hle
    rw [exec_scan h hm, ho, hr, W.queueScan_eq, State.replying_answer]
    refine congrArg Host.Outcome.next ?_
    change _ = (match s.work.cc.scanEntry with
      | some x => _
      | none => _)
    cases s.work.cc.scanEntry <;> rfl
  · rw [exec_move h hl hm, ownMove_unknown _ hl hn]
    rfl
  · rw [exec_move h hl hm, ownMove_known _ hl hx hy, if_pos he]
    rfl
  · have hf : moveClaimed s.work x y := hc
    rw [exec_move h hl hm, ownMove_claimed hl hx hy hne hf]
    rfl
  · have hf : ¬moveClaimed s.work x y := by
      rintro (⟨ho, hx | hy⟩ | hx | hy | ⟨i, hi', hc⟩)
      · exact (hd ho).1 hx
      · exact (hd ho).2 hy
      · exact hcx hx
      · exact hcy hy
      · rw [hi i hi'] at hc
        cases hc
    rw [exec_move h hl hm, ownMove_queued hl hx hy hne hf, replying_queueRequested]
    rfl
  · rw [exec_importCartridge h hp hm, ownImport_nothing p hn]
    rfl
  · rw [exec_importCartridge h hp hm, ownImport_holding p ho hi]
    refine congrArg Host.Outcome.next ?_
    rw [replying_import]
    exact if_congr (lowestEmpty_eq_none_iff s.work) rfl rfl
  · rw [exec_exportOf hm h, exportFrom_of_not_exportable hn]
    rfl
  · rw [exec_exportOf hm h, exportFrom_of_exportable hh, if_pos ((claimedAt_iff _ _).2 hc)]
    rfl
  · rw [exec_exportOf hm h, exportFrom_of_exportable hh, if_neg (not_claimedAt hc), replying_queueRequested, labelAt_eq]
    rfl
  · rw [exec_exportCartridge h rfl hm, ownExport_noElement hn]
    rfl
  · rw [exec_exportCartridge h (decide_eq_true hl) hm, ownExport_label, hn]
    rfl
  · have hw : s.work.issueHeld = _ := W.issueHeld_cons hq
    rw [exec_heldMoveIssue, hw]
    rfl
  · have hw : s.work.issueHeld = _ := W.issueHeld_nil hq
    rw [exec_heldMoveIssue, hw]

end Sys2Proof.Machine

/-! PROOF. CLEAR CHANGER FAULT and the front door (R35 to R38): what a state of the changer and a step that begins leave. -/

namespace Sys2Proof.Machine

/-! ## States and steps of the changer (R22, R27) -/

/-- The changer takes a state: dispatch is due when it was in another (R22, R75). -/
theorem W.ccEnter_eq (w : W) (x : ChangerState) : w.ccEnter x =
    { w with cc := { w.cc with state := x }, dispatchDue := w.dispatchDue || decide (w.cc.state ≠ x) } := by
  unfold W.ccEnter
  by_cases h : w.cc.state = x
  · subst h
    simp
  · rw [if_neg h, decide_eq_true h, Bool.or_true]
    rfl

theorem W.ccEnter_of_ne {w : W} {x : ChangerState} (h : w.cc.state ≠ x) :
    w.ccEnter x = { w with cc := { w.cc with state := x }, dispatchDue := true } := by
  rw [W.ccEnter_eq, decide_eq_true h, Bool.or_true]

theorem W.beginStep_of_ne {w : W} {x : Step} (h : w.cc.state ≠ W.stateOfStep x) : w.beginStep x =
    { w with
      cc := { w.cc with
        state := W.stateOfStep x, step := some x, stepTimer := some 20, retryTimer := none },
      dispatchDue := true } :=
  W.ccEnter_of_ne h

theorem W.startHoming_of_ne {w : W} (seq : HomingFor) (h : w.cc.state ≠ .homing) : w.startHoming seq =
    { w with
      cc := { w.cc with
        homingFor := seq, homingAttempts := 0, state := .homing, step := some .homing, stepTimer := some 20,
        retryTimer := none },
      dispatchDue := true } :=
  W.beginStep_of_ne h

/-! ## CLEAR CHANGER FAULT (R35) -/

/-- What the homing that clears a hold belongs to (R35, R38). -/
def clearedFor (c : Changer) : HomingFor :=
  if c.state = .locked then .toIdle
  else if c.holdReason = some .pickerOccupied then .pickerRecheck
  else match c.step with
    | some .homing => c.homingFor
    | some .spotCheck => c.homingFor
    | some .scanStep => .continueScan
    | some .travel => .settleHeld
    | some .grip => .settleHeld
    | some .travelLoaded => .settleHeld
    | some .place => .settleHeld
    | none => .toIdle

theorem W.clearFault_eq {w : W} (h : w.cc.state = .faultHold ∨ w.cc.state = .locked) : w.clearFault =
    { w with
      cc := { w.cc with
        faultRun := 0, holdReason := if w.cc.state = .locked then w.cc.holdReason else none,
        homingFor := clearedFor w.cc, homingAttempts := 0, state := .homing, step := some .homing,
        stepTimer := some 20, retryTimer := none },
      dispatchDue := true } := by
  have hne : w.cc.state ≠ .homing := by
    rcases h with h | h <;> rw [h] <;> nofun
  have hs : (w.modCC fun c => { c with faultRun := 0 }).cc.state = w.cc.state := rfl
  have hr : (w.modCC fun c => { c with faultRun := 0 }).cc.holdReason = w.cc.holdReason := rfl
  have hp : (w.modCC fun c => { c with faultRun := 0 }).cc.step = w.cc.step := rfl
  unfold W.clearFault clearedFor
  dsimp only
  rw [hs, hr, hp]
  by_cases hl : w.cc.state = .locked
  · rw [if_pos hl, if_pos hl, if_pos hl]
    exact W.startHoming_of_ne _ hne
  · rw [if_neg hl, if_neg hl, if_neg hl]
    by_cases ho : w.cc.holdReason = some .pickerOccupied
    · rw [if_pos ho, if_pos ho]
      exact W.startHoming_of_ne _ hne
    · rw [if_neg ho, if_neg ho]
      cases w.cc.step with
      | none => exact W.startHoming_of_ne _ hne
      | some x => cases x <;> exact W.startHoming_of_ne _ hne

theorem exec_clearChangerFault {s : State} {f : RequestFrame} (h : s.requests f 0x27 []) :
    exec .clearChangerFault s = .next (s.replying f (ownClearChangerFault s.work [])) :=
  State.ask_eq h (acceptedIn_of_not_refused _ rfl) rfl

/-! ## The front door (R36, R37) -/

/-- What the changer keeps as the front door opens (R36). -/
def doorKeeps (w : W) : Option Held := if w.cc.closing then w.cc.held else some w.openContext

theorem W.frontDoorOpens_eq (w : W) : w.frontDoorOpens =
    { w with
      cc := { w.cc with
        state := .held, step := none, stepTimer := none, retryTimer := none, held := doorKeeps w,
        holdReason := match doorKeeps w with
          | some h => if h.ret = .faultHold then h.reason else none
          | none => none,
        settledEnd := w.cc.closing && w.cc.settledEnd, pickerFound := w.cc.closing && w.cc.pickerFound },
      ct := { w.ct with slots := w.ct.slots.map fun r =>
        if r.state = .noMagazine then r else { r with state := .unknown } },
      out := w.out ++ [.door true true], dispatchDue := w.dispatchDue || decide (w.cc.state ≠ .held) } := by
  unfold W.frontDoorOpens
  simp only [W.ccEnter_eq]
  rfl

theorem openContext_faultHold {w : W} (h : w.cc.state = .faultHold) :
    w.openContext.ret = .faultHold ∧ w.openContext.reason = w.cc.holdReason := by
  simp only [W.openContext, h]
  trivial

theorem openContext_idle {w : W} (h : w.cc.state = .idle) :
    w.openContext = { step := none, ret := .idle, reason := none, seq := .toIdle } := by
  simp only [W.openContext, h]

theorem openContext_locked {w : W} (h : w.cc.state = .locked) :
    w.openContext = { step := none, ret := .locked, reason := none, seq := .toIdle } := by
  simp only [W.openContext, h]

theorem openContext_step {w : W} {x : Step} (hx : x ∈ [Step.travel, .grip, .travelLoaded, .place])
    (hp : w.cc.step = some x) (h : w.cc.state = W.stateOfStep x ∨ w.cc.state = .retryWait) :
    w.openContext = { step := some x, ret := .resume, reason := none, seq := .toIdle } := by
  have one {y : Step} (hy : y ∈ [Step.travel, .grip, .travelLoaded, .place]) (e : w.cc.step = some y)
      (h : w.cc.state = W.stateOfStep y ∨ w.cc.state = .retryWait) :
      w.openContext = { step := some y, ret := .resume, reason := none, seq := .toIdle } := by
    simp only [List.mem_cons, List.not_mem_nil, or_false] at hy
    rcases hy with rfl | rfl | rfl | rfl <;> rcases h with h | h <;> simp only [W.openContext, h, e, W.stateOfStep]
  exact one hx hp h

theorem W.frontDoorCloses_eq (w : W) : w.frontDoorCloses =
    if w.cc.state = .held then { w with
      out := w.out ++ [.door true false],
      cc := { w.cc with
        closing := true, homingFor := .toIdle, homingAttempts := 0, state := .homing, step := some .homing,
        stepTimer := some 20, retryTimer := none },
      dispatchDue := true }
    else { w with out := w.out ++ [.door true false] } := by
  unfold W.frontDoorCloses
  change (if w.cc.state = .held then _ else _) = _
  by_cases h : w.cc.state = .held
  · have hne : w.cc.state ≠ .homing := by
      rw [h]
      nofun
    rw [if_pos h, if_pos h]
    exact W.startHoming_of_ne _ hne
  · rw [if_neg h, if_neg h]
    rfl

theorem exec_frontDoorOpened (s : State) : exec .frontDoorOpened s = .next (s.putWork (
    if s.lib.pins.frontDoorOpen then s.work
    else W.frontDoorOpens { s.work with pins := { s.lib.pins with frontDoorOpen := true } })) := rfl

theorem exec_frontDoorClosed (s : State) : exec .frontDoorClosed s = .next (s.putWork (
    if s.lib.pins.frontDoorOpen then W.frontDoorCloses { s.work with pins := { s.lib.pins with frontDoorOpen := false } }
    else s.work)) := rfl

/-- Settles O25. -/
theorem theFrontDoorAndAClearedFaultHomeTheChanger : Obligations.TheFrontDoorAndAClearedFaultHomeTheChanger := by
  refine ⟨fun s f h => ⟨fun hf hl => ?_, fun hs => ?_⟩, fun s hd => ?_, fun s hd => ?_, fun s => ⟨fun hd => ?_, fun hd => ?_⟩⟩
  · have hn : ¬(s.work.cc.state = .faultHold ∨ s.work.cc.state = .locked) := not_or.2 ⟨hf, hl⟩
    rw [exec_clearChangerFault h, ownClearChangerFault, if_neg hn]
    rfl
  · have hh : s.work.cc.state = .faultHold ∨ s.work.cc.state = .locked := hs
    rw [exec_clearChangerFault h, ownClearChangerFault, if_pos hh, State.replying_answer, W.clearFault_eq hh]
    rfl
  · refine ⟨doorKeeps { s.work with pins := { s.lib.pins with frontDoorOpen := true } }, ?_, fun hc => if_pos hc,
      fun hc hi => ?_, fun hc hl => ?_, fun x hc hx hp hs => ?_, fun hc hf => ?_⟩
    · rw [exec_frontDoorOpened, hd, if_neg Bool.false_ne_true, W.frontDoorOpens_eq]
      rfl
    all_goals rw [doorKeeps, if_neg (by rw [Bool.not_eq_true]; exact hc)]
    · exact congrArg some (openContext_idle hi)
    · exact congrArg some (openContext_locked hl)
    · exact congrArg some (openContext_step hx hp hs)
    · obtain ⟨hr, hs⟩ := openContext_faultHold (w := { s.work with pins := { s.lib.pins with frontDoorOpen := true } }) hf
      exact ⟨congrArg some hr, hs⟩
  · rw [exec_frontDoorClosed, hd, if_pos rfl, W.frontDoorCloses_eq]
    rfl
  · rw [exec_frontDoorOpened, if_pos hd]
  · rw [exec_frontDoorClosed, hd]
    rfl

end Sys2Proof.Machine

/-! PROOF. The Cartridge Table's operations (R2, R8 to R10): what each leaves of a slot and of a record, said once. -/

namespace Sys2Proof.Machine

/-! ## One record, one slot -/

theorem W.modCart_of_none {w : W} {i : Nat} (h : w.cart i = none) (g : CartRec → CartRec) : w.modCart i g = w := by
  simp only [W.modCart, h]

@[simp] theorem W.slotAt_modCart (w : W) (i : Nat) (g : CartRec → CartRec) (e : Element) :
    (w.modCart i g).slotAt e = w.slotAt e := by
  unfold W.modCart
  split <;> cases e <;> rfl

theorem W.cart_modCart_other (w : W) {i k : Nat} (g : CartRec → CartRec) (h : k ≠ i) :
    (w.modCart i g).cart k = w.cart k := by
  unfold W.modCart
  split
  · exact W.cart_putCart_other _ _ h
  · rfl

theorem W.cart_modCart_map (w : W) (i : Nat) (g : CartRec → CartRec) : (w.modCart i g).cart i = (w.cart i).map g := by
  cases h : w.cart i with
  | none => rw [W.modCart_of_none h, h, Option.map_none]
  | some c => rw [W.cart_modCart h, if_pos rfl, Option.map_some]

@[simp] theorem W.cart_putSlot (w : W) (e : Element) (r : SlotRec) (i : Nat) : (w.putSlot e r).cart i = w.cart i := by
  cases e <;> rfl

@[simp] theorem W.slotAt_mail_putSlot (w : W) (n : Nat) (r : SlotRec) :
    (w.putSlot (.slot n) r).slotAt .mail = w.slotAt .mail := rfl

@[simp] theorem W.slotAt_slot_putSlot_mail (w : W) (n : Nat) (r : SlotRec) :
    (w.putSlot .mail r).slotAt (.slot n) = w.slotAt (.slot n) := rfl

@[simp] theorem W.slotAt_mail_putSlot_mail (w : W) (r : SlotRec) : (w.putSlot .mail r).slotAt .mail = r := rfl

@[simp] theorem W.slotAt_wantRehome (w : W) (e : Element) : w.wantRehome.slotAt e = w.slotAt e := by cases e <;> rfl

@[simp] theorem W.slotAt_wantDispatch (w : W) (e : Element) : w.wantDispatch.slotAt e = w.slotAt e := by cases e <;> rfl

@[simp] theorem W.slotAt_emit (w : W) (g : Signal) (e : Element) : (w.emit g).slotAt e = w.slotAt e := by cases e <;> rfl

@[simp] theorem W.cart_wantRehome (w : W) (i : Nat) : w.wantRehome.cart i = w.cart i := rfl

@[simp] theorem W.cart_wantDispatch (w : W) (i : Nat) : w.wantDispatch.cart i = w.cart i := rfl

@[simp] theorem W.cart_emit (w : W) (g : Signal) (i : Nat) : (w.emit g).cart i = w.cart i := rfl

/-! ## Slots that lose what they held (R9, R10) -/

@[simp] theorem W.cart_emptySlot (w : W) (e : Element) (i : Nat) : (w.emptySlot e).cart i = w.cart i := by
  cases e <;> rfl

@[simp] theorem W.slotAt_mail_emptySlot (w : W) (n : Nat) : (w.emptySlot (.slot n)).slotAt .mail = w.slotAt .mail := rfl

theorem W.slotAt_emptySlot_other (w : W) {n k : Nat} (h : k - 1 ≠ n - 1) :
    (w.emptySlot (.slot n)).slotAt (.slot k) = w.slotAt (.slot k) :=
  W.slotAt_putSlot_other w _ h

theorem W.slotAt_emptySlot_same {w : W} {n : Nat} (h : n - 1 < w.ct.slots.length) :
    (w.emptySlot (.slot n)).slotAt (.slot n) = W.bareSlot .empty :=
  W.slotAt_putSlot_same (w := w) h _

@[simp] theorem W.cart_releaseHome (w : W) (i k : Nat) : (w.releaseHome i).cart k = w.cart k := by
  unfold W.releaseHome
  split
  · rfl
  · dsimp only
    (repeat' split) <;> simp

@[simp] theorem W.slotAt_mail_releaseHome (w : W) (i : Nat) : (w.releaseHome i).slotAt .mail = w.slotAt .mail := by
  unfold W.releaseHome
  split
  · rfl
  · dsimp only
    (repeat' split) <;> simp

/-- Two numbers of one place in the list of slots name one slot. -/
theorem W.slotAt_congr (w : W) {n k : Nat} (h : k - 1 = n - 1) : w.slotAt (.slot k) = w.slotAt (.slot n) := by
  simp only [W.slotAt, h]

/-- A home given up changes the slot reserved for it alone. -/
theorem W.slotAt_releaseHome {w : W} {i k : Nat} (h : (w.slotAt (.slot k)).reservedFor ≠ some i) :
    (w.releaseHome i).slotAt (.slot k) = w.slotAt (.slot k) := by
  unfold W.releaseHome
  split
  · rfl
  next n _ =>
    dsimp only
    split
    next hr =>
      have hk : k - 1 ≠ n - 1 := fun e => h (by rw [W.slotAt_congr w e]; exact hr)
      split
      · exact W.slotAt_emptySlot_other w hk
      · exact W.slotAt_putSlot_other w _ hk
    next => rfl

theorem W.slotAt_leaveHome {w : W} {i k : Nat} (h : (w.slotAt (.slot k)).reservedFor ≠ some i) :
    (w.leaveHome i).slotAt (.slot k) = w.slotAt (.slot k) := by
  unfold W.leaveHome
  split
  · rfl
  next n _ =>
    split
    next hr => exact W.slotAt_emptySlot_other w fun e => h (by rw [W.slotAt_congr w e]; exact hr)
    next => rfl

@[simp] theorem W.cart_leaveHome (w : W) (i k : Nat) : (w.leaveHome i).cart k = w.cart k := by
  unfold W.leaveHome
  split
  · rfl
  · split <;> simp

/-! ## Records that become absent or homeless (R9, R10) -/

theorem W.becomeAbsent_of_absent {w : W} {i : Nat} (h : w.locationOf i = none) : w.becomeAbsent i = w := by
  unfold W.becomeAbsent
  split
  · rfl
  next c hc =>
    refine if_pos ?_
    simpa only [W.locationOf, hc, Option.bind_some] using h

theorem W.slotAt_becomeAbsent {w : W} {i k : Nat} (h : (w.slotAt (.slot k)).reservedFor ≠ some i) :
    (w.becomeAbsent i).slotAt (.slot k) = w.slotAt (.slot k) := by
  unfold W.becomeAbsent
  split
  · rfl
  · split
    · rfl
    · dsimp only
      split <;> simp [W.slotAt_releaseHome h]

@[simp] theorem W.slotAt_mail_becomeAbsent (w : W) (i : Nat) : (w.becomeAbsent i).slotAt .mail = w.slotAt .mail := by
  unfold W.becomeAbsent
  split
  · rfl
  · split
    · rfl
    · dsimp only
      split <;> simp

theorem W.cart_becomeAbsent_other (w : W) {i k : Nat} (h : k ≠ i) : (w.becomeAbsent i).cart k = w.cart k := by
  unfold W.becomeAbsent
  split
  · rfl
  · split
    · rfl
    · dsimp only
      split <;> simp [W.cart_modCart_other _ _ h]

/-- The record that becomes absent: without a location, a home and a claim, and otherwise as it was (R10). -/
theorem W.cart_becomeAbsent_same {w : W} {i : Nat} {c : CartRec} (h : w.cart i = some c) (hl : c.location ≠ none) :
    (w.becomeAbsent i).cart i = some { c with location := none, home := none, claim := none } := by
  unfold W.becomeAbsent
  split
  next hn =>
    rw [h] at hn
    cases hn
  next d hd =>
    rw [h] at hd
    cases hd
    rw [if_neg hl]
    dsimp only
    split <;> simp [W.cart_modCart_map, h]

theorem W.locationOf_becomeAbsent_same (w : W) (i : Nat) : (w.becomeAbsent i).locationOf i = none := by
  by_cases hl : w.locationOf i = none
  · rw [W.becomeAbsent_of_absent hl, hl]
  · cases hc : w.cart i with
    | none => exact absurd (by rw [W.locationOf, hc, Option.bind_none]) hl
    | some c =>
      have hcl : c.location ≠ none := by simpa only [W.locationOf, hc, Option.bind_some] using hl
      rw [W.locationOf, W.cart_becomeAbsent_same hc hcl, Option.bind_some]

theorem W.locationOf_becomeAbsent_other (w : W) {i k : Nat} (h : k ≠ i) :
    (w.becomeAbsent i).locationOf k = w.locationOf k := by
  rw [W.locationOf, W.cart_becomeAbsent_other w h, W.locationOf]

@[simp] theorem W.slotAt_makeHomeless (w : W) (i : Nat) (e : Element) : (w.makeHomeless i).slotAt e = w.slotAt e := by
  simp [W.makeHomeless]

@[simp] theorem W.locationOf_makeHomeless (w : W) (i k : Nat) : (w.makeHomeless i).locationOf k = w.locationOf k := by
  unfold W.makeHomeless W.locationOf
  rw [W.cart_wantRehome]
  by_cases h : k = i
  · subst h
    rw [W.cart_modCart_map]
    cases w.cart k <;> rfl
  · rw [W.cart_modCart_other _ _ h]

@[simp] theorem W.locationOf_putSlot (w : W) (e : Element) (r : SlotRec) (i : Nat) :
    (w.putSlot e r).locationOf i = w.locationOf i := by
  rw [W.locationOf, W.cart_putSlot, W.locationOf]

/-! ## A magazine taken out or put in (R2) -/

/-- The record that a slot holds and that names it as its place becomes absent; with any other, nothing happens. -/
def W.holderGone (w : W) (n : Nat) : W :=
  match (w.slotAt (.slot n)).holder with
  | some r => if w.locationOf r = some (Element.slot n) then w.becomeAbsent r else w
  | none => w

/-- A slot of a magazine that comes or goes: its holder is gone, the record it is reserved for is homeless, and it takes a state
with nothing in it (R2). -/
def W.slotCleared (w : W) (n : Nat) (state : SlotState) : W :=
  (match (w.slotAt (.slot n)).reservedFor with
    | some v => (w.holderGone n).makeHomeless v
    | none => w.holderGone n).putSlot (.slot n) (W.bareSlot state)

theorem W.slotRemoved_eq (w : W) (n : Nat) : w.slotRemoved false n = w.slotCleared n .noMagazine := rfl

theorem W.putSlot_putSlot (w : W) (n : Nat) (r x : SlotRec) :
    (w.putSlot (.slot n) r).putSlot (.slot n) x = w.putSlot (.slot n) x := by
  simp [W.putSlot]

theorem W.slotReturned_eq (w : W) (n : Nat) :
    (w.slotRemoved false n).putSlot (.slot n) (W.bareSlot .unknown) = w.slotCleared n .unknown :=
  W.putSlot_putSlot _ n _ _

/-- Slots cleared one after another. -/
def W.slotsCleared (w : W) (l : List Nat) (state : SlotState) : W := l.foldl (fun v n => v.slotCleared n state) w

theorem W.magazineGone_eq (w : W) (m : Magazine) : w.magazineGone m = w.slotsCleared (slotsOf m) .noMagazine := rfl

theorem W.magazineBack_eq (w : W) (m : Magazine) : w.magazineBack m = w.slotsCleared (slotsOf m) .unknown := by
  unfold W.magazineBack W.slotsCleared
  congr 1
  funext v n
  exact W.slotReturned_eq v n

theorem W.slots_length_of_ambient {v w : W} (h : v.ambient = w.ambient) : v.ct.slots.length = w.ct.slots.length :=
  congrArg Ambient.slots h

@[simp] theorem W.slotCleared_ambient (w : W) (n : Nat) (state : SlotState) : (w.slotCleared n state).ambient = w.ambient := by
  unfold W.slotCleared W.holderGone
  (repeat' split) <;> simp

theorem W.slotsCleared_ambient (w : W) (l : List Nat) (state : SlotState) :
    (w.slotsCleared l state).ambient = w.ambient := by
  induction l generalizing w with
  | nil => rfl
  | cons n l ih => exact (ih _).trans (W.slotCleared_ambient w n state)

theorem W.slotAt_holderGone {w : W} (n : Nat) {k : Nat} (h : (w.slotAt (.slot k)).reservedFor = none) :
    (w.holderGone n).slotAt (.slot k) = w.slotAt (.slot k) := by
  unfold W.holderGone
  split
  · split
    · exact W.slotAt_becomeAbsent (by rw [h]; nofun)
    · rfl
  · rfl

theorem W.slotAt_slotCleared_same {w : W} {n : Nat} (state : SlotState) (h : n - 1 < w.ct.slots.length) :
    (w.slotCleared n state).slotAt (.slot n) = W.bareSlot state := by
  refine W.slotAt_putSlot_same ?_ _
  have e : (match (w.slotAt (.slot n)).reservedFor with
    | some v => (w.holderGone n).makeHomeless v
    | none => w.holderGone n).ambient = w.ambient := by
    unfold W.holderGone
    (repeat' split) <;> simp
  rwa [W.slots_length_of_ambient e]

theorem W.slotAt_slotCleared_other {w : W} {n k : Nat} (state : SlotState) (hk : k - 1 ≠ n - 1)
    (h : (w.slotAt (.slot k)).reservedFor = none) :
    (w.slotCleared n state).slotAt (.slot k) = w.slotAt (.slot k) := by
  unfold W.slotCleared
  rw [W.slotAt_putSlot_other _ _ hk]
  split
  · rw [W.slotAt_makeHomeless, W.slotAt_holderGone n h]
  · exact W.slotAt_holderGone n h

theorem W.locationOf_slotCleared (w : W) (n : Nat) (state : SlotState) (i : Nat) :
    (w.slotCleared n state).locationOf i = (w.holderGone n).locationOf i := by
  unfold W.slotCleared
  rw [W.locationOf_putSlot]
  split
  · rw [W.locationOf_makeHomeless]
  · rfl

theorem W.locationOf_holderGone_cases (w : W) (n i : Nat) :
    (w.holderGone n).locationOf i = none ∨ (w.holderGone n).locationOf i = w.locationOf i := by
  unfold W.holderGone
  split
  next r _ =>
    split
    · by_cases h : i = r
      · subst h
        exact .inl (W.locationOf_becomeAbsent_same w i)
      · exact .inr (W.locationOf_becomeAbsent_other w h)
    · exact .inr rfl
  · exact .inr rfl

theorem W.locationOf_holderGone_holder {w : W} {n i : Nat} (hh : (w.slotAt (.slot n)).holder = some i)
    (hl : w.locationOf i = some (.slot n)) : (w.holderGone n).locationOf i = none := by
  unfold W.holderGone
  simp only [hh, if_pos hl]
  exact W.locationOf_becomeAbsent_same w i

/-- Clearing slots leaves another slot that is reserved for no record. -/
theorem W.slotAt_slotsCleared_other {w : W} {k : Nat} (l : List Nat) (state : SlotState) (hk : ∀ n ∈ l, k - 1 ≠ n - 1)
    (h : (w.slotAt (.slot k)).reservedFor = none) :
    (w.slotsCleared l state).slotAt (.slot k) = w.slotAt (.slot k) := by
  induction l generalizing w with
  | nil => rfl
  | cons n l ih =>
    have hn := W.slotAt_slotCleared_other state (hk n List.mem_cons_self) h
    exact (ih (fun x hx => hk x (List.mem_cons_of_mem n hx)) (by rw [hn, h])).trans hn

theorem W.slotAt_slotsCleared_mem {w : W} {k : Nat} {l : List Nat} (state : SlotState) (hk : ∃ n ∈ l, k - 1 = n - 1)
    (h : k - 1 < w.ct.slots.length) : (w.slotsCleared l state).slotAt (.slot k) = W.bareSlot state := by
  induction l generalizing w with
  | nil =>
    obtain ⟨n, hn, -⟩ := hk
    cases hn
  | cons n l ih =>
    by_cases hl : ∃ x ∈ l, k - 1 = x - 1
    · exact ih hl (by rwa [W.slots_length_of_ambient (W.slotCleared_ambient w n state)])
    · obtain ⟨x, hx, e⟩ := hk
      have hxn : x = n := (List.mem_cons.1 hx).resolve_right fun hm => hl ⟨x, hm, e⟩
      subst hxn
      have hs : (w.slotCleared x state).slotAt (.slot k) = W.bareSlot state := by
        rw [W.slotAt_congr _ e, W.slotAt_slotCleared_same state (e ▸ h)]
      exact (W.slotAt_slotsCleared_other l state (fun y hy e => hl ⟨y, hy, e⟩) (by rw [hs]; rfl)).trans hs

theorem W.locationOf_slotsCleared_none {w : W} {i : Nat} (l : List Nat) (state : SlotState) (h : w.locationOf i = none) :
    (w.slotsCleared l state).locationOf i = none := by
  induction l generalizing w with
  | nil => exact h
  | cons n l ih =>
    refine ih ?_
    rw [W.locationOf_slotCleared]
    rcases W.locationOf_holderGone_cases w n i with e | e
    · exact e
    · exact e.trans h

/-- The record that a cleared slot held, and that named it as its place, is absent. -/
theorem W.locationOf_slotsCleared_holder {w : W} {k i : Nat} {l : List Nat} (state : SlotState) (hk : k ∈ l)
    (hh : (w.slotAt (.slot k)).holder = some i) (hl : w.locationOf i = some (.slot k))
    (hr : (w.slotAt (.slot k)).reservedFor = none) (hd : ∀ x ∈ l, k - 1 = x - 1 → x = k) :
    (w.slotsCleared l state).locationOf i = none := by
  induction l generalizing w with
  | nil => cases hk
  | cons n l ih =>
    by_cases hn : n = k
    · subst hn
      refine W.locationOf_slotsCleared_none l state ?_
      rw [W.locationOf_slotCleared]
      exact W.locationOf_holderGone_holder hh hl
    · have hs := W.slotAt_slotCleared_other state (fun e => hn (hd n List.mem_cons_self e)) hr
      have hm : k ∈ l := (List.mem_cons.1 hk).resolve_left fun e => hn e.symm
      rcases W.locationOf_holderGone_cases w n i with e | e
      · refine W.locationOf_slotsCleared_none l state ?_
        rw [W.locationOf_slotCleared]
        exact e
      · refine ih hm (by rw [hs]; exact hh) ?_ (by rw [hs]; exact hr) fun x hx => hd x (List.mem_cons_of_mem n hx)
        rw [W.locationOf_slotCleared, e]
        exact hl

/-- Clearing slots with nothing in them changes those slots alone. -/
theorem W.slotsCleared_bare {w : W} (l : List Nat) (state : SlotState)
    (h : ∀ n ∈ l, (w.slotAt (.slot n)).holder = none ∧ (w.slotAt (.slot n)).reservedFor = none) (hl : ∀ n ∈ l, n - 1 < w.ct.slots.length) :
    (∀ k, (∀ n ∈ l, k - 1 ≠ n - 1) → (w.slotsCleared l state).slotAt (.slot k) = w.slotAt (.slot k)) ∧
      (w.slotsCleared l state).ct.carts = w.ct.carts := by
  induction l generalizing w with
  | nil => exact ⟨fun _ _ => rfl, rfl⟩
  | cons n l ih =>
    obtain ⟨hh, hr⟩ := h n List.mem_cons_self
    have e : w.slotCleared n state = w.putSlot (.slot n) (W.bareSlot state) := by
      simp only [W.slotCleared, W.holderGone, hh, hr]
    have hn : n - 1 < w.ct.slots.length := hl n List.mem_cons_self
    have rest : ∀ x ∈ l, ((w.slotCleared n state).slotAt (.slot x)).holder = none ∧
        ((w.slotCleared n state).slotAt (.slot x)).reservedFor = none := by
      intro x hx
      rw [e]
      by_cases hp : x - 1 = n - 1
      · rw [W.slotAt_congr _ hp, W.slotAt_putSlot_same hn]
        exact ⟨rfl, rfl⟩
      · rw [W.slotAt_putSlot_other w _ hp]
        exact h x (List.mem_cons_of_mem n hx)
    have len : ∀ x ∈ l, x - 1 < (w.slotCleared n state).ct.slots.length := by
      intro x hx
      rw [W.slots_length_of_ambient (W.slotCleared_ambient w n state)]
      exact hl x (List.mem_cons_of_mem n hx)
    obtain ⟨slots, carts⟩ := ih rest len
    refine ⟨fun k hk => ?_, carts.trans (by rw [e]; rfl)⟩
    refine (slots k fun x hx => hk x (List.mem_cons_of_mem n hx)).trans ?_
    rw [e, W.slotAt_putSlot_other w _ (hk n List.mem_cons_self)]

/-! ## The lines of the doors and the magazines (R2, R39) -/

theorem slotsOf_place {m : Magazine} {n k : Nat} (hn : n ∈ slotsOf m) (hk : 1 ≤ k) (h : k - 1 = n - 1) : n = k := by
  have := ((mem_slotsOf m n).1 hn).1
  omega

theorem slotsOf_lt {m : Magazine} {n : Nat} (hn : n ∈ slotsOf m) : n - 1 < 40 := by
  have := (mem_slotsOf m n).1 hn
  omega

@[simp] theorem slotAt_putMagazine (w : W) (m : Magazine) (level : Bool) (e : Element) :
    (putMagazine w m level).slotAt e = w.slotAt e := by
  cases m <;> cases e <;> rfl

@[simp] theorem locationOf_putMagazine (w : W) (m : Magazine) (level : Bool) (i : Nat) :
    (putMagazine w m level).locationOf i = w.locationOf i := by
  cases m <;> rfl

@[simp] theorem ct_putMagazine (w : W) (m : Magazine) (level : Bool) : (putMagazine w m level).ct = w.ct := by
  cases m <;> rfl

theorem magazinePresent_of_ambient {v w : W} (h : v.ambient = w.ambient) (m : Magazine) :
    v.magazinePresent m = w.magazinePresent m := by
  cases m
  · exact congrArg (fun a => a.pins.magazineLeft) h
  · exact congrArg (fun a => a.pins.magazineRight) h

theorem magazinePresent_putMagazine (w : W) (m : Magazine) (level : Bool) :
    (putMagazine w m level).magazinePresent m = level := by
  cases m <;> rfl

/-- A scan of M is asked for (R24, R39). -/
theorem W.queueScan_mail (w : W) : (w.queueScan [.mail]).1 = { w with
    cc := match w.cc.scanEntry with
      | some x => { w.cc with scanEntry := some { x with range := inScanOrder (x.range ++ [.mail]) } }
      | none => { w.cc with
          nextId := if w.cc.nextId = 65535 then 1 else w.cc.nextId + 1,
          scanEntry := some { id := w.cc.nextId, range := [.mail], remaining := [], attempts := 0,
                              resumeSlot := none, faulted := false } } } := by
  have hr : [Element.mail] = scanOrder.filter fun e => decide (e = .mail) := by decide
  rw [hr, W.queueScan_eq]
  cases w.cc.scanEntry <;> rfl

theorem exec_magazineRemoved {s : State} {m : Magazine} (h : s.work.magazinePresent m = true) :
    exec (.magazineRemoved m) s = .next (s.putWork ((putMagazine s.work m false).magazineGone m)) :=
  congrArg (fun w => Host.Outcome.next (s.putWork w)) (if_pos h)

theorem exec_magazineInserted {s : State} {m : Magazine} (h : s.work.magazinePresent m = false) :
    exec (.magazineInserted m) s = .next (s.putWork ((putMagazine s.work m true).magazineBack m)) :=
  congrArg (fun w => Host.Outcome.next (s.putWork w)) (if_neg (by rw [h]; nofun))

/-- Settles O26. -/
theorem mailDoorAndMagazinesAreNoted : Obligations.MailDoorAndMagazinesAreNoted := by
  refine ⟨fun s hd => ?_, fun s hd => ?_, fun s m hm hl => ?_, fun s m hm hl => ?_⟩
  · exact congrArg (fun w => Host.Outcome.next (s.putWork w)) (if_neg (ne_true_of_eq_false hd))
  · refine congrArg (fun w => Host.Outcome.next (s.putWork w)) ((if_pos hd).trans ?_)
    exact W.queueScan_mail _
  · have hlen (n : Nat) (hn : n ∈ slotsOf m) : n - 1 < (putMagazine s.work m false).ct.slots.length := by
      rw [ct_putMagazine]
      exact lt_of_lt_of_eq (slotsOf_lt hn) hl.symm
    refine ⟨exec_magazineRemoved hm, ?_, fun n hn => ?_, fun n i hn hh hi hr => ?_, fun n h1 h40 hn hr => ?_⟩
    · exact (magazinePresent_of_ambient (W.slotsCleared_ambient _ _ _) m).trans (magazinePresent_putMagazine _ _ _)
    · exact W.slotAt_slotsCleared_mem _ ⟨n, hn, rfl⟩ (hlen n hn)
    · refine W.locationOf_slotsCleared_holder _ hn (by simpa using hh) (by simpa using hi) (by simpa using hr) ?_
      exact fun x hx => slotsOf_place hx ((mem_slotsOf m n).1 hn).1
    · refine (W.slotAt_slotsCleared_other _ _ ?_ (by simpa using hr)).trans (slotAt_putMagazine _ _ _ _)
      exact fun x hx e => hn (slotsOf_place hx h1 e ▸ hx)
  · have hlen (n : Nat) (hn : n ∈ slotsOf m) : n - 1 < (putMagazine s.work m true).ct.slots.length := by
      rw [ct_putMagazine]
      exact lt_of_lt_of_eq (slotsOf_lt hn) hl.symm
    refine ⟨exec_magazineInserted hm, ?_⟩
    rw [W.magazineBack_eq]
    refine ⟨?_, fun n hn => ?_, fun hb => ?_, fun n i hn hh hi hr => ?_⟩
    · rw [magazinePresent_of_ambient (W.slotsCleared_ambient _ _ _), magazinePresent_putMagazine]
    · exact W.slotAt_slotsCleared_mem _ ⟨n, hn, rfl⟩ (hlen n hn)
    · obtain ⟨slots, carts⟩ := W.slotsCleared_bare (w := putMagazine s.work m true) (slotsOf m) .unknown
        (fun n hn => by simpa using hb n hn) hlen
      refine ⟨fun n h1 h40 hn => ?_, carts.trans (by rw [ct_putMagazine]; rfl)⟩
      exact (slots n fun x hx e => hn (slotsOf_place hx h1 e ▸ hx)).trans (slotAt_putMagazine _ _ _ _)
    · refine W.locationOf_slotsCleared_holder _ hn (by simpa using hh) (by simpa using hi) (by simpa using hr) ?_
      exact fun x hx => slotsOf_place hx ((mem_slotsOf m n).1 hn).1

end Sys2Proof.Machine

/-! PROOF. Validation of a move and the candidates of a RECOVERY move (R26, R45). -/

namespace Sys2Proof.Machine

/-! ## The source (R26) -/

theorem sourceRefused_occupied {w : W} {m : Move} {n : Nat} (hs : m.source = .slot n) (hp : w.cc.picker ≠ .none) :
    w.sourceRefused m = some .pickerOccupied :=
  if_pos ⟨by rw [hs]; nofun, hp⟩

theorem sourceRefused_slot {w : W} {m : Move} {n : Nat} (hs : m.source = .slot n) (hp : w.cc.picker = .none) :
    w.sourceRefused m =
      if (w.slotAt (.slot n)).state = .occupied ∨ ((w.slotAt (.slot n)).state = .untracked ∧ m.dest = some .mail) then none
      else some .sourceEmpty := by
  unfold W.sourceRefused
  rw [if_neg fun h => h.2 hp]
  simp only [hs]

theorem validate_of_sourceRefused {w : W} {m : Move} {r : Reason} (h : w.sourceRefused m = some r) :
    w.validate m = some r := by
  simp only [W.validate, h]

theorem validate_of_source {w : W} {m : Move} (h : w.sourceRefused m = none) : w.validate m =
    if m.expectedLabel.isSome ∧ (w.recordAt m.source).bind w.labelOf ≠ m.expectedLabel then some .labelMismatch
    else if w.claimRefused m (w.recordAt m.source) then some .claimed
    else w.destRefused m.source m.dest (w.recordAt m.source) := by
  simp only [W.validate, h]

/-! ## The claim and the destination (R26) -/

/-- A move of the host finds any claim in its way, a job's move another job's; the others are not checked (R26). -/
theorem claimRefused_iff (w : W) (m : Move) (i : Option Nat) : w.claimRefused m i = true ↔
    (match m.origin, i.bind w.claimOf with
      | .requested, some _ => True
      | .job k, some c => c ≠ k
      | _, _ => False) := by
  unfold W.claimRefused
  cases m.origin <;> cases i.bind w.claimOf <;> simp

theorem isDown_iff (x : PortState) : x.isDown = true ↔ x ∈ [PortState.absent, .init, .faulted] := by
  cases x <;> simp [PortState.isDown]

/-- The destination's check for a move from a storage slot (R26). -/
theorem destRefused_slot (w : W) (n : Nat) (dest : Option Element) (i : Option Nat) :
    w.destRefused (.slot n) dest i = match dest with
      | none => some .destFull
      | some .picker => some .destFull
      | some .mail => if w.slotAccepts .mail i then none else some .destFull
      | some (.slot k) => if w.slotAccepts (.slot k) i ∧ k ≠ n then none else some .destFull
      | some (.drive d) =>
        if (w.port d).state = .empty then none
        else if (w.port d).state ∈ [PortState.absent, .init, .faulted] then some .driveNotReady
        else some .destFull := by
  unfold W.destRefused
  cases dest with
  | none => rfl
  | some e =>
    cases e with
    | slot k =>
      refine if_congr ?_ rfl rfl
      rw [Bool.and_eq_true, decide_eq_true_iff, ne_comm, ne_eq, Element.slot.injEq]
    | mail => exact if_congr (by simp) rfl rfl
    | drive d => exact if_congr Iff.rfl rfl (if_congr (isDown_iff _) rfl rfl)
    | picker => rfl

/-! ## The chain of a RECOVERY move (R45) -/

/-- M as the last candidate of a RECOVERY move: EMPTY, with its door closed (R45). -/
def mailCandidate (w : W) : Option Element :=
  if (w.slotAt .mail).state = .empty ∧ w.ct.mailDoorOpen = false then some .mail else none

theorem recoveryChain_none {w : W} (h : w.cc.picker = .none) : w.recoveryChain = none := by
  simp only [W.recoveryChain, h]

theorem recoveryChain_untracked {w : W} (h : w.cc.picker = .untracked) : w.recoveryChain = mailCandidate w := by
  simp only [W.recoveryChain, h, mailCandidate]

theorem slotAccepts_cart_iff (w : W) (e : Element) (i : Nat) : w.slotAccepts e (some i) = true ↔
    (w.slotAt e).state = .empty ∨ ((w.slotAt e).state = .reserved ∧ (w.slotAt e).reservedFor = some i) := by
  simp [W.slotAccepts]

theorem recoveryChain_back {w : W} {i n : Nat} (h : w.cc.picker = .cart i) (hf : w.cc.pickedFrom = some (.slot n))
    (ha : w.slotAccepts (.slot n) (some i) = true) : w.recoveryChain = some (.slot n) := by
  simp only [W.recoveryChain, h, hf, ha, if_true, Option.some_or]

theorem recoveryChain_drive {w : W} {i : Nat} {d : Drive} (h : w.cc.picker = .cart i)
    (hf : w.cc.pickedFrom = some (.drive d)) : w.recoveryChain =
      if (w.port d).state = .empty then some (.drive d)
      else match w.homeOf i with
        | some h =>
          if (w.slotAt (.slot h)).state = .reserved ∧ (w.slotAt (.slot h)).reservedFor = some i
          then some (.slot h) else mailCandidate w
        | none => mailCandidate w := by
  simp only [W.recoveryChain, h, hf]
  by_cases he : (w.port d).state = .empty
  · rw [if_pos he, if_pos he, Option.some_or, Option.some_or]
  · rw [if_neg he, if_neg he, Option.none_or]
    cases w.homeOf i with
    | none => rfl
    | some h =>
      dsimp only
      split <;> rfl

/-! ## The checks in order (R26) -/

theorem sourceAccepted {w : W} {m : Move} {n : Nat} (hs : m.source = .slot n) (hp : w.cc.picker = .none)
    (h : (w.slotAt (.slot n)).state = .occupied ∨ ((w.slotAt (.slot n)).state = .untracked ∧ m.dest = some .mail)) :
    w.sourceRefused m = none :=
  (sourceRefused_slot hs hp).trans (if_pos h)

/-- Past its source and its label a move is judged by its claim, then by its destination (R26). -/
theorem validate_of_label {w : W} {m : Move} (h : w.sourceRefused m = none)
    (hl : m.expectedLabel = none ∨ m.expectedLabel = (w.recordAt m.source).bind w.labelOf) : w.validate m =
      if w.claimRefused m (w.recordAt m.source) then some .claimed
      else w.destRefused m.source m.dest (w.recordAt m.source) := by
  rw [validate_of_source h]
  refine if_neg ?_
  rintro ⟨hsome, hne⟩
  rcases hl with hl | hl
  · rw [hl] at hsome
    cases hsome
  · exact hne hl.symm

/-- Settles O27. -/
theorem movesAreValidatedInOrder : Obligations.MovesAreValidatedInOrder := by
  refine ⟨fun w m n hs => ⟨fun hp => ?_, fun hp ho hu => ?_, fun hp hv => ⟨fun l hl hne => ?_, fun hl => ⟨fun hc => ?_, fun hc => ?_⟩⟩⟩,
    fun w => ⟨recoveryChain_none, recoveryChain_untracked, fun i n h hf ha => ?_, fun i d h hf => ?_⟩⟩
  · exact validate_of_sourceRefused (sourceRefused_occupied hs hp)
  · exact validate_of_sourceRefused ((sourceRefused_slot hs hp).trans (if_neg (not_or.2 ⟨ho, hu⟩)))
  · rw [validate_of_source (sourceAccepted hs hp hv), hs, hl]
    exact if_pos ⟨rfl, hne⟩
  · rw [validate_of_label (sourceAccepted hs hp hv) (hs.symm ▸ hl), hs]
    exact if_pos ((claimRefused_iff w m _).2 hc)
  · rw [validate_of_label (sourceAccepted hs hp hv) (hs.symm ▸ hl), hs, if_neg (mt (claimRefused_iff w m _).1 hc),
      destRefused_slot]
    rfl
  · exact recoveryChain_back h hf ((slotAccepts_cart_iff w _ i).2 ha)
  · exact recoveryChain_drive h hf

end Sys2Proof.Machine

/-! PROOF. ENTRY_START (R25, R26, R28, R40, R45): the end of a move and of a scan entry, the slots a scan passes over, and the
start of each entry. -/

namespace Sys2Proof.Machine

/-! ## The end of an entry (R28, R34) -/

/-- What the end of a move tells and leaves (R28, R34). -/
theorem W.reportMoveEnd_eq (w : W) (m : Move) (r : Reason) (c : Contents) (ended : Option Element) :
    w.reportMoveEnd m r c ended = { w with
      cc := { w.cc with
        current := none,
        faultRun := if m.faulted || decide (r = .lostInTransit) then min (w.cc.faultRun + 1) 15
          else if decide (r = .ok) then 0 else w.cc.faultRun },
      signals := w.signals ++ [.moveEnded m.origin m.ticket r m.cart], dispatchDue := true,
      out := w.out ++ if W.Origin.notifies m.origin then
        [.moveDone m.id m.origin m.source m.dest ended (w.contentsRef c) r] else [] } := by
  unfold W.reportMoveEnd
  dsimp only
  split
  · cases c <;> rfl
  · simp only [List.append_nil]
    rfl

/-- IDLE after an entry's end, when the lockout limit has not been reached (R28, R34). -/
theorem W.goToRest_of_lt {w : W} (h : w.cc.faultRun < w.setting 16) : w.goToRest = { w with
    cc := { w.cc with
      state := .idle, step := none, stepTimer := none, retryTimer := none, held := none, holdReason := none,
      current := none },
    dispatchDue := w.dispatchDue || decide (w.cc.state ≠ .idle) } := by
  unfold W.goToRest
  refine (if_neg (Nat.not_le_of_lt h)).trans ?_
  rw [W.ccEnter_eq]
  rfl

/-! ## Slots passed over (R40) -/

/-- The scan in progress has reported more slots. -/
def W.alsoReported (w : W) (l : List Element) : W := w.modTally fun t => { t with reported := t.reported ++ l }

theorem W.alsoReported_nil (w : W) : w.alsoReported [] = w := by
  simp [W.alsoReported, W.modTally]

theorem W.alsoReported_append (w : W) (a b : List Element) :
    (w.alsoReported a).alsoReported b = w.alsoReported (a ++ b) := by
  simp [W.alsoReported, W.modTally, Option.map_map, Function.comp_def]

/-- A slot known to be without its magazine is reported and stays as it is. -/
theorem scanResult_noMagazine {w : W} {n : Nat} (hn : n - 1 < w.ct.slots.length)
    (h : w.slotAt (.slot n) = { state := .noMagazine, holder := none, reservedFor := none }) :
    w.scanResult (.slot n) .noMagazine = w.alsoReported [.slot n] := by
  have kept : w.putSlot (.slot n) (W.bareSlot .noMagazine) = w := by
    have e : w.ct.slots.set (n - 1) (W.bareSlot .noMagazine) = w.ct.slots := by
      have hs : w.ct.slots[n - 1] = W.bareSlot .noMagazine := by
        simpa [W.slotAt, List.getD_eq_getElem?_getD, hn, W.bareSlot] using h
      rw [← hs, List.set_getElem_self]
    simp only [W.putSlot, e]
  simp only [W.scanResult, W.slotRemoved, h, kept]
  rfl

/-- The slots of magazines that are out, at the front of what remains, are reported one by one. -/
theorem passOver_out (out : List Nat) (rest : List Element) {w : W}
    (h : ∀ k ∈ out, 1 ≤ k ∧ k ≤ w.ct.slots.length ∧ w.magazinePresent (magazineOf k) = false ∧
      w.slotAt (.slot k) = { state := .noMagazine, holder := none, reservedFor := none }) :
    W.passOver (out.map Element.slot ++ rest) w = W.passOver rest (w.alsoReported (out.map Element.slot)) := by
  induction out generalizing w with
  | nil => rw [List.map_nil, List.nil_append, W.alsoReported_nil]
  | cons n out ih =>
    obtain ⟨h1, hlen, hm, hs⟩ := h n List.mem_cons_self
    rw [List.map_cons, List.cons_append, W.passOver, hm, if_neg Bool.false_ne_true,
      scanResult_noMagazine (by omega) hs, ih (w := w.alsoReported [.slot n]) fun k hk => h k (List.mem_cons_of_mem n hk),
      W.alsoReported_append]
    rfl

theorem passOver_stops {e : Element} (rest : List Element) {w : W}
    (h : (e = .mail ∧ w.ct.mailDoorOpen = false) ∨ (∃ n, e = .slot n ∧ w.magazinePresent (magazineOf n) = true)) :
    W.passOver (e :: rest) w = (w, e :: rest) := by
  rcases h with ⟨rfl, h⟩ | ⟨n, rfl, h⟩
  · rw [W.passOver, h, if_neg Bool.false_ne_true]
  · rw [W.passOver, if_pos h]

theorem passOver_mail {w : W} (h : w.ct.mailDoorOpen = true) : W.passOver [.mail] w = (w, []) := by
  rw [W.passOver, if_pos h, W.passOver]

/-! ## A scan entry (R40) -/

/-- The working state in which a scan entry has started (R12, R25). -/
def W.scanning (w : W) (x : Scan) : W :=
  { w with
    ct := { w.ct with
      scanNumber := min (w.ct.scanNumber + 1) 4294967295,
      scan := some { range := x.range, reported := [], found := 0, created := 0, revived := 0, absent := 0,
                     duplicates := 0, untracked := 0 } },
    cc := { w.cc with scanEntry := none, current := some (.scan { x with remaining := x.range }), state := .scanning },
    dispatchDue := true }

theorem W.startScanEntry_eq {w : W} (x : Scan) (h : w.cc.state ≠ .scanning) :
    w.startScanEntry x = (w.scanning x).scanGoesOn := by
  unfold W.startScanEntry
  dsimp only
  rw [W.ccEnter_of_ne (by exact h)]
  rfl

theorem W.scanGoesOn_stops {w : W} {e : Element} {rest : List Element} {v : W} (hp : W.passOver w.remainingSlots w = (v, e :: rest)) :
    w.scanGoesOn = (v.putRemaining (e :: rest)).beginStep .scanStep := by
  simp only [W.scanGoesOn, hp]

/-! ## Rehoming keeps the changer and the notices (R9) -/

/-- What rehoming does not touch. -/
theorem W.rehomeOne_keeps (w : W) (i : Nat) : (w.rehomeOne i).cc = w.cc ∧ (w.rehomeOne i).out = w.out ∧
    (w.rehomeOne i).ct.scan = w.ct.scan ∧ (w.rehomeOne i).set = w.set := by
  unfold W.rehomeOne W.modCart
  (repeat' split) <;> exact ⟨rfl, rfl, rfl, rfl⟩

theorem W.rehome_keeps (w : W) : w.rehome.cc = w.cc ∧ w.rehome.out = w.out ∧ w.rehome.ct.scan = w.ct.scan ∧
    w.rehome.set = w.set := by
  unfold W.rehome
  generalize W.cartIndices = l
  induction l generalizing w with
  | nil => exact ⟨rfl, rfl, rfl, rfl⟩
  | cons i l ih =>
    obtain ⟨hcc, hout, hscan, hset⟩ := W.rehomeOne_keeps w i
    obtain ⟨icc, iout, iscan, iset⟩ := ih (w.rehomeOne i)
    exact ⟨icc.trans hcc, iout.trans hout, iscan.trans hscan, iset.trans hset⟩

/-- No scan is in progress, and no rehoming due but the scan's own (R12). -/
def W.scanOver (w : W) : W := { w with ct := { w.ct with scan := none }, rehomeDue := false }

theorem W.scanCompleted_eq {w : W} {t : ScanTally} (h : w.ct.scan = some t) : w.scanCompleted =
    w.scanOver.rehome.note
      (.scanDone t.range t.reported.length t.found t.created t.revived t.absent t.duplicates t.untracked) := by
  simp only [W.scanCompleted, h]
  rfl

/-- The remaining slots of a scan entry are written into it. -/
theorem W.putRemaining_entry {w : W} {x : Scan} (hc : w.cc.closeScan = none) (he : w.cc.current = some (.scan x))
    (l : List Element) : w.putRemaining l =
      { w with cc := { w.cc with current := some (.scan { x with remaining := l, resumeSlot := none }) } } := by
  unfold W.putRemaining
  split
  next h => exact absurd (hc.symm.trans h) nofun
  next =>
    have hs : w.currentScan = some x := by rw [W.currentScan, he]
    simp only [hs]
    rfl

/-- A scan is complete: what is left of the working state, and SCAN DONE (R12). -/
theorem W.scanCompleted_keeps {w : W} {t : ScanTally} (h : w.ct.scan = some t) :
    w.scanCompleted.cc = w.cc ∧ w.scanCompleted.ct.scan = none ∧ w.scanCompleted.set = w.set ∧
      w.scanCompleted.out = w.out ++
        [.scanDone t.range t.reported.length t.found t.created t.revived t.absent t.duplicates t.untracked] := by
  obtain ⟨hcc, hout, hscan, hset⟩ := W.rehome_keeps w.scanOver
  rw [W.scanCompleted_eq h]
  refine ⟨(W.note_cc _ _).trans hcc, ?_, (W.note_set _ _).trans hset, ?_⟩
  · rw [W.note_ct]
    exact hscan
  · rw [W.note_out, hout]
    rfl

/-- A scan entry that met no fault ends in IDLE (R28, R34). -/
theorem W.endScanEntry_eq {w : W} (h : 1 ≤ w.setting 16) : w.endScanEntry false = { w with
    cc := { w.cc with
      state := .idle, step := none, stepTimer := none, retryTimer := none, held := none, holdReason := none,
      current := none, faultRun := 0 },
    dispatchDue := true } := by
  have hl : (w.countRun false true).wantDispatch.cc.faultRun < (w.countRun false true).wantDispatch.setting 16 := h
  unfold W.endScanEntry
  rw [W.goToRest_of_lt hl]
  rfl

/-- A scan entry with no slot left ends: SCAN DONE is queued, and the changer is IDLE (R12, R28). -/
theorem scanGoesOn_ends {w v : W} {x : Scan} {t : ScanTally} (hp : W.passOver w.remainingSlots w = (v, []))
    (hc : v.cc.closeScan = none) (he : v.cc.current = some (.scan x)) (ht : v.ct.scan = some t)
    (hf : x.faulted = false) (hl : 1 ≤ v.setting 16) :
    w.scanGoesOn.cc = { v.cc with
      state := .idle, step := none, stepTimer := none, retryTimer := none, held := none, holdReason := none,
      current := none, faultRun := 0 } ∧ w.scanGoesOn.ct.scan = none ∧
      w.scanGoesOn.out = v.out ++
        [.scanDone t.range t.reported.length t.found t.created t.revived t.absent t.duplicates t.untracked] := by
  have hr := W.putRemaining_entry hc he []
  obtain ⟨hcc, hscan, hset, hout⟩ := W.scanCompleted_keeps (w := (v.putRemaining []).endStep) (t := t) (by
    rw [hr]
    exact ht)
  have hclose : ((v.putRemaining []).endStep.scanCompleted).cc.closeScan = none := by
    rw [hcc, hr]
    exact hc
  have hcur : ((v.putRemaining []).endStep.scanCompleted).currentScan =
      some { x with remaining := [], resumeSlot := none } := by
    rw [W.currentScan, hcc, hr]
    rfl
  have hgo : w.scanGoesOn = ((v.putRemaining []).endStep.scanCompleted).endScanEntry false := by
    simp only [W.scanGoesOn, hp, hclose, hcur, hf]
  have hset' : 1 ≤ ((v.putRemaining []).endStep.scanCompleted).setting 16 := by
    rw [W.setting, hset, hr]
    exact hl
  rw [hgo, W.endScanEntry_eq hset']
  refine ⟨?_, hscan, ?_⟩
  · rw [hcc, hr]
    rfl
  · rw [hout, hr]
    rfl

/-! ## A move starts (R25, R26) -/

theorem exec_entryStart (s : State) (sensed : Bool) : exec (.entryStart sensed) s = .next (s.putWork (s.work.startEntry sensed)) := rfl

theorem W.startEntry_elsewhere {w : W} (sensed : Bool) (h : w.cc.state ≠ .idle) : w.startEntry sensed = w := if_pos h

theorem W.startEntry_scan {w : W} (sensed : Bool) {x : Scan} (h : w.cc.state = .idle) (hx : w.cc.scanEntry = some x) :
    w.startEntry sensed = (w.sensePicker sensed).startScanEntry x := by
  unfold W.startEntry
  rw [if_neg (not_not.2 h)]
  simp only [W.sensePicker_cc, hx]

theorem W.startEntry_nothing {w : W} (sensed : Bool) (h : w.cc.state = .idle) (hx : w.cc.scanEntry = none)
    (hq : w.cc.queue = []) : w.startEntry sensed = w := by
  unfold W.startEntry
  rw [if_neg (not_not.2 h)]
  simp only [W.sensePicker_cc, hx, hq]

theorem W.startEntry_move {w : W} (sensed : Bool) {m : Move} {rest : List Move} (h : w.cc.state = .idle)
    (hx : w.cc.scanEntry = none) (hq : w.cc.queue = m :: rest) : w.startEntry sensed =
      if w.waitsForMail m then w.sensePicker sensed else (w.sensePicker sensed).startMove m sensed := by
  unfold W.startEntry
  rw [if_neg (not_not.2 h)]
  simp only [W.sensePicker_cc, hx, hq]
  rfl

theorem waitsForMail_iff (w : W) (m : Move) : w.waitsForMail m = true ↔
    (m.source = .mail ∨ m.asked = .element .mail) ∧ w.ct.mailDoorOpen = true := by
  simp [W.waitsForMail]

/-- The working state with the move at the head taken from the queue. -/
def W.unqueued (w : W) (rest : List Move) : W := { w with cc := { w.cc with queue := rest } }

theorem W.modCC_drop {w : W} {m : Move} {rest : List Move} (hq : w.cc.queue = m :: rest) :
    (w.modCC fun c => { c with queue := c.queue.drop 1 }) = w.unqueued rest := by
  simp only [W.modCC, W.unqueued, hq, List.drop_succ_cons, List.drop_zero]

theorem W.startMove_accepted {w : W} {m : Move} (sensed : Bool) {rest : List Move} (hq : w.cc.queue = m :: rest)
    (ho : m.origin ≠ .recovery)
    (hv : (w.unqueued rest).validate { m with dest := (w.unqueued rest).resolveDest m } = none) :
    w.startMove m sensed =
      ((w.unqueued rest).putMove { m with dest := (w.unqueued rest).resolveDest m }).beginStep .travel := by
  unfold W.startMove
  rw [W.modCC_drop hq, if_neg ho]
  simp only [hv]

theorem W.startMove_refused {w : W} {m : Move} (sensed : Bool) {rest : List Move} {r : Reason}
    (hq : w.cc.queue = m :: rest) (ho : m.origin ≠ .recovery)
    (hv : (w.unqueued rest).validate { m with dest := (w.unqueued rest).resolveDest m } = some r) :
    w.startMove m sensed = ((w.unqueued rest).putMove { m with dest := (w.unqueued rest).resolveDest m }).endAtSource
      { m with dest := (w.unqueued rest).resolveDest m } r := by
  unfold W.startMove
  rw [W.modCC_drop hq, if_neg ho]
  simp only [hv]

/-- A RECOVERY move with its cartridge in the picker goes on by its chain (R45). -/
theorem W.startMove_recovery {w : W} {m : Move} {rest : List Move} {e : Element} (hq : w.cc.queue = m :: rest)
    (ho : m.origin = .recovery) (hp : w.cc.picker ≠ .none) (he : (w.unqueued rest).recoveryChain = some e) :
    w.startMove m true = (((w.unqueued rest).putMove m).putMove { m with dest := some e }).beginStep .travelLoaded := by
  have he' : ((w.unqueued rest).putMove m).recoveryChain = some e := he
  unfold W.startMove
  rw [W.modCC_drop hq, if_pos ho]
  unfold W.startRecovery
  rw [if_neg Bool.noConfusion]
  refine (if_neg hp).trans ?_
  simp only [he']

/-- Of the moves that are validated, the host's alone are told of in MOVE DONE (R28). -/
theorem notifies_iff {o : Origin} (h : o ≠ .recovery) : W.Origin.notifies o = true ↔ o = .requested := by
  cases o with
  | requested => exact iff_of_true rfl rfl
  | recovery => exact absurd rfl h
  | returned => exact iff_of_false nofun nofun
  | job n => exact iff_of_false nofun nofun

/-- A move of which validation has refused the start ends at its source (R26, R28). -/
theorem W.endAtSource_eq {w : W} {m : Move} {r : Reason} (hf : m.faulted = false) (hr : r ≠ .ok) (hl : r ≠ .lostInTransit)
    (hrun : w.cc.faultRun < w.setting 16) (hs : w.cc.state = .idle) : w.endAtSource m r = { w with
      cc := { w.cc with
        current := none, step := none, stepTimer := none, retryTimer := none, held := none, holdReason := none },
      signals := w.signals ++ [.moveEnded m.origin m.ticket r m.cart], dispatchDue := true,
      out := w.out ++ if W.Origin.notifies m.origin then
        [.moveDone m.id m.origin m.source m.dest (if w.contentsAt m.source = .none then none else some m.source)
          (w.contentsRef (w.contentsAt m.source)) r] else [] } := by
  unfold W.endAtSource W.endMove
  dsimp only
  rw [W.reportMoveEnd_eq, W.goToRest_of_lt]
  · simp [hf, hr, hl, hs]
  · simpa [hf, hr, hl, W.setting] using hrun

/-- What a scan has passed over when it stops at a slot. -/
theorem scanning_passOver {w : W} {x : Scan} {out : List Nat} {rest left : List Element} (hc : w.cc.closeScan = none)
    (hr : x.range = out.map Element.slot ++ rest)
    (ho : ∀ k ∈ out, 1 ≤ k ∧ k ≤ w.ct.slots.length ∧ w.magazinePresent (magazineOf k) = false ∧
      w.slotAt (.slot k) = { state := .noMagazine, holder := none, reservedFor := none })
    (hs : W.passOver rest ((w.scanning x).alsoReported (out.map Element.slot)) =
      ((w.scanning x).alsoReported (out.map Element.slot), left)) :
    W.passOver (w.scanning x).remainingSlots (w.scanning x) =
      ((w.scanning x).alsoReported (out.map Element.slot), left) := by
  have hrem : (w.scanning x).remainingSlots = x.range := by
    have hcl : (w.scanning x).cc.closeScan = none := hc
    rw [W.remainingSlots, hcl, Option.none_or]
    rfl
  rw [hrem, hr, passOver_out (w := w.scanning x) out rest ho, hs]

/-- A scan entry that finds a slot to visit begins its step there (R40). -/
theorem W.startScanEntry_visits {w : W} {x : Scan} {out : List Nat} {e : Element} {rest : List Element}
    (hs : w.cc.state = .idle) (hc : w.cc.closeScan = none) (hr : x.range = out.map Element.slot ++ e :: rest)
    (ho : ∀ k ∈ out, 1 ≤ k ∧ k ≤ w.ct.slots.length ∧ w.magazinePresent (magazineOf k) = false ∧
      w.slotAt (.slot k) = { state := .noMagazine, holder := none, reservedFor := none })
    (he : (e = .mail ∧ w.ct.mailDoorOpen = false) ∨ (∃ n, e = .slot n ∧ w.magazinePresent (magazineOf n) = true)) :
    w.startScanEntry x = { w with
      ct := { w.ct with
        scanNumber := min (w.ct.scanNumber + 1) 4294967295,
        scan := some { range := x.range, reported := out.map Element.slot, found := 0, created := 0, revived := 0,
                       absent := 0, duplicates := 0, untracked := 0 } },
      cc := { w.cc with
        scanEntry := none, current := some (.scan { x with remaining := e :: rest, resumeSlot := none }),
        state := .scanning, step := some .scanStep, stepTimer := some 20, retryTimer := none },
      dispatchDue := true } := by
  have hne : w.cc.state ≠ .scanning := by
    rw [hs]
    nofun
  have hp := scanning_passOver (left := e :: rest) hc hr ho (passOver_stops rest he)
  have hput := W.putRemaining_entry (w := (w.scanning x).alsoReported (out.map Element.slot)) hc rfl (e :: rest)
  rw [W.startScanEntry_eq x hne, W.scanGoesOn_stops hp, hput, W.beginStep, W.ccEnter_eq]
  rfl

/-- A scan entry with nothing to visit is over at once (R40). -/
theorem W.startScanEntry_ends {w : W} {x : Scan} {out : List Nat} (hs : w.cc.state = .idle) (hc : w.cc.closeScan = none)
    (ho : ∀ k ∈ out, 1 ≤ k ∧ k ≤ w.ct.slots.length ∧ w.magazinePresent (magazineOf k) = false ∧
      w.slotAt (.slot k) = { state := .noMagazine, holder := none, reservedFor := none })
    (hr : x.range = out.map Element.slot ∨ (x.range = out.map Element.slot ++ [Element.mail] ∧ w.ct.mailDoorOpen = true))
    (hf : x.faulted = false) (hl : 1 ≤ w.setting 16) :
    (w.startScanEntry x).cc = { w.cc with
      scanEntry := none, state := .idle, step := none, stepTimer := none, retryTimer := none, held := none,
      holdReason := none, current := none, faultRun := 0 } ∧ (w.startScanEntry x).ct.scan = none ∧
      (w.startScanEntry x).out = w.out ++ [.scanDone x.range out.length 0 0 0 0 0 0] := by
  have hne : w.cc.state ≠ .scanning := by
    rw [hs]
    nofun
  have hp : W.passOver (w.scanning x).remainingSlots (w.scanning x) =
      ((w.scanning x).alsoReported (out.map Element.slot), []) := by
    rcases hr with hr | ⟨hr, hd⟩
    · exact scanning_passOver (rest := []) hc (hr.trans (List.append_nil _).symm) ho rfl
    · exact scanning_passOver hc hr ho (passOver_mail hd)
  rw [W.startScanEntry_eq x hne]
  obtain ⟨hcc, hct, hout⟩ := scanGoesOn_ends hp hc rfl rfl hf hl
  refine ⟨hcc, hct, hout.trans ?_⟩
  simp [W.alsoReported, W.modTally, W.scanning]

/-- Settles O28. -/
theorem entriesStartInIdle : Obligations.EntriesStartInIdle := by
  refine ⟨fun s sensed h => ?_, fun s sensed x out hs hx hc ho => ⟨fun e rest hr he => ?_, fun hr hf hl => ?_⟩,
    fun s sensed m rest hs hx hq hm hd => ?_,
    fun s sensed m rest hs hx hq hd => ?_,
    fun s sensed hs hx hq => ?_⟩
  · rw [exec_entryStart, W.startEntry_elsewhere sensed h]
  · rw [exec_entryStart, W.startEntry_scan (w := s.work) sensed hs hx,
      W.startScanEntry_visits (w := s.work.sensePicker sensed) hs hc hr ho he]
    rfl
  · obtain ⟨hcc, hct, hout⟩ := W.startScanEntry_ends (w := s.work.sensePicker sensed) hs hc ho hr hf hl
    refine ⟨_, by rw [exec_entryStart, W.startEntry_scan (w := s.work) sensed hs hx], ?_⟩
    rw [hcc]
    exact ⟨rfl, rfl, rfl, rfl, rfl, hct, hout⟩
  · rw [exec_entryStart, W.startEntry_move (w := s.work) sensed hs hx hq, if_pos ((waitsForMail_iff _ _).2 ⟨hm, hd⟩)]
    rfl
  · have hw : ¬s.work.waitsForMail m = true := by
      rw [waitsForMail_iff]
      rintro ⟨hm | hm, ho⟩
      · exact (hd ho).1 hm
      · exact (hd ho).2 hm
    have start : s.work.startEntry sensed = (s.work.sensePicker sensed).startMove m sensed := by
      rw [W.startEntry_move (w := s.work) sensed hs hx hq, if_neg hw]
    have idle : s.work.cc.state = .idle := hs
    refine ⟨fun hm hv => ?_, fun r hm hv hf hrun hr hlost => ?_, fun e hm hsen hp he => ?_⟩
    · rw [exec_entryStart, start, W.startMove_accepted (w := s.work.sensePicker sensed) sensed hq hm hv, W.beginStep_of_ne (by
        change s.work.cc.state ≠ _
        rw [idle]
        nofun)]
      rfl
    · rw [exec_entryStart, start, W.startMove_refused (w := s.work.sensePicker sensed) sensed hq hm hv]
      refine congrArg (fun w => Host.Outcome.next (s.putWork w)) ?_
      refine (W.endAtSource_eq (by exact hf) hr hlost (by exact hrun) (by exact idle)).trans ?_
      rw [if_congr (notifies_iff hm) rfl rfl]
      rfl
    · subst hsen
      rw [exec_entryStart, start, W.startMove_recovery (w := s.work.sensePicker true) hq hm hp he, W.beginStep_of_ne (by
        change s.work.cc.state ≠ _
        rw [idle]
        nofun)]
      rfl
  · rw [exec_entryStart, W.startEntry_nothing (w := s.work) sensed hs hx hq]

end Sys2Proof.Machine

/-! PROOF. Faults of the changer and their reactions (R29 to R33): RETRY, HOLD, REPORT and the put-away. -/

namespace Sys2Proof.Machine

/-- The working state with another changer record. -/
def W.withCC (w : W) (c : Changer) : W := { w with cc := c }

/-! ## What a fault counts (R30) -/

/-- A step of a move in execution. -/
def Step.ofMove (x : Step) : Prop := x = .travel ∨ x = .grip ∨ x = .travelLoaded ∨ x = .place

theorem countAttempt_move {w : W} {x : Step} {m : Move} (hx : Step.ofMove x) (hc : w.cc.current = some (.move m))
    (mark : Bool) (n : Nat) : w.countAttempt x mark n = w.withCC { w.cc with
      current := some (.move { m with attempts := m.attempts + n, faulted := m.faulted || mark }) } := by
  rcases hx with rfl | rfl | rfl | rfl <;> simp only [W.countAttempt, hc] <;> rfl

theorem stepAttempts_move {w : W} {x : Step} {m : Move} (hx : Step.ofMove x) (hc : w.cc.current = some (.move m)) :
    w.stepAttempts x = m.attempts := by
  have hm : w.currentMove = some m := by rw [W.currentMove, hc]
  rcases hx with rfl | rfl | rfl | rfl <;> simp only [W.stepAttempts, hm, Option.map_some, Option.getD_some]

theorem countAttempt_homing_alone {w : W} (h : w.homingOwner = .none) (mark : Bool) (n : Nat) :
    w.countAttempt .homing mark n = w.withCC { w.cc with homingAttempts := w.cc.homingAttempts + n } := by
  simp only [W.countAttempt, h]
  rfl

theorem countAttempt_homing_move {w : W} {m k : Move} (h : w.homingOwner = .move k) (hc : w.cc.current = some (.move m))
    (mark : Bool) (n : Nat) : w.countAttempt .homing mark n = w.withCC { w.cc with
      current := some (.move { m with attempts := m.attempts + n, faulted := m.faulted || mark }) } := by
  simp only [W.countAttempt, h, hc]
  rfl

theorem countAttempt_homing_scan {w : W} {x : Scan} (h : w.homingOwner = .scan) (hs : w.cc.closeScan = none)
    (hc : w.cc.current = some (.scan x)) (mark : Bool) (n : Nat) : w.countAttempt .homing mark n = w.withCC { w.cc with
      current := some (.scan { x with attempts := x.attempts + n, faulted := x.faulted || mark }) } := by
  simp only [W.countAttempt, h]
  split
  next e =>
    rw [hs] at e
    cases e
  next =>
    simp only [hc]
    rfl

theorem countAttempt_homing_closeScan {w : W} {x : Scan} (h : w.homingOwner = .scan) (hs : w.cc.closeScan = some x)
    (mark : Bool) (n : Nat) : w.countAttempt .homing mark n = w.withCC { w.cc with
      closeScan := some { x with attempts := x.attempts + n, faulted := x.faulted || mark } } := by
  simp only [W.countAttempt, h, hs]
  rfl

/-! ## The reactions (R30, R31) -/

/-- A fault of a step, taken by the reaction its setting names: RETRY or HOLD (R29 to R31). -/
def W.reacts (w : W) (x : Step) (reason : Reason) (number : Nat) : W :=
  let w1 := (w.countAttempt x true 0).modCC fun c => { c with stepTimer := none }
  if w1.setting number = 1 then w1.retryOrHold reason x else w1.reactHold reason x

/-- A fault under RETRY with attempts left: the changer waits (R30). `c` is its record once the entry is marked, `d` once the
attempt is counted. -/
theorem reacts_retry {w : W} {x : Step} {reason : Reason} {number : Nat} {c d : Changer}
    (hc : w.countAttempt x true 0 = w.withCC c)
    (hd : (w.withCC { c with stepTimer := none }).countAttempt x false 1 = w.withCC d)
    (ha : (w.withCC { c with stepTimer := none }).stepAttempts x < w.setting 15) (hn : w.setting number = 1)
    (hs : d.state ≠ .retryWait) : w.reacts x reason number = { w with
      cc := { d with
        state := .retryWait, step := some x, stepTimer := none, retryTimer := some (w.setting 14) },
      dispatchDue := true } := by
  have h1 : (w.countAttempt x true 0).modCC (fun c => { c with stepTimer := none }) =
      w.withCC { c with stepTimer := none } := by
    rw [hc]
    rfl
  unfold W.reacts
  rw [h1]
  refine (if_pos hn).trans ?_
  unfold W.retryOrHold
  refine (if_pos ha).trans ?_
  rw [hd, W.ccEnter_of_ne (by exact hs)]
  rfl

/-- A fault under HOLD, or with its retries exhausted (R31). -/
theorem reacts_hold {w : W} {x : Step} {reason : Reason} {number : Nat} {c : Changer}
    (hc : w.countAttempt x true 0 = w.withCC c) (hx : x ≠ .scanStep)
    (hn : w.setting number = 1 → w.setting 15 ≤ (w.withCC { c with stepTimer := none }).stepAttempts x) :
    w.reacts x reason number =
      (w.withCC { c with stepTimer := none }).holdFault reason (some x) (decide (w.setting number = 1)) := by
  have h1 : (w.countAttempt x true 0).modCC (fun c => { c with stepTimer := none }) =
      w.withCC { c with stepTimer := none } := by
    rw [hc]
    rfl
  have hr (v : W) : v.noteResume x = v := if_neg hx
  unfold W.reacts
  rw [h1]
  dsimp only
  by_cases h : w.setting number = 1
  · rw [if_pos (by exact h), W.retryOrHold, if_neg (Nat.not_lt_of_le (by exact hn h)), hr, decide_eq_true h]
  · rw [if_neg (by exact h), W.reactHold, hr, decide_eq_false h]

/-- FAULT-HOLD, with CHANGER FAULT queued (R31). -/
theorem W.holdFault_eq (w : W) (reason : Reason) (x : Option Step) (exhausted : Bool) :
    w.holdFault reason x exhausted = { w with
      cc := { w.cc with
        state := .faultHold, stepTimer := none, retryTimer := none, step := x, holdReason := some reason,
        held := w.heldForHold reason x },
      dispatchDue := w.dispatchDue || decide (w.cc.state ≠ .faultHold),
      out := w.out ++ [.changerFault w.currentId w.currentOrigin reason x (x.bind w.stepElement)
        ((x.map w.stepAttempts).getD 0) exhausted .faultHold (w.contentsRef w.cc.picker) w.cc.faultRun] } := by
  unfold W.holdFault
  dsimp only
  rw [W.ccEnter_eq]
  cases hp : w.cc.picker <;> simp only [W.changerFaultNotice, W.modCC, W.note, hp] <;> rfl

theorem heldForHold_fresh {w : W} (hc : w.cc.closing = false) (hh : w.cc.held = none) (reason : Reason) (x : Option Step) :
    w.heldForHold reason x = some { step := x, ret := .faultHold, reason := some reason, seq := w.cc.homingFor } := by
  simp only [W.heldForHold, hc, hh]
  rfl

/-! ## The events that a fault is taken at (R29, R30) -/

/-- STALL, or a step's timer running out, while a step is timed. -/
theorem exec_stall {s : State} {e : Instr} {x : Step} (he : e = .axisStall ∨ e = .stepTimerExpiry)
    (ht : s.lib.cc.stepTimer.isSome = true) (hx : s.lib.cc.step = some x) :
    exec e s = .next (s.putWork (s.work.reacts x .stall 10)) := by
  have hs : (if s.work.cc.stepTimer.isSome then s.work.stall else s.work) = s.work.reacts x .stall 10 := by
    have hx' : s.work.cc.step = some x := hx
    rw [if_pos (by exact ht), W.stall]
    simp only [hx']
    rfl
  rcases he with rfl | rfl <;> exact congrArg (fun w => Host.Outcome.next (s.putWork w)) hs

theorem stepRuns_eq {w : W} {x : Step} (hx : w.cc.step = some x) (ht : w.cc.stepTimer.isSome = true) :
    w.stepRuns x = true := by
  simp [W.stepRuns, hx, ht]

theorem exec_placeBlocked {s : State} (ht : s.lib.cc.stepTimer.isSome = true) (hx : s.lib.cc.step = some .place) :
    exec .placeBlocked s = .next (s.putWork s.work.placeBlocked) :=
  congrArg (fun w => Host.Outcome.next (s.putWork w)) (if_pos (stepRuns_eq (w := s.work) hx ht))

/-- PLACE-BLOCKED of a move, but under REPORT. -/
theorem placeBlocked_eq {w : W} {m : Move} (hc : w.cc.current = some (.move m)) (hn : w.setting 12 ≠ 3) :
    w.placeBlocked = w.reacts .place .placeBlocked 12 := by
  have h1 := countAttempt_move (x := .place) (.inr (.inr (.inr rfl))) hc true 0
  unfold W.placeBlocked W.reacts
  rw [h1]
  have hset : ((w.withCC { w.cc with current := some (.move { m with attempts := m.attempts + 0, faulted := m.faulted || true }) }).modCC
    fun c => { c with stepTimer := none }).setting 12 = w.setting 12 := rfl
  simp only [hset, if_neg hn]
  rfl

/-- A fault of a move's step under RETRY with attempts left (R30). -/
theorem reacts_move_retry {w : W} {x : Step} {m : Move} {reason : Reason} {number : Nat} (hx : Step.ofMove x)
    (hc : w.cc.current = some (.move m)) (hn : w.setting number = 1) (ha : m.attempts < w.setting 15)
    (hs : w.cc.state ≠ .retryWait) : w.reacts x reason number = { w with
      cc := { w.cc with
        current := some (.move { m with attempts := m.attempts + 1, faulted := true }), state := .retryWait,
        step := some x, stepTimer := none, retryTimer := some (w.setting 14) },
      dispatchDue := true } := by
  have h1 : w.countAttempt x true 0 = w.withCC { w.cc with current := some (.move { m with faulted := true }) } := by
    rw [countAttempt_move hx hc, Bool.or_true]
    rfl
  rw [reacts_retry h1 (countAttempt_move hx rfl false 1) (by rw [stepAttempts_move hx rfl]; exact ha) hn hs]
  rfl

/-- A fault of a move's step under HOLD, or with its retries exhausted (R31). -/
theorem reacts_move_hold {w : W} {x : Step} {m : Move} {reason : Reason} {number : Nat} (hx : Step.ofMove x)
    (hc : w.cc.current = some (.move m)) (hcl : w.cc.closing = false) (hh : w.cc.held = none)
    (hn : w.setting number = 1 → w.setting 15 ≤ m.attempts) (hs : w.cc.state ≠ .faultHold) :
    w.reacts x reason number = { w with
      cc := { w.cc with
        current := some (.move { m with faulted := true }), state := .faultHold, step := some x, stepTimer := none,
        retryTimer := none, holdReason := some reason,
        held := some { step := some x, ret := .faultHold, reason := some reason, seq := w.cc.homingFor } },
      dispatchDue := true,
      out := w.out ++ [.changerFault (some m.id) (some m.origin) reason (some x)
        (if x = .travel ∨ x = .grip then some m.source else m.dest) m.attempts (decide (w.setting number = 1)) .faultHold
        (w.contentsRef w.cc.picker) w.cc.faultRun] } := by
  have h1 : w.countAttempt x true 0 = w.withCC { w.cc with current := some (.move { m with faulted := true }) } := by
    rw [countAttempt_move hx hc, Bool.or_true]
    rfl
  have hne : x ≠ .scanStep := by
    rcases hx with rfl | rfl | rfl | rfl <;> nofun
  have hr := reacts_hold (reason := reason) (number := number) h1 hne (by rw [stepAttempts_move hx rfl]; exact hn)
  rw [hr, W.holdFault_eq, heldForHold_fresh (by exact hcl) (by exact hh), decide_eq_true (by exact hs), Bool.or_true]
  rcases hx with rfl | rfl | rfl | rfl <;> rfl

/-! ## GRIP-MISS (R32) -/

theorem exec_gripMissed {s : State} {m : Move} (reads : LabelReads) (ht : s.lib.cc.stepTimer.isSome = true)
    (hx : s.lib.cc.step = some .grip) (hc : s.lib.cc.current = some (.move m)) :
    exec (.gripDone false reads) s = .next (s.putWork (s.work.sensePicker false).gripMiss) := by
  refine congrArg (fun w => Host.Outcome.next (s.putWork w)) ((if_pos (stepRuns_eq (w := s.work) hx ht)).trans ?_)
  have hm : (s.work.sensePicker false).currentMove = some m := by
    have hc' : (s.work.sensePicker false).cc.current = some (.move m) := hc
    rw [W.currentMove, hc']
  simp only [hm]
  rfl

theorem isDriveElement_iff (e : Element) : W.isDriveElement e = true ↔ ∃ d, e = .drive d := by
  cases e <;> simp [W.isDriveElement]

/-- A GRIP-MISS of a move, but one taken by REPORT; at a drive REPORT is taken as HOLD (R32). -/
theorem gripMiss_eq {w : W} {m : Move} (hc : w.cc.current = some (.move m))
    (hn : w.setting 11 ≠ 3 ∨ ∃ d, m.source = .drive d) : w.gripMiss = w.reacts .grip .gripMiss 11 := by
  have h1 := countAttempt_move (x := .grip) (.inr (.inl rfl)) hc true 0
  have hr : ¬(w.setting 11 = 3 ∧ W.isDriveElement m.source = false) := by
    rintro ⟨h3, hd⟩
    rcases hn with hn | hn
    · exact hn h3
    · rw [(isDriveElement_iff _).2 hn] at hd
      cases hd
  unfold W.gripMiss W.reacts
  rw [h1]
  have hset : ((w.withCC { w.cc with current := some (.move { m with attempts := m.attempts + 0, faulted := m.faulted || true }) }).modCC
    fun c => { c with stepTimer := none }).setting 11 = w.setting 11 := rfl
  have hcur : ((w.withCC { w.cc with current := some (.move { m with attempts := m.attempts + 0, faulted := m.faulted || true }) }).modCC
    fun c => { c with stepTimer := none }).currentMove =
      some { m with attempts := m.attempts + 0, faulted := m.faulted || true } := rfl
  simp only [hset, hcur, if_neg hr]

/-! ## A homing (R30) -/

/-- The homing that belongs to no entry: but for one cleared for a move, outside a close sequence, or for a scan. -/
theorem homingOwner_none {w : W} (h : w.cc.homingFor ∈ [HomingFor.toIdle, .powerOn, .reset, .pickerRecheck] ∨
    (w.cc.homingFor = .settleHeld ∧ w.cc.closing = true)) : w.homingOwner = .none := by
  simp only [List.mem_cons, List.not_mem_nil, or_false] at h
  rcases h with (h | h | h | h) | ⟨h, hc⟩
  · simp only [W.homingOwner, h]
  · simp only [W.homingOwner, h]
  · simp only [W.homingOwner, h]
  · simp only [W.homingOwner, h]
  · simp only [W.homingOwner, h, hc, if_true]

theorem homingOwner_move {w : W} {m : Move} (h : w.cc.homingFor = .settleHeld) (hc : w.cc.closing = false)
    (hm : w.cc.current = some (.move m)) : w.homingOwner = .move m := by
  have hcur : w.currentMove = some m := by rw [W.currentMove, hm]
  simp only [W.homingOwner, h, hc, hcur]
  rfl

theorem homingOwner_scan {w : W} (h : w.cc.homingFor = .continueScan) : w.homingOwner = .scan := by
  simp only [W.homingOwner, h]

theorem stepAttempts_homing_alone {w : W} (h : w.homingOwner = .none) : w.stepAttempts .homing = w.cc.homingAttempts := by
  simp only [W.stepAttempts, h]

theorem stepAttempts_homing_move {w : W} {m : Move} (h : w.homingOwner = .move m) : w.stepAttempts .homing = m.attempts := by
  simp only [W.stepAttempts, h]

theorem stepAttempts_homing_scan {w : W} {x : Scan} (h : w.homingOwner = .scan) (hs : w.cc.closeScan = none)
    (hc : w.cc.current = some (.scan x)) : w.stepAttempts .homing = x.attempts := by
  have hcur : w.currentScan = some x := by rw [W.currentScan, hc]
  simp only [W.stepAttempts, h, W.scanAttempts, hs, hcur]

theorem stepAttempts_homing_closeScan {w : W} {x : Scan} (h : w.homingOwner = .scan) (hs : w.cc.closeScan = some x) :
    w.stepAttempts .homing = x.attempts := by
  simp only [W.stepAttempts, h, W.scanAttempts, hs]

/-- The faults of a move's steps that obey a RETRY or HOLD setting (R29). -/
theorem faultOfMove {e : Instr} {x : Step} {reason : Reason} {number : Nat}
    (h : (e, x, reason, number) ∈
      [(Instr.axisStall, Step.travel, Reason.stall, 10), (.axisStall, .grip, .stall, 10),
       (.axisStall, .travelLoaded, .stall, 10), (.axisStall, .place, .stall, 10),
       (.stepTimerExpiry, .travel, .stall, 10), (.stepTimerExpiry, .grip, .stall, 10),
       (.stepTimerExpiry, .travelLoaded, .stall, 10), (.stepTimerExpiry, .place, .stall, 10),
       (.placeBlocked, .place, .placeBlocked, 12)]) :
    Step.ofMove x ∧ (((e = .axisStall ∨ e = .stepTimerExpiry) ∧ reason = .stall ∧ number = 10) ∨
      (e = .placeBlocked ∧ x = .place ∧ reason = .placeBlocked ∧ number = 12)) := by
  simp only [List.mem_cons, Prod.mk.injEq, List.not_mem_nil, or_false] at h
  rcases h with ⟨rfl, rfl, rfl, rfl⟩ | ⟨rfl, rfl, rfl, rfl⟩ | ⟨rfl, rfl, rfl, rfl⟩ | ⟨rfl, rfl, rfl, rfl⟩ |
    ⟨rfl, rfl, rfl, rfl⟩ | ⟨rfl, rfl, rfl, rfl⟩ | ⟨rfl, rfl, rfl, rfl⟩ | ⟨rfl, rfl, rfl, rfl⟩ |
    ⟨rfl, rfl, rfl, rfl⟩ <;> simp [Step.ofMove]

/-- The command of such a fault has the reaction its setting names. -/
theorem exec_faultOfMove {s : State} {m : Move} {e : Instr} {x : Step} {reason : Reason} {number : Nat}
    (h : ((e = .axisStall ∨ e = .stepTimerExpiry) ∧ reason = .stall ∧ number = 10) ∨
      (e = .placeBlocked ∧ x = .place ∧ reason = .placeBlocked ∧ number = 12))
    (ht : s.lib.cc.stepTimer.isSome = true) (hx : s.lib.cc.step = some x) (hc : s.lib.cc.current = some (.move m))
    (hn : s.work.setting number ≠ 3 ∨ number = 10) :
    exec e s = .next (s.putWork (s.work.reacts x reason number)) := by
  rcases h with ⟨he, rfl, rfl⟩ | ⟨rfl, rfl, rfl, rfl⟩
  · exact exec_stall he ht hx
  · rw [exec_placeBlocked ht hx, placeBlocked_eq (w := s.work) hc (hn.resolve_right (by omega))]

theorem stateOfStep_move {x : Step} (hx : Step.ofMove x) : W.stateOfStep x ≠ .retryWait ∧ W.stateOfStep x ≠ .faultHold := by
  rcases hx with rfl | rfl | rfl | rfl <;> exact ⟨nofun, nofun⟩

theorem exec_retryDelayExpiry {s : State} {x : Step} (hs : s.lib.cc.state = .retryWait) (hx : s.lib.cc.step = some x) :
    exec .retryDelayExpiry s = .next (s.putWork (s.work.beginStep x)) := by
  refine congrArg (fun w => Host.Outcome.next (s.putWork w)) ((if_pos (by exact hs)).trans ?_)
  have hx' : s.work.cc.step = some x := hx
  simp only [hx']

theorem noEntry {w : W} (h : w.cc.current = none) : w.currentId = none ∧ w.currentOrigin = none := by
  simp only [W.currentId, W.currentOrigin, W.currentMove, h, Option.map_none, and_self]

/-- Settles O30. -/
theorem faultsAreRetriedOrHeld : Obligations.FaultsAreRetriedOrHeld := by
  refine ⟨fun s m x e reason number he ht hx hst hc hcl hh => ?_, fun s m reads ht hx hst hc hcl hh => ?_, fun s e he ht hx hst => ?_,
    fun s x hst hx => ?_⟩
  · obtain ⟨hm, hf⟩ := faultOfMove he
    obtain ⟨hw, hd⟩ := stateOfStep_move hm
    refine ⟨fun hn ha => ?_, fun hn => ?_⟩
    · have hn3 : s.work.setting number ≠ 3 := by
        change settingOf s.settings.working number ≠ 3
        omega
      rw [exec_faultOfMove hf ht hx hc (.inl hn3), reacts_move_retry hm (w := s.work) hc hn ha (hst ▸ hw), ← hx]
      rfl
    · have hn3 : s.work.setting number ≠ 3 := by
        change settingOf s.settings.working number ≠ 3
        omega
      rw [exec_faultOfMove hf ht hx hc (.inl hn3), reacts_move_hold hm (w := s.work) hc hcl hh (fun h1 => by
        change settingOf s.settings.working number = 1 at h1
        change settingOf s.settings.working 15 ≤ _
        omega) (hst ▸ hd), ← hx]
      rfl
  · have hw : (s.work.sensePicker false).cc.state ≠ .retryWait := by
      change s.lib.cc.state ≠ _
      rw [hst]
      nofun
    have hd : (s.work.sensePicker false).cc.state ≠ .faultHold := by
      change s.lib.cc.state ≠ _
      rw [hst]
      nofun
    refine ⟨fun hn ha => ?_, fun hn => ?_⟩
    · have hn3 : (s.work.sensePicker false).setting 11 ≠ 3 := by
        change settingOf s.settings.working 11 ≠ 3
        omega
      rw [exec_gripMissed reads ht hx hc, gripMiss_eq (w := s.work.sensePicker false) hc (.inl hn3),
        reacts_move_retry (w := s.work.sensePicker false) (.inr (.inl rfl)) hc hn ha hw, ← hx]
      rfl
    · have hn3 : (s.work.sensePicker false).setting 11 ≠ 3 ∨ ∃ d, m.source = .drive d := by
        change settingOf s.settings.working 11 ≠ 3 ∨ _
        rcases hn with hn | hn | hn
        · exact .inl (by omega)
        · exact .inl (by omega)
        · exact .inr hn.2
      have hl : (s.work.sensePicker false).setting 11 = 1 → (s.work.sensePicker false).setting 15 ≤ m.attempts := by
        change settingOf s.settings.working 11 = 1 → settingOf s.settings.working 15 ≤ _
        omega
      rw [exec_gripMissed reads ht hx hc, gripMiss_eq (w := s.work.sensePicker false) hc hn3,
        reacts_move_hold (w := s.work.sensePicker false) (.inr (.inl rfl)) hc hcl hh hl hd, ← hx]
      rfl
  · have hw : s.work.cc.state ≠ .retryWait := by
      change s.lib.cc.state ≠ _
      rw [hst]
      nofun
    rw [exec_stall he ht hx]
    refine ⟨fun ho hn ha => ?_, fun m hf hcl hc hn ha => ?_, fun x hf hs hc hn ha => ?_, fun x hf hs hn ha => ?_,
      fun hf hc hcl hh hn => ?_⟩
    · have owner : s.work.homingOwner = .none := homingOwner_none ho
      have h1 : s.work.countAttempt .homing true 0 = s.work.withCC s.work.cc := countAttempt_homing_alone owner true 0
      have owner1 : (s.work.withCC { s.work.cc with stepTimer := none }).homingOwner = .none := owner
      rw [reacts_retry h1 (countAttempt_homing_alone owner1 false 1)
        ((stepAttempts_homing_alone owner1).trans_lt ha) hn hw, ← hx]
      rfl
    · have owner : s.work.homingOwner = .move m := homingOwner_move hf hcl hc
      have h1 : s.work.countAttempt .homing true 0 =
          s.work.withCC { s.work.cc with current := some (.move { m with faulted := true }) } := by
        rw [countAttempt_homing_move owner hc, Bool.or_true]
        rfl
      have owner1 : (s.work.withCC { s.work.cc with
          current := some (.move { m with faulted := true }), stepTimer := none }).homingOwner =
          .move { m with faulted := true } := homingOwner_move hf hcl rfl
      rw [reacts_retry h1 (countAttempt_homing_move owner1 rfl false 1)
        ((stepAttempts_homing_move owner1).trans_lt ha) hn hw, ← hx]
      rfl
    · have owner : s.work.homingOwner = .scan := homingOwner_scan hf
      have h1 : s.work.countAttempt .homing true 0 =
          s.work.withCC { s.work.cc with current := some (.scan { x with faulted := true }) } := by
        rw [countAttempt_homing_scan owner hs hc, Bool.or_true]
        rfl
      have owner1 : (s.work.withCC { s.work.cc with
          current := some (.scan { x with faulted := true }), stepTimer := none }).homingOwner = .scan :=
        homingOwner_scan hf
      rw [reacts_retry h1 (countAttempt_homing_scan owner1 hs rfl false 1)
        ((stepAttempts_homing_scan owner1 hs rfl).trans_lt ha) hn hw, ← hx]
      rfl
    · have owner : s.work.homingOwner = .scan := homingOwner_scan hf
      have h1 : s.work.countAttempt .homing true 0 =
          s.work.withCC { s.work.cc with closeScan := some { x with faulted := true } } := by
        rw [countAttempt_homing_closeScan owner hs, Bool.or_true]
        rfl
      have owner1 : (s.work.withCC { s.work.cc with
          closeScan := some { x with faulted := true }, stepTimer := none }).homingOwner = .scan :=
        homingOwner_scan hf
      rw [reacts_retry h1 (countAttempt_homing_closeScan owner1 rfl false 1)
        ((stepAttempts_homing_closeScan owner1 rfl).trans_lt ha) hn hw, ← hx]
      rfl
    · have owner : s.work.homingOwner = .none := homingOwner_none (.inl hf)
      have hl : s.work.setting 10 = 1 → s.work.setting 15 ≤ s.work.cc.homingAttempts := by
        change settingOf s.settings.working 10 = 1 → settingOf s.settings.working 15 ≤ s.lib.cc.homingAttempts
        omega
      have hd : s.work.cc.state ≠ .faultHold := by
        change s.lib.cc.state ≠ _
        rw [hst]
        nofun
      have h1 : s.work.countAttempt .homing true 0 = s.work.withCC s.work.cc := countAttempt_homing_alone owner true 0
      have attempts : (s.work.withCC { s.work.cc with stepTimer := none }).stepAttempts .homing = s.work.cc.homingAttempts :=
        stepAttempts_homing_alone owner
      obtain ⟨hid, horigin⟩ := noEntry (w := s.work.withCC { s.work.cc with stepTimer := none }) hc
      rw [reacts_hold h1 nofun fun h => (hl h).trans_eq attempts.symm, W.holdFault_eq,
        heldForHold_fresh (by exact hcl) (by exact hh), hid, horigin, Option.map_some, Option.bind_some, attempts,
        decide_eq_true (by exact hd), Bool.or_true, ← hx]
      rfl
  · have hne : s.work.cc.state ≠ W.stateOfStep x := by
      change s.lib.cc.state ≠ _
      rw [hst]
      cases x <;> nofun
    rw [exec_retryDelayExpiry hst hx, W.beginStep_of_ne hne, ← hx]
    rfl

end Sys2Proof.Machine

/-! PROOF. Faults taken by REPORT (R32, R33), and what the operations of the Cartridge Table leave of the rest. -/

namespace Sys2Proof.Machine

/-! ## Operations of the Cartridge Table -/

/-- Between two working states only the Cartridge Table, the signals and what is due to dispatch and rehoming differ. -/
def W.tableOnly (w v : W) : Prop :=
  v = { w with ct := v.ct, signals := v.signals, dispatchDue := v.dispatchDue, rehomeDue := v.rehomeDue }

theorem W.tableOnly.refl (w : W) : w.tableOnly w := rfl

theorem W.tableOnly.trans {w v u : W} (h : w.tableOnly v) (k : v.tableOnly u) : w.tableOnly u := by
  unfold W.tableOnly at *
  rw [k, h]

theorem W.tableOnly.cc {w v : W} (h : w.tableOnly v) : v.cc = w.cc := by
  rw [show v = _ from h]
theorem W.tableOnly.ports {w v : W} (h : w.tableOnly v) : v.ports = w.ports := by
  rw [show v = _ from h]
theorem W.tableOnly.js {w v : W} (h : w.tableOnly v) : v.js = w.js := by
  rw [show v = _ from h]
theorem W.tableOnly.out {w v : W} (h : w.tableOnly v) : v.out = w.out := by
  rw [show v = _ from h]
theorem W.tableOnly.set {w v : W} (h : w.tableOnly v) : v.set = w.set := by
  rw [show v = _ from h]
theorem W.tableOnly.pins {w v : W} (h : w.tableOnly v) : v.pins = w.pins := by
  rw [show v = _ from h]

theorem W.tableOnly_modCart (w : W) (i : Nat) (g : CartRec → CartRec) : w.tableOnly (w.modCart i g) := by
  unfold W.modCart
  split <;> rfl

theorem W.tableOnly_putSlot (w : W) (e : Element) (r : SlotRec) : w.tableOnly (w.putSlot e r) := by
  cases e <;> rfl

theorem W.tableOnly_emptySlot (w : W) (e : Element) : w.tableOnly (w.emptySlot e) := by
  cases e <;> rfl

theorem W.tableOnly_releaseHome (w : W) (i : Nat) : w.tableOnly (w.releaseHome i) := by
  unfold W.releaseHome
  dsimp only
  (repeat' split) <;> rfl

theorem W.tableOnly_leaveHome (w : W) (i : Nat) : w.tableOnly (w.leaveHome i) := by
  unfold W.leaveHome
  (repeat' split) <;> rfl

theorem W.tableOnly_becomeAbsent (w : W) (i : Nat) : w.tableOnly (w.becomeAbsent i) := by
  unfold W.becomeAbsent
  split
  · rfl
  · split
    · rfl
    · have h := (w.tableOnly_releaseHome i).trans (W.tableOnly_modCart _ i fun r =>
        { r with location := none, home := none, claim := none })
      dsimp only
      split
      · exact h.trans rfl
      · exact h.trans rfl

theorem W.tableOnly_makeHomeless (w : W) (i : Nat) : w.tableOnly (w.makeHomeless i) :=
  (W.tableOnly_modCart w i _).trans rfl

theorem W.tableOnly_vacateSlot (w : W) (e : Element) : w.tableOnly (w.vacateSlot e) := by
  unfold W.vacateSlot
  split
  · exact W.tableOnly_putSlot w e _
  · exact W.tableOnly_emptySlot w e

theorem W.tableOnly_sourceFoundEmpty (w : W) (e : Element) : w.tableOnly (w.sourceFoundEmpty e) := by
  unfold W.sourceFoundEmpty
  refine W.tableOnly.trans ?_ (W.tableOnly_vacateSlot _ e)
  split
  · split
    · exact W.tableOnly_becomeAbsent w _
    · rfl
  · rfl

/-! ## The end of a move, whatever the lockout says (R28, R34) -/

/-- IDLE or LOCKED: the Cartridge Table, the ports, the picker, the queue and the signals are as they were, and no entry is
current. -/
theorem W.goToRest_keeps (w : W) : w.goToRest.ct = w.ct ∧ w.goToRest.cc.current = none ∧
    w.goToRest.cc.picker = w.cc.picker ∧ w.goToRest.cc.pickedFrom = w.cc.pickedFrom ∧ w.goToRest.cc.queue = w.cc.queue ∧
    w.goToRest.ports = w.ports ∧ w.goToRest.js = w.js ∧ w.goToRest.signals = w.signals ∧ ∃ l, w.goToRest.out = w.out ++ l := by
  unfold W.goToRest
  dsimp only
  simp only [W.ccEnter_eq]
  split
  · exact ⟨rfl, rfl, rfl, rfl, rfl, rfl, rfl, rfl, _, rfl⟩
  · exact ⟨rfl, rfl, rfl, rfl, rfl, rfl, rfl, rfl, [], (List.append_nil _).symm⟩

/-- A move that has ended: its end is told, no entry is current, and the Cartridge Table and the picker are as they were. -/
theorem W.endMove_keeps (w : W) (m : Move) (r : Reason) (c : Contents) (ended : Option Element) :
    (w.endMove m r c ended).ct = w.ct ∧ (w.endMove m r c ended).cc.current = none ∧
      (w.endMove m r c ended).cc.picker = w.cc.picker ∧
      (w.endMove m r c ended).signals = w.signals ++ [.moveEnded m.origin m.ticket r m.cart] := by
  unfold W.endMove
  obtain ⟨hct, hcur, hp, -, -, -, -, hsig, -⟩ := W.goToRest_keeps (w.reportMoveEnd m r c ended)
  rw [hct, hcur, hp, hsig, W.reportMoveEnd_eq]
  exact ⟨rfl, rfl, rfl, rfl⟩

/-! ## GRIP-MISS under REPORT (R32) -/

/-- The entry in execution is marked faulted, and its step's timer stops. -/
theorem gripMiss_report {w : W} {m : Move} (hc : w.cc.current = some (.move m)) (hn : w.setting 11 = 3)
    (hd : W.isDriveElement m.source = false) : w.gripMiss =
      (w.withCC { w.cc with current := some (.move { m with faulted := true }), stepTimer := none }).reportGripMiss
        { m with faulted := true } := by
  have h1 : (w.countAttempt .grip true 0).modCC (fun c => { c with stepTimer := none }) =
      w.withCC { w.cc with current := some (.move { m with faulted := true }), stepTimer := none } := by
    rw [countAttempt_move (.inr (.inl rfl)) hc, Bool.or_true]
    rfl
  have hcur : (w.withCC { w.cc with
      current := some (.move { m with faulted := true }), stepTimer := none }).currentMove =
      some { m with faulted := true } := rfl
  have h3 : (w.withCC { w.cc with
      current := some (.move { m with faulted := true }), stepTimer := none }).setting 11 = 3 := hn
  unfold W.gripMiss
  rw [h1]
  simp only [hcur]
  rw [if_neg (by rw [h3]; omega), if_pos ⟨h3, hd⟩]

theorem contentsAt_slot {w : W} {n i : Nat} (hh : (w.slotAt (.slot n)).holder = some i)
    (hl : w.locationOf i = some (.slot n)) : w.contentsAt (.slot n) = .cart i := by
  simp only [W.contentsAt, hh, hl, if_true]

/-- The source of a GRIP-MISS loses its record, and is EMPTY when it is reserved for none (R32). -/
theorem sourceFoundEmpty_slot {w : W} {n i : Nat} (hh : (w.slotAt (.slot n)).holder = some i)
    (hl : w.locationOf i = some (.slot n)) (hr : (w.slotAt (.slot n)).reservedFor = none)
    (hn : n - 1 < w.ct.slots.length) : (w.sourceFoundEmpty (.slot n)).locationOf i = none ∧
      (w.sourceFoundEmpty (.slot n)).slotAt (.slot n) = { state := .empty, holder := none, reservedFor := none } := by
  have hs : (w.becomeAbsent i).slotAt (.slot n) = w.slotAt (.slot n) := W.slotAt_becomeAbsent (by rw [hr]; nofun)
  have e : w.sourceFoundEmpty (.slot n) = (w.becomeAbsent i).emptySlot (.slot n) := by
    unfold W.sourceFoundEmpty
    simp only [hh, if_pos hl]
    unfold W.vacateSlot
    rw [hs, hr]
  have len : n - 1 < (w.becomeAbsent i).ct.slots.length := by
    rwa [W.slots_length_of_ambient (W.becomeAbsent_ambient w i)]
  rw [e]
  refine ⟨?_, W.slotAt_emptySlot_same len⟩
  rw [W.locationOf, W.cart_emptySlot]
  exact W.locationOf_becomeAbsent_same w i

/-! ## PLACE-BLOCKED under REPORT (R32, R33) -/

theorem placeBlocked_report {w : W} {m : Move} (hc : w.cc.current = some (.move m)) (hn : w.setting 12 = 3) :
    w.placeBlocked =
      (w.withCC { w.cc with current := some (.move { m with faulted := true }), stepTimer := none }).reportPlaceBlocked
        { m with faulted := true } := by
  have h1 : (w.countAttempt .place true 0).modCC (fun c => { c with stepTimer := none }) =
      w.withCC { w.cc with current := some (.move { m with faulted := true }), stepTimer := none } := by
    rw [countAttempt_move (.inr (.inr (.inr rfl))) hc, Bool.or_true]
    rfl
  have hcur : (w.withCC { w.cc with
      current := some (.move { m with faulted := true }), stepTimer := none }).currentMove =
      some { m with faulted := true } := rfl
  have h3 : (w.withCC { w.cc with
      current := some (.move { m with faulted := true }), stepTimer := none }).setting 12 = 3 := hn
  unfold W.placeBlocked
  rw [h1]
  simp only [hcur]
  rw [if_neg (by rw [h3]; omega), if_pos h3]

theorem choosePutAway_some {w : W} {m : Move} {e : Element}
    (h : w.putAwayCandidates.find? (fun e => !m.tried.contains e) = some e) :
    w.choosePutAway m = (w.putMove { m with dest := some e, tried := m.tried ++ [e] }).beginStep .travelLoaded := by
  simp only [W.choosePutAway, h]

theorem choosePutAway_none {w : W} {m : Move} (h : w.putAwayCandidates.find? (fun e => !m.tried.contains e) = none) :
    w.choosePutAway m = (w.putMove { m with dest := none }).holdFault .nowhereToPlace (some .travelLoaded) false := by
  simp only [W.choosePutAway, h]

/-- The first candidate of a put-away that has not been tried and is not where the place was blocked (R33). -/
theorem find?_untried (l tried : List Element) (dest : Option Element) :
    l.find? (fun e => !(tried ++ dest.toList).contains e) =
      (l.filter fun e => !(tried.contains e) && decide (dest ≠ some e)).head? := by
  rw [List.head?_filter]
  congr 1
  funext e
  rw [Bool.eq_iff_iff]
  simp only [Bool.and_eq_true, Bool.not_eq_true', decide_eq_true_eq, List.contains_eq_mem, decide_eq_false_iff_not,
    List.mem_append, Option.mem_toList, not_or, ne_eq]

theorem W.locationOf_of_ct {v w : W} (h : v.ct = w.ct) (i : Nat) : v.locationOf i = w.locationOf i := by
  simp only [W.locationOf, W.cart, h]

theorem W.slotAt_of_ct {v w : W} (h : v.ct = w.ct) (e : Element) : v.slotAt e = w.slotAt e := by
  cases e <;> simp only [W.slotAt, h]

/-- The report of a GRIP-MISS: the end of the move and CHANGER FAULT (R32). -/
theorem reportGripMiss_eq (w : W) (m : Move) : w.reportGripMiss m =
    ((w.sourceFoundEmpty m.source).endMove m .gripMiss (w.contentsAt m.source) none).note
      (.changerFault (some m.id) (some m.origin) .gripMiss (some .grip) (some m.source) m.attempts false
        ((w.sourceFoundEmpty m.source).endMove m .gripMiss (w.contentsAt m.source) none).cc.state
        (w.contentsRef (w.contentsAt m.source))
        ((w.sourceFoundEmpty m.source).endMove m .gripMiss (w.contentsAt m.source) none).cc.faultRun) := rfl

/-- A GRIP-MISS at a slot whose cartridge is known, taken by REPORT (R32). -/
theorem reportGripMiss_slot {w : W} {m : Move} {n i : Nat} (hs : m.source = .slot n)
    (hh : (w.slotAt (.slot n)).holder = some i) (hl : w.locationOf i = some (.slot n))
    (hr : (w.slotAt (.slot n)).reservedFor = none) (hn : n - 1 < w.ct.slots.length) :
    (w.reportGripMiss m).locationOf i = none ∧
      (w.reportGripMiss m).slotAt (.slot n) = { state := .empty, holder := none, reservedFor := none } ∧
      (w.reportGripMiss m).cc.current = none ∧ (w.reportGripMiss m).cc.picker = w.cc.picker ∧
      Signal.moveEnded m.origin m.ticket .gripMiss m.cart ∈ (w.reportGripMiss m).signals ∧
      ∃ state run, Notice.changerFault (some m.id) (some m.origin) .gripMiss (some .grip) (some (.slot n)) m.attempts
        false state (w.contentsRef (.cart i)) run ∈ (w.reportGripMiss m).out := by
  obtain ⟨hloc, hslot⟩ := sourceFoundEmpty_slot hh hl hr hn
  obtain ⟨hct, hcur, hp, hsig⟩ := (w.sourceFoundEmpty (.slot n)).endMove_keeps m .gripMiss (w.contentsAt (.slot n)) none
  have table := W.tableOnly_sourceFoundEmpty w (.slot n)
  rw [reportGripMiss_eq, hs]
  refine ⟨?_, ?_, hcur, hp.trans (by rw [table.cc]), ?_, ?_⟩
  · exact (W.locationOf_of_ct hct i).trans hloc
  · exact (W.slotAt_of_ct hct (.slot n)).trans hslot
  · rw [W.note_signals, hsig]
    exact List.mem_append_right _ (List.mem_singleton_self _)
  · rw [W.note_out, contentsAt_slot hh hl]
    exact ⟨_, _, List.mem_append_right _ (List.mem_singleton_self _)⟩

/-- A blocked place, taken by REPORT, goes on as a put-away or holds (R32, R33). -/
theorem reportPlaceBlocked_goesOn (w : W) (m : Move) :
    (w.reportPlaceBlocked m).cc.picker = w.cc.picker ∧
      (∀ e rest, (w.putAwayCandidates.filter fun e => !(m.tried.contains e) && decide (m.dest ≠ some e)) = e :: rest →
        (w.reportPlaceBlocked m).cc.step = some .travelLoaded ∧ (w.reportPlaceBlocked m).cc.stepTimer = some 20 ∧
          (w.reportPlaceBlocked m).cc.current = some (.move { m with
            putAway := m.putAway.or (some .placeBlocked), dest := some e, tried := m.tried ++ m.dest.toList ++ [e] })) ∧
      ((w.putAwayCandidates.filter fun e => !(m.tried.contains e) && decide (m.dest ≠ some e)) = [] →
        (w.reportPlaceBlocked m).cc.state = .faultHold ∧ (w.reportPlaceBlocked m).cc.holdReason = some .nowhereToPlace ∧
          (w.reportPlaceBlocked m).cc.stepTimer = none) := by
  have hcc : (w.reportPlaceBlocked m).cc = (w.choosePutAway
      { m with putAway := m.putAway.or (some .placeBlocked), tried := m.tried ++ m.dest.toList }).cc := rfl
  have hfind := find?_untried w.putAwayCandidates m.tried m.dest
  rw [hcc]
  refine ⟨?_, fun e rest hc => ?_, fun hc => ?_⟩
  · unfold W.choosePutAway
    split
    · rw [W.beginStep, W.ccEnter_eq]
      rfl
    · rw [W.holdFault_eq]
      rfl
  · rw [hc] at hfind
    rw [choosePutAway_some hfind, W.beginStep, W.ccEnter_eq]
    exact ⟨rfl, rfl, rfl⟩
  · rw [hc] at hfind
    rw [choosePutAway_none hfind, W.holdFault_eq]
    exact ⟨rfl, rfl, rfl⟩

/-- Settles O31. -/
theorem reportedFaultsGoOn : Obligations.ReportedFaultsGoOn := by
  refine ⟨fun s m reads n i c ht hx hc hs hset hi hl hh hr h1 hlen => ?_, fun s m ht hx hc hset hcl => ?_⟩
  · have hd : W.isDriveElement m.source = false := by
      rw [hs]
      rfl
    have hloc : s.work.locationOf i = some (.slot n) := by rw [W.locationOf, hi, Option.bind_some, hl]
    refine ⟨_, by rw [exec_gripMissed reads ht hx hc, gripMiss_report (w := s.work.sensePicker false) hc hset hd], ?_⟩
    exact reportGripMiss_slot (w := (s.work.sensePicker false).withCC _) (m := { m with faulted := true }) hs hh hloc hr
      (by
        change n - 1 < s.lib.ct.slots.length
        omega)
  · obtain ⟨hp, hgo, hnone⟩ := reportPlaceBlocked_goesOn
      (s.work.withCC { s.work.cc with current := some (.move { m with faulted := true }), stepTimer := none })
      { m with faulted := true }
    exact ⟨_, by rw [exec_placeBlocked ht hx, placeBlocked_report (w := s.work) hc hset], hp, hgo, hnone⟩

end Sys2Proof.Machine

/-! PROOF. What the operations of the Cartridge Table, of the drive ports and of the changer leave as it is, one lemma per
operation, as `W.ambient` says it of every block's work: the jobs, the claims, the streams, the coder, the catalog. -/

namespace Sys2Proof.Machine

/-- What the table, the ports and the changer do not touch: the mode and the gate, every line, the streams and the coder, the
catalog, the settings read, and of the scheduler's records the jobs, their claims and the moves held for them. -/
structure Outside where
  mode : Mode
  gateOpen : Bool
  pins : Pins
  streams : Pair Stream
  coder : Coder
  cg : Catalog
  catalogDue : Bool
  set : List Nat
  jobs : List Job
  lastId : Nat
  lastSeq : Nat
  claims : Pair (Option Nat)
  heldMoves : List HeldMove
  cleanNeed : Pair Bool
  nextTicket : Nat

/-- The part of a working state that `Outside` keeps. -/
def W.outside (w : W) : Outside :=
  { mode := w.mode, gateOpen := w.gateOpen, pins := w.pins, streams := w.streams, coder := w.coder, cg := w.cg,
    catalogDue := w.catalogDue, set := w.set, jobs := w.js.jobs, lastId := w.js.lastId, lastSeq := w.js.lastSeq,
    claims := w.js.claims, heldMoves := w.js.heldMoves, cleanNeed := w.js.cleanNeed, nextTicket := w.js.nextTicket }

@[simp] theorem W.outside_mk (mode gateOpen pins ct cc ports js streams coder cg signals dd rd cd set out) :
    (W.mk (Lib.mk mode gateOpen pins ct cc ports js streams coder cg signals dd rd cd) set out).outside =
      Outside.mk mode gateOpen pins streams coder cg cd set js.jobs js.lastId js.lastSeq js.claims js.heldMoves
        js.cleanNeed js.nextTicket := rfl

@[simp] theorem W.outside_fold (w : W) :
    Outside.mk w.mode w.gateOpen w.pins w.streams w.coder w.cg w.catalogDue w.set w.js.jobs w.js.lastId w.js.lastSeq
      w.js.claims w.js.heldMoves w.js.cleanNeed w.js.nextTicket = w.outside := rfl

@[simp] theorem W.outside_ite (c : Prop) [Decidable c] (a b : W) :
    (if c then a else b).outside = if c then a.outside else b.outside := apply_ite W.outside c a b

@[simp] theorem W.outside_fst_ite {α : Type} (c : Prop) [Decidable c] (a b : W × α) :
    (if c then a else b).1.outside = if c then a.1.outside else b.1.outside := by split <;> rfl

@[simp] theorem W.outside_foldl {α : Type} (f : W → α → W) (h : ∀ w a, (f w a).outside = w.outside) (l : List α) (w : W) :
    (l.foldl f w).outside = w.outside := by
  induction l generalizing w with
  | nil => rfl
  | cons a l ih => rw [List.foldl_cons, ih, h]

@[simp] theorem W.note_outside (w : W) (n : Notice) :
    (W.note w n).outside = w.outside := by
  rfl

@[simp] theorem W.emit_outside (w : W) (s : Signal) :
    (W.emit w s).outside = w.outside := by
  rfl

@[simp] theorem W.wantDispatch_outside (w : W) :
    (W.wantDispatch w).outside = w.outside := by
  rfl

@[simp] theorem W.wantRehome_outside (w : W) :
    (W.wantRehome w).outside = w.outside := by
  rfl

@[simp] theorem W.putSlot_outside (w : W) (e : Element) (r : SlotRec) :
    (W.putSlot w e r).outside = w.outside := by
  unfold W.putSlot; split <;> simp

@[simp] theorem W.putCart_outside (w : W) (i : Nat) (c : Option CartRec) :
    (W.putCart w i c).outside = w.outside := by
  simp [W.putCart]

@[simp] theorem W.modCart_outside (w : W) (i : Nat) (f : CartRec → CartRec) :
    (W.modCart w i f).outside = w.outside := by
  unfold W.modCart; split <;> simp

@[simp] theorem W.setMedia_outside (w : W) (i : Nat) (s : MediaState) (cause : StateCause) :
    (W.setMedia w i s cause).outside = w.outside := by
  unfold W.setMedia; split <;> simp

@[simp] theorem W.putPort_outside (w : W) (d : Drive) (p : Port) :
    (W.putPort w d p).outside = w.outside := by
  rfl

@[simp] theorem W.modPort_outside (w : W) (d : Drive) (f : Port → Port) :
    (W.modPort w d f).outside = w.outside := by
  rfl

@[simp] theorem W.stopIdle_outside (w : W) (d : Drive) :
    (W.stopIdle w d).outside = w.outside := by
  rfl

@[simp] theorem W.markReturning_outside (w : W) (i : Nat) :
    (W.markReturning w i).outside = w.outside := by
  rfl

@[simp] theorem W.unmarkReturning_outside (w : W) (i : Nat) :
    (W.unmarkReturning w i).outside = w.outside := by
  simp [W.unmarkReturning]

@[simp] theorem W.emptySlot_outside (w : W) (e : Element) :
    (W.emptySlot w e).outside = w.outside := by
  unfold W.emptySlot; split <;> simp

@[simp] theorem W.leaveHome_outside (w : W) (i : Nat) :
    (W.leaveHome w i).outside = w.outside := by
  unfold W.leaveHome; split <;> simp

@[simp] theorem W.vacateSlot_outside (w : W) (e : Element) : (W.vacateSlot w e).outside = w.outside := by
  unfold W.vacateSlot; split <;> simp

@[simp] theorem W.releaseHome_outside (w : W) (i : Nat) :
    (W.releaseHome w i).outside = w.outside := by
  unfold W.releaseHome; split <;> simp

@[simp] theorem W.becomeAbsent_outside (w : W) (i : Nat) :
    (W.becomeAbsent w i).outside = w.outside := by
  unfold W.becomeAbsent; (repeat' split) <;> simp

@[simp] theorem W.makeHomeless_outside (w : W) (i : Nat) :
    (W.makeHomeless w i).outside = w.outside := by
  simp [W.makeHomeless]

@[simp] theorem W.rehomeOne_outside (w : W) (i : Nat) :
    (W.rehomeOne w i).outside = w.outside := by
  unfold W.rehomeOne; (repeat' split) <;> simp

@[simp] theorem W.rehome_outside (w : W) :
    (W.rehome w).outside = w.outside := by
  simp [W.rehome]

@[simp] theorem W.modTally_outside (w : W) (f : ScanTally → ScanTally) :
    (W.modTally w f).outside = w.outside := by
  rfl

@[simp] theorem W.scanStarted_outside (w : W) (range : List Element) :
    (W.scanStarted w range).outside = w.outside := by
  rfl

@[simp] theorem W.scanCompleted_outside (w : W) :
    (W.scanCompleted w).outside = w.outside := by
  unfold W.scanCompleted; split <;> simp

@[simp] theorem W.scanAbsent_outside (w : W) (i : Nat) :
    (W.scanAbsent w i).outside = w.outside := by
  simp [W.scanAbsent]

@[simp] theorem W.scanPlace_outside (w : W) (e : Element) (i : Nat) :
    (W.scanPlace w e i).outside = w.outside := by
  simp [W.scanPlace]

@[simp] theorem W.scanCreate_outside (w : W) (e : Element) (label : Option Label) (state : MediaState) (duplicate : Bool) :
    (W.scanCreate w e label state duplicate).outside = w.outside := by
  unfold W.scanCreate; split <;> simp

@[simp] theorem W.scanIdentify_outside (w : W) (e : Element) (found : Option Label) :
    (W.scanIdentify w e found).outside = w.outside := by
  unfold W.scanIdentify; (repeat' split) <;> simp

@[simp] theorem W.scanCartridge_outside (w : W) (e : Element) (found : Option Label) :
    (W.scanCartridge w e found).outside = w.outside := by
  unfold W.scanCartridge; dsimp only; (repeat' split) <;> simp

@[simp] theorem W.scanEmpty_outside (w : W) (e : Element) :
    (W.scanEmpty w e).outside = w.outside := by
  unfold W.scanEmpty; dsimp only; (repeat' split) <;> simp

@[simp] theorem W.slotRemoved_outside (w : W) (counted : Bool) (n : Nat) :
    (W.slotRemoved w counted n).outside = w.outside := by
  unfold W.slotRemoved; dsimp only; (repeat' split) <;> simp

@[simp] theorem W.scanResult_outside (w : W) (e : Element) (f : SlotFinding) :
    (W.scanResult w e f).outside = w.outside := by
  unfold W.scanResult; (repeat' split) <;> simp

@[simp] theorem W.frontOpened_outside (w : W) :
    (W.frontOpened w).outside = w.outside := by
  simp [W.frontOpened]

@[simp] theorem W.magazineGone_outside (w : W) (m : Magazine) :
    (W.magazineGone w m).outside = w.outside := by
  simp [W.magazineGone]

@[simp] theorem W.magazineBack_outside (w : W) (m : Magazine) :
    (W.magazineBack w m).outside = w.outside := by
  simp [W.magazineBack]

@[simp] theorem W.extracted_outside (w : W) (i : Nat) (source : Element) :
    (W.extracted w i source).outside = w.outside := by
  unfold W.extracted; split <;> simp

@[simp] theorem W.extractedUntracked_outside (w : W) (source : Element) :
    (W.extractedUntracked w source).outside = w.outside := by
  simp [W.extractedUntracked]

@[simp] theorem W.makeRoom_outside (w : W) (i : Option Nat) (e : Element) :
    (W.makeRoom w i e).outside = w.outside := by
  unfold W.makeRoom; simp only []; (repeat' split) <;> simp

@[simp] theorem W.placed_outside (w : W) (i : Nat) (dest : Element) :
    (W.placed w i dest).outside = w.outside := by
  unfold W.placed; split <;> simp

@[simp] theorem W.placedUntracked_outside (w : W) (dest : Element) :
    (W.placedUntracked w dest).outside = w.outside := by
  unfold W.placedUntracked; (repeat' split) <;> simp

@[simp] theorem W.sourceFoundEmpty_outside (w : W) (e : Element) :
    (W.sourceFoundEmpty w e).outside = w.outside := by
  unfold W.sourceFoundEmpty; split <;> simp

@[simp] theorem W.takeLabel_outside (w : W) (i : Nat) (l : Label) (duplicate : Bool) :
    (W.takeLabel w i l duplicate).outside = w.outside := by
  simp [W.takeLabel]

@[simp] theorem W.mergeInto_outside (w : W) (i : Nat) (y : Nat) :
    (W.mergeInto w i y).outside = w.outside := by
  unfold W.mergeInto; split <;> simp

@[simp] theorem W.passageRead_outside (w : W) (i : Nat) (read : Option Label) :
    (W.passageRead w i read).1.outside = w.outside := by
  unfold W.passageRead; (repeat' split) <;> simp

@[simp] theorem W.driveReports_outside (w : W) (d : Drive) :
    (W.driveReports w d).1.outside = w.outside := by
  unfold W.driveReports; (repeat' split) <;> simp

@[simp] theorem W.loadReport_outside (w : W) (i : Nat) (protect : Bool) :
    (W.loadReport w i protect).outside = w.outside := by
  simp [W.loadReport]

@[simp] theorem W.putCartClaim_outside (w : W) (i : Nat) (c : Option Nat) :
    (W.putCartClaim w i c).outside = w.outside := by
  simp [W.putCartClaim]

@[simp] theorem W.enterPort_outside (w : W) (d : Drive) (s : PortState) :
    (W.enterPort w d s).outside = w.outside := by
  simp [W.enterPort]

@[simp] theorem W.reportDown_outside (w : W) (d : Drive) (n : Notice) : (W.reportDown w d n).outside = w.outside := by
  rfl

@[simp] theorem W.portFaults_outside (w : W) (d : Drive) (reason : DriveReason) :
    (W.portFaults w d reason).1.outside = w.outside := by
  simp [W.portFaults]

@[simp] theorem W.requestOp_outside (w : W) (d : Drive) (op : PortOp) (req : Requester) :
    (W.requestOp w d op req).1.outside = w.outside := by
  unfold W.requestOp; split <;> simp

@[simp] theorem W.askOp_outside (w : W) (d : Drive) (op : PortOp) (req : Requester) :
    (W.askOp w d op req).outside = w.outside := by
  simp [W.askOp]

@[simp] theorem W.takeCleanRequest_outside (w : W) (d : Drive) (asked : Bool) :
    (W.takeCleanRequest w d asked).outside = w.outside := by
  simp [W.takeCleanRequest]

@[simp] theorem W.leaveReset_outside (w : W) (d : Drive) :
    (W.leaveReset w d).outside = w.outside := by
  simp [W.leaveReset]

@[simp] theorem W.endOp_outside (w : W) (d : Drive) (outcome : OpOutcome) (after : PortState × Option Nat) (fault : Option DriveReason) (asked : Bool) :
    (W.endOp w d outcome after fault asked).outside = w.outside := by
  unfold W.endOp; (repeat' split) <;> simp

@[simp] theorem W.endTransport_outside (w : W) (d : Drive) (asked : Bool) :
    (W.endTransport w d asked).outside = w.outside := by
  simp [W.endTransport]

@[simp] theorem W.loadEnds_outside (w : W) (d : Drive) (r : LoadReport) (asked : Bool) :
    (W.loadEnds w d r asked).outside = w.outside := by
  unfold W.loadEnds; (repeat' split) <;> simp

@[simp] theorem W.locateEnds_outside (w : W) (d : Drive) (r : LocateReport) (asked : Bool) :
    (W.locateEnds w d r asked).outside = w.outside := by
  unfold W.locateEnds; (repeat' split) <;> simp

@[simp] theorem W.locateEndEnds_outside (w : W) (d : Drive) (r : LocateEndReport) (asked : Bool) :
    (W.locateEndEnds w d r asked).outside = w.outside := by
  unfold W.locateEndEnds; (repeat' split) <;> simp

@[simp] theorem W.readEnds_outside (w : W) (d : Drive) (r : ReadReport) (asked : Bool) :
    (W.readEnds w d r asked).outside = w.outside := by
  unfold W.readEnds; (repeat' split) <;> simp

@[simp] theorem W.writeEnds_outside (w : W) (d : Drive) (r : WriteReport) (asked : Bool) :
    (W.writeEnds w d r asked).outside = w.outside := by
  unfold W.writeEnds; (repeat' split) <;> simp

@[simp] theorem W.endMarkEnds_outside (w : W) (d : Drive) (r : EndMarkReport) (asked : Bool) :
    (W.endMarkEnds w d r asked).outside = w.outside := by
  unfold W.endMarkEnds; (repeat' split) <;> simp

@[simp] theorem W.unloadEnds_outside (w : W) (d : Drive) (r : PlainReport) (asked : Bool) :
    (W.unloadEnds w d r asked).outside = w.outside := by
  unfold W.unloadEnds; (repeat' split) <;> simp

@[simp] theorem W.cleanEnds_outside (w : W) (d : Drive) (r : PlainReport) (asked : Bool) :
    (W.cleanEnds w d r asked).outside = w.outside := by
  unfold W.cleanEnds; (repeat' split) <;> simp

@[simp] theorem W.opTimesOut_outside (w : W) (d : Drive) :
    (W.opTimesOut w d).outside = w.outside := by
  simp [W.opTimesOut]

@[simp] theorem W.presenceFalls_outside (w : W) (d : Drive) :
    (W.presenceFalls w d).outside = w.outside := by
  unfold W.presenceFalls; dsimp only; (repeat' split) <;> simp

@[simp] theorem W.enterInit_outside (w : W) (d : Drive) (fromAbsent : Bool) :
    (W.enterInit w d fromAbsent).outside = w.outside := by
  simp [W.enterInit]

@[simp] theorem W.selfTestFails_outside (w : W) (d : Drive) :
    (W.selfTestFails w d).outside = w.outside := by
  rfl

@[simp] theorem W.reportFound_outside (w : W) (d : Drive) :
    (W.reportFound w d).outside = w.outside := by
  simp [W.reportFound]

@[simp] theorem W.selfTestPasses_outside (w : W) (d : Drive) (holds : MediaSense) :
    (W.selfTestPasses w d holds).outside = w.outside := by
  unfold W.selfTestPasses; dsimp only; (repeat' split) <;> simp

@[simp] theorem W.displaceFrom_outside (w : W) (d : Drive) (c : Contents) :
    (W.displaceFrom w d c).outside = w.outside := by
  unfold W.displaceFrom; split <;> simp

@[simp] theorem W.placedIntoOccupied_outside (w : W) (d : Drive) :
    (W.placedIntoOccupied w d).outside = w.outside := by
  simp [W.placedIntoOccupied]

@[simp] theorem W.endByPlace_outside (w : W) (d : Drive) :
    (W.endByPlace w d).outside = w.outside := by
  unfold W.endByPlace; split <;> simp

@[simp] theorem W.portPlaced_outside (w : W) (d : Drive) (c : Contents) :
    (W.portPlaced w d c).outside = w.outside := by
  unfold W.portPlaced; split <;> simp

@[simp] theorem W.portExtracted_outside (w : W) (d : Drive) :
    (W.portExtracted w d).outside = w.outside := by
  simp [W.portExtracted]

@[simp] theorem W.modCC_outside (w : W) (f : Changer → Changer) :
    (W.modCC w f).outside = w.outside := by
  rfl

@[simp] theorem W.ccEnter_outside (w : W) (s : ChangerState) :
    (W.ccEnter w s).outside = w.outside := by
  simp [W.ccEnter]

@[simp] theorem W.beginStep_outside (w : W) (s : Step) :
    (W.beginStep w s).outside = w.outside := by
  simp [W.beginStep]

@[simp] theorem W.endStep_outside (w : W) :
    (W.endStep w).outside = w.outside := by
  rfl

@[simp] theorem W.putMove_outside (w : W) (m : Move) :
    (W.putMove w m).outside = w.outside := by
  rfl

@[simp] theorem W.takeEntryId_outside (w : W) :
    (W.takeEntryId w).1.outside = w.outside := by
  rfl

@[simp] theorem W.queueMove_outside (w : W) (origin : Origin) (source : Element) (asked : Dest) (expected : Option Label) (ticket : Nat) (cart : Option Nat) :
    (W.queueMove w origin source asked expected ticket cart).1.outside = w.outside := by
  simp [W.queueMove]

@[simp] theorem W.queueRecovery_outside (w : W) :
    (W.queueRecovery w).outside = w.outside := by
  rfl

@[simp] theorem W.queueScan_outside (w : W) (range : List Element) :
    (W.queueScan w range).1.outside = w.outside := by
  unfold W.queueScan; split <;> simp

@[simp] theorem W.changerFaultNotice_outside (w : W) (reason : Reason) (step : Option Step) (element : Option Element) (attempts : Nat) (exhausted : Bool) (cart : Option CartRef) :
    (W.changerFaultNotice w reason step element attempts exhausted cart).outside = w.outside := by
  rfl

@[simp] theorem W.countRun_outside (w : W) (faulted : Bool) (completed : Bool) :
    (W.countRun w faulted completed).outside = w.outside := by
  rfl

@[simp] theorem W.goToRest_outside (w : W) :
    (W.goToRest w).outside = w.outside := by
  simp [W.goToRest]

@[simp] theorem W.reportMoveEnd_outside (w : W) (m : Move) (r : Reason) (c : Contents) (ended : Option Element) :
    (W.reportMoveEnd w m r c ended).outside = w.outside := by
  simp [W.reportMoveEnd]

@[simp] theorem W.endMove_outside (w : W) (m : Move) (r : Reason) (c : Contents) (ended : Option Element) :
    (W.endMove w m r c ended).outside = w.outside := by
  simp [W.endMove]

@[simp] theorem W.holdFault_outside (w : W) (reason : Reason) (s : Option Step) (exhausted : Bool) :
    (W.holdFault w reason s exhausted).outside = w.outside := by
  simp [W.holdFault]

@[simp] theorem W.choosePutAway_outside (w : W) (m : Move) :
    (W.choosePutAway w m).outside = w.outside := by
  unfold W.choosePutAway; split <;> simp

@[simp] theorem W.fillPicker_outside (w : W) (c : Contents) (e : Option Element) :
    (W.fillPicker w c e).outside = w.outside := by
  unfold W.fillPicker; simp only []; (repeat' split) <;> simp

@[simp] theorem W.extractAt_outside (w : W) (source : Element) (read : Option Label) :
    (W.extractAt w source read).1.outside = w.outside := by
  unfold W.extractAt; dsimp only; (repeat' split) <;> simp

@[simp] theorem W.extractDone_outside (w : W) (m : Move) (read : Option Label) :
    (W.extractDone w m read).outside = w.outside := by
  unfold W.extractDone; dsimp only; (repeat' split) <;> simp

@[simp] theorem W.placeAt_outside (w : W) (dest : Element) :
    (W.placeAt w dest).outside = w.outside := by
  unfold W.placeAt; dsimp only; (repeat' split) <;> simp

@[simp] theorem W.placeDone_outside (w : W) (m : Move) :
    (W.placeDone w m).outside = w.outside := by
  unfold W.placeDone; split <;> simp

@[simp] theorem W.declareLost_outside (w : W) :
    (W.declareLost w).outside = w.outside := by
  unfold W.declareLost; dsimp only; (repeat' split) <;> simp

@[simp] theorem W.passOver_outside (x1 : List Element) (x2 : W) :
    (W.passOver x1 x2).1.outside = x2.outside := by
  induction x1 generalizing x2 with
  | nil => rfl
  | cons e rest ih => unfold W.passOver; (repeat' split) <;> simp [ih]

@[simp] theorem W.putRemaining_outside (w : W) (l : List Element) :
    (W.putRemaining w l).outside = w.outside := by
  unfold W.putRemaining; (repeat' split) <;> simp

@[simp] theorem W.endScanEntry_outside (w : W) (faulted : Bool) :
    (W.endScanEntry w faulted).outside = w.outside := by
  simp [W.endScanEntry]

@[simp] theorem W.resumeLoaded_outside (w : W) (m : Move) :
    (W.resumeLoaded w m).outside = w.outside := by
  unfold W.resumeLoaded; dsimp only; (repeat' split) <;> simp

@[simp] theorem W.endAtSource_outside (w : W) (m : Move) (r : Reason) :
    (W.endAtSource w m r).outside = w.outside := by
  simp [W.endAtSource]

@[simp] theorem W.resumeEmpty_outside (w : W) (m : Move) :
    (W.resumeEmpty w m).outside = w.outside := by
  unfold W.resumeEmpty; dsimp only; (repeat' split) <;> simp

@[simp] theorem W.resumeHeld_outside (w : W) (m : Move) (s : Option Step) :
    (W.resumeHeld w m s).outside = w.outside := by
  simp [W.resumeHeld]

@[simp] theorem W.endLost_outside (w : W) (m : Move) :
    (W.endLost w m).outside = w.outside := by
  simp [W.endLost]

@[simp] theorem W.spotCheck_outside (w : W) (dest : Option Element) :
    (W.spotCheck w dest).1.outside = w.outside := by
  unfold W.spotCheck; split <;> simp

@[simp] theorem W.spotCheckedMove_outside (w : W) (m : Move) (present : Bool) :
    (W.spotCheckedMove w m present).outside = w.outside := by
  simp [W.spotCheckedMove]

@[simp] theorem W.settleMove_outside (w : W) (m : Move) (s : Step) (sensed : Bool) :
    (W.settleMove w m s sensed).1.outside = w.outside := by
  unfold W.settleMove; dsimp only; (repeat' split) <;> simp

@[simp] theorem W.keepSettled_outside (w : W) (s : Step) :
    (W.keepSettled w s).outside = w.outside := by
  rfl

@[simp] theorem W.holdPickerOccupied_outside (w : W) :
    (W.holdPickerOccupied w).outside = w.outside := by
  simp [W.holdPickerOccupied]

@[simp] theorem W.closeFinished_outside (w : W) :
    (W.closeFinished w).outside = w.outside := by
  unfold W.closeFinished; dsimp only; (repeat' split) <;> simp

@[simp] theorem W.scanGoesOn_outside (w : W) :
    (W.scanGoesOn w).outside = w.outside := by
  unfold W.scanGoesOn; dsimp only; (repeat' split) <;> simp

@[simp] theorem W.startCloseScan_outside (w : W) :
    (W.startCloseScan w).outside = w.outside := by
  simp [W.startCloseScan]

@[simp] theorem W.powerOnHomed_outside (w : W) (sensed : Bool) :
    (W.powerOnHomed w sensed).outside = w.outside := by
  simp [W.powerOnHomed]

@[simp] theorem W.resetFound_outside (w : W) :
    (W.resetFound w).outside = w.outside := by
  simp [W.resetFound]

@[simp] theorem W.resetSettled_outside (w : W) (sensed : Bool) :
    (W.resetSettled w sensed).1.outside = w.outside := by
  unfold W.resetSettled; (repeat' split) <;> (try simp) <;> (repeat' split) <;> (try simp_all)
  all_goals (cases ‹Interrupted›.dest <;> simp)

@[simp] theorem W.dropInterrupted_outside (w : W) :
    (W.dropInterrupted w).outside = w.outside := by
  rfl

@[simp] theorem W.pickerRechecked_outside (w : W) (sensed : Bool) :
    (W.pickerRechecked w sensed).outside = w.outside := by
  simp [W.pickerRechecked]

@[simp] theorem W.runSequence_outside (w : W) (seq : HomingFor) (sensed : Bool) :
    (W.runSequence w seq sensed).1.outside = w.outside := by
  unfold W.runSequence; split <;> simp

@[simp] theorem W.closeSettled_outside (w : W) (sensed : Bool) :
    (W.closeSettled w sensed).outside = w.outside := by
  unfold W.closeSettled; dsimp only; (repeat' split) <;> simp

@[simp] theorem W.startHoming_outside (w : W) (seq : HomingFor) :
    (W.startHoming w seq).outside = w.outside := by
  simp [W.startHoming]

@[simp] theorem W.clearSettled_outside (w : W) (sensed : Bool) :
    (W.clearSettled w sensed).outside = w.outside := by
  unfold W.clearSettled; dsimp only; (repeat' split) <;> simp

@[simp] theorem W.spotChecked_outside (w : W) (present : Bool) :
    (W.spotChecked w present).outside = w.outside := by
  have h : ∀ o : Option Interrupted, ((o.bind fun a => a.dest.map w.endStep.placeAt).getD w.endStep).outside = w.outside := by
    intro o
    cases o with
    | none => simp
    | some a => cases h : a.dest <;> simp [h]
  unfold W.spotChecked; dsimp only; (repeat' split) <;> simp_all

@[simp] theorem W.countAttempt_outside (w : W) (s : Step) (mark : Bool) (n : Nat) :
    (W.countAttempt w s mark n).outside = w.outside := by
  unfold W.countAttempt; (repeat' split) <;> simp

@[simp] theorem W.noteResume_outside (w : W) (s : Step) :
    (W.noteResume w s).outside = w.outside := by
  unfold W.noteResume; (repeat' split) <;> simp

@[simp] theorem W.retryOrHold_outside (w : W) (reason : Reason) (s : Step) :
    (W.retryOrHold w reason s).outside = w.outside := by
  simp [W.retryOrHold]

@[simp] theorem W.reactHold_outside (w : W) (reason : Reason) (s : Step) :
    (W.reactHold w reason s).outside = w.outside := by
  simp [W.reactHold]

@[simp] theorem W.stall_outside (w : W) :
    (W.stall w).outside = w.outside := by
  unfold W.stall; split <;> simp

@[simp] theorem W.reportGripMiss_outside (w : W) (m : Move) :
    (W.reportGripMiss w m).outside = w.outside := by
  simp [W.reportGripMiss]

@[simp] theorem W.gripMiss_outside (w : W) :
    (W.gripMiss w).outside = w.outside := by
  unfold W.gripMiss; dsimp only; (repeat' split) <;> simp

@[simp] theorem W.reportPlaceBlocked_outside (w : W) (m : Move) :
    (W.reportPlaceBlocked w m).outside = w.outside := by
  simp [W.reportPlaceBlocked]

@[simp] theorem W.placeBlocked_outside (w : W) :
    (W.placeBlocked w).outside = w.outside := by
  unfold W.placeBlocked; dsimp only; (repeat' split) <;> simp

@[simp] theorem W.startScanEntry_outside (w : W) (s : Scan) :
    (W.startScanEntry w s).outside = w.outside := by
  simp [W.startScanEntry]

@[simp] theorem W.startRecovery_outside (w : W) (m : Move) (sensed : Bool) :
    (W.startRecovery w m sensed).outside = w.outside := by
  unfold W.startRecovery; dsimp only; (repeat' split) <;> simp

@[simp] theorem W.startMove_outside (w : W) (m : Move) (sensed : Bool) :
    (W.startMove w m sensed).outside = w.outside := by
  unfold W.startMove; dsimp only; (repeat' split) <;> simp

@[simp] theorem W.clearFault_outside (w : W) :
    (W.clearFault w).outside = w.outside := by
  unfold W.clearFault; dsimp only; (repeat' split) <;> simp

@[simp] theorem W.frontDoorOpens_outside (w : W) :
    (W.frontDoorOpens w).outside = w.outside := by
  simp [W.frontDoorOpens]

@[simp] theorem W.frontDoorCloses_outside (w : W) :
    (W.frontDoorCloses w).outside = w.outside := by
  rw [W.frontDoorCloses_eq]
  split <;> rfl

@[simp] theorem W.resetChangerNow_outside (w : W) :
    (W.resetChangerNow w).outside = w.outside := by
  unfold W.resetChangerNow
  dsimp only
  split <;> simp

/-- A homing's completion reads the picker sensor, and otherwise keeps to the table, the ports and the changer. -/
theorem W.homed_outside (w : W) (sensed : Bool) : (W.homed w sensed).outside = (w.sensePicker sensed).outside := by
  unfold W.homed
  dsimp only
  (repeat' split) <;> simp

end Sys2Proof.Machine

/-! PROOF. What follows a homing outside a close sequence (R35, R37, R38, R43, R44). -/

namespace Sys2Proof.Machine

/-! ## The picker (R22) -/

theorem W.fillPicker_cc (w : W) (c : Contents) (source : Option Element) :
    (w.fillPicker c source).cc = { w.cc with picker := c, pickedFrom := source } := by
  unfold W.fillPicker
  dsimp only
  split
  · split
    · rfl
    · rw [(W.tableOnly_becomeAbsent _ _).cc]
      rfl
  · rfl
  · rfl

/-- A cartridge declared lost: its record is absent, and the picker EMPTY (R37). -/
theorem W.declareLost_cc (w : W) : w.declareLost.cc = { w.cc with picker := .none, pickedFrom := none } := by
  unfold W.declareLost
  dsimp only
  split
  · exact (W.tableOnly_becomeAbsent _ _).cc
  · rfl
  · rfl

theorem W.declareLost_location {w : W} {i : Nat} (h : w.cc.picker = .cart i) : w.declareLost.locationOf i = none := by
  unfold W.declareLost
  simp only [h]
  exact W.locationOf_becomeAbsent_same _ i

/-- A move that ends LOST-IN-TRANSIT (R37). -/
theorem W.endLost_keeps (w : W) (m : Move) : (w.endLost m).cc.picker = .none ∧ (w.endLost m).cc.current = none ∧
    (w.endLost m).cc.pickerFound = w.cc.pickerFound ∧
    Signal.moveEnded m.origin m.ticket .lostInTransit m.cart ∈ (w.endLost m).signals ∧
    ∀ i, w.cc.picker = .cart i → (w.endLost m).locationOf i = none := by
  unfold W.endLost
  dsimp only
  rw [W.reportMoveEnd_eq]
  refine ⟨?_, rfl, ?_, List.mem_append_right _ (List.mem_singleton_self _), fun i h => W.declareLost_location h⟩
  · change w.declareLost.cc.picker = _
    rw [W.declareLost_cc]
  · change w.declareLost.cc.pickerFound = _
    rw [W.declareLost_cc]

/-! ## The scan of every slot, and RECOVERY moves (R24, R43) -/

theorem inScanOrder_covers {l : List Element} (h : ∀ e ∈ scanOrder, e ∈ l) : inScanOrder l = scanOrder :=
  List.filter_eq_self.2 fun e he => List.contains_iff_mem.2 (h e he)

theorem W.queueScan_all (w : W) : ((w.queueScan scanOrder).1.cc.scanEntry.map Scan.range) = some scanOrder ∧
    (w.queueScan scanOrder).1.cc.picker = w.cc.picker ∧ (w.queueScan scanOrder).1.cc.queue = w.cc.queue := by
  unfold W.queueScan
  split
  · exact ⟨congrArg some (inScanOrder_covers fun e he => List.mem_append_right _ he), rfl, rfl⟩
  · exact ⟨congrArg some (inScanOrder_covers fun e he => he), rfl, rfl⟩

theorem W.queueRecovery_cc (w : W) : w.queueRecovery.cc.picker = w.cc.picker ∧
    w.queueRecovery.cc.scanEntry = w.cc.scanEntry ∧
    w.queueRecovery.cc.queue.map Move.origin = .recovery :: w.cc.queue.map Move.origin := ⟨rfl, rfl, rfl⟩

/-! ## Homings outside a close sequence -/

/-- The sensor has been read and the homing is over. -/
def W.hasHomed (w : W) (sensed : Bool) : W := (w.sensePicker sensed).endStep

/-- The changer is IDLE after a homing, with nothing held. -/
def W.homedToRest (w : W) : W := (w.modCC fun c => { c with held := none, holdReason := none }).ccEnter .idle

theorem W.homedToRest_eq (w : W) : w.homedToRest = { w with
    cc := { w.cc with state := .idle, held := none, holdReason := none },
    dispatchDue := w.dispatchDue || decide (w.cc.state ≠ .idle) } :=
  W.ccEnter_eq _ _

theorem homed_sequence {w : W} {f : HomingFor} (sensed : Bool) (hc : w.cc.closing = false) (hf : w.cc.homingFor = f)
    (hs : f ≠ .continueScan) (hh : f ≠ .settleHeld) (hr : ((w.hasHomed sensed).runSequence f sensed).2 = false) :
    w.homed sensed = ((w.hasHomed sensed).runSequence f sensed).1.homedToRest := by
  subst hf
  unfold W.homed
  refine (if_neg hs).trans ((if_neg (ne_true_of_eq_false hc)).trans ((if_neg hh).trans ?_))
  exact if_neg (ne_true_of_eq_false hr)

theorem homed_settleHeld {w : W} (sensed : Bool) (hc : w.cc.closing = false) (hf : w.cc.homingFor = .settleHeld) :
    w.homed sensed = (w.hasHomed sensed).clearSettled sensed := by
  unfold W.homed
  have hs : w.cc.homingFor ≠ .continueScan := by
    rw [hf]
    nofun
  exact (if_neg hs).trans ((if_neg (ne_true_of_eq_false hc)).trans (if_pos hf))

/-- Settlement of a controller reset that interrupted no step (R44). -/
theorem resetSettled_plain {w : W} (sensed : Bool) (h : w.cc.interrupted = none) : w.resetSettled sensed =
    if sensed then (w.resetFound, false) else if w.cc.picker = .none then (w, false) else (w.declareLost, false) := by
  simp only [W.resetSettled, h]

theorem W.resetFound_cc (w : W) : w.resetFound.cc.picker = (if w.cc.picker = .none then .untracked else w.cc.picker) ∧
    w.resetFound.cc.queue.map Move.origin = .recovery :: w.cc.queue.map Move.origin := by
  unfold W.resetFound
  obtain ⟨hp, -, hq⟩ := W.queueRecovery_cc (if w.cc.picker = .none then w.fillPicker .untracked none else w)
  rw [hp, hq]
  split
  · rw [W.fillPicker_cc]
    exact ⟨rfl, rfl⟩
  · exact ⟨rfl, rfl⟩

/-- A loaded move found with its cartridge goes on where it was going (R37, R38). -/
theorem resumeHeld_loaded {w : W} {m : Move} (hp : m.putAway = none) (ha : m.asked ≠ .recoveryChain)
    (hd : m.dest = some .mail → w.ct.mailDoorOpen = false)
    (hr : w.destRefused m.source m.dest (w.recordAt .picker) = none) :
    w.resumeHeld m (some .travelLoaded) =
      ((w.modCC fun c => { c with held := none, holdReason := none }).putMove m).beginStep .travelLoaded := by
  have hb : ¬w.mailBarred m.dest = true := by
    simp only [W.mailBarred, Bool.and_eq_true, decide_eq_true_eq, not_and]
    exact fun e => ne_true_of_eq_false (hd e)
  unfold W.resumeHeld
  refine (if_pos (.inl rfl)).trans ?_
  unfold W.resumeLoaded
  refine (if_neg (by rw [hp]; nofun)).trans ((if_neg fun h => ha h.1).trans ?_)
  have hr' : (if w.mailBarred m.dest then some Reason.destFull
      else w.destRefused m.source m.dest (w.recordAt .picker)) = none := by rw [if_neg hb, hr]
  change (match (if w.mailBarred m.dest then some Reason.destFull
      else w.destRefused m.source m.dest (w.recordAt .picker)) with
    | none => _
    | some _ => _) = _
  rw [hr']

theorem clearSettled_eq {w : W} {h : Held} {m : Move} (sensed : Bool) (hh : w.cc.held = some h)
    (hm : w.cc.current = some (.move m)) (hs : h.step = some .travelLoaded) : w.clearSettled sensed =
      if sensed then w.resumeHeld m (some .travelLoaded)
      else if (w.endLost m).cc.pickerFound then (w.endLost m).holdPickerOccupied else (w.endLost m).goToRest := by
  have hcur : w.currentMove = some m := by rw [W.currentMove, hm]
  simp only [W.clearSettled, hh, hcur, hs, Option.getD_some]
  cases sensed <;> simp only [W.settleMove, hcur] <;> rfl

/-- The power-on sequence: a scan of every slot, and a RECOVERY move for what the picker is found to hold (R43). -/
theorem W.powerOnHomed_cc (w : W) (sensed : Bool) : (w.powerOnHomed sensed).cc.scanEntry.map Scan.range = some scanOrder ∧
    (sensed = true → (w.powerOnHomed sensed).cc.picker = .untracked ∧
      (w.powerOnHomed sensed).cc.queue.map Move.origin = .recovery :: w.cc.queue.map Move.origin) ∧
    (sensed = false → (w.powerOnHomed sensed).cc.picker = w.cc.picker ∧ (w.powerOnHomed sensed).cc.queue = w.cc.queue) := by
  obtain ⟨hrange, hp, hq⟩ := W.queueScan_all w
  unfold W.powerOnHomed
  cases sensed with
  | false => exact ⟨hrange, nofun, fun _ => ⟨hp, hq⟩⟩
  | true =>
    obtain ⟨rp, rs, rq⟩ := W.queueRecovery_cc ((w.queueScan scanOrder).1.fillPicker .untracked none)
    rw [W.fillPicker_cc] at rp rs rq
    exact ⟨(congrArg _ rs).trans hrange, fun _ => ⟨rp, rq.trans (by rw [hq])⟩, nofun⟩

/-- The picker is read again after PICKER-OCCUPIED (R38). -/
theorem W.pickerRechecked_cc (w : W) (sensed : Bool) :
    (sensed = true → (w.pickerRechecked sensed).cc.picker = w.cc.picker ∧
      (w.pickerRechecked sensed).cc.queue.map Move.origin = .recovery :: w.cc.queue.map Move.origin) ∧
    (sensed = false → (w.pickerRechecked sensed).cc.picker = .none ∧ (w.pickerRechecked sensed).cc.queue = w.cc.queue) := by
  refine ⟨?_, ?_⟩
  · rintro rfl
    exact ⟨rfl, rfl⟩
  · rintro rfl
    have h : (w.pickerRechecked false).cc = _ := W.fillPicker_cc w .none none
    rw [h]
    exact ⟨rfl, rfl⟩

/-- What a controller reset that interrupted no step does with the picker (R44). -/
theorem W.resetSettled_cc {w : W} (sensed : Bool) (h : w.cc.interrupted = none) :
    (w.resetSettled sensed).2 = false ∧
    (sensed = true → (w.resetSettled sensed).1.cc.queue.map Move.origin = .recovery :: w.cc.queue.map Move.origin ∧
      (w.resetSettled sensed).1.cc.picker = if w.cc.picker = .none then .untracked else w.cc.picker) ∧
    (sensed = false → (w.resetSettled sensed).1.cc.picker = .none ∧ (w.resetSettled sensed).1.cc.queue = w.cc.queue ∧
      ∀ i, w.cc.picker = .cart i → (w.resetSettled sensed).1.locationOf i = none) := by
  rw [resetSettled_plain sensed h]
  cases sensed with
  | true =>
    obtain ⟨hp, hq⟩ := W.resetFound_cc w
    exact ⟨rfl, fun _ => ⟨hq, hp⟩, nofun⟩
  | false =>
    rw [if_neg Bool.false_ne_true]
    split
    next hn =>
      refine ⟨rfl, nofun, fun _ => ⟨hn, rfl, fun i hi => ?_⟩⟩
      rw [hn] at hi
      cases hi
    next => exact ⟨rfl, nofun, fun _ => ⟨by rw [W.declareLost_cc], by rw [W.declareLost_cc], fun i => W.declareLost_location⟩⟩

theorem exec_homingComplete {s : State} (sensed : Bool) (hx : s.lib.cc.step = some .homing)
    (ht : s.lib.cc.stepTimer.isSome = true) :
    exec (.homingComplete sensed) s = .next (s.putWork (s.work.homed sensed)) :=
  congrArg (fun w => Host.Outcome.next (s.putWork w)) (if_pos (stepRuns_eq (w := s.work) hx ht))

/-- Settles O32. -/
theorem homingIsFollowedByItsSequence : Obligations.HomingIsFollowedByItsSequence := by
  refine fun s sensed hx ht hc => ⟨exec_homingComplete sensed hx ht, congrArg Outside.pins (s.work.homed_outside sensed),
    fun hf => ?_, fun hf => ?_, fun hf => ?_, fun hf hi => ?_, fun m h hf hm hh hs => ⟨fun hsen => ?_, fun hsen hp ha hd hr => ?_⟩⟩
  · rw [homed_sequence (w := s.work) sensed hc hf nofun nofun rfl, W.homedToRest_eq]
    exact ⟨rfl, rfl, rfl, rfl, rfl, rfl⟩
  · obtain ⟨hrange, hfound, hclear⟩ := (s.work.hasHomed sensed).powerOnHomed_cc sensed
    rw [homed_sequence (w := s.work) sensed hc hf nofun nofun rfl, W.homedToRest_eq]
    exact ⟨rfl, hrange, hfound, hclear⟩
  · obtain ⟨hfound, hclear⟩ := (s.work.hasHomed sensed).pickerRechecked_cc sensed
    rw [homed_sequence (w := s.work) sensed hc hf nofun nofun rfl, W.homedToRest_eq]
    exact ⟨rfl, hfound, hclear⟩
  · obtain ⟨hdone, hfound, hclear⟩ := W.resetSettled_cc (w := s.work.hasHomed sensed) sensed hi
    have hrun : (s.work.hasHomed sensed).runSequence .reset sensed =
        (((s.work.hasHomed sensed).resetSettled sensed).1.dropInterrupted, false) := by
      rw [W.runSequence]
      exact if_neg (ne_true_of_eq_false hdone)
    rw [homed_sequence (w := s.work) sensed hc hf nofun nofun (by rw [hrun]), hrun, W.homedToRest_eq]
    exact ⟨rfl, hfound, hclear⟩
  · obtain ⟨hp, hcur, hfound, hsig, hloc⟩ := (s.work.hasHomed sensed).endLost_keeps m
    rw [homed_settleHeld (w := s.work) sensed hc hf, clearSettled_eq (w := s.work.hasHomed sensed) sensed hh hm hs, hsen,
      if_neg Bool.false_ne_true]
    subst hsen
    split
    · unfold W.holdPickerOccupied
      rw [W.holdFault_eq]
      exact ⟨hp, rfl, hsig, hloc⟩
    · obtain ⟨rct, rcur, rp, -, -, -, -, rsig, -⟩ := ((s.work.hasHomed false).endLost m).goToRest_keeps
      exact ⟨rp.trans hp, rcur, rsig ▸ hsig, fun i hi => (W.locationOf_of_ct rct i).trans (hloc i hi)⟩
  · subst hsen
    rw [homed_settleHeld (w := s.work) true hc hf, clearSettled_eq (w := s.work.hasHomed true) true hh hm hs, if_pos rfl,
      resumeHeld_loaded (w := s.work.hasHomed true) hp ha hd hr, W.beginStep, W.ccEnter_eq]
    exact ⟨rfl, rfl, rfl, rfl⟩

end Sys2Proof.Machine

/-! PROOF. The close sequence's scan and the spot check of a placement (R37). -/

namespace Sys2Proof.Machine

/-! ## The close scan (R37) -/

/-- The range of the close scan: every storage slot, and M when a scan it absorbs asked for it (R37). -/
theorem closeRange_eq (asked : List Element) :
    inScanOrder ((slotsOf .left ++ slotsOf .right).map .slot ++ asked) =
      scanOrder.filter fun e => decide (e ≠ .mail) || asked.contains e := by
  refine List.filter_congr fun e he => ?_
  rw [Bool.eq_iff_iff, List.contains_iff_mem, List.mem_append, Bool.or_eq_true, List.contains_iff_mem, decide_eq_true_iff]
  rcases mem_scanOrder he with ⟨k, hk, rfl⟩ | rfl
  · refine iff_of_true (.inl (List.mem_map_of_mem ?_)) (.inl nofun)
    rw [List.mem_append, mem_slotsOf, mem_slotsOf]
    cases hm : magazineOf (k + 1)
    · exact .inl ⟨by omega, by omega, rfl⟩
    · exact .inr ⟨by omega, by omega, rfl⟩
  · simp

/-- The close scan visits S1 first. -/
theorem closeRange_cons (asked : List Element) : ∃ rest,
    (scanOrder.filter fun e => decide (e ≠ .mail) || asked.contains e) = .slot 1 :: rest := by
  have h : scanOrder = .slot 1 :: scanOrder.tail := rfl
  rw [h, List.filter_cons_of_pos (by rfl)]
  exact ⟨_, rfl⟩

/-- A close scan goes on at a slot that it has to travel to (R40). -/
theorem scanGoesOn_closeScan {w : W} {x : Scan} {e : Element} {rest : List Element} (hx : w.cc.closeScan = some x)
    (hr : x.remaining = e :: rest)
    (he : (e = .mail ∧ w.ct.mailDoorOpen = false) ∨ (∃ n, e = .slot n ∧ w.magazinePresent (magazineOf n) = true)) :
    w.scanGoesOn.cc = { w.cc with
      closeScan := some { x with remaining := e :: rest }, state := .scanning, step := some .scanStep,
      stepTimer := some 20, retryTimer := none } := by
  have hrem : w.remainingSlots = e :: rest := by
    rw [W.remainingSlots, hx, Option.some_or]
    exact hr
  have hput : w.putRemaining (e :: rest) = w.withCC { w.cc with closeScan := some { x with remaining := e :: rest } } := by
    simp only [W.putRemaining, hx]
    rfl
  rw [W.scanGoesOn_stops (by rw [hrem]; exact passOver_stops rest he), hput, W.beginStep, W.ccEnter_eq]
  rfl

/-- The close scan has begun with a range: it has taken in the scan held and the waiting scan entry (R37). -/
def W.closeScanning (w : W) (range : List Element) : W :=
  (w.modCC fun c =>
    { c with scanEntry := none,
             closeScan := some { id := 0, range := range, remaining := range, attempts := 0,
                                 resumeSlot := none, faulted := false },
             current := match c.current, c.held with
               | some (.scan s), some h => if h.ret = .faultHold then some (.scan s) else none
               | some (.scan _), none => none
               | other, _ => other }).scanStarted range

theorem W.startCloseScan_eq (w : W) : w.startCloseScan =
    (w.closeScanning (inScanOrder ((slotsOf .left ++ slotsOf .right).map .slot ++
      ((w.cc.closeScan.map Scan.range).getD []) ++ ((w.currentScan.map Scan.range).getD []) ++
      ((w.cc.scanEntry.map Scan.range).getD [])))).scanGoesOn := rfl

/-- The close scan begins its first step at S1 when magazine L is there (R37, R40). -/
theorem startCloseScan_eq {w : W} (hc : w.cc.current = none) (hm : w.pins.magazineLeft = true) :
    let asked := ((w.cc.closeScan.map Scan.range).getD []) ++ ((w.cc.scanEntry.map Scan.range).getD [])
    w.startCloseScan.cc.state = .scanning ∧ w.startCloseScan.cc.step = some .scanStep ∧
      w.startCloseScan.cc.stepTimer = some 20 ∧ w.startCloseScan.cc.scanEntry = none ∧
      w.startCloseScan.cc.queue = w.cc.queue ∧ w.startCloseScan.cc.picker = w.cc.picker ∧
      w.startCloseScan.cc.closeScan.map Scan.remaining =
        some (scanOrder.filter fun e => decide (e ≠ .mail) || asked.contains e) := by
  intro asked
  have hs : w.currentScan = none := by rw [W.currentScan, hc]
  obtain ⟨rest, hrest⟩ := closeRange_cons asked
  have hrange : inScanOrder ((slotsOf .left ++ slotsOf .right).map .slot ++
      ((w.cc.closeScan.map Scan.range).getD []) ++ ((w.currentScan.map Scan.range).getD []) ++
      ((w.cc.scanEntry.map Scan.range).getD [])) = .slot 1 :: rest := by
    rw [← hrest, ← closeRange_eq asked, hs, Option.map_none, Option.getD_none, List.append_nil, List.append_assoc]
  rw [W.startCloseScan_eq, hrange, scanGoesOn_closeScan (w := w.closeScanning (.slot 1 :: rest)) rfl rfl (.inr ⟨1, rfl, hm⟩),
    hrest]
  exact ⟨rfl, rfl, rfl, rfl, rfl, rfl, rfl⟩

/-- A homing of the close sequence with nothing in execution and nothing to settle. -/
theorem homed_closing {w : W} (sensed : Bool) (hcl : w.cc.closing = true) (hf : w.cc.homingFor = .toIdle)
    (hc : w.cc.current = none) (hr : w.cc.held.map Held.ret = some .idle) (hq : w.cc.held.map Held.seq = some .toIdle) :
    w.homed sensed = ((w.hasHomed sensed).modCC fun c =>
      { c with held := c.held.map fun k => { k with seq := .toIdle } }).startCloseScan := by
  obtain ⟨h, hh, hret⟩ := Option.map_eq_some_iff.1 hr
  have hseq : h.seq = .toIdle := by
    rw [hh, Option.map_some, Option.some.injEq] at hq
    exact hq
  have hheld : (w.hasHomed sensed).cc.held = some h := hh
  have hcur : (w.hasHomed sensed).currentMove = none := by
    have : (w.hasHomed sensed).cc.current = none := hc
    rw [W.currentMove, this]
  have hs : w.cc.homingFor ≠ .continueScan := by
    rw [hf]
    nofun
  unfold W.homed
  refine (if_neg hs).trans ((if_pos hcl).trans ?_)
  change (w.hasHomed sensed).closeSettled sensed = _
  simp only [W.closeSettled, hheld, hcur, hret, hseq, decide_true, Bool.true_or, if_true]
  rfl

/-! ## A recorded cartridge placed in a storage slot (R8, R37) -/

theorem W.cart_isSome_becomeAbsent {w : W} {i : Nat} (j : Nat) (h : (w.cart i).isSome = true) :
    ((w.becomeAbsent j).cart i).isSome = true := by
  by_cases hij : i = j
  · subst hij
    obtain ⟨c, hc⟩ := Option.isSome_iff_exists.1 h
    by_cases hl : c.location = none
    · rw [W.becomeAbsent_of_absent (by rw [W.locationOf, hc, Option.bind_some, hl])]
      exact h
    · rw [W.cart_becomeAbsent_same hc hl]
      rfl
  · rwa [W.cart_becomeAbsent_other w hij]

theorem W.cart_isSome_modCart {w : W} {i : Nat} (j : Nat) (g : CartRec → CartRec) (h : (w.cart i).isSome = true) :
    ((w.modCart j g).cart i).isSome = true := by
  by_cases hij : i = j
  · subst hij
    rw [W.cart_modCart_map, Option.isSome_map]
    exact h
  · rwa [W.cart_modCart_other w g hij]

theorem W.cart_isSome_makeRoom {w : W} {i : Nat} (k : Option Nat) (e : Element) (h : (w.cart i).isSome = true) :
    ((w.makeRoom k e).cart i).isSome = true := by
  unfold W.makeRoom
  have h1 : ((match (w.slotAt e).holder with
      | some j => if some j ≠ k ∧ w.locationOf j = some e then w.becomeAbsent j else w
      | none => w).cart i).isSome = true := by
    split
    · split
      · exact W.cart_isSome_becomeAbsent _ h
      · exact h
    · exact h
  dsimp only
  split
  · split
    · exact h1
    · exact W.cart_isSome_modCart _ _ h1
  · exact h1

/-- Slot `n` is made free for a record, which leaves another home (R5, R8). -/
def W.roomFor (w : W) (i n : Nat) : W :=
  if (w.makeRoom (some i) (.slot n)).homeOf i = some n then w.makeRoom (some i) (.slot n)
  else (w.makeRoom (some i) (.slot n)).leaveHome i

theorem placed_slot_eq (w : W) (i n : Nat) : w.placed i (.slot n) =
    (((w.roomFor i n).putSlot (.slot n) { state := .occupied, holder := some i, reservedFor := none }).modCart i
      fun r => { r with location := some (.slot n), home := some n, homeMagazine := some (magazineOf n) }).wantDispatch := rfl

theorem W.cart_isSome_roomFor {w : W} {i : Nat} (n : Nat) (h : (w.cart i).isSome = true) :
    ((w.roomFor i n).cart i).isSome = true := by
  have hroom := W.cart_isSome_makeRoom (some i) (.slot n) h
  unfold W.roomFor
  split
  · exact hroom
  · rwa [W.cart_leaveHome]

@[simp] theorem W.roomFor_ambient (w : W) (i n : Nat) : (w.roomFor i n).ambient = w.ambient := by
  unfold W.roomFor
  split <;> simp

/-- A recorded cartridge placed in a slot: it is there, at home, and the slot OCCUPIED by it (R8). -/
theorem placed_slot {w : W} {i n : Nat} (hi : (w.cart i).isSome = true) (hn : n - 1 < w.ct.slots.length) :
    (w.placed i (.slot n)).locationOf i = some (.slot n) ∧ (w.placed i (.slot n)).homeOf i = some n ∧
      (w.placed i (.slot n)).slotAt (.slot n) = { state := .occupied, holder := some i, reservedFor := none } := by
  obtain ⟨c, hc⟩ := Option.isSome_iff_exists.1 (W.cart_isSome_roomFor n hi)
  have hlen : n - 1 < (w.roomFor i n).ct.slots.length := by
    rwa [W.slots_length_of_ambient (W.roomFor_ambient w i n)]
  rw [placed_slot_eq]
  refine ⟨?_, ?_, ?_⟩
  · rw [W.locationOf, W.cart_wantDispatch, W.cart_modCart_map, W.cart_putSlot, hc]
    rfl
  · rw [W.homeOf, W.cart_wantDispatch, W.cart_modCart_map, W.cart_putSlot, hc]
    rfl
  · rw [W.slotAt_wantDispatch, W.slotAt_modCart, W.slotAt_putSlot_same hlen]

theorem W.tableOnly_makeRoom (w : W) (k : Option Nat) (e : Element) : w.tableOnly (w.makeRoom k e) := by
  unfold W.makeRoom
  have h1 : w.tableOnly (match (w.slotAt e).holder with
      | some j => if some j ≠ k ∧ w.locationOf j = some e then w.becomeAbsent j else w
      | none => w) := by
    split
    · split
      · exact W.tableOnly_becomeAbsent w _
      · rfl
    · rfl
  dsimp only
  split
  · split
    · exact h1
    · exact h1.trans (W.tableOnly_makeHomeless _ _)
  · exact h1

theorem W.tableOnly.dispatch {w v : W} (h : w.tableOnly v) : w.tableOnly v.wantDispatch := h.trans rfl

theorem W.tableOnly.rehome {w v : W} (h : w.tableOnly v) : w.tableOnly v.wantRehome := h.trans rfl

theorem W.tableOnly_roomFor (w : W) (i n : Nat) : w.tableOnly (w.roomFor i n) := by
  unfold W.roomFor
  split
  · exact W.tableOnly_makeRoom w _ _
  · exact (W.tableOnly_makeRoom w _ _).trans (W.tableOnly_leaveHome _ i)

theorem W.tableOnly_placed (w : W) (i : Nat) (e : Element) : w.tableOnly (w.placed i e) := by
  cases e with
  | slot n =>
    rw [placed_slot_eq]
    exact ((W.tableOnly_roomFor w i n).trans ((W.tableOnly_putSlot _ _ _).trans (W.tableOnly_modCart _ i _))).dispatch
  | mail =>
    exact ((W.tableOnly_makeRoom w _ _).trans ((W.tableOnly_leaveHome _ i).trans
      ((W.tableOnly_putSlot _ _ _).trans (W.tableOnly_modCart _ i _)))).dispatch
  | drive d =>
    have h := (W.tableOnly_modCart w i fun r => { r with location := some (.drive d) }).dispatch
    unfold W.placed
    dsimp only
    split
    · exact h.rehome
    · exact h
  | picker => rfl

/-- A recorded cartridge placed at an element other than a drive: the picker is EMPTY, and the table is told (R8, R27). -/
theorem placeAt_cart {w : W} {i : Nat} {e : Element} (hp : w.cc.picker = .cart i) (he : ∀ d, e ≠ .drive d) :
    w.placeAt e = (w.withCC { w.cc with picker := .none, pickedFrom := none }).placed i e := by
  simp only [W.placeAt, hp]
  cases e with
  | slot | mail | picker => rfl
  | drive d => exact absurd rfl (he d)

/-- A move whose place has been completed at a storage slot (R27, R28). -/
theorem placeDone_slot {w : W} {m : Move} {i n : Nat} (hp : w.cc.picker = .cart i) (hi : (w.cart i).isSome = true)
    (hd : m.dest = some (.slot n)) (hn : n - 1 < w.ct.slots.length) :
    (w.placeDone m).cc.picker = .none ∧ (w.placeDone m).cc.closing = w.cc.closing ∧
      (w.placeDone m).locationOf i = some (.slot n) ∧
      (w.placeDone m).slotAt (.slot n) = { state := .occupied, holder := some i, reservedFor := none } := by
  have hcc := (W.tableOnly_placed (w.withCC { w.cc with picker := .none, pickedFrom := none }) i (.slot n)).cc
  obtain ⟨hloc, -, hslot⟩ := placed_slot (w := w.withCC { w.cc with picker := .none, pickedFrom := none }) hi hn
  unfold W.placeDone
  simp only [hd]
  rw [W.reportMoveEnd_eq, placeAt_cart hp (fun d h => Element.noConfusion h)]
  refine ⟨?_, ?_, hloc, hslot⟩
  · change ((w.withCC { w.cc with picker := .none, pickedFrom := none }).placed i (.slot n)).cc.picker = _
    rw [hcc]
    rfl
  · change ((w.withCC { w.cc with picker := .none, pickedFrom := none }).placed i (.slot n)).cc.closing = _
    rw [hcc]
    rfl

theorem W.endLost_closing (w : W) (m : Move) : (w.endLost m).cc.closing = w.cc.closing := by
  unfold W.endLost
  dsimp only
  rw [W.reportMoveEnd_eq]
  change w.declareLost.cc.closing = _
  rw [W.declareLost_cc]

theorem exec_spotCheckDone {s : State} (present : Bool) (hx : s.lib.cc.step = some .spotCheck)
    (ht : s.lib.cc.stepTimer.isSome = true) :
    exec (.spotCheckDone present) s = .next (s.putWork (s.work.spotChecked present)) :=
  congrArg (fun w => Host.Outcome.next (s.putWork w)) (if_pos (stepRuns_eq (w := s.work) hx ht))

/-- The answer of a move's spot check outside a close sequence (R37). -/
theorem spotChecked_move {w : W} {m : Move} (present : Bool) (hm : w.cc.current = some (.move m))
    (hc : (w.endStep.spotCheckedMove m present).cc.closing = false) :
    w.spotChecked present = (w.endStep.spotCheckedMove m present).goToRest := by
  have hcur : w.endStep.currentMove = some m := by
    have : w.endStep.cc.current = some (.move m) := hm
    rw [W.currentMove, this]
  simp only [W.spotChecked, hcur, hc]
  rfl

/-- Settles O33. -/
theorem theCloseSequenceSettlesAndScans : Obligations.TheCloseSequenceSettlesAndScans := by
  refine ⟨fun s sensed hx ht hcl hf hc hr hq hm => ?_, fun s present m i n c hx ht hcl hc hp hi hd h1 hn hres => ?_⟩
  · refine ⟨_, by rw [exec_homingComplete sensed hx ht, homed_closing (w := s.work) sensed hcl hf hc hr hq], ?_⟩
    exact startCloseScan_eq (w := (s.work.hasHomed sensed).modCC _) hc hm
  · have hlen : n - 1 < s.work.endStep.ct.slots.length := by
      change n - 1 < s.lib.ct.slots.length
      omega
    have hsome : (s.work.endStep.cart i).isSome = true := Option.isSome_iff_exists.2 ⟨c, hi⟩
    rw [exec_spotCheckDone present hx ht]
    cases present with
    | true =>
      obtain ⟨pp, pc, ploc, pslot⟩ := placeDone_slot (w := s.work.endStep) hp hsome hd hlen
      obtain ⟨rct, rcur, rp, -, -, -, -, rsig, -⟩ := (s.work.endStep.placeDone m).goToRest_keeps
      have e : s.work.spotChecked true = _ := spotChecked_move true hc (pc.trans hcl)
      rw [e]
      exact ⟨rfl, rp.trans pp, rcur, fun _ => ⟨(W.locationOf_of_ct rct i).trans ploc, (W.slotAt_of_ct rct _).trans pslot⟩, nofun⟩
    | false =>
      obtain ⟨lp, -, -, lsig, lloc⟩ := s.work.endStep.endLost_keeps m
      obtain ⟨rct, rcur, rp, -, -, -, -, rsig, -⟩ := (s.work.endStep.endLost m).goToRest_keeps
      have e : s.work.spotChecked false = _ := spotChecked_move false hc ((W.endLost_closing _ m).trans hcl)
      rw [e]
      exact ⟨rfl, rp.trans lp, rcur, nofun, fun _ => ⟨(W.locationOf_of_ct rct i).trans (lloc i hp), rsig ▸ lsig⟩⟩

end Sys2Proof.Machine

/-! PROOF. Scan results and rehoming (R9, R11, R13, R14, R40). -/

namespace Sys2Proof.Machine

/-! ## A scan step done (R40) -/

theorem findingOf_present {w : W} {n : Nat} (present : Bool) (reads : LabelReads)
    (h : w.magazinePresent (magazineOf n) = true) : findingOf w (.slot n) present reads =
      if present then .cartridge (w.labelBy reads) else .empty := by
  simp only [findingOf, h]
  rfl

theorem exec_scanSlotDone {s : State} (present : Bool) (reads : LabelReads) {n : Nat} {rest : List Element}
    (hx : s.lib.cc.step = some .scanStep) (ht : s.lib.cc.stepTimer.isSome = true)
    (hr : s.work.remainingSlots = .slot n :: rest) (hm : s.work.magazinePresent (magazineOf n) = true) :
    exec (.scanSlotDone present reads) s = .next (s.putWork
      (((s.work.scanResult (.slot n)
        (if present then .cartridge (s.work.labelBy reads) else .empty)).putRemaining rest).endStep).scanGoesOn) := by
  refine congrArg (fun w => Host.Outcome.next (s.putWork w)) ((if_pos (stepRuns_eq (w := s.work) hx ht)).trans ?_)
  simp only [hr, findingOf_present present reads hm]
  rfl

/-! ## What the table takes from a result (R13, R14) -/

theorem scanResult_empty {w : W} {n : Nat} (hh : (w.slotAt (.slot n)).holder = none)
    (hr : (w.slotAt (.slot n)).reservedFor = none) :
    w.scanResult (.slot n) .empty = (w.emptySlot (.slot n)).alsoReported [.slot n] := by
  simp only [W.scanResult, W.scanEmpty, hh, hr]
  rfl

/-- The cartridge that the table knows in the slot, read with its label (R13). -/
theorem scanResult_known {w : W} {n i : Nat} {c : CartRec} (hh : (w.slotAt (.slot n)).holder = some i)
    (hc : w.cart i = some c) (hl : c.location = some (.slot n)) :
    w.scanResult (.slot n) (.cartridge c.label) = { w with
      ct := { w.ct with
        slots := w.ct.slots.set (n - 1) { state := .occupied, holder := some i, reservedFor := none },
        carts := w.ct.carts.set i (some { c with lastSeen := w.ct.scanNumber }),
        scan := w.ct.scan.map fun t => { t with found := t.found + 1, reported := t.reported ++ [.slot n] } } } := by
  let v := w.modTally fun t => { t with found := t.found + 1 }
  have hloc : w.locationOf i = some (.slot n) := by rw [W.locationOf, hc, Option.bind_some, hl]
  have hlab : v.labelOf i = c.label := by
    rw [W.labelOf, show v.cart i = some c from hc, Option.bind_some]
  have hfilter : ((v.slotAt (.slot n)).holder.filter fun r => v.locationOf r = some (Element.slot n)) = some i := by
    rw [show (v.slotAt (.slot n)).holder = some i from hh]
    simp [show v.locationOf i = some (Element.slot n) from hloc]
  have hscan : w.scanCartridge (.slot n) c.label = (v.putSlot (.slot n)
      { state := .occupied, holder := some i, reservedFor := none }).modCart i fun r => { r with lastSeen := v.ct.scanNumber } := by
    unfold W.scanCartridge
    change (match ((v.slotAt (.slot n)).holder.filter fun r => v.locationOf r = some (Element.slot n)) with
      | some r => if v.labelOf r = c.label then _ else _
      | none => _) = _
    rw [hfilter]
    exact if_pos hlab
  have hput : (v.putSlot (.slot n) { state := .occupied, holder := some i, reservedFor := none }).cart i = some c := hc
  simp only [W.scanResult, hscan, W.modCart_eq hput]
  simp only [W.modTally, W.putCart, W.putSlot, v, Option.map_map]
  rfl

theorem W.cart_putCart_lt {w : W} {i : Nat} (h : i < w.ct.carts.length) (x : Option CartRec) : (w.putCart i x).cart i = x := by
  simp [W.cart, W.putCart, List.getD_eq_getElem?_getD, h]

/-- A new record for a cartridge found in a storage slot (R11, R13). -/
theorem scanCreate_slot {w : W} {n i : Nat} (label : Option Label) (state : MediaState) (duplicate : Bool)
    (ha : w.allocate = some i) (hi : i < w.ct.carts.length) :
    w.scanCreate (.slot n) label state duplicate = { w with
      ct := { w.ct with
        slots := w.ct.slots.set (n - 1) { state := .occupied, holder := some i, reservedFor := none },
        carts := w.ct.carts.set i (some (W.startRecord label (label.bind kindOfLabel) state (.slot n) (some n)
          w.ct.scanNumber duplicate)),
        scan := w.ct.scan.map fun t =>
          { t with created := t.created + 1, duplicates := t.duplicates + (if duplicate then 1 else 0) } },
      out := w.out ++ [.cartridgeState i label none (some state) .scanOrPassage], dispatchDue := true } := by
  have hput := W.cart_putCart_lt hi (some (W.startRecord label (label.bind kindOfLabel) state (.slot n) (some n)
    w.ct.scanNumber duplicate))
  simp only [W.scanCreate, ha]
  unfold W.scanPlace
  dsimp only
  rw [W.modCart_eq (by exact hput)]
  simp only [W.putCart, W.putSlot, W.modTally, W.note, W.wantDispatch, List.set_set]
  rfl

/-- A cartridge with a label that no record bears, in a slot with nothing known in it: it gets a record (R11, R13). -/
theorem scanResult_new {w : W} {n i : Nat} {l : Label} (hh : (w.slotAt (.slot n)).holder = none)
    (hr : (w.slotAt (.slot n)).reservedFor = none) (hl : w.cartByLabel l = none) (ha : w.allocate = some i)
    (hi : i < w.ct.carts.length) : w.scanResult (.slot n) (.cartridge (some l)) = { w with
      ct := { w.ct with
        slots := w.ct.slots.set (n - 1) { state := .occupied, holder := some i, reservedFor := none },
        carts := w.ct.carts.set i (some (W.startRecord (some l) (kindOfLabel l) (W.newState (kindOfLabel l)) (.slot n) (some n)
          w.ct.scanNumber false)),
        scan := w.ct.scan.map fun t =>
          { t with found := t.found + 1, created := t.created + 1, reported := t.reported ++ [.slot n] } },
      out := w.out ++ [.cartridgeState i (some l) none (some (W.newState (kindOfLabel l))) .scanOrPassage],
      dispatchDue := true } := by
  let v := w.modTally fun t => { t with found := t.found + 1 }
  have hident : w.scanCartridge (.slot n) (some l) = v.scanIdentify (.slot n) (some l) := by
    unfold W.scanCartridge
    change (match ((v.slotAt (.slot n)).holder.filter fun r => v.locationOf r = some (Element.slot n)) with
      | some r => _
      | none => match (v.slotAt (.slot n)).reservedFor with
        | some k => _
        | none => v.scanIdentify (.slot n) (some l)) = _
    rw [show (v.slotAt (.slot n)).holder = none from hh, show (v.slotAt (.slot n)).reservedFor = none from hr]
    rfl
  have hcreate : v.scanIdentify (.slot n) (some l) = v.scanCreate (.slot n) (some l) (W.newState (kindOfLabel l)) false := by
    simp only [W.scanIdentify, show v.cartByLabel l = none from hl]
  simp only [W.scanResult, hident, hcreate, scanCreate_slot (w := v) (some l) _ false ha hi]
  simp only [W.modTally, v, Option.map_map]
  rfl

/-- Settles O34. -/
theorem aScanReportsItsSlots : Obligations.AScanReportsItsSlots := by
  refine ⟨fun s present reads n rest hx ht hr hm => exec_scanSlotDone present reads hx ht hr hm, fun w n h => ?_,
    fun w n i c l hh hc hl he => ?_, fun w n i l hh hr hl ha hi => ?_⟩
  · rw [scanResult_empty (congrArg SlotRec.holder h) (congrArg SlotRec.reservedFor h)]
    rfl
  · subst he
    exact scanResult_known hh hc hl
  · rw [scanResult_new hh hr hl ha hi]
    cases kindOfLabel l with
    | none => rfl
    | some k => cases k <;> rfl

end Sys2Proof.Machine

/-! PROOF. Rehoming (R9). -/

namespace Sys2Proof.Machine

/-! ## The slot a homeless cartridge gets -/

theorem isHomeless_iff {w : W} {i : Nat} {c : CartRec} (h : w.cart i = some c) :
    w.isHomeless i = true ↔ c.home = none ∧ isAway c.location := by
  have hhome : c.home.isNone = true ↔ c.home = none := Option.isNone_iff_eq_none
  unfold W.isHomeless isAway
  rw [h]
  dsimp only
  rw [Bool.and_eq_true, hhome]
  refine and_congr_right fun _ => ?_
  cases c.location with
  | none => exact iff_of_false nofun (by rintro (h | ⟨d, h⟩) <;> cases h)
  | some e =>
    cases e with
    | slot | mail => exact iff_of_false nofun (by rintro (h | ⟨d, h⟩) <;> cases h)
    | drive d => exact iff_of_true rfl (.inr ⟨d, rfl⟩)
    | picker => exact iff_of_true rfl (.inl rfl)

theorem rehomeOne_of_not_homeless {w : W} {i : Nat} (h : ¬w.isHomeless i = true) : w.rehomeOne i = w := if_neg h

theorem rehomeOne_none {w : W} {i : Nat} {c : CartRec} (hc : w.cart i = some c) (hn : w.newHome c.homeMagazine = none) :
    w.rehomeOne i = w := by
  unfold W.rehomeOne
  split
  · rw [hc, Option.bind_some, hn]
  · rfl

/-- A homeless cartridge takes a slot: it is RESERVED for it, and the scheduler hears of it (R9). -/
theorem rehomeOne_some {w : W} {i n : Nat} {c : CartRec} (hc : w.cart i = some c) (hh : c.home = none)
    (ha : isAway c.location) (hn : w.newHome c.homeMagazine = some n) : w.rehomeOne i = { w with
      ct := { w.ct with
        slots := w.ct.slots.set (n - 1) { state := .reserved, holder := none, reservedFor := some i },
        carts := w.ct.carts.set i (some { c with home := some n, homeMagazine := some (magazineOf n) }) },
      signals := w.signals ++ [.homeGained i], dispatchDue := true } := by
  unfold W.rehomeOne
  rw [if_pos ((isHomeless_iff hc).2 ⟨hh, ha⟩), hc, Option.bind_some, hn]
  have hput : (w.putSlot (.slot n) { state := .reserved, holder := none, reservedFor := some i }).cart i = some c := hc
  dsimp only
  rw [W.modCart_eq hput]
  rfl

/-! ## No EMPTY slot is left beside a homeless cartridge -/

/-- No storage slot is EMPTY. -/
def W.noEmptySlot (w : W) : Prop := ∀ n, 1 ≤ n → n ≤ 40 → (w.slotAt (.slot n)).state ≠ .empty

theorem lowestEmptyIn_none {w : W} {m : Magazine} (h : w.lowestEmptyIn m = none) :
    ∀ n ∈ slotsOf m, (w.slotAt (.slot n)).state ≠ .empty := by
  intro n hn
  have := List.find?_eq_none.1 h n hn
  rwa [decide_eq_true_eq] at this

/-- A cartridge with a last home finds no new one only when no slot is EMPTY (R9). -/
theorem noEmptySlot_of_newHome {w : W} {m : Magazine} (h : w.newHome (some m) = none) : w.noEmptySlot := by
  obtain ⟨hm, ho⟩ := Option.or_eq_none_iff.1 h
  intro n h1 h40
  by_cases e : magazineOf n = m
  · exact lowestEmptyIn_none hm n ((mem_slotsOf m n).2 ⟨h1, h40, e⟩)
  · refine lowestEmptyIn_none ho n ((mem_slotsOf _ n).2 ⟨h1, h40, ?_⟩)
    revert e
    cases magazineOf n <;> cases m <;> simp [otherMagazine]

theorem slotAt_putSlot_cases (w : W) (n k : Nat) (r : SlotRec) :
    (w.putSlot (.slot n) r).slotAt (.slot k) = r ∨ (w.putSlot (.slot n) r).slotAt (.slot k) = w.slotAt (.slot k) := by
  by_cases h : k - 1 = n - 1
  · by_cases hlen : n - 1 < w.ct.slots.length
    · rw [W.slotAt_congr _ h]
      exact .inl (W.slotAt_putSlot_same hlen r)
    · right
      simp only [W.putSlot, List.set_eq_of_length_le (Nat.le_of_not_lt hlen)]
  · exact .inr (W.slotAt_putSlot_other w r h)

theorem rehomeOne_noEmptySlot {w : W} (i : Nat) (h : w.noEmptySlot) : (w.rehomeOne i).noEmptySlot := by
  intro n h1 h40
  unfold W.rehomeOne
  split
  · split
    next k _ =>
      rw [W.slotAt_wantDispatch, W.slotAt_emit, W.slotAt_modCart]
      rcases slotAt_putSlot_cases w k n { state := .reserved, holder := none, reservedFor := some i } with e | e
      · rw [e]
        nofun
      · rw [e]
        exact h n h1 h40
    · exact h n h1 h40
  · exact h n h1 h40

theorem rehomeOne_cart_other (w : W) {i k : Nat} (h : k ≠ i) : (w.rehomeOne i).cart k = w.cart k := by
  unfold W.rehomeOne
  split
  · split
    · rw [W.cart_wantDispatch, W.cart_emit, W.cart_modCart_other _ _ h, W.cart_putSlot]
    · rfl
  · rfl

theorem foldl_rehomeOne_noEmptySlot {w : W} (l : List Nat) (h : w.noEmptySlot) : (l.foldl W.rehomeOne w).noEmptySlot := by
  induction l generalizing w with
  | nil => exact h
  | cons i l ih => exact ih (rehomeOne_noEmptySlot i h)

theorem foldl_rehomeOne_cart_other (w : W) {k : Nat} (l : List Nat) (h : k ∉ l) : (l.foldl W.rehomeOne w).cart k = w.cart k := by
  induction l generalizing w with
  | nil => rfl
  | cons i l ih =>
    obtain ⟨hi, hl⟩ := not_or.1 (mt List.mem_cons.2 h)
    exact (ih _ hl).trans (rehomeOne_cart_other w hi)

/-- A cartridge that its turn in rehoming leaves homeless, with a last home, found no EMPTY slot. -/
theorem rehomeOne_leaves {w : W} {i : Nat} {c : CartRec} {m : Magazine} (hc : (w.rehomeOne i).cart i = some c)
    (hh : c.home = none) (ha : isAway c.location) (hm : c.homeMagazine = some m) : w.noEmptySlot := by
  cases hw : w.cart i with
  | none =>
    have : w.rehomeOne i = w := rehomeOne_of_not_homeless (by simp [W.isHomeless, hw])
    rw [this, hw] at hc
    cases hc
  | some b =>
    by_cases hb : b.home = none ∧ isAway b.location
    · cases hn : w.newHome b.homeMagazine with
      | none =>
        rw [rehomeOne_none hw hn, hw, Option.some.injEq] at hc
        subst hc
        rw [hm] at hn
        exact noEmptySlot_of_newHome hn
      | some n =>
        have hput : (w.rehomeOne i).cart i = (w.putCart i (some { b with home := some n, homeMagazine := some (magazineOf n) })).cart i := by
          rw [rehomeOne_some hw hb.1 hb.2 hn]
          rfl
        rw [hput, W.cart_putCart_same hw, Option.some.injEq] at hc
        subst hc
        cases hh
    · rw [rehomeOne_of_not_homeless (mt (isHomeless_iff hw).1 hb), hw, Option.some.injEq] at hc
      subst hc
      exact absurd ⟨hh, ha⟩ hb

theorem rehome_leaves_noEmptySlot {w : W} {i : Nat} {c : CartRec} {m : Magazine} (hi : i < 64)
    (hc : w.rehome.cart i = some c) (hh : c.home = none) (ha : isAway c.location) (hm : c.homeMagazine = some m) :
    w.rehome.noEmptySlot := by
  obtain ⟨l, k, hlk⟩ := List.append_of_mem (show i ∈ W.cartIndices from List.mem_range.2 hi)
  have hnd : (l ++ i :: k).Nodup := hlk ▸ List.nodup_range
  have hk : i ∉ k := (List.nodup_cons.1 (List.nodup_append.1 hnd).2.1).1
  have hre : w.rehome = k.foldl W.rehomeOne ((l.foldl W.rehomeOne w).rehomeOne i) := by
    rw [W.rehome, hlk, List.foldl_append, List.foldl_cons]
  rw [hre] at hc ⊢
  rw [foldl_rehomeOne_cart_other _ k hk] at hc
  exact foldl_rehomeOne_noEmptySlot k (rehomeOne_noEmptySlot i (rehomeOne_leaves hc hh ha hm))

/-! ## The obligation -/

theorem newHome_eq (w : W) (m : Option Magazine) : w.newHome m = match m with
    | some .left => (w.lowestEmptyIn .left).or (w.lowestEmptyIn .right)
    | some .right => (w.lowestEmptyIn .right).or (w.lowestEmptyIn .left)
    | none => w.lowestEmptyIn .left := by
  cases m with
  | none => rfl
  | some m => cases m <;> rfl

/-- A rehomed cartridge that waits in a drive, claimed by nobody, is returned (R67). -/
theorem takeSignal_homeGained {w : W} {i : Nat} {d : Drive} (hl : w.locationOf i = some (.drive d))
    (hd : (w.port d).state = .holding) (hc : w.claimOf i = none) (hr : i ∉ w.js.returning) :
    w.takeSignal (.homeGained i) = w.issueReturn d := by
  change w.returnRehomed i = _
  unfold W.returnRehomed
  rw [hl]
  simp [hd, hc, hr]

/-- Settles O35. -/
theorem homelessCartridgesAreRehomed : Obligations.HomelessCartridgesAreRehomed := by
  refine ⟨?_, fun w => rfl, ?_, ?_, fun w i d hl hd hc hr => takeSignal_homeGained hl hd hc hr⟩
  · intro w i c hc free chosen away
    have hchosen : chosen = w.newHome c.homeMagazine := (newHome_eq w c.homeMagazine).symm
    refine ⟨?_, ?_, ?_⟩
    · intro h
      refine rehomeOne_of_not_homeless fun hh => ?_
      obtain ⟨hn, ha⟩ := (isHomeless_iff hc).1 hh
      rcases h with h | h
      · rw [hn] at h
        cases h
      · exact h ha
    · exact fun _ _ hn => rehomeOne_none hc (hchosen ▸ hn)
    · exact fun n hh ha hn => rehomeOne_some hc hh ha (hchosen ▸ hn)
  · intro w hdue hscan
    unfold W.settleOnce
    rw [if_pos]
    simp [hdue, hscan]
  · exact fun w i c m hi _ hc hh ha hm => rehome_leaves_noEmptySlot hi hc hh ha hm

end Sys2Proof.Machine

/-! PROOF. What a drive port accepts and refuses (R50, R62). -/

namespace Sys2Proof.Machine

/-! ## A port's state changes, and an operation's start -/

/-- What a change of a port's state tells dispatch (R47). -/
def noticed (old s : PortState) : Bool := decide (old ≠ s ∧ (old.inFlight || old.isDown || s.isDown))

/-- A port written and then put in a state (R47, R65): leaving READY stops its idle-return timer. -/
theorem W.enterPort_put (w : W) (d : Drive) (p : Port) (s : PortState) : (w.putPort d p).enterPort d s =
    { w with
      ports := w.ports.put d { p with state := s },
      js := if p.state = .ready ∧ s ≠ .ready then (w.stopIdle d).js else w.js,
      dispatchDue := w.dispatchDue || noticed p.state s } := by
  have hp : (w.putPort d p).port d = p := W.port_putPort_same w d p
  have hm : (w.putPort d p).modPort d (fun q => { q with state := s }) = w.putPort d { p with state := s } := by
    unfold W.modPort
    rw [hp]
    simp only [W.putPort, Pair.put_put]
  unfold W.enterPort noticed
  rw [hm, hp]
  dsimp only
  by_cases ho : p.state = .ready ∧ s ≠ .ready
  · rw [if_pos ho, if_pos ho]
    split
    next h =>
      rw [decide_eq_true h, Bool.or_true]
      rfl
    next h =>
      rw [decide_eq_false h, Bool.or_false]
      rfl
  · rw [if_neg ho, if_neg ho]
    split
    next h =>
      rw [decide_eq_true h, Bool.or_true]
      rfl
    next h =>
      rw [decide_eq_false h, Bool.or_false]
      rfl

theorem W.enterPort_eq (w : W) (d : Drive) (s : PortState) : w.enterPort d s =
    { w with
      ports := w.ports.put d { w.port d with state := s },
      js := if (w.port d).state = .ready ∧ s ≠ .ready then (w.stopIdle d).js else w.js,
      dispatchDue := w.dispatchDue || noticed (w.port d).state s } := by
  have h := W.enterPort_put w d (w.port d) s
  have e : w.putPort d (w.port d) = w := by simp only [W.putPort, W.port, Pair.put_get]
  rwa [e] at h

theorem W.requestOp_started {w : W} {d : Drive} {op : PortOp} (r : Requester) (h : w.opRefusal d op = none)
    (hnot : ¬((w.port d).state = .holding ∧ op = .unload)) : w.requestOp d op r = ((w.modPort d fun p =>
      { p with pending := some { op := op, requester := r, timer := opTimer op },
               position := if op = .unload then none else (w.port d).position }).enterPort d (flightState op), true) := by
  unfold W.requestOp
  rw [h]
  dsimp only
  rw [if_neg hnot]
  cases op <;> rfl

theorem W.requestOp_accepted {w : W} {d : Drive} {op : PortOp} (r : Requester) (h : w.opRefusal d op = none)
    (hs : (w.port d).state = .ready) : w.requestOp d op r = ({ w with
      ports := w.ports.put d { w.port d with
        state := flightState op, pending := some { op := op, requester := r, timer := opTimer op },
        position := if op = .unload then none else (w.port d).position },
      js := { w.js with idle := w.js.idle.put d none, idlePending := w.js.idlePending.put d false } }, true) := by
  have hnot : ¬((w.port d).state = .holding ∧ op = .unload) := fun e => by
    rw [hs] at e
    cases e.1
  have away : flightState op ≠ .ready := by
    cases op <;> nofun
  have quiet : noticed .ready (flightState op) = false := by
    cases op <;> rfl
  rw [W.requestOp_started r h hnot, W.modPort, W.enterPort_put]
  dsimp only
  rw [hs, if_pos (⟨rfl, away⟩ : PortState.ready = .ready ∧ _), quiet, Bool.or_false]
  rfl

theorem W.requestOp_holding {w : W} {d : Drive} (r : Requester) (hs : (w.port d).state = .holding) :
    w.requestOp d .unload r = ({ w with
      ports := w.ports.put d { w.port d with lastResult := some .ok },
      signals := w.signals ++ [.opDone d r .unload .ok] }, true) := by
  have h : w.opRefusal d .unload = none := by simp [W.opRefusal, hs, PortState.inFlight]
  unfold W.requestOp
  rw [h]
  dsimp only
  rw [if_pos ⟨hs, rfl⟩]
  rfl

/-! ## What each state of a port refuses -/

theorem opRefusal_ready {w : W} {d : Drive} (hs : (w.port d).state = .ready) (op : PortOp) :
    w.opRefusal d op = w.readyRefusal d op := by
  unfold W.opRefusal
  dsimp only
  rw [hs]
  rfl

theorem opRefusal_inFlight {w : W} {d : Drive}
    (hs : (w.port d).state ∈ [PortState.loading, .active, .unloading, .cleaning]) (op : PortOp) :
    w.opRefusal d op = some .busy := by
  refine if_pos ?_
  simp only [List.mem_cons, List.not_mem_nil, or_false] at hs
  rcases hs with h | h | h | h <;> rw [h] <;> rfl

theorem opRefusal_notReady {w : W} {d : Drive} (hs : (w.port d).state ∈ [PortState.absent, .init, .empty, .faulted])
    (op : PortOp) : w.opRefusal d op = some .notReady := by
  unfold W.opRefusal
  dsimp only
  simp only [List.mem_cons, List.not_mem_nil, or_false] at hs
  rcases hs with h | h | h | h <;> rw [h] <;> rfl

theorem opRefusal_holding {w : W} {d : Drive} (hs : (w.port d).state = .holding) (op : PortOp) : w.opRefusal d op =
    if op = .unload ∨ (op = .load ∧ (w.port d).cartridge ≠ .untracked) then none else some .notReady := by
  unfold W.opRefusal
  dsimp only
  rw [hs]
  dsimp only [PortState.inFlight]
  cases op with
  | load => by_cases h : (w.port d).cartridge = .untracked <;> simp [h]
  | unload | locate | locateEnd | readBlock | probeRead | writeBlock | writeEndMark | clean => simp

theorem readyRefusal_recovered {w : W} {d : Drive} (hr : (w.port d).recovered = true) (op : PortOp) :
    w.readyRefusal d op = if op = .unload then none else some .notReady := by
  have hd : w.dataRefusal d = some .notReady := if_pos hr
  have hw (b : Nat) : w.writeRefusal d b = some .notReady := by
    unfold W.writeRefusal
    rw [hd]
  cases op <;> simp [W.readyRefusal, hr, hd, hw]

/-! ## What a port's position and cartridge refuse -/

/-- The operations that move data. -/
def movesData (op : PortOp) : Prop :=
  op ∈ [PortOp.readBlock .a, .readBlock .b, .probeRead .a, .probeRead .b, .writeBlock .a, .writeBlock .b, .writeEndMark]

/-- What refuses data refuses every operation that moves data. -/
theorem readyRefusal_data {w : W} {d : Drive} {why : PortRefusal} (h : w.dataRefusal d = some why) {op : PortOp}
    (hop : movesData op) : w.readyRefusal d op = some why := by
  have hw (b : Nat) : w.writeRefusal d b = some why := by
    unfold W.writeRefusal
    rw [h]
  simp only [movesData, List.mem_cons, List.not_mem_nil, or_false] at hop
  rcases hop with rfl | rfl | rfl | rfl | rfl | rfl | rfl
  case inl | inr.inl | inr.inr.inl | inr.inr.inr.inl => exact h
  all_goals exact hw _

theorem W.portKind_cart {w : W} {d : Drive} {i : Nat} {c : CartRec} (hp : (w.port d).cartridge = .cart i)
    (hc : w.cart i = some c) : w.portKind d = c.kind := by
  have hpc : w.portCart d = some i := by
    unfold W.portCart
    rw [hp]
  unfold W.portKind
  rw [hpc]
  simp [W.kindOf, hc]

theorem W.portCart_of_cart {w : W} {d : Drive} {i : Nat} (hp : (w.port d).cartridge = .cart i) : w.portCart d = some i := by
  unfold W.portCart
  rw [hp]

theorem W.portCart_eq_some_iff (w : W) (d : Drive) (i : Nat) : w.portCart d = some i ↔ (w.port d).cartridge = .cart i := by
  unfold W.portCart
  cases (w.port d).cartridge <;> simp

/-- The kind of the cartridge in a drive, where each record it may bear is of no data kind. -/
theorem W.portKind_noData {w : W} {d : Drive}
    (h : ∀ i c, (w.port d).cartridge = .cart i → w.cart i = some c → c.kind = none ∨ c.kind = some .clean) :
    isDataKind (w.portKind d) = false := by
  unfold W.portKind
  cases hp : w.portCart d with
  | none => rfl
  | some i =>
    rw [W.portCart_eq_some_iff] at hp
    cases hc : w.cart i with
    | none => simp [W.kindOf, hc, isDataKind]
    | some c => rcases h i c hp hc with hk | hk <;> simp [W.kindOf, hc, hk, isDataKind]

theorem dataRefusal_none {w : W} {d : Drive} {n : Nat} (hr : (w.port d).recovered = false)
    (hn : (w.port d).position = some n) (hk : isDataKind (w.portKind d) = true) : w.dataRefusal d = none := by
  simp [W.dataRefusal, hr, hn, hk]

theorem writeRefusal_eq {w : W} {d : Drive} {i n : Nat} {c : CartRec} (hd : w.dataRefusal d = none)
    (hp : (w.port d).cartridge = .cart i) (hc : w.cart i = some c) (hn : (w.port d).position = some n) (bound : Nat) :
    w.writeRefusal d bound =
      if c.writeProtect = .no then if n ≤ bound then none else some .pastThreshold else some .protected_ := by
  unfold W.writeRefusal
  rw [hd, W.portCart_of_cart hp, hn]
  by_cases h : c.writeProtect = .no <;> simp [hc, h]

/-- The early-warning threshold and the capacity of a data kind (R145). -/
theorem thresholdOf_data {k : CartKind} (hk : k ≠ .clean) : thresholdOf (some k) = (if k = .a then 2460938 else 5906250) ∧
    capacityOf (some k) = if k = .a then 2500000 else 6000000 := by
  cases k with
  | a | b => exact ⟨rfl, rfl⟩
  | clean => exact absurd rfl hk

/-- Settles O39. -/
theorem operationsAreAcceptedOrRefused : Obligations.OperationsAreAcceptedOrRefused := by
  intro w d r p
  refine ⟨fun op why h => W.requestOp_refused r h, ?_, W.requestOp_holding r, ?_, ?_, ?_, ?_,
    opRefusal_holding, opRefusal_inFlight, opRefusal_notReady⟩
  · intro op h hs hu
    rw [W.requestOp_accepted r h hs, if_neg hu]
  · intro i c k n hs hr hp hc hk hkc hn t
    have hkind : w.portKind d = some k := (W.portKind_cart hp hc).trans hk
    have hdata : w.dataRefusal d = none := dataRefusal_none hr hn (by
      rw [hkind]
      cases k with
      | a | b => rfl
      | clean => exact absurd rfl hkc)
    obtain ⟨ht, hcap⟩ := thresholdOf_data hkc
    refine ⟨fun buf => ?_, fun buf => ?_, ?_, fun b => ?_⟩ <;> rw [opRefusal_ready hs]
    · exact hdata
    · exact (writeRefusal_eq hdata hp hc hn _).trans (by rw [hkind, ht])
    · exact (writeRefusal_eq hdata hp hc hn _).trans (by rw [hkind, ht])
    · have hr' : (w.port d).recovered = false := hr
      simp only [W.readyRefusal, hr', hkind, hcap, Bool.false_eq_true, if_false]
      by_cases hb : b ≤ if k = .a then 2500000 else 6000000
      · rw [if_pos hb, if_neg (Nat.not_lt.2 hb)]
      · rw [if_neg hb, if_pos (Nat.lt_of_not_le hb)]
  · intro hs hr op
    rw [opRefusal_ready hs, readyRefusal_recovered hr]
  · intro op hs hr hop
    have hr' : (w.port d).recovered = false := hr
    rw [opRefusal_ready hs]
    refine ⟨fun hn => readyRefusal_data ?_ hop, fun hn hkind => readyRefusal_data ?_ hop⟩
    · have hn' : (w.port d).position = none := hn
      simp [W.dataRefusal, hr', hn']
    · obtain ⟨n, hn'⟩ := Option.isSome_iff_exists.1 hn
      have hn'' : (w.port d).position = some n := hn'
      simp [W.dataRefusal, hr', hn'', W.portKind_noData hkind]
  · intro hs hr
    have hr' : (w.port d).recovered = false := hr
    simp only [opRefusal_ready hs]
    refine ⟨by simp [W.readyRefusal, hr'], rfl, rfl, fun i c hp hc => ?_⟩
    simp [W.readyRefusal, hr', W.portKind_cart hp hc]

end Sys2Proof.Machine

/-! PROOF. RETEST DRIVE, UNLOAD DRIVE and the idle return (R63, R65 to R67). -/

namespace Sys2Proof.Machine

/-! ## RETEST DRIVE (R63) -/

theorem driveOfByte_of_mem {n : Byte} {d : Drive} (h : (n, d) ∈ [(65#8, Drive.d0), (66#8, .d1)]) :
    driveOfByte n.toNat = some d := by
  simp only [List.mem_cons, Prod.mk.injEq, List.not_mem_nil, or_false] at h
  rcases h with ⟨rfl, rfl⟩ | ⟨rfl, rfl⟩ <;> rfl

theorem driveOfByte_unknown {n : Byte} (h65 : n ≠ 65#8) (h66 : n ≠ 66#8) : driveOfByte n.toNat = none := by
  have a : n.toNat ≠ 65 := mt (byte_eq_iff n (by omega)).1 h65
  have b : n.toNat ≠ 66 := mt (byte_eq_iff n (by omega)).1 h66
  simp only [driveOfByte, if_neg a, if_neg b]

theorem mem_inFlight_iff (s : PortState) :
    s ∈ [PortState.loading, .active, .unloading, .cleaning] ↔ s.inFlight = true := by
  cases s <;> simp [PortState.inFlight]

/-- A port that enters INIT: dispatch sees it unless it was there (R47, R62). -/
theorem enterInit_retest (w : W) (d : Drive) :
    ((w.stopIdle d).modPort d fun q => { q with recovered := false }).enterInit d false = { w with
      ports := w.ports.put d { w.port d with
        state := .init, position := none, selfTest := some 180, recovered := false },
      js := { w.js with idle := w.js.idle.put d none, idlePending := w.js.idlePending.put d false },
      dispatchDue := w.dispatchDue || decide ((w.port d).state ≠ .init) } := by
  have hput : ∀ p q : Port, ((w.stopIdle d).putPort d p).putPort d q = (w.stopIdle d).putPort d q := by
    intro p q
    simp only [W.putPort, Pair.put_put]
  have hn : noticed (w.port d).state .init = decide ((w.port d).state ≠ .init) := by
    unfold noticed
    simp [PortState.isDown]
  have hjs : (if (w.port d).state = .ready ∧ PortState.init ≠ .ready then ((w.stopIdle d).stopIdle d).js
      else (w.stopIdle d).js) = (w.stopIdle d).js := by
    split
    · simp [W.stopIdle]
    · rfl
  unfold W.enterInit W.modPort
  rw [W.port_putPort_same, hput, W.enterPort_put]
  have hp : (w.stopIdle d).port d = w.port d := rfl
  dsimp only
  rw [hp, hn, hjs]
  rfl

theorem exec_retestDrive {s : State} {f : RequestFrame} {n : Byte} (h : s.requests f 0x28 [n]) :
    exec .retestDrive s = .next (s.replying f (ownRetestDrive s.work [n])) :=
  State.ask_eq h (acceptedIn_of_not_refused _ rfl) rfl

theorem ownRetestDrive_eq (w : W) (n : Byte) : ownRetestDrive w [n] = match driveOfByte n.toNat with
    | none => refuse w .noSuchElement
    | some d =>
      if (w.port d).state.inFlight ∨ ((w.port d).state = .init ∧ (w.port d).selfTest.isSome = true) then refuse w .busy
      else if (w.port d).state = .absent then refuse w .wrongState
      else if driveTaken w d then refuse w .claimed
      else answer (((w.stopIdle d).modPort d fun q => { q with recovered := false }).enterInit d false) .empty := by
  unfold ownRetestDrive
  rw [fieldsOf_one] <;> rfl

/-! ## UNLOAD DRIVE (R67) -/

theorem exec_unloadDrive {s : State} {f : RequestFrame} {n home : Byte} (h : s.requests f 0x29 [n, home])
    (hm : s.lib.mode ≠ .secured) : exec .unloadDrive s = .next (s.replying f (ownUnloadDrive s.work [n, home])) :=
  State.ask_eq h (acceptedIn_of_ne _ hm) rfl

theorem ownUnloadDrive_unknown (w : W) {n home : Byte} (h : driveOfByte n.toNat = none) :
    ownUnloadDrive w [n, home] = refuse w .noSuchElement := by
  simp only [ownUnloadDrive, fieldsOf_two_zero, h]

theorem ownUnloadDrive_eq {w : W} {n home : Byte} {d : Drive} (h : driveOfByte n.toNat = some d) :
    ownUnloadDrive w [n, home] =
      if 1 < home.toNat then refuse w .badArgument
      else if driveTaken w d then refuse w .claimed
      else if (w.port d).state.inFlight then refuse w .busy
      else if (w.port d).state ≠ .ready ∧ (w.port d).state ≠ .holding then refuse w .wrongState
      else if decide (home.toNat = 1) = true ∧ ((w.portCart d).bind w.homeOf).isNone = true then refuse w .wrongState
      else answer (unloadAccepted w d (decide (home.toNat = 1))) .empty := by
  simp only [ownUnloadDrive, fieldsOf_two_zero, fieldsOf_two_one, h]

/-- The cartridge in a drive, if it has a record, has no home. -/
theorem homeless_iff (w : W) (d : Drive) : ((w.portCart d).bind w.homeOf).isNone = true ↔
    ∀ i, (w.port d).cartridge = .cart i → w.homeOf i = none := by
  simp only [Option.isNone_iff_eq_none, Option.bind_eq_none_iff, W.portCart_eq_some_iff]

/-- An Unload begins in a port that is READY and stops its idle-return timer. -/
theorem askOp_unload_ready {w : W} {d : Drive} (r : Requester) (hs : (w.port d).state = .ready) :
    (w.stopIdle d).askOp d .unload r = { w with
      ports := w.ports.put d { w.port d with
        state := .unloading, position := none, pending := some { op := .unload, requester := r, timer := 120 } },
      js := { w.js with idle := w.js.idle.put d none, idlePending := w.js.idlePending.put d false } } := by
  have hs' : ((w.stopIdle d).port d).state = .ready := hs
  unfold W.askOp
  rw [W.requestOp_accepted r ((opRefusal_ready hs' .unload).trans rfl) hs']
  simp only [W.stopIdle, Pair.put_put]
  rfl

theorem issueMove_queued {w : W} (origin : Origin) (source : Element) (asked : Dest) (i : Nat) (hh : w.js.heldMoves = [])
    (hroom : (w.cc.queue.filter fun k => k.origin ≠ .recovery).length < 8) :
    (w.issueMove origin source asked (some i)).1 = { w with
      js := { w.js with nextTicket := w.js.nextTicket + 1 },
      cc := { w.cc with
        nextId := if w.cc.nextId = 65535 then 1 else w.cc.nextId + 1,
        queue := w.cc.queue ++
          [{ id := w.cc.nextId, origin := origin, source := source, asked := asked, dest := none,
             expectedLabel := w.labelOf i, attempts := 0, faulted := false, putAway := none, tried := [],
             ticket := w.js.nextTicket, cart := some i }] } } := by
  unfold W.issueMove
  dsimp only
  rw [if_pos hh, W.queueMove_eq, if_neg (Nat.not_le.2 hroom)]
  rfl

theorem W.markReturning_twice (w : W) (i : Nat) : (w.markReturning i).markReturning i = w.markReturning i := by
  have h : (w.markReturning i).js.returning.contains i = true := by
    unfold W.markReturning
    dsimp only
    split
    next h => exact h
    next => simp
  unfold W.markReturning at h ⊢
  rw [if_pos h]

/-- The cartridge of a drive in HOLDING gets its RETURN move (R66). -/
theorem issueReturn_queued {w : W} {d : Drive} {i k : Nat} (hi : (w.port d).cartridge = .cart i) (hk : w.homeOf i = some k)
    (hh : w.js.heldMoves = []) (hroom : (w.cc.queue.filter fun k => k.origin ≠ .recovery).length < 8) :
    w.issueReturn d = { w with
      js := { w.js with
        returning := if w.js.returning.contains i then w.js.returning else w.js.returning ++ [i],
        nextTicket := w.js.nextTicket + 1 },
      cc := { w.cc with
        nextId := if w.cc.nextId = 65535 then 1 else w.cc.nextId + 1,
        queue := w.cc.queue ++
          [{ id := w.cc.nextId, origin := .returned, source := .drive d, asked := .home, dest := none,
             expectedLabel := w.labelOf i, attempts := 0, faulted := false, putAway := none, tried := [],
             ticket := w.js.nextTicket, cart := some i }] } } := by
  have hc : w.portCart d = some i := W.portCart_of_cart hi
  have hs : (w.homeOf i).isSome = true := by rw [hk]; rfl
  unfold W.issueReturn
  rw [hc]
  dsimp only
  rw [if_pos hs]
  exact issueMove_queued (w := w.markReturning i) .returned (.drive d) .home i hh hroom

/-! ## The idle return (R65, R66) -/

theorem idleExpires_online {w : W} {d : Drive} (ho : w.mode = .online) (hs : (w.port d).state = .ready) :
    w.idleExpires d = w.idleUnload d := by
  unfold W.idleExpires
  rw [if_pos ho, if_pos hs]
  cases hp : (w.port d).cartridge with
  | cart i =>
    have hc : w.portCart d = some i := W.portCart_of_cart hp
    have hs' : ((w.markReturning i).port d).state = .ready := hs
    simp only [hc]
    have hp' : ((w.markReturning i).port d).cartridge = .cart i := hp
    refine (askOp_unload_ready (w := w.markReturning i) .idleReturn hs').trans ?_
    simp only [W.idleUnload, hp, hp']
    rfl
  | none | untracked =>
    have hc : w.portCart d = none := by
      unfold W.portCart
      rw [hp]
    simp only [hc]
    refine (askOp_unload_ready .idleReturn hs).trans ?_
    simp only [W.idleUnload, hp]

theorem idleExpires_offline {w : W} {d : Drive} (ho : w.mode ≠ .online) : w.idleExpires d =
    { w with js := { w.js with idle := w.js.idle.put d none, idlePending := w.js.idlePending.put d true } } := by
  unfold W.idleExpires
  rw [if_neg ho]
  simp only [W.stopIdle, Pair.put_put]

/-! ## The obligation -/

theorem retest_settles (s : State) (f : RequestFrame) (n : Byte) (h : s.requests f 0x28 [n]) (d : Drive)
    (hd : (n, d) ∈ [(65#8, Drive.d0), (66#8, .d1)]) :
    let p := s.work.port d
    exec .retestDrive s = .next (
      if p.state ∈ [PortState.loading, .active, .unloading, .cleaning] ∨ (p.state = .init ∧ p.selfTest.isSome = true)
      then s.turnedDown f .busy .empty
      else if p.state = .absent then s.turnedDown f .wrongState .empty
      else if driveTaken s.work d then s.turnedDown f .claimed .empty
      else s.answered f { s.work with
        ports := s.lib.ports.put d
          { p with state := .init, position := none, selfTest := some 180, recovered := false },
        js := { s.lib.js with
          idle := s.lib.js.idle.put d none, idlePending := s.lib.js.idlePending.put d false },
        dispatchDue := s.lib.dispatchDue || decide (p.state ≠ .init) } .empty) := by
  intro p
  rw [exec_retestDrive h, ownRetestDrive_eq, driveOfByte_of_mem hd]
  refine congrArg Host.Outcome.next ?_
  dsimp only
  rw [State.replying_ite, State.replying_ite, State.replying_ite, enterInit_retest]
  exact if_congr (or_congr_left (mem_inFlight_iff _).symm) (State.replying_refuse _ _ _ nofun)
    (if_congr Iff.rfl (State.replying_refuse _ _ _ nofun) (if_congr Iff.rfl (State.replying_refuse _ _ _ nofun) rfl))

/-- UNLOAD DRIVE of a drive that no job has: every check and what is done (R67). -/
theorem unload_settles (s : State) (f : RequestFrame) (n home : Byte) (h : s.requests f 0x29 [n, home])
    (hm : s.lib.mode ≠ .secured) (d : Drive) (hd : (n, d) ∈ [(65#8, Drive.d0), (66#8, .d1)]) (hhome : home.toNat ≤ 1)
    (ht : driveTaken s.work d = false) :
    exec .unloadDrive s = .next (s.replying f (
      if (s.work.port d).state.inFlight then refuse s.work .busy
      else if (s.work.port d).state ≠ .ready ∧ (s.work.port d).state ≠ .holding then refuse s.work .wrongState
      else if decide (home.toNat = 1) = true ∧ ((s.work.portCart d).bind s.work.homeOf).isNone = true then
        refuse s.work .wrongState
      else answer (unloadAccepted s.work d (decide (home.toNat = 1))) .empty)) := by
  rw [exec_unloadDrive h hm, ownUnloadDrive_eq (driveOfByte_of_mem hd), if_neg (Nat.not_lt.2 hhome), ht]
  rfl

/-- UNLOAD DRIVE accepted, from READY or HOLDING and with a home to go to when one is asked for. -/
theorem unload_accepts {s : State} {f : RequestFrame} {n home : Byte} (h : s.requests f 0x29 [n, home])
    (hm : s.lib.mode ≠ .secured) {d : Drive} (hd : (n, d) ∈ [(65#8, Drive.d0), (66#8, .d1)]) (hhome : home.toNat ≤ 1)
    (ht : driveTaken s.work d = false) (hs : (s.work.port d).state = .ready ∨ (s.work.port d).state = .holding)
    (hgo : home.toNat = 1 → ∃ i k, (s.work.port d).cartridge = .cart i ∧ s.work.homeOf i = some k) :
    exec .unloadDrive s = .next (s.answered f (unloadAccepted s.work d (decide (home.toNat = 1))) .empty) := by
  have hf : ¬(s.work.port d).state.inFlight = true := by
    rcases hs with e | e <;> rw [e] <;> nofun
  have hw : ¬((s.work.port d).state ≠ .ready ∧ (s.work.port d).state ≠ .holding) := fun e => hs.elim e.1 e.2
  have hg : ¬(decide (home.toNat = 1) = true ∧ ((s.work.portCart d).bind s.work.homeOf).isNone = true) := by
    rintro ⟨e, hn⟩
    obtain ⟨i, k, hi, hk⟩ := hgo (of_decide_eq_true e)
    rw [(homeless_iff s.work d).1 hn i hi] at hk
    cases hk
  rw [unload_settles s f n home h hm d hd hhome ht, if_neg hf, if_neg hw, if_neg hg]
  rfl

/-- Settles O36. -/
theorem drivesAreRetestedAndUnloaded : Obligations.DrivesAreRetestedAndUnloaded := by
  refine ⟨⟨fun s f n h => ⟨fun h65 h66 => ?_, retest_settles s f n h⟩, fun s f n home h hm => ⟨fun h65 h66 => ?_, ?_⟩⟩,
    fun s d ht => ⟨fun ho hs => ?_, fun ho => ?_⟩, fun s d hp => ⟨fun ho hs => ?_, fun ho => ?_⟩⟩
  · rw [exec_retestDrive h, ownRetestDrive_eq, driveOfByte_unknown h65 h66]
    exact congrArg _ (State.replying_refuse _ _ _ nofun)
  · rw [exec_unloadDrive h hm, ownUnloadDrive_unknown _ (driveOfByte_unknown h65 h66)]
    exact congrArg _ (State.replying_refuse _ _ _ nofun)
  · intro d hd p homeless
    refine ⟨fun hb => ?_, fun hb ht => ?_, fun hb ht => ⟨fun hf => ?_, ?_, fun h0 hs => ?_, fun h0 hs => ?_, ?_⟩⟩
    · rw [exec_unloadDrive h hm, ownUnloadDrive_eq (driveOfByte_of_mem hd), if_pos hb]
      exact congrArg _ (State.replying_refuse _ _ _ nofun)
    · rw [exec_unloadDrive h hm, ownUnloadDrive_eq (driveOfByte_of_mem hd), if_neg (Nat.not_lt.2 hb), if_pos ht]
      exact congrArg _ (State.replying_refuse _ _ _ nofun)
    · rw [unload_settles s f n home h hm d hd hb ht, if_pos ((mem_inFlight_iff _).1 hf)]
      exact congrArg _ (State.replying_refuse _ _ _ nofun)
    · intro hw
      rw [unload_settles s f n home h hm d hd hb ht]
      have refused : ∀ a : Answer, a = refuse s.work .wrongState →
          Host.Outcome.next (s.replying f a) = (.next (s.turnedDown f .wrongState .empty) : Host.Outcome State Fault Refusal) := by
        rintro _ rfl
        exact congrArg _ (State.replying_refuse _ _ _ nofun)
      refine refused _ ?_
      rcases hw with hw | ⟨h1, hs, hl⟩
      · simp only [List.mem_cons, List.not_mem_nil, or_false] at hw
        rcases hw with e | e | e | e <;> (rw [show (s.work.port d).state = _ from e]; simp [PortState.inFlight])
      · have hh : decide (home.toNat = 1) = true ∧ ((s.work.portCart d).bind s.work.homeOf).isNone = true :=
          ⟨by rw [h1]; rfl, (homeless_iff s.work d).2 hl⟩
        rcases hs with e | e <;> (rw [show (s.work.port d).state = _ from e, if_pos hh]; simp [PortState.inFlight])
    · subst h0
      rw [unload_accepts h hm hd hb ht (.inl hs) nofun]
      refine congrArg (fun w => Host.Outcome.next (s.answered f w .empty)) ?_
      refine (if_pos hs).trans (askOp_unload_ready (w := s.work) (.host false) hs)
    · subst h0
      rw [unload_accepts h hm hd hb ht (.inr hs) nofun]
      refine congrArg (fun w => Host.Outcome.next (s.answered f w .empty)) ?_
      refine if_neg fun e => ?_
      rw [hs] at e
      cases e
    · intro i k h1 hi hk returning
      subst h1
      have hc : s.work.portCart d = some i := W.portCart_of_cart hi
      refine ⟨fun hs => ?_, fun hs hheld hroom => ?_⟩
      · rw [unload_accepts h hm hd hb ht (.inl hs) fun _ => ⟨i, k, hi, hk⟩]
        refine congrArg (fun w => Host.Outcome.next (s.answered f w .empty)) ?_
        unfold unloadAccepted
        rw [if_pos hs, hc]
        exact askOp_unload_ready (w := s.work.markReturning i) (.host true) hs
      · rw [unload_accepts h hm hd hb ht (.inr hs) fun _ => ⟨i, k, hi, hk⟩]
        refine congrArg (fun w => Host.Outcome.next (s.answered f w .empty)) ?_
        have hnr : (s.work.port d).state ≠ .ready := fun e => by
          rw [hs] at e
          cases e
        unfold unloadAccepted
        rw [if_neg hnr, hc]
        refine (issueReturn_queued (w := s.work.markReturning i) hi hk hheld hroom).trans ?_
        have htwice := congrArg (fun w => w.js.returning) (s.work.markReturning_twice i)
        have hret : (if (s.work.markReturning i).js.returning.contains i then (s.work.markReturning i).js.returning
          else (s.work.markReturning i).js.returning ++ [i]) = (s.work.markReturning i).js.returning := htwice
        rw [hret]
        rfl
  · exact congrArg (fun w => Host.Outcome.next (s.putWork w)) ((if_pos ht).trans (idleExpires_online ho hs))
  · exact congrArg (fun w => Host.Outcome.next (s.putWork w)) ((if_pos ht).trans (idleExpires_offline ho))
  · exact congrArg (fun w => Host.Outcome.next (s.putWork w)) ((if_pos ⟨ho, hp⟩).trans (idleExpires_online ho hs))
  · exact congrArg (fun w => Host.Outcome.next (s.putWork w)) (if_neg fun e => ho e.1)

end Sys2Proof.Machine

/-! PROOF. How an operation at a drive port ends (R51 to R60, R64). -/

namespace Sys2Proof.Machine

@[simp] theorem W.putPort_putPort (w : W) (d : Drive) (p q : Port) : (w.putPort d p).putPort d q = w.putPort d q := by
  simp only [W.putPort, Pair.put_put]

theorem W.modPort_putPort (w : W) (d : Drive) (p : Port) (g : Port → Port) :
    (w.putPort d p).modPort d g = w.putPort d (g p) := by
  unfold W.modPort
  rw [W.port_putPort_same, W.putPort_putPort]

theorem W.putPort_port (w : W) (d : Drive) : w.putPort d (w.port d) = w := by
  simp only [W.putPort, W.port, Pair.put_get]

/-! ## A clean request carried on a completion (R64) -/

theorem takeCleanRequest_put (w : W) (d : Drive) (p : Port) (asked : Bool) :
    (w.putPort d p).takeCleanRequest d asked =
      { w with
        ports := w.ports.put d { p with cleanRequest := p.cleanRequest || asked },
        signals := w.signals ++ (if asked && !p.cleanRequest then [.cleanAsked d] else []),
        out := w.out ++ (if asked && !p.cleanRequest then [.cleaningNeeded d] else []) } := by
  unfold W.takeCleanRequest
  rw [W.port_putPort_same, W.modPort_putPort]
  cases asked with
  | false => simp [W.putPort]
  | true =>
    cases hc : p.cleanRequest with
    | false => rfl
    | true =>
      obtain ⟨⟩ := p
      cases hc
      simp [W.putPort]

/-! ## The two ends of an operation -/

theorem flightState_inFlight (op : PortOp) : (flightState op).inFlight = true := by
  cases op <;> rfl

theorem noticed_of_inFlight {old s : PortState} (hi : old.inFlight = true) (hs : s.inFlight = false) :
    noticed old s = true := by
  have hne : old ≠ s := by
    rintro rfl
    rw [hi] at hs
    cases hs
  exact decide_eq_true ⟨hne, by rw [hi]; rfl⟩

theorem ne_ready_of_inFlight {old : PortState} (hi : old.inFlight = true) : old ≠ .ready := by
  rintro rfl
  cases hi

/-- An operation ends at a port with the fields of `p`, in the state and at the position given (R51). -/
theorem endOp_completed (w : W) (d : Drive) {p : Port} {q : PendingOp} (r : OpOutcome) {s : PortState}
    (n : Option Nat) (asked : Bool) (hp : p.pending = some q) (hr : p.resetting = false) (hf : p.state = flightState q.op)
    (hs : s.inFlight = false) : (w.putPort d p).endOp d r (s, n) none asked =
      w.completed d q { p with state := s, position := n } r asked := by
  have hi : p.state.inFlight = true := by rw [hf, flightState_inFlight]
  unfold W.endOp
  rw [W.port_putPort_same, hp]
  dsimp only
  rw [W.modPort_putPort, W.modPort_putPort, W.enterPort_put, hr]
  dsimp only
  rw [noticed_of_inFlight hi hs, Bool.or_true,
    if_neg (fun e => ne_ready_of_inFlight hi e.1 : ¬(p.state = .ready ∧ s ≠ .ready))]
  refine (congrArg (fun v => W.emit v (.idleCheck d)) (takeCleanRequest_put
    { w with dispatchDue := true, signals := w.signals ++ [.opDone d q.requester q.op r] } d _ asked)).trans ?_
  rfl

/-- An operation that nothing was changed for before its end. -/
theorem endOp_completes {w : W} {d : Drive} {q : PendingOp} (r : OpOutcome) {s : PortState} (n : Option Nat)
    (asked : Bool) (hp : (w.port d).pending = some q) (hr : (w.port d).resetting = false)
    (hf : (w.port d).state = flightState q.op) (hs : s.inFlight = false) :
    w.endOp d r (s, n) none asked = w.completed d q { w.port d with state := s, position := n } r asked := by
  have h := endOp_completed w d r n asked hp hr hf hs
  rwa [W.putPort_port] at h

/-- An operation ends in FAULTED, its reason latched (R47, R51, R60). -/
theorem endOp_faults {w : W} {d : Drive} {q : PendingOp} (r : OpOutcome) (after : PortState × Option Nat)
    (reason : DriveReason) (asked : Bool) (hp : (w.port d).pending = some q) (hr : (w.port d).resetting = false)
    (hf : (w.port d).state = flightState q.op) :
    w.endOp d r after (some reason) asked = w.faultedBy d q reason r asked := by
  have hi : (w.port d).state.inFlight = true := by rw [hf, flightState_inFlight]
  have hn : noticed (w.port d).state .faulted = true := noticed_of_inFlight hi rfl
  have hfault : (w.putPort d { w.port d with lastResult := some r.result }).portFaults d reason =
      ({ w with
        ports := w.ports.put d { w.port d with
          state := .faulted, faultReason := some reason, position := none, pending := none, resetting := false,
          lastResult := some r.result },
        dispatchDue := true },
       .driveFault d (w.port d).state .faulted (some reason) (w.contentsRef (w.port d).cartridge) (w.port d).position) := by
    unfold W.portFaults
    rw [W.port_putPort_same, W.modPort_putPort, W.enterPort_put]
    dsimp only
    rw [hn, Bool.or_true,
      if_neg (fun e => ne_ready_of_inFlight hi e.1 : ¬((w.port d).state = .ready ∧ PortState.faulted ≠ .ready))]
    refine Prod.ext rfl ?_
    simp [W.faultNotice, W.port, W.contentsRef_eq]
  unfold W.endOp
  rw [hp]
  dsimp only
  rw [W.modPort, hfault, hr]
  dsimp only
  refine (congrArg (fun v => W.emit v (.idleCheck d)) (takeCleanRequest_put
    { w with dispatchDue := true, signals := (w.signals ++ [.opDone d q.requester q.op r]) ++ [.notice _] ++ [.portDown d] } d _
      asked)).trans ?_
  unfold W.faultedBy W.emit
  dsimp only
  rw [hr]
  simp only [List.append_assoc, List.cons_append, List.nil_append]

/-! ## The completions -/

/-- An operation is in flight at a port that is not in its reset sequence. -/
structure W.runsOp (w : W) (d : Drive) (q : PendingOp) : Prop where
  pending : (w.port d).pending = some q
  plain : (w.port d).resetting = false
  flight : (w.port d).state = flightState q.op

theorem W.runsOp.pendingOp {w : W} {d : Drive} {q : PendingOp} (h : w.runsOp d q) : w.pendingOp d = some q.op := by
  unfold W.pendingOp
  rw [h.pending]
  rfl

theorem W.runsOp.ready {w : W} {d : Drive} {q : PendingOp} (h : w.runsOp d q) (r : OpOutcome) (n : Option Nat)
    (asked : Bool) : w.endOp d r (.ready, n) none asked =
      w.completed d q { w.port d with state := .ready, position := n } r asked :=
  endOp_completes r n asked h.pending h.plain h.flight rfl

theorem W.runsOp.faults {w : W} {d : Drive} {q : PendingOp} (h : w.runsOp d q) (r : OpOutcome)
    (after : PortState × Option Nat) (reason : DriveReason) (asked : Bool) :
    w.endOp d r after (some reason) asked = w.faultedBy d q reason r asked :=
  endOp_faults r after reason asked h.pending h.plain h.flight

theorem countTaken_of_le {c : Nat} (h : c ≤ 6000000) : countTaken c = c := if_pos h

theorem blockTaken_of_le {block : List Byte} (h : block.length ≤ 65536) : blockTaken block = block := if_pos h

section
variable {w : W} {d : Drive} {q : PendingOp} (h : w.runsOp d q)
include h

theorem locateEnds_eq {b : Nat} (hq : q.op = .locate b) (r : LocateReport) (asked : Bool) : w.locateEnds d r asked =
    match r with
    | .ok => w.completed d q { w.port d with state := .ready, position := some b } .ok asked
    | .blank c => w.completed d q { w.port d with state := .ready, position := some c } (.blank c) asked
    | .readError => w.completed d q { w.port d with state := .ready, position := none } .readError asked
    | .transport => w.faultedBy d q .transport .transport asked := by
  have hop : w.pendingOp d = some (.locate b) := by rw [h.pendingOp, hq]
  unfold W.locateEnds
  rw [hop]
  cases r with
  | ok | blank | readError => exact h.ready _ _ asked
  | transport => exact h.faults _ _ _ asked

theorem locateEndEnds_eq (hq : q.op = .locateEnd) (r : LocateEndReport) (asked : Bool) : w.locateEndEnds d r asked =
    match r with
    | .ok c => w.completed d q { w.port d with state := .ready, position := some c } (.okCount c) asked
    | .blank => w.completed d q { w.port d with state := .ready, position := some 0 } (.blank 0) asked
    | .readError => w.completed d q { w.port d with state := .ready, position := none } .readError asked
    | .transport => w.faultedBy d q .transport .transport asked := by
  unfold W.locateEndEnds
  rw [h.pendingOp, hq, if_neg (not_not.2 rfl)]
  cases r with
  | ok | blank | readError => exact h.ready _ _ asked
  | transport => exact h.faults _ _ _ asked

theorem readEnds_eq (hq : ∃ k, q.op = .readBlock k ∨ q.op = .probeRead k) (r : ReadReport) (asked : Bool) :
    w.readEnds d r asked = match r with
    | .ok block => w.completed d q { w.port d with
        state := .ready, position := (w.port d).position.map fun b => b + 1 } (.okBlock block) asked
    | .endMark => w.completed d q { w.port d with state := .ready } .endMark asked
    | .blank => w.completed d q { w.port d with state := .ready } (.blank 0) asked
    | .readError => w.completed d q { w.port d with state := .ready, position := none } .readError asked
    | .transport => w.faultedBy d q .transport .transport asked := by
  have hread : ¬w.readInFlight d = false := by
    unfold W.readInFlight
    rw [h.pendingOp]
    obtain ⟨k, e | e⟩ := hq <;> rw [e] <;> nofun
  unfold W.readEnds
  rw [if_neg hread]
  cases r with
  | ok | endMark | blank | readError => exact h.ready _ _ asked
  | transport => exact h.faults _ _ _ asked

theorem writeEnds_eq {k : BufId} (hq : q.op = .writeBlock k) (r : WriteReport) (asked : Bool) : w.writeEnds d r asked =
    match r with
    | .ok => w.completed d q { w.port d with
        state := .ready, position := (w.port d).position.map fun b => b + 1 } .ok asked
    | .writeError => w.completed d q { w.port d with state := .ready, position := none } .writeError asked
    | .transport => w.faultedBy d q .transport .transport asked := by
  have hop : w.pendingOp d = some (.writeBlock k) := by rw [h.pendingOp, hq]
  unfold W.writeEnds
  rw [hop]
  cases r with
  | ok | writeError => exact h.ready _ _ asked
  | transport => exact h.faults _ _ _ asked

theorem endMarkEnds_eq (hq : q.op = .writeEndMark) (r : EndMarkReport) (asked : Bool) : w.endMarkEnds d r asked =
    match r with
    | .ok => w.completed d q { w.port d with state := .ready } .ok asked
    | .endMarkFail => w.faultedBy d q .endMarkFail .endMarkFail asked
    | .transport => w.faultedBy d q .transport .transport asked := by
  unfold W.endMarkEnds
  rw [h.pendingOp, hq, if_neg (not_not.2 rfl)]
  cases r with
  | ok => exact h.ready _ _ asked
  | endMarkFail | transport => exact h.faults _ _ _ asked

theorem unloadEnds_eq (hq : q.op = .unload) (r : PlainReport) (asked : Bool) : w.unloadEnds d r asked = match r with
    | .ok => w.completed d q { w.port d with state := .holding, position := none, recovered := false } .ok asked
    | .transport => w.faultedBy d q .transport .transport asked := by
  unfold W.unloadEnds
  rw [h.pendingOp, hq, if_neg (not_not.2 rfl)]
  cases r with
  | ok =>
    exact endOp_completed w d (p := { w.port d with recovered := false }) .ok none asked h.pending h.plain h.flight rfl
  | transport => exact h.faults _ _ _ asked

theorem cleanEnds_eq (hq : q.op = .clean) (r : PlainReport) (asked : Bool) : w.cleanEnds d r asked = match r with
    | .ok => w.completed d q { w.port d with state := .ready, position := none, cleanRequest := false } .ok asked
    | .transport => w.faultedBy d q .transport .transport asked := by
  unfold W.cleanEnds
  rw [h.pendingOp, hq, if_neg (not_not.2 rfl)]
  cases r with
  | ok =>
    exact endOp_completed w d (p := { w.port d with cleanRequest := false }) .ok none asked h.pending h.plain h.flight rfl
  | transport => exact h.faults _ _ _ asked

theorem loadEnds_loadFail (hq : q.op = .load) (asked : Bool) :
    w.loadEnds d .loadFail asked = w.faultedBy d q .loadFail .loadFail asked := by
  unfold W.loadEnds
  rw [h.pendingOp, hq, if_neg (not_not.2 rfl)]
  exact h.faults _ _ _ asked

theorem loadEnds_transport (hq : q.op = .load) (asked : Bool) :
    w.loadEnds d .transport asked = w.faultedBy d q .transport .transport asked := by
  unfold W.loadEnds
  rw [h.pendingOp, hq, if_neg (not_not.2 rfl)]
  exact h.faults _ _ _ asked

/-- A Load that went well: the Cartridge Table has the load report first (R52). -/
theorem loadEnds_ok (hq : q.op = .load) {i : Nat} {c : CartRec} (hi : (w.port d).cartridge = .cart i)
    (hc : w.cart i = some c) (protect asked : Bool) :
    w.loadEnds d (.ok protect) asked = W.completed { w with
        ct := { w.ct with carts := w.ct.carts.set i (some
          { c with writeProtect := if protect then .yes else .no, loadCount := min (c.loadCount + 1) 4294967295 }) } }
        d q { w.port d with state := .ready, position := none } (.okProtected protect) asked := by
  unfold W.loadEnds
  rw [h.pendingOp, hq, if_neg (not_not.2 rfl)]
  dsimp only
  rw [W.portCart_of_cart hi]
  dsimp only
  have hrep : w.loadReport i protect = { w with
      ct := { w.ct with carts := w.ct.carts.set i (some
        { c with writeProtect := if protect then .yes else .no, loadCount := min (c.loadCount + 1) 4294967295 }) },
      dispatchDue := true } := by
    unfold W.loadReport
    rw [W.modCart_eq hc]
    rfl
  rw [hrep]
  exact endOp_completes (w := { w with
      ct := { w.ct with carts := w.ct.carts.set i (some
        { c with writeProtect := if protect then .yes else .no, loadCount := min (c.loadCount + 1) 4294967295 }) },
      dispatchDue := true }) (.okProtected protect) none asked h.pending h.plain h.flight rfl

end

theorem next_putWork {s : State} {a b : W} (e : a = b) :
    (Host.Outcome.next (s.putWork a) : Host.Outcome State Fault Refusal) = .next (s.putWork b) :=
  congrArg (fun w => Host.Outcome.next (s.putWork w)) e

/-- A count or a block that a drive can hand over is taken as it is (R46). -/
theorem exec_locateBlank (s : State) (d : Drive) {c : Nat} (hc : c ≤ 6000000) (asked : Bool) :
    exec (.locateComplete d (.blank c) asked) s = .next (s.putWork (s.work.locateEnds d (.blank c) asked)) := by
  change Host.Outcome.next (s.putWork (s.work.locateEnds d (.blank (countTaken c)) asked)) = _
  rw [countTaken_of_le hc]

theorem exec_locateEndOk (s : State) (d : Drive) {c : Nat} (hc : c ≤ 6000000) (asked : Bool) :
    exec (.locateEndComplete d (.ok c) asked) s = .next (s.putWork (s.work.locateEndEnds d (.ok c) asked)) := by
  change Host.Outcome.next (s.putWork (s.work.locateEndEnds d (.ok (countTaken c)) asked)) = _
  rw [countTaken_of_le hc]

theorem exec_readOk (s : State) (d : Drive) {block : List Byte} (hb : block.length ≤ 65536) (asked : Bool) :
    exec (.readBlockComplete d (.ok block) asked) s = .next (s.putWork (s.work.readEnds d (.ok block) asked)) := by
  change Host.Outcome.next (s.putWork (s.work.readEnds d (.ok (blockTaken block)) asked)) = _
  rw [blockTaken_of_le hb]

/-- A TRANSPORT completion of whichever operation is in flight (R51). -/
theorem exec_transport {s : State} {d : Drive} {q : PendingOp} (h : s.work.runsOp d q) {c : Instr} {asked : Bool}
    (hc : (q.op, c) ∈
      [(PortOp.load, Instr.loadComplete d .transport asked), (.locateEnd, .locateEndComplete d .transport asked),
       (.probeRead .a, .readBlockComplete d .transport asked), (.probeRead .b, .readBlockComplete d .transport asked),
       (.readBlock .a, .readBlockComplete d .transport asked), (.readBlock .b, .readBlockComplete d .transport asked),
       (.writeBlock .a, .writeBlockComplete d .transport asked),
       (.writeBlock .b, .writeBlockComplete d .transport asked),
       (.writeEndMark, .writeEndMarkComplete d .transport asked), (.unload, .unloadComplete d .transport asked),
       (.clean, .cleanComplete d .transport asked)]) :
    exec c s = .next (s.putWork (s.work.faultedBy d q .transport .transport asked)) := by
  simp only [List.mem_cons, Prod.mk.injEq, List.not_mem_nil, or_false] at hc
  rcases hc with ⟨hq, rfl⟩ | ⟨hq, rfl⟩ | ⟨hq, rfl⟩ | ⟨hq, rfl⟩ | ⟨hq, rfl⟩ | ⟨hq, rfl⟩ | ⟨hq, rfl⟩ | ⟨hq, rfl⟩ |
    ⟨hq, rfl⟩ | ⟨hq, rfl⟩ | ⟨hq, rfl⟩
  · exact next_putWork (loadEnds_transport h hq asked)
  · exact next_putWork (locateEndEnds_eq h hq .transport asked)
  · exact next_putWork (readEnds_eq h ⟨_, .inr hq⟩ .transport asked)
  · exact next_putWork (readEnds_eq h ⟨_, .inr hq⟩ .transport asked)
  · exact next_putWork (readEnds_eq h ⟨_, .inl hq⟩ .transport asked)
  · exact next_putWork (readEnds_eq h ⟨_, .inl hq⟩ .transport asked)
  · exact next_putWork (writeEnds_eq h hq .transport asked)
  · exact next_putWork (writeEnds_eq h hq .transport asked)
  · exact next_putWork (endMarkEnds_eq h hq .transport asked)
  · exact next_putWork (unloadEnds_eq h hq .transport asked)
  · exact next_putWork (cleanEnds_eq h hq .transport asked)

/-- Settles O38. -/
theorem operationsEnd : Obligations.OperationsEnd := by
  refine ⟨fun s d q asked hp hr hf => ?_, fun s d q asked hp hr hf => ?_, fun w n => rfl⟩
  · have h : s.work.runsOp d q := ⟨hp, hr, hf⟩
    intro p ready ends
    refine ⟨fun b hq => ⟨?_, fun c hc => ?_, ?_⟩, fun hq => ⟨fun c hc => ?_, ?_, ?_⟩,
      fun hq => ⟨fun block hb => ?_, ?_, ?_, ?_⟩, fun k hq => ⟨?_, ?_⟩, fun hq => ?_, fun hq => ?_, fun hq => ?_,
      fun i c protect hq hi hc => ?_⟩
    · exact next_putWork (locateEnds_eq h hq .ok asked)
    · exact (exec_locateBlank s d hc asked).trans (next_putWork (locateEnds_eq h hq (.blank c) asked))
    · exact next_putWork (locateEnds_eq h hq .readError asked)
    · exact (exec_locateEndOk s d hc asked).trans (next_putWork (locateEndEnds_eq h hq (.ok c) asked))
    · exact next_putWork (locateEndEnds_eq h hq .blank asked)
    · exact next_putWork (locateEndEnds_eq h hq .readError asked)
    · exact (exec_readOk s d hb asked).trans (next_putWork (readEnds_eq h hq (.ok block) asked))
    · exact next_putWork (readEnds_eq h hq .endMark asked)
    · exact next_putWork (readEnds_eq h hq .blank asked)
    · exact next_putWork (readEnds_eq h hq .readError asked)
    · exact next_putWork (writeEnds_eq h hq .ok asked)
    · exact next_putWork (writeEnds_eq h hq .writeError asked)
    · exact next_putWork (endMarkEnds_eq h hq .ok asked)
    · exact next_putWork (unloadEnds_eq h hq .ok asked)
    · exact next_putWork (cleanEnds_eq h hq .ok asked)
    · exact next_putWork (loadEnds_ok h hq hi hc protect asked)
  · have h : s.work.runsOp d q := ⟨hp, hr, hf⟩
    exact ⟨fun c hc => exec_transport h hc, fun b hq => next_putWork (locateEnds_eq h hq .transport asked),
      fun hq => next_putWork (loadEnds_loadFail h hq asked), fun hq => next_putWork (endMarkEnds_eq h hq .endMarkFail asked),
      next_putWork (h.faults _ _ _ false)⟩

end Sys2Proof.Machine

/-! PROOF. Presence, media reports and self-tests (R16, R46, R47, R61, R62). -/

namespace Sys2Proof.Machine

/-! ## The presence line falls (R61) -/

/-- The port once its drive has gone (R61). -/
def Port.gone (p : Port) : Port :=
  { p with state := .absent, mediaSensed := none, position := none, recovered := false, pending := none,
           selfTest := none, resetting := false,
           lastResult := if p.pending.isSome then some .driveLost else p.lastResult }

/-- What a fallen presence line tells: the operation in flight that is lost, the fault, the drive out of use. -/
def W.goneSignals (w : W) (d : Drive) : List Signal :=
  (match (w.port d).pending with
    | some q => [.opDone d q.requester q.op .driveLost]
    | none => []) ++
  [.notice (.driveFault d (w.port d).state .absent (some .presenceLost) (w.contentsRef (w.port d).cartridge)
    (w.port d).position), .portDown d]

theorem presenceFalls_eq (w : W) (d : Drive) : w.presenceFalls d = { w with
    ports := w.ports.put d (w.port d).gone,
    js := if (w.port d).state = .ready then (w.stopIdle d).js else w.js,
    dispatchDue := w.dispatchDue || noticed (w.port d).state .absent,
    signals := w.signals ++ w.goneSignals d } := by
  have hjs : (if (w.port d).state = .ready ∧ PortState.absent ≠ .ready then (w.stopIdle d).js else w.js) =
      if (w.port d).state = .ready then (w.stopIdle d).js else w.js := if_congr (and_iff_left nofun) rfl rfl
  unfold W.presenceFalls
  dsimp only
  rw [W.modPort, W.enterPort_put]
  dsimp only
  rw [hjs]
  unfold W.goneSignals
  cases hp : (w.port d).pending with
  | none | some q =>
    simp only [W.reportDown, W.emit, W.faultNotice, W.port, Pair.get_put_same, W.contentsRef_eq, List.append_assoc,
      List.cons_append, List.nil_append, Port.gone] at hp ⊢
    simp [hp]

theorem W.presence_putPresence (w : W) (d : Drive) (level : Bool) : (w.putPresence d level).presence d = level := by
  cases d <;> rfl

theorem W.port_of_ports {w v : W} (h : v.ports = w.ports) (d : Drive) : v.port d = w.port d := by
  unfold W.port
  rw [h]

theorem otherDrive_ne (d : Drive) : otherDrive d ≠ d := by
  cases d <;> nofun

theorem presence_lost (s : State) (d : Drive) (h : s.work.presence d = true) :
    let p := s.work.port d
    let w := (s.work.putPresence d false).presenceFalls d
    exec (.presenceLost d) s = .next (s.putWork w) ∧ w.presence d = false ∧ w.port d = p.gone ∧
      w.port (otherDrive d) = s.work.port (otherDrive d) ∧ w.ct = s.lib.ct ∧ w.cc = s.lib.cc ∧
      w.streams = s.lib.streams ∧ w.js.jobs = s.lib.js.jobs ∧ w.out = [] ∧
      w.signals = s.lib.signals ++ s.work.goneSignals d := by
  intro p w
  have hput (level : Bool) : (s.work.putPresence d level).ports = s.work.ports ∧
      (s.work.putPresence d level).ct = s.lib.ct ∧ (s.work.putPresence d level).cc = s.lib.cc ∧
      (s.work.putPresence d level).streams = s.lib.streams ∧ (s.work.putPresence d level).js = s.lib.js ∧
      (s.work.putPresence d level).out = [] ∧ (s.work.putPresence d level).signals = s.lib.signals := by
    cases d <;> exact ⟨rfl, rfl, rfl, rfl, rfl, rfl, rfl⟩
  obtain ⟨hports, hct, hcc, hstreams, hjs, hout, hsig⟩ := hput false
  have hport := W.port_of_ports hports
  have hw : w = _ := presenceFalls_eq (s.work.putPresence d false) d
  refine ⟨congrArg (fun w => Host.Outcome.next (s.putWork w)) (if_pos h), ?_, ?_, ?_, ?_, ?_, ?_, ?_, ?_, ?_⟩
  · rw [hw]
    exact W.presence_putPresence s.work d false
  · rw [hw, hport]
    exact Pair.get_put_same _ _ _
  · rw [hw]
    exact (Pair.get_put_other _ _ (otherDrive_ne d)).trans (hport _)
  · rw [hw]
    exact hct
  · rw [hw]
    exact hcc
  · rw [hw]
    exact hstreams
  · rw [hw]
    dsimp only
    split
    · exact congrArg (fun js => js.jobs) hjs
    · exact congrArg (fun js => js.jobs) hjs
  · rw [hw]
    exact hout
  · rw [hw, hsig]
    dsimp only
    unfold W.goneSignals
    rw [hport, W.contentsRef_eq, W.contentsRef_eq, hct]
    rfl

/-! ## The presence line rises (R61, R62) -/

theorem enterInit_absent {w : W} {d : Drive} (hs : (w.port d).state = .absent) : w.enterInit d true = { w with
    ports := w.ports.put d { w.port d with
      state := .init, position := none, selfTest := some 180, wasAbsent := true },
    dispatchDue := true } := by
  unfold W.enterInit W.modPort
  rw [W.enterPort_put]
  dsimp only
  rw [hs]
  simp [noticed, PortState.isDown]

/-! ## A self-test that fails (R62) -/

theorem selfTestFails_eq (w : W) (d : Drive) : w.selfTestFails d = { w with
    ports := w.ports.put d { w.port d with selfTest := none, faultReason := some .initFail },
    signals := w.signals ++
      [.notice (.driveFault d (w.port d).state (w.port d).state (some .initFail) (w.contentsRef (w.port d).cartridge)
        (w.port d).position), .portDown d] } := by
  unfold W.selfTestFails W.modPort W.reportDown W.faultNotice
  dsimp only
  rw [W.port_putPort_same]
  simp [W.emit, W.putPort, W.contentsRef_eq]

/-! ## A self-test that passes (R16, R62) -/

/-- The port of a drive that has passed its self-test, before what it holds is told. -/
def Port.passed (p : Port) (holds : MediaSense) : Port :=
  { p with selfTest := none, faultReason := none, wasAbsent := false, mediaSensed := some holds, position := none,
           recovered := decide (holds = .threaded) }

/-- The state of a port whose self-test passed, by what the drive holds. -/
def stateHolding : MediaSense → PortState
  | .nothing => .empty
  | .inserted => .holding
  | .threaded => .ready

/-- The port's cartridge has been told by what the drive holds. -/
def W.toldHeld (w : W) (d : Drive) : MediaSense → W
  | .nothing => (match (w.port d).cartridge with
      | .cart i => w.becomeAbsent i
      | .none => w
      | .untracked => w).modPort d fun q => { q with cartridge := .none }
  | .inserted => w.reportFound d
  | .threaded => w.reportFound d

/-- A drive that had a fault or was absent is usable again (R62). -/
def W.usableAgain (w : W) (d : Drive) (p : Port) : W :=
  if p.faultReason.isSome || p.wasAbsent then w.note (w.faultNotice d .init none none) else w

theorem selfTestPasses_eq (w : W) (d : Drive) (m : MediaSense) : w.selfTestPasses d m =
    ((((w.putPort d ((w.port d).passed m)).toldHeld d m).enterPort d (stateHolding m)).usableAgain d (w.port d)).emit
      (if m = .threaded then .recovered d else .idleCheck d) := by
  have hc : ((w.putPort d ((w.port d).passed m)).port d).cartridge = (w.port d).cartridge := by
    rw [W.port_putPort_same]
    rfl
  unfold W.selfTestPasses W.usableAgain
  cases m with
  | nothing =>
    unfold W.toldHeld
    dsimp only
    rw [hc]
    rfl
  | inserted | threaded => rfl

theorem driveReports_ports (w : W) (d : Drive) : (w.driveReports d).1.ports = w.ports := by
  unfold W.driveReports
  (repeat' split) <;> rfl

theorem driveReports_known {w : W} {d : Drive} {i : Nat} (h : w.cartAt (.drive d) = some i) :
    w.driveReports d = (w, .cart i) := by
  unfold W.driveReports
  rw [h]

/-- Telling what a drive holds changes the cartridge of its port alone. -/
theorem toldHeld_ports (w : W) (d : Drive) (m : MediaSense) :
    ∃ c, (w.toldHeld d m).ports = w.ports.put d { w.port d with cartridge := c } := by
  cases m with
  | nothing =>
    refine ⟨.none, ?_⟩
    unfold W.toldHeld
    dsimp only
    cases hc : (w.port d).cartridge with
    | cart i =>
      have hp := (W.tableOnly_becomeAbsent w i).ports
      dsimp only
      rw [W.modPort, W.port_of_ports hp]
      simp only [W.putPort, hp]
    | none | untracked => rfl
  | inserted | threaded =>
    refine ⟨(w.driveReports d).2, ?_⟩
    have hp := driveReports_ports w d
    unfold W.toldHeld W.reportFound
    dsimp only
    rw [W.modPort, W.port_of_ports hp]
    simp only [W.putPort, hp]

theorem usableAgain_ports (w : W) (d : Drive) (p : Port) : (w.usableAgain d p).ports = w.ports := by
  unfold W.usableAgain
  split <;> rfl

theorem usableAgain_ct (w : W) (d : Drive) (p : Port) : (w.usableAgain d p).ct = w.ct := by
  unfold W.usableAgain
  split <;> rfl

theorem selfTestPasses_ct (w : W) (d : Drive) (m : MediaSense) :
    (w.selfTestPasses d m).ct = ((w.putPort d ((w.port d).passed m)).toldHeld d m).ct := by
  rw [selfTestPasses_eq, W.enterPort_eq]
  exact usableAgain_ct _ _ _

theorem selfTestPasses_ports (w : W) (d : Drive) (m : MediaSense) :
    (w.selfTestPasses d m).ports = w.ports.put d { (w.port d).passed m with
      state := stateHolding m,
      cartridge := (((w.putPort d ((w.port d).passed m)).toldHeld d m).port d).cartridge } := by
  obtain ⟨c, hc⟩ := toldHeld_ports (w.putPort d ((w.port d).passed m)) d m
  have hport : ((w.putPort d ((w.port d).passed m)).toldHeld d m).port d =
      { (w.port d).passed m with cartridge := c } := by
    unfold W.port at hc ⊢
    rw [hc]
    simp [W.putPort]
  rw [selfTestPasses_eq]
  refine (usableAgain_ports _ _ _).trans ?_
  rw [W.enterPort_eq]
  dsimp only
  rw [hport, hc]
  simp [W.putPort]

theorem toldHeld_nothing_cartridge (w : W) (d : Drive) : ((w.toldHeld d .nothing).port d).cartridge = .none := by
  unfold W.toldHeld W.modPort
  rw [W.port_putPort_same]

theorem toldHeld_nothing_location {w : W} {d : Drive} {i : Nat} (h : (w.port d).cartridge = .cart i) :
    (w.toldHeld d .nothing).locationOf i = none := by
  unfold W.toldHeld
  dsimp only
  rw [h]
  exact W.locationOf_becomeAbsent_same w i

theorem toldHeld_known {w : W} {d : Drive} {i : Nat} (h : w.cartAt (.drive d) = some i) {m : MediaSense} (hm : m ≠ .nothing) :
    ((w.toldHeld d m).port d).cartridge = .cart i ∧ (w.toldHeld d m).ct = w.ct := by
  cases m with
  | nothing => exact absurd rfl hm
  | inserted | threaded =>
    unfold W.toldHeld W.reportFound W.modPort
    rw [driveReports_known h, W.port_putPort_same]
    exact ⟨rfl, rfl⟩

theorem usableAgain_out {w : W} {d : Drive} {p : Port} (h : p.faultReason.isSome = true ∨ p.wasAbsent = true) :
    ∃ now ref, Notice.driveFault d .init now none ref none ∈ (w.usableAgain d p).out := by
  unfold W.usableAgain
  rw [if_pos (Bool.or_eq_true_iff.2 h)]
  exact ⟨_, _, List.mem_append_right _ (List.mem_singleton.2 rfl)⟩

theorem exec_selfTestResult {s : State} {d : Drive} (hs : (s.work.port d).state = .init)
    (ht : (s.work.port d).selfTest.isSome = true) (r : SelfTestReport) : exec (.selfTestResult d r) s =
      .next (s.putWork (match r with
        | .passed holds => s.work.selfTestPasses d holds
        | .failed => s.work.selfTestFails d)) :=
  congrArg (fun w => Host.Outcome.next (s.putWork w)) (if_pos (by unfold selfTesting; rw [hs, ht]; rfl))

theorem exec_selfTestTimeout {s : State} {d : Drive} (hs : (s.work.port d).state = .init)
    (ht : (s.work.port d).selfTest.isSome = true) : exec (.selfTestTimeout d) s =
      .next (s.putWork (s.work.selfTestFails d)) :=
  congrArg (fun w => Host.Outcome.next (s.putWork w)) (if_pos (by unfold selfTesting; rw [hs, ht]; rfl))

/-- Settles O37. -/
theorem presenceAndSelfTestsDecideTheDrive : Obligations.PresenceAndSelfTestsDecideTheDrive := by
  refine ⟨⟨?_, ?_, ?_⟩, ?_⟩
  · intro s d h
    obtain ⟨hx, hp, hport, hother, hct, hcc, hst, hjobs, hout, hsig⟩ := presence_lost s d h
    exact ⟨hx, hp, hport, hother, hct, hcc, hst, hjobs, hout, hsig.trans (List.append_assoc _ _ _).symm⟩
  · intro s d h hs
    have hp : ¬s.work.presence d = true := by rw [h]; nofun
    refine congrArg (fun w => Host.Outcome.next (s.putWork w)) ((if_neg hp).trans ?_)
    have hports : (s.work.putPresence d true).ports = s.work.ports := by cases d <;> rfl
    have hport := W.port_of_ports hports d
    have hs' : ((s.work.putPresence d true).port d).state = .absent := by rw [hport, hs]
    refine (if_pos hs').trans ((enterInit_absent hs').trans ?_)
    rw [hport, hports]
    rfl
  · intro s d m
    rfl
  · intro s d hs ht p failed
    have hfail : s.work.selfTestFails d = failed := by
      rw [selfTestFails_eq, hs]
      rfl
    refine ⟨(exec_selfTestResult hs ht .failed).trans (next_putWork hfail),
      (exec_selfTestTimeout hs ht).trans (next_putWork hfail), fun m => ⟨_, exec_selfTestResult hs ht (.passed m), ?_⟩⟩
    have hports := selfTestPasses_ports s.work d m
    have hct := selfTestPasses_ct s.work d m
    have hport : (s.work.selfTestPasses d m).port d = _ := (congrArg (fun l => Pair.get l d) hports).trans (Pair.get_put_same _ _ _)
    have hother : (s.work.selfTestPasses d m).port (otherDrive d) = s.work.port (otherDrive d) :=
      (congrArg (fun l => Pair.get l (otherDrive d)) hports).trans (Pair.get_put_other _ _ (otherDrive_ne d))
    dsimp only
    rw [hport]
    refine ⟨rfl, rfl, rfl, rfl, rfl, rfl, hother, ?_, ?_, ?_, ?_, ?_, ?_⟩
    · rw [selfTestPasses_eq]
      exact List.mem_append_right _ (List.mem_singleton.2 rfl)
    · rintro rfl
      refine ⟨rfl, rfl, toldHeld_nothing_cartridge _ d, fun i hi => ?_⟩
      rw [W.locationOf_of_ct hct]
      exact toldHeld_nothing_location ((congrArg Port.cartridge (W.port_putPort_same s.work d _)).trans hi)
    · rintro rfl
      exact ⟨rfl, rfl⟩
    · rintro rfl
      exact ⟨rfl, rfl⟩
    · intro hm i hi
      obtain ⟨hc, hk⟩ := toldHeld_known (w := s.work.putPort d ((s.work.port d).passed m)) hi hm
      exact ⟨hc, by rw [hct, hk]; rfl⟩
    · intro hp
      rw [selfTestPasses_eq]
      exact usableAgain_out hp

end Sys2Proof.Machine

/-! PROOF. Sorting, and the admission of jobs (R72). -/

namespace Sys2Proof.Machine

/-! ## Sorting by a key -/

theorem pairwise_insertBy {α : Type} (key : α → Nat) (x : α) {l : List α} (h : l.Pairwise fun a b => key a ≤ key b) :
    (insertBy key x l).Pairwise fun a b => key a ≤ key b := by
  induction l with
  | nil => exact List.pairwise_singleton _ x
  | cons y ys ih =>
    obtain ⟨hy, hys⟩ := List.pairwise_cons.1 h
    unfold insertBy
    split
    next hlt =>
      refine List.pairwise_cons.2 ⟨fun z hz => ?_, h⟩
      rcases List.mem_cons.1 hz with rfl | hz
      · exact hlt.le
      · exact hlt.le.trans (hy z hz)
    next hle =>
      refine List.pairwise_cons.2 ⟨fun z hz => ?_, ih hys⟩
      rcases List.mem_cons.1 ((perm_insertBy key x ys).mem_iff.1 hz) with rfl | hz
      · exact Nat.le_of_not_lt hle
      · exact hy z hz

theorem perm_foldl_insertBy {α : Type} (key : α → Nat) (l acc : List α) :
    (l.foldl (fun acc x => insertBy key x acc) acc).Perm (l ++ acc) := by
  induction l generalizing acc with
  | nil => exact List.Perm.refl _
  | cons x l ih =>
    calc (l.foldl (fun acc x => insertBy key x acc) (insertBy key x acc)).Perm (l ++ insertBy key x acc) := ih _
      _ |>.Perm (l ++ x :: acc) := (perm_insertBy key x acc).append_left l
      _ |>.Perm (x :: l ++ acc) := List.perm_middle

theorem perm_sortBy {α : Type} (key : α → Nat) (l : List α) : (sortBy key l).Perm l := by
  have h := perm_foldl_insertBy key l []
  rwa [List.append_nil] at h

theorem pairwise_sortBy {α : Type} (key : α → Nat) (l : List α) : (sortBy key l).Pairwise fun a b => key a ≤ key b := by
  suffices h : ∀ acc : List α, (acc.Pairwise fun a b => key a ≤ key b) →
      (l.foldl (fun acc x => insertBy key x acc) acc).Pairwise fun a b => key a ≤ key b from h [] List.Pairwise.nil
  induction l with
  | nil => exact fun acc h => h
  | cons x l ih => exact fun acc h => ih _ (pairwise_insertBy key x h)

/-- What sorts first is below all. -/
theorem sortBy_head {α : Type} {key : α → Nat} {l : List α} {x : α} (h : (sortBy key l).head? = some x) :
    x ∈ l ∧ ∀ y ∈ l, key x ≤ key y := by
  obtain ⟨t, ht⟩ := List.head?_eq_some_iff.1 h
  have hp := perm_sortBy key l
  have hs := pairwise_sortBy key l
  rw [ht] at hp hs
  refine ⟨hp.mem_iff.1 List.mem_cons_self, fun y hy => ?_⟩
  rcases List.mem_cons.1 (hp.mem_iff.2 hy) with rfl | hy
  · exact le_rfl
  · exact (List.pairwise_cons.1 hs).1 y hy

/-! ## The next job id (R72) -/

/-- How far an id is from the one given last, counting upward from 255 to 1 without a gap. -/
def idDistance (last k : Nat) : Nat := (k + 254 - last) % 255

/-- The id after another. -/
def idAfter (last : Nat) : Nat := if 255 ≤ last then 1 else last + 1

theorem idAfter_range (last : Nat) (h : last ≤ 255) : 1 ≤ idAfter last ∧ idAfter last ≤ 255 ∧ idDistance last (idAfter last) = 0 := by
  unfold idAfter idDistance
  split <;> omega

theorem idDistance_after {last k : Nat} (h : last ≤ 255) (h1 : 1 ≤ k) (h255 : k ≤ 255) (hne : k ≠ idAfter last) :
    idDistance last k = idDistance (idAfter last) k + 1 := by
  unfold idAfter at hne ⊢
  unfold idDistance
  split at hne
  next hl => simp only [if_pos hl]; omega
  next hl => simp only [if_neg hl]; omega

theorem nextJobId_spec (fuel : Nat) {last : Nat} {used : List Nat} (hl : last ≤ 255) {k : Nat} (h1 : 1 ≤ k) (h255 : k ≤ 255)
    (hk : k ∉ used) (hf : idDistance last k < fuel) :
    let n := nextJobId fuel last used
    1 ≤ n ∧ n ≤ 255 ∧ n ∉ used ∧ ∀ m, 1 ≤ m → m ≤ 255 → m ∉ used → idDistance last n ≤ idDistance last m := by
  induction fuel generalizing last with
  | zero => exact absurd hf (Nat.not_lt_zero _)
  | succ fuel ih =>
    obtain ⟨ha1, ha255, hzero⟩ := idAfter_range last hl
    have hstep : nextJobId (fuel + 1) last used =
        if used.contains (idAfter last) then nextJobId fuel (idAfter last) used else idAfter last := rfl
    dsimp only
    rw [hstep]
    by_cases hu : used.contains (idAfter last) = true
    · have hmem : idAfter last ∈ used := List.contains_iff_mem.1 hu
      have hne {m : Nat} (hm : m ∉ used) : m ≠ idAfter last := fun e => hm (e ▸ hmem)
      rw [idDistance_after hl h1 h255 (hne hk)] at hf
      obtain ⟨hn1, hn255, hn, hmin⟩ := ih ha255 (by omega)
      rw [if_pos hu]
      refine ⟨hn1, hn255, hn, fun m m1 m255 hm => ?_⟩
      rw [idDistance_after hl hn1 hn255 (hne hn), idDistance_after hl m1 m255 (hne hm)]
      exact Nat.succ_le_succ (hmin m m1 m255 hm)
    · rw [if_neg hu]
      exact ⟨ha1, ha255, fun h => hu (List.contains_iff_mem.2 h), fun m _ _ _ => by rw [hzero]; exact Nat.zero_le _⟩

/-- With fewer than 255 ids held one is free. -/
theorem exists_free_id {used : List Nat} (h : used.length < 255) : ∃ k, 1 ≤ k ∧ k ≤ 255 ∧ k ∉ used := by
  by_contra hn
  have hall : List.range' 1 255 ⊆ used := by
    intro k hk
    obtain ⟨h1, h256⟩ := List.mem_range'_1.1 hk
    by_contra hku
    exact hn ⟨k, h1, by omega, hku⟩
  have hlen := (List.subperm_of_subset List.nodup_range' hall).length_le
  rw [List.length_range'] at hlen
  omega

/-! ## Admission (R72) -/

theorem find_job_append {l : List Job} {n : Nat} (hn : ∀ j ∈ l, j.id ≠ n) {j : Job} (hj : j.id = n) :
    (l ++ [j]).find? (fun k => decide (k.id = n)) = some j := by
  rw [List.find?_append, List.find?_eq_none.2 fun k hk => by simpa using hn k hk]
  simp [hj]

/-- A job admitted with a record free (R72). -/
theorem admitJob_free {w : W} (kind : JobKind) (session : Option Nat) (target : Target) (progress : Progress)
    (pins : List Nat) (hlen : w.js.jobs.length < 16) {n : Nat}
    (hid : nextJobId 255 w.js.lastId (w.js.jobs.map Job.id) = n) (hn : ∀ j ∈ w.js.jobs, j.id ≠ n) :
    w.admitJob kind session target progress pins = (w.withJob n kind session target progress pins, some n) := by
  have hcan : ¬w.canAdmit = false := by
    unfold W.canAdmit
    rw [decide_eq_true hlen]
    nofun
  unfold W.admitJob
  rw [if_neg hcan, if_pos hlen]
  dsimp only
  rw [hid, W.jobNotice_eq (j := W.admitted n (min (w.js.lastSeq + 1) max64) kind session target progress pins) (h := ?found)]
  · rfl
  case found => exact find_job_append hn rfl

theorem canAdmit_iff (w : W) : w.canAdmit = true ↔ w.js.jobs.length < 16 ∨ ∃ j ∈ w.js.jobs, j.state.isFinished = true := by
  unfold W.canAdmit W.oldestFinished
  rw [Bool.or_eq_true, decide_eq_true_iff, Option.isSome_map]
  refine or_congr_right ?_
  have hp := perm_sortBy Job.seq (w.js.jobs.filter fun j => j.state.isFinished)
  rw [List.isSome_head?, ne_eq, ← List.length_eq_zero_iff, hp.length_eq, List.length_eq_zero_iff]
  simp [List.filter_eq_nil_iff]

/-- The finished record that gives way is the oldest. -/
theorem oldestFinished_eq {w : W} {j : Job} (hj : j ∈ w.js.jobs) (hf : j.state.isFinished = true)
    (hmin : ∀ k ∈ w.js.jobs, k.state.isFinished = true → k ≠ j → j.seq < k.seq) : w.oldestFinished = some j.id := by
  have hmem : j ∈ w.js.jobs.filter fun j => j.state.isFinished := List.mem_filter.2 ⟨hj, hf⟩
  unfold W.oldestFinished
  cases hh : (sortBy Job.seq (w.js.jobs.filter fun j => j.state.isFinished)).head? with
  | none =>
    have hnil := List.head?_eq_none_iff.1 hh
    have := (perm_sortBy Job.seq (w.js.jobs.filter fun j => j.state.isFinished)).mem_iff.2 hmem
    rw [hnil] at this
    cases this
  | some x =>
    obtain ⟨hx, hle⟩ := sortBy_head hh
    obtain ⟨hxm, hxf⟩ := List.mem_filter.1 hx
    have : x = j := by
      by_contra hne
      exact absurd (hle j hmem) (Nat.not_le.2 (hmin x hxm hxf hne))
    rw [this]
    rfl

theorem admitJob_reclaims {w : W} (kind : JobKind) (session : Option Nat) (target : Target) (progress : Progress)
    (pins : List Nat) (hlen : w.js.jobs.length = 16) {j : Job} (hj : j ∈ w.js.jobs) (hf : j.state.isFinished = true)
    (ho : w.oldestFinished = some j.id) : w.admitJob kind session target progress pins =
      (w.freeJob j.id).admitJob kind session target progress pins := by
  have hshort : (w.freeJob j.id).js.jobs.length < 16 := by
    rw [← hlen]
    exact List.length_filter_lt_length_iff_exists.2 ⟨j, hj, by simp⟩
  have hcan : ¬w.canAdmit = false := by
    rw [(canAdmit_iff w).2 (.inr ⟨j, hj, hf⟩)]
    nofun
  have hcan' : ¬(w.freeJob j.id).canAdmit = false := by
    rw [(canAdmit_iff _).2 (.inl hshort)]
    nofun
  unfold W.admitJob
  rw [if_neg hcan, if_neg hcan', if_pos hshort, if_neg (by omega : ¬w.js.jobs.length < 16), ho]

/-- Settles O40. -/
theorem jobsAreAdmitted : Obligations.JobsAreAdmitted := by
  intro w kind session target progress pins
  refine ⟨fun hlen hlast => ?_, fun j hlen hj hf hmin => ?_, fun hlen hall => ?_⟩
  · have hused : (w.js.jobs.map Job.id).length < 255 := by
      rw [List.length_map]
      omega
    have hheld {k : Nat} : k ∉ w.js.jobs.map Job.id ↔ ∀ j ∈ w.js.jobs, j.id ≠ k := by simp [List.mem_map]
    obtain ⟨k, h1, h255, hk⟩ := exists_free_id hused
    obtain ⟨hn1, hn255, hn, hmin⟩ := nextJobId_spec 255 hlast h1 h255 hk (Nat.mod_lt _ (by omega))
    exact ⟨_, hn1, hn255, hheld.1 hn, fun m m1 m255 hm => hmin m m1 m255 (hheld.2 hm),
      admitJob_free kind session target progress pins hlen rfl (hheld.1 hn)⟩
  · exact admitJob_reclaims kind session target progress pins hlen hj hf (oldestFinished_eq hj hf hmin)
  · refine if_pos ?_
    rw [← Bool.not_eq_true, canAdmit_iff]
    rintro (h | ⟨j, hj, hf⟩)
    · omega
    · rw [hall j hj] at hf
      cases hf

end Sys2Proof.Machine

/-! PROOF. Jobs started on request (R86, R101, R129, R161, R162, R173 to R175). -/

namespace Sys2Proof.Machine

/-! ## The fields of a payload -/

theorem fields_flatten (l : List (List Byte)) : fields (l.map List.length) l.flatten = some l := by
  induction l with
  | nil => rfl
  | cons x l ih =>
    rw [List.map_cons, List.flatten_cons]
    unfold fields
    rw [if_pos (by simp), List.drop_left, ih, List.take_left]

/-- A payload made of its fields reads as their values. -/
theorem fieldsOf_flatten {sizes : List Nat} {l : List (List Byte)} {p : List Byte} (h : l.map List.length = sizes)
    (hp : p = l.flatten) (k : Nat) : fieldsOf sizes p k = (l.map beNat).getD k 0 := by
  subst h hp
  unfold fieldsOf natFields
  rw [fields_flatten]
  rfl

theorem beNat_byte (b : Byte) : beNat [b] = b.toNat := by simp [beNat]

theorem beNat_word (hi lo : Byte) : beNat [hi, lo] = hi.toNat * 256 + lo.toNat := by simp [beNat]

/-! ## OPEN SESSION (R129) -/

theorem W.session_isSome_iff (w : W) (id : Nat) : (w.session id).isSome = true ↔ (w.cg.sessions.any fun x => x.id = id) = true := by
  unfold W.session
  rw [List.find?_isSome, List.any_eq_true]

theorem codingModeOf_eq (n : Nat) : codingModeOf n = if n = 1 then .pack else if n = 2 then .pass else .auto := by
  unfold codingModeOf
  split
  · rfl
  · rfl
  next h1 h2 => rw [if_neg h1, if_neg h2]

theorem openSession_fields (hi lo pool mode auto : Byte) {tag : List Byte} (ht : tag.length = 8) :
    let f := fieldsOf openSessionFields (hi :: lo :: pool :: mode :: auto :: tag)
    f 0 = hi.toNat * 256 + lo.toNat ∧ f 1 = pool.toNat ∧ f 2 = mode.toNat ∧ f 3 = auto.toNat := by
  have h (k : Nat) := fieldsOf_flatten (sizes := openSessionFields) (l := [[hi, lo], [pool], [mode], [auto], tag])
    (p := hi :: lo :: pool :: mode :: auto :: tag) (by simp [ht, openSessionFields]) (by simp) k
  dsimp only
  simp [h, beNat]

theorem byte_zero_iff (b : Byte) : b.toNat = 0 ↔ b = 0#8 := byte_eq_iff b (show 0 < 256 by omega)

theorem exec_openSession {s : State} {f : RequestFrame} {p : List Byte} (h : s.requests f 0x40 p)
    (hp : p.length = 13) (hm : s.lib.mode ≠ .secured) :
    exec .openSession s = .next (s.replying f (ownOpenSession s.work p)) :=
  State.ask_eq h (acceptedIn_of_ne _ hm) (decide_eq_true hp)

/-- What an admission answers when a job was admitted, and without one. -/
theorem replying_admitted (s : State) (f : RequestFrame) (w : W) (r : W × Option Nat) (g : W → Nat → Answer) :
    s.replying f (match r.2 with
      | none => refuse w .queueFull
      | some n => g r.1 n) = match r with
        | (_, none) => s.turnedDown f .queueFull .empty
        | (v, some n) => s.replying f (g v n) := by
  obtain ⟨v, o⟩ := r
  cases o with
  | none => exact State.replying_refuse _ _ _ nofun
  | some n => rfl

/-- The same, where the answer to an admitted job is written first. -/
theorem replying_admitted_first (s : State) (f : RequestFrame) (w : W) (r : W × Option Nat) (g : W → Nat → Answer) :
    s.replying f (match r.2 with
      | some n => g r.1 n
      | none => refuse w .queueFull) = match r with
        | (_, none) => s.turnedDown f .queueFull .empty
        | (v, some n) => s.replying f (g v n) := by
  rw [← replying_admitted s f w r g]
  obtain ⟨v, o⟩ := r
  cases o <;> rfl

theorem openSession_settles (s : State) (f : RequestFrame) (hi lo pool mode auto : Byte) (tag : List Byte)
    (h : s.requests f 0x40 (hi :: lo :: pool :: mode :: auto :: tag)) (ht : tag.length = 8) (hm : s.lib.mode ≠ .secured) :
    let set := settingOf s.settings.working
    let id := hi.toNat * 256 + lo.toNat
    let number := if mode = 0#8 then set 4 else mode.toNat
    let coding : CodingMode := if number = 1 then .pack else if number = 2 then .pass else .auto
    let progress : Progress := .backup
      { objectsBegun := 0, openObject := none, closing := false, truncating := false, extentSeq := 0, extentOpen := false,
        securedThrough := 0, part := none, spanCause := none,
        autoVerify := decide ((if auto = 0#8 then set 5 else auto.toNat) = 1),
        snapshot := { mode := coding, gain := set 1, storedRun := set 2, skip := set 3 },
        coding := none, ending := none, truncEnd := none }
    exec .openSession s = .next (
      if id = 0 ∨ 7 < pool.toNat ∨ 3 < mode.toNat ∨ 2 < auto.toNat then s.turnedDown f .badArgument .empty
      else if (s.lib.cg.sessions.any fun x => x.id = id) = true then s.turnedDown f .duplicate .empty
      else if 64 ≤ s.lib.cg.sessions.length ∨ 1024 ≤ s.lib.cg.extents.length then s.turnedDown f .catalogFull .empty
      else match s.work.admitJob .backup (some id) (.pool pool.toNat) progress [] with
        | (_, none) => s.turnedDown f .queueFull .empty
        | (w, some n) => s.answered f { w with cg := { w.cg with
            sessions := insertBy SessionRec.id
              { id := id, hostTag := tag, state := .opened, origin := .written, pool := pool.toNat,
                codingMode := some coding, objectsBegun := 0, chunkCount := 0, rawBytes := 0, codedBytes := 0,
                verifySummary := .unverified } w.cg.sessions } } (.jobId n)) := by
  intro set id number coding progress
  obtain ⟨hid, hpool, hmode, hauto⟩ := openSession_fields hi lo pool mode auto ht
  rw [exec_openSession h (by simp [ht]) hm]
  refine congrArg Host.Outcome.next ?_
  have hnumber : (if mode.toNat = 0 then s.work.setting 4 else mode.toNat) = number := if_congr (byte_zero_iff mode) rfl rfl
  have hcoding : codingModeOf number = coding := codingModeOf_eq number
  have hautoVerify : (if auto.toNat = 0 then s.work.setting 5 else auto.toNat) = if auto = 0#8 then set 5 else auto.toNat :=
    if_congr (byte_zero_iff auto) rfl rfl
  have hfree : (s.work.sessionFree = false ∨ s.work.extentFree = false) ↔
      64 ≤ s.lib.cg.sessions.length ∨ 1024 ≤ s.lib.cg.extents.length := by
    unfold W.sessionFree W.extentFree
    rw [decide_eq_false_iff_not, decide_eq_false_iff_not, Nat.not_lt, Nat.not_lt]
    rfl
  unfold ownOpenSession
  dsimp only
  rw [hid, hpool, hmode, hauto, hnumber, hcoding, hautoVerify, State.replying_ite, State.replying_ite, State.replying_ite]
  refine if_congr Iff.rfl (State.replying_refuse _ _ _ nofun) (if_congr (W.session_isSome_iff _ _)
    (State.replying_refuse _ _ _ nofun) (if_congr hfree (State.replying_refuse _ _ _ nofun) ?_))
  exact replying_admitted s f s.work (s.work.admitJob .backup (some id) (.pool pool.toNat) progress []) fun w n =>
    answer (w.createSession
      { id := id, hostTag := tag, state := .opened, origin := .written, pool := pool.toNat,
        codingMode := some coding, objectsBegun := 0, chunkCount := 0, rawBytes := 0, codedBytes := 0,
        verifySummary := .unverified }) (.jobId n)

/-! ## START VERIFY (R161, R162) -/

/-- The session that START VERIFY names: 0 names all. -/
def namedSession (id : Nat) : Option Nat := if id = 0 then none else some id

theorem isDataKind_iff (k : Option CartKind) : isDataKind k = false ↔ k ∉ [some CartKind.a, some .b] := by
  rcases k with _ | k
  · simp [isDataKind]
  · cases k <;> simp [isDataKind]

/-- Whether a session is OPEN. -/
def W.isOpenSession (w : W) (x : Nat) : Bool := (w.session x).any fun r => r.state = .opened

/-- Whether a cartridge has an extent of a session. -/
def W.hasExtentOf (w : W) (i x : Nat) : Bool := (w.extentsOn i).any fun e => e.session = x

theorem isOpenSession_eq (w : W) (x : Nat) :
    w.isOpenSession x = decide ((w.session x).map SessionRec.state = some SessionState.opened) := by
  unfold W.isOpenSession
  cases w.session x <;> simp

theorem verifySelects_named (w : W) (i id : Nat) : w.verifySelects i (namedSession id) =
    if id = 0 then (w.cg.sessions.map SessionRec.id).filter fun x => w.hasExtentOf i x && !w.isOpenSession x else [id] := by
  unfold namedSession
  by_cases h : id = 0
  · rw [if_pos h, if_pos h]
    change (w.sessionsOn i).filter _ = _
    unfold W.sessionsOn
    rw [List.filter_filter]
    refine List.filter_congr fun x _ => ?_
    rw [isOpenSession_eq, Bool.and_comm, decide_not]
    rfl
  · rw [if_neg h, if_neg h]
    rfl

theorem verifyPins_named (w : W) (i id : Nat) : w.verifyPins i (namedSession id) =
    if id = 0 then (w.cg.sessions.map SessionRec.id).filter (w.hasExtentOf i)
    else if (w.session id).isSome then [id] else [] := by
  unfold namedSession
  by_cases h : id = 0
  · rw [if_pos h, if_pos h]
    rfl
  · rw [if_neg h, if_neg h]
    rfl

theorem nothingToVerify_iff (w : W) (i id : Nat) : nothingToVerify w i (namedSession id) = true ↔
    if id = 0 then w.verifySelects i (namedSession id) = [] else (w.session id).isNone ∨ w.hasExtentOf i id = false := by
  by_cases h : id = 0
  · subst h
    exact decide_eq_true_iff
  · have hn : namedSession id = some id := if_neg h
    rw [if_neg h, hn]
    change (_ || !w.hasExtentOf i id) = true ↔ _
    rw [Bool.or_eq_true, Bool.not_eq_true']

theorem openNamed_iff (w : W) (id : Nat) :
    decide (((namedSession id).bind w.session).map SessionRec.state = some SessionState.opened) = true ↔
      id ≠ 0 ∧ w.isOpenSession id = true := by
  by_cases h : id = 0
  · subst h
    exact iff_of_false (by simp [namedSession]) fun e => e.1 rfl
  · have hn : namedSession id = some id := if_neg h
    rw [hn, Option.bind_some, isOpenSession_eq]
    exact (and_iff_right h).symm

theorem startVerify_fields {label : Label} (hl : label.length = 8) (hi lo flags : Byte) :
    let p := label ++ [hi, lo, flags]
    p.take 8 = label ∧ fieldsOf [8, 2, 1] p 1 = hi.toNat * 256 + lo.toNat ∧ fieldsOf [8, 2, 1] p 2 = flags.toNat := by
  have h (k : Nat) := fieldsOf_flatten (sizes := [8, 2, 1]) (l := [label, [hi, lo], [flags]])
    (p := label ++ [hi, lo, flags]) (by simp [hl]) (by simp) k
  dsimp only
  refine ⟨List.take_left' hl, ?_, ?_⟩
  · simp [h, beNat]
  · simp [h, beNat]

theorem exec_startVerify {s : State} {f : RequestFrame} {p : List Byte} (h : s.requests f 0x50 p) (hp : p.length = 11)
    (hm : s.lib.mode ≠ .secured) : exec .startVerify s = .next (s.replying f (ownStartVerify s.work p)) :=
  State.ask_eq h (acceptedIn_of_ne _ hm) (decide_eq_true hp)

theorem startVerify_settles (s : State) (f : RequestFrame) (label : Label) (hi lo flags : Byte)
    (h : s.requests f 0x50 (label ++ [hi, lo, flags])) (hl : label.length = 8) (hm : s.lib.mode ≠ .secured) :
    let id := hi.toNat * 256 + lo.toNat
    exec .startVerify s = .next (
      if labelOk label = false ∨ 1 < flags.toNat then s.turnedDown f .badArgument .empty
      else match s.work.cartByLabel label with
        | none => s.turnedDown f .noSuchCartridge .empty
        | some i =>
          if isDataKind (s.work.kindOf i) = false ∨
              decide (((namedSession id).bind s.work.session).map SessionRec.state = some SessionState.opened) = true then
            s.turnedDown f .wrongState .empty
          else if decide (flags.toNat = 1) = false ∧ nothingToVerify s.work i (namedSession id) = true then
            s.turnedDown f .noSuchSession .empty
          else match s.work.admitVerify i label (namedSession id) (decide (flags.toNat = 1)) with
            | (_, none) => s.turnedDown f .queueFull .empty
            | (w, some n) => s.answered f w (.jobId n)) := by
  intro id
  obtain ⟨hlabel, hid, hflags⟩ := startVerify_fields hl hi lo flags
  rw [exec_startVerify h (by simp [hl]) hm]
  refine congrArg Host.Outcome.next ?_
  unfold ownStartVerify
  dsimp only
  rw [hlabel, hid, hflags, State.replying_ite]
  refine if_congr Iff.rfl (State.replying_refuse _ _ _ nofun) ?_
  cases s.work.cartByLabel label with
  | none => exact State.replying_refuse _ _ _ nofun
  | some i =>
    dsimp only
    rw [State.replying_ite, State.replying_ite]
    refine if_congr Iff.rfl (State.replying_refuse _ _ _ nofun) (if_congr Iff.rfl (State.replying_refuse _ _ _ nofun) ?_)
    exact replying_admitted_first s f s.work (s.work.admitVerify i label (namedSession id) (decide (flags.toNat = 1)))
      fun w n => answer w (.jobId n)

/-! ## START CLEAN (R86) -/

theorem exec_startClean {s : State} {f : RequestFrame} {n : Byte} (h : s.requests f 0x63 [n])
    (hm : s.lib.mode ≠ .secured) : exec .startClean s = .next (s.replying f (ownStartClean s.work [n])) :=
  State.ask_eq h (acceptedIn_of_ne _ hm) rfl

theorem ownStartClean_eq {w : W} {n : Byte} {d : Drive} (h : driveOfByte n.toNat = some d) : ownStartClean w [n] =
    match w.cleanJobOf d with
    | some n => { w := w, status := .duplicate, body := .jobId n }
    | none => (match (w.admitClean d).2 with
      | some n => answer (w.admitClean d).1 (.jobId n)
      | none => refuse w .queueFull) := by
  unfold ownStartClean
  rw [fieldsOf_one, h] <;> rfl

theorem admitClean_settles (s : State) (f : RequestFrame) (d : Drive) :
    s.replying f (match (s.work.admitClean d).2 with
      | some n => answer (s.work.admitClean d).1 (.jobId n)
      | none => refuse s.work .queueFull) = match s.work.admitJob .clean none (.drive d) .clean [] with
        | (_, none) => s.turnedDown f .queueFull .empty
        | (w, some k) => s.answered f { w with js := { w.js with cleanNeed := w.js.cleanNeed.put d false } } (.jobId k) := by
  unfold W.admitClean
  cases s.work.admitJob .clean none (.drive d) .clean [] with
  | mk w o =>
    cases o with
    | none => exact State.replying_refuse _ _ _ nofun
    | some k => rfl

theorem startClean_settles (s : State) (f : RequestFrame) (n : Byte) (h : s.requests f 0x63 [n])
    (hm : s.lib.mode ≠ .secured) (d : Drive) (hd : (n, d) ∈ [(65#8, Drive.d0), (66#8, .d1)]) :
    exec .startClean s = .next (
      match s.lib.js.jobs.find? fun j => j.kind = .clean ∧ j.state.isFinished = false ∧ j.target = .drive d with
      | some j => s.turnedDown f .duplicate (.jobId j.id)
      | none =>
        match s.work.admitJob .clean none (.drive d) .clean [] with
        | (_, none) => s.turnedDown f .queueFull .empty
        | (w, some k) => s.answered f { w with js := { w.js with cleanNeed := w.js.cleanNeed.put d false } }
            (.jobId k)) := by
  rw [exec_startClean h hm, ownStartClean_eq (driveOfByte_of_mem hd)]
  refine congrArg Host.Outcome.next ?_
  have hjob : s.work.cleanJobOf d = (s.lib.js.jobs.find? fun j => j.kind = .clean ∧ j.state.isFinished = false ∧
      j.target = .drive d).map Job.id := rfl
  rw [hjob]
  cases s.lib.js.jobs.find? fun j => j.kind = .clean ∧ j.state.isFinished = false ∧ j.target = .drive d with
  | some j => rfl
  | none => exact admitClean_settles s f d

/-! ## START RESTORE (R173 to R175) -/

/-- The objects of a range that are not available. -/
def goneObjects (l : List ExtentRec) (first last : Nat) : List Nat :=
  (objectRange first last).filter fun o => !objectAvailable l o

theorem not_gone {l : List ExtentRec} {first last o : Nat} (h : o ∈ objectRange first last) :
    (!(goneObjects l first last).contains o) = objectAvailable l o := by
  rw [Bool.eq_iff_iff, Bool.not_eq_true', ← Bool.not_eq_true, List.contains_iff_mem]
  simp [goneObjects, h]

theorem any_congr_mem {α : Type} {l : List α} {p q : α → Bool} (h : ∀ x ∈ l, p x = q x) : l.any p = l.any q := by
  induction l with
  | nil => rfl
  | cons x l ih =>
    rw [List.any_cons, List.any_cons, h x List.mem_cons_self, ih fun y hy => h y (List.mem_cons_of_mem x hy)]

theorem chainOf_available (l : List ExtentRec) (first last : Nat) : chainOf l first last (goneObjects l first last) =
    (l.filter fun e => (objectRange first last).any fun o => e.holdsObject o && objectAvailable l o).map linkOf := by
  unfold chainOf
  refine congrArg _ (List.filter_congr fun e _ => any_congr_mem fun o ho => ?_)
  rw [not_gone ho]

theorem nextObject_available (l : List ExtentRec) (first last : Nat) :
    ((objectRange first last).find? fun o => !(goneObjects l first last).contains o) =
      (objectRange first last).find? fun o => objectAvailable l o :=
  List.find?_congr fun _ ho => not_gone ho

/-- No object is left to restore exactly when every one of the range is gone. -/
theorem nextObject_none_iff (l : List ExtentRec) (first last : Nat) :
    ((objectRange first last).find? fun o => objectAvailable l o) = none ↔
      objectRange first last = goneObjects l first last := by
  rw [List.find?_eq_none, eq_comm, goneObjects, List.filter_eq_self]
  simp

theorem nextJobId_beyond (fuel : Nat) {last : Nat} (h : 255 ≤ last) (used : List Nat) :
    nextJobId (fuel + 1) last used = nextJobId (fuel + 1) 255 used := by
  unfold nextJobId
  rw [if_pos h, if_pos le_rfl]

theorem nextJobId_unused {last : Nat} {used : List Nat} (h : used.length < 255) : nextJobId 255 last used ∉ used := by
  obtain ⟨k, h1, h255, hk⟩ := exists_free_id h
  by_cases hl : last ≤ 255
  · exact (nextJobId_spec 255 hl h1 h255 hk (Nat.mod_lt _ (by omega))).2.2.1
  · rw [nextJobId_beyond 254 (by omega)]
    exact (nextJobId_spec 255 le_rfl h1 h255 hk (Nat.mod_lt _ (by omega))).2.2.1

/-- The record an admission has freed, if it had to. -/
def W.recordMade (w : W) : W :=
  if w.js.jobs.length < 16 then w
  else match w.oldestFinished with
    | some n => w.freeJob n
    | none => w

theorem recordMade_length {w : W} (hlen : w.js.jobs.length ≤ 16) (hcan : w.canAdmit = true) :
    w.recordMade.js.jobs.length < 16 := by
  unfold W.recordMade
  split
  next h => exact h
  next h =>
    have h16 : w.js.jobs.length = 16 := by omega
    unfold W.canAdmit at hcan
    rw [decide_eq_false h, Bool.false_or] at hcan
    obtain ⟨n, hn⟩ := Option.isSome_iff_exists.1 hcan
    rw [hn]
    obtain ⟨j, hj, rfl⟩ := Option.map_eq_some_iff.1 hn
    have hmem := (List.mem_filter.1 (sortBy_head hj).1).1
    rw [← h16]
    exact List.length_filter_lt_length_iff_exists.2 ⟨j, hmem, by simp⟩

/-- A job just admitted is found by its id. -/
theorem admitJob_job {w v : W} {kind : JobKind} {session : Option Nat} {target : Target} {progress : Progress}
    {pins : List Nat} {n : Nat} (hlen : w.js.jobs.length ≤ 16)
    (h : w.admitJob kind session target progress pins = (v, some n)) :
    ∃ seq, v.job n = some (W.admitted n seq kind session target progress pins) := by
  unfold W.admitJob at h
  split at h
  next => cases h
  next hcan =>
    have hroom := recordMade_length hlen (Bool.not_eq_false _ ▸ hcan)
    have hid := nextJobId_unused (last := w.recordMade.js.lastId) (used := w.recordMade.js.jobs.map Job.id)
      (by rw [List.length_map]; omega)
    obtain ⟨rfl, hn⟩ := Prod.mk.inj h
    cases hn
    have hfree : ∀ j ∈ w.recordMade.js.jobs, j.id ≠ nextJobId 255 w.recordMade.js.lastId (w.recordMade.js.jobs.map Job.id) :=
      fun j hj e => hid (e ▸ List.mem_map_of_mem hj)
    refine ⟨min (w.recordMade.js.lastSeq + 1) max64, ?_⟩
    rw [W.jobNotice_eq (h := ?found)]
    case found => exact find_job_append hfree rfl
    exact find_job_append hfree rfl

theorem damageNotices_eq (n : Nat) (l : List Nat) (w : W) :
    l.foldl (fun (v : W) o => v.damageNotice n o 65535 0 .noExtent none 0) w =
      { w with out := w.out ++ l.map fun o => .chunkDamaged n (w.sessionOf n) o 65535 0 .noExtent none 0 } := by
  induction l generalizing w with
  | nil => simp
  | cons o l ih =>
    rw [List.foldl_cons, ih]
    simp only [W.damageNotice, W.note, List.map_cons, List.append_assoc, List.cons_append, List.nil_append]
    rfl

/-- A RESTORE of a range with no object left ends INCOMPLETE. -/
theorem restoreOutcome_allGone {l : List ExtentRec} {first last : Nat} {policy : Policy} {hint : Hint} (hle : first ≤ last)
    (hg : objectRange first last = goneObjects l first last) :
    restoreOutcome (W.startRestoreData l first last policy hint) = .incomplete := by
  have habsent : 0 < (goneObjects l first last).length := by
    rw [← hg]
    simp only [objectRange, List.length_map, List.length_range]
    omega
  have hne : ¬((W.startRestoreData l first last policy hint).substituted = 0 ∧
      (W.startRestoreData l first last policy hint).absent = 0) := fun e => by
    have : (goneObjects l first last).length = 0 := e.2
    omega
  unfold restoreOutcome
  rw [if_neg hne]
  exact if_pos habsent

/-- The progress of a RESTORE at its admission, written out (R174, R175). -/
theorem startRestoreData_eq (l : List ExtentRec) (first last : Nat) (policy : Policy) (hint : Hint) :
    W.startRestoreData l first last policy hint =
      { firstObject := first, lastObject := last, policy := policy, hint := hint,
        chain := (l.filter fun e => (objectRange first last).any fun o => e.holdsObject o && objectAvailable l o).map linkOf,
        link := none, nextObject := (objectRange first last).find? fun o => objectAvailable l o, expect := 0,
        found := false, objectOffset := 0, delivered := 0, substituted := 0, absent := (goneObjects l first last).length,
        absentObjects := goneObjects l first last, out := [], headOffset := 0, todo := [], fromHint := false,
        hinted := false, relocating := false, stopped := false, filterFrom := first, removed := [] } := by
  rw [← chainOf_available, ← nextObject_available]
  rfl

theorem restoreAdmitted_eq {v : W} {n seq x first last : Nat} {target : Target} {l : List ExtentRec} {policy : Policy}
    {hint : Hint} (hle : first ≤ last)
    (hj : v.job n = some (W.admitted n seq .restore (some x) target (.restore (W.startRestoreData l first last policy hint)) [x])) :
    v.restoreAdmitted n =
      let noted : W := { v with
        out := v.out ++ (goneObjects l first last).map fun o => .chunkDamaged n x o 65535 0 .noExtent none 0 }
      if objectRange first last = goneObjects l first last then noted.endJob n .done .incomplete else noted := by
  have hdata (u : W) (hu : u.js = v.js) : u.restoreData n = some (W.startRestoreData l first last policy hint) := by
    have : u.job n = v.job n := by
      unfold W.job
      rw [hu]
    unfold W.restoreData
    rw [this, hj]
    rfl
  have hsession : v.sessionOf n = x := by
    unfold W.sessionOf
    rw [hj]
    rfl
  have hnext : (W.startRestoreData l first last policy hint).nextObject = none ↔
      objectRange first last = goneObjects l first last := by
    rw [← nextObject_none_iff, ← nextObject_available]
    rfl
  have hdone (u : W) (hu : u.js = v.js) : u.restoreDone n =
      if objectRange first last = goneObjects l first last then u.endJob n .done .incomplete else u := by
    unfold W.restoreDone
    rw [hdata u hu]
    dsimp only
    by_cases hg : objectRange first last = goneObjects l first last
    · rw [if_pos hg, if_pos ⟨hnext.2 hg, rfl⟩, restoreOutcome_allGone hle hg]
    · rw [if_neg hg, if_neg fun e => hg (hnext.1 e.1)]
  unfold W.restoreAdmitted
  rw [hdata v rfl]
  dsimp only
  rw [damageNotices_eq, hsession]
  exact hdone _ rfl

theorem restore_admission (s : State) (f : RequestFrame) (x : SessionRec) {first top : Nat} (hle : first ≤ top)
    (policy : Policy) {given : Hint} (hint : Hint) (hlen : s.lib.js.jobs.length ≤ 16) (hh : given = hint) :
    let data (h : Hint) := W.startRestoreData (s.work.extentsOf x.id) first top policy h
    let r (h : Hint) := s.work.admitJob .restore (some x.id) (.label (((data h).chain.head?.map Link.label).getD []))
      (.restore (data h)) [x.id]
    s.replying f (match (r given).2 with
      | some n => answer ((r given).1.restoreAdmitted n) (.restoreStarted n top)
      | none => refuse s.work .queueFull) = match r hint with
        | (_, none) => s.turnedDown f .queueFull .empty
        | (w, some n) =>
          let gone := goneObjects (s.work.extentsOf x.id) first top
          let noted : W := { w with
            out := w.out ++ gone.map fun o => .chunkDamaged n x.id o 65535 0 .noExtent none 0 }
          s.answered f (if objectRange first top = gone then noted.endJob n .done .incomplete else noted)
            (.restoreStarted n top) := by
  subst hh
  intro data r
  cases hr : r given with
  | mk v o =>
    cases o with
    | none => exact State.replying_refuse _ _ _ nofun
    | some n =>
      obtain ⟨seq, hj⟩ := admitJob_job hlen hr
      exact congrArg (fun w => s.answered f w (.restoreStarted n top)) (restoreAdmitted_eq hle hj)

theorem startRestore_fields {session first last label block : List Byte} (hs : session.length = 2) (hf : first.length = 3)
    (hl : last.length = 3) (hlab : label.length = 8) (hb : block.length = 4) :
    let p := session ++ first ++ last ++ label ++ block
    let f := fieldsOf [2, 3, 3, 8, 4] p
    f 0 = beNat session ∧ f 1 = beNat first ∧ f 2 = beNat last ∧ f 4 = beNat block ∧ (p.drop 8).take 8 = label := by
  have h (k : Nat) := fieldsOf_flatten (sizes := [2, 3, 3, 8, 4]) (l := [session, first, last, label, block])
    (p := session ++ first ++ last ++ label ++ block) (by simp [hs, hf, hl, hlab, hb]) (by simp) k
  dsimp only
  have hdrop : (session ++ first ++ last ++ label ++ block).drop 8 = label ++ block := by
    rw [List.append_assoc (session ++ first ++ last)]
    exact List.drop_left' (by simp [hs, hf, hl])
  rw [h, h, h, h, hdrop]
  exact ⟨rfl, rfl, rfl, rfl, List.take_left' hlab⟩

theorem exec_startRestore {s : State} {f : RequestFrame} {p : List Byte} (h : s.requests f 0x51 p) (hp : p.length = 20)
    (hm : s.lib.mode ≠ .secured) : exec .startRestore s = .next (s.replying f (ownStartRestore s.work p)) :=
  State.ask_eq h (acceptedIn_of_ne _ hm) (decide_eq_true hp)

theorem startRestore_settles (s : State) (f : RequestFrame) (session first last label block : List Byte)
    (h : s.requests f 0x51 (session ++ first ++ last ++ label ++ block)) (hs : session.length = 2)
    (hf : first.length = 3) (hla : last.length = 3) (hlab : label.length = 8) (hb : block.length = 4)
    (hm : s.lib.mode ≠ .secured) (hlen : s.lib.js.jobs.length ≤ 16) :
    let unhinted : Prop := label = List.replicate 8 0#8
    let hint : Hint := if label = List.replicate 8 0#8 then .none else .unused label (beNat block)
    let policy : Policy := if settingOf s.settings.working 6 = 2 then .substitute else .stop
    exec .startRestore s = .next (
      if beNat first = 0 ∨ (¬unhinted ∧ labelOk label = false) then s.turnedDown f .badArgument .empty
      else match s.work.session (beNat session) with
        | none => s.turnedDown f .noSuchSession .empty
        | some x =>
          let top := min (beNat last) x.objectsBegun
          let extents := s.lib.cg.extents.filter fun e => e.session = x.id
          let range := (List.range (top + 1 - beNat first)).map fun k => k + beNat first
          let gone := range.filter fun o => !objectAvailable extents o
          let chain := (extents.filter fun e => range.any fun o => e.holdsObject o && objectAvailable extents o).map linkOf
          if x.state = .opened then s.turnedDown f .wrongState .empty
          else if top < beNat first then s.turnedDown f .badArgument .empty
          else match s.work.admitJob .restore (some x.id) (.label ((chain.head?.map Link.label).getD []))
              (.restore
                { firstObject := beNat first, lastObject := top, policy := policy, hint := hint, chain := chain,
                  link := none, nextObject := range.find? fun o => objectAvailable extents o, expect := 0, found := false,
                  objectOffset := 0, delivered := 0, substituted := 0, absent := gone.length, absentObjects := gone,
                  out := [], headOffset := 0, todo := [], fromHint := false, hinted := false, relocating := false,
                  stopped := false, filterFrom := beNat first, removed := [] }) [x.id] with
            | (_, none) => s.turnedDown f .queueFull .empty
            | (w, some n) =>
              let noted : W := { w with
                out := w.out ++ gone.map fun o => .chunkDamaged n x.id o 65535 0 .noExtent none 0 }
              s.answered f (if range = gone then noted.endJob n .done .incomplete else noted) (.restoreStarted n top)) := by
  intro unhinted hint policy
  obtain ⟨h0, h1, h2, h4, hfield⟩ := startRestore_fields hs hf hla hlab hb
  rw [exec_startRestore h (by simp [hs, hf, hla, hlab, hb]) hm]
  refine congrArg Host.Outcome.next ?_
  have hlabel : (labelField label).any (fun l => !labelOk l) = true ↔ ¬unhinted ∧ labelOk label = false := by
    unfold labelField
    by_cases hz : label = List.replicate 8 0#8
    · rw [if_pos hz]
      exact iff_of_false nofun fun e => e.1 hz
    · rw [if_neg hz]
      simp [unhinted, hz]
  unfold ownStartRestore
  dsimp only
  rw [h0, h1, h2, h4, hfield, State.replying_ite]
  refine if_congr (or_congr_right hlabel) (State.replying_refuse _ _ _ nofun) ?_
  cases s.work.session (beNat session) with
  | none => exact State.replying_refuse _ _ _ nofun
  | some x =>
    dsimp only
    rw [State.replying_ite, State.replying_ite]
    refine if_congr Iff.rfl (State.replying_refuse _ _ _ nofun) ?_
    split
    next => exact State.replying_refuse _ _ _ nofun
    next hle =>
      refine (restore_admission s f x (Nat.le_of_not_lt hle) policy hint hlen ?_).trans ?_
      · unfold labelField
        by_cases hz : label = List.replicate 8 0#8
        · simp only [hint, if_pos hz]
        · simp only [hint, if_neg hz]
      · dsimp only
        rw [startRestoreData_eq]
        rfl

/-! ## Which object is available (R175) -/

theorem consecutive_cons (e : ExtentRec) (rest : List ExtentRec) : consecutive (e :: rest) = true ↔
    (∀ b, rest[0]? = some b → b.sequence = e.sequence + 1) ∧ consecutive rest = true := by
  change (_ && consecutive rest) = true ↔ _
  rw [Bool.and_eq_true]
  refine and_congr_left' ?_
  cases rest with
  | nil => simp
  | cons f rest => simp

theorem consecutive_iff (l : List ExtentRec) : consecutive l = true ↔
    ∀ (k : Nat) (a b : ExtentRec), l[k]? = some a → l[k + 1]? = some b → b.sequence = a.sequence + 1 := by
  induction l with
  | nil => exact iff_of_true rfl fun k a b h => by simp at h
  | cons e rest ih =>
    rw [consecutive_cons, ih]
    constructor
    · rintro ⟨h0, hk⟩ k a b ha hb
      cases k with
      | zero =>
        cases ha
        exact h0 b hb
      | succ k => exact hk k a b ha hb
    · intro h
      exact ⟨fun b hb => h 0 e b rfl hb, fun k a b ha hb => h (k + 1) a b ha hb⟩

theorem holdsObject_eq (e : ExtentRec) (o : Nat) :
    e.holdsObject o = (e.firstObject.any (fun a => decide (a ≤ o)) && e.lastObject.any fun b => decide (o ≤ b)) := by
  unfold ExtentRec.holdsObject
  cases e.firstObject <;> cases e.lastObject <;> simp

theorem objectAvailable_iff (l : List ExtentRec) (o : Nat) : objectAvailable l o = true ↔
    let held := l.filter fun e => e.holdsObject o
    held ≠ [] ∧
      (∀ (k : Nat) (a b : ExtentRec), held[k]? = some a → held[k + 1]? = some b → b.sequence = a.sequence + 1) ∧
      (∀ a, held.head? = some a → a.firstObject = some o → a.firstChunk = 0) ∧
      (∀ z, held.getLast? = some z → z.lastObject = some o → z.continues = true →
        ∃ e ∈ l, e.sequence = z.sequence + 1) := by
  unfold objectAvailable
  dsimp only
  rw [← consecutive_iff]
  generalize l.filter (fun e => e.holdsObject o) = held
  cases held with
  | nil => simp
  | cons a rest =>
    obtain ⟨z, hz⟩ : ∃ z, (a :: rest).getLast? = some z := ⟨_, List.getLast?_eq_some_getLast (List.cons_ne_nil a rest)⟩
    rw [hz, List.head?_cons]
    simp only [Bool.and_eq_true, Bool.or_eq_true, decide_eq_true_eq, List.any_eq_true, Bool.not_eq_true', Option.some.injEq,
      forall_eq', ne_eq, reduceCtorEq, not_false_eq_true, true_and, and_assoc]
    rw [imp_iff_not_or, or_assoc, ← Bool.not_eq_true, imp_iff_not_or, imp_iff_not_or]

/-! ## The obligation -/

theorem rebuild_eq (flags : Byte) : decide (flags.toNat = 1) = decide (flags = 1#8) := by
  rw [decide_eq_decide]
  exact byte_eq_iff flags (show 1 < 256 by omega)

/-- Of the two flags of START VERIFY the one that is not REBUILD is 0. -/
theorem not_rebuild_iff {flags : Byte} (h : ¬1 < flags.toNat) : decide (flags.toNat = 1) = false ↔ flags = 0#8 := by
  rw [decide_eq_false_iff_not, ← byte_zero_iff]
  omega

theorem namedSession_isNone (id : Nat) : (namedSession id).isNone = decide (id = 0) := by
  unfold namedSession
  by_cases h : id = 0 <;> simp [h]

/-- The admission of a VERIFY, its selection and its pins written out (R161, R162). -/
theorem admitVerify_named (w : W) (i id : Nat) (label : Label) (rebuild : Bool) :
    let selected := if id = 0 then
      (w.cg.sessions.map SessionRec.id).filter fun x => w.hasExtentOf i x && !w.isOpenSession x else [id]
    w.admitVerify i label (namedSession id) rebuild =
      w.admitJob .verify (if id = 0 then none else some id) (.label label)
        (.verify
          { all := decide (id = 0), rebuild := rebuild, selected := selected,
            extents := ((w.extentsOn i).filter fun e => selected.contains e.session).map fun e =>
              { session := e.session, sequence := e.sequence, check := .pending, tally := zeroTally },
            current := .none, expect := .unset, tally := zeroTally, totals := zeroTally, stray := 0, rebuilt := 0,
            conflicts := 0, endedVerified := 0, endedDamaged := 0, damageFound := false, skipped := [], entered := none,
            lastParsed := none, firstUnreadable := false, firstMoved := false })
        (if id = 0 then (w.cg.sessions.map SessionRec.id).filter (w.hasExtentOf i)
          else if (w.session id).isSome then [id] else []) := by
  intro selected
  have hsel : w.verifySelects i (namedSession id) = selected := verifySelects_named w i id
  unfold W.admitVerify W.startVerifyData
  rw [hsel, verifyPins_named, namedSession_isNone]
  rfl

/-- Settles O41. -/
theorem jobsAreStartedOnRequest : Obligations.JobsAreStartedOnRequest := by
  refine ⟨openSession_settles, ?_, startRestore_settles, fun s f n h hm => ⟨fun h65 h66 => ?_, startClean_settles s f n h hm⟩,
    fun l o => ⟨fun e => holdsObject_eq e o, ?_⟩⟩
  · intro s f label hi lo flags h hl hm id on isOpen selected pinned zero progress
    refine (startVerify_settles s f label hi lo flags h hl hm).trans (congrArg Host.Outcome.next ?_)
    by_cases hbad : labelOk label = false ∨ 1 < flags.toNat
    · rw [if_pos hbad, if_pos hbad]
    · rw [if_neg hbad, if_neg hbad]
      cases s.work.cartByLabel label with
      | none => rfl
      | some i =>
        have hflag := not_rebuild_iff fun e => hbad (.inr e)
        refine if_congr (or_congr (isDataKind_iff _) (openNamed_iff s.work id)) rfl (if_congr ?_ rfl ?_)
        · refine and_congr hflag ?_
          rw [nothingToVerify_iff, verifySelects_named]
          rfl
        · rw [admitVerify_named, rebuild_eq]
          rfl
  · rw [exec_startClean h hm]
    unfold ownStartClean
    rw [fieldsOf_one, driveOfByte_unknown h65 h66]
    exact congrArg _ (State.replying_refuse _ _ _ nofun)
  · rw [objectAvailable_iff]
    have hh : (fun e : ExtentRec => e.holdsObject o) = fun e =>
        e.firstObject.any (fun a => decide (a ≤ o)) && e.lastObject.any fun b => decide (o ≤ b) :=
      funext fun e => holdsObject_eq e o
    rw [hh]

end Sys2Proof.Machine

/-! PROOF. Dispatch (R74 to R78): the order of the jobs, what is free and available, the choices, and what becomes of a job. -/

namespace Sys2Proof.Machine

/-! ## The order of a pass (R75) -/

theorem waitsForDispatch_eq (j : Job) : W.waitsForDispatch j =
    ((decide (j.state = .queued) || (decide (j.state = .waiting) && decide (j.waitReason ≠ some .catalog))) &&
      !j.abortPending && !(j.backup?.any BackupData.truncating)) := by
  unfold W.waitsForDispatch Job.backup?
  cases j.progress <;> simp

/-- Jobs in the order of a pass stand by class, then by `seq`. -/
theorem passOrder_le {a b : Job} (ha : a.seq ≤ 2 ^ 64 - 1) (hb : b.seq ≤ 2 ^ 64 - 1) (h : W.passOrder a ≤ W.passOrder b) :
    classOf a.kind < classOf b.kind ∨ (a.kind = b.kind ∧ a.seq ≤ b.seq) := by
  unfold W.passOrder max64 at h
  rcases Nat.lt_trichotomy (classOf a.kind) (classOf b.kind) with hlt | heq | hgt
  · exact .inl hlt
  · rw [heq] at h
    refine .inr ⟨?_, by omega⟩
    revert heq
    cases a.kind <;> cases b.kind <;> simp [classOf]
  · have : (classOf b.kind + 1) * (2 ^ 64 - 1 + 1) ≤ classOf a.kind * (2 ^ 64 - 1 + 1) := Nat.mul_le_mul_right _ hgt
    omega

theorem dispatch_online {w : W} (ho : w.mode = .online) :
    w.dispatch = ((sortBy W.passOrder (w.js.jobs.filter W.waitsForDispatch)).map Job.id).foldl W.dispatchOne w := if_pos ho

/-! ## What is free and available (R74) -/

theorem isMoveSource_eq_false_iff (w : W) (e : Element) :
    w.isMoveSource e = false ↔ ∀ m, w.cc.current = some (.move m) → m.source ≠ e := by
  unfold W.isMoveSource W.currentMove
  rw [decide_eq_false_iff_not]
  cases w.cc.current with
  | none => simp
  | some x => cases x <;> simp

theorem cleanJobOf_eq_none_iff (w : W) (d : Drive) : w.cleanJobOf d = none ↔
    ∀ k ∈ w.js.jobs, k.kind = .clean → k.target = .drive d → k.state.isFinished = true := by
  unfold W.cleanJobOf
  rw [Option.map_eq_none_iff, List.find?_eq_none]
  refine forall₂_congr fun k _ => ?_
  rw [decide_eq_true_iff, ← Bool.not_eq_false]
  constructor
  · exact fun h hk ht hf => h ⟨hk, hf, ht⟩
  · exact fun h ⟨hk, hf, ht⟩ => h hk ht hf

/-- What R74 asks of the cartridge in a drive that is free. -/
theorem driveFree_cartridge_iff (w : W) (d : Drive) : (match (w.port d).cartridge with
      | .none => true
      | .untracked => !w.isMoveSource (.drive d)
      | .cart i => decide (w.claimOf i = none) && !w.js.returning.contains i && !w.isMoveSource (.drive d)) = true ↔
    ((w.port d).cartridge ≠ .none → ∀ m, w.cc.current = some (.move m) → m.source ≠ .drive d) ∧
      ∀ i, (w.port d).cartridge = .cart i → w.claimOf i = none ∧ i ∉ w.js.returning := by
  cases (w.port d).cartridge with
  | none => simp
  | untracked => simp [isMoveSource_eq_false_iff]
  | cart i => simp [isMoveSource_eq_false_iff, and_comm]

theorem driveFree_iff (w : W) (j : Job) (d : Drive) : w.driveFree j d = true ↔
    (w.port d).state ∈ [PortState.empty, .holding, .ready] ∧ (w.port d).recovered = false ∧ w.driveClaim d = none ∧
      ((w.port d).cartridge ≠ .none → ∀ m, w.cc.current = some (.move m) → m.source ≠ .drive d) ∧
      (∀ i, (w.port d).cartridge = .cart i → w.claimOf i = none ∧ i ∉ w.js.returning) ∧
      (j.kind ≠ .clean → ((w.stream d).job = none ∨ (w.stream d).job = some j.id) ∧
        ∀ k ∈ w.js.jobs, k.kind = .clean → k.target = .drive d → k.state.isFinished = true) ∧
      (j.kind = .clean → j.target = .drive d) := by
  have hcart := driveFree_cartridge_iff w d
  rw [← cleanJobOf_eq_none_iff]
  unfold W.driveFree
  dsimp only
  simp only [Bool.and_eq_true]
  constructor
  · rintro ⟨⟨⟨⟨⟨⟨hs, hr⟩, hc⟩, hm⟩, hst⟩, hcl⟩, ht⟩
    obtain ⟨h1, h2⟩ := hcart.1 (by exact hm)
    refine ⟨by simpa [or_assoc] using hs, by simpa using hr, by simpa using hc, h1, h2, fun hk => ⟨?_, ?_⟩, fun hk => ?_⟩
    · simpa [hk] using hst
    · simpa [hk] using hcl
    · simpa [hk] using ht
  · rintro ⟨hs, hr, hc, h1, h2, hd, ht⟩
    refine ⟨⟨⟨⟨⟨⟨by simpa [or_assoc] using hs, by simpa using hr⟩, by simpa using hc⟩, by exact hcart.2 ⟨h1, h2⟩⟩, ?_⟩, ?_⟩, ?_⟩
    · by_cases hk : j.kind = .clean
      · simp [hk]
      · simpa [hk] using (hd hk).1
    · by_cases hk : j.kind = .clean
      · simp [hk]
      · simpa [hk] using (hd hk).2
    · by_cases hk : j.kind = .clean
      · simpa [hk] using ht hk
      · simp [hk]

theorem available_iff (w : W) (j : Job) (i : Nat) : w.available j i = true ↔
    ∃ c, w.cart i = some c ∧ c.claim = none ∧ i ∉ w.js.returning ∧
      ((∃ n, c.location = some (.slot n) ∧ (w.slotAt (.slot n)).state = .occupied ∧ (w.slotAt (.slot n)).holder = some i ∧
          ∀ m, w.cc.current = some (.move m) → m.source ≠ .slot n) ∨
        ∃ d, c.location = some (.drive d) ∧ w.driveFree j d = true ∧
          ∀ m, w.cc.current = some (.move m) → m.source ≠ .drive d) := by
  unfold W.available
  cases w.cart i with
  | none => simp
  | some c =>
    simp only [Option.some.injEq, exists_eq_left', Bool.and_eq_true, decide_eq_true_eq, Bool.not_eq_true',
      and_assoc, ← isMoveSource_eq_false_iff]
    refine and_congr_right fun _ => and_congr ?_ ?_
    · rw [← Bool.not_eq_true, List.contains_iff_mem]
    · cases c.location with
      | none => simp
      | some e => cases e <;> simp [and_assoc]

/-! ## The record of lowest rank -/

/-- The best of a list so far: the record and its rank. -/
def betterOf (rank : Nat → Option Nat) (best : Option (Nat × Nat)) (i : Nat) : Option (Nat × Nat) :=
  match rank i, best with
  | some r, some (b, q) => if r < q then some (i, r) else some (b, q)
  | some r, none => some (i, r)
  | none, _ => best

/-- What a search for the lowest rank holds: a record seen with its rank, below every rank seen. -/
def isBest (rank : Nat → Option Nat) (seen : Nat → Prop) : Option (Nat × Nat) → Prop
  | none => ∀ i, seen i → rank i = none
  | some (b, q) => seen b ∧ rank b = some q ∧ ∀ i r, seen i → rank i = some r → q ≤ r

theorem isBest_betterOf {rank : Nat → Option Nat} {seen : Nat → Prop} {best : Option (Nat × Nat)} (h : isBest rank seen best)
    (i : Nat) : isBest rank (fun k => seen k ∨ k = i) (betterOf rank best i) := by
  unfold betterOf
  cases hr : rank i with
  | none =>
    cases best with
    | none =>
      rintro k (hk | rfl)
      · exact h k hk
      · exact hr
    | some p =>
      obtain ⟨hs, hq, hmin⟩ := h
      refine ⟨.inl hs, hq, ?_⟩
      rintro k r (hk | rfl) hkr
      · exact hmin k r hk hkr
      · rw [hr] at hkr
        cases hkr
  | some r =>
    cases best with
    | none =>
      refine ⟨.inr rfl, hr, ?_⟩
      rintro k q (hk | rfl) hkr
      · rw [h k hk] at hkr
        cases hkr
      · rw [hr] at hkr
        cases hkr
        exact le_rfl
    | some p =>
      obtain ⟨hs, hq, hmin⟩ := h
      dsimp only
      split
      next hlt =>
        refine ⟨.inr rfl, hr, ?_⟩
        rintro k q (hk | rfl) hkr
        · exact hlt.le.trans (hmin k q hk hkr)
        · rw [hr] at hkr
          cases hkr
          exact le_rfl
      next hle =>
        refine ⟨.inl hs, hq, ?_⟩
        rintro k q (hk | rfl) hkr
        · exact hmin k q hk hkr
        · rw [hr] at hkr
          cases hkr
          exact Nat.le_of_not_lt hle

theorem isBest_foldl {rank : Nat → Option Nat} (l : List Nat) {seen : Nat → Prop} {best : Option (Nat × Nat)}
    (h : isBest rank seen best) : isBest rank (fun k => seen k ∨ k ∈ l) (l.foldl (betterOf rank) best) := by
  induction l generalizing seen best with
  | nil => simpa using h
  | cons i l ih => simpa [or_assoc] using ih (isBest_betterOf h i)

theorem lowestRank_spec (l : List Nat) (rank : Nat → Option Nat) :
    (W.lowestRank l rank = none ∧ ∀ i ∈ l, rank i = none) ∨
      ∃ b q, W.lowestRank l rank = some b ∧ b ∈ l ∧ rank b = some q ∧ ∀ i ∈ l, ∀ r, rank i = some r → q ≤ r := by
  have h := isBest_foldl (rank := rank) l (seen := fun _ => False) (best := none) (fun i hi => hi.elim)
  have e : W.lowestRank l rank = (l.foldl (betterOf rank) none).map Prod.fst := rfl
  rw [e]
  cases hb : l.foldl (betterOf rank) none with
  | none =>
    rw [hb] at h
    exact .inl ⟨rfl, fun i hi => h i (.inr hi)⟩
  | some p =>
    rw [hb] at h
    obtain ⟨hs, hq, hmin⟩ := h
    exact .inr ⟨p.1, p.2, rfl, hs.resolve_left id, hq, fun i hi r hr => hmin i r (.inr hi) hr⟩

/-! ## The choice of a cartridge (R76, R77) -/

/-- A record's place in the order of homes (R76). -/
def placeOf (i : Nat) (c : CartRec) : Nat := c.home.getD (100 + i)

/-- The blocks used that a choice goes by (R76). -/
def usedBlocks (c : CartRec) : Nat := match c.blocksUsed with
  | .known n => n
  | .unknown => 0
  | .absent => 0

/-- OPEN before BLANK before NEW (R76). -/
def choiceGroup (c : CartRec) : Nat := if c.state = .opened then 0 else if c.state = .blank then 1 else 2

theorem homeRank_eq {w : W} {i : Nat} {c : CartRec} (h : w.cart i = some c) : w.homeRank i = placeOf i c := by
  unfold W.homeRank W.homeOf placeOf
  rw [h, Option.bind_some]
  cases c.home <;> rfl

/-- The rank that a BACKUP's candidate has, by its group. -/
theorem backupRank_eq {w : W} {i : Nat} {c : CartRec} (h : w.cart i = some c) : w.backupRank i =
    if c.state = .opened then some ((10000000 - usedBlocks c) * 1000 + placeOf i c)
    else if c.state = .blank then some (20000000000 + placeOf i c)
    else if c.state = .new then some (30000000000 + placeOf i c) else none := by
  unfold W.backupRank
  rw [h, homeRank_eq h]
  dsimp only
  cases c.state with
  | opened | blank | new | full | suspect | retired | cleaning | expired | foreign => rfl

theorem backupRank_isSome_iff {w : W} {i : Nat} {c : CartRec} (h : w.cart i = some c) :
    (w.backupRank i).isSome = true ↔ c.state ∈ [MediaState.opened, .blank, .new] := by
  rw [backupRank_eq h]
  cases c.state <;> simp

/-- Of two candidates the one of lower rank comes first by group, then by blocks used, then by home. -/
theorem backupRank_order {w : W} {i k q r : Nat} {c e : CartRec} (hi : w.cart i = some c) (hk : w.cart k = some e)
    (hc : usedBlocks c ≤ 10000000 ∧ placeOf i c < 1000) (he : usedBlocks e ≤ 10000000 ∧ placeOf k e < 1000)
    (hq : w.backupRank i = some q) (hr : w.backupRank k = some r) (hle : q ≤ r) :
    choiceGroup c < choiceGroup e ∨ (choiceGroup c = choiceGroup e ∧
      ((choiceGroup c = 0 ∧ usedBlocks e < usedBlocks c) ∨
        ((choiceGroup c ≠ 0 ∨ usedBlocks e = usedBlocks c) ∧ placeOf i c ≤ placeOf k e))) := by
  rw [backupRank_eq hi] at hq
  rw [backupRank_eq hk] at hr
  unfold choiceGroup
  split at hq
  next hco =>
    cases hq
    split at hr
    next heo =>
      cases hr
      rw [if_pos hco, if_pos heo]
      omega
    next heo => exact .inl (by rw [if_pos hco, if_neg heo]; split <;> omega)
  next hco =>
    split at hr
    next =>
      cases hr
      split at hq
      next => cases hq; omega
      next => split at hq <;> cases hq; omega
    next heo =>
      rw [if_neg hco, if_neg heo]
      split at hq
      next hcb =>
        cases hq
        split at hr
        next heb => cases hr; rw [if_pos hcb, if_pos heb]; omega
        next heb => exact .inl (by rw [if_pos hcb, if_neg heb]; omega)
      next hcb =>
        split at hq
        next =>
          cases hq
          split at hr
          next => cases hr; omega
          next heb =>
            split at hr <;> cases hr
            rw [if_neg hcb, if_neg heb]
            omega
        next => cases hq

/-- A cartridge that a BACKUP may take (R76). -/
def W.fitsBackup (w : W) (j : Job) (p i : Nat) (c : CartRec) : Prop :=
  i < 64 ∧ w.cart i = some c ∧ c.state ∈ [MediaState.opened, .blank, .new] ∧ (c.kind = some .a ∨ c.kind = some .b) ∧
    c.pool = p ∧ c.writeProtect ≠ .yes ∧ w.available j i = true

theorem isDataKind_true_iff (k : Option CartKind) : isDataKind k = true ↔ k = some .a ∨ k = some .b := by
  rcases k with _ | k
  · simp [isDataKind]
  · cases k <;> simp [isDataKind]

/-- The records that a BACKUP's choice looks through. -/
def W.backupCandidates (w : W) (j : Job) (p : Nat) : List Nat :=
  W.cartIndices.filter fun i => match w.cart i with
    | some c => isDataKind c.kind && decide (c.pool = p) && decide (c.writeProtect ≠ .yes) && w.available j i
    | none => false

theorem fitsBackup_iff (w : W) (j : Job) (p i : Nat) (c : CartRec) (hc : w.cart i = some c) :
    w.fitsBackup j p i c ↔ i ∈ w.backupCandidates j p ∧ (w.backupRank i).isSome = true := by
  unfold W.fitsBackup W.backupCandidates W.cartIndices
  rw [backupRank_isSome_iff hc, List.mem_filter, List.mem_range, hc]
  simp only [Bool.and_eq_true, decide_eq_true_eq, isDataKind_true_iff, true_and]
  tauto

theorem mem_backupCandidates_cart {w : W} {j : Job} {p i : Nat} (h : i ∈ w.backupCandidates j p) : ∃ c, w.cart i = some c := by
  have := (List.mem_filter.1 h).2
  cases hc : w.cart i with
  | none => rw [hc] at this; cases this
  | some c => exact ⟨c, rfl⟩

theorem chooseBackup_spec (w : W) (j : Job) (p : Nat) :
    (w.chooseBackup j p = none ∧ ∀ i c, ¬w.fitsBackup j p i c) ∨
      ∃ b c q, w.chooseBackup j p = some b ∧ w.fitsBackup j p b c ∧ w.backupRank b = some q ∧
        ∀ i e r, w.fitsBackup j p i e → w.backupRank i = some r → q ≤ r := by
  rcases lowestRank_spec (w.backupCandidates j p) w.backupRank with ⟨hn, hall⟩ | ⟨b, q, hb, hmem, hq, hmin⟩
  · refine .inl ⟨hn, fun i c hf => ?_⟩
    obtain ⟨hm, hs⟩ := (fitsBackup_iff w j p i c hf.2.1).1 hf
    rw [hall i hm] at hs
    cases hs
  · obtain ⟨c, hc⟩ := mem_backupCandidates_cart hmem
    refine .inr ⟨b, c, q, hb, (fitsBackup_iff w j p b c hc).2 ⟨hmem, by rw [hq]; rfl⟩, hq, fun i e r hf hr => ?_⟩
    exact hmin i ((fitsBackup_iff w j p i e hf.2.1).1 hf).1 r hr

theorem chooseCart_pool {w : W} {j : Job} {p : Nat} (h : j.target = .pool p) : w.chooseCart j =
    match w.chooseBackup j p with
    | some i => .cart i
    | none => .missing := by
  unfold W.chooseCart
  rw [h] <;> rfl

theorem chooseCart_drive {w : W} {j : Job} {d : Drive} (h : j.target = .drive d) : w.chooseCart j =
    match w.chooseCleaning j d with
    | some i => .cart i
    | none => .missing := by
  unfold W.chooseCart
  rw [h] <;> rfl

theorem chooseCart_label {w : W} {j : Job} {l : Label} (h : j.target = .label l) : w.chooseCart j =
    match w.cartByLabel l with
    | none => .missing
    | some i =>
      if w.locationOf i = none then .missing
      else if isDataKind (w.kindOf i) = false then .wrong
      else if w.available j i then .cart i
      else .taken := by
  unfold W.chooseCart
  rw [h] <;> rfl

/-- A cleaning cartridge that a CLEAN may take (R77). -/
def W.fitsClean (w : W) (j : Job) (i : Nat) (c : CartRec) : Prop :=
  i < 64 ∧ w.cart i = some c ∧ c.kind = some .clean ∧ c.state = .cleaning ∧ 0 < c.usesLeft.getD 0 ∧ w.available j i = true

/-- The records that a CLEAN's choice looks through. -/
def W.cleanCandidates (w : W) (j : Job) : List Nat :=
  W.cartIndices.filter fun i => match w.cart i with
    | some c =>
      decide (c.kind = some .clean) && decide (c.state = .cleaning) && decide (0 < c.usesLeft.getD 0) && w.available j i
    | none => false

theorem mem_cleanCandidates_iff (w : W) (j : Job) (i : Nat) : i ∈ w.cleanCandidates j ↔ ∃ c, w.fitsClean j i c := by
  unfold W.cleanCandidates W.fitsClean W.cartIndices
  rw [List.mem_filter, List.mem_range]
  cases w.cart i with
  | none => simp
  | some c => simp [and_assoc]

theorem chooseCleaning_eq (w : W) (j : Job) (d : Drive) : w.chooseCleaning j d =
    ((w.cleanCandidates j).find? fun i => w.locationOf i = some (.drive d)).or
      (W.lowestRank (w.cleanCandidates j) fun i => some (w.homeRank i)) := rfl

theorem locationOf_cart {w : W} {i : Nat} {c : CartRec} (h : w.cart i = some c) : w.locationOf i = c.location := by
  unfold W.locationOf
  rw [h]
  rfl

theorem chooseCleaning_spec (w : W) (j : Job) (d : Drive) :
    (w.chooseCleaning j d = none ∧ ∀ i c, ¬w.fitsClean j i c) ∨
      ∃ b c, w.chooseCleaning j d = some b ∧ w.fitsClean j b c ∧ (c.location = some (.drive d) ∨
        ∀ k e, w.fitsClean j k e → e.location ≠ some (.drive d) ∧ placeOf b c ≤ placeOf k e) := by
  rw [chooseCleaning_eq]
  cases hf : (w.cleanCandidates j).find? fun i => w.locationOf i = some (.drive d) with
  | some b =>
    obtain ⟨c, hc⟩ := (mem_cleanCandidates_iff w j b).1 (List.mem_of_find?_eq_some hf)
    have hloc : w.locationOf b = some (.drive d) := by simpa using List.find?_some hf
    rw [locationOf_cart hc.2.1] at hloc
    exact .inr ⟨b, c, rfl, hc, .inl hloc⟩
  | none =>
    have hno : ∀ k e, w.fitsClean j k e → e.location ≠ some (.drive d) := fun k e hk hl => by
      have := List.find?_eq_none.1 hf k ((mem_cleanCandidates_iff w j k).2 ⟨e, hk⟩)
      rw [locationOf_cart hk.2.1, hl] at this
      exact this (decide_eq_true rfl)
    rw [Option.none_or]
    rcases lowestRank_spec (w.cleanCandidates j) fun i => some (w.homeRank i) with ⟨hn, hall⟩ | ⟨b, q, hb, hmem, hq, hmin⟩
    · refine .inl ⟨hn, fun i c hc => ?_⟩
      cases hall i ((mem_cleanCandidates_iff w j i).2 ⟨c, hc⟩)
    · obtain ⟨c, hc⟩ := (mem_cleanCandidates_iff w j b).1 hmem
      refine .inr ⟨b, c, hb, hc, .inr fun k e hk => ⟨hno k e hk, ?_⟩⟩
      cases hq
      have := hmin k ((mem_cleanCandidates_iff w j k).2 ⟨e, hk⟩) _ rfl
      rwa [homeRank_eq hc.2.1, homeRank_eq hk.2.1] at this

/-! ## The choice of a drive (R78) -/

theorem drivesFor_eq (w : W) (j : Job) : w.drivesFor j = match j.target with
    | .drive d => [d]
    | .label _ => [Drive.d0, .d1]
    | .pool _ => match j.stream with
      | some d => if (w.port d).state ∈ [PortState.absent, .init, .faulted] then [otherDrive d] else [d]
      | none => [Drive.d0, .d1] := by
  unfold W.drivesFor
  cases j.target with
  | drive d | label l => rfl
  | pool p =>
    cases j.stream with
    | none => rfl
    | some d => exact if_congr (isDown_iff _) rfl rfl

/-! ## What becomes of a job (R75) -/

theorem changerBars_iff (w : W) : w.changerBars = true ↔ w.cc.state ∈ [ChangerState.faultHold, .locked, .held, .unhomed] := by
  unfold W.changerBars
  cases w.cc.state <;> simp

/-- One state's Cartridge Table and drive claims are the other's. -/
def W.sameClaims (w v : W) : Prop := v.ct = w.ct ∧ v.js.claims = w.js.claims

theorem W.sameClaims.trans {w v u : W} (h : w.sameClaims v) (k : v.sameClaims u) : w.sameClaims u :=
  ⟨k.1.trans h.1, k.2.trans h.2⟩

theorem sameClaims_rfl {w v : W} (h : v.ct = w.ct := by rfl) (k : v.js.claims = w.js.claims := by rfl) : w.sameClaims v := ⟨h, k⟩

theorem sameClaims_jobNotice (w : W) (n : Nat) (was : Option JobState) : w.sameClaims (w.jobNotice n was) := by
  unfold W.jobNotice
  split <;> exact sameClaims_rfl

theorem sameClaims_setJob (w : W) (n : Nat) (s : JobState) (why : Option WaitReason) : w.sameClaims (w.setJob n s why) := by
  unfold W.setJob
  split
  · exact sameClaims_rfl
  · split
    · exact sameClaims_rfl
    · exact W.sameClaims.trans sameClaims_rfl (sameClaims_jobNotice _ n _)

theorem sameClaims_enterPort (w : W) (d : Drive) (s : PortState) : w.sameClaims (w.enterPort d s) := by
  rw [W.enterPort_eq]
  refine ⟨rfl, ?_⟩
  dsimp only
  split <;> rfl

theorem sameClaims_requestOp (w : W) (d : Drive) (op : PortOp) (r : Requester) : w.sameClaims (w.requestOp d op r).1 := by
  unfold W.requestOp
  split
  · exact sameClaims_rfl
  · split
    · exact sameClaims_rfl
    · exact W.sameClaims.trans sameClaims_rfl (sameClaims_enterPort _ d _)

theorem sameClaims_queueMove (w : W) (o : Origin) (e : Element) (a : Dest) (l : Option Label) (t : Nat) (i : Option Nat) :
    w.sameClaims (w.queueMove o e a l t i).1 := by
  rw [W.queueMove_eq]
  split <;> exact sameClaims_rfl

theorem sameClaims_issueMove (w : W) (o : Origin) (e : Element) (a : Dest) (i : Option Nat) :
    w.sameClaims (w.issueMove o e a i).1 := by
  unfold W.issueMove
  dsimp only
  split
  · split
    · exact W.sameClaims.trans sameClaims_rfl (sameClaims_queueMove _ o e a _ _ i)
    · exact sameClaims_rfl
  · exact sameClaims_rfl

theorem sameClaims_issueJobMove (w : W) (n : Nat) (e : Element) (a : Dest) (i : Option Nat) (s : MountStep) :
    w.sameClaims (w.issueJobMove n e a i s) :=
  (sameClaims_issueMove w (.job n) e a i).trans sameClaims_rfl

/-- A mount step with its operation. -/
theorem sameClaims_step (w : W) (n : Nat) (s : MountStep) (d : Drive) (op : PortOp) (r : Requester) :
    w.sameClaims ((w.atStep n s).askOp d op r) := W.sameClaims.trans sameClaims_rfl (sameClaims_requestOp _ d op r)

theorem sameClaims_startCleaning (w : W) (n : Nat) (d : Drive) : w.sameClaims (w.startCleaning n d) :=
  W.sameClaims.trans sameClaims_rfl ((sameClaims_setJob _ n .running none).trans (sameClaims_requestOp _ d .clean (.job n)))

theorem sameClaims_mountLoaded (w : W) (n : Nat) (j : Job) (d : Drive) (i : Nat) : w.sameClaims (w.mountLoaded n j d i) := by
  unfold W.mountLoaded
  split
  case h_2 =>
    split
    · exact sameClaims_startCleaning w n d
    · split <;> exact sameClaims_step w n _ d _ _
  case h_1 => exact sameClaims_step w n _ d _ _
  all_goals exact sameClaims_rfl

theorem sameClaims_mountBring (w : W) (n : Nat) (j : Job) (d : Drive) (i : Nat) : w.sameClaims (w.mountBring n j d i) := by
  unfold W.mountBring
  split
  · exact sameClaims_mountLoaded w n j d i
  · dsimp only
    split
    case h_1 =>
      split
      · exact sameClaims_step w n _ _ _ _
      · exact sameClaims_issueJobMove w n _ _ _ _
    case h_5 => exact sameClaims_rfl
    all_goals exact sameClaims_issueJobMove w n _ _ _ _

theorem sameClaims_mountNext (w : W) (n : Nat) : w.sameClaims (w.mountNext n) := by
  unfold W.mountNext
  split
  · exact sameClaims_rfl
  · split
    · dsimp only
      split
      · exact sameClaims_mountBring w n _ _ _
      · split
        · exact sameClaims_step w n _ _ _ _
        · exact sameClaims_issueJobMove w n _ _ _ _
    · exact sameClaims_rfl

theorem sameClaims_bind (w : W) (n : Nat) (d : Drive) : w.sameClaims (w.bind n d) := by
  unfold W.bind
  (repeat' split) <;> exact sameClaims_rfl

/-- A job that starts claims the drive and the cartridge (R73, R75). -/
theorem startMount_claims {w : W} {n : Nat} {d : Drive} {i : Nat} {c : CartRec} (hc : w.cart i = some c) :
    (w.startMount n d i).driveClaim d = some n ∧ (w.startMount n d i).claimOf i = some n := by
  have hstart : (w.putDriveClaim d (some n)).cart i = some c := hc
  have hclaim : ((w.putDriveClaim d (some n)).claimCart n i).js.claims = w.js.claims.put d (some n) ∧
      ((w.putDriveClaim d (some n)).claimCart n i).ct = ((w.putDriveClaim d (some n)).putCartClaim i (some n)).ct := by
    have hp : ((w.putDriveClaim d (some n)).putCartClaim i (some n)).js = (w.putDriveClaim d (some n)).js := by
      unfold W.putCartClaim
      rw [W.modCart_eq hstart]
      rfl
    unfold W.claimCart
    dsimp only
    split
    all_goals exact ⟨(congrArg (fun js => js.claims) hp).trans rfl, rfl⟩
  obtain ⟨hct, hcl⟩ := (sameClaims_setJob _ n .mounting none).trans
    ((sameClaims_bind _ n d).trans (sameClaims_mountNext _ n)) (w := (((w.putDriveClaim d (some n)).claimCart n i).stopIdle d).modJob n
      fun j => { j with drive := some d })
  constructor
  · unfold W.driveClaim
    rw [show (w.startMount n d i).js.claims = w.js.claims.put d (some n) from hcl.trans hclaim.1]
    exact Pair.get_put_same _ _ _
  · have hcart : (w.startMount n d i).cart i = some { c with claim := some n } := by
      have : (w.startMount n d i).ct = ((w.putDriveClaim d (some n)).putCartClaim i (some n)).ct := hct.trans hclaim.2
      unfold W.cart
      rw [this]
      change ((w.putDriveClaim d (some n)).modCart i _).cart i = _
      rw [W.cart_modCart hstart, if_pos rfl]
    unfold W.claimOf
    rw [hcart]
    rfl

theorem dispatchOne_eq {w : W} {n : Nat} {j : Job} (h : w.job n = some j) : w.dispatchOne n = match w.chooseCart j with
    | .wrong => w.endJob n .failed .wrongMedia
    | .missing => (w.waitMedia n (W.wantedBy j)).maybeYield n
    | .taken => ((w.waitFor n .media).modJob n fun k => { k with mediaAsked := false }).maybeYield n
    | .cart i =>
      match w.chooseDrive j i with
      | none => (w.waitFor n .drive).maybeYield n
      | some d =>
        if w.locationOf i ≠ some (.drive d) ∧ w.changerBars then w.waitFor n .changer
        else w.startMount n d i := by
  unfold W.dispatchOne
  rw [h] <;> rfl

/-- A chosen cartridge is available. -/
theorem chooseCart_available {w : W} {j : Job} {i : Nat} (h : w.chooseCart j = .cart i) : ∃ c, w.cart i = some c := by
  cases ht : j.target with
  | pool p =>
    rw [chooseCart_pool ht] at h
    rcases chooseBackup_spec w j p with ⟨hn, _⟩ | ⟨b, c, q, hb, hf, _⟩
    · rw [hn] at h
      cases h
    · rw [hb] at h
      cases h
      exact ⟨c, hf.2.1⟩
  | drive d =>
    rw [chooseCart_drive ht] at h
    rcases chooseCleaning_spec w j d with ⟨hn, _⟩ | ⟨b, c, hb, hf, _⟩
    · rw [hn] at h
      cases h
    · rw [hb] at h
      cases h
      exact ⟨c, hf.2.1⟩
  | label l =>
    rw [chooseCart_label ht] at h
    cases hl : w.cartByLabel l with
    | none =>
      rw [hl] at h
      cases h
    | some k =>
      rw [hl] at h
      dsimp only at h
      (repeat' split at h) <;> cases h
      exact W.cartByLabel_isSome hl

/-- Settles O42. -/
theorem dispatchServesTheJobsInOrder : Obligations.DispatchServesTheJobsInOrder := by
  refine ⟨fun w hm => if_neg hm, ?_, fun w j d => driveFree_iff w j d, fun w j i => available_iff w j i, ?_, ?_, ?_⟩
  · intro w ho hseq waits rank
    have hw : w.js.jobs.filter W.waitsForDispatch = w.js.jobs.filter waits :=
      List.filter_congr fun j _ => waitsForDispatch_eq j
    refine ⟨sortBy W.passOrder (w.js.jobs.filter waits), perm_sortBy _ _, ?_, ?_⟩
    · refine (pairwise_sortBy W.passOrder (w.js.jobs.filter waits)).imp_of_mem fun {a b} ha hb hab => ?_
      have hmem {x : Job} (hx : x ∈ sortBy W.passOrder (w.js.jobs.filter waits)) : x.seq ≤ 2 ^ 64 - 1 :=
        hseq x (List.mem_filter.1 ((perm_sortBy _ _).mem_iff.1 hx)).1
      exact passOrder_le (hmem ha) (hmem hb) hab
    · rw [dispatch_online ho, hw]
  · intro w j place used group
    refine ⟨?_, fun l ht => ?_, ?_⟩
    · intro p ht hsmall fits
      rw [chooseCart_pool ht]
      rcases chooseBackup_spec w j p with ⟨hn, hall⟩ | ⟨b, c, q, hb, hf, hq, hmin⟩
      · rw [hn]
        exact ⟨.inr ⟨rfl, hall⟩, fun i hi => nomatch hi⟩
      · rw [hb]
        refine ⟨.inl ⟨b, rfl⟩, fun i hi => ?_⟩
        cases hi
        refine ⟨c, hf, fun k e hk => ?_⟩
        obtain ⟨r, hr⟩ := Option.isSome_iff_exists.1 ((fitsBackup_iff w j p k e hk.2.1).1 hk).2
        exact backupRank_order hf.2.1 hk.2.1 (hsmall b c hf.2.1) (hsmall k e hk.2.1) hq hr (hmin k e r hk hr)
    · rw [chooseCart_label ht]
      refine ⟨fun hn => by rw [hn], fun i c hi hc => ?_⟩
      rw [hi]
      dsimp only
      rw [locationOf_cart hc]
      have hk : w.kindOf i = c.kind := by
        unfold W.kindOf
        rw [hc]
        rfl
      refine if_congr Iff.rfl rfl (if_congr ?_ rfl rfl)
      rw [hk, ← Bool.not_eq_true, isDataKind_true_iff, not_or]
    · intro d ht fits
      rw [chooseCart_drive ht]
      rcases chooseCleaning_spec w j d with ⟨hn, hall⟩ | ⟨b, c, hb, hf, hbest⟩
      · rw [hn]
        exact ⟨.inr ⟨rfl, hall⟩, fun i hi => nomatch hi⟩
      · rw [hb]
        refine ⟨.inl ⟨b, rfl⟩, fun i hi => ?_⟩
        cases hi
        exact ⟨c, hf, hbest⟩
  · intro w j i able
    have hable : (w.drivesFor j).filter (w.driveFree j) = able :=
      congrArg (List.filter (w.driveFree j)) (drivesFor_eq w j)
    unfold W.chooseDrive
    rw [hable]
    rfl
  · intro w n j hj
    rw [dispatchOne_eq hj]
    refine ⟨fun h => by rw [h], fun h => ?_, fun h => by rw [h], fun i h => ?_⟩
    · rw [h]
      rfl
    · rw [h]
      dsimp only
      refine ⟨fun hd => by rw [hd], fun d hd => ?_⟩
      rw [hd]
      dsimp only
      refine ⟨fun hb => if_pos ⟨hb.1, (changerBars_iff w).2 hb.2⟩, fun hb => ?_⟩
      obtain ⟨c, hc⟩ := chooseCart_available h
      rw [if_neg fun e => hb ⟨e.1, (changerBars_iff w).1 e.2⟩]
      exact ⟨rfl, startMount_claims hc⟩

end Sys2Proof.Machine

/-! PROOF. The catalog's operations (R147 to R157): what each leaves of extents, sessions, records and the rest. -/

namespace Sys2Proof.Machine

/-! ## What the catalog's operations leave -/

/-- One state differs from another in the catalog, in the records of cartridges, and in what is due. -/
def W.catalogOnly (w v : W) : Prop :=
  v = { w with ct := { w.ct with carts := v.ct.carts }, cg := v.cg, dispatchDue := v.dispatchDue, catalogDue := v.catalogDue }

theorem catalogOnly_refl (w : W) : w.catalogOnly w := rfl

theorem W.catalogOnly.trans {w v u : W} (h : w.catalogOnly v) (k : v.catalogOnly u) : w.catalogOnly u := by
  unfold W.catalogOnly at *
  rw [k, h]

theorem W.catalogOnly.js {w v : W} (h : w.catalogOnly v) : v.js = w.js := by rw [h]

theorem W.catalogOnly.streams {w v : W} (h : w.catalogOnly v) : v.streams = w.streams := by rw [h]

theorem W.catalogOnly.cc {w v : W} (h : w.catalogOnly v) : v.cc = w.cc := by rw [h]

theorem W.catalogOnly.ports {w v : W} (h : w.catalogOnly v) : v.ports = w.ports := by rw [h]

theorem W.catalogOnly.out {w v : W} (h : w.catalogOnly v) : v.out = w.out := by rw [h]

theorem W.catalogOnly.signals {w v : W} (h : w.catalogOnly v) : v.signals = w.signals := by rw [h]

theorem catalogOnly_modCart (w : W) (i : Nat) (g : CartRec → CartRec) : w.catalogOnly (w.modCart i g) := by
  unfold W.modCart
  split <;> rfl

theorem catalogOnly_deriveSession (w : W) (id : Nat) : w.catalogOnly (w.deriveSession id) := rfl

/-- The extents but for those of a session and sequence. -/
def withoutKey (id q : Nat) (l : List ExtentRec) : List ExtentRec :=
  l.filter fun x => !(decide (x.session = id) && decide (x.sequence = q))

theorem mem_withoutKey {id q : Nat} {l : List ExtentRec} {e : ExtentRec} :
    e ∈ withoutKey id q l ↔ e ∈ l ∧ ¬(e.session = id ∧ e.sequence = q) := by
  unfold withoutKey
  rw [List.mem_filter]
  simp only [Bool.not_eq_true', Bool.and_eq_false_iff, decide_eq_false_iff_not, not_and_or]

/-- An extent record is free, which the BACKUPs that wait for one and dispatch are to see (R75, R150). -/
def W.withoutExtent (w : W) (id q : Nat) : W :=
  { w with cg := { w.cg with extents := withoutKey id q w.cg.extents }, catalogDue := true, dispatchDue := true }

theorem freeExtent_none {w : W} {id q : Nat} (h : w.extent id q = none) : w.freeExtent id q = w := by
  unfold W.freeExtent
  rw [h]

theorem freeExtent_some {w : W} {id q : Nat} {e : ExtentRec} (h : w.extent id q = some e) : w.freeExtent id q =
    ((w.withoutExtent id q).modCart e.cartridge fun c => { c with extentCount := c.extentCount - 1 }).deriveSession id := by
  unfold W.freeExtent
  rw [h]
  rfl

theorem catalogOnly_freeExtent (w : W) (id q : Nat) : w.catalogOnly (w.freeExtent id q) := by
  cases h : w.extent id q with
  | none => rw [freeExtent_none h]; rfl
  | some e =>
    rw [freeExtent_some h]
    have hw : w.catalogOnly (w.withoutExtent id q) := rfl
    exact (hw.trans (catalogOnly_modCart _ _ _)).trans (catalogOnly_deriveSession _ id)

theorem W.job_of_jobs {w v : W} (h : v.js.jobs = w.js.jobs) (n : Nat) : v.job n = w.job n := by
  unfold W.job
  rw [h]

/-! ## The records of cartridges -/

/-- The records of cartridges differ in `extentCount` alone. -/
def W.sameRecords (w v : W) : Prop :=
  ∀ k, ∃ f : Nat → Nat, v.cart k = (w.cart k).map fun c => { c with extentCount := f c.extentCount }

theorem sameRecords_of_cart {w v : W} (h : ∀ k, v.cart k = w.cart k) : w.sameRecords v := fun k =>
  ⟨fun n => n, by rw [h k]; cases w.cart k <;> rfl⟩

theorem W.sameRecords.trans {w v u : W} (h : w.sameRecords v) (k : v.sameRecords u) : w.sameRecords u := fun i => by
  obtain ⟨f, hf⟩ := h i
  obtain ⟨g, hg⟩ := k i
  refine ⟨fun n => g (f n), ?_⟩
  rw [hg, hf, Option.map_map]
  rfl

theorem sameRecords_modCart (w : W) (i : Nat) (f : Nat → Nat) :
    w.sameRecords (w.modCart i fun c => { c with extentCount := f c.extentCount }) := fun k => by
  by_cases h : k = i
  · subst h
    exact ⟨f, W.cart_modCart_map w k _⟩
  · exact ⟨fun n => n, by rw [W.cart_modCart_other w _ h]; cases w.cart k <;> rfl⟩

/-- What does not look at `extentCount` is the same. -/
theorem W.sameRecords.map {w v : W} (h : w.sameRecords v) {α : Type} (g : CartRec → α)
    (hg : ∀ c n, g { c with extentCount := n } = g c) (k : Nat) : (v.cart k).map g = (w.cart k).map g := by
  obtain ⟨f, hf⟩ := h k
  rw [hf, Option.map_map]
  exact congrArg (fun g => (w.cart k).map g) (funext fun c => hg c _)

theorem W.sameRecords.bind {w v : W} (h : w.sameRecords v) {α : Type} (g : CartRec → Option α)
    (hg : ∀ c n, g { c with extentCount := n } = g c) (k : Nat) : (v.cart k).bind g = (w.cart k).bind g := by
  have := h.map g hg k
  cases hv : v.cart k <;> cases hw : w.cart k <;> simp_all

theorem W.sameRecords.knownUsed {w v : W} (h : w.sameRecords v) (k : Nat) : v.knownUsed k = w.knownUsed k := by
  unfold W.knownUsed
  rw [h.map CartRec.blocksUsed fun _ _ => rfl]

theorem W.sameRecords.mediaOf {w v : W} (h : w.sameRecords v) (k : Nat) : v.mediaOf k = w.mediaOf k :=
  h.map CartRec.state (fun _ _ => rfl) k

/-! ## Freeing an extent (R150) -/

theorem modCart_cg (w : W) (i : Nat) (g : CartRec → CartRec) : (w.modCart i g).cg = w.cg := by
  unfold W.modCart
  split <;> rfl

theorem freeExtent_extents (w : W) (id q : Nat) : (w.freeExtent id q).cg.extents = withoutKey id q w.cg.extents := by
  cases h : w.extent id q with
  | none =>
    rw [freeExtent_none h]
    refine (List.filter_eq_self.2 fun e he => ?_).symm
    have := List.find?_eq_none.1 h e he
    rw [decide_eq_true_iff] at this
    rw [Bool.not_eq_true', ← Bool.not_eq_true, Bool.and_eq_true, decide_eq_true_iff, decide_eq_true_iff]
    exact this
  | some e =>
    rw [freeExtent_some h]
    exact congrArg Catalog.extents (modCart_cg _ _ _)

theorem sameRecords_freeExtent (w : W) (id q : Nat) : w.sameRecords (w.freeExtent id q) := by
  cases h : w.extent id q with
  | none =>
    rw [freeExtent_none h]
    exact sameRecords_of_cart fun _ => rfl
  | some e =>
    rw [freeExtent_some h]
    have hw : w.sameRecords (w.withoutExtent id q) := sameRecords_of_cart fun _ => rfl
    exact (hw.trans (sameRecords_modCart _ _ fun n => n - 1)).trans (sameRecords_of_cart fun _ => rfl)

/-- A change of a session record that keeps what R147 gives it at its creation. -/
structure keepsSession (g : SessionRec → SessionRec) : Prop where
  id : ∀ s, (g s).id = s.id
  origin : ∀ s, (g s).origin = s.origin
  codingMode : ∀ s, (g s).codingMode = s.codingMode
  state : ∀ s, (g s).state = s.state
  pool : ∀ s, (g s).pool = s.pool
  hostTag : ∀ s, (g s).hostTag = s.hostTag

theorem keepsSession_id : keepsSession fun s => s := ⟨fun _ => rfl, fun _ => rfl, fun _ => rfl, fun _ => rfl, fun _ => rfl, fun _ => rfl⟩

/-- What a session derives from its extents (R147, R152). -/
def derived (l : List ExtentRec) (s : SessionRec) : SessionRec :=
  let s1 := { s with verifySummary := summaryOf l }
  if s.origin = .written then s1 else deriveCounts l s1

theorem keepsSession_derived (l : List ExtentRec) : keepsSession (derived l) := by
  have h (s : SessionRec) : derived l s = { s with verifySummary := summaryOf l } ∨
      derived l s = deriveCounts l { s with verifySummary := summaryOf l } := by
    unfold derived
    dsimp only
    split
    · exact .inl rfl
    · exact .inr rfl
  constructor <;> intro s <;> rcases h s with e | e <;> rw [e] <;> rfl

theorem deriveSession_eq (w : W) (id : Nat) : w.deriveSession id = w.modSession id (derived (w.extentsOf id)) := rfl

theorem W.session_modSession_other (w : W) {id k : Nat} (g : SessionRec → SessionRec) (hg : ∀ s, (g s).id = s.id)
    (h : k ≠ id) : (w.modSession id g).session k = w.session k := by
  unfold W.session W.modSession
  dsimp only
  rw [List.find?_map]
  have hp : ((fun s : SessionRec => decide (s.id = k)) ∘ fun s => if s.id = id then g s else s) =
      fun s => decide (s.id = k) := by
    funext s
    dsimp only [Function.comp]
    split
    · rw [hg]
    · rfl
  rw [hp]
  cases hf : w.cg.sessions.find? fun s => decide (s.id = k) with
  | none => rfl
  | some s =>
    have hs : s.id = k := by simpa using List.find?_some hf
    rw [Option.map_some, if_neg (by rw [hs]; exact h)]

theorem modSession_ids (w : W) (id : Nat) (g : SessionRec → SessionRec) (hg : ∀ s, (g s).id = s.id) :
    (w.modSession id g).cg.sessions.map SessionRec.id = w.cg.sessions.map SessionRec.id := by
  unfold W.modSession
  rw [List.map_map]
  refine List.map_congr_left fun s _ => ?_
  dsimp only [Function.comp]
  split
  · exact hg s
  · rfl

/-- Freeing an extent derives its session again, and leaves every other. -/
theorem freeExtent_sessions (w : W) (id q : Nat) : ∃ g, keepsSession g ∧
    (w.freeExtent id q).cg.sessions = (w.modSession id g).cg.sessions := by
  cases h : w.extent id q with
  | none =>
    refine ⟨fun s => s, keepsSession_id, ?_⟩
    rw [freeExtent_none h]
    unfold W.modSession
    simp
  | some e =>
    rw [freeExtent_some h, deriveSession_eq]
    refine ⟨derived (W.extentsOf ((w.withoutExtent id q).modCart e.cartridge fun c =>
      { c with extentCount := c.extentCount - 1 }) id), keepsSession_derived _, ?_⟩
    unfold W.modSession
    dsimp only
    rw [modCart_cg]
    rfl

theorem W.session_of_sessions {w v : W} (h : v.cg.sessions = w.cg.sessions) (k : Nat) : v.session k = w.session k := by
  unfold W.session
  rw [h]

/-! ## Removing the extents beyond a probed end (R157) -/

/-- A session that has lost an extent: one WRITTEN is LOADED from then on (R147, R148). -/
def loadedSession (s : SessionRec) : SessionRec :=
  if s.origin = .written then { s with origin := .loaded, codingMode := none } else s

theorem loadedSession_id (s : SessionRec) : (loadedSession s).id = s.id := by
  unfold loadedSession
  split <;> rfl

theorem loadedSession_origin (s : SessionRec) :
    (loadedSession s).origin = if s.origin = .written then .loaded else s.origin := by
  unfold loadedSession
  split <;> rfl

theorem loadedSession_codingMode (s : SessionRec) :
    (loadedSession s).codingMode = if s.origin = .written then none else s.codingMode := by
  unfold loadedSession
  split <;> rfl

/-- The notice of a removed extent (R157). -/
def removalNotice (u : Nat) (e : ExtentRec) : Notice :=
  .extentRemoved e.session e.sequence e.label e.firstBlock e.blockCount u

/-- What the jobs that pin a removed extent's session are told (R154). -/
def removalSignals (w : W) (e : ExtentRec) : List Signal :=
  (w.js.jobs.filter fun j => j.pins.contains e.session).map fun j => .extentRemoved j.id e.session e.sequence

theorem foldl_emit (l : List Job) (g : Job → Signal) (w : W) :
    l.foldl (fun (v : W) j => v.emit (g j)) w = { w with signals := w.signals ++ l.map g } := by
  induction l generalizing w with
  | nil => simp
  | cons j l ih =>
    rw [List.foldl_cons, ih]
    simp [W.emit]

theorem removeExtent_eq (w : W) (u : Nat) (e : ExtentRec) : w.removeExtent u e =
    let v := (w.modSession e.session loadedSession).freeExtent e.session e.sequence
    { v with out := w.out ++ [removalNotice u e], signals := w.signals ++ removalSignals w e } := by
  have h := catalogOnly_freeExtent (w.modSession e.session loadedSession) e.session e.sequence
  have told (v : W) (ho : v.out = w.out) (hs : v.signals = w.signals) (hj : v.js = w.js) :
      ((v.note (removalNotice u e)).js.jobs.filter fun j => j.pins.contains e.session).foldl
        (fun (v : W) j => v.emit (.extentRemoved j.id e.session e.sequence)) (v.note (removalNotice u e)) =
      { v with out := w.out ++ [removalNotice u e], signals := w.signals ++ removalSignals w e } := by
    rw [foldl_emit]
    simp [W.note, removalSignals, ho, hs, hj]
  exact told _ h.out h.signals h.js

theorem removeExtent_extents (w : W) (u : Nat) (e : ExtentRec) :
    (w.removeExtent u e).cg.extents = withoutKey e.session e.sequence w.cg.extents := by
  rw [removeExtent_eq]
  exact freeExtent_extents _ _ _

theorem removeExtent_js (w : W) (u : Nat) (e : ExtentRec) : (w.removeExtent u e).js = w.js := by
  rw [removeExtent_eq]
  exact (catalogOnly_freeExtent _ _ _).js

theorem removeExtent_ports (w : W) (u : Nat) (e : ExtentRec) : (w.removeExtent u e).ports = w.ports := by
  rw [removeExtent_eq]
  exact (catalogOnly_freeExtent _ _ _).ports

theorem sameRecords_removeExtent (w : W) (u : Nat) (e : ExtentRec) : w.sameRecords (w.removeExtent u e) := by
  rw [removeExtent_eq]
  have hw : w.sameRecords (w.modSession e.session loadedSession) := sameRecords_of_cart fun _ => rfl
  exact (hw.trans (sameRecords_freeExtent _ e.session e.sequence)).trans (sameRecords_of_cart fun _ => rfl)

/-- What a removal leaves of each session: that of the extent is LOADED if it was WRITTEN, every other is as it was. -/
theorem removeExtent_session (w : W) (u : Nat) (e : ExtentRec) : ∃ g, keepsSession g ∧
    (w.removeExtent u e).session e.session = (w.session e.session).map (fun s => g (loadedSession s)) ∧
    (∀ k, k ≠ e.session → (w.removeExtent u e).session k = w.session k) ∧
    (w.removeExtent u e).cg.sessions.map SessionRec.id = w.cg.sessions.map SessionRec.id := by
  obtain ⟨g, hg, hs⟩ := freeExtent_sessions (w.modSession e.session loadedSession) e.session e.sequence
  have hsess : (w.removeExtent u e).cg.sessions =
      ((w.modSession e.session loadedSession).modSession e.session g).cg.sessions := by
    rw [removeExtent_eq]
    exact hs
  refine ⟨g, hg, ?_, fun k hk => ?_, ?_⟩
  · rw [W.session_of_sessions hsess, W.session_modSession _ _ _ hg.id, W.session_modSession _ _ _ loadedSession_id,
      Option.map_map]
    rfl
  · rw [W.session_of_sessions hsess, W.session_modSession_other _ _ hg.id hk,
      W.session_modSession_other _ _ loadedSession_id hk]
  · rw [hsess, modSession_ids _ _ _ hg.id, modSession_ids _ _ _ loadedSession_id]

/-- An extent that reaches beyond the end found on a cartridge. -/
def beyond (i u : Nat) (e : ExtentRec) : Bool := decide (e.cartridge = i) && decide (u < e.firstBlock + e.blockCount)

/-- The extents removed one after another. -/
def W.removeAll (w : W) (u : Nat) (l : List ExtentRec) : W := l.foldl (fun v e => v.removeExtent u e) w

theorem probedEnd_eq (w : W) (i u : Nat) : w.probedEnd i u = w.removeAll u (w.cg.extents.filter (beyond i u)) := rfl

theorem removeAll_cons (w : W) (u : Nat) (e : ExtentRec) (l : List ExtentRec) :
    w.removeAll u (e :: l) = (w.removeExtent u e).removeAll u l := rfl

theorem mem_removeAll_extents {w : W} {u : Nat} {l : List ExtentRec} {x : ExtentRec} :
    x ∈ (w.removeAll u l).cg.extents ↔ x ∈ w.cg.extents ∧ ∀ e ∈ l, ¬(x.session = e.session ∧ x.sequence = e.sequence) := by
  induction l generalizing w with
  | nil => simp [W.removeAll]
  | cons e l ih => rw [removeAll_cons, ih, removeExtent_extents, mem_withoutKey, List.forall_mem_cons, and_assoc]

theorem removeAll_js (w : W) (u : Nat) (l : List ExtentRec) : (w.removeAll u l).js = w.js := by
  induction l generalizing w with
  | nil => rfl
  | cons e l ih => rw [removeAll_cons, ih, removeExtent_js]

theorem sameRecords_removeAll (w : W) (u : Nat) (l : List ExtentRec) : w.sameRecords (w.removeAll u l) := by
  induction l generalizing w with
  | nil => exact sameRecords_of_cart fun _ => rfl
  | cons e l ih => exact (sameRecords_removeExtent w u e).trans (ih _)

/-- No extent that is left reaches beyond the end found. -/
theorem probedEnd_within {w : W} {i u : Nat} {e : ExtentRec} (h : e ∈ (w.probedEnd i u).cg.extents) (hi : e.cartridge = i) :
    e.firstBlock + e.blockCount ≤ u := by
  rw [probedEnd_eq, mem_removeAll_extents] at h
  by_contra hn
  refine h.2 e (List.mem_filter.2 ⟨h.1, ?_⟩) ⟨rfl, rfl⟩
  simp [beyond, hi]
  omega

end Sys2Proof.Machine

/-! PROOF. Claims and bindings released (R73), and the steps of a mount (R57, R79 to R81). -/

namespace Sys2Proof.Machine

/-! ## What releasing claims and bindings leaves (R73) -/

theorem Option.map_self {α : Type} (o : Option α) (g : α → α) (h : ∀ a, o = some a → g a = a) : o.map g = o := by
  cases o with
  | none => rfl
  | some a => rw [Option.map_some, h a rfl]

theorem W.job_ite (w v : W) (c : Prop) [Decidable c] {n : Nat} (h : v.job n = w.job n) : (if c then v else w).job n = w.job n := by
  split
  · exact h
  · rfl

/-- A job with its cartridge released. -/
def Job.withoutCart (j : Job) : Job := { j with cartridge := none }

/-- A job with its stream released. -/
def Job.withoutStream (j : Job) : Job := { j with stream := none }

theorem job_releaseCart (w : W) (n : Nat) : (w.releaseCart n).job n = (w.job n).map Job.withoutCart := by
  unfold W.releaseCart
  split
  next h =>
    refine (Option.map_self _ _ fun j hj => ?_).symm
    rw [hj] at h
    change j.cartridge = none at h
    obtain ⟨⟩ := j
    cases h
    rfl
  next i h =>
    have hj : ((if w.claimOf i = some n then w.putCartClaim i none else w).modJob n fun j => { j with cartridge := none }).job n =
        (w.job n).map Job.withoutCart := by
      rw [W.job_modJob _ n (fun j => { j with cartridge := none }) fun _ => rfl, W.job_ite _ _ _ (W.job_putCartClaim w i none n)]
      rfl
    dsimp only
    generalize (if w.claimOf i = some n then w.putCartClaim i none else w) = v at hj ⊢
    cases w.locationOf i with
    | none => exact hj
    | some e => cases e <;> exact hj

theorem W.claimOf_putCartClaim_same {w : W} {i : Nat} {c : CartRec} (h : w.cart i = some c) (n : Option Nat) :
    (w.putCartClaim i n).claimOf i = n := by
  unfold W.claimOf W.putCartClaim
  rw [W.cart_modCart h, if_pos rfl]
  rfl

/-- Releasing a claim keeps the drive claims, and the cartridge is this job's no more. -/
theorem releaseCart_claims (w : W) (n : Nat) : (w.releaseCart n).js.claims = w.js.claims ∧
    ∀ i, (w.job n).bind Job.cartridge = some i → (w.releaseCart n).claimOf i ≠ some n := by
  unfold W.releaseCart
  split
  next h => exact ⟨rfl, fun i hi => by rw [h] at hi; cases hi⟩
  next i h =>
    have hclaims : (if w.claimOf i = some n then w.putCartClaim i none else w).js.claims = w.js.claims := by
      split
      · unfold W.putCartClaim W.modCart
        split <;> rfl
      · rfl
    have hfree : (if w.claimOf i = some n then w.putCartClaim i none else w).claimOf i ≠ some n := by
      split
      next hc =>
        cases hcart : w.cart i with
        | none =>
          unfold W.claimOf at hc
          rw [hcart] at hc
          cases hc
        | some c =>
          rw [W.claimOf_putCartClaim_same hcart]
          nofun
      next hc => exact hc
    have hall : ∀ k, (w.job n).bind Job.cartridge = some k → k = i := fun k hk => by
      rw [h] at hk
      exact (Option.some.inj hk).symm
    rw [h] at hall ⊢
    dsimp only
    generalize (if w.claimOf i = some n then w.putCartClaim i none else w) = v at hclaims hfree ⊢
    have hv : ∀ k, some i = some k → v.claimOf k ≠ some n := fun k hk => by
      rw [hall k hk]
      exact hfree
    cases w.locationOf i with
    | none => exact ⟨hclaims, hv⟩
    | some e => cases e <;> exact ⟨hclaims, hv⟩

theorem job_unbind (w : W) (n : Nat) : (w.unbind n).job n = (w.job n).map Job.withoutStream := by
  unfold W.unbind
  split
  next h =>
    refine (Option.map_self _ _ fun j hj => ?_).symm
    rw [hj] at h
    change j.stream = none at h
    obtain ⟨⟩ := j
    cases h
    rfl
  next d h =>
    dsimp only
    rw [W.job_modJob _ n (fun j => { j with stream := none }) fun _ => rfl, W.job_ite _ _ _ (W.job_modStream w d W.bareStream n)]
    rfl

theorem sameClaims_unbind (w : W) (n : Nat) : w.sameClaims (w.unbind n) := by
  unfold W.unbind
  split
  · exact sameClaims_rfl
  · dsimp only
    split <;> exact sameClaims_rfl

/-- The binding of a reader, that goes with its drive claim. -/
def W.unbindReader (w : W) (n : Nat) (j : Job) : W := if j.kind = .verify ∨ j.kind = .restore then w.unbind n else w

theorem sameClaims_unbindReader (w : W) (n : Nat) (j : Job) : w.sameClaims (w.unbindReader n j) := by
  unfold W.unbindReader
  split
  · exact sameClaims_unbind w n
  · exact sameClaims_rfl

theorem job_unbindReader {w : W} {n : Nat} {j : Job} (h : w.job n = some j) :
    ∃ st, (w.unbindReader n j).job n = some { j with stream := st } := by
  unfold W.unbindReader
  split
  · exact ⟨none, by rw [job_unbind, h]; rfl⟩
  · exact ⟨j.stream, h⟩

theorem releaseDrive_none {w : W} {n : Nat} {j : Job} (h : w.job n = some j) (hd : j.drive = none) : w.releaseDrive n = w := by
  unfold W.releaseDrive
  rw [h]
  dsimp only
  rw [hd]

theorem releaseDrive_some {w : W} {n : Nat} {j : Job} {d : Drive} (h : w.job n = some j) (hd : j.drive = some d) :
    w.releaseDrive n = (((if (w.unbindReader n j).driveClaim d = some n then (w.unbindReader n j).putDriveClaim d none
      else w.unbindReader n j).modJob n fun k => { k with drive := none }).wantDispatch).emit (.idleCheck d) := by
  unfold W.releaseDrive
  rw [h]
  dsimp only
  rw [hd] <;> rfl

theorem releaseDrive_facts {w : W} {n : Nat} {j : Job} (h : w.job n = some j) : (w.releaseDrive n).ct = w.ct ∧
    (∃ st, (w.releaseDrive n).job n = some { j with drive := none, stream := st }) ∧
    ∀ d, j.drive = some d → (w.releaseDrive n).driveClaim d ≠ some n := by
  cases hd : j.drive with
  | none =>
    rw [releaseDrive_none h hd]
    refine ⟨rfl, ⟨j.stream, ?_⟩, nofun⟩
    rw [h]
    obtain ⟨⟩ := j
    cases hd
    rfl
  | some d =>
    obtain ⟨st, hst⟩ := job_unbindReader h
    have hct := (sameClaims_unbindReader w n j).1
    rw [releaseDrive_some h hd]
    generalize w.unbindReader n j = v at hst hct ⊢
    have hjob : (if v.driveClaim d = some n then v.putDriveClaim d none else v).job n = some { j with stream := st } :=
      (W.job_ite v (v.putDriveClaim d none) _ rfl).trans hst
    refine ⟨?_, ⟨st, ?_⟩, fun e he => ?_⟩
    · split <;> exact hct
    · change ((if v.driveClaim d = some n then v.putDriveClaim d none else v).modJob n _).job n = _
      rw [W.job_modJob _ n (fun k => { k with drive := none }) fun _ => rfl, hjob]
      rfl
    · cases he
      change (if v.driveClaim d = some n then v.putDriveClaim d none else v).driveClaim d ≠ some n
      split
      next => simp [W.driveClaim, W.putDriveClaim]
      next hc => exact hc

/-- Both claims of a job released (R73). -/
theorem releaseBoth_facts {w : W} {n : Nat} {j : Job} (h : w.job n = some j) :
    (∃ st, (w.releaseBoth n).job n = some { j with drive := none, cartridge := none, stream := st }) ∧
    (∀ d, j.drive = some d → (w.releaseBoth n).driveClaim d ≠ some n) ∧
    ∀ i, j.cartridge = some i → (w.releaseBoth n).claimOf i ≠ some n := by
  have hj : (w.releaseCart n).job n = some j.withoutCart := by rw [job_releaseCart, h]; rfl
  obtain ⟨hct, ⟨st, hst⟩, hdr⟩ := releaseDrive_facts hj
  refine ⟨⟨st, hst⟩, hdr, fun i hi => ?_⟩
  have hcl := (releaseCart_claims w n).2 i (by rw [h]; exact hi)
  have : (w.releaseBoth n).claimOf i = (w.releaseCart n).claimOf i := by
    unfold W.claimOf W.cart
    rw [show (w.releaseBoth n).ct = (w.releaseCart n).ct from hct]
  rw [this]
  exact hcl

theorem job_setJob_eq {w : W} {n : Nat} {j : Job} (h : w.job n = some j) (s : JobState) (why : Option WaitReason) :
    ∃ m, (w.setJob n s why).job n = some { j with state := s, waitReason := why, mediaAsked := m } := by
  by_cases hs : j.state = s ∧ j.waitReason = why
  · refine ⟨j.mediaAsked, ?_⟩
    rw [W.setJob_same h hs, h]
    obtain ⟨rfl, rfl⟩ := hs
    rfl
  · refine ⟨j.mediaAsked && decide (why = some .media), ?_⟩
    rw [W.setJob_changed h hs, W.job_note, W.job_modJob w n (fun k => k.entered s why) fun _ => rfl, h]
    rfl

theorem setJob_claims (w : W) (n : Nat) (s : JobState) (why : Option WaitReason) :
    (∀ d, (w.setJob n s why).driveClaim d = w.driveClaim d) ∧ ∀ i, (w.setJob n s why).claimOf i = w.claimOf i := by
  obtain ⟨hct, hcl⟩ := sameClaims_setJob w n s why
  refine ⟨fun d => ?_, fun i => ?_⟩
  · unfold W.driveClaim
    rw [hcl]
  · unfold W.claimOf W.cart
    rw [hct]

/-! ## The mount goes on (R57, R79) -/

section
variable {w : W} {n : Nat} {j : Job} {d : Drive} {i : Nat} (hj : w.job n = some j) (hd : j.drive = some d)
  (hi : j.cartridge = some i)
include hj hd hi

theorem mountNext_eq : w.mountNext n =
    if (w.port d).cartridge = .none ∨ (w.port d).cartridge = .cart i then w.mountBring n j d i
    else if (w.port d).state = .ready then (w.atStep n .clearUnload).askOp d .unload (.job n)
    else w.issueJobMove n (.drive d) .home (w.portCart d) .clearMove := by
  unfold W.mountNext
  rw [hj]
  dsimp only
  rw [hd, hi]

theorem mountNext_there (hc : (w.port d).cartridge = .cart i) : w.mountNext n = w.mountLoaded n j d i := by
  rw [mountNext_eq hj hd hi, if_pos (.inr hc)]
  exact if_pos hc

theorem mountNext_brings (hc : (w.port d).cartridge = .none) {e : Element} (he : w.locationOf i = some e)
    (hr : ∀ o, e = .drive o → (w.port o).state ≠ .ready) :
    w.mountNext n = w.issueJobMove n e (.element (.drive d)) (some i) .bring := by
  have hne : ¬(w.port d).cartridge = .cart i := by rw [hc]; nofun
  rw [mountNext_eq hj hd hi, if_pos (.inl hc)]
  unfold W.mountBring
  rw [if_neg hne, he]
  cases e with
  | drive o => exact if_neg (hr o rfl)
  | slot k | mail | picker => rfl

theorem mountNext_unloadsOther (hc : (w.port d).cartridge = .none) {o : Drive} (he : w.locationOf i = some (.drive o))
    (hr : (w.port o).state = .ready) : w.mountNext n = (w.atStep n .bringUnload).askOp o .unload (.job n) := by
  have hne : ¬(w.port d).cartridge = .cart i := by rw [hc]; nofun
  rw [mountNext_eq hj hd hi, if_pos (.inl hc)]
  unfold W.mountBring
  rw [if_neg hne, he]
  exact if_pos hr

end

theorem mountLoaded_holding {w : W} {n : Nat} {j : Job} {d : Drive} {i : Nat} (hs : (w.port d).state = .holding) :
    w.mountLoaded n j d i = (w.atStep n .load).askOp d .load (.job n) := by
  unfold W.mountLoaded
  rw [hs]

theorem mountLoaded_ready {w : W} {n : Nat} {j : Job} {d : Drive} {i : Nat} (hs : (w.port d).state = .ready) :
    w.mountLoaded n j d i = if j.kind = .clean then w.startCleaning n d
      else if w.mediaOf i = some .new then (w.atStep n (.probeLocate false)).askOp d (.locate 0) (.job n)
      else (w.atStep n (.position false)).askOp d (.locate (w.startBlock j i)) (.job n) := by
  unfold W.mountLoaded
  rw [hs]

/-! ## A job's moves (R79) -/

theorem issueMove_held {w : W} (origin : Origin) (source : Element) (asked : Dest) (i : Nat)
    (h : ¬(w.js.heldMoves = [] ∧ (w.cc.queue.filter fun k => k.origin ≠ .recovery).length < 8)) :
    w.issueMove origin source asked (some i) = ({ w with js := { w.js with
      nextTicket := w.js.nextTicket + 1,
      heldMoves := w.js.heldMoves ++
        [{ origin := origin, source := source, asked := asked, expectedLabel := w.labelOf i, ticket := w.js.nextTicket,
           cart := some i }] } }, w.js.nextTicket) := by
  unfold W.issueMove
  dsimp only
  by_cases hh : w.js.heldMoves = []
  · rw [if_pos hh, W.queueMove_eq, if_pos (Nat.le_of_not_lt fun e => h ⟨hh, e⟩)]
    rfl
  · rw [if_neg hh]
    rfl

theorem issueMove_ticket (w : W) (origin : Origin) (source : Element) (asked : Dest) (i : Option Nat) :
    (w.issueMove origin source asked i).2 = w.js.nextTicket := by
  unfold W.issueMove
  dsimp only
  split
  · split <;> rfl
  · rfl

theorem issueJobMove_eq (w : W) (n : Nat) (source : Element) (asked : Dest) (i : Nat) (x : MountStep) :
    let t := w.js.nextTicket
    let w1 : W := { (w.modJob n fun j => { j with ticket := some t, mountStep := some x }) with cc := w.cc }
    let js1 := { w1.js with nextTicket := t + 1 }
    w.issueJobMove n source asked (some i) x =
      if w.js.heldMoves = [] ∧ (w.cc.queue.filter fun m => m.origin ≠ .recovery).length < 8 then
        { w1 with js := js1, cc := { w.cc with
          nextId := if w.cc.nextId = 65535 then 1 else w.cc.nextId + 1,
          queue := w.cc.queue ++
            [{ id := w.cc.nextId, origin := .job n, source := source, asked := asked, dest := none,
               expectedLabel := w.labelOf i, attempts := 0, faulted := false, putAway := none, tried := [], ticket := t,
               cart := some i }] } }
      else { w1 with js := { js1 with heldMoves := w.js.heldMoves ++
        [{ origin := .job n, source := source, asked := asked, expectedLabel := w.labelOf i, ticket := t,
           cart := some i }] } } := by
  intro t w1 js1
  unfold W.issueJobMove
  dsimp only
  rw [issueMove_ticket]
  by_cases h : w.js.heldMoves = [] ∧ (w.cc.queue.filter fun m => m.origin ≠ .recovery).length < 8
  · rw [if_pos h, issueMove_queued (.job n) source asked i h.1 h.2]
    rfl
  · rw [if_neg h, issueMove_held (.job n) source asked i h]
    rfl

/-! ## The ends of a mount's operations (R79 to R81) -/

/-- A job whose mount may go on: not being aborted, and no BACKUP being truncated. -/
theorem mountBarred_false {j : Job} (ha : j.abortPending = false) (ht : ∀ b, j.progress = .backup b → b.truncating = false) :
    W.mountBarred j = false := by
  unfold W.mountBarred
  rw [ha, Bool.false_or]
  cases hp : j.progress with
  | backup b => exact ht b hp
  | verify v | restore r | clean => rfl

theorem freeProbe_streams (w : W) (d : Drive) (op : PortOp) :
    w.freeProbe d op = { w with streams := (w.freeProbe d op).streams } := by
  unfold W.freeProbe
  split
  · split <;> rfl
  · rfl

theorem freeProbe_probeRead (w : W) (d : Drive) (k : BufId) : w.freeProbe d (.probeRead k) = { w with
    streams := w.streams.put d (if ((w.stream d).buf k).state = .reading then (w.stream d).putBuf k freeBuffer else w.stream d) } := by
  unfold W.freeProbe
  dsimp only
  split
  · rfl
  · simp only [W.stream, Pair.put_get]

/-- The end of a job's operation reaches the step of its mount. -/
theorem jobOp_mountStep {w : W} {n : Nat} {j : Job} {d : Drive} {i : Nat} {x : MountStep} (hj : w.job n = some j)
    (hf : j.state.isFinished = false) (hclaim : w.driveClaim d = some n ∨ w.fetchesFrom j d = true)
    (hx : j.mountStep = some x) (hi : j.cartridge = some i) (hb : W.mountBarred j = false) {r : OpOutcome}
    (hr : r.letsGo = false) (op : PortOp) : w.jobOp n d op r = w.stepEnds n j d i x op r := by
  have hno : ¬(j.state.isFinished = true ∨ (w.driveClaim d ≠ some n ∧ w.fetchesFrom j d = false)) := by
    rintro (h | ⟨h1, h2⟩)
    · rw [hf] at h
      cases h
    · rcases hclaim with h | h
      · exact h1 h
      · rw [h2] at h
        cases h
  unfold W.jobOp
  rw [hj]
  dsimp only
  rw [if_neg hno, hx]
  dsimp only
  unfold W.mountOp
  rw [if_neg (by rw [hr]; nofun), if_neg (by rw [hb]; nofun), hi]

theorem takeSignal_mountStep {w : W} {n : Nat} {j : Job} {d : Drive} {i : Nat} {x : MountStep} (hj : w.job n = some j)
    (hf : j.state.isFinished = false) (hclaim : w.driveClaim d = some n) (hx : j.mountStep = some x)
    (hi : j.cartridge = some i) (hb : W.mountBarred j = false) {r : OpOutcome} (hr : r.letsGo = false) (op : PortOp) :
    w.takeSignal (.opDone d (.job n) op r) = (w.freeProbe d op).stepEnds n j d i x op r := by
  change (w.freeProbe d op).jobOp n d op r = _
  have h := freeProbe_streams w d op
  refine jobOp_mountStep ?_ hf (.inl ?_) hx hi hb hr op
  · rw [h]
    exact hj
  · rw [h]
    exact hclaim

theorem requestOp_snd (w : W) (d : Drive) (op : PortOp) (r : Requester) :
    (w.requestOp d op r).2 = true ↔ w.opRefusal d op = none := by
  unfold W.requestOp
  cases w.opRefusal d op with
  | some why => simp
  | none =>
    dsimp only
    split <;> simp

theorem requestOp_streams (w : W) (d : Drive) (op : PortOp) (r : Requester) : (w.requestOp d op r).1.streams = w.streams :=
  congrArg Outside.streams (W.requestOp_outside w d op r)

/-- The probe reads into the first FREE buffer, which is READING once the port has accepted the Read Block (R80). -/
theorem probeBlock_eq (w : W) (n : Nat) (d : Drive) :
    let s := w.stream d
    let k : BufId := if s.bufA.state = .free then .a else if s.bufB.state = .free then .b else .a
    let asked := ((w.atStep n .probeRead).requestOp d (.probeRead k) (.job n)).1
    w.probeBlock n d = if (w.atStep n .probeRead).opRefusal d (.probeRead k) = none then
      { asked with streams := w.streams.put d (s.putBuf k { state := .reading, index := 0, frames := [], data := [] }) }
      else asked := by
  intro s k asked
  have hk : (s.bufIn .free).getD .a = k := by
    unfold Stream.bufIn
    dsimp only [k]
    split
    · rfl
    · split <;> rfl
  have hs : asked.streams = w.streams := requestOp_streams _ d _ _
  unfold W.probeBlock
  rw [hk]
  dsimp only
  refine if_congr (requestOp_snd _ d _ _) ?_ rfl
  unfold W.modStream W.putStream W.stream
  rw [hs]
  rfl

/-- What the probe's first block says of the cartridge (R80). -/
theorem beginsSession_iff (block : List Byte) (h : FrameHeader) (hh : headerAt block 0 = .good h) :
    W.beginsSession block = true ↔ h.kind = 3 := by
  unfold W.beginsSession
  rw [hh]
  exact decide_eq_true_iff

/-- The state that a count of blocks gives, with the count that goes with it. -/
theorem probeEnd_counts (w : W) (n : Nat) (d : Drive) (i c t : Nat) :
    w.probeResult n d i (probeState t c) (if probeState t c = .foreign then none else some c) =
      if c < t then w.probeResult n d i .opened (some c)
      else if c ≤ t + 1 then w.probeResult n d i .full (some c) else w.probeResult n d i .foreign none := by
  unfold probeState
  by_cases h1 : c < t
  · simp [h1]
  · by_cases h2 : c ≤ t + 1 <;> simp [h1, h2]

theorem thresholdOf_eq (k : Option CartKind) :
    thresholdOf k = if k = some .a then 2460938 else if k = some .b then 5906250 else 0 := by
  rcases k with _ | k
  · rfl
  · cases k <;> rfl

/-- The first block that the probe has read decides whether the end is looked for (R80). -/
theorem probeRead_okBlock (w : W) (n : Nat) (j : Job) (d : Drive) (i : Nat) (op : PortOp) (block : List Byte) :
    w.stepEnds n j d i .probeRead op (.okBlock block) = match headerAt block 0 with
      | .good h => if h.kind = 3 then (w.atStep n .probeEnd).askOp d .locateEnd (.job n) else w.probeResult n d i .foreign none
      | .bad => w.probeResult n d i .foreign none
      | .pad => w.probeResult n d i .foreign none := by
  change (if W.beginsSession block = true then (w.atStep n .probeEnd).askOp d .locateEnd (.job n)
    else w.probeResult n d i .foreign none) = _
  cases hh : headerAt block 0 with
  | good h => exact if_congr (beginsSession_iff block h hh) rfl rfl
  | bad | pad => exact if_neg (by unfold W.beginsSession; rw [hh]; nofun)

theorem positionFails_eq {w : W} {n : Nat} {j : Job} (hj : w.job n = some j) : w.positionFails n =
    if j.kind = .backup then (w.modJob n fun k => { k with mountStep := none }).callTruncation n (.failed, .position)
    else (w.modJob n fun k => { k with mountStep := none }).endJob n .failed .position := by
  unfold W.positionFails
  rw [hj]
  exact if_congr (by simp) rfl rfl

/-! ## The probe's result (R80, R157) -/

theorem setMedia_js (w : W) (i : Nat) (s : MediaState) (cause : StateCause) : (w.setMedia i s cause).js = w.js := by
  unfold W.setMedia
  split
  · rfl
  · split <;> rfl

theorem setMedia_cg (w : W) (i : Nat) (s : MediaState) (cause : StateCause) : (w.setMedia i s cause).cg = w.cg := by
  unfold W.setMedia
  split
  · rfl
  · split <;> rfl

theorem setMedia_cart {w : W} {i : Nat} {c : CartRec} (h : w.cart i = some c) (s : MediaState) (cause : StateCause) :
    (w.setMedia i s cause).cart i = some { c with state := s } := by
  rw [W.setMedia_eq h]
  split
  next hs =>
    subst hs
    rw [h]
  next => exact W.cart_putCart_same h _

theorem requestOp_table (w : W) (d : Drive) (op : PortOp) (r : Requester) :
    (w.requestOp d op r).1.ct = w.ct ∧ (w.requestOp d op r).1.cg = w.cg ∧ (w.requestOp d op r).1.js.jobs = w.js.jobs :=
  ⟨(sameClaims_requestOp w d op r).1, congrArg Outside.cg (W.requestOp_outside w d op r),
    congrArg Outside.jobs (W.requestOp_outside w d op r)⟩

/-- A mount that goes on after the probe is at the step R81 gives. -/
theorem afterProbe (w : W) {n : Nat} {j : Job} (d : Drive) (s : MediaState) (hj : w.job n = some j) :
    let t := if j.kind = .backup ∧ (s = .full ∨ s = .foreign) then w.putAway n d else w.goPosition n
    t.ct = w.ct ∧ t.cg = w.cg ∧ (t.job n).bind Job.mountStep = some
      (if j.kind = .backup ∧ (s = .full ∨ s = .foreign) then .awayUnload else .position false) := by
  have hstep (x : MountStep) : ((w.atStep n x).job n).bind Job.mountStep = some x := by
    unfold W.atStep
    rw [W.job_modJob _ n (fun k => { k with mountStep := some x }) fun _ => rfl, hj]
    rfl
  intro t
  dsimp only [t]
  split
  · obtain ⟨hct, hcg, hjobs⟩ := requestOp_table (w.atStep n .awayUnload) d .unload (.job n)
    refine ⟨hct, hcg, ?_⟩
    rw [show (w.putAway n d).job n = (w.atStep n .awayUnload).job n from W.job_of_jobs hjobs n]
    exact hstep _
  · exact ⟨rfl, rfl, hstep _⟩

theorem knownUsed_of_ct {w v : W} (h : v.ct = w.ct) (i : Nat) : v.knownUsed i = w.knownUsed i := by
  unfold W.knownUsed W.cart
  rw [h]

theorem mediaOf_of_ct {w v : W} (h : v.ct = w.ct) (i : Nat) : v.mediaOf i = w.mediaOf i := by
  unfold W.mediaOf W.cart
  rw [h]

theorem probeResult_facts {w : W} {n : Nat} {j : Job} (d : Drive) {i : Nat} {c : CartRec} (state : MediaState)
    (used : Option Nat) (hj : w.job n = some j) (hc : w.cart i = some c) :
    let t := w.probeResult n d i state used
    t.mediaOf i = some state ∧
    (∀ u, used = some u → t.knownUsed i = some u ∧
      ∀ e ∈ t.cg.extents, e.cartridge = i → e.firstBlock + e.blockCount ≤ u) ∧
    (used = none → t.knownUsed i = w.knownUsed i ∧ t.cg = w.cg) ∧
    (t.job n).bind Job.mountStep = some
      (if j.kind = .backup ∧ (state = .full ∨ state = .foreign) then .awayUnload else .position false) := by
  intro t
  cases used with
  | none =>
    have hjob : (w.setMedia i state .probe).job n = some j := (W.job_of_jobs (by rw [setMedia_js]) n).trans hj
    have ht : t = if j.kind = .backup ∧ (state = .full ∨ state = .foreign) then (w.setMedia i state .probe).putAway n d
        else (w.setMedia i state .probe).goPosition n := by
      dsimp only [t]
      unfold W.probeResult
      dsimp only
      rw [hjob]
    obtain ⟨hct, hcg, hstep⟩ := afterProbe _ d state hjob
    rw [← ht] at hct hcg hstep
    have hcart := setMedia_cart hc state .probe
    refine ⟨?_, nofun, fun _ => ⟨?_, hcg.trans (setMedia_cg w i state .probe)⟩, hstep⟩
    · rw [mediaOf_of_ct hct]
      unfold W.mediaOf
      rw [hcart]
      rfl
    · rw [knownUsed_of_ct hct]
      unfold W.knownUsed
      rw [hcart, hc]
      rfl
  | some u =>
    have hc1 : (w.modCart i fun c => { c with blocksUsed := .known u }).cart i = some { c with blocksUsed := .known u } := by
      rw [W.cart_modCart_map, hc]
      rfl
    have hcart := setMedia_cart hc1 state .probe
    have hjs := setMedia_js (w.modCart i fun c => { c with blocksUsed := .known u }) i state .probe
    have hm1 : (w.modCart i fun c => { c with blocksUsed := .known u }).js = w.js := by
      unfold W.modCart
      split <;> rfl
    generalize hv : (w.modCart i fun c => { c with blocksUsed := .known u }).setMedia i state .probe = v at hcart hjs
    have hrec := sameRecords_removeAll v u (v.cg.extents.filter (beyond i u))
    rw [← probedEnd_eq] at hrec
    have hjob : (v.probedEnd i u).job n = some j := by
      rw [W.job_of_jobs (w := w) (by rw [probedEnd_eq, removeAll_js, hjs, hm1]) n, hj]
    have ht : t = if j.kind = .backup ∧ (state = .full ∨ state = .foreign) then (v.probedEnd i u).putAway n d
        else (v.probedEnd i u).goPosition n := by
      dsimp only [t]
      unfold W.probeResult
      dsimp only
      rw [hv, hjob]
    obtain ⟨hct, hcg, hstep⟩ := afterProbe _ d state hjob
    rw [← ht] at hct hcg hstep
    refine ⟨?_, ?_, nofun, hstep⟩
    · rw [mediaOf_of_ct hct, hrec.mediaOf]
      unfold W.mediaOf
      rw [hcart]
      rfl
    · rintro _ ⟨⟩
      refine ⟨?_, fun e he hi => probedEnd_within (hcg ▸ he) hi⟩
      rw [knownUsed_of_ct hct, hrec.knownUsed]
      unfold W.knownUsed
      rw [hcart]
      rfl

/-! ## A failed move (R81) -/

/-- A failed move of the mount releases both claims, and the job waits. -/
theorem moveFails_facts {w : W} {n : Nat} {j : Job} (r : Reason) (hj : w.job n = some j) :
    let t := w.moveFails n r
    (t.job n).map Job.state = some .waiting ∧ (t.job n).bind Job.waitReason = some (waitAfterMove r) ∧
      (t.job n).bind Job.drive = none ∧ (t.job n).bind Job.cartridge = none ∧ (t.job n).bind Job.mountStep = none ∧
      (∀ d, j.drive = some d → t.driveClaim d ≠ some n) ∧ ∀ i, j.cartridge = some i → t.claimOf i ≠ some n := by
  have h1 : (w.modJob n fun j => { j with mountStep := none }).job n = some { j with mountStep := none } := by
    rw [W.job_modJob _ n (fun j => { j with mountStep := none }) fun _ => rfl, hj]
    rfl
  obtain ⟨⟨st, hst⟩, hdr, hcl⟩ := releaseBoth_facts h1
  obtain ⟨m, hm⟩ := job_setJob_eq hst .waiting (some (waitAfterMove r))
  obtain ⟨hd, hc⟩ := setJob_claims ((w.modJob n fun j => { j with mountStep := none }).releaseBoth n) n .waiting
    (some (waitAfterMove r))
  intro t
  have ht : t = ((w.modJob n fun j => { j with mountStep := none }).releaseBoth n).setJob n .waiting
    (some (waitAfterMove r)) := rfl
  rw [ht, hm]
  refine ⟨rfl, rfl, rfl, rfl, rfl, fun d hdd => ?_, fun i hi => ?_⟩
  · rw [hd]
    exact hdr d hdd
  · rw [hc]
    exact hcl i hi

theorem waitAfterMove_eq (r : Reason) :
    waitAfterMove r = if r ∈ [Reason.sourceEmpty, .labelMismatch, .claimed] then .media else .changer := by
  cases r <;> rfl

/-- A move of a mount that is not to stop has ended (R79, R81). -/
theorem takeSignal_moveEnded {w : W} {n ticket : Nat} {j : Job} (r : Reason) (cart : Option Nat) (hj : w.job n = some j)
    (ht : j.ticket = some ticket) (hx : j.mountStep = some .clearMove ∨ j.mountStep = some .bring)
    (hb : W.mountBarred j = false) : w.takeSignal (.moveEnded (.job n) ticket r cart) =
      let v : W := { (w.modJob n fun k => { k with ticket := none }) with dispatchDue := true }
      if r = .ok then v.mountNext n else v.moveFails n r := by
  have hticket : (w.wantDispatch.job n).bind Job.ticket = some ticket := by
    rw [W.job_wantDispatch, hj]
    exact ht
  refine (if_pos hticket).trans ?_
  unfold W.jobMoveEnds
  rw [W.job_wantDispatch, hj]
  dsimp only
  rcases hx with hx | hx <;> (rw [hx, hb]; rfl)

/-- Settles O43. -/
theorem theMountTakesItsSteps : Obligations.TheMountTakesItsSteps := by
  refine ⟨?_, fun w n source asked i x => issueJobMove_eq w n source asked i x, ?_, ?_, ?_, ?_⟩
  · intro w n j d i hj hd hi p at_ next
    refine ⟨fun hn hc => ?_, fun e hn he hr => mountNext_brings hj hd hi hn he hr,
      fun o hn he hr => mountNext_unloadsOther hj hd hi hn he hr, fun hc => ⟨fun hs => ?_, fun hs hk => ?_, fun hs hk => ?_⟩⟩
    · exact (mountNext_eq hj hd hi).trans (if_neg fun e => e.elim hn hc)
    · exact (mountNext_there hj hd hi hc).trans (mountLoaded_holding hs)
    · exact (mountNext_there hj hd hi hc).trans ((mountLoaded_ready hs).trans (if_pos hk))
    · exact (mountNext_there hj hd hi hc).trans ((mountLoaded_ready hs).trans (if_neg hk))
  · intro w n j d i x hj hf hclaim hx hi ha htr told at_ asks s t
    have ht : thresholdOf (w.kindOf i) = t := thresholdOf_eq _
    have told_eq (op : PortOp) {r : OpOutcome} (hr : r.letsGo = false) :
        told op r = (w.freeProbe d op).stepEnds n j d i x op r :=
      takeSignal_mountStep hj hf hclaim hx hi (mountBarred_false ha htr) hr op
    refine ⟨fun e => ?_, fun protect e hd hc => ?_, fun retried e => ⟨?_, ?_⟩, ?_, fun e => ⟨?_, fun c => ?_⟩,
      fun b retried e => ⟨?_, ?_⟩⟩
    · subst e
      exact told_eq .unload rfl
    · subst e
      refine (told_eq .load rfl).trans ?_
      rw [mountNext_there hj hd hi hc]
      rfl
    · subst e
      exact (told_eq (.locate 0) rfl).trans (probeBlock_eq w n d)
    · subst e
      exact told_eq (.locate 0) rfl
    · intro k e v
      subst e
      have hv : w.freeProbe d (.probeRead k) = v := freeProbe_probeRead w d k
      rw [← hv]
      exact ⟨told_eq (.probeRead k) rfl, told_eq (.probeRead k) rfl, told_eq (.probeRead k) rfl,
        fun block => (told_eq (.probeRead k) rfl).trans (probeRead_okBlock _ n j d i _ block)⟩
    · subst e
      exact told_eq .locateEnd rfl
    · subst e
      refine (told_eq .locateEnd rfl).trans ?_
      rw [← ht]
      exact probeEnd_counts w n d i c _
    · subst e
      exact told_eq (.locate b) rfl
    · subst e
      refine (told_eq (.locate b) rfl).trans ?_
      change (if retried then w.positionFails n else _) = _
      rw [positionFails_eq hj]
      cases retried <;> rfl
  · intro w n j o i hj hf hx hi hl ha htr
    have hfetch : w.fetchesFrom j o = true := by
      unfold W.fetchesFrom
      rw [hx, hi]
      simp [hl]
    exact jobOp_mountStep hj hf (.inr hfetch) hx hi (mountBarred_false ha htr) rfl .unload
  · intro w n j d i c state used hj hc
    exact probeResult_facts d state used hj hc
  · intro w n ticket j r cart hj ht hx ha htr t
    have hend := takeSignal_moveEnded r cart hj ht hx (mountBarred_false ha htr)
    refine ⟨fun hr => hend.trans (if_pos hr), fun hr => ?_⟩
    have hj' : ({ (w.modJob n fun k => { k with ticket := none }) with dispatchDue := true } : W).job n =
        some { j with ticket := none } := by
      change (w.modJob n fun k => { k with ticket := none }).job n = _
      rw [W.job_modJob _ n (fun k => { k with ticket := none }) fun _ => rfl, hj]
      rfl
    have hfails := moveFails_facts r hj'
    rw [← waitAfterMove_eq r, show t = _ from hend.trans (if_neg hr)]
    exact hfails

end Sys2Proof.Machine

/-! PROOF. Clean requests and the list of jobs (R86, R89). -/

namespace Sys2Proof.Machine

/-! ## Clean requests (R86) -/

theorem cleanJobOf_isSome (w : W) (d : Drive) : (w.cleanJobOf d).isSome =
    w.js.jobs.any fun j => decide (j.kind = .clean ∧ j.state.isFinished = false ∧ j.target = .drive d) := by
  unfold W.cleanJobOf
  rw [Option.isSome_map, List.isSome_find?]

theorem jobNotice_js (w : W) (n : Nat) (was : Option JobState) : (w.jobNotice n was).js = w.js := by
  unfold W.jobNotice
  cases w.job n <;> rfl

theorem admitJob_cleanNeed (w : W) (kind : JobKind) (session : Option Nat) (target : Target) (progress : Progress)
    (pins : List Nat) : (w.admitJob kind session target progress pins).1.js.cleanNeed = w.js.cleanNeed := by
  have hfirst : (if w.js.jobs.length < 16 then w else match w.oldestFinished with
      | some n => w.freeJob n
      | none => w).js.cleanNeed = w.js.cleanNeed := by
    split
    · rfl
    · cases w.oldestFinished <;> rfl
  unfold W.admitJob
  split
  · rfl
  · show (W.jobNotice _ _ _).js.cleanNeed = _
    rw [jobNotice_js]
    exact hfirst

/-- No job, no change (R72). -/
theorem admitJob_none {w v : W} {kind : JobKind} {session : Option Nat} {target : Target} {progress : Progress}
    {pins : List Nat} (h : w.admitJob kind session target progress pins = (v, none)) : v = w := by
  unfold W.admitJob at h
  split at h
  · exact (Prod.mk.inj h).1.symm
  · exact nomatch (Prod.mk.inj h).2

/-- The need of a CLEAN job kept or met (R86). -/
theorem admitClean_eq (w : W) (d : Drive) : (w.admitClean d).1 = match w.admitJob .clean none (.drive d) .clean [] with
    | (_, none) => w
    | (v, some _) => v.keepNeed d false := by
  unfold W.admitClean
  cases h : w.admitJob .clean none (.drive d) .clean [] with
  | mk v o =>
    cases o with
    | none => exact admitJob_none h
    | some k => rfl

theorem cleanWanted_eq (w : W) (d : Drive) : w.cleanWanted d =
    if (w.cleanJobOf d).isSome then w
    else match w.admitJob .clean none (.drive d) .clean [] with
      | (_, none) => w.keepNeed d true
      | (v, some _) => v.keepNeed d false := by
  unfold W.cleanWanted
  refine if_congr Iff.rfl rfl ?_
  unfold W.admitClean
  cases h : w.admitJob .clean none (.drive d) .clean [] with
  | mk v o =>
    cases o with
    | none => rw [admitJob_none h] <;> rfl
    | some k => rfl

/-- A kept need is met by the admission, or waits (R86). -/
theorem admitClean_retry (w : W) (d : Drive) : (w.admitClean d).1 = match w.admitJob .clean none (.drive d) .clean [] with
    | (_, none) => w
    | (v, some _) => { v with js := { v.js with cleanNeed := w.js.cleanNeed.put d false } } := by
  have hkept := admitJob_cleanNeed w .clean none (.drive d) .clean []
  rw [admitClean_eq]
  cases h : w.admitJob .clean none (.drive d) .clean [] with
  | mk v o =>
    rw [h] at hkept
    have hv : v.js.cleanNeed = w.js.cleanNeed := hkept
    cases o with
    | none => rfl
    | some k =>
      dsimp only
      rw [← hv]
      rfl

/-! ## JOB INFO and RELEASE JOB (R89) -/

theorem exec_jobInfo {s : State} {f : RequestFrame} {n : Byte} (h : s.requests f 0x60 [n]) :
    exec .jobInfo s = .next (s.dropFrame.sendReply f (ownJobInfo s.work [n]).status (ownJobInfo s.work [n]).body) :=
  State.look_eq h (acceptedIn_of_not_refused _ rfl) rfl

theorem exec_releaseJob {s : State} {f : RequestFrame} {n : Byte} (h : s.requests f 0x62 [n]) :
    exec .releaseJob s = .next (s.replying f (ownReleaseJob s.work [n])) :=
  State.ask_eq h (acceptedIn_of_not_refused _ rfl) rfl

theorem jobInfo_settles {s : State} {f : RequestFrame} {n : Byte} (h : s.requests f 0x60 [n]) :
    exec .jobInfo s = .next (
      if n = 0#8 then s.reported f (.jobs ((sortBy Job.seq s.lib.js.jobs).map jobSummary))
      else match s.work.job n.toNat with
        | some j => s.reported f (.job j (j.cartridge.bind s.work.labelOf))
        | none => s.turnedDown f .noSuchJob .empty) := by
  rw [exec_jobInfo h]
  refine congrArg Host.Outcome.next ?_
  unfold ownJobInfo
  rw [fieldsOf_one]
  by_cases hn : n = 0#8
  · rw [if_pos hn, if_pos ((byte_eq_iff n (by omega)).2 hn)]
    rfl
  · rw [if_neg hn, if_neg (mt (byte_eq_iff n (by omega)).1 hn)]
    cases s.work.job n.toNat <;> rfl

theorem releaseJob_settles {s : State} {f : RequestFrame} {n : Byte} (h : s.requests f 0x62 [n]) :
    exec .releaseJob s = .next (
      match s.work.job n.toNat with
      | none => s.turnedDown f .noSuchJob .empty
      | some j =>
        if j.state.isFinished then s.answered f (s.work.freeJob n.toNat) .empty
        else s.turnedDown f .wrongState .empty) := by
  rw [exec_releaseJob h]
  refine congrArg Host.Outcome.next ?_
  unfold ownReleaseJob
  rw [fieldsOf_one]
  cases hj : s.work.job n.toNat with
  | none => exact State.replying_refuse _ _ _ nofun
  | some j =>
    dsimp only
    rw [State.replying_ite, W.job_id hj]
    exact if_congr Iff.rfl rfl (State.replying_refuse _ _ _ nofun)

/-- Settles O45. -/
theorem jobsAreListedAndReleased : Obligations.JobsAreListedAndReleased := by
  refine ⟨fun w d => ?_, fun s d => ⟨fun hn => ?_, fun hn => ?_⟩, fun s f n h => ?_,
    fun l => ⟨perm_sortBy _ l, pairwise_sortBy _ l⟩, fun s f n h => ?_⟩
  · refine (cleanWanted_eq w d).trans ?_
    rw [cleanJobOf_isSome]
    rfl
  · refine next_putWork ?_
    show s.work.cleanRetry d = s.work
    exact if_pos hn
  · refine next_putWork ?_
    show s.work.cleanRetry d = _
    unfold W.cleanRetry
    rw [if_neg (by rw [show s.work.js.cleanNeed.get d = true from hn]; nofun), cleanJobOf_isSome]
    exact if_congr Iff.rfl rfl (admitClean_retry _ d)
  · exact jobInfo_settles h
  · exact releaseJob_settles h

end Sys2Proof.Machine

/-! PROOF. ABORT JOB (R88, R125, R183). -/

namespace Sys2Proof.Machine

/-! ## Changes of a job, one after the other -/

theorem modJob_congr (w : W) (n : Nat) {f g : Job → Job} (h : ∀ k ∈ w.js.jobs, k.id = n → f k = g k) :
    w.modJob n f = w.modJob n g := by
  unfold W.modJob
  have hmap : (w.js.jobs.map fun j => if j.id = n then f j else j) = w.js.jobs.map fun j => if j.id = n then g j else j :=
    List.map_congr_left fun k hk => by
      split
      next hid => exact h k hk hid
      next => rfl
  rw [hmap]

theorem modJob_modJob (w : W) (n : Nat) {f : Job → Job} (g : Job → Job) (hf : ∀ k, (f k).id = k.id) :
    (w.modJob n f).modJob n g = w.modJob n (fun k => g (f k)) := by
  unfold W.modJob
  have hmap : ((w.js.jobs.map fun j => if j.id = n then f j else j).map fun j => if j.id = n then g j else j) =
      w.js.jobs.map fun j => if j.id = n then g (f j) else j := by
    rw [List.map_map]
    refine List.map_congr_left fun k _ => ?_
    by_cases hk : k.id = n
    · simp [hk, hf]
    · simp [hk]
  dsimp only
  rw [hmap]

/-- A job whose abort is being carried out. -/
def Job.aborting (j : Job) : Job := { j with abortPending := true }

/-- The work once an abort has been accepted. -/
def W.withAbort (w : W) (n : Nat) : W := w.modJob n Job.aborting

theorem job_withAbort {w : W} {n : Nat} {j : Job} (h : w.job n = some j) : (w.withAbort n).job n = some j.aborting := by
  unfold W.withAbort
  rw [W.job_modJob w n Job.aborting fun _ => rfl, h]
  rfl

/-! ## The request -/

theorem exec_abortJob {s : State} {f : RequestFrame} {n : Byte} (h : s.requests f 0x61 [n]) :
    exec .abortJob s = .next (s.replying f (ownAbortJob s.work [n])) :=
  State.ask_eq h (acceptedIn_of_not_refused _ rfl) rfl

/-- ABORT JOB's checks, and its course (R88). -/
theorem abortJob_settles {s : State} {f : RequestFrame} {n : Byte} (h : s.requests f 0x61 [n]) :
    exec .abortJob s = .next (match s.work.job n.toNat with
      | none => s.turnedDown f .noSuchJob .empty
      | some j =>
        if j.state.isFinished then s.turnedDown f .wrongState .empty
        else if j.abortPending then s.answered f s.work (.jobState j.state)
        else s.answered f ((s.work.withAbort n.toNat).abortCourse j) (.jobState j.state)) := by
  rw [exec_abortJob h]
  refine congrArg Host.Outcome.next ?_
  unfold ownAbortJob
  rw [fieldsOf_one]
  cases hj : s.work.job n.toNat with
  | none => exact State.replying_refuse _ _ _ nofun
  | some j =>
    dsimp only
    rw [State.replying_ite, State.replying_ite]
    refine if_congr Iff.rfl (State.replying_refuse _ _ _ nofun) (if_congr Iff.rfl rfl ?_)
    rw [State.replying_answer]
    unfold W.abortJob
    rw [W.job_id hj]
    rfl

/-! ## A reader that runs (R183) -/

section
variable {w : W} {n : Nat} {j : Job} (hj : w.job n = some j) (hone : ∀ k ∈ w.js.jobs, k.id = n → k = j)
include hj hone

/-- A reader brought to rest. -/
theorem restThenEnd_eq {d : Drive} {v : W} {g : Job → Job} (hv : v = w.modJob n g) (hg : ∀ k, (g k).id = k.id)
    (hstream : (g j).stream = some d) (hend : (g j).endAs = none) (how : JobState × JobResult) :
    v.restThenEnd n how = { (w.modJob n fun k => { g k with endAs := some how, yielding := false }) with
      streams := w.streams.put d { w.stream d with stopping := some .abort }
      signals := w.signals ++ [.parse d] } := by
  subst hv
  have hmod : ((w.modJob n g).modJob n fun k => { k with endAs := k.endAs.or (some how), yielding := false }) =
      w.modJob n fun k => { g k with endAs := some how, yielding := false } := by
    rw [modJob_modJob w n _ hg]
    refine modJob_congr w n fun k hk hid => ?_
    rw [hone k hk hid, hend]
    rfl
  have hs : (w.modJob n fun k => { g k with endAs := some how, yielding := false }).streamOf n = some d := by
    unfold W.streamOf
    rw [W.job_modJob, hj]
    · exact hstream
    · exact hg
  unfold W.restThenEnd
  rw [hmod]
  dsimp only
  rw [hs]
  rfl

theorem abortReader_verify {v : VerifyData} (hp : j.progress = .verify v) (hend : j.endAs = none) {d : Drive}
    (hs : j.stream = some d) : (w.withAbort n).abortReader n =
      { ((w.withAbort n).modJob n fun k => { k with endAs := some (.aborted, .host), yielding := false }) with
        streams := w.streams.put d { w.stream d with stopping := some .abort }
        signals := w.signals ++ [.parse d] } := by
  unfold W.abortReader
  rw [restThenEnd_eq hj hone (g := Job.aborting) (d := d) ?same (fun _ => rfl) hs hend]
  case same =>
    unfold W.withAbort W.modRestore
    rw [modJob_modJob w n (f := Job.aborting) _ fun _ => rfl]
    refine modJob_congr w n fun k hk hid => ?_
    rw [hone k hk hid]
    simp [Job.aborting, hp]
  unfold W.withAbort
  rw [modJob_modJob w n (f := Job.aborting) _ fun _ => rfl]

theorem abortReader_restore {r : RestoreData} (hp : j.progress = .restore r) (hend : j.endAs = none) {d : Drive}
    (hs : j.stream = some d) : (w.withAbort n).abortReader n =
      { ((w.withAbort n).modJob n fun k => { k with
          endAs := some (.aborted, .host), yielding := false
          progress := .restore { r with
            todo := [], stopped := r.stopped || !(w.coder.busy.any fun b => decide (b.job = n)) } }) with
        streams := w.streams.put d { w.stream d with stopping := some .abort }
        signals := w.signals ++ [.parse d] } := by
  have hbusy : (match w.coder.busy with
      | some b => decide (b.job = n)
      | none => false) = w.coder.busy.any fun b => decide (b.job = n) := by
    cases w.coder.busy <;> rfl
  unfold W.abortReader
  rw [restThenEnd_eq hj hone (d := d) (g := fun k => { k with
    abortPending := true
    progress := .restore { r with
      todo := [], stopped := r.stopped || !(w.coder.busy.any fun b => decide (b.job = n)) } }) ?same (fun _ => rfl) hs hend]
  case same =>
    unfold W.withAbort W.modRestore
    rw [modJob_modJob w n (f := Job.aborting) _ fun _ => rfl]
    refine modJob_congr w n fun k hk hid => ?_
    rw [hone k hk hid, ← hbusy]
    simp only [Job.aborting, hp]
    rfl
  unfold W.withAbort
  rw [modJob_modJob w n (f := Job.aborting) _ fun _ => rfl]
  rfl

end

/-! ## A mount that stops (R88) -/

/-- A job that waits for the changer or a drive. -/
theorem hasWork_iff {w : W} {n : Nat} {j : Job} (h : w.job n = some j) : w.hasWork n = true ↔ j.ticket.isSome = true ∨
    ∃ d, (j.drive = some d ∨ (j.mountStep = some .bringUnload ∧ ∃ i, j.cartridge = some i ∧ w.locationOf i = some (.drive d))) ∧
      (w.port d).pending.map PendingOp.requester = some (.job n) := by
  have hany (p : Drive → Bool) : ([Drive.d0, .d1].any p) = true ↔ ∃ d, p d = true := by
    constructor
    · intro hp
      obtain ⟨d, -, hd⟩ := List.any_eq_true.1 hp
      exact ⟨d, hd⟩
    · rintro ⟨d, hd⟩
      exact List.any_eq_true.2 ⟨d, by cases d <;> simp, hd⟩
  unfold W.hasWork
  rw [h]
  dsimp only
  rw [Bool.or_eq_true, hany]
  refine or_congr_right (exists_congr fun d => ?_)
  unfold W.fetchesFrom
  rw [Bool.and_eq_true, Bool.or_eq_true, Bool.and_eq_true, decide_eq_true_iff, decide_eq_true_iff, decide_eq_true_iff,
    Option.any_eq_true]
  simp only [decide_eq_true_eq]

theorem queueMove_ports (w : W) (o : Origin) (e : Element) (a : Dest) (l : Option Label) (t : Nat) (i : Option Nat) :
    (w.queueMove o e a l t i).1.ports = w.ports := by
  rw [W.queueMove_eq]
  split <;> rfl

theorem issueMove_ports (w : W) (o : Origin) (e : Element) (a : Dest) (i : Option Nat) :
    (w.issueMove o e a i).1.ports = w.ports := by
  unfold W.issueMove
  dsimp only
  split
  · split
    · exact queueMove_ports _ _ _ _ _ _ _
    · rfl
  · rfl

/-- A cartridge asked to go home leaves the ports, the table and the claims. -/
theorem issueReturn_keeps (w : W) (d : Drive) : (w.issueReturn d).ports = w.ports ∧ w.sameClaims (w.issueReturn d) := by
  have hmark (i : Nat) : (w.markReturning i).ports = w.ports ∧ w.sameClaims (w.markReturning i) := by
    unfold W.markReturning
    split <;> exact ⟨rfl, sameClaims_rfl⟩
  unfold W.issueReturn
  split
  · exact ⟨rfl, sameClaims_rfl⟩
  next i _ =>
    split
    · exact ⟨(issueMove_ports _ _ _ _ _).trans (hmark i).1, (hmark i).2.trans (sameClaims_issueMove _ _ _ _ _)⟩
    · unfold W.unmarkReturning
      split <;> exact ⟨rfl, sameClaims_rfl⟩

/-- A cartridge lies unclaimed in HOLDING. -/
def W.isLeft (w : W) (d : Drive) : Prop :=
  (w.port d).state = .holding ∧ w.driveClaim d = none ∧ ∀ i, w.portCart d = some i → w.claimOf i = none

theorem isLeft_iff (w : W) (d : Drive) : ((w.port d).state = .holding ∧ (w.driveClaim d).isNone ∧
    ((w.portCart d).bind w.claimOf).isNone) ↔ w.isLeft d := by
  unfold W.isLeft
  rw [Option.isNone_iff_eq_none, Option.isNone_iff_eq_none, Option.bind_eq_none_iff]

theorem isLeft_congr {w v : W} (hp : v.ports = w.ports) (hc : w.sameClaims v) (d : Drive) : v.isLeft d ↔ w.isLeft d := by
  obtain ⟨hct, hcl⟩ := hc
  unfold W.isLeft W.driveClaim W.portCart W.claimOf W.cart W.port
  rw [hp, hct, hcl]

section
variable {w : W} {l : Drive → Prop} {h : Drive → Bool} (hl : ∀ d, h d = true ↔ l d)
include hl

/-- A drive of the mount with a cartridge left in it. -/
theorem returnLeft_left {d : Drive} (hd : l d ∧ w.isLeft d) (rest : List Drive) :
    w.returnLeft ((if h d then [d] else []) ++ rest) = (w.issueReturn d).returnLeft rest := by
  rw [if_pos ((hl d).2 hd.1)]
  exact congrArg (fun v => W.returnLeft v rest) (if_pos ((isLeft_iff w d).2 hd.2))

theorem returnLeft_none {d : Drive} (hd : ¬(l d ∧ w.isLeft d)) (rest : List Drive) :
    w.returnLeft ((if h d then [d] else []) ++ rest) = w.returnLeft rest := by
  by_cases hld : l d
  · rw [if_pos ((hl d).2 hld)]
    exact congrArg (fun v => W.returnLeft v rest) (if_neg (mt (isLeft_iff w d).1 fun hn => hd ⟨hld, hn⟩))
  · rw [if_neg (mt (hl d).1 hld)]
    rfl

/-- What is left of a mount goes home, drive by drive. -/
theorem returnLeft_eq :
    (¬(l .d0 ∧ w.isLeft .d0) → ¬(l .d1 ∧ w.isLeft .d1) → w.returnLeft ([Drive.d0, .d1].filter h) = w) ∧
    (l .d0 ∧ w.isLeft .d0 → ¬(l .d1 ∧ w.isLeft .d1) → w.returnLeft ([Drive.d0, .d1].filter h) = w.issueReturn .d0) ∧
    (¬(l .d0 ∧ w.isLeft .d0) → l .d1 ∧ w.isLeft .d1 → w.returnLeft ([Drive.d0, .d1].filter h) = w.issueReturn .d1) ∧
    (l .d0 ∧ w.isLeft .d0 → l .d1 ∧ w.isLeft .d1 →
      w.returnLeft ([Drive.d0, .d1].filter h) = (w.issueReturn .d0).issueReturn .d1) := by
  have hfilter : [Drive.d0, .d1].filter h = (if h .d0 then [.d0] else []) ++ ((if h .d1 then [.d1] else []) ++ []) := by
    cases h0 : h .d0 <;> cases h1 : h .d1 <;> simp [h0, h1]
  have hkept := isLeft_congr (issueReturn_keeps w .d0).1 (issueReturn_keeps w .d0).2 .d1
  rw [hfilter]
  refine ⟨fun h0 h1 => ?_, fun h0 h1 => ?_, fun h0 h1 => ?_, fun h0 h1 => ?_⟩
  · rw [returnLeft_none hl h0, returnLeft_none hl h1]
    rfl
  · rw [returnLeft_left hl h0, returnLeft_none hl (by rwa [hkept])]
    rfl
  · rw [returnLeft_none hl h0, returnLeft_left hl h1]
    rfl
  · rw [returnLeft_left hl h0, returnLeft_left hl (by rwa [hkept])]
    rfl

end

theorem mountStops_eq {w : W} {n : Nat} {j : Job} (h : w.job n = some j) (hk : j.kind ≠ .backup) :
    w.mountStops n = ((w.modJob n fun k => { k with mountStep := none }).endJob n .aborted .host).returnLeft
      (w.mountDrives j) := by
  unfold W.mountStops
  rw [h]
  exact if_neg hk

/-! ## The call of the truncation procedure (R125) -/

theorem callTruncation_eq {w : W} {n : Nat} {j : Job} {b : BackupData} {d : Drive} (how : JobState × JobResult)
    (h : w.job n = some j) (hp : j.progress = .backup b) (hs : j.stream = some d) (hb : b.truncating = false) :
    ∃ g : Job → Job, (g = fun k => { k with ticket := if w.js.heldMoves.any (fun m => m.origin = .job n) then none else k.ticket }) ∧
      w.callTruncation n how = ((((w.modBackup n fun x => { x with
        truncating := true, truncEnd := some how, openObject := none
        ending := if x.ending = some .closeWrite then none else x.ending }).modStream d
          fun s => { s.dropIntake with markerWait := none }).dropHeld n).modJob n g).emit (.advance n) := by
  have hdata : w.backupData n = some b := by
    unfold W.backupData Job.backup?
    rw [h, Option.bind_some, hp]
  have hstream : (w.modBackup n fun x => { x with
      truncating := true, truncEnd := some how, openObject := none
      ending := if x.ending = some .closeWrite then none else x.ending }).streamOf n = some d := by
    unfold W.streamOf
    rw [W.job_modBackup, h, Option.map_some, hp]
    exact hs
  refine ⟨_, rfl, ?_⟩
  unfold W.callTruncation
  rw [hdata]
  dsimp only
  rw [if_neg (by rw [hb]; nofun), hstream]
  rfl

theorem callTruncation_facts {w : W} {n : Nat} {j : Job} {b : BackupData} {d : Drive} (how : JobState × JobResult)
    (h : w.job n = some j) (hp : j.progress = .backup b) (hs : j.stream = some d) (hb : b.truncating = false) :
    (w.callTruncation n how).backupData n = some { b with
        truncating := true, truncEnd := some how, openObject := none
        ending := if b.ending = some .closeWrite then none else b.ending } ∧
      (w.callTruncation n how).stream d = { w.stream d with
        intake := (w.stream d).intake.filter fun c => c.state = .coding, openObject := none, markerWait := none } ∧
      (w.callTruncation n how).out = w.out ∧ (w.callTruncation n how).cg = w.cg ∧
      (w.callTruncation n how).signals = w.signals ++ [.advance n] := by
  obtain ⟨g, hg, he⟩ := callTruncation_eq how h hp hs hb
  rw [he]
  refine ⟨?_, Pair.get_put_same _ _ _, rfl, rfl, rfl⟩
  unfold W.backupData
  rw [W.job_emit, W.job_modJob _ _ g fun k => by rw [hg], W.job_dropHeld, W.job_modStream, W.job_modBackup, h,
    Option.map_some, hp, Option.map_some, hg]
  rfl

/-! ## A job that ends (R71) -/

theorem finishJob_job {w : W} {n : Nat} {j : Job} (h : w.job n = some j) (hf : j.state.isFinished = false) (s : JobState)
    (r : JobResult) : ∃ k, (w.finishJob n s r).job n = some k ∧ k.state = s ∧ k.result = some r ∧ k.pins = [] ∧
      k.drive = none ∧ k.cartridge = none := by
  have hd : (w.dropHeld n).job n = some j := h
  obtain ⟨⟨st, hst⟩, -, -⟩ := releaseBoth_facts hd
  unfold W.finishJob
  rw [h]
  dsimp only
  rw [if_neg (by rw [hf]; nofun), W.job_wantDispatch, W.job_jobNotice, W.job_modJob, job_unbind, hst]
  · exact ⟨_, rfl, rfl, rfl, rfl, rfl, rfl⟩
  · exact fun _ => rfl

/-! ## The course of an abort (R88) -/

/-- A mount being aborted, its held move dropped. -/
def W.withoutHeld (w : W) (n : Nat) : W :=
  if w.js.heldMoves.any fun m => m.origin = .job n then (w.dropHeld n).modJob n fun j => { j with ticket := none } else w

theorem withoutHeld_withAbort (w : W) (n : Nat) : (w.withAbort n).withoutHeld n =
    if w.js.heldMoves.any fun m => decide (m.origin = .job n) then
      { ((w.withAbort n).modJob n fun k => { k with ticket := none }) with js := { w.js with
        heldMoves := w.js.heldMoves.filter fun m => !decide (m.origin = .job n)
        jobs := ((w.withAbort n).modJob n fun k => { k with ticket := none }).js.jobs } }
    else w.withAbort n := by
  have hnot : (fun m : HeldMove => decide (m.origin ≠ .job n)) = fun m => !decide (m.origin = .job n) :=
    funext fun m => decide_not
  unfold W.withoutHeld
  refine if_congr Iff.rfl ?_ rfl
  unfold W.dropHeld
  rw [hnot]
  rfl

theorem hasWork_withoutHeld {w : W} {n : Nat} {j : Job} (h : w.job n = some j) :
    ((w.withAbort n).withoutHeld n).hasWork n = true ↔
      (w.js.heldMoves.any (fun m => decide (m.origin = .job n)) = false ∧ j.ticket.isSome = true) ∨
      ∃ d, (j.drive = some d ∨ (j.mountStep = some .bringUnload ∧ ∃ i, j.cartridge = some i ∧ w.locationOf i = some (.drive d))) ∧
        (w.port d).pending.map PendingOp.requester = some (.job n) := by
  have ha := job_withAbort h
  unfold W.withoutHeld
  by_cases hheld : (w.js.heldMoves.any fun m => decide (m.origin = .job n)) = true
  · have hd : ((w.withAbort n).dropHeld n).job n = some j.aborting := ha
    have hj : (((w.withAbort n).dropHeld n).modJob n fun j => { j with ticket := none }).job n =
        some { j.aborting with ticket := none } := by
      rw [W.job_modJob, hd]
      · rfl
      · exact fun _ => rfl
    rw [if_pos (show ((w.withAbort n).js.heldMoves.any fun m => decide (m.origin = .job n)) = true from hheld), hasWork_iff hj, hheld]
    simp only [Option.isSome_none, Bool.false_eq_true, Bool.true_eq_false, false_and]
    rfl
  · have hno := Bool.eq_false_of_not_eq_true hheld
    rw [if_neg (show ¬((w.withAbort n).js.heldMoves.any fun m => decide (m.origin = .job n)) = true from hheld), hasWork_iff ha, hno]
    simp only [true_and]
    rfl

theorem abortMounting_eq (w : W) (n : Nat) : w.abortMounting n =
    if (w.withoutHeld n).hasWork n then w.withoutHeld n else (w.withoutHeld n).mountStops n := rfl

section
variable {w : W} {j : Job} (hb : ∀ b, j.progress ≠ .backup b)
include hb

theorem abortCourse_mounting (hm : j.state = .mounting) : w.abortCourse j = w.abortMounting j.id := by
  unfold W.abortCourse
  cases hp : j.progress with
  | backup b => exact absurd hp (hb b)
  | verify v | restore r | clean =>
    dsimp only
    rw [hm]

theorem abortCourse_waits (hm : j.state ∈ [JobState.queued, .waiting, .held]) :
    w.abortCourse j = w.endJob j.id .aborted .host := by
  unfold W.abortCourse
  simp only [List.mem_cons, List.not_mem_nil, or_false] at hm
  cases hp : j.progress with
  | backup b => exact absurd hp (hb b)
  | verify v | restore r | clean => rcases hm with hm | hm | hm <;> rw [hm] <;> rfl

end

/-- Settles O44. -/
theorem jobsAreAborted : Obligations.JobsAreAborted := by
  refine ⟨?_, ?_, fun w n j b d how h hp hs hb => callTruncation_facts how h hp hs hb, ?_⟩
  · intro s f n h
    dsimp only
    rw [abortJob_settles h]
    refine ⟨fun hj => by rw [hj], fun j hj => ⟨fun hf => by rw [hj]; dsimp only; rw [if_pos hf], fun hf ha => ?_, fun hf ha => ?_⟩⟩
    · rw [hj]
      dsimp only
      rw [if_neg (by rw [hf]; nofun), if_pos ha]
    have hcourse : (match s.work.job n.toNat with
        | none => s.turnedDown f .noSuchJob .empty
        | some j =>
          if j.state.isFinished then s.turnedDown f .wrongState .empty
          else if j.abortPending then s.answered f s.work (.jobState j.state)
          else s.answered f ((s.work.withAbort n.toNat).abortCourse j) (.jobState j.state)) =
        s.answered f ((s.work.withAbort n.toNat).abortCourse j) (.jobState j.state) := by
      rw [hj]
      dsimp only
      rw [if_neg (by rw [hf]; nofun), if_neg (by rw [ha]; nofun)]
    rw [hcourse]
    have hid := W.job_id hj
    have next {a b : W} {st : JobState} (e : a = b) : (Host.Outcome.next (s.answered f a (.jobState st)) :
        Host.Outcome State Fault Refusal) = .next (s.answered f b (.jobState st)) := by rw [e]
    refine ⟨fun b hp => next ?_, fun hp hr => ?_, fun d ⟨v, hp⟩ hr hs he hone => ?_, fun d r hp hr hs he hone => ?_,
      fun hb hm => ?_, fun hb hm => next ?_⟩
    · unfold W.abortCourse
      rw [hp, ← hid]
      rfl
    · rw [hr]
      refine next ?_
      unfold W.abortCourse
      rw [hp, hr]
      rfl
    · rw [hr]
      refine next ?_
      refine Eq.trans ?_ (abortReader_verify hj hone hp he hs)
      unfold W.abortCourse
      rw [hp, hr, hid]
    · rw [hr]
      refine next ?_
      refine Eq.trans ?_ (abortReader_restore hj hone hp he hs)
      unfold W.abortCourse
      rw [hp, hr, hid]
    · rw [hm, abortCourse_mounting hb hm, hid, abortMounting_eq]
      have hx := withoutHeld_withAbort s.work n.toNat
      have hw := hasWork_withoutHeld hj
      refine ⟨fun hworks => next ?_, fun hno => next ?_⟩
      · exact (if_pos (hw.2 hworks)).trans hx
      · exact (if_neg (mt hw.1 hno)).trans (congrArg (fun x => W.mountStops x n.toNat) hx)
    · exact (abortCourse_waits hb hm).trans (by rw [hid]; rfl)
  · intro w n j h hk
    have hleft := returnLeft_eq (w := (w.modJob n fun k => { k with mountStep := none }).endJob n .aborted .host)
      (l := fun d => j.drive = some d ∨ ∃ i, j.cartridge = some i ∧ w.locationOf i = some (.drive d))
      (h := fun d => decide (j.drive = some d) || j.cartridge.any fun i => decide (w.locationOf i = some (.drive d)))
      (fun d => by rw [Bool.or_eq_true, decide_eq_true_iff, Option.any_eq_true]; simp only [decide_eq_true_eq])
    rw [mountStops_eq h hk]
    exact hleft
  · intro w n j r h hf hk
    obtain ⟨k, hj, hst, hres, hpins, hdr, hcart⟩ := finishJob_job h hf .aborted r
    rw [W.endJob_of_ne_verify h hk, hj]
    exact ⟨congrArg some hst, hres, congrArg some hpins, hdr, hcart⟩

end Sys2Proof.Machine

/-! PROOF. Objects of a BACKUP and the intake (R111 to R113, R130 to R132, R142). -/

namespace Sys2Proof.Machine

/-! ## The requests -/

theorem exec_beginObject {s : State} {f : RequestFrame} {n : Byte} (h : s.requests f 0x41 [n]) :
    exec .beginObject s = .next (s.replying f (ownBeginObject s.work [n])) :=
  State.ask_eq h (acceptedIn_of_not_refused _ rfl) rfl

theorem exec_endObject {s : State} {f : RequestFrame} {n k : Byte} (h : s.requests f 0x43 [n, k]) :
    exec .endObject s = .next (s.replying f (ownEndObject s.work [n, k])) :=
  State.ask_eq h (acceptedIn_of_not_refused _ rfl) rfl

theorem exec_closeSession {s : State} {f : RequestFrame} {n : Byte} (h : s.requests f 0x44 [n]) :
    exec .closeSession s = .next (s.replying f (ownCloseSession s.work [n])) :=
  State.ask_eq h (acceptedIn_of_not_refused _ rfl) rfl

theorem noNewObjects_iff (j : Job) (b : BackupData) : (noNewObjects j b = true ∨ b.openObject.isSome = true) ↔
    (j.state.isFinished ∨ j.abortPending ∨ b.closing ∨ b.truncating ∨ b.openObject.isSome) := by
  unfold noNewObjects
  rw [Bool.or_eq_true, Bool.or_eq_true, Bool.or_eq_true]
  tauto

theorem acceptingObject_of_backup {j : Job} {b : BackupData} (h : j.backup? = some b) : acceptingObject j =
    if j.state.isFinished ∨ j.abortPending ∨ b.truncating then none else b.openObject := by
  unfold acceptingObject
  rw [h]
  refine if_congr ?_ rfl rfl
  rw [Bool.or_eq_true, Bool.or_eq_true, or_assoc]

theorem acceptingObject_of_other {j : Job} (h : j.backup? = none) : acceptingObject j = none := by
  unfold acceptingObject
  rw [h]

/-! ## The end of an object in the intake (R113) -/

/-- The last buffer, while it is FILLING or FULL. -/
def Stream.openTail (x : Stream) : Option Chunk := x.intake.getLast?.filter fun c => c.state = .filling ∨ c.state = .full

/-- The intake once an object has ended. -/
def Stream.ended (x : Stream) (session : Nat) (secure : Bool) : List Chunk :=
  match x.openTail, x.openObject with
  | some c, _ => x.intake.dropLast ++ [{ c with state := .closed, final := true, secureNow := secure }]
  | none, some k => x.intake ++
      [{ state := .closed, session := session, object := k.object, index := k.nextChunk, data := [],
         snapshot := k.snapshot, final := true, secureNow := secure }]
  | none, none => x.intake

theorem tailOpen_eq (x : Stream) : x.tailOpen = x.openTail.isSome := by
  unfold Stream.tailOpen Stream.openTail
  cases x.intake.getLast? with
  | none => rfl
  | some c => by_cases h : c.state = .filling ∨ c.state = .full <;> simp [Option.filter, h, ← Bool.decide_or]

theorem openTail_last {x : Stream} {c : Chunk} (h : x.openTail = some c) : x.intake.getLast? = some c :=
  (Option.filter_eq_some_iff.1 h).1

theorem endObject_eq (x : Stream) (session : Nat) (secure : Bool) :
    x.endObject session secure = { x with intake := x.ended session secure, openObject := none } := by
  unfold Stream.endObject Stream.ended
  rw [tailOpen_eq]
  cases hc : x.openTail with
  | some c =>
    refine (congrArg (fun t : Stream => { t with openObject := none }) (if_pos rfl)).trans ?_
    unfold Stream.modTail
    rw [openTail_last hc]
  | none =>
    refine (congrArg (fun t : Stream => { t with openObject := none }) (if_neg Bool.false_ne_true)).trans ?_
    cases ho : x.openObject with
    | none => rfl
    | some o => rfl

theorem endObject_full_iff (x : Stream) : (x.tailOpen = false ∧ x.freeChunks = 0) ↔ (x.openTail = none ∧ 4 ≤ x.intake.length) := by
  rw [tailOpen_eq, Option.isSome_eq_false_iff, Option.isNone_iff_eq_none]
  unfold Stream.freeChunks
  rw [Nat.sub_eq_zero_iff_le]

/-! ## BEGIN OBJECT, END OBJECT and CLOSE SESSION -/

section
variable (s : State) (f : RequestFrame)

theorem State.replying_badArgument (w : W) : s.replying f (refuse w .badArgument) = s.turnedDown f .badArgument .empty :=
  State.replying_refuse _ _ _ nofun

theorem State.replying_wrongState (w : W) : s.replying f (refuse w .wrongState) = s.turnedDown f .wrongState .empty :=
  State.replying_refuse _ _ _ nofun

theorem State.replying_noSuchJob (w : W) : s.replying f (refuse w .noSuchJob) = s.turnedDown f .noSuchJob .empty :=
  State.replying_refuse _ _ _ nofun

theorem State.replying_full (w : W) : s.replying f (refuse w .full) = s.turnedDown f .full .empty :=
  State.replying_refuse _ _ _ nofun

theorem State.replying_tooLarge (w : W) : s.replying f (refuse w .tooLarge) = s.turnedDown f .tooLarge .empty :=
  State.replying_refuse _ _ _ nofun

end

theorem beginObject_settles (s : State) (f : RequestFrame) (n : Byte) (h : s.requests f 0x41 [n]) :
    exec .beginObject s = .next (match s.work.job n.toNat with
      | none => s.turnedDown f .noSuchJob .empty
      | some j => match j.backup? with
        | none => s.turnedDown f .wrongState .empty
        | some b =>
          if j.state.isFinished ∨ j.abortPending ∨ b.closing ∨ b.truncating ∨ b.openObject.isSome then
            s.turnedDown f .wrongState .empty
          else if 16777215 ≤ b.objectsBegun then s.turnedDown f .tooLarge .empty
          else s.answered f (beginObject s.work j b) (.objectNumber (b.objectsBegun + 1))) := by
  rw [exec_beginObject h]
  refine congrArg Host.Outcome.next ?_
  unfold ownBeginObject
  rw [fieldsOf_one]
  cases s.work.job n.toNat with
  | none => exact State.replying_noSuchJob s f _
  | some j =>
    dsimp only
    cases j.backup? with
    | none => exact State.replying_wrongState s f _
    | some b =>
      dsimp only
      rw [State.replying_ite, State.replying_ite]
      exact if_congr (noNewObjects_iff j b) (State.replying_wrongState s f _)
        (if_congr Iff.rfl (State.replying_tooLarge s f _) rfl)

theorem beginObject_eq {s : State} {n : Byte} {j : Job} (h : s.work.job n.toNat = some j) (b : BackupData) :
    let set := settingOf s.settings.working
    let o := b.objectsBegun + 1
    let snap : Snapshot := { mode := b.snapshot.mode, gain := set 1, storedRun := set 2, skip := set 3 }
    let w := (s.work.modBackup n.toNat fun x =>
      { x with objectsBegun := o
               openObject := some { object := o, bytesAccepted := 0, snapshot := snap } }).modSession
      (j.sessionId.getD 0) fun x => { x with objectsBegun := o }
    beginObject s.work j b = match j.stream with
      | some d => { w with streams := s.lib.streams.put d { s.work.stream d with
          openObject := some { object := o, snapshot := snap, nextChunk := 0, secureNow := false } } }
      | none => w := by
  unfold beginObject
  rw [W.job_id h]
  cases j.stream <;> rfl

theorem closeSession_settles (s : State) (f : RequestFrame) (n : Byte) (h : s.requests f 0x44 [n]) :
    exec .closeSession s = .next (match s.work.job n.toNat with
      | none => s.turnedDown f .noSuchJob .empty
      | some j => match j.backup? with
        | none => s.turnedDown f .wrongState .empty
        | some b =>
          if j.state.isFinished ∨ j.abortPending ∨ b.closing ∨ b.truncating ∨ b.openObject.isSome then
            s.turnedDown f .wrongState .empty
          else s.answered f { (s.work.modBackup n.toNat fun x => { x with closing := true }) with
            signals := s.lib.signals ++ [.advance n.toNat] } .empty) := by
  rw [exec_closeSession h]
  refine congrArg Host.Outcome.next ?_
  unfold ownCloseSession
  rw [fieldsOf_one]
  cases hj : s.work.job n.toNat with
  | none => exact State.replying_noSuchJob s f _
  | some j =>
    dsimp only
    rw [W.job_id hj]
    cases j.backup? with
    | none => exact State.replying_wrongState s f _
    | some b =>
      dsimp only
      rw [State.replying_ite]
      exact if_congr (noNewObjects_iff j b) (State.replying_wrongState s f _) rfl

theorem endObject_settles (s : State) (f : RequestFrame) (n secure : Byte) (h : s.requests f 0x43 [n, secure]) :
    exec .endObject s = .next (match s.work.job n.toNat with
      | none => s.turnedDown f .noSuchJob .empty
      | some j =>
        if 1 < secure.toNat then s.turnedDown f .badArgument .empty
        else match j.backup? with
        | none => s.turnedDown f .wrongState .empty
        | some b =>
          if j.state.isFinished ∨ j.abortPending ∨ b.truncating then s.turnedDown f .wrongState .empty
          else match b.openObject with
          | none => s.turnedDown f .wrongState .empty
          | some o => match j.stream with
            | none => s.turnedDown f .full .empty
            | some d =>
              if (s.work.stream d).openTail = none ∧ 4 ≤ (s.work.stream d).intake.length then s.turnedDown f .full .empty
              else s.answered f { (s.work.modBackup n.toNat fun y => { y with openObject := none }) with
                streams := s.lib.streams.put d { s.work.stream d with
                  intake := (s.work.stream d).ended (j.sessionId.getD 0) (decide (secure = 1#8)), openObject := none }
                signals := s.lib.signals ++ [.advance n.toNat] } (.objectEnded o.object o.bytesAccepted)) := by
  rw [exec_endObject h]
  refine congrArg Host.Outcome.next ?_
  unfold ownEndObject
  dsimp only
  rw [fieldsOf_two_zero, fieldsOf_two_one]
  cases hj : s.work.job n.toNat with
  | none => exact State.replying_noSuchJob s f _
  | some j =>
    dsimp only
    rw [State.replying_ite, W.job_id hj]
    refine if_congr Iff.rfl (State.replying_badArgument s f _) ?_
    cases hb : j.backup? with
    | none =>
      rw [acceptingObject_of_other hb]
      exact State.replying_wrongState s f _
    | some b =>
      rw [acceptingObject_of_backup hb]
      dsimp only
      by_cases hno : j.state.isFinished ∨ j.abortPending ∨ b.truncating
      · rw [if_pos hno, if_pos hno]
        exact State.replying_wrongState s f _
      rw [if_neg hno, if_neg hno]
      cases b.openObject with
      | none => exact State.replying_wrongState s f _
      | some o =>
        dsimp only
        cases j.stream with
        | none => exact State.replying_full s f _
        | some d =>
          dsimp only
          rw [State.replying_ite, endObject_eq]
          refine if_congr (endObject_full_iff _) (State.replying_full s f _) ?_
          have hsec : decide (secure.toNat = 1) = decide (secure = 1#8) := by
            rw [decide_eq_decide]
            exact byte_eq_iff secure (by omega)
          rw [hsec]
          rfl

/-- Settles O46. -/
theorem objectsAreBegunAndEnded : Obligations.ObjectsAreBegunAndEnded := by
  refine ⟨fun s f n h => ?_, fun s f n k h => ?_, closeSession_settles⟩
  · dsimp only
    rw [beginObject_settles s f n h]
    cases hj : s.work.job n.toNat with
    | none => rfl
    | some j =>
      dsimp only
      cases j.backup? with
      | none => rfl
      | some b =>
        dsimp only
        rw [beginObject_eq hj] <;> rfl
  · exact endObject_settles s f n k h

end Sys2Proof.Machine

/-! PROOF. WRITE DATA, and accepted data in the intake (R111, R112, R131). -/

namespace Sys2Proof.Machine

/-! ## The request (R131) -/

theorem exec_writeData {s : State} {f : RequestFrame} {n hi lo : Byte} {data : List Byte}
    (h : s.requests f 0x42 (n :: hi :: lo :: data)) (hlen : hi.toNat * 256 + lo.toNat = data.length) :
    exec .writeData s = .next (s.replying f (ownWriteData s.work (n :: hi :: lo :: data))) := by
  refine State.ask_eq h (acceptedIn_of_not_refused _ rfl) ?_
  unfold writeDataForm
  simp [beNat, hlen]

theorem writeData_settles (s : State) (f : RequestFrame) (n hi lo : Byte) (data : List Byte)
    (h : s.requests f 0x42 (n :: hi :: lo :: data)) (hlen : hi.toNat * 256 + lo.toNat = data.length) :
    exec .writeData s = .next (
      if data = [] ∨ 4096 < data.length then s.turnedDown f .badArgument .empty
      else match s.work.job n.toNat with
      | none => s.turnedDown f .noSuchJob .empty
      | some j => match j.backup? with
        | none => s.turnedDown f .wrongState .empty
        | some b =>
          if j.state.isFinished ∨ j.abortPending ∨ b.truncating then s.turnedDown f .wrongState .empty
          else match b.openObject with
          | none => s.turnedDown f .wrongState .empty
          | some o =>
            if 1072693248 < o.bytesAccepted + data.length then s.turnedDown f .tooLarge .empty
            else match j.stream with
            | none => s.turnedDown f .full .empty
            | some d =>
              if (s.work.stream d).room < data.length then s.turnedDown f .full .empty
              else s.answered f { (s.work.modBackup n.toNat fun x => { x with
                  openObject := x.openObject.map fun y =>
                    { y with bytesAccepted := y.bytesAccepted + data.length } }) with
                streams := s.lib.streams.put d
                  (Stream.accept (data.length + 2) (j.sessionId.getD 0) data (s.work.stream d)) } .empty) := by
  rw [exec_writeData h hlen]
  refine congrArg Host.Outcome.next ?_
  show s.replying f (if data = [] ∨ 4096 < data.length then refuse s.work .badArgument else _) = _
  rw [State.replying_ite]
  refine if_congr Iff.rfl (State.replying_badArgument s f _) ?_
  rw [List.headD_cons]
  cases hj : s.work.job n.toNat with
  | none => exact State.replying_noSuchJob s f _
  | some j =>
    dsimp only
    rw [W.job_id hj]
    cases hb : j.backup? with
    | none =>
      rw [acceptingObject_of_other hb]
      exact State.replying_wrongState s f _
    | some b =>
      rw [acceptingObject_of_backup hb]
      dsimp only
      by_cases hno : j.state.isFinished ∨ j.abortPending ∨ b.truncating
      · rw [if_pos hno, if_pos hno]
        exact State.replying_wrongState s f _
      rw [if_neg hno, if_neg hno]
      cases b.openObject with
      | none => exact State.replying_wrongState s f _
      | some o =>
        dsimp only
        rw [State.replying_ite]
        refine if_congr Iff.rfl (State.replying_tooLarge s f _) ?_
        cases j.stream with
        | none => exact State.replying_full s f _
        | some d =>
          dsimp only
          rw [State.replying_ite]
          exact if_congr Iff.rfl (State.replying_full s f _) rfl

/-! ## Data in the intake (R111) -/

/-- What a chunk keeps while data is added to it. -/
def Chunk.tag (c : Chunk) : Nat × Nat × Nat × Snapshot × Bool := (c.session, c.object, c.index, c.snapshot, c.final)

/-- The tags of the chunks that follow in an open object. -/
def newTags (session : Nat) (o : StreamObject) (k : Nat) : List (Nat × Nat × Nat × Snapshot × Bool) :=
  (List.range k).map fun i => (session, o.object, o.nextChunk + i, o.snapshot, false)

/-- An object with chunks more. -/
def StreamObject.after (o : StreamObject) (k : Nat) : StreamObject := { o with nextChunk := o.nextChunk + k }

/-- A stream has taken data of its open object, with chunks more. -/
structure Stream.Took (session : Nat) (o : StreamObject) (x : Stream) (data : List Byte) (k : Nat) (y : Stream) : Prop where
  bytes : (y.intake.map Chunk.data).flatten = (x.intake.map Chunk.data).flatten ++ data
  tags : y.intake.map Chunk.tag = x.intake.map Chunk.tag ++ newTags session o k
  room : y.room + data.length = x.room
  places : y.intake.length ≤ 4
  short : ∀ c ∈ y.intake, c.data.length ≤ 16368
  object : y.openObject = some (o.after k)
  others : { y with intake := x.intake, openObject := x.openObject } = x

theorem newTags_add (session : Nat) (o : StreamObject) (k m : Nat) :
    newTags session o (k + m) = newTags session o k ++ newTags session (o.after k) m := by
  unfold newTags StreamObject.after
  rw [List.range_add, List.map_append, List.map_map]
  refine congrArg _ (List.map_congr_left fun i _ => ?_)
  simp [Nat.add_assoc]

theorem Stream.Took.trans {session : Nat} {o : StreamObject} {x y z : Stream} {a b : List Byte} {k m : Nat}
    (h : Stream.Took session o x a k y) (h' : Stream.Took session (o.after k) y b m z) :
    Stream.Took session o x (a ++ b) (k + m) z where
  bytes := by rw [h'.bytes, h.bytes, List.append_assoc]
  tags := by rw [h'.tags, h.tags, newTags_add, List.append_assoc]
  room := by
    have := h.room
    have := h'.room
    rw [List.length_append]
    omega
  places := h'.places
  short := h'.short
  object := by
    rw [h'.object]
    unfold StreamObject.after
    rw [Nat.add_assoc]
  others := by
    have hx := h.others
    have hy := h'.others
    rw [← hy] at hx
    exact hx

theorem Stream.took_nil {session : Nat} {o : StreamObject} {x : Stream} (ho : x.openObject = some o) (hp : x.intake.length ≤ 4)
    (hs : ∀ c ∈ x.intake, c.data.length ≤ 16368) : Stream.Took session o x [] 0 x where
  bytes := (List.append_nil _).symm
  tags := (List.append_nil _).symm
  room := rfl
  places := hp
  short := hs
  object := ho
  others := rfl

/-! ### The last buffer takes what it lacks -/

theorem tailRoom_pos {x : Stream} (h : 0 < x.tailRoom) : ∃ pre c, x.intake = pre ++ [c] ∧ c.state = .filling ∧
    x.tailRoom = 16368 - c.data.length := by
  unfold Stream.tailRoom at h ⊢
  cases hc : x.intake.getLast? with
  | none => rw [hc] at h; cases h
  | some c =>
    rw [hc] at h
    dsimp only at h ⊢
    by_cases hf : c.state = .filling
    · obtain ⟨pre, hpre⟩ := List.getLast?_eq_some_iff.1 hc
      exact ⟨pre, c, hpre, hf, if_pos hf⟩
    · rw [if_neg hf] at h
      cases h

theorem modTail_append {x : Stream} {pre : List Chunk} {c : Chunk} (h : x.intake = pre ++ [c]) (g : Chunk → Chunk) :
    x.modTail g = { x with intake := pre ++ [g c] } := by
  unfold Stream.modTail
  rw [h, List.getLast?_concat, List.dropLast_concat]

theorem tailRoom_append {x : Stream} {pre : List Chunk} {c : Chunk} (h : x.intake = pre ++ [c]) :
    x.tailRoom = if c.state = .filling then 16368 - c.data.length else 0 := by
  unfold Stream.tailRoom
  rw [h, List.getLast?_concat]
  rfl

/-- A buffer of so many bytes lacks the rest. -/
theorem room_of_fillState (n : Nat) : (if fillState n = .filling then 16368 - n else 0) = 16368 - n := by
  unfold fillState chunkSize
  split
  next => rfl
  next h =>
    rw [if_neg nofun]
    omega

/-- The buffer with more data in it. -/
def Chunk.filled (c : Chunk) (part : List Byte) : Chunk :=
  { c with data := c.data ++ part, state := fillState (c.data.length + part.length) }

theorem took_fill {session : Nat} {o : StreamObject} {x : Stream} {pre : List Chunk} {c : Chunk} {part : List Byte}
    (ho : x.openObject = some o) (hp : x.intake.length ≤ 4) (hs : ∀ c ∈ x.intake, c.data.length ≤ 16368)
    (h : x.intake = pre ++ [c]) (hc : c.state = .filling) (hfit : part.length ≤ 16368 - c.data.length) :
    Stream.Took session o x part 0 (x.modTail fun c => c.filled part) := by
  have hlast : c.data.length ≤ 16368 := hs c (by rw [h]; simp)
  rw [modTail_append h]
  refine ⟨?_, ?_, ?_, ?_, ?_, ho, rfl⟩
  · rw [h]
    simp [Chunk.filled]
  · rw [h]
    simp [newTags, Chunk.filled, Chunk.tag]
  · have hx := tailRoom_append h
    have hy := tailRoom_append (x := { x with intake := pre ++ [c.filled part] }) rfl
    rw [if_pos hc] at hx
    have hfill : (c.filled part).data.length = c.data.length + part.length := List.length_append
    unfold Stream.room Stream.freeChunks
    rw [hx, hy, hfill]
    have hroom := room_of_fillState (c.data.length + part.length)
    rw [show (c.filled part).state = fillState (c.data.length + part.length) from rfl, hroom, h]
    simp only [List.length_append, List.length_singleton]
    omega
  · rw [h, List.length_append] at hp
    rw [List.length_append]
    exact hp
  · intro k hk
    rcases List.mem_append.1 hk with hk | hk
    · exact hs k (by rw [h]; exact List.mem_append_left _ hk)
    · rw [List.mem_singleton.1 hk]
      show (c.data ++ part).length ≤ 16368
      rw [List.length_append]
      omega

/-! ### A buffer opens -/

/-- The last buffer is closed when there is more to come. -/
def Stream.closeTail (x : Stream) : Stream := if x.tailOpen then x.modTail fun c => { c with state := .closed } else x

theorem took_close {session : Nat} {o : StreamObject} {x : Stream} (ho : x.openObject = some o) (hp : x.intake.length ≤ 4)
    (hs : ∀ c ∈ x.intake, c.data.length ≤ 16368) (hr : x.tailRoom = 0) :
    Stream.Took session o x [] 0 x.closeTail ∧ x.closeTail.intake.length = x.intake.length ∧ x.closeTail.tailRoom = 0 := by
  unfold Stream.closeTail
  split
  next hopen =>
    obtain ⟨c, hc⟩ := Option.isSome_iff_exists.1 ((tailOpen_eq x).symm.trans hopen)
    obtain ⟨pre, hpre⟩ := List.getLast?_eq_some_iff.1 (openTail_last hc)
    have hlast : c.data.length ≤ 16368 := hs c (by rw [hpre]; simp)
    have hlen : (pre ++ [{ c with state := .closed }]).length = x.intake.length := by
      rw [hpre]
      simp
    have hroom := tailRoom_append (x := { x with intake := pre ++ [{ c with state := .closed }] }) rfl
    rw [if_neg nofun] at hroom
    rw [modTail_append hpre]
    refine ⟨⟨?_, ?_, ?_, hlen.le.trans hp, ?_, ho, rfl⟩, hlen, hroom⟩
    · rw [hpre]
      simp
    · rw [hpre]
      simp [newTags, Chunk.tag]
    · unfold Stream.room Stream.freeChunks
      rw [hroom, hr, hlen]
      rfl
    · intro k hk
      rcases List.mem_append.1 hk with hk | hk
      · exact hs k (by rw [hpre]; exact List.mem_append_left _ hk)
      · rw [List.mem_singleton.1 hk]
        exact hlast
  next => exact ⟨Stream.took_nil ho hp hs, rfl, hr⟩

theorem took_open {session : Nat} {o : StreamObject} {x : Stream} {part : List Byte}
    (hp : x.intake.length < 4) (hs : ∀ c ∈ x.intake, c.data.length ≤ 16368) (hr : x.tailRoom = 0)
    (hfit : part.length ≤ 16368) :
    Stream.Took session o x part 1 (x.openChunk session o part (fillState part.length) false false) := by
  unfold Stream.openChunk
  refine ⟨?_, ?_, ?_, ?_, ?_, rfl, rfl⟩
  · simp
  · simp [newTags, Chunk.tag]
  · unfold Stream.room Stream.freeChunks
    rw [hr, tailRoom_append rfl]
    dsimp only
    rw [room_of_fillState, List.length_append, List.length_singleton]
    unfold chunkSize
    omega
  · rw [List.length_append, List.length_singleton]
    omega
  · intro k hk
    rcases List.mem_append.1 hk with hk | hk
    · exact hs k hk
    · rw [List.mem_singleton.1 hk]
      exact hfit

/-! ### Accepted data -/

theorem accept_fill {x : Stream} (fuel session : Nat) (b : Byte) (rest : List Byte) (h : 0 < x.tailRoom) :
    Stream.accept (fuel + 1) session (b :: rest) x = Stream.accept fuel session ((b :: rest).drop x.tailRoom)
      (x.modTail fun c => c.filled ((b :: rest).take x.tailRoom)) := if_pos h

theorem accept_open {x : Stream} {o : StreamObject} (fuel session : Nat) (b : Byte) (rest : List Byte) (h : ¬0 < x.tailRoom)
    (ho : x.closeTail.openObject = some o) :
    Stream.accept (fuel + 1) session (b :: rest) x = Stream.accept fuel session ((b :: rest).drop 16368)
      (x.closeTail.openChunk session o ((b :: rest).take 16368) (fillState ((b :: rest).take 16368).length) false false) := by
  have hstep : Stream.accept (fuel + 1) session (b :: rest) x = match x.closeTail.openObject with
      | none => x.closeTail
      | some o => Stream.accept fuel session ((b :: rest).drop chunkSize)
          (x.closeTail.openChunk session o ((b :: rest).take chunkSize) (fillState ((b :: rest).take chunkSize).length)
            false false) := if_neg h
  rw [hstep, ho]
  rfl

/-- Data that has room is taken in full (R111, R112). -/
theorem accept_took (session : Nat) {fuel : Nat} {o : StreamObject} {x : Stream} {data : List Byte}
    (hf : data.length ≤ fuel) (ho : x.openObject = some o) (hp : x.intake.length ≤ 4)
    (hs : ∀ c ∈ x.intake, c.data.length ≤ 16368) (hroom : data.length ≤ x.room) :
    ∃ k, Stream.Took session o x data k (Stream.accept fuel session data x) := by
  induction fuel generalizing o x data with
  | zero =>
    cases List.length_eq_zero_iff.1 (Nat.le_zero.1 hf)
    exact ⟨0, Stream.took_nil ho hp hs⟩
  | succ fuel ih =>
    cases data with
    | nil => exact ⟨0, Stream.took_nil ho hp hs⟩
    | cons b rest =>
      have go {part more : List Byte} {k : Nat} {y : Stream} (hy : Stream.Took session o x part k y) (hne : part ≠ [])
          (hsplit : part ++ more = b :: rest) :
          ∃ m, Stream.Took session o x (b :: rest) m (Stream.accept fuel session more y) := by
        have hlen := congrArg List.length hsplit
        rw [List.length_append] at hlen
        have hpos := List.length_pos_iff.2 hne
        have hr := hy.room
        obtain ⟨m, hm⟩ := ih (o := o.after k) (x := y) (data := more) (by omega) hy.object hy.places hy.short (by omega)
        exact ⟨k + m, hsplit ▸ hy.trans hm⟩
      by_cases ht : 0 < x.tailRoom
      · obtain ⟨pre, c, hpre, hc, hr⟩ := tailRoom_pos ht
        rw [accept_fill fuel session b rest ht]
        refine go (took_fill ho hp hs hpre hc ?_) ?_ (List.take_append_drop _ _)
        · rw [← hr]
          exact List.length_take_le _ _
        · obtain ⟨r, hr'⟩ := Nat.exists_eq_succ_of_ne_zero ht.ne'
          rw [hr', List.take_succ_cons]
          nofun
      · have hz := Nat.eq_zero_of_not_pos ht
        obtain ⟨hclose, hlen, hr⟩ := took_close (session := session) ho hp hs hz
        have hfew : x.intake.length < 4 := by
          by_contra hfull
          unfold Stream.room Stream.freeChunks at hroom
          rw [hz, Nat.sub_eq_zero_of_le (Nat.not_lt.1 hfull)] at hroom
          cases hroom
        rw [accept_open fuel session b rest ht hclose.object]
        refine go (hclose.trans (took_open (hlen ▸ hfew) hclose.short hr (List.length_take_le _ _))) ?_
          (List.take_append_drop _ _)
        rw [List.nil_append, List.take_succ_cons]
        nofun

/-- Settles O47. -/
theorem acceptedDataFillsTheIntake : Obligations.AcceptedDataFillsTheIntake := by
  refine ⟨writeData_settles, fun x => ?_, fun x o session data ho hroom hp hs => ?_⟩
  · unfold Stream.room Stream.tailRoom Stream.freeChunks
    rfl
  · obtain ⟨k, h⟩ := accept_took session (Nat.le_add_right data.length 2) ho hp hs hroom
    generalize Stream.accept (data.length + 2) session data x = t at h ⊢
    have hlen : t.intake.length = x.intake.length + k := by
      have := congrArg List.length h.tags
      simpa [newTags] using this
    have hnew : (t.intake.drop x.intake.length).map Chunk.tag = newTags session o k := by
      rw [List.map_drop, h.tags, ← List.length_map (f := Chunk.tag), List.drop_left]
    refine ⟨h.bytes, h.places, h.short, by have := h.room; omega, ⟨k, h.object, hlen, ?_⟩, fun c hc => ?_, h.others⟩
    · have := congrArg (List.map fun q : Nat × Nat × Nat × Snapshot × Bool => q.2.2.1) hnew
      rw [List.map_map] at this
      unfold newTags at this
      rw [List.map_map] at this
      exact this
    · have hmem : c.tag ∈ newTags session o k := hnew ▸ List.mem_map_of_mem hc
      obtain ⟨i, -, hi⟩ := List.mem_map.1 hmem
      unfold Chunk.tag at hi
      simp only [Prod.mk.injEq] at hi
      obtain ⟨h1, h2, -, h3, h4⟩ := hi
      exact ⟨h1.symm, h2.symm, h3.symm, h4.symm⟩

end Sys2Proof.Machine

/-! PROOF. Reports of the catalog, capacity figures, and what is derived for a session (R145, R147, R152, R158, R159). -/

namespace Sys2Proof.Machine

/-! ## Reports (R158, R159) -/

theorem fieldsOf_words (a b c d : Byte) : fieldsOf [2, 2] [a, b, c, d] 0 = a.toNat * 256 + b.toNat ∧
    fieldsOf [2, 2] [a, b, c, d] 1 = c.toNat * 256 + d.toNat := by
  simp [fieldsOf, natFields, fields, beNat]

theorem sessionInfo_settles (s : State) (f : RequestFrame) (ih il qh ql : Byte) (h : s.requests f 0x70 [ih, il, qh, ql]) :
    exec .sessionInfo s = .next (
      if ih.toNat * 256 + il.toNat = 0 then s.reported f (.sessions (s.lib.cg.sessions.map (sessionSummary s.work)))
      else match s.work.session (ih.toNat * 256 + il.toNat) with
        | none => s.turnedDown f .noSuchSession .empty
        | some x =>
          let all := s.work.extentsOf (ih.toNat * 256 + il.toNat)
          let rest := all.filter fun e => decide (qh.toNat * 256 + ql.toNat ≤ e.sequence)
          s.reported f (.session x (s.work.pinCount (ih.toNat * 256 + il.toNat)) all.length ((rest.take 200).map extentSummary)
            (decide (200 < rest.length)))) := by
  obtain ⟨h0, h1⟩ := fieldsOf_words ih il qh ql
  refine (State.look_eq h (acceptedIn_of_not_refused _ rfl) rfl).trans (congrArg Host.Outcome.next ?_)
  unfold ownSessionInfo
  dsimp only
  rw [h0, h1]
  by_cases hz : ih.toNat * 256 + il.toNat = 0
  · rw [if_pos hz, if_pos hz]
    rfl
  rw [if_neg hz, if_neg hz]
  cases hs : s.work.session (ih.toNat * 256 + il.toNat) with
  | none => rfl
  | some x =>
    have hid : x.id = ih.toNat * 256 + il.toNat := by simpa using List.find?_some hs
    dsimp only
    rw [hid]
    rfl

theorem extentInfo_settles (s : State) (f : RequestFrame) (ih il qh ql : Byte) (h : s.requests f 0x71 [ih, il, qh, ql]) :
    exec .extentInfo s = .next (match s.work.session (ih.toNat * 256 + il.toNat),
        s.work.extent (ih.toNat * 256 + il.toNat) (qh.toNat * 256 + ql.toNat) with
      | some _, some e => s.reported f (.extent e)
      | _, _ => s.turnedDown f .noSuchSession .empty) := by
  obtain ⟨h0, h1⟩ := fieldsOf_words ih il qh ql
  refine (State.look_eq h (acceptedIn_of_not_refused _ rfl) rfl).trans (congrArg Host.Outcome.next ?_)
  unfold ownExtentInfo
  dsimp only
  rw [h0, h1]
  cases s.work.session (ih.toNat * 256 + il.toNat) with
  | none => rfl
  | some x => cases s.work.extent (ih.toNat * 256 + il.toNat) (qh.toNat * 256 + ql.toNat) <;> rfl

/-- A session is pinned when a job holds a pin on it. -/
theorem pinned_iff (w : W) (id : Nat) : 0 < w.pinCount id ↔ (w.js.jobs.any fun j => j.pins.contains id) = true := by
  unfold W.pinCount
  rw [List.length_pos_iff_exists_mem, List.any_eq_true]
  simp only [List.mem_filter]

theorem catalogInfo_settles (s : State) (f : RequestFrame) (h : s.requests f 0x74 []) :
    exec .catalogInfo s = .next (s.reported f (.catalog s.lib.cg.sessions.length (64 - s.lib.cg.sessions.length)
      s.lib.cg.extents.length (1024 - s.lib.cg.extents.length)
      ([SessionState.opened, .closed, .truncated].map fun t => (s.lib.cg.sessions.filter fun x => x.state = t).length)
      ([SessionOrigin.written, .loaded, .rebuilt].map fun o => (s.lib.cg.sessions.filter fun x => x.origin = o).length)
      (s.lib.cg.sessions.filter fun x => s.lib.js.jobs.any fun j => j.pins.contains x.id).length
      ((List.range 8).map s.work.poolReport))) := by
  refine (State.look_eq h (acceptedIn_of_not_refused _ rfl) rfl).trans (congrArg Host.Outcome.next ?_)
  have hpins : (fun x : SessionRec => decide (0 < s.work.pinCount x.id)) =
      fun x => s.lib.js.jobs.any fun j => j.pins.contains x.id := by
    funext x
    rw [Bool.eq_iff_iff, decide_eq_true_iff]
    exact pinned_iff s.work x.id
  unfold ownCatalogInfo
  rw [hpins]
  rfl

/-! ## Capacity (R145) -/

theorem remainingBlocks_eq (t n : Nat) : remainingBlocks t n = t - n := by
  unfold remainingBlocks
  split <;> omega

theorem capacityReport_known {c : CartRec} {k : CartKind} {n : Nat} (hc : c.kind = some k) (hk : k ≠ .clean)
    (hn : c.blocksUsed = .known n) :
    let capacity := if k = .a then 2500000 else 6000000
    let t := capacity - capacity / 64
    let ratio := if c.codedBytes = 0 then 100 else min (100 * c.rawBytes / c.codedBytes) 9999
    capacityReport c =
      { capacity := capacity, reserve := capacity / 64, threshold := t, remainingBlocks := some (t - n), ratio := ratio
        estimatedRawRoom := some ((t - n) * 65536 * ratio / 100) } := by
  have hdata : ¬isDataKind c.kind = false := by
    rw [hc]
    cases k with
    | clean => exact absurd rfl hk
    | a | b => nofun
  unfold capacityReport
  rw [if_neg hdata, hn, hc]
  dsimp only
  rw [remainingBlocks_eq]
  cases k with
  | clean => exact absurd rfl hk
  | a => rfl
  | b => rfl

/-! ## What is derived for a session (R147, R152) -/

theorem all_state_iff (l : List ExtentRec) (v : VerifyState) :
    (l.all fun e => decide (e.verifyState = v)) = true ↔ ∀ e ∈ l, e.verifyState = v := by
  simp only [List.all_eq_true, decide_eq_true_eq]

theorem summaryOf_unverified {l : List ExtentRec} (h : ∀ e ∈ l, e.verifyState = .unverified) : summaryOf l = .unverified :=
  if_pos ((all_state_iff l _).2 h)

/-- The extents of a list with one do not agree on two states. -/
theorem not_all_state {l : List ExtentRec} {v : VerifyState} (hl : l ≠ []) (h : ∀ e ∈ l, e.verifyState = v) {u : VerifyState}
    (hu : u ≠ v) : ¬(l.all fun e => decide (e.verifyState = u)) = true := by
  rw [all_state_iff]
  obtain ⟨e, he⟩ := List.exists_mem_of_ne_nil l hl
  exact fun hall => hu ((hall e he).symm.trans (h e he))

theorem summaryOf_verified {l : List ExtentRec} (hl : l ≠ []) (h : ∀ e ∈ l, e.verifyState = .verified) :
    summaryOf l = .verified := by
  unfold summaryOf
  rw [if_neg (not_all_state hl h (u := .unverified) nofun), if_pos ((all_state_iff l _).2 h)]

theorem summaryOf_damaged {l : List ExtentRec} (hl : l ≠ []) (h : ∀ e ∈ l, e.verifyState = .damaged) :
    summaryOf l = .damaged := by
  unfold summaryOf
  rw [if_neg (not_all_state hl h (u := .unverified) nofun), if_neg (not_all_state hl h (u := .verified) nofun), if_pos ((all_state_iff l _).2 h)]

theorem summaryOf_partly {l : List ExtentRec} {a b : ExtentRec} (ha : a ∈ l) (hb : b ∈ l)
    (hne : a.verifyState ≠ b.verifyState) : summaryOf l = .partly := by
  have hno (v : VerifyState) : ¬(l.all fun e => decide (e.verifyState = v)) = true := by
    rw [all_state_iff]
    exact fun hall => hne ((hall a ha).trans (hall b hb).symm)
  unfold summaryOf
  rw [if_neg (hno _), if_neg (hno _), if_neg (hno _)]

theorem derived_summary (l : List ExtentRec) (y : SessionRec) : (derived l y).verifySummary = summaryOf l := by
  unfold derived
  dsimp only
  split <;> rfl

theorem derived_counts {l : List ExtentRec} {y : SessionRec} (h : (derived l y).origin ≠ .written) :
    derived l y = deriveCounts l { y with verifySummary := summaryOf l } := by
  rw [(keepsSession_derived l).origin] at h
  exact if_neg h

theorem deriveSession_session {w : W} {id : Nat} {x : SessionRec} (h : (w.deriveSession id).session id = some x) :
    ∃ y, x = derived (w.extentsOf id) y := by
  rw [deriveSession_eq, W.session_modSession _ _ _ (keepsSession_derived _).id] at h
  obtain ⟨y, -, rfl⟩ := Option.map_eq_some_iff.1 h
  exact ⟨y, rfl⟩

/-- Settles O58. -/
theorem theCatalogIsReported : Obligations.TheCatalogIsReported := by
  refine ⟨fun s f ih il qh ql h => sessionInfo_settles s f ih il qh ql h, fun s f ih il qh ql h => ?_,
    fun s f h => catalogInfo_settles s f h, fun c k n hc hk hn => capacityReport_known hc hk hn, fun w id x h => ?_⟩
  · refine (extentInfo_settles s f ih il qh ql h).trans (congrArg Host.Outcome.next ?_)
    have hext : s.work.extent (ih.toNat * 256 + il.toNat) (qh.toNat * 256 + ql.toNat) = s.lib.cg.extents.find? fun e =>
        decide (e.session = ih.toNat * 256 + il.toNat ∧ e.sequence = qh.toNat * 256 + ql.toNat) := rfl
    have hses : s.work.session (ih.toNat * 256 + il.toNat) =
        s.lib.cg.sessions.find? fun x => decide (x.id = ih.toNat * 256 + il.toNat) := rfl
    rw [hext, hses] <;> rfl
  · obtain ⟨y, rfl⟩ := deriveSession_session h
    show ((∀ e ∈ w.extentsOf id, _) → _) ∧ _
    rw [derived_summary]
    refine ⟨summaryOf_unverified, summaryOf_verified, summaryOf_damaged, fun a ha b hb => summaryOf_partly ha hb, fun ho => ?_⟩
    rw [derived_counts ho]
    exact ⟨rfl, rfl, rfl, rfl⟩

end Sys2Proof.Machine

/-! PROOF. Where extents lie on a cartridge (R151, R156, R157). -/

namespace Sys2Proof.Machine

/-! ## The checks of an extent handed in (R156) -/

/-- A block range meets an extent on a cartridge. -/
def W.meets (w : W) (e : ExtentIn) (i : Nat) : Prop := ∃ y ∈ w.cg.extents, y.cartridge = i ∧ 0 < y.blockCount ∧
  y.firstBlock < e.firstBlock + e.blockCount ∧ e.firstBlock < y.firstBlock + y.blockCount

theorem overlapsOn_iff (w : W) (e : ExtentIn) (i : Nat) : w.overlapsOn i e.firstBlock e.blockCount = true ↔ w.meets e i := by
  unfold W.overlapsOn W.extentsOn W.meets
  rw [List.any_eq_true]
  refine exists_congr fun y => ?_
  rw [(perm_sortBy _ _).mem_iff, List.mem_filter]
  simp only [decide_eq_true_eq, Bool.and_eq_true, and_assoc]

/-- An extent handed in starts a session, or joins one that is neither OPEN nor WRITTEN. -/
def W.wrongSession (w : W) (id : Nat) : Bool :=
  match w.session id with
  | some r => decide (r.state = .opened) || decide (r.origin = .written)
  | none => false

/-- R156's checks of an extent whose cartridge the table knows. -/
theorem extentAnswer_eq {w : W} {e : ExtentIn} (self : Option Nat) (hargs : extentArgsBad e = false) {i : Nat}
    (hi : w.cartByLabel e.label = some i) : w.extentAnswer e self =
      if w.wrongSession e.session then .wrongState
      else if (w.session e.session).isSome && w.pinnedByOther e.session self then .inUse
      else if (w.extent e.session e.sequence).isSome then .duplicate
      else if w.overlapsOn i e.firstBlock e.blockCount then .overlap
      else if ((w.knownUsed i).any fun u => decide (u < e.firstBlock + e.blockCount)) then .beyondEnd
      else if w.extentFree = false ∨ ((w.session e.session).isNone ∧ w.sessionFree = false) then .catalogFull
      else .ok := by
  unfold W.extentAnswer
  rw [if_neg (by rw [hargs]; nofun), hi]
  dsimp only
  unfold W.wrongSession
  simp only [Bool.decide_eq_true] <;> rfl

/-- What the answer OK tells. -/
theorem extentAnswer_ok {w : W} {e : ExtentIn} {self : Option Nat} (h : w.extentAnswer e self = .ok) {i : Nat}
    (hi : w.cartByLabel e.label = some i) : w.extent e.session e.sequence = none ∧ ¬w.meets e i ∧
      ∀ n, w.knownUsed i = some n → e.firstBlock + e.blockCount ≤ n := by
  cases hargs : extentArgsBad e with
  | true =>
    unfold W.extentAnswer at h
    rw [if_pos hargs] at h
    cases h
  | false =>
    rw [extentAnswer_eq self hargs hi] at h
    split at h
    · cases h
    split at h
    · cases h
    split at h
    · cases h
    next hdup =>
    split at h
    · cases h
    next hmeets =>
    split at h
    · cases h
    next hend =>
    refine ⟨Option.not_isSome_iff_eq_none.1 hdup, fun hm => hmeets ((overlapsOn_iff w e i).2 hm), fun n hn => ?_⟩
    rw [hn] at hend
    simpa using hend

/-! ## An extent is made (R150) -/

theorem makeExtent_extents (w : W) (e : ExtentRec) : (w.makeExtent e).cg.extents = insertExtent e w.cg.extents := by
  unfold W.makeExtent
  exact congrArg Catalog.extents (modCart_cg _ _ _)

theorem sameRecords_makeExtent (w : W) (e : ExtentRec) : w.sameRecords (w.makeExtent e) := by
  have hw : w.sameRecords { w with cg := { w.cg with extents := insertExtent e w.cg.extents } } := sameRecords_of_cart fun _ => rfl
  exact (hw.trans (sameRecords_modCart _ e.cartridge fun n => n + 1)).trans (sameRecords_of_cart fun _ => rfl)

/-- The session an extent handed in belongs to: the one that bears its id, or a new one. -/
def W.withSession (w : W) (e : ExtentIn) (origin : SessionOrigin) : W :=
  if (w.session e.session).isSome then w
  else w.createSession
    { id := e.session, hostTag := e.hostTag, state := .closed, origin := origin, pool := e.pool, codingMode := none
      objectsBegun := 0, chunkCount := 0, rawBytes := 0, codedBytes := 0, verifySummary := .unverified }

/-- The record of an extent handed in. -/
def ExtentIn.record (e : ExtentIn) (i : Nat) : ExtentRec :=
  { session := e.session, sequence := e.sequence, label := e.label, cartridge := i
    firstBlock := e.firstBlock, blockCount := e.blockCount
    firstObject := if e.firstObject ≠ 0 then some e.firstObject else none
    firstChunk := if e.firstObject ≠ 0 then e.firstChunk else 0
    lastObject := if e.firstObject ≠ 0 then some e.lastObject else none
    chunkFrames := e.chunkFrames, rawBytes := e.rawBytes, codedBytes := e.codedBytes
    continued := bitOf 0 e.flags, continues := bitOf 1 e.flags, endMark := bitOf 2 e.flags
    isOpen := false, verifyState := .unverified, damagedChunks := 0 }

theorem takeExtent_eq {w : W} {e : ExtentIn} {i : Nat} (hi : w.cartByLabel e.label = some i) (origin : SessionOrigin) :
    w.takeExtent e origin = (w.withSession e origin).makeExtent (e.record i) := by
  unfold W.takeExtent
  rw [hi]
  unfold ExtentIn.record
  simp only [decide_eq_true_eq]
  rfl

theorem withSession_extents (w : W) (e : ExtentIn) (origin : SessionOrigin) :
    (w.withSession e origin).cg.extents = w.cg.extents ∧ (w.withSession e origin).ct = w.ct := by
  unfold W.withSession
  split <;> exact ⟨rfl, rfl⟩

theorem takeExtent_extents {w : W} {e : ExtentIn} {i : Nat} (hi : w.cartByLabel e.label = some i) (origin : SessionOrigin) :
    (w.takeExtent e origin).cg.extents = insertExtent (e.record i) w.cg.extents := by
  rw [takeExtent_eq hi, makeExtent_extents, (withSession_extents w e origin).1]

theorem takeExtent_knownUsed {w : W} {e : ExtentIn} {i : Nat} (hi : w.cartByLabel e.label = some i) (origin : SessionOrigin)
    (k : Nat) : (w.takeExtent e origin).knownUsed k = w.knownUsed k := by
  rw [takeExtent_eq hi, (sameRecords_makeExtent _ _).knownUsed, knownUsed_of_ct (withSession_extents w e origin).2]

/-! ## A block written (R134) -/

/-- A change of an extent by a block written. -/
structure lengthens (g : ExtentRec → ExtentRec) : Prop where
  key : ∀ e, (g e).session = e.session ∧ (g e).sequence = e.sequence
  place : ∀ e, (g e).cartridge = e.cartridge ∧ (g e).firstBlock = e.firstBlock
  count : ∀ e, (g e).blockCount = e.blockCount + 1

/-- What a block written does to the record of its cartridge and to its extent. -/
theorem countBlock_facts {w : W} {n i : Nat} (buf : Buffer) {j : Job} {b : BackupData} {c : CartRec} (hj : w.job n = some j)
    (hp : j.progress = .backup b) (hc : w.cart i = some c) : (w.countBlock n i buf).knownUsed i = some (buf.index + 1) ∧
      ∃ g, lengthens g ∧ (w.countBlock n i buf).cg.extents = (w.modExtent (j.sessionId.getD 0) b.extentSeq g).cg.extents := by
  have hsid : w.sessionOf n = j.sessionId.getD 0 := by
    unfold W.sessionOf
    rw [hj]
    rfl
  have hseq : ((w.backupData n).map BackupData.extentSeq).getD 0 = b.extentSeq := by
    unfold W.backupData Job.backup?
    rw [hj, Option.bind_some, hp]
    rfl
  unfold W.countBlock
  dsimp only
  rw [hsid, hseq]
  have hw1 : (w.modCart i fun c =>
      { c with blocksUsed := .known (buf.index + 1), rawBytes := cap64 (c.rawBytes + rawOf buf.chunks)
               codedBytes := cap64 (c.codedBytes + codedOf buf.chunks) }).cart i = _ := (W.cart_modCart_map w i _).trans
    (congrArg _ hc)
  have hcg := modCart_cg w i fun c =>
      { c with blocksUsed := .known (buf.index + 1), rawBytes := cap64 (c.rawBytes + rawOf buf.chunks)
               codedBytes := cap64 (c.codedBytes + codedOf buf.chunks) }
  generalize (w.modCart i fun c =>
      { c with blocksUsed := .known (buf.index + 1), rawBytes := cap64 (c.rawBytes + rawOf buf.chunks)
               codedBytes := cap64 (c.codedBytes + codedOf buf.chunks) }) = v at hw1 hcg ⊢
  have hw2 : ∃ m, (if v.mediaOf i = some .blank then v.setMedia i .opened .blockWrite else v).cart i = some m ∧
      m.blocksUsed = .known (buf.index + 1) := by
    split
    · exact ⟨_, setMedia_cart hw1 _ _, rfl⟩
    · exact ⟨_, hw1, rfl⟩
  have hcg2 : (if v.mediaOf i = some .blank then v.setMedia i .opened .blockWrite else v).cg = w.cg := by
    split
    · exact (setMedia_cg v i _ _).trans hcg
    · exact hcg
  generalize (if v.mediaOf i = some .blank then v.setMedia i .opened .blockWrite else v) = u at hw2 hcg2 ⊢
  obtain ⟨m, hm, hused⟩ := hw2
  refine ⟨?_, _, ?longer, congrArg (fun c : Catalog => c.extents.map _) hcg2⟩
  case longer => exact ⟨fun _ => ⟨rfl, rfl⟩, fun _ => ⟨rfl, rfl⟩, fun _ => rfl⟩
  · have hk : u.knownUsed i = some (buf.index + 1) := by
      unfold W.knownUsed
      rw [hm, Option.map_some, hused]
    exact hk

/-- With keys distinct, the extents that are changed under a key are one. -/
theorem eq_of_key {l : List ExtentRec} (h : (l.map fun e => (e.session, e.sequence)).Nodup) {a b : ExtentRec} (ha : a ∈ l)
    (hb : b ∈ l) (hk : a.session = b.session ∧ a.sequence = b.sequence) : a = b :=
  List.inj_on_of_nodup_map h ha hb (Prod.ext hk.1 hk.2)

theorem mem_of_extent {w : W} {id q : Nat} {e : ExtentRec} (h : w.extent id q = some e) :
    e ∈ w.cg.extents ∧ e.session = id ∧ e.sequence = q := by
  have hp := List.find?_some h
  rw [decide_eq_true_iff] at hp
  exact ⟨List.mem_of_find?_eq_some h, hp⟩

/-! ## Beyond a probed end (R157) -/

theorem removeAll_extents {w : W} {u : Nat} {l : List ExtentRec} : (w.removeAll u l).cg.extents =
    w.cg.extents.filter fun x => !(l.any fun e => decide (x.session = e.session ∧ x.sequence = e.sequence)) := by
  induction l generalizing w with
  | nil => exact (List.filter_eq_self.2 fun _ _ => rfl).symm
  | cons e l ih =>
    rw [removeAll_cons, ih, removeExtent_extents]
    unfold withoutKey
    rw [List.filter_filter]
    refine List.filter_congr fun x _ => ?_
    rw [List.any_cons, Bool.not_or, Bool.decide_and, Bool.and_comm]

theorem removeExtent_out (w : W) (u : Nat) (e : ExtentRec) : (w.removeExtent u e).out = w.out ++ [removalNotice u e] := by
  rw [removeExtent_eq]

theorem removeExtent_signals (w : W) (u : Nat) (e : ExtentRec) :
    (w.removeExtent u e).signals = w.signals ++ removalSignals w e := by
  rw [removeExtent_eq]

theorem removeAll_out (w : W) (u : Nat) (l : List ExtentRec) : (w.removeAll u l).out = w.out ++ l.map (removalNotice u) := by
  induction l generalizing w with
  | nil => exact (List.append_nil _).symm
  | cons e l ih => rw [removeAll_cons, ih, removeExtent_out, List.append_assoc, List.map_cons, List.singleton_append]

theorem removeAll_ids (w : W) (u : Nat) (l : List ExtentRec) :
    (w.removeAll u l).cg.sessions.map SessionRec.id = w.cg.sessions.map SessionRec.id := by
  induction l generalizing w with
  | nil => rfl
  | cons e l ih =>
    obtain ⟨g, -, -, -, hids⟩ := removeExtent_session w u e
    rw [removeAll_cons, ih, hids]

theorem removeAll_session_other (w : W) (u : Nat) (l : List ExtentRec) {k : Nat} (h : ∀ e ∈ l, e.session ≠ k) :
    (w.removeAll u l).session k = w.session k := by
  induction l generalizing w with
  | nil => rfl
  | cons e l ih =>
    obtain ⟨g, -, -, hother, -⟩ := removeExtent_session w u e
    rw [removeAll_cons, ih _ fun x hx => h x (List.mem_cons_of_mem _ hx), hother k (h e List.mem_cons_self).symm]

/-- A change after which a session is WRITTEN no more. -/
structure unwrites (g : SessionRec → SessionRec) : Prop where
  origin : ∀ s, (g s).origin = (loadedSession s).origin
  codingMode : ∀ s, (g s).codingMode = (loadedSession s).codingMode

/-- A session that has lost an extent is WRITTEN no more. -/
theorem removeAll_session (w : W) (u : Nat) {l : List ExtentRec} {k : Nat} (h : ∃ e ∈ l, e.session = k) :
    ∃ g, unwrites g ∧ (w.removeAll u l).session k = (w.session k).map g := by
  have hstep (w : W) (e : ExtentRec) (he : e.session = k) :
      ∃ g, unwrites g ∧ (w.removeExtent u e).session k = (w.session k).map g := by
    obtain ⟨g, hg, hs, -, -⟩ := removeExtent_session w u e
    exact ⟨fun s => g (loadedSession s), ⟨fun s => hg.origin _, fun s => hg.codingMode _⟩, he ▸ hs⟩
  induction l generalizing w with
  | nil =>
    obtain ⟨e, he, -⟩ := h
    cases he
  | cons e l ih =>
    rw [removeAll_cons]
    by_cases hl : ∃ e ∈ l, e.session = k
    · obtain ⟨g, hg, hs⟩ := ih (w.removeExtent u e) hl
      by_cases he : e.session = k
      · obtain ⟨g', hg', hs'⟩ := hstep w e he
        refine ⟨fun s => g (g' s), ⟨fun s => ?_, fun s => ?_⟩, ?_⟩
        · rw [hg.origin, loadedSession_origin, hg'.origin, loadedSession_origin]
          split <;> simp_all
        · rw [hg.codingMode, loadedSession_codingMode, hg'.origin, hg'.codingMode, loadedSession_origin]
          split <;> simp_all
        · rw [hs, hs', Option.map_map]
          rfl
      · obtain ⟨-, -, -, hother, -⟩ := removeExtent_session w u e
        exact ⟨g, hg, hs.trans (congrArg _ (hother k (Ne.symm he)))⟩
    · have hno : ∀ x ∈ l, x.session ≠ k := fun x hx hk => hl ⟨x, hx, hk⟩
      obtain ⟨x, hx, hk⟩ := h
      have he : e.session = k := by
        rcases List.mem_cons.1 hx with rfl | hx
        · exact hk
        · exact absurd hk (hno x hx)
      rw [removeAll_session_other _ u l hno]
      exact hstep w e he

theorem removeAll_signals {w : W} {u : Nat} {l : List ExtentRec} {s : Signal}
    (h : s ∈ w.signals ∨ ∃ e ∈ l, s ∈ removalSignals w e) : s ∈ (w.removeAll u l).signals := by
  induction l generalizing w with
  | nil =>
    rcases h with h | ⟨e, he, -⟩
    · exact h
    · cases he
  | cons e l ih =>
    have hsame (x : ExtentRec) : removalSignals (w.removeExtent u e) x = removalSignals w x := by
      unfold removalSignals
      rw [removeExtent_js]
    rw [removeAll_cons]
    refine ih ?_
    rw [removeExtent_signals, List.mem_append]
    rcases h with h | ⟨x, hx, hs⟩
    · exact .inl (.inl h)
    · rcases List.mem_cons.1 hx with rfl | hx
      · exact .inl (.inr hs)
      · exact .inr ⟨x, hx, by rwa [hsame]⟩

/-- Settles O60. -/
theorem extentsStayInTheirPlaces : Obligations.ExtentsStayInTheirPlaces := by
  refine ⟨fun w e self origin i hok hi => ?_, fun w n i buf j b c e hj hp hc he hend => ?_, fun w i u hkeys => ?_⟩
  · obtain ⟨-, hmeets, hused⟩ := extentAnswer_ok hok hi
    refine ⟨fun y hy hyi hpos => ?_, hused, e.record i, ?_, rfl, rfl, rfl, rfl, rfl, rfl, takeExtent_knownUsed hi origin i⟩
    · by_contra hn
      exact hmeets ⟨y, hy, hyi, hpos, by omega, by omega⟩
    · rw [takeExtent_extents hi]
      exact perm_insertExtent _ _
  · obtain ⟨hused, g, hg, hext⟩ := countBlock_facts buf hj hp hc
    have hfound : (w.countBlock n i buf).extent (j.sessionId.getD 0) b.extentSeq = some (g e) := by
      have h := W.extent_modExtent w (j.sessionId.getD 0) b.extentSeq g hg.key
      rw [he] at h
      unfold W.extent at h ⊢
      rw [hext]
      exact h
    refine ⟨⟨g e, hfound, (hg.place e).2, (hg.place e).1, ?_⟩, fun hkeys hin y hy hyi k hk => ?_⟩
    · rw [hused, (hg.place e).2, hg.count]
      exact congrArg some (by omega)
    · obtain rfl : buf.index + 1 = k := Option.some.inj (hused.symm.trans hk)
      rw [hext] at hy
      obtain ⟨x, hx, rfl⟩ := List.mem_map.1 hy
      by_cases hkey : x.session = j.sessionId.getD 0 ∧ x.sequence = b.extentSeq
      · rw [if_pos hkey]
        obtain ⟨hmem, hses, hseq⟩ := mem_of_extent he
        obtain rfl := eq_of_key hkeys hx hmem ⟨hkey.1.trans hses.symm, hkey.2.trans hseq.symm⟩
        rw [(hg.place x).2, hg.count]
        omega
      · rw [if_neg hkey] at hyi ⊢
        exact (hin x hx hyi).trans (Nat.le_succ _)
  · have hgone {e : ExtentRec} : e ∈ w.cg.extents.filter (beyond i u) ↔ e ∈ w.cg.extents ∧ beyond i u e = true := List.mem_filter
    refine ⟨?_, removeAll_out w u _, removeAll_ids w u _, fun x hx ⟨e, he, hb, hs⟩ => ?_, fun x hno => ?_,
      fun j hj e he hb hpin => ?_⟩
    · refine removeAll_extents.trans (List.filter_congr fun x hx => congrArg Bool.not ?_)
      rw [Bool.eq_iff_iff, List.any_eq_true]
      constructor
      · rintro ⟨e, he, hk⟩
        obtain ⟨hmem, hb⟩ := hgone.1 he
        rw [decide_eq_true_iff] at hk
        exact eq_of_key hkeys hx hmem hk ▸ hb
      · exact fun hb => ⟨x, hgone.2 ⟨hx, hb⟩, decide_eq_true ⟨rfl, rfl⟩⟩
    · obtain ⟨g, hg, hsess⟩ := removeAll_session w u (k := x.id) ⟨e, hgone.2 ⟨he, hb⟩, hs⟩
      obtain ⟨y, hy, hyx⟩ := Option.map_eq_some_iff.1 (hsess.symm.trans hx)
      have ho : x.origin = if y.origin = .written then .loaded else y.origin := by
        rw [← hyx, hg.origin, loadedSession_origin]
      refine ⟨?_, fun z hz => ?_⟩
      · rw [ho]
        split
        · nofun
        · assumption
      · obtain rfl := Option.some.inj (hy.symm.trans hz)
        refine ⟨ho, ?_⟩
        rw [← hyx, hg.codingMode, loadedSession_codingMode]
    · refine removeAll_session_other w u _ fun e he => ?_
      obtain ⟨hmem, hb⟩ := hgone.1 he
      exact hno e hmem hb
    · refine removeAll_signals (.inr ⟨e, hgone.2 ⟨he, hb⟩, List.mem_map.2 ⟨j, List.mem_filter.2 ⟨hj, ?_⟩, rfl⟩⟩)
      exact List.contains_iff_mem.2 hpin

end Sys2Proof.Machine

/-! PROOF. DROP SESSION and LOAD EXTENT (R150, R155, R156). -/

namespace Sys2Proof.Machine

/-! ## DROP SESSION (R155) -/

theorem dropSession_settles (s : State) (f : RequestFrame) (ih il : Byte) (h : s.requests f 0x72 [ih, il]) :
    exec .dropSession s = .next (match s.work.session (ih.toNat * 256 + il.toNat) with
      | none => s.turnedDown f .noSuchSession .empty
      | some x =>
        if x.state = .opened ∨ (s.lib.js.jobs.any fun j => j.pins.contains (ih.toNat * 256 + il.toNat)) = true then
          s.turnedDown f .inUse .empty
        else s.answered f (s.work.dropSession (ih.toNat * 256 + il.toNat)).1
          (.extentsFreed (s.work.extentsOf (ih.toNat * 256 + il.toNat)).length)) := by
  refine (State.ask_eq h (acceptedIn_of_not_refused _ rfl) rfl).trans (congrArg Host.Outcome.next ?_)
  unfold ownDropSession
  rw [fieldsOf_word]
  cases hs : s.work.session (ih.toNat * 256 + il.toNat) with
  | none => exact State.replying_refuse _ _ _ nofun
  | some x =>
    have hid : x.id = ih.toNat * 256 + il.toNat := by simpa using List.find?_some hs
    dsimp only
    rw [State.replying_ite, hid]
    exact if_congr (or_congr_right (pinned_iff s.work _)) (State.replying_refuse _ _ _ nofun) rfl

/-- Extents freed one after another. -/
def W.freeAll (w : W) (id : Nat) (l : List ExtentRec) : W := l.foldl (fun v e => v.freeExtent id e.sequence) w

theorem dropSession_eq (w : W) (id : Nat) : (w.dropSession id).1 =
    { w.freeAll id (w.extentsOf id) with cg := { (w.freeAll id (w.extentsOf id)).cg with
      sessions := (w.freeAll id (w.extentsOf id)).cg.sessions.filter fun s => s.id ≠ id } } := rfl

theorem freeAll_cons (w : W) (id : Nat) (e : ExtentRec) (l : List ExtentRec) :
    w.freeAll id (e :: l) = (w.freeExtent id e.sequence).freeAll id l := rfl

theorem catalogOnly_freeAll (w : W) (id : Nat) (l : List ExtentRec) : w.catalogOnly (w.freeAll id l) := by
  induction l generalizing w with
  | nil => exact catalogOnly_refl w
  | cons e l ih => exact (catalogOnly_freeExtent w id e.sequence).trans (ih _)

theorem freeAll_extents (w : W) (id : Nat) (l : List ExtentRec) : (w.freeAll id l).cg.extents =
    w.cg.extents.filter fun x => !(l.any fun e => decide (x.session = id ∧ x.sequence = e.sequence)) := by
  induction l generalizing w with
  | nil => exact (List.filter_eq_self.2 fun _ _ => rfl).symm
  | cons e l ih =>
    rw [freeAll_cons, ih, freeExtent_extents]
    unfold withoutKey
    rw [List.filter_filter]
    refine List.filter_congr fun x _ => ?_
    rw [List.any_cons, Bool.not_or, Bool.decide_and, Bool.and_comm]

/-- Freeing the extents of a session leaves the other sessions. -/
theorem freeAll_sessions (w : W) (id : Nat) (l : List ExtentRec) :
    ((w.freeAll id l).cg.sessions.filter fun s => decide (s.id ≠ id)) = w.cg.sessions.filter fun s => decide (s.id ≠ id) := by
  induction l generalizing w with
  | nil => rfl
  | cons e l ih =>
    obtain ⟨g, hg, hs⟩ := freeExtent_sessions w id e.sequence
    rw [freeAll_cons, ih, hs]
    show (w.cg.sessions.map fun s => if s.id = id then g s else s).filter _ = _
    induction w.cg.sessions with
    | nil => rfl
    | cons s rest ihs =>
      rw [List.map_cons]
      by_cases hk : s.id = id
      · rw [if_pos hk, List.filter_cons_of_neg (by simp [hg.id, hk]), List.filter_cons_of_neg (by simp [hk]), ihs]
      · rw [if_neg hk, List.filter_cons_of_pos (by simp [hk]), List.filter_cons_of_pos (by simp [hk]), ihs]

theorem extent_of_mem {w : W} (hkeys : (w.cg.extents.map fun e => (e.session, e.sequence)).Nodup) {e : ExtentRec}
    (he : e ∈ w.cg.extents) : w.extent e.session e.sequence = some e := by
  unfold W.extent
  cases h : w.cg.extents.find? fun x => decide (x.session = e.session ∧ x.sequence = e.sequence) with
  | none => exact absurd (decide_eq_true ⟨rfl, rfl⟩) (List.find?_eq_none.1 h e he)
  | some x =>
    obtain ⟨hx, hk⟩ := mem_of_extent h
    rw [eq_of_key hkeys hx he hk]

/-- A freed extent counts one less on its cartridge. -/
theorem freeExtent_cart {w : W} {id q : Nat} {e : ExtentRec} (h : w.extent id q = some e) {i : Nat} {c : CartRec}
    (hc : w.cart i = some c) : (w.freeExtent id q).cart i = some { c with
      extentCount := c.extentCount - if e.cartridge = i then 1 else 0 } := by
  rw [freeExtent_some h]
  show ((w.withoutExtent id q).modCart e.cartridge fun c => { c with extentCount := c.extentCount - 1 }).cart i = _
  split
  next hi =>
    subst hi
    exact (W.cart_modCart_map _ _ _).trans (congrArg (Option.map _) hc)
  next hi => exact (W.cart_modCart_other _ _ (Ne.symm hi)).trans hc

theorem freeAll_cart {w : W} {id : Nat} {l : List ExtentRec} (hkeys : (w.cg.extents.map fun e => (e.session, e.sequence)).Nodup)
    (hmem : ∀ e ∈ l, e ∈ w.cg.extents ∧ e.session = id) (hl : (l.map fun e => (e.session, e.sequence)).Nodup) {i : Nat}
    {c : CartRec} (hc : w.cart i = some c) : (w.freeAll id l).cart i = some { c with
      extentCount := c.extentCount - (l.filter fun e => decide (e.cartridge = i)).length } := by
  induction l generalizing w c with
  | nil => exact hc
  | cons e l ih =>
    obtain ⟨he, hid⟩ := hmem e List.mem_cons_self
    rw [List.map_cons, List.nodup_cons] at hl
    have hfound : w.extent id e.sequence = some e := hid ▸ extent_of_mem hkeys he
    rw [freeAll_cons, ih ?keys ?mem hl.2 (freeExtent_cart hfound hc)]
    case keys =>
      rw [freeExtent_extents]
      exact hkeys.sublist (List.filter_sublist.map _)
    case mem =>
      intro x hx
      obtain ⟨hxm, hxid⟩ := hmem x (List.mem_cons_of_mem _ hx)
      rw [freeExtent_extents, mem_withoutKey]
      refine ⟨⟨hxm, fun hk => hl.1 (List.mem_map.2 ⟨x, hx, ?_⟩)⟩, hxid⟩
      rw [hk.1, hk.2, hid]
    rw [List.filter_cons]
    by_cases hi : e.cartridge = i
    · simp [hi, Nat.sub_sub, Nat.add_comm]
    · simp [hi]

theorem dropSession_facts {w : W} (id : Nat) (hkeys : (w.cg.extents.map fun e => (e.session, e.sequence)).Nodup) :
    (w.dropSession id).1.cg.extents = w.cg.extents.filter (fun e => e.session ≠ id) ∧
    (w.dropSession id).1.cg.sessions = w.cg.sessions.filter (fun x => x.id ≠ id) ∧
    (∀ i c, w.cart i = some c → (w.dropSession id).1.cart i = some { c with
      extentCount := c.extentCount - (w.cg.extents.filter fun e => e.session = id ∧ e.cartridge = i).length }) ∧
    (w.dropSession id).1.js = w.js ∧ (w.dropSession id).1.streams = w.streams ∧ (w.dropSession id).1.cc = w.cc := by
  have hkept := catalogOnly_freeAll w id (w.extentsOf id)
  have hof {e : ExtentRec} : e ∈ w.extentsOf id ↔ e ∈ w.cg.extents ∧ e.session = id := by
    unfold W.extentsOf
    rw [List.mem_filter, decide_eq_true_iff]
  rw [dropSession_eq]
  refine ⟨?_, freeAll_sessions w id _, fun i c hc => ?_, hkept.js, hkept.streams, hkept.cc⟩
  · refine (freeAll_extents w id _).trans (List.filter_congr fun x hx => ?_)
    rw [Bool.eq_iff_iff, Bool.not_eq_true', Bool.eq_false_iff, Ne, List.any_eq_true, decide_eq_true_iff, Ne, not_iff_not]
    simp only [decide_eq_true_eq]
    exact ⟨fun ⟨_, _, hk, _⟩ => hk, fun hk => ⟨x, hof.2 ⟨hx, hk⟩, hk, rfl⟩⟩
  · have h := freeAll_cart hkeys (fun e he => hof.1 he) (hkeys.sublist (List.filter_sublist.map _)) hc
    refine h.trans ?_
    unfold W.extentsOf
    rw [List.filter_filter]
    have hboth : (w.cg.extents.filter fun e => decide (e.cartridge = i) && decide (e.session = id)) =
        w.cg.extents.filter fun e => decide (e.session = id ∧ e.cartridge = i) :=
      List.filter_congr fun e _ => by rw [Bool.decide_and, Bool.and_comm]
    rw [hboth]

/-! ## What LOAD EXTENT makes (R156) -/

theorem find_insertBy {l : List SessionRec} {x : SessionRec} (h : ∀ y ∈ l, y.id ≠ x.id) :
    (insertBy SessionRec.id x l).find? (fun s => decide (s.id = x.id)) = some x := by
  induction l with
  | nil => simp [insertBy]
  | cons y ys ih =>
    have hy := h y List.mem_cons_self
    unfold insertBy
    split
    · simp
    · rw [List.find?_cons_of_neg (by simpa using hy)]
      exact ih fun z hz => h z (List.mem_cons_of_mem _ hz)

theorem session_createSession {w : W} {x : SessionRec} (h : w.session x.id = none) :
    (w.createSession x).session x.id = some x :=
  find_insertBy fun y hy => by simpa using List.find?_eq_none.1 h y hy

theorem makeExtent_sessions (w : W) (e : ExtentRec) : ∃ g, keepsSession g ∧
    (w.makeExtent e).cg.sessions = (w.modSession e.session g).cg.sessions := by
  have h (v : W) (hv : v.cg.sessions = w.cg.sessions) : (v.deriveSession e.session).cg.sessions =
      (w.modSession e.session (derived (v.extentsOf e.session))).cg.sessions := by
    rw [deriveSession_eq]
    unfold W.modSession
    rw [hv]
  exact ⟨_, keepsSession_derived _, h _ ((congrArg Catalog.sessions (modCart_cg _ _ _)).trans rfl)⟩

theorem takeExtent_sessions {w : W} {e : ExtentIn} {i : Nat} (hi : w.cartByLabel e.label = some i) (origin : SessionOrigin) :
    ∃ g, keepsSession g ∧ (w.takeExtent e origin).cg.sessions = ((w.withSession e origin).modSession e.session g).cg.sessions := by
  rw [takeExtent_eq hi]
  exact makeExtent_sessions _ _

theorem takeExtent_cart {w : W} {e : ExtentIn} {i : Nat} (hi : w.cartByLabel e.label = some i) (origin : SessionOrigin)
    {c : CartRec} (hc : w.cart i = some c) :
    (w.takeExtent e origin).cart i = some { c with extentCount := c.extentCount + 1 } := by
  have hct := (withSession_extents w e origin).2
  rw [takeExtent_eq hi]
  generalize w.withSession e origin = v at hct
  have hv : W.cart { v with cg := { v.cg with extents := insertExtent (e.record i) v.cg.extents } } i = some c := by
    show v.cart i = some c
    unfold W.cart
    rw [hct]
    exact hc
  exact (W.cart_modCart_map _ i _).trans (congrArg (Option.map _) hv)

theorem takeExtent_session_new {w : W} {e : ExtentIn} {i : Nat} (hi : w.cartByLabel e.label = some i) (origin : SessionOrigin)
    (hs : w.session e.session = none) : ∃ x, (w.takeExtent e origin).session e.session = some x ∧ x.origin = origin ∧
      x.state = .closed ∧ x.hostTag = e.hostTag ∧ x.pool = e.pool := by
  obtain ⟨g, hg, hsess⟩ := takeExtent_sessions hi origin
  have hnew : (w.withSession e origin).session e.session = some
      { id := e.session, hostTag := e.hostTag, state := .closed, origin := origin, pool := e.pool, codingMode := none
        objectsBegun := 0, chunkCount := 0, rawBytes := 0, codedBytes := 0, verifySummary := .unverified } := by
    unfold W.withSession
    rw [hs]
    exact session_createSession hs
  rw [W.session_of_sessions hsess, W.session_modSession _ _ _ hg.id, hnew]
  exact ⟨_, rfl, hg.origin _, hg.state _, hg.hostTag _, hg.pool _⟩

theorem takeExtent_session_known {w : W} {e : ExtentIn} {i : Nat} (hi : w.cartByLabel e.label = some i) (origin : SessionOrigin)
    {r : SessionRec} (hs : w.session e.session = some r) : (w.takeExtent e origin).cg.sessions.length = w.cg.sessions.length := by
  obtain ⟨g, -, hsess⟩ := takeExtent_sessions hi origin
  rw [hsess]
  unfold W.withSession
  rw [hs]
  exact List.length_map _

/-- What an extent handed in makes (R156). -/
theorem takeExtent_facts {w : W} {e : ExtentIn} {i : Nat} {c : CartRec} (hi : w.cartByLabel e.label = some i)
    (hc : w.cart i = some c) :
    let t := w.takeExtent e .loaded
    (∃ x ∈ t.cg.extents, x.session = e.session ∧ x.sequence = e.sequence ∧ x.label = e.label ∧ x.cartridge = i ∧
      x.firstBlock = e.firstBlock ∧ x.blockCount = e.blockCount ∧ x.chunkFrames = e.chunkFrames ∧
      x.rawBytes = e.rawBytes ∧ x.codedBytes = e.codedBytes ∧ x.isOpen = false ∧ x.verifyState = .unverified ∧
      (e.firstObject = 0 → x.firstObject = none ∧ x.lastObject = none) ∧
      (e.firstObject ≠ 0 → x.firstObject = some e.firstObject ∧ x.firstChunk = e.firstChunk ∧
        x.lastObject = some e.lastObject)) ∧
    t.cg.extents.length = w.cg.extents.length + 1 ∧
    t.cart i = some { c with extentCount := c.extentCount + 1 } ∧
    (∀ r, w.session e.session = some r → t.cg.sessions.length = w.cg.sessions.length) ∧
    (w.session e.session = none →
      (t.session e.session).map SessionRec.origin = some .loaded ∧
        (t.session e.session).map SessionRec.state = some .closed ∧
        (t.session e.session).map SessionRec.hostTag = some e.hostTag ∧
        (t.session e.session).map SessionRec.pool = some e.pool) := by
  have hperm := perm_insertExtent (e.record i) w.cg.extents
  dsimp only
  rw [takeExtent_extents hi]
  refine ⟨⟨e.record i, hperm.mem_iff.2 List.mem_cons_self, rfl, rfl, rfl, rfl, rfl, rfl, rfl, rfl, rfl, rfl, rfl,
    fun hz => ?_, fun hz => ?_⟩, hperm.length_eq, takeExtent_cart hi _ hc, fun r hr => takeExtent_session_known hi _ hr,
    fun hn => ?_⟩
  · exact ⟨if_neg (not_not.2 hz), if_neg (not_not.2 hz)⟩
  · exact ⟨if_pos hz, if_pos hz, if_pos hz⟩
  · obtain ⟨x, hx, ho, hs, ht, hp⟩ := takeExtent_session_new hi .loaded hn
    rw [hx]
    exact ⟨congrArg some ho, congrArg some hs, congrArg some ht, congrArg some hp⟩

/-- The fields of LOAD EXTENT, as they stand in its payload. -/
theorem extentOf_fields {session sequence label first count o1 chunk o2 frames raw coded flags pool tag p : List Byte}
    (hp : p = session ++ sequence ++ label ++ first ++ count ++ o1 ++ chunk ++ o2 ++ frames ++ raw ++ coded ++ flags ++ pool ++ tag)
    (hl : [session, sequence, label, first, count, o1, chunk, o2, frames, raw, coded, flags, pool, tag].map List.length =
      loadExtentFields) : extentOf p =
      { session := beNat session, sequence := beNat sequence, label := label, firstBlock := beNat first
        blockCount := beNat count, firstObject := beNat o1, firstChunk := beNat chunk, lastObject := beNat o2
        chunkFrames := beNat frames, rawBytes := beNat raw, codedBytes := beNat coded, flags := beNat flags
        pool := beNat pool, hostTag := tag } := by
  have hflat : p = [session, sequence, label, first, count, o1, chunk, o2, frames, raw, coded, flags, pool, tag].flatten := by
    rw [hp]
    simp
  have hf := fieldsOf_flatten hl hflat
  simp only [List.map_cons, List.map_nil, loadExtentFields, List.cons.injEq] at hl
  obtain ⟨h0, h1, h2, h3, h4, h5, h6, h7, h8, h9, h10, h11, h12, h13, -⟩ := hl
  have hlabel : (p.drop 4).take 8 = label := by
    have hdrop : p.drop 4 = label ++ (first ++ count ++ o1 ++ chunk ++ o2 ++ frames ++ raw ++ coded ++ flags ++ pool ++ tag) := by
      rw [hp]
      simp only [List.append_assoc]
      rw [← List.append_assoc session, List.drop_left' (by simp [h0, h1])]
    rw [hdrop, List.take_left' h2]
  have htag : p.drop 50 = tag := by
    rw [hp]
    exact List.drop_left' (by simp [h0, h1, h2, h3, h4, h5, h6, h7, h8, h9, h10, h11, h12])
  unfold extentOf
  simp only [hf, hlabel, htag]
  rfl

theorem exec_loadExtent {s : State} {f : RequestFrame} {p : List Byte} (h : s.requests f 0x73 p)
    (hp : formOf loadExtentFields p = true) : exec .loadExtent s = .next (s.replying f (ownLoadExtent s.work p)) :=
  State.ask_eq h (acceptedIn_of_not_refused _ rfl) hp

theorem loadExtent_settles {s : State} {f : RequestFrame} {p : List Byte} (h : s.requests f 0x73 p)
    (hp : formOf loadExtentFields p = true) {e : ExtentIn} (he : extentOf p = e) :
    (s.work.extentAnswer e none ≠ .ok → exec .loadExtent s = .next (s.turnedDown f (s.work.extentAnswer e none) .empty)) ∧
    (s.work.extentAnswer e none = .ok → exec .loadExtent s = .next (s.answered f (s.work.takeExtent e .loaded) .empty)) := by
  have hown : ownLoadExtent s.work p = match s.work.extentAnswer e none with
      | .ok => answer (s.work.takeExtent e .loaded) .empty
      | status => refuse s.work status := by
    rw [← he] <;> rfl
  rw [exec_loadExtent h hp, hown]
  generalize s.work.extentAnswer e none = status
  refine ⟨fun hne => congrArg Host.Outcome.next ?_, fun hok => by rw [hok] <;> rfl⟩
  cases status with
  | ok => exact absurd rfl hne
  | _ => exact State.replying_refuse _ _ _ hne

/-! ## The answer to an extent handed in (R156) -/

/-- Eight characters of a label. -/
theorem labelOk_iff (l : List Byte) : labelOk l = true ↔ l.length = 8 ∧
    ∀ b ∈ l, (0x41 ≤ b.toNat ∧ b.toNat ≤ 0x5A) ∨ (0x30 ≤ b.toNat ∧ b.toNat ≤ 0x39) := by
  unfold labelOk
  rw [Bool.and_eq_true, decide_eq_true_iff, List.all_eq_true]
  refine and_congr_right fun _ => forall₂_congr fun b _ => ?_
  unfold labelChar
  rw [Bool.or_eq_true, Bool.and_eq_true, Bool.and_eq_true]
  simp only [decide_eq_true_eq]
  exact or_comm

theorem dataLabel_iff (l : Label) : isDataKind (kindOfLabel l) = true ↔
    l.drop 6 = [0x44#8, 0x41#8] ∨ l.drop 6 = [0x44#8, 0x42#8] := by
  unfold kindOfLabel
  split
  next ha => exact iff_of_true rfl (.inl ha)
  next ha =>
    split
    next hb => exact iff_of_true rfl (.inr hb)
    next hb =>
      refine iff_of_false ?_ (by tauto)
      split <;> nofun

/-- The threshold of a data cartridge by its label. -/
theorem dataLabel_threshold {l : Label} (h : l.drop 6 = [0x44#8, 0x41#8] ∨ l.drop 6 = [0x44#8, 0x42#8]) :
    thresholdOf (kindOfLabel l) =
      (if l.drop 6 = [0x44#8, 0x41#8] then 2500000 else 6000000) -
        (if l.drop 6 = [0x44#8, 0x41#8] then 2500000 else 6000000) / 64 := by
  unfold kindOfLabel
  by_cases ha : l.drop 6 = [0x44#8, 0x41#8]
  · rw [if_pos ha, if_pos ha]
    rfl
  · rw [if_neg ha, if_pos (h.resolve_left ha), if_neg ha]
    rfl

/-- Two tests that do not agree. -/
theorem bne_decide_iff (p q : Prop) [Decidable p] [Decidable q] : (decide p != decide q) = true ↔ (p ↔ ¬q) := by
  by_cases hp : p <;> by_cases hq : q <;> simp [hp, hq]

/-- BAD-ARGUMENT's list (R156, item 1). -/
theorem extentArgsBad_iff (e : ExtentIn) :
    let labelRight : Prop := e.label.length = 8 ∧
      (∀ b ∈ e.label, (0x41 ≤ b.toNat ∧ b.toNat ≤ 0x5A) ∨ (0x30 ≤ b.toNat ∧ b.toNat ≤ 0x39)) ∧
      (e.label.drop 6 = [0x44#8, 0x41#8] ∨ e.label.drop 6 = [0x44#8, 0x42#8])
    let capacity := if e.label.drop 6 = [0x44#8, 0x41#8] then 2500000 else 6000000
    extentArgsBad e = true ↔
      e.session = 0 ∨ 1023 < e.sequence ∨ ¬labelRight ∨ e.blockCount = 0 ∨
      capacity - capacity / 64 + 1 < e.firstBlock + e.blockCount ∨ (e.firstObject = 0 ↔ e.lastObject ≠ 0) ∨
      e.lastObject < e.firstObject ∨ (e.chunkFrames = 0 ↔ e.firstObject ≠ 0) ∨ (e.flags % 2 = 1 ↔ e.sequence = 0) ∨
      7 < e.flags ∨ 7 < e.pool := by
  have hlabel : labelOk e.label = true ∧ isDataKind (kindOfLabel e.label) = true ↔ e.label.length = 8 ∧
      (∀ b ∈ e.label, (0x41 ≤ b.toNat ∧ b.toNat ≤ 0x5A) ∨ (0x30 ≤ b.toNat ∧ b.toNat ≤ 0x39)) ∧
      (e.label.drop 6 = [0x44#8, 0x41#8] ∨ e.label.drop 6 = [0x44#8, 0x42#8]) := by
    rw [labelOk_iff, dataLabel_iff, and_assoc]
  have hcont : (e.continued == decide (e.sequence = 0)) = true ↔ (e.flags % 2 = 1 ↔ e.sequence = 0) := by
    unfold ExtentIn.continued bitOf
    rw [beq_iff_eq, Bool.eq_iff_iff, decide_eq_true_iff, beq_iff_eq, pow_zero, Nat.div_one]
  dsimp only
  rw [← hlabel]
  by_cases hl : labelOk e.label = true ∧ isDataKind (kindOfLabel e.label) = true
  · rw [← dataLabel_threshold ((dataLabel_iff _).1 hl.2)]
    unfold extentArgsBad
    simp only [Bool.or_eq_true, decide_eq_true_eq, bne_decide_iff, hcont, hl.1, hl.2, Bool.not_true, Bool.false_eq_true,
      or_false, and_self, not_true_eq_false, false_or, or_assoc]
  · refine iff_of_true ?_ (.inr (.inr (.inl hl)))
    unfold extentArgsBad
    rw [not_and_or, Bool.not_eq_true, Bool.not_eq_true] at hl
    rcases hl with hl | hl <;> simp [hl]

/-- A session that an extent cannot join. -/
theorem wrongSession_iff (w : W) (id : Nat) :
    w.wrongSession id = true ↔ ∃ r, w.session id = some r ∧ (r.state = .opened ∨ r.origin = .written) := by
  unfold W.wrongSession
  cases w.session id with
  | none => simp
  | some r => simp

theorem pinnedByOther_iff (w : W) (id : Nat) (self : Option Nat) :
    ((w.session id).isSome && w.pinnedByOther id self) = true ↔
      w.session id ≠ none ∧ ∃ j ∈ w.js.jobs, id ∈ j.pins ∧ some j.id ≠ self := by
  unfold W.pinnedByOther
  rw [Bool.and_eq_true, Option.isSome_iff_ne_none, List.any_eq_true]
  refine and_congr_right fun _ => exists_congr fun j => and_congr_right fun _ => ?_
  rw [Bool.and_eq_true, List.contains_iff_mem, decide_eq_true_iff]

theorem extentTaken_iff (w : W) (id q : Nat) :
    (w.extent id q).isSome = true ↔ ∃ y ∈ w.cg.extents, y.session = id ∧ y.sequence = q := by
  unfold W.extent
  rw [List.find?_isSome]
  simp only [decide_eq_true_eq]

theorem catalogFull_iff (w : W) (id : Nat) :
    (w.extentFree = false ∨ ((w.session id).isNone ∧ w.sessionFree = false)) ↔
      (1024 ≤ w.cg.extents.length ∨ (w.session id = none ∧ 64 ≤ w.cg.sessions.length)) := by
  unfold W.extentFree W.sessionFree
  rw [decide_eq_false_iff_not, decide_eq_false_iff_not, Nat.not_lt, Nat.not_lt, Option.isNone_iff_eq_none]

/-- Settles O59. -/
theorem sessionsAreDroppedAndExtentsLoaded : Obligations.SessionsAreDroppedAndExtentsLoaded := by
  refine ⟨fun s f ih il h => dropSession_settles s f ih il h, fun w id hkeys => dropSession_facts id hkeys, ?_, ?_⟩
  · intro s f session sequence label first count o1 chunk o2 frames raw coded flags pool tag h l0 l1 l2 l3 l4 l5 l6 l7 l8 l9
      l10 l11 l12 l13
    dsimp only
    have hsizes : [session, sequence, label, first, count, o1, chunk, o2, frames, raw, coded, flags, pool, tag].map List.length =
        loadExtentFields := by
      simp only [List.map_cons, List.map_nil, l0, l1, l2, l3, l4, l5, l6, l7, l8, l9, l10, l11, l12, l13]
      rfl
    have hform : formOf loadExtentFields (session ++ sequence ++ label ++ first ++ count ++ o1 ++ chunk ++ o2 ++ frames ++ raw ++
        coded ++ flags ++ pool ++ tag) = true := by
      refine decide_eq_true ?_
      simp only [List.length_append, l0, l1, l2, l3, l4, l5, l6, l7, l8, l9, l10, l11, l12, l13]
      rfl
    obtain ⟨hbad, hgood⟩ := loadExtent_settles h hform (extentOf_fields rfl hsizes)
    refine ⟨hbad, fun i c hok hi hc => ⟨hgood hok, ?_⟩⟩
    exact takeExtent_facts hi hc
  · intro w e self
    dsimp only
    refine ⟨extentArgsBad_iff e, fun hbad => if_pos hbad, fun hgood => ⟨fun hi => ?_, fun k hi => ?_⟩⟩
    · unfold W.extentAnswer
      rw [if_neg (by rw [hgood]; nofun), hi]
    · rw [extentAnswer_eq self hgood hi, ← wrongSession_iff, ← pinnedByOther_iff, ← extentTaken_iff]
      refine ⟨fun hw => if_pos hw, fun hw hp => ?_, fun hw hp ht => ?_, fun hw hp ht hm => ?_, fun hw hp ht hm => ?_⟩
      · rw [if_neg hw, if_pos hp]
      · rw [if_neg hw, if_neg hp, if_pos ht]
      · rw [if_neg hw, if_neg hp, if_neg ht, if_pos ((overlapsOn_iff w e k).2 hm)]
      · rw [if_neg hw, if_neg hp, if_neg ht, if_neg (mt (overlapsOn_iff w e k).1 hm)]
        refine ⟨fun n hn hlt => if_pos ?_, fun hin => ?_⟩
        · rw [hn]
          exact decide_eq_true hlt
        · rw [if_neg]
          · exact if_congr (catalogFull_iff w e.session) rfl rfl
          · rw [Option.any_eq_true]
            rintro ⟨n, hn, hlt⟩
            exact absurd (of_decide_eq_true hlt) (Nat.not_lt.2 (hin n hn))

end Sys2Proof.Machine

/-! PROOF. The chunk coder: what an encoding makes is read back (R94 to R98, R103 to R105). -/

namespace Sys2Proof.Machine

/-! ## Tokens and the bytes they stand for (R96) -/

/-- The bytes out once a token is taken, newest first. -/
def Token.onto (out : List Byte) : Token → List Byte
  | .literal b => b :: out
  | .copy length distance => copyBack length distance out

/-- A token that a chunk of `n` bytes can have at this place, and that the payload has room for. -/
def Token.fits (n : Nat) (out : List Byte) : Token → Prop
  | .literal _ => out.length < n
  | .copy length distance => 3 ≤ length ∧ length ≤ 34 ∧ 1 ≤ distance ∧ distance ≤ 2048 ∧ distance ≤ out.length ∧
      out.length + length ≤ n

/-- Tokens that stand for the bytes from `out` on, up to `all`, both newest first. -/
def tokensFor (n : Nat) : List Byte → List Token → List Byte → Prop
  | out, [], all => out = all
  | out, t :: ts, all => t.fits n out ∧ tokensFor n (t.onto out) ts all

theorem copyBack_length (k d : Nat) (out : List Byte) : (copyBack k d out).length = out.length + k := by
  induction k generalizing out with
  | zero => rfl
  | succ k ih =>
    show (copyBack k d _).length = _
    rw [ih, List.length_cons]
    omega

theorem Token.fits_lt {n : Nat} {out : List Byte} {t : Token} (h : t.fits n out) : out.length < n := by
  cases t with
  | literal b => exact h
  | copy length distance =>
    obtain ⟨h3, -, -, -, -, hn⟩ := h
    omega

/-! ## The search finds tokens for the chunk (R96) -/

theorem sharedRun_le (cap : Nat) (x y : List Byte) : sharedRun cap x y ≤ cap := by
  induction cap generalizing x y with
  | zero => exact Nat.le_refl 0
  | succ cap ih =>
    cases x with
    | nil => exact Nat.zero_le _
    | cons a x =>
      cases y with
      | nil => exact Nat.zero_le _
      | cons b y =>
        unfold sharedRun
        split
        · exact Nat.succ_le_succ (ih x y)
        · exact Nat.zero_le _

/-- A shared run is a beginning of both strings. -/
theorem take_sharedRun (cap : Nat) (x y : List Byte) : x.take (sharedRun cap x y) = y.take (sharedRun cap x y) ∧
    sharedRun cap x y ≤ x.length := by
  induction cap generalizing x y with
  | zero => exact ⟨rfl, Nat.zero_le _⟩
  | succ cap ih =>
    cases x with
    | nil => exact ⟨rfl, Nat.zero_le _⟩
    | cons a x =>
      cases y with
      | nil => exact ⟨rfl, Nat.zero_le _⟩
      | cons b y =>
        unfold sharedRun
        split
        next hab =>
          obtain ⟨ht, hl⟩ := ih x y
          exact ⟨by rw [List.take_succ_cons, List.take_succ_cons, ht, hab], Nat.succ_le_succ hl⟩
        next => exact ⟨rfl, Nat.zero_le _⟩

/-- A longest match is the run shared with one of the strings, or what was found before. -/
theorem longestMatch_spec (here : List Byte) (l : List (List Byte)) (d : Nat) (best : Nat × Nat) :
    longestMatch here l d best = best ∨ ∃ k s, l[k]? = some s ∧ longestMatch here l d best = (sharedRun 34 here s, d + k) := by
  induction l generalizing d best with
  | nil => exact .inl rfl
  | cons s l ih =>
    unfold longestMatch
    dsimp only
    rcases ih (d + 1) (if best.1 < sharedRun 34 here s then (sharedRun 34 here s, d) else best) with h | ⟨k, t, ht, h⟩
    · rw [h]
      split
      · exact .inr ⟨0, s, rfl, rfl⟩
      · exact .inl rfl
    · refine .inr ⟨k + 1, t, ht, ?_⟩
      rw [h]
      exact congrArg _ (by omega)

/-- The strings that begin at the places before, nearest first. -/
def earlierOf : List Byte → List Byte → List (List Byte)
  | [], _ => []
  | b :: out, here => (b :: here) :: earlierOf out (b :: here)

theorem earlierOf_getElem {out here s : List Byte} {k : Nat} (h : (earlierOf out here)[k]? = some s) :
    k < out.length ∧ s = (out.take (k + 1)).reverse ++ here := by
  induction out generalizing here k with
  | nil => cases h
  | cons b out ih =>
    cases k with
    | zero =>
      cases Option.some.inj h
      exact ⟨Nat.succ_pos _, rfl⟩
    | succ k =>
      obtain ⟨hk, hs⟩ := ih (here := b :: here) h
      exact ⟨Nat.succ_lt_succ hk, by rw [hs]; simp⟩

theorem passBytes_eq (n : Nat) (here out : List Byte) : passBytes n here (earlierOf out here) =
    (here.drop n, earlierOf ((here.take n).reverse ++ out) (here.drop n)) := by
  induction n generalizing here out with
  | zero => rfl
  | succ n ih =>
    cases here with
    | nil => rfl
    | cons b rest =>
      show passBytes n rest (earlierOf (b :: out) rest) = _
      rw [ih]
      simp

/-- Copying back a run that the bytes ahead share with those from `distance` back gives the bytes ahead. -/
theorem copyBack_shared {n d : Nat} {here out : List Byte} (hd : 1 ≤ d) (hout : d ≤ out.length) (hn : n ≤ here.length)
    (h : here.take n = ((out.take d).reverse ++ here).take n) : copyBack n d out = (here.take n).reverse ++ out := by
  induction n generalizing here out with
  | zero => rfl
  | succ n ih =>
    cases here with
    | nil => cases hn
    | cons x rest =>
      obtain ⟨k, rfl⟩ := Nat.exists_eq_add_of_le' hd
      have hk : k < out.length := hout
      have hback : (out.take (k + 1)).reverse = out[k] :: (out.take k).reverse := by
        rw [List.take_succ_eq_append_getElem hk, List.reverse_append]
        rfl
      rw [hback, List.cons_append, List.take_succ_cons, List.take_succ_cons] at h
      obtain ⟨hx, hrest⟩ := List.cons.inj h
      have hget : out.getD (k + 1 - 1) 0#8 = x := by
        rw [Nat.add_sub_cancel, List.getD_eq_getElem _ _ hk, hx]
      have hstep : copyBack (n + 1) (k + 1) out = copyBack n (k + 1) (x :: out) := by
        rw [← hget]
        rfl
      rw [hstep, ih (here := rest) (out := x :: out) (Nat.succ_le_succ (Nat.le_of_succ_le hout)) (Nat.le_of_succ_le_succ hn) ?_,
        List.take_succ_cons, List.reverse_cons, List.append_assoc, List.singleton_append]
      rw [List.take_succ_cons, List.reverse_cons, List.append_assoc]
      exact hrest

/-- The search's tokens stand for the bytes ahead (R96). -/
theorem searchFrom_tokens {n fuel : Nat} {here out : List Byte} (hf : here.length ≤ fuel) (hn : out.length + here.length ≤ n) :
    tokensFor n out (searchFrom fuel here (earlierOf out here)) (here.reverse ++ out) := by
  induction fuel generalizing here out with
  | zero =>
    cases List.length_eq_zero_iff.1 (Nat.le_zero.1 hf)
    exact rfl
  | succ fuel ih =>
    cases here with
    | nil => exact rfl
    | cons b rest =>
      unfold searchFrom
      dsimp only
      have go {k : Nat} (hk : 1 ≤ k) (hl : k ≤ (b :: rest).length) :
          tokensFor n (((b :: rest).take k).reverse ++ out)
            (searchFrom fuel (passBytes k (b :: rest) (earlierOf out (b :: rest))).1
              (passBytes k (b :: rest) (earlierOf out (b :: rest))).2) ((b :: rest).reverse ++ out) := by
        rw [passBytes_eq]
        have hall : (b :: rest).reverse ++ out = ((b :: rest).drop k).reverse ++ (((b :: rest).take k).reverse ++ out) := by
          rw [← List.append_assoc, ← List.reverse_append, List.take_append_drop]
        rw [hall]
        refine ih ?_ ?_
        · rw [List.length_drop]
          omega
        · rw [List.length_append, List.length_reverse, List.length_take, List.length_drop]
          omega
      split
      next h3 =>
        rcases longestMatch_spec (b :: rest) ((earlierOf out (b :: rest)).take 2048) 1 (0, 0) with hm | ⟨k, s, hs, hm⟩
        · rw [hm] at h3
          exact absurd h3 (by decide)
        · rw [hm] at h3 ⊢
          dsimp only at h3 ⊢
          rw [List.getElem?_take] at hs
          split at hs
          next hk =>
            obtain ⟨hko, rfl⟩ := earlierOf_getElem hs
            obtain ⟨hshared, hlen⟩ := take_sharedRun 34 (b :: rest) ((out.take (k + 1)).reverse ++ b :: rest)
            have hcap := sharedRun_le 34 (b :: rest) ((out.take (k + 1)).reverse ++ b :: rest)
            generalize sharedRun 34 (b :: rest) ((out.take (k + 1)).reverse ++ b :: rest) = r at *
            refine ⟨⟨h3, hcap, by omega, by omega, by omega, by omega⟩, ?_⟩
            have hcopy : copyBack r (1 + k) out = ((b :: rest).take r).reverse ++ out := by
              rw [Nat.add_comm 1 k]
              exact copyBack_shared (Nat.succ_pos k) hko hlen hshared
            show tokensFor n (copyBack r (1 + k) out) _ _
            rw [hcopy]
            exact go (by omega) hlen
          next => cases hs
      next =>
        refine ⟨?_, go (Nat.le_refl 1) (Nat.succ_pos _)⟩
        rw [List.length_cons] at hn
        show out.length < n
        omega

theorem searchChunk_tokens (raw : List Byte) : tokensFor raw.length [] (searchChunk raw) raw.reverse := by
  have h := searchFrom_tokens (n := raw.length) (fuel := raw.length) (here := raw) (out := []) (Nat.le_refl _) (by simp)
  rwa [List.append_nil] at h

/-! ## The layout is read back (R97, R104) -/

theorem controlByte_lt (g : List Token) : controlByte g < 2 ^ g.length := by
  induction g with
  | nil => exact Nat.one_pos
  | cons t g ih =>
    rw [List.length_cons, pow_succ]
    cases t with
    | literal b => show 2 * controlByte g < _; omega
    | copy l d => show 1 + 2 * controlByte g < _; omega

/-- The two bytes of a copy, and what they read as. -/
theorem tokenBytes_copy {length distance : Nat} (h3 : 3 ≤ length) (h34 : length ≤ 34) (h1 : 1 ≤ distance)
    (h2048 : distance ≤ 2048) : ∃ hi lo : Byte, tokenBytes (.copy length distance) = [hi, lo] ∧
      (hi.toNat * 256 + lo.toNat) / 2048 + 3 = length ∧ (hi.toNat * 256 + lo.toNat) % 2048 + 1 = distance := by
  refine ⟨_, _, rfl, ?_⟩
  simp only [BitVec.toNat_ofNat]
  omega

/-- What is left of a payload within a group, and the groups after it. -/
theorem unpackTokens_layout {n fuel more : Nat} {left : Nat} {g rest : List Token} {out all : List Byte}
    (hleft : g.length = left ∨ (rest = [] ∧ g.length ≤ left)) (hmore : rest.length ≤ more)
    (htok : tokensFor n out (g ++ rest) all) (hall : all.length = n)
    (hf : ((g.map tokenBytes).flatten ++ layoutTokens more rest).length < fuel) :
    unpackTokens fuel n left (controlByte g) ((g.map tokenBytes).flatten ++ layoutTokens more rest) out =
      .bytes all.reverse := by
  induction fuel generalizing more left g rest out with
  | zero => exact absurd hf (Nat.not_lt_zero _)
  | succ fuel ih =>
    unfold unpackTokens
    cases g with
    | cons t g =>
      obtain ⟨hfit, htok⟩ := htok
      have hlt := Token.fits_lt hfit
      have hpos : ¬left = 0 := by
        rw [List.length_cons] at hleft
        omega
      have hleft' : g.length = left - 1 ∨ (rest = [] ∧ g.length ≤ left - 1) := by
        rw [List.length_cons] at hleft
        rcases hleft with h | ⟨hr, h⟩
        · exact .inl (by omega)
        · exact .inr ⟨hr, by omega⟩
      rw [if_neg (Nat.not_le.2 hlt), if_neg hpos]
      rw [List.map_cons, List.flatten_cons] at hf ⊢
      cases t with
      | literal b =>
        have hbit : controlByte (.literal b :: g) = 2 * controlByte g := rfl
        rw [hbit, if_pos (Nat.mul_mod_right 2 _), Nat.mul_div_cancel_left _ Nat.two_pos]
        exact ih hleft' hmore htok (Nat.lt_of_succ_lt_succ hf)
      | copy length distance =>
        obtain ⟨h3, h34, h1, h2048, hout, hroom⟩ := hfit
        obtain ⟨hi, lo, hbytes, hlen, hdist⟩ := tokenBytes_copy h3 h34 h1 h2048
        have hbit : controlByte (.copy length distance :: g) = 1 + 2 * controlByte g := rfl
        rw [hbytes] at hf ⊢
        rw [hbit, if_neg (by omega), show (1 + 2 * controlByte g) / 2 = controlByte g by omega]
        simp only [List.cons_append, List.nil_append] at hf ⊢
        rw [hlen, hdist, if_neg (Nat.not_lt.2 hout), if_neg (Nat.not_lt.2 hroom)]
        exact ih hleft' hmore htok (Nat.lt_of_succ_lt (Nat.lt_of_succ_lt_succ hf))
    | nil =>
      cases rest with
      | nil =>
        have hout : out = all := htok
        have hnil : layoutTokens more [] = [] := by cases more <;> rfl
        rw [hout, if_pos hall.ge, hnil]
        rfl
      | cons t ts =>
        obtain ⟨more, rfl⟩ := Nat.exists_eq_add_of_le' (Nat.le_trans (Nat.succ_pos _) hmore)
        have hzero : left = 0 := by
          rcases hleft with h | ⟨h, -⟩
          · exact h.symm
          · cases h
        have hlt := Token.fits_lt htok.1
        have hsplit : (t :: ts).take 8 ++ (t :: ts).drop 8 = [] ++ t :: ts := List.take_append_drop 8 (t :: ts)
        have hgroup : ((t :: ts).take 8).length = 8 ∨ ((t :: ts).drop 8 = [] ∧ ((t :: ts).take 8).length ≤ 8) := by
          rw [List.length_take, List.drop_eq_nil_iff]
          omega
        have hbyte : (BitVec.ofNat 8 (controlByte ((t :: ts).take 8))).toNat = controlByte ((t :: ts).take 8) := by
          refine Nat.mod_eq_of_lt ((controlByte_lt _).trans_le ?_)
          exact Nat.pow_le_pow_right Nat.two_pos (List.length_take_le 8 (t :: ts))
        rw [if_neg (Nat.not_le.2 hlt), if_pos hzero]
        show unpackTokens fuel n 8 (BitVec.ofNat 8 (controlByte ((t :: ts).take 8))).toNat _ out = _
        rw [hbyte]
        refine ih hgroup ?_ (hsplit ▸ htok) (Nat.lt_of_succ_lt_succ hf)
        rw [List.length_cons] at hmore
        rw [List.length_drop, List.length_cons]
        omega

/-- A packed payload is unpacked to the chunk. -/
theorem unpack_packedPayload (raw : List Byte) : unpack raw.length (packedPayload raw) = .bytes raw := by
  have h := unpackTokens_layout (n := raw.length) (fuel := (packedPayload raw).length + 1) (g := []) (left := 0)
    (rest := searchChunk raw) (out := []) (all := raw.reverse) (.inl rfl) (Nat.le_refl _) (searchChunk_tokens raw)
    List.length_reverse (Nat.lt_succ_self _)
  rwa [List.reverse_reverse] at h

/-! ## What a decoding gives (R103 to R105) -/

/-- Bytes unpacked are as many as the header says. -/
theorem unpackTokens_length {n fuel left bits : Nat} {payload out l : List Byte} (hout : out.length ≤ n)
    (h : unpackTokens fuel n left bits payload out = .bytes l) : l.length = n := by
  induction fuel generalizing left bits payload out with
  | zero => cases h
  | succ fuel ih =>
    unfold unpackTokens at h
    split at h
    next hn =>
      split at h
      · cases h
        rw [List.length_reverse]
        omega
      · cases h
    next hn =>
    split at h
    · cases payload with
      | nil => cases h
      | cons c rest => exact ih hout h
    split at h
    · cases payload with
      | nil => cases h
      | cons b rest => exact ih (by rw [List.length_cons]; omega) h
    · match payload, h with
      | [], h => cases h
      | [_], h => cases h
      | hi :: lo :: rest, h =>
        dsimp only at h
        split at h
        · cases h
        split at h
        · cases h
        next hroom => exact ih (by rw [copyBack_length]; omega) h

theorem decodeFrame_ok {h : FrameHeader} {payload raw : List Byte} (hd : decodeFrame h payload = .ok raw) :
    crc32c raw = h.crc ∧ (h.kind ≠ 2 → raw.length = h.rawLength) ∧ (h.kind = 2 → raw = payload) := by
  unfold decodeFrame at hd
  dsimp only at hd
  cases hu : (if h.kind = 2 then Unpacked.bytes payload else unpack h.rawLength payload) with
  | fault c =>
    rw [hu] at hd
    cases hd
  | bytes l =>
    rw [hu] at hd
    dsimp only at hd
    split at hd
    next hcrc =>
      cases hd
      refine ⟨hcrc, fun hk => ?_, fun hk => ?_⟩
      · rw [if_neg hk] at hu
        exact unpackTokens_length (Nat.zero_le _) hu
      · rw [if_pos hk] at hu
        exact (Unpacked.bytes.inj hu).symm
    next => cases hd

theorem decodeFrame_stored (c : Chunk) : decodeFrame (chunkFrame c 2 c.data).header (chunkFrame c 2 c.data).payload = .ok c.data :=
  if_pos rfl

theorem decodeFrame_packed (c : Chunk) : decodeFrame (chunkFrame c 1 (packedPayload c.data)).header
    (chunkFrame c 1 (packedPayload c.data)).payload = .ok c.data := by
  have h : decodeFrame (chunkFrame c 1 (packedPayload c.data)).header (chunkFrame c 1 (packedPayload c.data)).payload =
      match unpack c.data.length (packedPayload c.data) with
      | .fault k => .corrupt k
      | .bytes l => if crc32c l = crc32c c.data then .ok l else .mismatch := rfl
  rw [h, unpack_packedPayload]
  exact if_pos rfl

theorem searches_iff (mode : CodingMode) (phase : Phase) (l : List Byte) :
    searches mode phase l.length = true ↔ l ≠ [] ∧ (mode = .pack ∨ (mode = .auto ∧ phase ≠ .skip)) := by
  unfold searches
  cases l with
  | nil => simp
  | cons b l => cases mode <;> simp

/-- A chunk is packed when it is searched and the payload found saves enough (R98). -/
theorem encodeChunk_eq (snap : Snapshot) (phase : Phase) (c : Chunk) :
    let packs : Prop := (c.data ≠ [] ∧ (snap.mode = .pack ∨ (snap.mode = .auto ∧ phase ≠ .skip))) ∧
      64 * (packedPayload c.data).length ≤ (64 - snap.gain) * c.data.length
    (packs → encodeChunk snap phase c = chunkFrame c 1 (packedPayload c.data)) ∧
    (¬packs → encodeChunk snap phase c = chunkFrame c 2 c.data) := by
  dsimp only
  rw [← searches_iff]
  unfold encodeChunk
  by_cases hs : searches snap.mode phase c.data.length = true
  · have hpos : 1 ≤ c.data.length := List.length_pos_iff.2 ((searches_iff _ _ _).1 hs).1
    have hkeeps : keepsPacked snap.gain c.data.length (packedPayload c.data).length = true ↔
        64 * (packedPayload c.data).length ≤ (64 - snap.gain) * c.data.length := by
      unfold keepsPacked
      rw [decide_eq_true hpos, Bool.true_and, decide_eq_true_iff]
    rw [if_pos hs]
    exact ⟨fun h => if_pos (hkeeps.2 h.2), fun h => if_neg fun hk => h ⟨hs, hkeeps.1 hk⟩⟩
  · rw [if_neg hs]
    exact ⟨fun h => absurd h.1 hs, fun _ => rfl⟩

/-- The check sum of the nine digits (R94). -/
theorem crc32c_digits :
    crc32c [0x31#8, 0x32#8, 0x33#8, 0x34#8, 0x35#8, 0x36#8, 0x37#8, 0x38#8, 0x39#8] = 0xE3069283#32 := by
  simp [crc32c, crcByte, crcShift]

/-- Settles O51. -/
theorem decodingRestoresTheChunk : Obligations.DecodingRestoresTheChunk := by
  refine ⟨fun snap phase c _ => ?_, fun h payload raw hd => decodeFrame_ok hd, crc32c_digits⟩
  obtain ⟨hpacked, hstored⟩ := encodeChunk_eq snap phase c
  dsimp only
  by_cases hp : (c.data ≠ [] ∧ (snap.mode = .pack ∨ (snap.mode = .auto ∧ phase ≠ .skip))) ∧
      64 * (packedPayload c.data).length ≤ (64 - snap.gain) * c.data.length
  · rw [hpacked hp]
    exact ⟨decodeFrame_packed c, fun _ => ⟨rfl, rfl⟩, fun h => absurd hp h, rfl, rfl⟩
  · rw [hstored hp]
    exact ⟨decodeFrame_stored c, fun h => absurd h hp, fun _ => ⟨rfl, rfl⟩, rfl, rfl⟩

end Sys2Proof.Machine

/-! PROOF. The arbiter of the coder, and the end of a coding (R95, R99 to R102, R105 to R108, R114). -/

namespace Sys2Proof.Machine

/-! ## Who asks for the coder (R106) -/

theorem bufIn_isSome (x : Stream) (st : BufState) : (x.bufIn st).isSome = true ↔ x.bufA.state = st ∨ x.bufB.state = st := by
  unfold Stream.bufIn
  by_cases ha : x.bufA.state = st
  · simp [ha]
  · by_cases hb : x.bufB.state = st <;> simp [ha, hb]

/-- A buffer found in a state is in it. -/
theorem bufIn_state {x : Stream} {st : BufState} {i : BufId} (h : x.bufIn st = some i) : (x.buf i).state = st := by
  unfold Stream.bufIn at h
  split at h
  next ha => cases h; exact ha
  next =>
    split at h
    next hb => cases h; exact hb
    next => cases h

theorem largest_fits_iff (b : Buffer) : largestFrame ≤ b.roomLeft ↔ (b.frames.map fun f => 16 + f.payload.length).sum + 16384 ≤ 65536 := by
  have hf : b.filled = (b.frames.map fun f => 16 + f.payload.length).sum := rfl
  unfold Buffer.roomLeft largestFrame blockSize
  rw [hf]
  omega

/-- Room for a largest frame (R106). -/
theorem hasFrameRoom_iff (x : Stream) : x.hasFrameRoom = true ↔ x.attached ≠ none ∧ x.carry = [] ∧ x.markerWait = none ∧
    (x.bufA.state = .free ∨ x.bufB.state = .free ∨
      (match x.bufIn .opened with
       | some i => ((x.buf i).frames.map fun f => 16 + f.payload.length).sum + 16384 ≤ 65536
       | none => False)) := by
  have hfree := bufIn_isSome x .free
  unfold Stream.hasFrameRoom
  rw [Bool.and_eq_true, Bool.and_eq_true, Bool.and_eq_true, decide_eq_true_iff, Option.isSome_iff_ne_none,
    Option.isNone_iff_eq_none, and_assoc, and_assoc]
  refine and_congr_right fun _ => and_congr_right fun _ => and_congr_right fun _ => ?_
  rw [← or_assoc, ← hfree]
  cases x.bufIn .opened with
  | none => exact (or_false _).symm.to_iff
  | some i =>
    dsimp only
    rw [Bool.or_eq_true, decide_eq_true_iff, largest_fits_iff, or_comm]

theorem requestsCoder_iff {w : W} {d : Drive} {j : Job} (hs : (w.stream d).job = some j.id) (hj : w.job j.id = some j) :
    w.requestsCoder d = true ↔ (w.stream d).enable = true ∧ w.gateOpen = true ∧ (match j.progress with
      | .backup _ => (∃ c ∈ (w.stream d).intake, c.state = .closed) ∧ (w.stream d).hasFrameRoom = true
      | .verify _ => (w.stream d).presented ≠ none ∧ j.state = .running
      | .restore r => (w.stream d).presented ≠ none ∧ j.state = .running ∧ r.out.length < 4
      | .clean => False) := by
  unfold W.requestsCoder W.running
  dsimp only
  rw [hs, Option.bind_some, hj, Bool.and_eq_true, Bool.and_eq_true, and_assoc]
  dsimp only
  refine and_congr_right fun _ => and_congr_right fun _ => ?_
  cases j.progress with
  | backup b => simp [List.any_eq_true]
  | verify v => simp [Option.isSome_iff_ne_none]
  | restore r => simp [Option.isSome_iff_ne_none, and_assoc]
  | clean => simp

/-! ## The grant (R107) -/

theorem granted_none {w : W} (h0 : w.requestsCoder .d0 = false) (h1 : w.requestsCoder .d1 = false) : w.granted = none := by
  unfold W.granted
  rw [h0, h1]

theorem granted_some {w : W} {d : Drive} (h : w.requestsCoder d = true)
    (ho : w.requestsCoder (otherDrive d) = false ∨ w.coder.lastServed = otherDrive d) : w.granted = some d := by
  unfold W.granted
  cases d with
  | d0 =>
    change w.requestsCoder .d1 = false ∨ w.coder.lastServed = .d1 at ho
    rw [h]
    cases hx : w.requestsCoder .d1 with
    | false => rfl
    | true =>
      show some (otherDrive w.coder.lastServed) = _
      rw [ho.resolve_left (by rw [hx]; nofun)]
      rfl
  | d1 =>
    change w.requestsCoder .d0 = false ∨ w.coder.lastServed = .d0 at ho
    rw [h]
    cases hx : w.requestsCoder .d0 with
    | false => rfl
    | true =>
      show some (otherDrive w.coder.lastServed) = _
      rw [ho.resolve_left (by rw [hx]; nofun)]
      rfl

theorem considerGrant_idle {w : W} (h : w.coder.busy ≠ none ∨ w.granted = none) : w.considerGrant = w := by
  unfold W.considerGrant
  by_cases hb : w.coder.busy = none
  · rw [hb, h.resolve_left (not_not.2 hb)]
    rfl
  · exact if_pos (Option.isSome_iff_ne_none.2 hb)

theorem considerGrant_eq {w : W} {d : Drive} {j : Job} (hb : w.coder.busy = none) (hg : w.granted = some d)
    (hs : (w.stream d).job = some j.id) (hj : w.job j.id = some j) : w.considerGrant = match j.kind with
      | .backup => w.beginEncoding d j.id
      | .verify => w.beginDecoding d j.id
      | .restore => w.beginDecoding d j.id
      | .clean => w := by
  unfold W.considerGrant
  rw [hb, Option.isSome_none, if_neg Bool.false_ne_true, hg]
  dsimp only
  rw [hs]
  dsimp only
  rw [hj, Option.map_some]
  cases j.kind <;> rfl

theorem markCoding_eq {before after : List Chunk} {c : Chunk} (hc : c.state = .closed) (hb : ∀ e ∈ before, e.state ≠ .closed) :
    W.markCoding (before ++ c :: after) = before ++ { c with state := .coding } :: after ∧
      (before ++ c :: after).find? (fun e => decide (e.state = .closed)) = some c := by
  induction before with
  | nil => exact ⟨if_pos hc, List.find?_cons_of_pos (decide_eq_true hc)⟩
  | cons e before ih =>
    obtain ⟨hm, hf⟩ := ih fun x hx => hb x (List.mem_cons_of_mem _ hx)
    have he := hb e List.mem_cons_self
    refine ⟨?_, ?_⟩
    · show (if e.state = .closed then _ else e :: W.markCoding (before ++ c :: after)) = _
      rw [if_neg he, hm]
      rfl
    · exact (List.find?_cons_of_neg (by simpa using he)).trans hf

theorem beginEncoding_eq {w : W} {d : Drive} (n : Nat) {before after : List Chunk} {c : Chunk}
    (hi : (w.stream d).intake = before ++ c :: after) (hc : c.state = .closed) (hb : ∀ e ∈ before, e.state ≠ .closed) :
    w.beginEncoding d n = { (w.modBackup n fun y =>
          { y with coding := y.coding.map fun cs => installSnapshot cs c.object c.snapshot }) with
        streams := w.streams.put d { w.stream d with intake := before ++ { c with state := .coding } :: after }
        coder := { busy := some { stream := d, job := n, work := .encoding }, lastServed := d } } := by
  obtain ⟨hm, hf⟩ := markCoding_eq hc hb (after := after)
  unfold W.beginEncoding
  dsimp only
  rw [hi, hf, hm]
  rfl

theorem beginDecoding_eq {w : W} {d : Drive} (n : Nat) {p : Presented} {i : BufId} (hp : (w.stream d).presented = some p)
    (hi : (w.stream d).bufIn .parsing = some i) : w.beginDecoding d n = { w with
      coder := { busy := some { stream := d, job := n
                                work := .decoding ((w.stream d).buf i).index p.header
                                  (bytesAt ((w.stream d).buf i).data (p.offset + 16) p.header.payloadLength) }
                 lastServed := d } } := by
  unfold W.beginDecoding
  dsimp only
  rw [hp, hi]

/-- Settles O49. -/
theorem theCoderIsGranted : Obligations.TheCoderIsGranted := by
  refine ⟨fun w d j hs hj => ?_, fun s h => ?_, fun s d j hb hr ho hs hj => ⟨?_, ?_⟩⟩
  · dsimp only
    rw [requestsCoder_iff hs hj, hasFrameRoom_iff] <;> cases j.progress <;> exact Iff.rfl
  · refine next_putWork (considerGrant_idle (w := s.work) ?_)
    exact h.imp_right fun ⟨h0, h1⟩ => granted_none h0 h1
  · intro b before c after hk hp hi hc hbefore
    refine next_putWork ?_
    show s.work.considerGrant = _
    rw [considerGrant_eq hb (granted_some hr ho) hs hj, hk]
    exact beginEncoding_eq j.id hi hc hbefore
  · intro p i hk hp hi
    refine next_putWork ?_
    show s.work.considerGrant = _
    rw [considerGrant_eq hb (granted_some hr ho) hs hj]
    rcases hk with hk | hk <;> rw [hk] <;> exact beginDecoding_eq j.id hp hi

/-! ## The end of an encoding (R95, R99 to R102) -/

theorem codingAfter_eq (cs : CodingState) (snap : Snapshot) (data : List Byte) (packed : Bool) :
    let searched : Bool := decide (data ≠ []) &&
      (decide (snap.mode = .pack) || (decide (snap.mode = .auto) && decide (cs.phase ≠ .skip)))
    let adapted := if snap.mode = .auto ∧ data ≠ [] then adapt cs snap packed else cs
    let up (k : Nat) := min (k + 1) 4294967295
    codingAfter cs snap data.length packed = { adapted with
      packedCount := if packed then up adapted.packedCount else adapted.packedCount
      searchedStoredCount := if !packed && searched then up adapted.searchedStoredCount else adapted.searchedStoredCount
      unsearchedCount := if !packed && !searched then up adapted.unsearchedCount else adapted.unsearchedCount } := by
  dsimp only
  have hs : searches snap.mode cs.phase data.length = (decide (data ≠ []) &&
      (decide (snap.mode = .pack) || (decide (snap.mode = .auto) && decide (cs.phase ≠ .skip)))) := by
    rw [Bool.eq_iff_iff, searches_iff]
    simp only [Bool.and_eq_true, Bool.or_eq_true, decide_eq_true_eq]
  have ha : (if snap.mode = .auto ∧ 1 ≤ data.length then adapt cs snap packed else cs) =
      if snap.mode = .auto ∧ data ≠ [] then adapt cs snap packed else cs :=
    if_congr (and_congr_right fun _ => List.length_pos_iff) rfl rfl
  unfold codingAfter
  dsimp only
  rw [ha, hs]
  generalize (if snap.mode = .auto ∧ data ≠ [] then adapt cs snap packed else cs) = a
  generalize (decide (data ≠ []) && (decide (snap.mode = .pack) || (decide (snap.mode = .auto) && decide (cs.phase ≠ .skip)))) = b
  unfold countRoute
  cases packed with
  | true => rfl
  | false => cases b <;> rfl

theorem encodingEnds_eq {w : W} {d e : Drive} {n : Nat} {j : Job} {b : BackupData} {c : Chunk} {cs : CodingState} {snap : Snapshot}
    (hb : w.coder.busy = some { stream := e, job := n, work := .encoding }) (hj : w.job n = some j) (hs : j.stream = some d)
    (hp : j.progress = .backup b) (hc : (w.stream d).intake.find? (fun x => x.state = .coding) = some c)
    (hcs : b.coding = some cs) (hsnap : cs.installed = some snap) : w.encodingEnds = W.takeFrame
      { (w.modBackup n fun y => { y with
          coding := some (codingAfter cs snap c.data.length (decide ((encodeChunk snap cs.phase c).header.kind = 1))) }) with
          coder := { w.coder with busy := none }
          streams := w.streams.put d { w.stream d with
            intake := (w.stream d).intake.filter fun x => x.state ≠ .coding } } n d (encodeChunk snap cs.phase c) := by
  have hstream : (w.job n).bind Job.stream = some d := by rw [hj]; exact hs
  have hdata : w.backupData n = some b := by
    unfold W.backupData Job.backup?
    rw [hj, Option.bind_some, hp]
  unfold W.encodingEnds
  rw [hb]
  dsimp only
  rw [hstream, hdata]
  dsimp only
  rw [hc, hcs]
  dsimp only
  rw [hsnap]
  rfl

theorem encodingEnds_idle {w : W} (h : ∀ e n, w.coder.busy ≠ some { stream := e, job := n, work := .encoding }) :
    w.encodingEnds = w := by
  unfold W.encodingEnds
  cases hb : w.coder.busy with
  | none => rfl
  | some busy =>
    obtain ⟨e, n, work⟩ := busy
    cases work with
    | encoding => exact absurd hb (h e n)
    | decoding block header payload => rfl

/-! ## A frame is handed to block assembly (R114) -/

theorem takeFrame_aside {w : W} {n : Nat} {j : Job} {b : BackupData} {d : Drive} (f : Frame) (hj : w.job n = some j)
    (hp : j.progress = .backup b) (h : b.truncating = true ∨ (w.stream d).attached = none ∨ (w.stream d).carry ≠ [] ∨
      (w.stream d).markerWait ≠ none) : w.takeFrame n d f = { w with
        streams := w.streams.put d { w.stream d with carry := (w.stream d).carry ++ [f] }
        signals := w.signals ++ [.advance n] } := by
  have htr : ((w.backupData n).map BackupData.truncating).getD false = b.truncating := by
    unfold W.backupData Job.backup?
    rw [hj, Option.bind_some, hp]
    rfl
  unfold W.takeFrame
  dsimp only
  rw [htr, if_pos]
  · rfl
  · rw [Option.isSome_iff_ne_none]
    tauto

theorem addFrame_eq {x : Stream} {i : BufId} (f : Frame) (hi : (x.buf i).state = .opened) : x.addFrame i f =
    x.putBuf i { x.buf i with frames := (x.buf i).frames ++ [f], state := if f.secureNow then .closed else .opened } := by
  unfold Stream.addFrame
  dsimp only
  cases f.secureNow with
  | true => cases i <;> rfl
  | false =>
    rw [if_neg Bool.false_ne_true, if_neg Bool.false_ne_true, ← hi]

theorem takeFrame_fits {w : W} {n : Nat} {j : Job} {b : BackupData} {d : Drive} {f : Frame} {i : BufId} {a : Attached}
    (hj : w.job n = some j) (hp : j.progress = .backup b) (ht : b.truncating = false)
    (ha : (w.stream d).attached = some a) (hcarry : (w.stream d).carry = []) (hm : (w.stream d).markerWait = none)
    (hi : (w.stream d).bufIn .opened = some i)
    (hfit : (((w.stream d).buf i).frames.map fun g => 16 + g.payload.length).sum + (16 + f.payload.length) ≤ 65536) :
    w.takeFrame n d f = { w with
      streams := w.streams.put d ((w.stream d).putBuf i { (w.stream d).buf i with
        frames := ((w.stream d).buf i).frames ++ [f], state := if f.secureNow then .closed else .opened })
      signals := w.signals ++ [.advance n] } := by
  have htr : ((w.backupData n).map BackupData.truncating).getD false = b.truncating := by
    unfold W.backupData Job.backup?
    rw [hj, Option.bind_some, hp]
    rfl
  have hroom : f.size ≤ ((w.stream d).buf i).roomLeft := by
    have hf : ((w.stream d).buf i).filled = (((w.stream d).buf i).frames.map fun g => 16 + g.payload.length).sum := rfl
    unfold Buffer.roomLeft blockSize Frame.size
    rw [hf]
    omega
  have hplace : w.placeFrame d f = (w.putStream d ((w.stream d).addFrame i f), .placed) := by
    unfold W.placeFrame
    dsimp only
    rw [ha]
    dsimp only
    rw [hi, Option.filter_some, if_pos (decide_eq_true hroom)]
  unfold W.takeFrame
  dsimp only
  rw [htr, if_neg, hplace, addFrame_eq f (bufIn_state hi)]
  · rfl
  · rw [ha, hcarry, hm, ht]
    simp

/-! ## The end of a decoding (R105) -/

theorem decodingEnds_eq {w : W} {d : Drive} {n block : Nat} {h : FrameHeader} {payload : List Byte} {p : Presented} {i : BufId}
    (hb : w.coder.busy = some { stream := d, job := n, work := .decoding block h payload })
    (hp : (w.stream d).presented = some p) (hi : (w.stream d).bufIn .parsing = some i) (hh : p.header = h)
    (hj : (w.stream d).job = some n) (hblock : ((w.stream d).buf i).index = block) :
    w.decodingEnds = (W.handResult { w with
        coder := { w.coder with busy := none }
        streams := w.streams.put d { w.stream d with
          parseOffset := some (p.offset + 16 + h.payloadLength), presented := none } } n
      { block := block, header := h, result := decodeFrame h payload }).emit (.parse d) := by
  have hp' : (w.coderIdle.stream d).presented = some p := hp
  have hi' : (w.coderIdle.stream d).bufIn .parsing = some i := hi
  unfold W.decodingEnds
  rw [hb]
  dsimp only
  rw [hp', hi']
  exact if_pos ⟨hj, hblock, hh⟩

theorem decodingEnds_idle {w : W}
    (h : ∀ e n b h p, w.coder.busy ≠ some { stream := e, job := n, work := .decoding b h p }) : w.decodingEnds = w := by
  unfold W.decodingEnds
  cases hb : w.coder.busy with
  | none => rfl
  | some busy =>
    obtain ⟨e, n, work⟩ := busy
    cases work with
    | encoding => rfl
    | decoding block header payload => exact absurd hb (h e n block header payload)

/-! ## The adaptive state (R100, R101) -/

theorem adapt_search {cs : CodingState} (snap : Snapshot) (h : cs.phase = .search) :
    adapt cs snap true = { cs with storedRun := 0, skipLen := snap.skip } ∧
    (cs.storedRun + 1 < snap.storedRun → adapt cs snap false = { cs with storedRun := cs.storedRun + 1 }) ∧
    (snap.storedRun ≤ cs.storedRun + 1 →
      adapt cs snap false = { cs with phase := .skip, skipLeft := cs.skipLen, storedRun := 0 }) := by
  unfold adapt
  rw [h]
  exact ⟨rfl, fun hlt => if_pos hlt, fun hle => if_neg (Nat.not_lt.2 hle)⟩

theorem adapt_skip {cs : CodingState} (snap : Snapshot) (packed : Bool) (h : cs.phase = .skip) :
    (1 < cs.skipLeft → adapt cs snap packed = { cs with skipLeft := cs.skipLeft - 1 }) ∧
    (cs.skipLeft ≤ 1 → adapt cs snap packed = { cs with phase := .probe, skipLeft := 0 }) := by
  unfold adapt
  rw [h]
  exact ⟨fun hlt => if_pos hlt, fun hle => if_neg (Nat.not_lt.2 hle)⟩

theorem adapt_probe {cs : CodingState} (snap : Snapshot) (h : cs.phase = .probe) :
    adapt cs snap true = { cs with phase := .search, skipLen := snap.skip, storedRun := 0 } ∧
    (let len := min (2 * cs.skipLen) (8 * snap.skip)
     adapt cs snap false = { cs with phase := .skip, skipLen := len, skipLeft := len }) := by
  unfold adapt
  rw [h]
  exact ⟨rfl, rfl⟩

theorem installSnapshot_cases (cs : CodingState) (o : Nat) (snap : Snapshot) :
    (cs.lastObject = some o → installSnapshot cs o snap = cs) ∧
    (cs.lastObject ≠ some o → cs.installed = some snap → installSnapshot cs o snap = { cs with lastObject := some o }) ∧
    (cs.lastObject ≠ some o → cs.installed ≠ some snap → installSnapshot cs o snap = { cs with
      lastObject := some o, installed := some snap, phase := .search, storedRun := 0, skipLeft := 0
      skipLen := snap.skip }) := by
  unfold installSnapshot
  refine ⟨fun h => if_pos h, fun hn h => ?_, fun hn h => ?_⟩
  · rw [if_neg hn, if_pos h]
  · rw [if_neg hn, if_neg h]

/-- Settles O50. -/
theorem codingsEnd : Obligations.CodingsEnd := by
  refine ⟨fun s d e n j b c cs snap hb hj hs hp hc hcs hsnap => ?_, fun w n j b d f hj hp =>
    ⟨fun h => takeFrame_aside f hj hp h, fun i a ht ha hcarry hm hi hfit => takeFrame_fits hj hp ht ha hcarry hm hi hfit⟩,
    fun s h => next_putWork (encodingEnds_idle h), fun s d n block h payload p i hb hp hi hh hj hblock =>
    next_putWork (decodingEnds_eq hb hp hi hh hj hblock), fun s h => next_putWork (decodingEnds_idle h),
    fun cs snap => ⟨fun h => adapt_search snap h, fun packed h => adapt_skip snap packed h, fun h => adapt_probe snap h,
      fun o => installSnapshot_cases cs o snap⟩⟩
  refine next_putWork ((encodingEnds_eq (w := s.work) hb hj hs hp hc hcs hsnap).trans ?_)
  rw [codingAfter_eq]
  rfl

end Sys2Proof.Machine

/-! PROOF. Blocks presented to a port, and the Locate of a reader (R84, R88, R115, R118). -/

namespace Sys2Proof.Machine

/-! ## Operations that keep the port READY or ACTIVE -/

/-- An operation on the tape, accepted by a READY port, is in flight (R50). -/
theorem requestOp_active {w : W} {d : Drive} {op : PortOp} (r : Requester) (h : w.opRefusal d op = none)
    (hs : (w.port d).state = .ready) (ha : flightState op = .active) : w.requestOp d op r = ({ w with
      ports := w.ports.put d { w.port d with
        state := .active, pending := some { op := op, requester := r, timer := opTimer op } }
      js := { w.js with idle := w.js.idle.put d none, idlePending := w.js.idlePending.put d false } }, true) := by
  have hop : op ≠ .unload := by
    rintro rfl
    cases ha
  rw [W.requestOp_accepted r h hs, ha, if_neg hop]

/-! ## The CLOSED block with the lower index (R115) -/

theorem firstBuf_eq {x : Stream} {test : Buffer → Bool} {i : BufId} (hi : test (x.buf i) = true)
    (hmin : ∀ k, test (x.buf k) = true → (x.buf i).index ≤ (x.buf k).index ∧
      ((x.buf k).index = (x.buf i).index → k = i ∨ i = .a)) : x.firstBuf test = some i := by
  unfold Stream.firstBuf
  cases i with
  | a =>
    rw [if_pos (show test x.bufA = true from hi)]
    refine if_neg fun h => ?_
    rw [Bool.and_eq_true, decide_eq_true_iff] at h
    exact absurd h.2 (Nat.not_lt.2 (hmin .b h.1).1)
  | b =>
    have hb : test x.bufB = true := hi
    by_cases ha : test x.bufA = true
    · obtain ⟨hle, heq⟩ := hmin .a ha
      have hlt : x.bufB.index < x.bufA.index := by
        refine Nat.lt_of_le_of_ne hle fun e => ?_
        rcases heq e.symm with h | h <;> cases h
      rw [if_pos ha, if_pos (by rw [hb, Bool.true_and]; exact decide_eq_true hlt)]
    · rw [if_neg ha, if_pos hb]

theorem firstBuf_none {x : Stream} {test : Buffer → Bool} (h : ∀ k, test (x.buf k) = false) : x.firstBuf test = none := by
  unfold Stream.firstBuf
  rw [if_neg (by rw [show test x.bufA = false from h .a]; nofun), if_neg (by rw [show test x.bufB = false from h .b]; nofun)]

theorem presentWrite_eq {w : W} {d : Drive} {n : Nat} {i : BufId} (hj : (w.stream d).job = some n)
    (hi : (w.stream d).firstBuf (fun b => decide (b.state = .closed)) = some i) (hs : (w.port d).state = .ready)
    (hc : w.driveClaim d = some n) (ho : w.opRefusal d (.writeBlock i) = none) : w.presentWrite d = { w with
      ports := w.ports.put d
        { w.port d with state := .active, pending := some { op := .writeBlock i, requester := .job n, timer := 60 } }
      js := { w.js with idle := w.js.idle.put d none, idlePending := w.js.idlePending.put d false }
      streams := w.streams.put d ((w.stream d).putBuf i { (w.stream d).buf i with state := .writing }) } := by
  unfold W.presentWrite
  dsimp only
  rw [hj, hi]
  dsimp only
  rw [if_pos ⟨hs, hc⟩, requestOp_active (.job n) ho hs rfl]
  rfl

theorem presentWrite_nothing {w : W} {d : Drive} (h : (w.port d).state ≠ .ready ∨ (w.stream d).job = none ∨
    ∀ k, ((w.stream d).buf k).state ≠ .closed) : w.presentWrite d = w := by
  unfold W.presentWrite
  dsimp only
  cases hj : (w.stream d).job with
  | none => rfl
  | some n =>
    cases hi : (w.stream d).firstBuf fun b => decide (b.state = .closed) with
    | none => rfl
    | some i =>
      refine if_neg fun hc => ?_
      rcases h with h | h | h
      · exact h hc.1
      · rw [hj] at h
        cases h
      · rw [firstBuf_none fun k => decide_eq_false (h k)] at hi
        cases hi

/-! ## A Read Block of the next block (R118) -/

theorem withinLimit_of {x : Stream} {b : Nat} (hb : x.nextRead = some b)
    (h : x.readLimit = some .endMark ∨ ∃ l, x.readLimit = some (.block l) ∧ b ≤ l) : x.withinLimit = true := by
  unfold Stream.withinLimit
  rw [hb]
  rcases h with h | ⟨l, h, hl⟩
  · rw [h]
  · rw [h]
    exact decide_eq_true hl

theorem outboundReady_of {j : Job} (h : (∃ v, j.progress = .verify v) ∨ ∃ r, j.progress = .restore r ∧ r.out.length < 4 ∧
    r.todo = [] ∧ r.stopped = false ∧ r.relocating = false) : W.outboundReady j = true := by
  unfold W.outboundReady
  rcases h with ⟨v, h⟩ | ⟨r, h, hout, htodo, hst, hrel⟩
  · rw [h]
  · rw [h]
    simp [hout, htodo, hst, hrel]

theorem presentRead_eq {w : W} {d : Drive} {j : Job} {i : BufId} {b : Nat} (hx : (w.stream d).job = some j.id)
    (hj : w.job j.id = some j) (hi : (w.stream d).bufIn .free = some i) (hb : (w.stream d).nextRead = some b)
    (hrun : w.running d = true) (hstop : (w.stream d).stopping = none) (hlimit : (w.stream d).withinLimit = true)
    (hseek : (w.stream d).seek = none) (hnews : (w.stream d).news = none) (hstate : j.state = .running)
    (hout : W.outboundReady j = true) (hs : (w.port d).state = .ready) (hc : w.driveClaim d = some j.id)
    (ho : w.opRefusal d (.readBlock i) = none) : w.presentRead d = { w with
      ports := w.ports.put d
        { w.port d with state := .active, pending := some { op := .readBlock i, requester := .job j.id, timer := 60 } }
      js := { w.js with idle := w.js.idle.put d none, idlePending := w.js.idlePending.put d false }
      streams := w.streams.put d ((w.stream d).putBuf i { state := .reading, index := b, frames := [], data := [] }) } := by
  unfold W.presentRead
  dsimp only
  rw [hx, Option.bind_some, hj, hi, hb]
  dsimp only
  rw [if_pos ⟨hs, hrun, hstop, hlimit, hseek, hnews, hstate, hout, hc⟩, requestOp_active (.job j.id) ho hs rfl]
  rfl

theorem presentRead_nothing {w : W} {d : Drive} (h : (w.port d).state ≠ .ready ∨ (w.stream d).enable = false ∨
    w.gateOpen = false ∨ (w.stream d).nextRead = none ∨ (w.stream d).stopping ≠ none ∨
    (∃ n, (w.stream d).nextRead = some n ∧ ∃ l, (w.stream d).readLimit = some (.block l) ∧ l < n)) :
    w.presentRead d = w := by
  unfold W.presentRead
  dsimp only
  cases hj : (w.stream d).job.bind w.job with
  | none => rfl
  | some j =>
    cases hi : (w.stream d).bufIn .free with
    | none => rfl
    | some i =>
      cases hb : (w.stream d).nextRead with
      | none => rfl
      | some b =>
        refine if_neg fun ⟨hs, hrun, hstop, hlimit, _⟩ => ?_
        unfold W.running at hrun
        rw [Bool.and_eq_true] at hrun
        rcases h with h | h | h | h | h | ⟨n, hn, l, hl, hlt⟩
        · exact h hs
        · rw [hrun.1] at h
          cases h
        · rw [hrun.2] at h
          cases h
        · rw [hb] at h
          cases h
        · exact h hstop
        · unfold Stream.withinLimit at hlimit
          rw [hn, hl] at hlimit
          exact absurd (of_decide_eq_true hlimit) (Nat.not_le.2 hlt)

/-! ## The Locate of a reader (R84, R88, R118) -/

section
variable {w : W} {d : Drive} {j : Job} {k : Seek} (hx : (w.stream d).job = some j.id) (hj : w.job j.id = some j)
  (hk : (w.stream d).seek = some k)
include hx hk

theorem seekEnds_fails (hf : k.inFlight = true) {r : OpOutcome}
    (hr : r = .readError ∨ ∃ c, r = .blank c ∧ k.purpose ≠ .afterError) : w.seekEnds j.id d r = w.seekFails d j.id k := by
  unfold W.seekEnds
  dsimp only
  rw [hk]
  dsimp only
  rw [hx, if_neg (by rw [hf]; simp)]
  rcases hr with rfl | ⟨c, rfl, hp⟩
  · rfl
  · dsimp only
    rw [if_neg fun e => hp e.1, if_neg hp]

include hj

/-- A Locate of a reader that ends without having found its block (R118). -/
theorem locate_reported (hp : (∃ v, j.progress = .verify v) ∨ ∃ r, j.progress = .restore r) (hc : w.driveClaim d = some j.id)
    (hf : k.inFlight = true) (hm : j.mountStep = none) (hfin : j.state.isFinished = false) {r : OpOutcome}
    (hr : r = .readError ∨ ∃ c, r = .blank c ∧ k.purpose ≠ .afterError) :
    w.takeSignal (.opDone d (.job j.id) (.locate k.target) r) = w.seekFails d j.id k := by
  have hstays : r.letsGo = false := by
    rcases hr with rfl | ⟨c, rfl, -⟩ <;> rfl
  have hreader : w.readerOp j.id d (.locate k.target) r = w.seekEnds j.id d r := by
    unfold W.readerOp
    rw [hstays]
    rfl
  show w.jobOp j.id d (.locate k.target) r = _
  unfold W.jobOp
  rw [hj]
  dsimp only
  rw [if_neg (by rw [hfin, hc]; simp), hm, ← seekEnds_fails hx hk hf hr, ← hreader]
  rcases hp with ⟨v, h⟩ | ⟨x, h⟩ <;> rw [h]

theorem launchSeek_eq (hf : k.inFlight = false) (hc : w.driveClaim d = some j.id) (hstate : j.state = .running)
    (hs : (w.port d).state = .ready) (hread : (w.stream d).countIn .reading = 0) (ho : w.opRefusal d (.locate k.target) = none)
    (hmay : (w.stream d).stopping = none ∨ w.retryAtRest (w.stream d) k = true) : w.launchSeek d = { w with
      ports := w.ports.put d
        { w.port d with
          state := .active, pending := some { op := .locate k.target, requester := .job j.id, timer := 600 } }
      js := { w.js with idle := w.js.idle.put d none, idlePending := w.js.idlePending.put d false }
      streams := w.streams.put d { w.stream d with seek := some { k with inFlight := true } } } := by
  have hjob : (w.stream d).job.bind w.job = some j := by rw [hx]; exact hj
  unfold W.launchSeek
  dsimp only
  rw [hjob, hk]
  dsimp only
  rw [if_pos ⟨hf, hmay, hstate, hs, hread, hc⟩, requestOp_active (.job j.id) ho hs rfl]
  rfl

theorem launchSeek_waits (hno : ¬((w.stream d).stopping = none ∨ w.retryAtRest (w.stream d) k = true)) : w.launchSeek d = w := by
  unfold W.launchSeek
  dsimp only
  rw [hx, Option.bind_some, hj, hk]
  exact if_neg fun h => hno h.2.1

end

theorem retryAtRest_iff (w : W) (x : Stream) (k : Seek) : w.retryAtRest x k = true ↔
    k.retried = true ∧ w.mode ≠ .secured ∧ (x.stopping = some .yielding ∨ x.stopping = some .abort) := by
  unfold W.retryAtRest
  rw [Bool.and_eq_true, Bool.and_eq_true, decide_eq_true_iff, decide_eq_true_iff, and_assoc]

theorem countIn_eq_zero {x : Stream} {st : BufState} (h : ∀ i, (x.buf i).state ≠ st) : x.countIn st = 0 := by
  unfold Stream.countIn
  rw [if_neg (show x.bufA.state ≠ st from h .a), if_neg (show x.bufB.state ≠ st from h .b)]

theorem seekFails_first {w : W} {d : Drive} {k : Seek} (n : Nat) (h : k.retried = false) : w.seekFails d n k = { w with
    streams := w.streams.put d { w.stream d with seek := some { k with retried := true, inFlight := false } }
    signals := w.signals ++ [.parse d] } := by
  unfold W.seekFails
  rw [if_neg (by rw [h]; nofun)]
  rfl

/-- Settles O53. -/
theorem blocksArePresented : Obligations.BlocksArePresented := by
  refine ⟨fun s d n i hj hi hmin hs hc ho => next_putWork ?_, fun s d h => next_putWork (presentWrite_nothing h),
    fun s d j i b hx hj hi hb he hg hstop hseek hnews hlimit hstate hprog hs hc ho => next_putWork ?_,
    fun s d h => next_putWork (presentRead_nothing h), fun w d j k hx hj hp hc hk => ⟨?_, ?_⟩⟩
  · refine presentWrite_eq hj (firstBuf_eq (decide_eq_true hi) fun k hk => ?_) hs hc ho
    exact hmin k (of_decide_eq_true hk)
  · have hrun : s.work.running d = true := by
      unfold W.running
      rw [show (s.work.stream d).enable = true from he, show s.work.gateOpen = true from hg]
      rfl
    exact presentRead_eq hx hj hi hb hrun hstop (withinLimit_of hb hlimit) hseek hnews hstate (outboundReady_of hprog) hs hc ho
  · intro r hf hm hfin hr
    dsimp only
    rw [locate_reported hx hj hk hp hc hf hm hfin hr]
    exact ⟨fun h => seekFails_first j.id h, fun h => if_pos h⟩
  · intro hf hstate hs hread ho
    refine ⟨fun hmay => ?_, fun hstop hno => ?_⟩
    · exact launchSeek_eq hx hj hk hf hc hstate hs (countIn_eq_zero hread) ho (hmay.imp_right (retryAtRest_iff w _ k).2)
    · refine launchSeek_waits hx hj hk ?_
      rw [retryAtRest_iff]
      rintro (h | ⟨hr, hm, h | h⟩)
      · exact hstop h
      all_goals
        rcases hno with hno | hno | hno
        · rw [hr] at hno
          cases hno
        · exact hm hno
        · rw [show (w.stream d).stopping = some .hold from hno] at h
          cases h

end Sys2Proof.Machine

/-! PROOF. The header checks in their order, and the parser's walk through a block (R93, R118, R119, R121). -/

namespace Sys2Proof.Machine

/-! ## The header checks (R93) -/

/-- A header of a kind that bears frames. -/
def FrameHeader.bearsFrames (h : FrameHeader) : Prop := h.kind = 1 ∨ h.kind = 2 ∨ h.kind = 3 ∨ h.kind = 4

theorem bearsFrames_of {h : FrameHeader} (h0 : h.kind ≠ 0) (h5 : ¬5 ≤ h.kind) : h.bearsFrames := by
  unfold FrameHeader.bearsFrames
  omega

theorem flagsAllowed_false_iff {h : FrameHeader} (hk : h.bearsFrames) :
    flagsAllowed h = false ↔ ((decide (h.kind ≤ 2) && (h.continued || h.truncated || h.continues)) ||
      (decide (h.kind = 3) && (h.last || h.truncated || h.continues)) ||
      (decide (h.kind = 4) && (h.last || h.continued || (h.truncated && h.continues)))) = true := by
  unfold flagsAllowed
  rcases hk with hk | hk | hk | hk <;> rw [hk]
  · cases h.continued <;> cases h.truncated <;> simp
  · cases h.continued <;> cases h.truncated <;> simp
  · cases h.last <;> cases h.truncated <;> simp
  · cases h.last <;> cases h.continued <;> simp

theorem chunkFields_false_iff {h : FrameHeader} (hk : h.bearsFrames) :
    (h.kind ≤ 2 ∧ chunkFieldsOk h = false) ↔
      (decide (h.kind ≤ 2) && (decide (16368 < h.rawLength) || decide (h.session = 0) || decide (h.object = 0) ||
        (decide (h.kind = 2) && decide (h.payloadLength ≠ h.rawLength)) ||
        (decide (h.kind = 1) && (decide (h.payloadLength = 0) || decide (h.rawLength < h.payloadLength))))) = true := by
  unfold chunkFieldsOk chunkSize
  rcases hk with hk | hk | hk | hk
  · simp [hk]
    grind
  · simp [hk]
    grind
  · simp [hk]
  · simp [hk]

theorem markerFields_false_iff {h : FrameHeader} (hk : h.bearsFrames) :
    (3 ≤ h.kind ∧ markerFieldsOk h = false) ↔
      (decide (3 ≤ h.kind) && (decide (h.rawLength ≠ 0) || decide (h.payloadLength ≠ 0) || decide (h.crc ≠ 0) ||
        decide (h.session = 0) || (decide (h.kind = 3) && decide (h.object ≠ 0)) ||
        (decide (h.kind = 4) && decide (h.chunk ≠ 0)))) = true := by
  unfold markerFieldsOk
  rcases hk with hk | hk | hk | hk
  · simp [hk]
  · simp [hk]
  · simp [hk]
    grind
  · simp [hk]
    grind

/-- The checks that make a header bad, after that for pad. -/
def headerBad (h : FrameHeader) (r : Nat) : Prop := r < 16 ∨ 5 ≤ h.kind ∨ flagsAllowed h = false ∨
  (h.kind ≤ 2 ∧ chunkFieldsOk h = false) ∨ (3 ≤ h.kind ∧ markerFieldsOk h = false) ∨ r < 16 + h.payloadLength

theorem headerAt_cases (block : List Byte) (offset : Nat) :
    let h := headerOfBytes (block.drop offset)
    let r := 65536 - offset
    (h.kind = 0 → headerAt block offset = .pad) ∧
    (h.kind ≠ 0 → headerBad h r → headerAt block offset = .bad) ∧
    (h.kind ≠ 0 → ¬headerBad h r → headerAt block offset = .good h) := by
  dsimp only
  unfold headerAt checkHeader blockSize headerBad
  dsimp only
  refine ⟨fun h0 => ?_, fun h0 hbad => ?_, fun h0 hgood => ?_⟩
  · rw [if_pos h0, if_pos h0, ite_self]
  · rw [if_neg h0, if_neg h0, ← ite_or, ← ite_or, ← ite_or, ← ite_or, ← ite_or]
    simp only [or_assoc]
    exact if_pos hbad
  · rw [if_neg h0, if_neg h0, ← ite_or, ← ite_or, ← ite_or, ← ite_or, ← ite_or]
    simp only [or_assoc]
    exact if_neg hgood

theorem headerBad_iff {h : FrameHeader} (h0 : h.kind ≠ 0) (r : Nat) : headerBad h r ↔ r < 16 ∨ 5 ≤ h.kind ∨
    ((decide (h.kind ≤ 2) && (h.continued || h.truncated || h.continues)) ||
      (decide (h.kind = 3) && (h.last || h.truncated || h.continues)) ||
      (decide (h.kind = 4) && (h.last || h.continued || (h.truncated && h.continues)))) = true ∨
    (decide (h.kind ≤ 2) && (decide (16368 < h.rawLength) || decide (h.session = 0) || decide (h.object = 0) ||
      (decide (h.kind = 2) && decide (h.payloadLength ≠ h.rawLength)) ||
      (decide (h.kind = 1) && (decide (h.payloadLength = 0) || decide (h.rawLength < h.payloadLength))))) = true ∨
    (decide (3 ≤ h.kind) && (decide (h.rawLength ≠ 0) || decide (h.payloadLength ≠ 0) || decide (h.crc ≠ 0) ||
      decide (h.session = 0) || (decide (h.kind = 3) && decide (h.object ≠ 0)) ||
      (decide (h.kind = 4) && decide (h.chunk ≠ 0)))) = true ∨ r < 16 + h.payloadLength := by
  unfold headerBad
  by_cases h5 : 5 ≤ h.kind
  · exact iff_of_true (.inr (.inl h5)) (.inr (.inl h5))
  · have hk := bearsFrames_of h0 h5
    rw [flagsAllowed_false_iff hk, chunkFields_false_iff hk, markerFields_false_iff hk]

/-! ## The walk (R119) -/

/-- A block finished: reported, its buffer FREE. -/
theorem finishBlock_eq (w : W) (d : Drive) (n : Nat) (i : BufId) : w.finishBlock d n i =
    W.handBlockParsed { w with streams := w.streams.put d { (w.stream d).putBuf i freeBuffer with parseOffset := none } } n
      ((w.stream d).buf i).index (decide ((w.stream d).readLimit = some (.block ((w.stream d).buf i).index))) := rfl

theorem modJob_self {w : W} {n : Nat} {g : Job → Job} (h : ∀ k ∈ w.js.jobs, k.id = n → g k = k) : w.modJob n g = w := by
  unfold W.modJob
  have hmap : (w.js.jobs.map fun j => if j.id = n then g j else j) = w.js.jobs := by
    refine (List.map_congr_left (g := id) fun k hk => ?_).trans (List.map_id _)
    split
    next hid => exact h k hk hid
    next => rfl
  rw [hmap]

section
variable {w : W} {d : Drive} {j : Job} {i : BufId} (hx : (w.stream d).job = some j.id) (hj : w.job j.id = some j)
  (hrun : j.state = .running) (hpres : (w.stream d).presented = none)
include hx hj hrun hpres

theorem parseOnce_parsing (hhold : (w.stream d).stopping ≠ some .hold) (htodo : W.jobTodo j = [])
    (hi : (w.stream d).bufIn .parsing = some i) : w.parseOnce d = w.parseAt d j i ((w.stream d).parseOffset.getD 0) := by
  have hmay : W.mayWalk (w.stream d) j = true := by
    unfold W.mayWalk
    rw [decide_eq_true hrun, decide_eq_true hhold, hpres, decide_eq_true htodo]
    rfl
  unfold W.parseOnce
  dsimp only
  rw [hx, Option.bind_some, hj]
  dsimp only
  rw [if_neg (by rw [hmay]; nofun), hi]

theorem parseOnce_begins (hstop : (w.stream d).stopping = none) (htodo : W.jobTodo j = [])
    (hnone : (w.stream d).bufIn .parsing = none) (hi : (w.stream d).firstBuf (fun b => decide (b.state = .loaded)) = some i) :
    w.parseOnce d = some (w.beginParsing d i) := by
  have hmay : W.mayWalk (w.stream d) j = true := by
    unfold W.mayWalk
    rw [decide_eq_true hrun, hstop, hpres, decide_eq_true htodo]
    rfl
  unfold W.parseOnce
  dsimp only
  rw [hx, Option.bind_some, hj]
  dsimp only
  rw [if_neg (by rw [hmay]; nofun), hnone]
  dsimp only
  rw [hstop, hi]
  rfl

end

section
variable {w : W} {d : Drive} {j : Job} {i : BufId} {o : Nat}

theorem parseAt_ends (h : 65536 ≤ o ∨ headerAt ((w.stream d).buf i).data o = .pad) :
    w.parseAt d j i o = some (w.finishBlock d j.id i) := by
  unfold W.parseAt blockSize
  dsimp only
  by_cases ho : 65536 ≤ o
  · rw [if_pos ho]
  · rw [if_neg ho, h.resolve_left ho]

variable (ho : o < 65536)
include ho

theorem parseAt_bad (h : headerAt ((w.stream d).buf i).data o = .bad) : w.parseAt d j i o =
    some (if ((w.handHeaderBad j.id ((w.stream d).buf i).index).stream d).job = some j.id
      then (w.handHeaderBad j.id ((w.stream d).buf i).index).finishBlock d j.id i
      else w.handHeaderBad j.id ((w.stream d).buf i).index) := by
  unfold W.parseAt blockSize
  dsimp only
  rw [if_neg (Nat.not_le.2 ho), h]

theorem parseAt_marker {h : FrameHeader} (hg : headerAt ((w.stream d).buf i).data o = .good h) (hk : 3 ≤ h.kind) :
    w.parseAt d j i o = some ((w.advanceTo d (o + 16)).handMarker j.id h ((w.stream d).buf i).index o) := by
  unfold W.parseAt blockSize
  dsimp only
  rw [if_neg (Nat.not_le.2 ho), hg]
  exact if_pos hk

theorem parseAt_chunk {h : FrameHeader} (hg : headerAt ((w.stream d).buf i).data o = .good h) (hk : h.kind ≤ 2)
    (hc : W.callsBack j h = false) (hhint : w.hintHolds j.id = w) : w.parseAt d j i o =
      if w.admitsFrame j h = false then some (w.advanceTo d (o + (16 + h.payloadLength)))
      else if w.running d then some (w.modStream d fun s => { s with presented := some { offset := o, header := h } })
      else none := by
  unfold W.parseAt blockSize
  dsimp only
  rw [if_neg (Nat.not_le.2 ho), hg]
  dsimp only
  rw [if_neg (by omega), if_neg (by rw [hc]; nofun)]
  unfold W.meetChunk
  dsimp only
  rw [hhint, ite_self]

end

/-- No hint is left to be spent. -/
theorem hintHolds_self {w : W} {n : Nat} (h : ∀ k ∈ w.js.jobs, k.id = n → ∀ r, k.progress = .restore r → r.fromHint = false) :
    w.hintHolds n = w := by
  refine modJob_self fun k hk hid => ?_
  have hr := h k hk hid
  cases hp : k.progress with
  | restore r =>
    dsimp only
    rw [if_neg (by rw [hr r hp]; nofun), ← hp]
  | backup b => rfl
  | verify v => rfl
  | clean => rfl

/-! ### What is handed to the job's rules -/

section
variable {w : W} {j : Job} (hj : w.job j.id = some j)
include hj

theorem handMarker_verify (hk : j.kind = .verify) {d : Drive} (o offset b : Nat) (h : FrameHeader) :
    (w.advanceTo d offset).handMarker j.id h b o = (w.advanceTo d offset).verifyMarker j.id h b o := by
  have hjob : (w.advanceTo d offset).job j.id = some j := hj
  unfold W.handMarker
  rw [hjob, Option.map_some, hk]

theorem handMarker_restore (hk : j.kind = .restore) {d : Drive} (o offset b : Nat) (h : FrameHeader) :
    (w.advanceTo d offset).handMarker j.id h b o = (w.advanceTo d offset).restoreMarker j.id h b := by
  have hjob : (w.advanceTo d offset).job j.id = some j := hj
  unfold W.handMarker
  rw [hjob, Option.map_some, hk]

theorem handHeaderBad_verify (hk : j.kind = .verify) (b : Nat) : w.handHeaderBad j.id b = w.verifyHeaderBad j.id b := by
  unfold W.handHeaderBad
  rw [hj, Option.map_some, hk]

theorem handHeaderBad_restore (hk : j.kind = .restore) (b : Nat) : w.handHeaderBad j.id b = w := by
  unfold W.handHeaderBad
  rw [hj, Option.map_some, hk]

end

theorem callsBack_verify {j : Job} {v : VerifyData} (hp : j.progress = .verify v) (h : FrameHeader) : W.callsBack j h = false := by
  unfold W.callsBack
  rw [hp]

theorem callsBack_unhinted {j : Job} {r : RestoreData} (hp : j.progress = .restore r) (hh : r.fromHint = false) (h : FrameHeader) :
    W.callsBack j h = false := by
  have hrel : W.relocates r h = false := by
    unfold W.relocates
    cases r.nextObject with
    | none => rfl
    | some e => simp [hh]
  unfold W.callsBack
  rw [hp]
  simp [hrel]

theorem jobTodo_verify {j : Job} {v : VerifyData} (hp : j.progress = .verify v) : W.jobTodo j = [] := by
  unfold W.jobTodo
  rw [hp]

theorem jobTodo_restore {j : Job} {r : RestoreData} (hp : j.progress = .restore r) : W.jobTodo j = r.todo := by
  unfold W.jobTodo
  rw [hp]

theorem admitsFrame_restore_iff {w : W} {j : Job} {r : RestoreData} (hp : j.progress = .restore r) (h : FrameHeader) :
    w.admitsFrame j h = false ↔ ¬(j.sessionId = some h.session ∧ r.filterFrom ≤ h.object ∧ h.object ≤ r.lastObject) := by
  unfold W.admitsFrame
  rw [hp, ← Bool.not_eq_true, Bool.and_eq_true, Bool.and_eq_true, decide_eq_true_iff, decide_eq_true_iff, decide_eq_true_iff,
    and_assoc]

/-- A stream runs while its enable is set and the gate is open (R110). -/
theorem running_iff (w : W) (d : Drive) : w.running d = true ↔ (w.stream d).enable = true ∧ w.gateOpen = true := by
  unfold W.running
  rw [Bool.and_eq_true]

/-- Settles O54. -/
theorem theParserWalksABlock : Obligations.TheParserWalksABlock := by
  refine ⟨fun block offset => ?_, fun w d j i hx hj hrun hhold hpres hi => ⟨?_, ?_⟩, ?_⟩
  · obtain ⟨hpad, hbad, hgood⟩ := headerAt_cases block offset
    dsimp only
    by_cases h0 : (headerOfBytes (block.drop offset)).kind = 0
    · rw [if_pos h0]
      exact hpad h0
    · rw [if_neg h0]
      have hiff := headerBad_iff h0 (65536 - offset)
      by_cases hb : headerBad (headerOfBytes (block.drop offset)) (65536 - offset)
      · rw [if_pos (hiff.1 hb)]
        exact hbad h0 hb
      · rw [if_neg (mt hiff.2 hb)]
        exact hgood h0 hb
  · intro v hp hk hone
    have hhint : w.hintHolds j.id = w := hintHolds_self fun k hk hid r hr => by
      rw [hone k hk hid, hp] at hr
      cases hr
    rw [parseOnce_parsing hx hj hrun hpres hhold (jobTodo_verify hp) hi]
    refine ⟨fun he => parseAt_ends he, fun ho hb => ?_, fun h ho hg => ⟨fun hk3 => ?_, fun hk2 => ?_⟩⟩
    · rw [parseAt_bad ho hb, handHeaderBad_verify hj hk]
      rfl
    · rw [parseAt_marker ho hg hk3, handMarker_verify hj hk]
      rfl
    · rw [parseAt_chunk ho hg hk2 (callsBack_verify hp h) hhint]
      have hadmit : w.admitsFrame j h = w.verifyAdmits v h.session := by
        unfold W.admitsFrame
        rw [hp]
      rw [hadmit]
      exact if_congr Iff.rfl rfl (if_congr (running_iff w d) rfl rfl)
  · intro r hp hk htodo hh hone
    have hhint : w.hintHolds j.id = w := hintHolds_self fun k hk hid x hx => by
      rw [hone k hk hid, hp] at hx
      cases hx
      exact hh
    rw [parseOnce_parsing hx hj hrun hpres hhold ((jobTodo_restore hp).trans htodo) hi]
    refine ⟨fun he => ?_, fun h ho hg => ⟨fun hk3 => ?_, fun hk2 => ?_⟩⟩
    · rcases or_assoc.2 he with he | hb
      · exact parseAt_ends he
      · by_cases ho : (w.stream d).parseOffset.getD 0 < 65536
        · rw [parseAt_bad ho hb, handHeaderBad_restore hj hk]
          exact congrArg some (if_pos hx)
        · exact parseAt_ends (.inl (Nat.not_lt.1 ho))
    · rw [parseAt_marker ho hg hk3, handMarker_restore hj hk]
      rfl
    · rw [parseAt_chunk ho hg hk2 (callsBack_unhinted hp hh h) hhint]
      exact if_congr (admitsFrame_restore_iff hp h) rfl (if_congr (running_iff w d) rfl rfl)
  · intro w d j i x hx hj hrun hstop hpres htodo hnone hl hmin
    refine (parseOnce_begins hx hj hrun hpres hstop htodo hnone (firstBuf_eq (decide_eq_true hl) fun k hk => ?_)).trans rfl
    by_cases hki : k = i
    · exact ⟨by rw [hki], fun _ => .inl hki⟩
    · have hlt := hmin k (of_decide_eq_true hk) hki
      exact ⟨hlt.le, fun e => absurd e hlt.ne'⟩

end Sys2Proof.Machine

/-! PROOF. Placement and catalog waits that go on, and the entries a RESTORE has still to add (R114, R116, R125, R133, R181). -/

namespace Sys2Proof.Machine

/-! ## A new block (R114) -/

theorem closeOpen_none {x : Stream} (h : x.bufIn .opened = none) : x.closeOpen = x := by
  unfold Stream.closeOpen
  rw [h]

theorem bufIn_none_iff (x : Stream) (st : BufState) : x.bufIn st = none ↔ ∀ i, (x.buf i).state ≠ st := by
  rw [← Option.not_isSome_iff_eq_none, bufIn_isSome]
  constructor
  · rintro h (_ | _) hi
    · exact h (.inl hi)
    · exact h (.inr hi)
  · rintro h (ha | hb)
    · exact h .a ha
    · exact h .b hb

theorem buf_putBuf_same (x : Stream) (i : BufId) (b : Buffer) : (x.putBuf i b).buf i = b := by cases i <;> rfl

theorem buf_putBuf_other (x : Stream) {i k : BufId} (b : Buffer) (h : k ≠ i) : (x.putBuf i b).buf k = x.buf k := by
  cases i with
  | a => cases k with
    | a => exact absurd rfl h
    | b => rfl
  | b => cases k with
    | a => rfl
    | b => exact absurd rfl h

theorem putBuf_putBuf (x : Stream) (i : BufId) (b c : Buffer) : (x.putBuf i b).putBuf i c = x.putBuf i c := by cases i <;> rfl

/-- A block that opens with its first frame. -/
def Stream.withBlock (x : Stream) (i : BufId) (a : Attached) (st : BufState) (l : List Frame) : Stream :=
  { (x.putBuf i { state := st, index := a.nextIndex, frames := l, data := [] }) with
    attached := some { a with nextIndex := a.nextIndex + 1 } }

theorem openBlock_eq (x : Stream) (i : BufId) (a : Attached) (f : Frame) :
    x.openBlock i a f = x.withBlock i a (if f.secureNow then .closed else .opened) [f] := by
  unfold Stream.openBlock Stream.withBlock
  cases i <;> cases hs : f.secureNow <;> simp [Stream.addFrame, Stream.closeBuf, Stream.putBuf, Stream.buf, hs]

theorem W.putStream_self (w : W) (d : Drive) : w.putStream d (w.stream d) = w := by
  simp only [W.putStream, W.stream, Pair.put_get]

/-- A frame for which a new block may be opened goes into a FREE buffer (R114). -/
theorem placeFrame_opens {w : W} {d : Drive} {a : Attached} {i : BufId} {f : Frame}
    (ha : (w.stream d).attached = some a) (hopen : (w.stream d).bufIn .opened = none)
    (hfree : (w.stream d).bufIn .free = some i) (hmay : f.isChunk = true → w.mayOpenBlock d a = true) :
    w.placeFrame d f = (w.putStream d ((w.stream d).openBlock i a f), .placed) := by
  unfold W.placeFrame
  dsimp only
  rw [ha, hopen, closeOpen_none hopen, W.putStream_self]
  dsimp only [Option.filter]
  rw [if_neg, hfree]
  rintro ⟨hc, hm⟩
  rw [hmay hc] at hm
  cases hm

/-- Without a FREE buffer it waits. -/
theorem placeFrame_waits {w : W} {d : Drive} {a : Attached} {f : Frame}
    (ha : (w.stream d).attached = some a) (hopen : (w.stream d).bufIn .opened = none)
    (hfree : (w.stream d).bufIn .free = none) (hmay : f.isChunk = true → w.mayOpenBlock d a = true) :
    w.placeFrame d f = (w, .waits) := by
  unfold W.placeFrame
  dsimp only
  rw [ha, hopen, closeOpen_none hopen, W.putStream_self]
  dsimp only [Option.filter]
  rw [if_neg, hfree]
  rintro ⟨hc, hm⟩
  rw [hmay hc] at hm
  cases hm

/-- A frame that fits goes into the OPEN block (R114). -/
theorem placeFrame_fits {w : W} {d : Drive} {a : Attached} {i : BufId} {f : Frame} (ha : (w.stream d).attached = some a)
    (hi : (w.stream d).bufIn .opened = some i) (hfit : ((w.stream d).buf i).filled + f.size ≤ 65536) :
    w.placeFrame d f = (w.putStream d ((w.stream d).addFrame i f), .placed) := by
  have hroom : f.size ≤ ((w.stream d).buf i).roomLeft := by
    unfold Buffer.roomLeft blockSize
    omega
  unfold W.placeFrame
  dsimp only
  rw [ha]
  dsimp only
  rw [hi, Option.filter_some, if_pos (decide_eq_true hroom)]

/-! ## Carry-over frames (R116) -/

theorem placeCarry_nil {w : W} {d : Drive} (h : (w.stream d).carry = []) (fuel : Nat) :
    W.placeCarry fuel d w = (w, .placed) := by
  cases fuel with
  | zero => rfl
  | succ fuel =>
    unfold W.placeCarry
    rw [h]

theorem placeCarry_placed {w v : W} {d : Drive} {f : Frame} {rest : List Frame} (h : (w.stream d).carry = f :: rest)
    (hp : w.placeFrame d f = (v, .placed)) (fuel : Nat) :
    W.placeCarry (fuel + 1) d w = W.placeCarry fuel d (v.modStream d fun s => { s with carry := rest }) := by
  conv_lhs => unfold W.placeCarry
  rw [h]
  dsimp only
  rw [hp]

theorem placeCarry_waits {w v : W} {d : Drive} {f : Frame} {rest : List Frame} (h : (w.stream d).carry = f :: rest)
    (hp : w.placeFrame d f = (v, .waits)) (fuel : Nat) : W.placeCarry (fuel + 1) d w = (v, .waits) := by
  unfold W.placeCarry
  rw [h]
  dsimp only
  rw [hp]

/-! ### What the stream is once a block has opened in it -/

section
variable {x : Stream} {i : BufId} {a : Attached}

theorem withBlock_buf_same (st : BufState) (l : List Frame) :
    (x.withBlock i a st l).buf i = { state := st, index := a.nextIndex, frames := l, data := [] } := by cases i <;> rfl

theorem withBlock_buf_other (st : BufState) (l : List Frame) {k : BufId} (h : k ≠ i) :
    (x.withBlock i a st l).buf k = x.buf k := by
  have hb : (x.withBlock i a st l).buf k =
      (x.putBuf i { state := st, index := a.nextIndex, frames := l, data := [] }).buf k := by cases k <;> rfl
  rw [hb, buf_putBuf_other x _ h]

/-- The block is the OPEN one. -/
theorem withBlock_opened (hopen : x.bufIn .opened = none) (l : List Frame) : (x.withBlock i a .opened l).bufIn .opened = some i := by
  have hno := (bufIn_none_iff x .opened).1 hopen
  cases i with
  | a => rfl
  | b =>
    have ha : (x.withBlock .b a .opened l).bufA.state ≠ .opened := hno .a
    unfold Stream.bufIn
    rw [if_neg ha]
    rfl

theorem withBlock_notOpened (hopen : x.bufIn .opened = none) (l : List Frame) : (x.withBlock i a .closed l).bufIn .opened = none := by
  rw [bufIn_none_iff] at hopen ⊢
  intro k
  by_cases hk : k = i
  · rw [hk, withBlock_buf_same]
    nofun
  · rw [withBlock_buf_other _ _ hk]
    exact hopen k

theorem addFrame_withBlock {f : Frame} (hf : f.secureNow = false) (l : List Frame) :
    (x.withBlock i a .opened l).addFrame i f = x.withBlock i a .opened (l ++ [f]) := by
  rw [addFrame_eq f (by rw [withBlock_buf_same]), withBlock_buf_same, hf]
  cases i <;> rfl

/-- A stream with its carry-over frames. -/
def Stream.carrying (x : Stream) (l : List Frame) : Stream := { x with carry := l }

theorem carrying_withBlock_buf (st : BufState) (l c : List Frame) (k : BufId) :
    ((x.withBlock i a st l).carrying c).buf k = (x.withBlock i a st l).buf k := by cases k <;> rfl

theorem carrying_addFrame (y : Stream) (c : List Frame) (f : Frame) : (y.carrying c).addFrame i f = (y.addFrame i f).carrying c := by
  unfold Stream.addFrame
  cases i <;> cases f.secureNow <;> rfl

end

/-- A state of a stream, all else as it is. -/
theorem modStream_putStream (w : W) (d : Drive) (y : Stream) (g : Stream → Stream) :
    (w.putStream d y).modStream d g = w.putStream d (g y) := by
  simp only [W.modStream, W.putStream, W.stream, Pair.get_put_same, Pair.put_put]

theorem stream_putStream (w : W) (d : Drive) (y : Stream) : (w.putStream d y).stream d = y := Pair.get_put_same _ _ _

theorem putStream_putStream (w : W) (d : Drive) (y z : Stream) : (w.putStream d y).putStream d z = w.putStream d z := by
  simp only [W.putStream, Pair.put_put]

/-- Frames that all fit into the block that has opened. -/
theorem placeCarry_fits {w : W} {d : Drive} {x : Stream} {i : BufId} {a : Attached} (hopen : x.bufIn .opened = none)
    {rest l : List Frame} (hs : ∀ g ∈ rest, g.secureNow = false)
    (hfit : ((l ++ rest).map Frame.size).sum ≤ 65536) {fuel : Nat} (hf : rest.length < fuel) :
    W.placeCarry fuel d (w.putStream d ((x.withBlock i a .opened l).carrying rest)) =
      (w.putStream d ((x.withBlock i a .opened (l ++ rest)).carrying []), .placed) := by
  induction rest generalizing l fuel with
  | nil =>
    rw [List.append_nil]
    exact placeCarry_nil (by rw [stream_putStream]; rfl) fuel
  | cons g rest ih =>
    obtain ⟨fuel, rfl⟩ := Nat.exists_eq_add_of_le' (Nat.lt_of_le_of_lt (Nat.zero_le _) hf)
    have hst := stream_putStream w d ((x.withBlock i a .opened l).carrying (g :: rest))
    have hplace : (w.putStream d ((x.withBlock i a .opened l).carrying (g :: rest))).placeFrame d g =
        (w.putStream d ((x.withBlock i a .opened (l ++ [g])).carrying (g :: rest)), .placed) := by
      rw [placeFrame_fits (a := { a with nextIndex := a.nextIndex + 1 }) (i := i), hst, carrying_addFrame,
        addFrame_withBlock (hs g List.mem_cons_self), putStream_putStream]
      · rw [hst]
        rfl
      · rw [hst]
        exact withBlock_opened hopen l
      · rw [hst, carrying_withBlock_buf, withBlock_buf_same]
        refine le_trans ?_ hfit
        show (l.map Frame.size).sum + g.size ≤ _
        rw [List.map_append, List.sum_append, List.map_cons, List.sum_cons]
        omega
    rw [placeCarry_placed (by rw [hst]; rfl) hplace, modStream_putStream]
    have happ : l ++ g :: rest = (l ++ [g]) ++ rest := by rw [List.append_assoc, List.singleton_append]
    rw [happ]
    exact ih (fun k hk => hs k (List.mem_cons_of_mem _ hk)) (happ ▸ hfit) (Nat.lt_of_succ_lt_succ hf)

/-! ### The placement that waited (R116, R125) -/

theorem resumePlacing_carry {w v : W} {d : Drive} {n : Nat} {a : Attached} {i : BufId} {p : Placing}
    (hj : (w.stream d).job = some n) (ha : (w.stream d).attached = some a) (hi : (w.stream d).bufIn .free = some i)
    (hc : (w.stream d).carry ≠ []) (ht : (w.backupData n).bind BackupData.ending ≠ some .truncPlace)
    (hp : W.placeCarry ((w.stream d).carry.length + 1) d w = (v, p)) (hno : p ≠ .refused) :
    w.resumePlacing d = v.emit (.advance n) := by
  have hall : w.placeAllCarry d = (v, p) := hp
  unfold W.resumePlacing
  dsimp only
  rw [hj]
  dsimp only
  rw [if_neg (by rw [ha, hi]; simp [hc]), if_pos hc, if_neg ht, hall]
  cases p with
  | refused => exact absurd rfl hno
  | placed => rfl
  | waits => rfl

theorem resumePlacing_marker {w v : W} {d : Drive} {n : Nat} {a : Attached} {i : BufId} {f : Frame}
    (hj : (w.stream d).job = some n) (ha : (w.stream d).attached = some a) (hi : (w.stream d).bufIn .free = some i)
    (hc : (w.stream d).carry = []) (hm : (w.stream d).markerWait = some f)
    (hp : (w.modStream d fun t => { t with markerWait := none }).placeFrame d f = (v, .placed)) :
    w.resumePlacing d = (v.modStream d Stream.closeOpen).emit (.advance n) := by
  unfold W.resumePlacing
  dsimp only
  rw [hj]
  dsimp only
  rw [if_neg (by rw [ha, hi, hm]; simp), if_neg (not_not.2 hc), hm]
  dsimp only
  rw [hp]

theorem resumePlacing_nothing {w : W} {d : Drive} (h : (w.stream d).job = none ∨ (w.stream d).attached = none ∨
    ((w.stream d).carry = [] ∧ (w.stream d).markerWait = none) ∨ (w.stream d).bufIn .free = none) : w.resumePlacing d = w := by
  unfold W.resumePlacing
  dsimp only
  cases hj : (w.stream d).job with
  | none => rfl
  | some n => exact if_pos (h.resolve_left (by rw [hj]; nofun))

theorem isChunk_iff (f : Frame) : f.isChunk = true ↔ f.header.kind = 1 ∨ f.header.kind = 2 := by
  unfold Frame.isChunk
  rw [Bool.or_eq_true, decide_eq_true_iff, decide_eq_true_iff]

theorem mayOpenBlock_iff (w : W) (d : Drive) (a : Attached) : w.mayOpenBlock d a = true ↔
    (w.knownUsed a.cartridge).getD 0 + ((w.stream d).countIn .closed + (w.stream d).countIn .writing) <
      thresholdOf (w.kindOf a.cartridge) := decide_eq_true_iff

/-- A block closed in a FREE buffer is one more that is not written. -/
theorem withBlock_unwritten {x : Stream} {i : BufId} (a : Attached) (l : List Frame) (hi : (x.buf i).state = .free) :
    (x.withBlock i a .closed l).countIn .closed + (x.withBlock i a .closed l).countIn .writing =
      x.countIn .closed + x.countIn .writing + 1 := by
  have hc : (x.buf i).state ≠ .closed := by rw [hi]; nofun
  have hw : (x.buf i).state ≠ .writing := by rw [hi]; nofun
  unfold Stream.countIn
  cases i with
  | a =>
    rw [if_neg (show x.bufA.state ≠ .closed from hc), if_neg (show x.bufA.state ≠ .writing from hw)]
    show 1 + (if x.bufB.state = .closed then 1 else 0) + (0 + if x.bufB.state = .writing then 1 else 0) = _
    omega
  | b =>
    rw [if_neg (show x.bufB.state ≠ .closed from hc), if_neg (show x.bufB.state ≠ .writing from hw)]
    show (if x.bufA.state = .closed then 1 else 0) + 1 + ((if x.bufA.state = .writing then 1 else 0) + 0) = _
    omega

/-! ## The waits for an extent record (R133, R150) -/

/-- A BACKUP that waits for the catalog, as R133 words it. -/
theorem waitsForRecord_eq : W.waitsForRecord = fun j : Job => decide (j.state = .waiting) && decide (j.waitReason = some .catalog) &&
    (match j.backup? with
     | some b => !b.truncating
     | none => false) := by
  funext j
  unfold W.waitsForRecord Job.backup?
  cases j.progress <;> rfl

theorem takeRecord_eq (w : W) (n : Nat) : w.takeRecord n =
    if w.cg.extents.length < 1024 ∧ (w.job n).any W.waitsForRecord = true then w.beginExtent n else w := by
  unfold W.takeRecord W.extentFree
  exact if_congr (and_congr_left' decide_eq_true_iff) rfl rfl

theorem serveCatalogWaits_full {w : W} (h : 1024 ≤ w.cg.extents.length) (l : List Nat) : l.foldl W.takeRecord w = w := by
  induction l with
  | nil => rfl
  | cons n l ih =>
    rw [List.foldl_cons, takeRecord_eq, if_neg fun e => absurd e.1 (Nat.not_lt.2 h)]
    exact ih

/-! ### What an extent begun leaves in the catalog -/

theorem setJob_cg (w : W) (n : Nat) (s : JobState) (why : Option WaitReason) : (w.setJob n s why).cg = w.cg := by
  unfold W.setJob
  split
  · rfl
  · split
    · rfl
    · exact W.jobNotice_cg _ n _

theorem beginEarlySpan_cg (w : W) (n : Nat) (d : Drive) : (w.beginEarlySpan n d).cg = w.cg := by
  unfold W.beginEarlySpan
  exact setJob_cg _ n _ _

theorem placeFrame_cg (w : W) (d : Drive) (f : Frame) : (w.placeFrame d f).1.cg = w.cg := by
  unfold W.placeFrame
  dsimp only
  split
  · rfl
  split
  · rfl
  split
  · rfl
  split <;> rfl

theorem placeCarry_cg (fuel : Nat) (d : Drive) (w : W) : (W.placeCarry fuel d w).1.cg = w.cg := by
  induction fuel generalizing w with
  | zero => rfl
  | succ fuel ih =>
    unfold W.placeCarry
    split
    · rfl
    next f rest _ =>
      dsimp only
      split
      · exact (ih _).trans (placeFrame_cg w d f)
      · exact placeFrame_cg w d f
      · exact placeFrame_cg w d f

theorem attach_cg (w : W) (n : Nat) (d : Drive) (b : BackupData) (i first : Nat) : (w.attach n d b i first).cg = w.cg := by
  have hcarry (v : W) (hv : v.cg = w.cg) : (v.placeAllCarry d).1.cg = w.cg := (placeCarry_cg _ d v).trans hv
  unfold W.attach
  dsimp only
  rw [W.emit_cg]
  split
  · exact (beginEarlySpan_cg _ n d).trans (hcarry _ rfl)
  · exact hcarry _ rfl
  · exact hcarry _ rfl

theorem beginExtent_extents {w : W} {n : Nat} {j : Job} {b : BackupData} {d : Drive} {i : Nat} (hj : w.job n = some j)
    (hb : j.backup? = some b) (hd : j.drive = some d) (hi : j.cartridge = some i) (hq : b.extentSeq < 1024)
    (hfree : w.cg.extents.length < 1024) : (w.beginExtent n).cg.extents =
      insertExtent (w.newExtent n b i ((w.port d).position.getD ((w.knownUsed i).getD 0))) w.cg.extents := by
  have hroom : ¬w.extentFree = false := by
    unfold W.extentFree
    rw [decide_eq_true hfree]
    nofun
  unfold W.beginExtent
  rw [hj]
  dsimp only
  rw [hb, hd, hi]
  dsimp only
  rw [if_neg (Nat.not_le.2 hq), if_neg hroom, attach_cg, setJob_cg]
  exact makeExtent_extents _ _

/-! ## What a RESTORE has still to add (R181) -/

theorem modRestore_modRestore (w : W) (n : Nat) (f g : RestoreData → RestoreData) :
    (w.modRestore n f).modRestore n g = w.modRestore n fun r => g (f r) := by
  unfold W.modRestore
  rw [modJob_modJob]
  · refine modJob_congr w n fun k _ _ => ?_
    cases hp : k.progress <;> simp [hp]
  · intro k
    cases k.progress <;> rfl

/-- With one job of an id, its progress is what it is. -/
theorem modRestore_const {w : W} {n : Nat} {j : Job} {r : RestoreData} (hp : j.progress = .restore r)
    (hone : ∀ k ∈ w.js.jobs, k.id = n → k = j) (f : RestoreData → RestoreData) :
    w.modRestore n f = w.modRestore n fun _ => f r := by
  unfold W.modRestore
  refine modJob_congr w n fun k hk hid => ?_
  rw [hone k hk hid, hp]

theorem restoreData_of {w : W} {n : Nat} {j : Job} {r : RestoreData} (hj : w.job n = some j) (hp : j.progress = .restore r) :
    w.restoreData n = some r := by
  unfold W.restoreData Job.restore?
  rw [hj, Option.bind_some, hp]

theorem restoreData_modRestore {w : W} {n : Nat} {j : Job} {r : RestoreData} (hj : w.job n = some j)
    (hp : j.progress = .restore r) (f : RestoreData → RestoreData) : (w.modRestore n f).restoreData n = some (f r) := by
  refine restoreData_of ((W.job_modRestore w n f).trans (congrArg _ hj)) ?_
  dsimp only
  rw [hp]

/-- The progress of a RESTORE with an entry more (R177, R181). -/
def RestoreData.added (r : RestoreData) (e : OutEntry) : RestoreData :=
  { r with out := r.out ++ [e], objectOffset := r.objectOffset + e.data.length, expect := e.chunk + 1, found := true
           delivered := r.delivered + (if e.endOfObject then 1 else 0)
           substituted := min (r.substituted + (if e.damaged then 1 else 0)) largestObjectNumber }

/-- The progress of a RESTORE that has passed on to the next object. -/
def RestoreData.passed (r : RestoreData) : RestoreData :=
  { r with nextObject := r.nextObject.bind fun o => nextAfter o r.lastObject r.absentObjects
           expect := 0, found := false, objectOffset := 0 }

theorem addEntry_eq (w : W) (n : Nat) (e : OutEntry) : w.addEntry n e =
    if e.endOfObject then (w.modRestore n fun r => r.added e).modRestore n RestoreData.passed
    else w.modRestore n fun r => r.added e := rfl

theorem runTodo_nil {w : W} {n : Nat} {r : RestoreData} (hr : w.restoreData n = some r) (ht : r.todo = []) (fuel : Nat) :
    W.runTodo (fuel + 1) n w = w.restoreDone n := by
  unfold W.runTodo
  rw [hr]
  dsimp only
  rw [ht]

theorem runTodo_act {w : W} {n : Nat} {r : RestoreData} {a : RAction} {rest : List RAction} (hr : w.restoreData n = some r)
    (ht : r.todo = a :: rest) (hm : w.mayAct n r a = true) (fuel : Nat) : W.runTodo (fuel + 1) n w =
      W.runTodo fuel n ((w.modRestore n fun x => { x with todo := rest }).doAction n a) := by
  conv_lhs => unfold W.runTodo
  rw [hr]
  dsimp only
  rw [ht]
  exact if_pos hm

theorem runTodo_stops {w : W} {n : Nat} {r : RestoreData} {a : RAction} {rest : List RAction} (hr : w.restoreData n = some r)
    (ht : r.todo = a :: rest) (hm : w.mayAct n r a = false) (fuel : Nat) : W.runTodo (fuel + 1) n w = w.restoreDone n := by
  unfold W.runTodo
  rw [hr]
  dsimp only
  rw [ht]
  exact if_neg (by rw [hm]; nofun)

theorem restoreDone_busy {w : W} {n : Nat} {r : RestoreData} (hr : w.restoreData n = some r)
    (h : ¬(r.nextObject = none ∧ r.out = [])) : w.restoreDone n = w := by
  unfold W.restoreDone
  rw [hr]
  exact if_neg h

theorem runAll_eq {w : W} {n : Nat} {r : RestoreData} (hr : w.restoreData n = some r) :
    w.runAll n = W.runTodo (r.todo.length + r.lastObject + 65600) n w := by
  unfold W.runAll
  rw [hr]

/-! ### A substitute entry (R181) -/

/-- The progress of a RESTORE once the entry it had to add is there. -/
def RestoreData.withZeros (r : RestoreData) (o size : Nat) (final : Bool) : RestoreData :=
  { r with
      todo := []
      out := r.out ++ [{ object := o, chunk := r.expect, offset := r.objectOffset
                         data := List.replicate size 0#8, damaged := true, endOfObject := final }]
      objectOffset := if final then 0 else r.objectOffset + size, expect := if final then 0 else r.expect + 1
      found := !final, delivered := r.delivered + (if final then 1 else 0), substituted := min (r.substituted + 1) 16777215
      nextObject := if final then nextAfter o r.lastObject r.absentObjects else some o }

theorem addSubstitute_eq {w : W} {n : Nat} {j : Job} {r : RestoreData} {o : Nat} (hj : w.job n = some j)
    (hp : j.progress = .restore r) (ho : r.nextObject = some o) (hone : ∀ k ∈ w.js.jobs, k.id = n → k = j) (size : Nat)
    (final : Bool) : (w.modRestore n fun x => { x with todo := [] }).addSubstitute n size final =
      w.modRestore n fun _ => r.withZeros o size final := by
  unfold W.addSubstitute
  rw [restoreData_modRestore hj hp]
  dsimp only
  rw [ho]
  dsimp only
  rw [addEntry_eq, modRestore_modRestore]
  have hlen : (zeroEntry o r.expect r.objectOffset size final).data.length = size := List.length_replicate
  cases final with
  | true =>
    rw [if_pos (show (zeroEntry o r.expect r.objectOffset size true).endOfObject = true from rfl), modRestore_modRestore,
      modRestore_const hp hone]
    unfold RestoreData.passed RestoreData.added RestoreData.withZeros
    rw [ho]
    rfl
  | false =>
    rw [if_neg (show ¬(zeroEntry o r.expect r.objectOffset size false).endOfObject = true from nofun), modRestore_modRestore,
      modRestore_const hp hone]
    unfold RestoreData.added RestoreData.withZeros
    rw [hlen, ho]
    rfl

theorem runAll_substitute {w : W} {n : Nat} {j : Job} {r : RestoreData} {o size : Nat} {final : Bool} (hj : w.job n = some j)
    (hp : j.progress = .restore r) (ho : r.nextObject = some o) (ht : r.todo = [.substitute size final])
    (hout : r.out.length < 4) (hone : ∀ k ∈ w.js.jobs, k.id = n → k = j) :
    w.runAll n = w.modRestore n fun _ => r.withZeros o size final := by
  have hr := restoreData_of hj hp
  have hmay : w.mayAct n r (.substitute size final) = true := decide_eq_true hout
  have hr' := restoreData_modRestore hj hp fun _ => r.withZeros o size final
  have hfuel : r.todo.length + r.lastObject + 65600 = r.todo.length + r.lastObject + 65598 + 1 + 1 := rfl
  rw [runAll_eq hr, hfuel, runTodo_act hr ht hmay]
  show W.runTodo _ n ((w.modRestore n fun x => { x with todo := [] }).addSubstitute n size final) = _
  rw [addSubstitute_eq hj hp ho hone, runTodo_nil hr' rfl, restoreDone_busy hr']
  rintro ⟨-, h⟩
  exact absurd h (List.append_ne_nil_of_right_ne_nil _ (List.cons_ne_nil _ _))

theorem addWaiting_eq {w : W} {n : Nat} {j : Job} {r : RestoreData} {o size : Nat} {final : Bool} (hj : w.job n = some j)
    (hp : j.progress = .restore r) (ho : r.nextObject = some o) (ht : r.todo = [.substitute size final])
    (hout : r.out.length < 4) (hone : ∀ k ∈ w.js.jobs, k.id = n → k = j) :
    addWaiting n w = { (w.modRestore n fun _ => r.withZeros o size final) with
      signals := w.signals ++ (j.stream.map Signal.parse).toList } := by
  have htodo : W.jobTodo j ≠ [] := by
    rw [jobTodo_restore hp, ht]
    nofun
  have hstream : (w.modRestore n fun _ => r.withZeros o size final).streamOf n = j.stream := by
    unfold W.streamOf
    rw [W.job_modRestore, hj, Option.map_some, hp]
    rfl
  unfold addWaiting
  rw [hj]
  dsimp only
  rw [if_neg htodo, runAll_substitute hj hp ho ht hout hone, hstream]
  cases j.stream with
  | none => simp [W.modRestore, W.modJob]
  | some d => rfl

theorem addWaiting_nothing {w : W} {n : Nat} (h : w.job n = none ∨ ∀ j, w.job n = some j → W.jobTodo j = []) :
    addWaiting n w = w := by
  unfold addWaiting
  cases hj : w.job n with
  | none => rfl
  | some j => exact if_pos (h.resolve_left (by rw [hj]; nofun) j hj)

/-! ## What CARRY_PLACEMENT_RESUME places -/

section
variable {w : W} {d : Drive} {n : Nat} {a : Attached} {f : Frame} {i : BufId} (hj : (w.stream d).job = some n)
  (ha : (w.stream d).attached = some a) (hopen : (w.stream d).bufIn .opened = none) (hfree : (w.stream d).bufIn .free = some i)
include ha hopen hfree

/-- The block that opens with the first frame, once that has been placed. -/
theorem placeCarry_first {rest : List Frame} (hc : (w.stream d).carry = f :: rest) (hmay : w.mayOpenBlock d a = true)
    (fuel : Nat) : W.placeCarry (fuel + 1) d w = W.placeCarry fuel d (w.putStream d
      (((w.stream d).withBlock i a (if f.secureNow then .closed else .opened) [f]).carrying rest)) := by
  rw [placeCarry_placed hc (placeFrame_opens ha hopen hfree fun _ => hmay), modStream_putStream, openBlock_eq]
  rfl

include hj

theorem resume_one (hc : (w.stream d).carry = [f]) (ht : (w.backupData n).bind BackupData.ending ≠ some .truncPlace)
    (hmay : w.mayOpenBlock d a = true) : w.resumePlacing d = { w with
      streams := w.streams.put d
        (((w.stream d).withBlock i a (if f.secureNow then .closed else .opened) [f]).carrying [])
      signals := w.signals ++ [.advance n] } := by
  refine (resumePlacing_carry hj ha hfree (by rw [hc]; nofun) ht
    (v := w.putStream d (((w.stream d).withBlock i a (if f.secureNow then .closed else .opened) [f]).carrying []))
    (p := .placed) ?_ nofun).trans rfl
  rw [placeCarry_first ha hopen hfree hc hmay]
  exact placeCarry_nil (by rw [stream_putStream]; rfl) _

theorem resume_fits {rest : List Frame} (hc : (w.stream d).carry = f :: rest)
    (ht : (w.backupData n).bind BackupData.ending ≠ some .truncPlace) (hs : ∀ g ∈ f :: rest, g.secureNow = false)
    (hfit : ((f :: rest).map Frame.size).sum ≤ 65536) (hmay : w.mayOpenBlock d a = true) : w.resumePlacing d = { w with
      streams := w.streams.put d (((w.stream d).withBlock i a .opened (f :: rest)).carrying [])
      signals := w.signals ++ [.advance n] } := by
  refine (resumePlacing_carry hj ha hfree (by rw [hc]; nofun) ht
    (v := w.putStream d (((w.stream d).withBlock i a .opened (f :: rest)).carrying []))
    (p := .placed) ?_ nofun).trans rfl
  rw [placeCarry_first ha hopen hfree hc hmay, hs f List.mem_cons_self, hc]
  exact placeCarry_fits hopen (fun g hg => hs g (List.mem_cons_of_mem _ hg)) hfit (Nat.lt_succ_self _)

theorem resume_waits {g : Frame} {rest : List Frame} (hc : (w.stream d).carry = f :: g :: rest)
    (ht : (w.backupData n).bind BackupData.ending ≠ some .truncPlace) (hs : f.secureNow = true)
    (hfull : ∀ k, k ≠ i → ((w.stream d).buf k).state ≠ .free)
    (hmay : (w.knownUsed a.cartridge).getD 0 + ((w.stream d).countIn .closed + (w.stream d).countIn .writing) + 1 <
      thresholdOf (w.kindOf a.cartridge)) : w.resumePlacing d = { w with
      streams := w.streams.put d (((w.stream d).withBlock i a .closed [f]).carrying (g :: rest))
      signals := w.signals ++ [.advance n] } := by
  have hmay1 : w.mayOpenBlock d a = true := (mayOpenBlock_iff w d a).2 (by omega)
  have hst := stream_putStream w d (((w.stream d).withBlock i a .closed [f]).carrying (g :: rest))
  have hcount := withBlock_unwritten a [f] (bufIn_state hfree)
  refine (resumePlacing_carry hj ha hfree (by rw [hc]; nofun) ht
    (v := w.putStream d (((w.stream d).withBlock i a .closed [f]).carrying (g :: rest)))
    (p := .waits) ?_ nofun).trans rfl
  rw [placeCarry_first ha hopen hfree hc hmay1, hs, hc, if_pos rfl]
  refine placeCarry_waits (by rw [hst]; rfl) (placeFrame_waits (a := { a with nextIndex := a.nextIndex + 1 }) ?_ ?_ ?_ fun _ => ?_) _
  · rw [hst]
    rfl
  · rw [hst]
    exact withBlock_notOpened hopen [f]
  · rw [hst, bufIn_none_iff]
    intro k
    rw [carrying_withBlock_buf]
    by_cases hk : k = i
    · rw [hk, withBlock_buf_same]
      nofun
    · rw [withBlock_buf_other _ _ hk]
      exact hfull k hk
  · rw [mayOpenBlock_iff, hst]
    show (w.knownUsed a.cartridge).getD 0 + (((w.stream d).withBlock i a .closed [f]).countIn .closed +
      ((w.stream d).withBlock i a .closed [f]).countIn .writing) < thresholdOf (w.kindOf a.cartridge)
    omega

/-- A marker goes into a block of its own, which is closed (R125). -/
theorem resume_marker (hc : (w.stream d).carry = []) (hm : (w.stream d).markerWait = some f) (hk : 3 ≤ f.header.kind) :
    let placed := (w.stream d).withBlock i a (if f.secureNow then .closed else .opened) [f]
    w.resumePlacing d = { w with
      streams := w.streams.put d
        { (if f.secureNow then placed else placed.putBuf i { placed.buf i with state := .closed }) with markerWait := none }
      signals := w.signals ++ [.advance n] } := by
  have hw1 : w.modStream d (fun t => { t with markerWait := none }) =
      w.putStream d { w.stream d with markerWait := none } := rfl
  have hst := stream_putStream w d { w.stream d with markerWait := none }
  have hnot : ¬f.isChunk = true := by
    rw [isChunk_iff]
    omega
  have hplace := placeFrame_opens (w := w.putStream d { w.stream d with markerWait := none }) (d := d) (a := a) (i := i) (f := f)
    (by rw [hst]; exact ha) (by rw [hst]; exact hopen) (by rw [hst]; exact hfree) fun h => absurd h hnot
  rw [hst, putStream_putStream, openBlock_eq] at hplace
  have hclose : Stream.closeOpen (Stream.withBlock { w.stream d with markerWait := none } i a
      (if f.secureNow then .closed else .opened) [f]) =
      { (if f.secureNow then (w.stream d).withBlock i a (if f.secureNow then .closed else .opened) [f]
         else ((w.stream d).withBlock i a (if f.secureNow then .closed else .opened) [f]).putBuf i
          { ((w.stream d).withBlock i a (if f.secureNow then .closed else .opened) [f]).buf i with state := .closed }) with
        markerWait := none } := by
    cases hs : f.secureNow with
    | true =>
      refine (closeOpen_none ?_).trans ?_
      · exact withBlock_notOpened (x := { w.stream d with markerWait := none }) hopen [f]
      · cases i <;> rfl
    | false =>
      unfold Stream.closeOpen
      rw [if_neg Bool.false_ne_true, withBlock_opened (x := { w.stream d with markerWait := none }) hopen [f]]
      cases i <;> rfl
  dsimp only
  rw [← hclose, resumePlacing_marker hj ha hfree hc hm (hw1 ▸ hplace), modStream_putStream]
  rfl

end

/-- What the waits for the catalog come to (R133, R150). -/
theorem serveCatalogWaits_facts (w : W) :
    let queue := w.js.jobs.filter W.waitsForRecord
    (∃ l : List Job, l.Perm queue ∧ (l.Pairwise fun a b => a.seq ≤ b.seq) ∧
      w.serveCatalogWaits = (l.map Job.id).foldl (fun (w : W) n =>
        if w.cg.extents.length < 1024 ∧ (w.job n).any W.waitsForRecord = true then w.beginExtent n else w) w) ∧
    (∀ j, queue = [j] → w.cg.extents.length < 1024 → w.job j.id = some j → w.serveCatalogWaits = w.beginExtent j.id) ∧
    (1024 ≤ w.cg.extents.length ∨ queue = [] → w.serveCatalogWaits = w) := by
  have hstep : W.takeRecord = fun (w : W) n =>
      if w.cg.extents.length < 1024 ∧ (w.job n).any W.waitsForRecord = true then w.beginExtent n else w :=
    funext fun w => funext fun n => takeRecord_eq w n
  refine ⟨⟨_, perm_sortBy Job.seq _, pairwise_sortBy Job.seq _, ?_⟩, fun j hq hroom hj => ?_, fun h => ?_⟩
  · rw [← hstep]
    rfl
  · have hwaits : W.waitsForRecord j = true := (List.mem_filter.1 (hq ▸ List.mem_singleton_self j : j ∈ _)).2
    unfold W.serveCatalogWaits
    rw [hq]
    show w.takeRecord j.id = _
    rw [takeRecord_eq, if_pos ⟨hroom, by rw [hj]; exact hwaits⟩]
  · unfold W.serveCatalogWaits
    rcases h with h | h
    · exact serveCatalogWaits_full h _
    · rw [h]
      rfl

/-- Settles O55. -/
theorem whatWaitedGoesOn : Obligations.WhatWaitedGoesOn := by
  refine ⟨?_, fun s d h => next_putWork (resumePlacing_nothing h), ?_, ?_, ?_, fun s n h => next_putWork (addWaiting_nothing h)⟩
  · intro s d n a f i x hj ha hopen hfree placed
    have hcount (b : Attached) := mayOpenBlock_iff s.work d b
    refine ⟨fun hc ht hk hmay => next_putWork ?_, fun rest hc ht hk hfit hmay => next_putWork ?_,
      fun g rest hc ht hk hs hfull hmay => next_putWork ?_, fun hc hm hk => next_putWork ?_⟩
    · exact resume_one (w := s.work) hj ha hopen hfree hc ht ((hcount a).2 hmay)
    · exact resume_fits (w := s.work) hj ha hopen hfree hc ht (fun g hg => (hk g hg).2) hfit ((hcount a).2 hmay)
    · refine (resume_waits (w := s.work) hj ha hopen hfree hc ht hs hfull hmay).trans ?_
      dsimp only [placed]
      rw [hs]
      rfl
    · exact resume_marker (w := s.work) hj ha hopen hfree hc hm hk
  · intro s
    have h := serveCatalogWaits_facts s.work
    rw [waitsForRecord_eq] at h
    obtain ⟨⟨l, hp, hsort, hl⟩, hone, hnone⟩ := h
    exact ⟨⟨l, hp, hsort, next_putWork hl⟩, fun j hq hroom hj => next_putWork (hone j hq hroom hj),
      fun hfull => next_putWork (hnone hfull)⟩
  · intro w n j b d i hj hb hd hi hq hroom
    refine ⟨_, by rw [beginExtent_extents hj hb hd hi hq hroom]; exact (perm_insertExtent _ _).mem_iff.2 List.mem_cons_self, ?_⟩
    have hsid : w.sessionOf n = j.sessionId.getD 0 := by
      unfold W.sessionOf
      rw [hj]
      rfl
    exact ⟨hsid, rfl, rfl, rfl, rfl, rfl, rfl, rfl, rfl⟩
  · intro s n size final j r o hj hp ho ht hout hone
    exact next_putWork (addWaiting_eq (w := s.work) hj hp ho ht hout hone)

end Sys2Proof.Machine

/-! PROOF. The end of a known extent in a VERIFY (R168), and the damage a decoding's result shows in a RESTORE (R177, R179 to
R181). -/

namespace Sys2Proof.Machine

/-! ## A verdict (R168) -/

theorem endCheck_eq (x : Expect) (last : Option Nat) (continues : Bool) : endCheck x last continues =
    match x, last with
    | .frame o k, some l => if l < o ∨ (continues = true ∧ o = l ∧ 0 < k) then 0 else l + 1 - o
    | .frame _ _, none => 0
    | .lost, _ => 0
    | .unset, _ => 0 := by
  cases x with
  | unset => cases last <;> rfl
  | lost => cases last <;> rfl
  | frame o k =>
    cases last with
    | none => rfl
    | some l =>
      show (if l < o then 0 else if continues = true ∧ o = l ∧ 0 < k then 0 else l + 1 - o) =
        if l < o ∨ (continues = true ∧ o = l ∧ 0 < k) then 0 else l + 1 - o
      split_ifs <;> tauto

/-- The tally of an extent at its end, field by field. -/
theorem endTally_eq (t : Tally) (unreadable : Bool) (x : Expect) (last : Option Nat) (continues : Bool) :
    W.endTally t unreadable x last continues = { t with
      damaged := t.damaged + endCheck x last continues
      markerFaults := t.markerFaults + (if t.kind3Seen = true ∨ unreadable = true then 0 else 1) } := by
  unfold W.endTally
  by_cases h : t.kind3Seen = true ∨ unreadable = true
  · rw [if_pos h, if_pos (by simpa using h)]
    rfl
  · rw [if_neg h, if_neg (by simpa using h)]
    rfl

/-- Whether nothing was found wrong with an extent. -/
def Tally.good (t : Tally) : Bool := decide (t.damaged = 0) && decide (t.markerFaults = 0)

theorem verdictOf_eq (t : Tally) : verdictOf t = if t.good then .verified else .damaged :=
  if_congr (by simp [Tally.good]) rfl rfl

theorem verdictOf_damaged (t : Tally) : verdictOf t = .damaged ↔ t.good = false := by
  rw [verdictOf_eq]
  cases t.good with
  | true => exact iff_of_false nofun nofun
  | false => exact iff_of_true rfl rfl

theorem verdictOf_verified (t : Tally) : verdictOf t = .verified ↔ t.good = true := by
  rw [verdictOf_eq]
  cases t.good with
  | true => exact iff_of_true rfl rfl
  | false => exact iff_of_false nofun nofun

theorem modVerify_modVerify (w : W) (n : Nat) (f g : VerifyData → VerifyData) :
    (w.modVerify n f).modVerify n g = w.modVerify n fun v => g (f v) := by
  unfold W.modVerify
  rw [modJob_modJob]
  · refine modJob_congr w n fun k _ _ => ?_
    cases hp : k.progress <;> simp [hp]
  · intro k
    cases k.progress <;> rfl

theorem verifyData_modVerify {w : W} {n : Nat} {v : VerifyData} (h : w.verifyData n = some v) (f : VerifyData → VerifyData) :
    (w.modVerify n f).verifyData n = some (f v) := by
  obtain ⟨j, hj, hv⟩ := Option.bind_eq_some_iff.1 h
  unfold W.verifyData
  rw [W.job_modVerify, hj, Option.map_some, Option.bind_some]
  unfold Job.verify? at hv ⊢
  cases hp : j.progress with
  | verify y =>
    rw [hp] at hv
    obtain rfl := Option.some.inj hv
    rfl
  | backup _ => rw [hp] at hv; cases hv
  | restore _ => rw [hp] at hv; cases hv
  | clean => rw [hp] at hv; cases hv

/-- What a verdict leaves of the job's own progress. -/
def VerifyData.judged (v : VerifyData) (s q : Nat) (t : Tally) : VerifyData :=
  { v with
      damageFound := v.damageFound || decide (verdictOf t = VerifyState.damaged)
      totals := v.totals.add t, tally := zeroTally, current := .none, expect := .unset, firstUnreadable := false
      endedVerified := v.endedVerified + (if verdictOf t = VerifyState.verified then 1 else 0)
      endedDamaged := v.endedDamaged + (if verdictOf t = VerifyState.verified then 0 else 1)
      extents := v.extents.map fun (x : VExtent) =>
        if x.session = s ∧ x.sequence = q then { x with check := .ended, tally := t } else x }

/-- The cartridge table after a verdict. -/
def W.afterVerdict (w : W) (s q i : Nat) (t : Tally) : W :=
  let v := w.setVerdict s q (verdictOf t) t.damaged
  if verdictOf t = VerifyState.damaged then v.suspectByVerify i else v

theorem recordVerdict_eq {w : W} {n s q : Nat} {e : ExtentRec} (he : w.extent s q = some e) (t : Tally) :
    w.recordVerdict n s q t = (w.afterVerdict s q e.cartridge t).modVerify n fun v => v.judged s q t := by
  unfold W.recordVerdict
  rw [he]
  dsimp only
  unfold W.noteVerdict W.countVerdict
  dsimp only
  rw [modVerify_modVerify]
  rfl

theorem endChecking_eq {w : W} {n s q : Nat} {v : VerifyData} {e : ExtentRec} (hv : w.verifyData n = some v)
    (hc : v.current = .known s q) (he : w.extent s q = some e) : w.endChecking n = w.recordVerdict n s q
      (W.endTally v.tally v.firstUnreadable v.expect e.lastObject e.continues) := by
  unfold W.endChecking
  rw [hv]
  dsimp only
  rw [hc]
  dsimp only
  rw [he]

theorem suspectByVerify_facts (w : W) (i : Nat) : (w.suspectByVerify i).cg = w.cg ∧ (w.suspectByVerify i).js = w.js := by
  unfold W.suspectByVerify
  split
  · exact ⟨setMedia_cg _ _ _ _, setMedia_js _ _ _ _⟩
  · exact ⟨rfl, rfl⟩

theorem afterVerdict_facts (w : W) (s q i : Nat) (t : Tally) :
    (w.afterVerdict s q i t).cg = (w.setVerdict s q (verdictOf t) t.damaged).cg ∧ (w.afterVerdict s q i t).js = w.js := by
  unfold W.afterVerdict
  dsimp only
  split
  · exact suspectByVerify_facts _ i
  · exact ⟨rfl, rfl⟩

theorem extent_setVerdict {w : W} {s q : Nat} {e : ExtentRec} (he : w.extent s q = some e) (v : VerifyState) (damaged : Nat) :
    (w.setVerdict s q v damaged).extent s q = some { e with verifyState := v, damagedChunks := min damaged max32 } := by
  have hmod := W.extent_modExtent w s q (fun e => { e with verifyState := v, damagedChunks := min damaged max32 })
    fun _ => ⟨rfl, rfl⟩
  rw [he] at hmod
  exact hmod

/-! ### SUSPECT (R168, step 4) -/

/-- Whether a BACKUP's claim stands on a cartridge, read from the job list. -/
theorem writerClaims_eq {w : W} {i : Nat} {c : CartRec} (hi : w.cart i = some c) (hn : (w.js.jobs.map Job.id).Nodup) :
    w.writerClaims i = w.js.jobs.any fun k => decide (c.claim = some k.id) && decide (k.kind = .backup) := by
  unfold W.writerClaims W.claimOf
  rw [hi, Option.bind_some]
  cases hc : c.claim with
  | none => simp
  | some m =>
    rw [Option.bind_some]
    cases hj : w.job m with
    | none =>
      refine (List.any_eq_false.2 fun k hk => ?_).symm
      have := List.find?_eq_none.1 hj k hk
      simp_all [eq_comm]
    | some j =>
      have hjm := List.mem_of_find?_eq_some hj
      have hid : j.id = m := W.job_id hj
      rw [Bool.eq_iff_iff, List.any_eq_true, decide_eq_true_iff]
      constructor
      · exact fun hk => ⟨j, hjm, by simp [hid, hk]⟩
      · rintro ⟨k, hk, hb⟩
        obtain ⟨hkm, hkb⟩ := Bool.and_eq_true_iff.1 hb
        have : k = j := List.inj_on_of_nodup_map hn hk hjm
          (by rw [hid]; exact (Option.some.inj (of_decide_eq_true hkm)).symm)
        exact this ▸ of_decide_eq_true hkb

theorem afterVerdict_cart {w : W} {s q i : Nat} {t : Tally} {c : CartRec} (hi : w.cart i = some c)
    (hn : (w.js.jobs.map Job.id).Nodup) :
    let suspect : Bool := !t.good && (decide (c.state = .opened) || decide (c.state = .full)) &&
      !w.js.jobs.any fun k => decide (c.claim = some k.id) && decide (k.kind = .backup)
    (w.afterVerdict s q i t).cart i = some (if suspect then { c with state := .suspect } else c) ∧
      (w.afterVerdict s q i t).out = w.out ++ (if suspect then
        [.cartridgeState i c.label (some c.state) (some .suspect) .verify] else []) := by
  intro suspect
  have hi' : (w.setVerdict s q (verdictOf t) t.damaged).cart i = some c := hi
  have hm : (w.setVerdict s q (verdictOf t) t.damaged).mediaOf i = some c.state := by
    unfold W.mediaOf
    rw [hi']
    rfl
  have hw : (w.setVerdict s q (verdictOf t) t.damaged).writerClaims i = _ := writerClaims_eq (w := w) hi hn
  unfold W.afterVerdict W.suspectByVerify
  dsimp only
  rw [hm, hw]
  by_cases hs : suspect = true
  · have hs' := hs
    simp only [suspect, Bool.and_eq_true, Bool.not_eq_true', Bool.or_eq_true, decide_eq_true_iff] at hs'
    obtain ⟨⟨hg, hst⟩, hcl⟩ := hs'
    have hne : c.state ≠ .suspect := by rcases hst with h | h <;> rw [h] <;> nofun
    rw [if_pos ((verdictOf_damaged t).2 hg), if_pos ⟨by simpa using hst, hcl⟩, if_pos hs, if_pos hs]
    exact ⟨setMedia_cart hi' _ _, by rw [W.setMedia_eq hi', if_neg hne] <;> rfl⟩
  · rw [if_neg hs, if_neg hs, List.append_nil]
    by_cases hg : t.good = false
    · rw [if_pos ((verdictOf_damaged t).2 hg), if_neg]
      · exact ⟨hi, rfl⟩
      · rintro ⟨hst, hcl⟩
        refine hs ?_
        simp only [suspect, hg, hcl]
        simpa using hst
    · rw [if_neg (mt (verdictOf_damaged t).1 hg)]
      exact ⟨hi, rfl⟩

/-! ## Damage in a RESTORE (R179 to R181) -/

section
variable {w : W} {n : Nat} {j : Job} {r : RestoreData} (hj : w.job n = some j) (hp : j.progress = .restore r)
include hj

theorem isAborted_eq : w.isAborted n = j.abortPending := by
  unfold W.isAborted
  rw [hj]
  rfl

theorem sessionOf_eq : w.sessionOf n = j.sessionId.getD 0 := by
  unfold W.sessionOf
  rw [hj]
  rfl

include hp

theorem linkLabel_eq : w.linkLabel n = r.link.map Link.label := by
  unfold W.linkLabel
  rw [restoreData_of hj hp]
  rfl

/-- What CHUNK DAMAGED tells (R179). -/
theorem damageNotice_eq (o chunk count : Nat) (cause : DamageCause) (block : Nat) :
    w.damageNotice n o chunk count cause (w.linkLabel n) block = { w with
      out := w.out ++ [.chunkDamaged n (j.sessionId.getD 0) o chunk count cause (r.link.map Link.label) block] } := by
  rw [linkLabel_eq hj hp]
  unfold W.damageNotice
  rw [sessionOf_eq hj]
  rfl

theorem takeDamage_substitute (hpol : r.policy = .substitute) (o chunk count : Nat) (cause : DamageCause) (block : Nat)
    (instead : List RAction) : w.takeDamage n o chunk count cause block instead =
      { (w.modRestore n fun x => { x with todo := instead ++ x.todo }) with
        out := w.out ++ [.chunkDamaged n (j.sessionId.getD 0) o chunk count cause (r.link.map Link.label) block] } := by
  unfold W.takeDamage
  rw [restoreData_of hj hp]
  dsimp only
  rw [hpol]
  dsimp only
  rw [damageNotice_eq hj hp]
  rfl

theorem takeDamage_stop {d : Drive} (hpol : r.policy = .stop) (hd : j.stream = some d) (o chunk count : Nat)
    (cause : DamageCause) (block : Nat) (instead : List RAction) : w.takeDamage n o chunk count cause block instead =
      { ((w.modRestore n fun x => { x with stopped := true, todo := [] }).modJob n fun k =>
          { k with endAs := k.endAs.or (some (.failed, .damaged)), yielding := false }) with
        out := w.out ++ [.chunkDamaged n (j.sessionId.getD 0) o chunk count cause (r.link.map Link.label) block]
        streams := w.streams.put d { w.stream d with stopping := some .abort }
        signals := w.signals ++ [.parse d] } := by
  unfold W.takeDamage
  rw [restoreData_of hj hp]
  dsimp only
  rw [hpol]
  dsimp only
  rw [damageNotice_eq hj hp]
  unfold W.restThenEnd
  dsimp only
  have hstream : W.streamOf (((W.modRestore { w with
      out := w.out ++ [.chunkDamaged n (j.sessionId.getD 0) o chunk count cause (r.link.map Link.label) block] } n
        fun x => { x with stopped := true, todo := [] }).modJob n fun k =>
        { k with endAs := k.endAs.or (some (.failed, .damaged)), yielding := false })) n = some d := by
    unfold W.streamOf
    rw [W.job_modJob, W.job_modRestore]
    · show Option.bind (Option.map _ (Option.map _ (w.job n))) Job.stream = some d
      rw [hj, Option.map_some, hp]
      exact hd
    · exact fun _ => rfl
  rw [hstream]
  rfl

/-- An object of which nothing was found, told and passed over before the frame that shows it (R177). -/
theorem absentBefore_eq {e block : Nat} (he : r.nextObject = some e) (a : RAction) :
    (w.reportAbsent n e .notFound (w.linkLabel n) block).putFirst n [a] = { (w.modRestore n fun x => { x with
        absent := x.absent + 1, absentObjects := x.absentObjects ++ [e]
        nextObject := x.nextObject.bind fun k => nextAfter k x.lastObject (x.absentObjects ++ [e])
        expect := 0, found := false, objectOffset := 0, todo := a :: x.todo }) with
      out := w.out ++ [.chunkDamaged n (j.sessionId.getD 0) e 65535 0 .notFound (r.link.map Link.label) block] } := by
  unfold W.reportAbsent
  rw [damageNotice_eq hj hp]
  dsimp only
  generalize hv : ({ w with out := _ } : W) = v
  have hjv : v.job n = some j := by
    rw [← hv]
    exact hj
  rw [restoreData_modRestore hjv hp, Option.bind_some]
  dsimp only
  rw [if_pos he]
  unfold W.passObject W.putFirst
  rw [modRestore_modRestore, modRestore_modRestore, ← hv]
  rfl

end

/-- The decoding result of a RESTORE that goes on (R177), by where its frame stands. -/
theorem takeResult_eq {w : W} {n e : Nat} {j : Job} {r : RestoreData} (hj : w.job n = some j) (hp : j.progress = .restore r)
    (he : r.nextObject = some e) (hs : r.stopped = false) (res : ResultRec) : w.takeResult n res =
      if res.header.object < e ∨ (res.header.object = e ∧ res.header.chunk < r.expect) then w
      else if res.header.object = e ∧ res.header.chunk = r.expect then w.takeExpected n res r
      else if e < res.header.object ∧ r.found = false then
        (w.reportAbsent n e .notFound (w.linkLabel n) res.block).putFirst n [.take res]
      else if j.abortPending = true then w
      else if res.header.object = e then
        w.takeDamage n e r.expect (res.header.chunk - r.expect) .gap res.block
          (List.replicate (res.header.chunk - r.expect) (.substitute chunkSize false) ++ [.take res])
      else w.takeDamage n e 65535 1 .missingFinal res.block [.substitute 0 true, .take res] := by
  unfold W.takeResult
  rw [restoreData_of hj hp]
  dsimp only
  rw [he]
  dsimp only
  rw [isAborted_eq hj]
  exact if_congr (by simp [hs]) rfl rfl

/-! ## The statement -/

/-- What the end of a known extent does, with the tally that R168 gives it (R168). -/
theorem endChecking_facts {w : W} {n s q : Nat} {v : VerifyData} {e : ExtentRec} (hv : w.verifyData n = some v)
    (hc : v.current = .known s q) (he : w.extent s q = some e) (hn : (w.js.jobs.map Job.id).Nodup) {t : Tally}
    (ht : t = W.endTally v.tally v.firstUnreadable v.expect e.lastObject e.continues) :
    let r := w.endChecking n
    r.extent s q = some { e with verifyState := verdictOf t, damagedChunks := min t.damaged max32 } ∧
      r.verifyData n = some (v.judged s q t) ∧
      (∀ c, w.cart e.cartridge = some c →
        let suspect : Bool := !t.good && (decide (c.state = .opened) || decide (c.state = .full)) &&
          !w.js.jobs.any fun k => decide (c.claim = some k.id) && decide (k.kind = .backup)
        r.cart e.cartridge = some (if suspect then { c with state := .suspect } else c) ∧
          r.out = w.out ++ (if suspect then
            [.cartridgeState e.cartridge c.label (some c.state) (some .suspect) .verify] else [])) := by
  intro r
  have hr : r = (w.afterVerdict s q e.cartridge t).modVerify n fun v => v.judged s q t := by
    rw [ht]
    exact (endChecking_eq hv hc he).trans (recordVerdict_eq he _)
  obtain ⟨hcg, hjs⟩ := afterVerdict_facts w s q e.cartridge t
  rw [hr]
  refine ⟨?_, verifyData_modVerify ?_ _, fun c hi => afterVerdict_cart hi hn⟩
  · have hext : ((w.afterVerdict s q e.cartridge t).modVerify n fun v => v.judged s q t).extent s q =
        (w.setVerdict s q (verdictOf t) t.damaged).extent s q := by
      unfold W.extent
      show List.find? _ (w.afterVerdict s q e.cartridge t).cg.extents = _
      rw [hcg]
    rw [hext]
    exact extent_setVerdict he _ _
  · unfold W.verifyData W.job
    rw [hjs]
    exact hv

/-- Settles O57. -/
theorem endedExtentsAndDamageAreRecorded : Obligations.EndedExtentsAndDamageAreRecorded := by
  refine ⟨?_, ?_⟩
  · intro w n s q v e hv hc he hn lost t good writing up zero r
    have ht : t = W.endTally v.tally v.firstUnreadable v.expect e.lastObject e.continues := by
      rw [endTally_eq, endCheck_eq] <;> rfl
    have hgood : t.good = good := rfl
    obtain ⟨hext, hdata, hcart⟩ := endChecking_facts hv hc he hn ht
    refine ⟨?_, ?_, hcart⟩
    · rw [hext, verdictOf_eq, hgood]
      rfl
    · rw [hdata]
      unfold VerifyData.judged
      cases hg : good with
      | true =>
        have hver := (verdictOf_verified t).2 (hgood.trans hg)
        simp only [hver]
        rfl
      | false =>
        have hver := (verdictOf_damaged t).2 (hgood.trans hg)
        simp only [hver]
        rfl
  · intro w n e j r res hj hp he hs o i told damage size
    have htake := takeResult_eq hj hp he hs res
    have hdamage {chunk count : Nat} {cause : DamageCause} {instead : List RAction}
        (h : j.abortPending = false → w.takeResult n res = w.takeDamage n e chunk count cause res.block instead) :
        damage chunk count cause instead := fun hab =>
      ⟨fun hpol => (h hab).trans (takeDamage_substitute hj hp hpol ..),
        fun d hpol hd => (h hab).trans (takeDamage_stop hj hp hpol hd ..)⟩
    have hnext (ho : o = e) (hi : i = r.expect) : w.takeResult n res = w.takeExpected n res r := by
      rw [htake, if_neg (by omega), if_pos ⟨ho, hi⟩]
    have hgap (ho : o = e) (hi : r.expect < i) : w.takeResult n res = if j.abortPending = true then w
        else w.takeDamage n e r.expect (i - r.expect) .gap res.block
          (List.replicate (i - r.expect) (.substitute chunkSize false) ++ [.take res]) := by
      rw [htake, if_neg (by omega), if_neg (by omega), if_neg (by omega), if_pos ho]
    have hlater (ho : e < o) (hf : r.found = true) : w.takeResult n res = if j.abortPending = true then w
        else w.takeDamage n e 65535 1 .missingFinal res.block [.substitute 0 true, .take res] := by
      rw [htake, if_neg (by omega), if_neg (by omega), if_neg (by rw [hf]; nofun), if_neg (show ¬o = e by omega)]
    have hcorrupt (ho : o = e) (hi : i = r.expect) {why : CorruptCause} (hr : res.result = .corrupt why) :
        w.takeResult n res = if j.abortPending = true then w
          else w.takeDamage n e i 1 .frameCorrupt res.block [.substitute size res.header.last] := by
      rw [hnext ho hi, ← ho]
      unfold W.takeExpected
      dsimp only
      rw [hr]
      dsimp only
      rw [isAborted_eq hj] <;> rfl
    have hmismatch (ho : o = e) (hi : i = r.expect) (hr : res.result = .mismatch) :
        w.takeResult n res = if j.abortPending = true then w
          else w.takeDamage n e i 1 .crcMismatch res.block [.substitute size res.header.last] := by
      rw [hnext ho hi, ← ho]
      unfold W.takeExpected
      dsimp only
      rw [hr]
      dsimp only
      rw [isAborted_eq hj] <;> rfl
    have hgoes (hab : j.abortPending = false) : ¬j.abortPending = true := by rw [hab]; nofun
    refine ⟨fun why ho hi hr => hdamage fun hab => (hcorrupt ho hi hr).trans (if_neg (hgoes hab)),
      fun ho hi hr => hdamage fun hab => (hmismatch ho hi hr).trans (if_neg (hgoes hab)),
      fun ho hi => hdamage fun hab => (hgap ho hi).trans (if_neg (hgoes hab)),
      fun ho hf => hdamage fun hab => (hlater ho hf).trans (if_neg (hgoes hab)), ?_, ?_⟩
    · rintro hab (⟨ho, hf⟩ | ⟨ho, hi⟩ | ⟨ho, hi, hbytes⟩)
      · exact (hlater ho hf).trans (if_pos hab)
      · exact (hgap ho hi).trans (if_pos hab)
      · cases hr : res.result with
        | ok bytes => exact absurd hr (hbytes bytes)
        | corrupt why => exact (hcorrupt ho hi hr).trans (if_pos hab)
        | mismatch => exact (hmismatch ho hi hr).trans (if_pos hab)
    · intro ho hf
      rw [htake, if_neg (by omega), if_neg (by omega), if_pos ⟨ho, hf⟩]
      exact absentBefore_eq hj hp he _

end Sys2Proof.Machine

/-! PROOF. The claims law of R73 is not kept from every state that its hypotheses allow. They let a WAITING BACKUP keep a step of
a mount, which no run does (R82 clears it); a placement that meets early warning then makes it SPANNING, with its cartridge
mounted by that step, and without a drive. -/

namespace Sys2Proof.Machine

/-- A chunk frame without payload. -/
def bareChunkFrame : Frame :=
  { header := { kind := 1, last := false, continued := false, truncated := false, continues := false, rawLength := 0,
                payloadLength := 0, session := 1, object := 1, chunk := 0, crc := 0 },
    payload := [], secureNow := false }

/-- A BACKUP WAITING for a drive, bound to the stream of drive 0, with the Load of a mount left as its step. -/
def waitingWithStep : Job :=
  { W.admitted 1 1 .backup none (.pool 0)
      (.backup (startBackup { mode := .pass, gain := 0, storedRun := 0, skip := 0 } false)) [] with
    state := .waiting, waitReason := some .drive, stream := some .d0, mountStep := some .load }

/-- Its stream: attached, with one carry-over frame, for which no block may be opened on a cartridge of no data kind (R114). -/
def carryingStream : Stream :=
  { resetStream with job := some 1, attached := some { cartridge := 0, nextIndex := 0 }, carry := [bareChunkFrame] }

/-- The library with that job alone, before CARRY_PLACEMENT_RESUME. -/
def beforeEarlyWarning : State :=
  { State.reset with
    pending := [.carryPlacementResume .d0],
    lib := { State.reset.lib with
      js := { State.reset.lib.js with jobs := [waitingWithStep] }, streams := ⟨carryingStream, resetStream⟩ } }

/-- The step makes the job SPANNING and leaves its mount step and its drive as they are. -/
theorem earlyWarning_spans : (match step beforeEarlyWarning with
    | .next t => t.lib.js.jobs.map fun j => (j.kind, j.state, j.mountStep, j.drive)
    | _ => []) = [(.backup, .spanning, some .load, none)] := by decide

theorem waitingWithStep_fitsKind : waitingWithStep.FitsKind where
  progress := rfl
  target := rfl
  mounted h := by
    rcases h with (h | h | ⟨-, h⟩) | ⟨h | ⟨h, -⟩, -⟩ <;> cases h
  mountDone h := by
    rcases h with h | h | ⟨-, h⟩ <;> cases h
  readers _ := ⟨nofun, rfl, rfl⟩
  ends _ _ h := by cases h
  truncEnds b x r hb h := by
    obtain rfl := Progress.backup.inj hb
    cases h

theorem waitingWithStep_holdsRightly : waitingWithStep.HoldsRightly where
  nothing _ := ⟨rfl, rfl⟩
  finished h := by cases h
  cleaning h := by cases h
  bound h := by
    rcases h with h | h | ⟨-, h⟩ <;> cases h
  pins := List.nodup_nil

theorem beforeEarlyWarning_claimsLaw : beforeEarlyWarning.lib.ClaimsLaw where
  ids := List.nodup_singleton 1
  drives d n h := by cases d <;> cases h
  carts i c n h := absurd h (reset_noCartridge i c)
  streams d n h := by
    cases d with
    | d0 =>
      obtain rfl := Option.some.inj h
      exact ⟨waitingWithStep, List.mem_singleton_self _, rfl, rfl, rfl⟩
    | d1 => cases h
  jobDrives j hj d h := by
    obtain rfl := List.mem_singleton.1 hj
    cases h
  jobStreams j hj d h := by
    obtain rfl := List.mem_singleton.1 hj
    obtain rfl := Option.some.inj h
    rfl
  holds j hj := by
    obtain rfl := List.mem_singleton.1 hj
    exact waitingWithStep_holdsRightly
  kinds j hj := by
    obtain rfl := List.mem_singleton.1 hj
    exact waitingWithStep_fitsKind
  reading d _ := by cases d <;> exact ⟨rfl, rfl, rfl⟩

theorem beforeEarlyWarning_elementsSound : beforeEarlyWarning.lib.ElementsSound where
  queue := reset_elementsSound.queue
  current := reset_elementsSound.current
  scan := reset_elementsSound.scan
  heldMoves := reset_elementsSound.heldMoves
  pickedFrom := reset_elementsSound.pickedFrom
  interrupted := reset_elementsSound.interrupted

theorem beforeEarlyWarning_cartridgeLaw : beforeEarlyWarning.lib.CartridgeLaw where
  absent := reset_cartridgeLaw.absent
  inSlot := reset_cartridgeLaw.inSlot
  inMail := reset_cartridgeLaw.inMail
  inDrive := reset_cartridgeLaw.inDrive
  inPicker := reset_cartridgeLaw.inPicker
  home := reset_cartridgeLaw.home
  holder := reset_cartridgeLaw.holder
  reserved := reset_cartridgeLaw.reserved
  mail := reset_cartridgeLaw.mail
  port := reset_cartridgeLaw.port
  picker := reset_cartridgeLaw.picker

/-- Refutes O10: a BACKUP that waits with a mount step left is SPANNING after the step, its cartridge mounted by that step, and
holds no drive. -/
theorem not_everyStepKeepsTheClaimsLaw : ¬ Obligations.EveryStepKeepsTheClaimsLaw := by
  rintro ⟨h, -⟩
  have hspans := earlyWarning_spans
  obtain ⟨t, ht⟩ : ∃ t, step beforeEarlyWarning = .next t := ⟨_, rfl⟩
  rw [ht] at hspans
  have hbounds : beforeEarlyWarning.lib.inBounds :=
    ⟨by decide, Nat.zero_le _, Nat.zero_le _, Nat.zero_le _, Nat.zero_le _, Nat.le_refl 1, by decide⟩
  have hlaw := h _ t hbounds ⟨rfl, rfl, rfl⟩ beforeEarlyWarning_elementsSound beforeEarlyWarning_cartridgeLaw
    beforeEarlyWarning_claimsLaw ht
  obtain ⟨j, hjobs, hj⟩ := List.map_eq_singleton_iff.1 hspans
  obtain ⟨hkind, hstate, hstep, hdrive⟩ : j.kind = .backup ∧ j.state = .spanning ∧ j.mountStep = some .load ∧ j.drive = none := by
    simpa using hj
  have hmounted := (hlaw.kinds j (hjobs ▸ List.mem_singleton_self j)).mounted (.inr ⟨.inr ⟨hstate, hkind⟩, .inl hstep⟩)
  rw [hdrive] at hmounted
  exact Bool.false_ne_true hmounted.1

end Sys2Proof.Machine

/-! PROOF. Law R5 as a law of places. A cartridge is located at an element, and the element holds it; between two writes of one
step an element's content may still be to be written (the gap), and a record may be carried without an element that holds it (the
record adrift). What the Cartridge Table, the ports and the changer do to a cartridge is a chain of such steps, and with no gap
and nothing adrift the law is Law R5. -/

namespace Sys2Proof.Machine

/-- Law R5 over what it speaks of: where a record is located and at home, and what an element holds, is reserved for, and is. -/
structure PlaceLaw (gap : Option Element) (adrift : Option Nat) (loc : Nat → Option Element) (home : Nat → Option Nat)
    (hold resv : Element → Option Nat) (state : Element → SlotState) : Prop where
  located : ∀ i e, loc i = some e → Element.inLibrary e ∧ ((hold e = some i ∧ gap ≠ some e) ∨ adrift = some i)
  held : ∀ e i, Element.inLibrary e → gap ≠ some e → hold e = some i → loc i = some e
  homed : ∀ i n, home i = some n → Element.inLibrary (.slot n) ∧
    (loc i = some (.slot n) ∨ (isAway (loc i) ∧ gap ≠ some (.slot n) ∧ resv (.slot n) = some i))
  ofSlot : ∀ i n, loc i = some (.slot n) → home i = some n
  kept : ∀ n i, Element.inLibrary (.slot n) → gap ≠ some (.slot n) → resv (.slot n) = some i → isAway (loc i) ∧ home i = some n
  mail : gap ≠ some .mail → resv .mail = none
  alone : ∀ e i, Element.isScanned e → gap ≠ some e → hold e = some i → resv e = none
  occupied : ∀ e i, Element.isScanned e → gap ≠ some e → hold e = some i → state e = .occupied ∨ state e = .unknown
  reserved : ∀ e i, Element.isScanned e → gap ≠ some e → resv e = some i → state e = .reserved ∨ state e = .unknown
  afloat : ∀ i, adrift = some i → isAway (loc i)

namespace PlaceLaw

variable {gap : Option Element} {adrift : Option Nat} {loc loc' : Nat → Option Element} {home home' : Nat → Option Nat}
  {hold hold' resv resv' : Element → Option Nat} {state state' : Element → SlotState}

theorem scanned_inLibrary {e : Element} (h : Element.isScanned e) : Element.inLibrary e := by
  cases e <;> simp_all [Element.isScanned, Element.inLibrary]

theorem isScanned_cases {e : Element} (h : Element.isScanned e) : (∃ n, e = .slot n) ∨ e = .mail := by
  cases e with
  | slot n => exact .inl ⟨n, rfl⟩
  | mail => exact .inr rfl
  | drive d => exact h.elim
  | picker => exact h.elim

theorem homeAt_eq_some (e : Element) (n : Nat) : W.homeAt e = some n ↔ e = .slot n := by
  cases e <;> simp [W.homeAt]

theorem slot_isScanned {n : Nat} (h : Element.inLibrary (.slot n)) : Element.isScanned (.slot n) := h

theorem mail_isScanned : Element.isScanned .mail := trivial

theorem picker_inLibrary : Element.inLibrary .picker := trivial

theorem not_isScanned_drive (d : Drive) : ¬Element.isScanned (.drive d) := id

theorem not_isScanned_picker : ¬Element.isScanned .picker := id

theorem not_away_slot (n : Nat) : ¬isAway (some (.slot n)) := by
  rintro (h | ⟨d, h⟩) <;> cases h

theorem not_away_mail : ¬isAway (some .mail) := by
  rintro (h | ⟨d, h⟩) <;> cases h

theorem not_away_none : ¬isAway none := by
  rintro (h | ⟨d, h⟩) <;> cases h

theorem away_inLibrary {e : Element} (h : isAway (some e)) : Element.inLibrary e := by
  rcases h with h | ⟨d, h⟩ <;> cases h <;> trivial

theorem away_picker : isAway (some .picker) := .inl rfl

theorem away_drive (d : Drive) : isAway (some (.drive d)) := .inr ⟨d, rfl⟩

/-- A slot that holds something or is reserved may become UNKNOWN. -/
theorem congr (h : PlaceLaw gap adrift loc home hold resv state) (hl : ∀ i, loc' i = loc i) (hh : ∀ i, home' i = home i)
    (hH : ∀ e, Element.inLibrary e → hold' e = hold e) (hR : ∀ e, Element.isScanned e → resv' e = resv e)
    (hS : ∀ e, Element.isScanned e → (hold e).isSome = true → state' e = state e ∨ state' e = .occupied ∨ state' e = .unknown)
    (hS' : ∀ e, Element.isScanned e → (resv e).isSome = true → state' e = state e ∨ state' e = .reserved ∨ state' e = .unknown) :
    PlaceLaw gap adrift loc' home' hold' resv' state' := by
  obtain ⟨h1, h2, h3, h4, h5, hm, h6, h7, h8, ha⟩ := h
  constructor <;> grind [scanned_inLibrary, isScanned_cases, mail_isScanned, slot_isScanned]

/-- A record goes absent: the element it was at is a gap, and the slot reserved for it is no longer (R10). -/
theorem vacate {i : Nat} {e : Element} (h : PlaceLaw none adrift loc home hold resv state) (hi : loc i = some e)
    (hi' : adrift ≠ some i) (hl : ∀ k, loc' k = if k = i then none else loc k) (hh : ∀ k, home' k = if k = i then none else home k)
    (hH : ∀ x, Element.inLibrary x → hold' x = hold x)
    (hR : ∀ x, Element.isScanned x → resv' x = if resv x = some i then none else resv x)
    (hS : ∀ x, Element.isScanned x → resv x ≠ some i → state' x = state x) :
    PlaceLaw (some e) adrift loc' home' hold' resv' state' := by
  obtain ⟨h1, h2, h3, h4, h5, hm, h6, h7, h8, ha⟩ := h
  constructor <;> grind [scanned_inLibrary, isScanned_cases, mail_isScanned, slot_isScanned, not_away_slot]

/-- The record adrift goes absent. -/
theorem sink {i : Nat} (h : PlaceLaw gap (some i) loc home hold resv state)
    (hl : ∀ k, loc' k = if k = i then none else loc k) (hh : ∀ k, home' k = if k = i then none else home k)
    (hn : ∀ e, Element.inLibrary e → gap ≠ some e → hold e ≠ some i)
    (hH : ∀ x, Element.inLibrary x → hold' x = hold x)
    (hR : ∀ x, Element.isScanned x → resv' x = if resv x = some i then none else resv x)
    (hS : ∀ x, Element.isScanned x → resv x ≠ some i → state' x = state x) :
    PlaceLaw gap none loc' home' hold' resv' state' := by
  obtain ⟨h1, h2, h3, h4, h5, hm, h6, h7, h8, ha⟩ := h
  constructor <;> grind [scanned_inLibrary, isScanned_cases, mail_isScanned, slot_isScanned, not_away_slot]

/-- The gap is written. -/
theorem inGap {e : Element} (h : PlaceLaw (some e) adrift loc home hold resv state) (hl : ∀ i, loc' i = loc i)
    (hh : ∀ i, home' i = home i) (hH : ∀ x, Element.inLibrary x → x ≠ e → hold' x = hold x)
    (hR : ∀ x, Element.isScanned x → x ≠ e → resv' x = resv x) (hS : ∀ x, Element.isScanned x → x ≠ e → state' x = state x) :
    PlaceLaw (some e) adrift loc' home' hold' resv' state' := by
  obtain ⟨h1, h2, h3, h4, h5, hm, h6, h7, h8, ha⟩ := h
  have hne : ∀ x, some e ≠ some x ↔ x ≠ e := fun x => ⟨fun h hx => h (congrArg some hx.symm), fun h hx => h (Option.some.inj hx).symm⟩
  simp only [hne] at h1 h2 h3 h5 hm h6 h7 h8
  constructor <;> grind [scanned_inLibrary, mail_isScanned, slot_isScanned]

/-- The gap is written with nothing in it. -/
theorem close {e : Element} (h : PlaceLaw (some e) adrift loc home hold resv state) (hl : ∀ i, loc' i = loc i)
    (hh : ∀ i, home' i = home i) (hH : ∀ x, Element.inLibrary x → hold' x = if x = e then none else hold x)
    (hR : ∀ x, Element.isScanned x → resv' x = if x = e then none else resv x)
    (hS : ∀ x, Element.isScanned x → x ≠ e → state' x = state x) : PlaceLaw none adrift loc' home' hold' resv' state' := by
  obtain ⟨h1, h2, h3, h4, h5, hm, h6, h7, h8, ha⟩ := h
  constructor <;> grind [scanned_inLibrary, isScanned_cases, mail_isScanned, slot_isScanned]

/-- An element with nothing in it can be written anew. -/
theorem opened {e : Element} (h : PlaceLaw none adrift loc home hold resv state) (hH : hold e = none)
    (hR : Element.isScanned e → resv e = none) : PlaceLaw (some e) adrift loc home hold resv state := by
  obtain ⟨h1, h2, h3, h4, h5, hm, h6, h7, h8, ha⟩ := h
  constructor <;> grind [scanned_inLibrary, isScanned_cases, mail_isScanned, slot_isScanned]

/-- An absent record comes to the gap. -/
theorem arrive {i : Nat} {e : Element} (h : PlaceLaw (some e) adrift loc home hold resv state) (he : Element.inLibrary e)
    (hi : loc i = none) (hi' : adrift ≠ some i) (hl : ∀ k, loc' k = if k = i then some e else loc k)
    (hh : ∀ k, home' k = if k = i then W.homeAt e else home k)
    (hH : ∀ x, Element.inLibrary x → hold' x = if x = e then some i else hold x)
    (hR : ∀ x, Element.isScanned x → resv' x = if x = e then none else resv x)
    (hS : ∀ x, Element.isScanned x → state' x = if x = e then .occupied else state x) :
    PlaceLaw none adrift loc' home' hold' resv' state' := by
  obtain ⟨h1, h2, h3, h4, h5, hm, h6, h7, h8, ha⟩ := h
  constructor <;> grind [scanned_inLibrary, isScanned_cases, mail_isScanned, slot_isScanned, not_away_none, homeAt_eq_some]

/-- A record that a slot is reserved for loses its home (R9). -/
theorem homeless {v : Nat} {e : Element} (h : PlaceLaw none adrift loc home hold resv state) (he : Element.isScanned e)
    (hv : resv e = some v) (hl : ∀ k, loc' k = loc k) (hh : ∀ k, home' k = if k = v then none else home k)
    (hH : ∀ x, Element.inLibrary x → hold' x = hold x) (hR : ∀ x, Element.isScanned x → resv' x = resv x)
    (hS : ∀ x, Element.isScanned x → state' x = state x) : PlaceLaw (some e) adrift loc' home' hold' resv' state' := by
  obtain ⟨h1, h2, h3, h4, h5, hm, h6, h7, h8, ha⟩ := h
  constructor <;> grind [scanned_inLibrary, isScanned_cases, mail_isScanned, slot_isScanned, not_away_slot]

/-- A homeless record takes an empty slot for its home (R9). -/
theorem rehome {i n : Nat} (h : PlaceLaw none adrift loc home hold resv state) (hn : Element.inLibrary (.slot n))
    (hi : isAway (loc i)) (hhome : home i = none) (hH0 : hold (.slot n) = none) (hR0 : resv (.slot n) = none)
    (hl : ∀ k, loc' k = loc k) (hh : ∀ k, home' k = if k = i then some n else home k)
    (hH : ∀ x, Element.inLibrary x → hold' x = hold x)
    (hR : ∀ x, Element.isScanned x → resv' x = if x = .slot n then some i else resv x)
    (hS : ∀ x, Element.isScanned x → state' x = if x = .slot n then .reserved else state x) :
    PlaceLaw none adrift loc' home' hold' resv' state' := by
  obtain ⟨h1, h2, h3, h4, h5, hm, h6, h7, h8, ha⟩ := h
  have hn' := @slot_isScanned
  constructor <;> grind [scanned_inLibrary, isScanned_cases, mail_isScanned, not_away_slot]

/-- The element that holds a record lets go of it. -/
theorem detach {i : Nat} {e : Element} (h : PlaceLaw none none loc home hold resv state) (hi : hold e = some i)
    (hd : isAway (some e)) (hH : ∀ x, Element.inLibrary x → hold' x = if x = e then none else hold x) :
    PlaceLaw none (some i) loc home hold' resv state := by
  obtain ⟨h1, h2, h3, h4, h5, hm, h6, h7, h8, ha⟩ := h
  constructor <;> grind [scanned_inLibrary, isScanned_cases, mail_isScanned, slot_isScanned, away_inLibrary]

/-- The picker's record counts as adrift, and the picker as a gap. -/
theorem unheld {i : Nat} (h : PlaceLaw none none loc home hold resv state) (hi : hold .picker = some i) :
    PlaceLaw (some .picker) (some i) loc home hold resv state := by
  obtain ⟨h1, h2, h3, h4, h5, hm, h6, h7, h8, ha⟩ := h
  constructor <;> grind [scanned_inLibrary, isScanned_cases, mail_isScanned, slot_isScanned, away_picker, picker_inLibrary]

/-- The picker or a drive takes the record adrift there; what it held is adrift. -/
theorem land {i : Nat} {e : Element} (h : PlaceLaw gap (some i) loc home hold resv state) (hg : gap ≠ some e) (hi : loc i = some e)
    (hd : ¬Element.isScanned e) (hH : ∀ x, Element.inLibrary x → hold' x = if x = e then some i else hold x) :
    PlaceLaw gap (hold e) loc home hold' resv state := by
  obtain ⟨h1, h2, h3, h4, h5, hm, h6, h7, h8, ha⟩ := h
  constructor <;> grind [scanned_inLibrary, isScanned_cases, mail_isScanned, slot_isScanned]

/-- The gap takes the record adrift there. -/
theorem landInGap {i : Nat} {e : Element} (h : PlaceLaw (some e) (some i) loc home hold resv state) (hi : loc i = some e)
    (hd : ¬Element.isScanned e) (hH : ∀ x, Element.inLibrary x → hold' x = if x = e then some i else hold x) :
    PlaceLaw none none loc home hold' resv state := by
  obtain ⟨h1, h2, h3, h4, h5, hm, h6, h7, h8, ha⟩ := h
  constructor <;> grind [scanned_inLibrary, isScanned_cases, mail_isScanned, slot_isScanned]

/-- The record adrift goes from the picker to a drive. -/
theorem drift {i : Nat} {e : Element} (h : PlaceLaw none (some i) loc home hold resv state) (hi : isAway (loc i))
    (he : isAway (some e)) (hn : ∀ x, Element.inLibrary x → hold x ≠ some i) (hl : ∀ k, loc' k = if k = i then some e else loc k) :
    PlaceLaw none (some i) loc' home hold resv state := by
  have hne : ∀ n, e ≠ .slot n := by
    rintro n rfl
    exact not_away_slot n he
  obtain ⟨h1, h2, h3, h4, h5, hm, h6, h7, h8, ha⟩ := h
  constructor <;> grind [away_inLibrary, scanned_inLibrary, isScanned_cases, mail_isScanned, slot_isScanned, not_away_slot]

/-- A record is taken from a storage slot, which is reserved for it (R8). -/
theorem liftSlot {i n : Nat} (h : PlaceLaw none none loc home hold resv state) (hi : loc i = some (.slot n))
    (hl : ∀ k, loc' k = if k = i then some .picker else loc k) (hh : ∀ k, home' k = home k)
    (hH : ∀ x, Element.inLibrary x → hold' x = if x = .slot n then none else hold x)
    (hR : ∀ x, Element.isScanned x → resv' x = if x = .slot n then some i else resv x)
    (hS : ∀ x, Element.isScanned x → state' x = if x = .slot n then .reserved else state x) :
    PlaceLaw none (some i) loc' home' hold' resv' state' := by
  obtain ⟨h1, h2, h3, h4, h5, hm, h6, h7, h8, ha⟩ := h
  constructor <;> grind [scanned_inLibrary, isScanned_cases, mail_isScanned, slot_isScanned, not_away_slot, away_picker, not_isScanned_picker, picker_inLibrary]

/-- A record is taken from M (R8). -/
theorem liftMail {i : Nat} (h : PlaceLaw none none loc home hold resv state) (hi : loc i = some .mail)
    (hl : ∀ k, loc' k = if k = i then some .picker else loc k) (hh : ∀ k, home' k = home k)
    (hH : ∀ x, Element.inLibrary x → hold' x = if x = .mail then none else hold x)
    (hR : ∀ x, Element.isScanned x → resv' x = if x = .mail then none else resv x)
    (hS : ∀ x, Element.isScanned x → x ≠ .mail → state' x = state x) :
    PlaceLaw none (some i) loc' home' hold' resv' state' := by
  obtain ⟨h1, h2, h3, h4, h5, hm, h6, h7, h8, ha⟩ := h
  constructor <;> grind [scanned_inLibrary, isScanned_cases, mail_isScanned, slot_isScanned, not_away_mail, away_picker, picker_inLibrary]

/-- A record is taken from a drive, whose port is told later (R8). -/
theorem liftDrive {i : Nat} {d : Drive} (h : PlaceLaw none none loc home hold resv state) (hi : loc i = some (.drive d))
    (hl : ∀ k, loc' k = if k = i then some .picker else loc k) :
    PlaceLaw (some (.drive d)) (some i) loc' home hold resv state := by
  obtain ⟨h1, h2, h3, h4, h5, hm, h6, h7, h8, ha⟩ := h
  constructor <;> grind [scanned_inLibrary, isScanned_cases, mail_isScanned, slot_isScanned, away_drive, away_picker, picker_inLibrary]

/-- The record adrift comes to the gap, or to a slot that is free for it, and gives up another home (R8). -/
theorem stow {i : Nat} {e : Element} (h : PlaceLaw gap (some i) loc home hold resv state) (he : Element.isScanned e)
    (hg : gap = some e ∨ (gap = none ∧ hold e = none ∧ resv e = some i))
    (hn : ∀ x, Element.inLibrary x → hold x ≠ some i)
    (hl : ∀ k, loc' k = if k = i then some e else loc k) (hh : ∀ k, home' k = if k = i then W.homeAt e else home k)
    (hH : ∀ x, Element.inLibrary x → hold' x = if x = e then some i else hold x)
    (hR : ∀ x, Element.isScanned x → resv' x = if x = e ∨ resv x = some i then none else resv x)
    (hS : ∀ x, Element.isScanned x → x ≠ e → resv x ≠ some i → state' x = state x) (hse : state' e = .occupied) :
    PlaceLaw none none loc' home' hold' resv' state' := by
  obtain ⟨h1, h2, h3, h4, h5, hm, h6, h7, h8, ha⟩ := h
  constructor <;> grind [scanned_inLibrary, isScanned_cases, mail_isScanned, slot_isScanned, not_away_slot, homeAt_eq_some]

/-- The record adrift at the picker is merged into an absent one (R16). -/
theorem merge {i y : Nat} (h : PlaceLaw gap (some i) loc home hold resv state) (hy : loc y = none)
    (hn : ∀ x, Element.inLibrary x → gap ≠ some x → hold x ≠ some i)
    (hl : ∀ k, loc' k = if k = i then none else if k = y then some .picker else loc k)
    (hh : ∀ k, home' k = if k = i then none else if k = y then home i else home k)
    (hH : ∀ x, Element.inLibrary x → hold' x = hold x)
    (hR : ∀ x, Element.isScanned x → resv' x = if resv x = some i then some y else resv x)
    (hS : ∀ x, Element.isScanned x → state' x = state x) : PlaceLaw gap (some y) loc' home' hold' resv' state' := by
  obtain ⟨h1, h2, h3, h4, h5, hm, h6, h7, h8, ha⟩ := h
  constructor <;> grind [scanned_inLibrary, isScanned_cases, mail_isScanned, slot_isScanned, not_away_slot, away_picker, not_away_none, picker_inLibrary]

end PlaceLaw

end Sys2Proof.Machine

/-! PROOF. The law of places over a working state: its form of Law R5, and what each operation of the Cartridge Table does to it
(R5, R8 to R16). -/

namespace Sys2Proof.Machine

/-- The record that an element is known to hold. -/
def Contents.record : Contents → Option Nat
  | .cart i => some i
  | .none => Option.none
  | .untracked => Option.none

namespace W

/-- What an element holds: by its slot record, its port's cartridge, or the picker's contents. -/
def holds (w : W) : Element → Option Nat
  | .slot n => (w.slotAt (.slot n)).holder
  | .mail => (w.slotAt .mail).holder
  | .drive d => (w.port d).cartridge.record
  | .picker => w.cc.picker.record

/-- What a slot is reserved for. -/
def resv (w : W) (e : Element) : Option Nat := (w.slotAt e).reservedFor

/-- A slot's state. -/
def slotState (w : W) (e : Element) : SlotState := (w.slotAt e).state

/-- Law R5 over a working state, but for a gap and a record adrift; an absent record has no claim; the tables are whole. -/
structure Placed (gap : Option Element) (adrift : Option Nat) (w : W) : Prop where
  law : PlaceLaw gap adrift w.locationOf w.homeOf w.holds w.resv w.slotState
  claims : ∀ i, w.locationOf i = none → w.claimOf i = none
  slots : w.ct.slots.length = 40
  carts : w.ct.carts.length = 64

end W

/-! ### Law R5 is the law without gap -/

theorem cart_eq_some {w : W} {i : Nat} {c : CartRec} : w.cart i = some c ↔ w.ct.carts[i]? = some (some c) := by
  simp only [W.cart, List.getD_eq_getElem?_getD]
  cases w.ct.carts[i]? <;> simp

theorem locationOf_eq_some {w : W} {i : Nat} {e : Element} :
    w.locationOf i = some e ↔ ∃ c, w.ct.carts[i]? = some (some c) ∧ c.location = some e := by
  simp only [W.locationOf, Option.bind_eq_some_iff, cart_eq_some]

theorem homeOf_eq_some {w : W} {i n : Nat} :
    w.homeOf i = some n ↔ ∃ c, w.ct.carts[i]? = some (some c) ∧ c.home = some n := by
  simp only [W.homeOf, Option.bind_eq_some_iff, cart_eq_some]

theorem claimOf_eq_some {w : W} {i n : Nat} :
    w.claimOf i = some n ↔ ∃ c, w.ct.carts[i]? = some (some c) ∧ c.claim = some n := by
  simp only [W.claimOf, Option.bind_eq_some_iff, cart_eq_some]

theorem locationOf_of_record {w : W} {i : Nat} {c : CartRec} (h : w.ct.carts[i]? = some (some c)) : w.locationOf i = c.location := by
  rw [W.locationOf, cart_eq_some.2 h, Option.bind_some]

theorem homeOf_of_record {w : W} {i : Nat} {c : CartRec} (h : w.ct.carts[i]? = some (some c)) : w.homeOf i = c.home := by
  rw [W.homeOf, cart_eq_some.2 h, Option.bind_some]

theorem claimOf_of_record {w : W} {i : Nat} {c : CartRec} (h : w.ct.carts[i]? = some (some c)) : w.claimOf i = c.claim := by
  rw [W.claimOf, cart_eq_some.2 h, Option.bind_some]

theorem slot_inLibrary_iff (n : Nat) : Element.inLibrary (.slot n) ↔ 1 ≤ n ∧ n ≤ 40 := Iff.rfl

theorem slotAt_of_getElem? {w : W} {k : Nat} {r : SlotRec} (h : w.ct.slots[k]? = some r) : w.slotAt (.slot (k + 1)) = r := by
  simp only [W.slotAt, Nat.add_sub_cancel, List.getD_eq_getElem?_getD, h, Option.getD_some]

theorem getElem?_of_slot {w : W} (hlen : w.ct.slots.length = 40) {n : Nat} (hn : Element.inLibrary (.slot n)) :
    w.ct.slots[n - 1]? = some (w.slotAt (.slot n)) := by
  have hlt : n - 1 < w.ct.slots.length := by
    obtain ⟨h1, h2⟩ := hn
    omega
  simp only [W.slotAt, List.getD_eq_getElem?_getD, List.getElem?_eq_getElem hlt, Option.getD_some]

theorem Contents.record_eq_some {c : Contents} {i : Nat} : c.record = some i ↔ c = .cart i := by
  cases c <;> simp [Contents.record]

theorem W.holds_drive_iff {w : W} {d : Drive} {i : Nat} : w.holds (.drive d) = some i ↔ (w.ports.get d).cartridge = .cart i :=
  Contents.record_eq_some

theorem W.holds_picker_iff {w : W} {i : Nat} : w.holds .picker = some i ↔ w.cc.picker = .cart i := Contents.record_eq_some

/-- Law R5 is the law of places. -/
theorem W.Placed.cartridgeLaw {w : W} (h : w.Placed none none) : w.toLib.CartridgeLaw := by
  obtain ⟨⟨h1, h2, h3, h4, h5, hm, h6, h7, h8, -⟩, hc, hslots, -⟩ := h
  have hlib : ∀ {k : Nat} {r : SlotRec}, w.ct.slots[k]? = some r → Element.inLibrary (.slot (k + 1)) := by
    intro k r hk
    have := (List.getElem?_eq_some_iff.1 hk).1
    exact ⟨by omega, by omega⟩
  constructor
  · intro i c hi hl
    have hloc : w.locationOf i = none := (locationOf_of_record hi).trans hl
    refine ⟨?_, (claimOf_of_record hi).symm.trans (hc i hloc)⟩
    by_contra hne
    obtain ⟨n, hn⟩ := Option.ne_none_iff_exists'.1 hne
    obtain ⟨-, h | ⟨ha, -⟩⟩ := h3 i n ((homeOf_of_record hi).trans hn)
    · rw [hloc] at h
      cases h
    · rw [hloc] at ha
      exact PlaceLaw.not_away_none ha
  · intro i c n hi hl
    have hloc : w.locationOf i = some (.slot n) := (locationOf_of_record hi).trans hl
    obtain ⟨hn, ⟨hh, -⟩ | h⟩ := h1 i _ hloc
    · exact ⟨hn.1, (homeOf_of_record hi).symm.trans (h4 i n hloc), _, getElem?_of_slot hslots hn, hh, h7 _ i hn nofun hh⟩
    · cases h
  · intro i c hi hl
    have hloc : w.locationOf i = some .mail := (locationOf_of_record hi).trans hl
    obtain ⟨hn, ⟨hh, -⟩ | h⟩ := h1 i _ hloc
    · refine ⟨?_, hh, h7 .mail i hn nofun hh⟩
      by_contra hne
      obtain ⟨n, hn⟩ := Option.ne_none_iff_exists'.1 hne
      obtain ⟨-, h | ⟨ha, -⟩⟩ := h3 i n ((homeOf_of_record hi).trans hn)
      · rw [hloc] at h
        cases h
      · rw [hloc] at ha
        exact PlaceLaw.not_away_mail ha
    · cases h
  · intro i c d hi hl
    obtain ⟨-, ⟨hh, -⟩ | h⟩ := h1 i _ ((locationOf_of_record hi).trans hl)
    · exact W.holds_drive_iff.1 hh
    · cases h
  · intro i c hi hl
    obtain ⟨-, ⟨hh, -⟩ | h⟩ := h1 i _ ((locationOf_of_record hi).trans hl)
    · exact W.holds_picker_iff.1 hh
    · cases h
  · intro i c n hi ha hh
    have hloc := locationOf_of_record hi
    obtain ⟨hn, h | ⟨-, -, hr⟩⟩ := h3 i n ((homeOf_of_record hi).trans hh)
    · rw [← hloc, h] at ha
      exact absurd ha (PlaceLaw.not_away_slot n)
    · exact ⟨hn.1, _, getElem?_of_slot hslots hn, hr, h8 _ i hn nofun hr⟩
  · intro k r i hk hr
    have hs := slotAt_of_getElem? hk
    have hn := hlib hk
    have hh : w.holds (.slot (k + 1)) = some i := by rw [W.holds, hs, hr]
    refine ⟨?_, locationOf_eq_some.1 (h2 _ i hn nofun hh)⟩
    have := h6 (.slot (k + 1)) i hn nofun hh
    rwa [W.resv, hs] at this
  · intro k r i hk hr
    have hs := slotAt_of_getElem? hk
    obtain ⟨ha, hh⟩ := h5 (k + 1) i (hlib hk) nofun (by rw [W.resv, hs, hr])
    obtain ⟨c, hc, hch⟩ := homeOf_eq_some.1 hh
    exact ⟨c, hc, (locationOf_of_record hc) ▸ ha, hch⟩
  · exact ⟨hm nofun, fun i hi => locationOf_eq_some.1 (h2 .mail i trivial nofun hi)⟩
  · exact fun d i hi => locationOf_eq_some.1 (h2 (.drive d) i trivial nofun (W.holds_drive_iff.2 hi))
  · exact fun i hi => locationOf_eq_some.1 (h2 .picker i trivial nofun (W.holds_picker_iff.2 hi))

theorem W.Placed.of_cartridgeLaw {w : W} (h : w.toLib.CartridgeLaw) (hslots : w.ct.slots.length = 40)
    (hcarts : w.ct.carts.length = 64) : w.Placed none none := by
  have hslot : ∀ {n : Nat}, Element.inLibrary (.slot n) → w.ct.slots[n - 1]? = some (w.slotAt (.slot n)) ∧ n - 1 + 1 = n :=
    fun hn => ⟨getElem?_of_slot hslots hn, by have := hn.1; omega⟩
  have hrange : ∀ {n : Nat} {r : SlotRec}, 1 ≤ n → w.ct.slots[n - 1]? = some r →
      Element.inLibrary (.slot n) ∧ w.slotAt (.slot n) = r := by
    intro n r h1 hr
    have hlt := (List.getElem?_eq_some_iff.1 hr).1
    have hn : Element.inLibrary (.slot n) := ⟨h1, by omega⟩
    exact ⟨hn, Option.some.inj ((hslot hn).1.symm.trans hr)⟩
  refine ⟨⟨?_, ?_, ?_, ?_, ?_, ?_, ?_, ?_, ?_, nofun⟩, ?_, hslots, hcarts⟩
  · intro i e hl
    obtain ⟨c, hc, he⟩ := locationOf_eq_some.1 hl
    cases e with
    | slot n =>
      obtain ⟨h1, -, r, hr, hh, -⟩ := h.inSlot i c n hc he
      obtain ⟨hn, hs⟩ := hrange h1 hr
      exact ⟨hn, .inl ⟨by rw [W.holds, hs, hh], nofun⟩⟩
    | mail => exact ⟨trivial, .inl ⟨(h.inMail i c hc he).2.1, nofun⟩⟩
    | drive d => exact ⟨trivial, .inl ⟨W.holds_drive_iff.2 (h.inDrive i c d hc he), nofun⟩⟩
    | picker => exact ⟨trivial, .inl ⟨W.holds_picker_iff.2 (h.inPicker i c hc he), nofun⟩⟩
  · intro e i he _ hh
    cases e with
    | slot n =>
      obtain ⟨hr, hn⟩ := hslot he
      have := (h.holder (n - 1) _ i hr hh).2
      rw [hn] at this
      exact locationOf_eq_some.2 this
    | mail => exact locationOf_eq_some.2 (h.mail.2 i hh)
    | drive d => exact locationOf_eq_some.2 (h.port d i (W.holds_drive_iff.1 hh))
    | picker => exact locationOf_eq_some.2 (h.picker i (W.holds_picker_iff.1 hh))
  · intro i n hh
    obtain ⟨c, hc, hch⟩ := homeOf_eq_some.1 hh
    have hloc := locationOf_of_record hc
    cases hl : c.location with
    | none =>
      have := (h.absent i c hc hl).1
      rw [hch] at this
      cases this
    | some e =>
      have haway : isAway c.location → Element.inLibrary (.slot n) ∧
          (w.locationOf i = some (.slot n) ∨ (isAway (w.locationOf i) ∧ none ≠ some (Element.slot n) ∧ w.resv (.slot n) = some i)) := by
        intro ha
        obtain ⟨h1, r, hr, hres, -⟩ := h.home i c n hc ha hch
        obtain ⟨hn, hs⟩ := hrange h1 hr
        exact ⟨hn, .inr ⟨hloc ▸ ha, nofun, by rw [W.resv, hs, hres]⟩⟩
      cases e with
      | slot k =>
        obtain ⟨h1, hk, r, hr, -⟩ := h.inSlot i c k hc hl
        obtain rfl := Option.some.inj (hch.symm.trans hk)
        exact ⟨(hrange h1 hr).1, .inl (hloc.trans hl)⟩
      | mail =>
        have := (h.inMail i c hc hl).1
        rw [hch] at this
        cases this
      | drive d => exact haway (hl ▸ PlaceLaw.away_drive d)
      | picker => exact haway (hl ▸ PlaceLaw.away_picker)
  · intro i n hl
    obtain ⟨c, hc, he⟩ := locationOf_eq_some.1 hl
    exact (homeOf_of_record hc).trans (h.inSlot i c n hc he).2.1
  · intro n i hn _ hr
    obtain ⟨hs, hk⟩ := hslot hn
    obtain ⟨c, hc, ha, hh⟩ := h.reserved (n - 1) _ i hs hr
    rw [hk] at hh
    exact ⟨locationOf_of_record hc ▸ ha, (homeOf_of_record hc).trans hh⟩
  · exact fun _ => h.mail.1
  · intro e i he _ hh
    cases e with
    | slot n => exact (h.holder (n - 1) _ i (hslot he).1 hh).1
    | mail => exact h.mail.1
    | drive d => exact he.elim
    | picker => exact he.elim
  · intro e i he _ hh
    cases e with
    | slot n =>
      obtain ⟨hs, hn⟩ := hslot he
      obtain ⟨-, c, hc, hl⟩ := h.holder (n - 1) _ i hs hh
      obtain ⟨-, -, r, hr, -, hst⟩ := h.inSlot i c _ hc hl
      rw [Nat.add_sub_cancel] at hr
      obtain rfl := Option.some.inj (hs.symm.trans hr)
      exact hst
    | mail =>
      obtain ⟨c, hc, hl⟩ := h.mail.2 i hh
      exact (h.inMail i c hc hl).2.2
    | drive d => exact he.elim
    | picker => exact he.elim
  · intro e i he _ hr
    cases e with
    | slot n =>
      obtain ⟨hs, hn⟩ := hslot he
      obtain ⟨c, hc, ha, hh⟩ := h.reserved (n - 1) _ i hs hr
      obtain ⟨-, r, hr', -, hst⟩ := h.home i c _ hc ha hh
      rw [Nat.add_sub_cancel] at hr'
      obtain rfl := Option.some.inj (hs.symm.trans hr')
      exact hst
    | mail =>
      have := h.mail.1
      rw [show w.ct.mail.reservedFor = some i from hr] at this
      cases this
    | drive d => exact he.elim
    | picker => exact he.elim
  · intro i hl
    by_contra hne
    obtain ⟨n, hn⟩ := Option.ne_none_iff_exists'.1 hne
    obtain ⟨c, hc, hcl⟩ := claimOf_eq_some.1 hn
    have := (h.absent i c hc ((locationOf_of_record hc).symm.trans hl)).2
    rw [hcl] at this
    cases this

end Sys2Proof.Machine

/-! PROOF. What the Cartridge Table's operations do to the law of places (R5, R8 to R16). -/

namespace Sys2Proof.Machine

namespace W

/-! ### Views -/

theorem Placed.of_tables {v w : W} {g : Option Element} {a : Option Nat} (h : w.Placed g a) (hct : v.ct = w.ct)
    (hp : ∀ d, (v.port d).cartridge = (w.port d).cartridge) (hk : v.cc.picker = w.cc.picker) : v.Placed g a := by
  have hcart : ∀ i, v.cart i = w.cart i := fun i => by simp only [cart, hct]
  have hslot : ∀ e, v.slotAt e = w.slotAt e := slotAt_of_ct hct
  refine ⟨h.law.congr (locationOf_of_ct hct) (fun i => by simp only [homeOf, hcart]) ?_ (fun e _ => by simp only [resv, hslot])
    (fun e _ _ => .inl (by simp only [slotState, hslot])) (fun e _ _ => .inl (by simp only [slotState, hslot])), ?_, by rw [hct, h.slots], by rw [hct, h.carts]⟩
  · intro e _
    cases e with
    | slot n => simp only [holds, hslot]
    | mail => simp only [holds, hslot]
    | drive d => simp only [holds, hp]
    | picker => simp only [holds, hk]
  · intro i hi
    have := h.claims i ((locationOf_of_ct hct i).symm.trans hi)
    simpa only [claimOf, hcart] using this

theorem Placed.note {w : W} {g : Option Element} {a : Option Nat} (h : w.Placed g a) (n : Notice) : (w.note n).Placed g a :=
  h.of_tables rfl (fun _ => rfl) rfl

theorem Placed.emit {w : W} {g : Option Element} {a : Option Nat} (h : w.Placed g a) (s : Signal) : (w.emit s).Placed g a :=
  h.of_tables rfl (fun _ => rfl) rfl

theorem Placed.wantDispatch {w : W} {g : Option Element} {a : Option Nat} (h : w.Placed g a) : w.wantDispatch.Placed g a :=
  h.of_tables rfl (fun _ => rfl) rfl

theorem Placed.wantRehome {w : W} {g : Option Element} {a : Option Nat} (h : w.Placed g a) : w.wantRehome.Placed g a :=
  h.of_tables rfl (fun _ => rfl) rfl

/-- The scan's counts and the scan number are no part of the law. -/
theorem Placed.of_slots_carts {v w : W} {g : Option Element} {a : Option Nat} (h : w.Placed g a) (hs : v.ct.slots = w.ct.slots)
    (hc : v.ct.carts = w.ct.carts) (hm : v.ct.mail = w.ct.mail) (hp : ∀ d, (v.port d).cartridge = (w.port d).cartridge)
    (hk : v.cc.picker = w.cc.picker) : v.Placed g a := by
  have hcart : ∀ i, v.cart i = w.cart i := fun i => by simp only [cart, hc]
  have hslot : ∀ e, v.slotAt e = w.slotAt e := fun e => by cases e <;> simp only [slotAt, hs, hm]
  refine ⟨h.law.congr (fun i => by simp only [locationOf, hcart]) (fun i => by simp only [homeOf, hcart]) ?_
    (fun e _ => by simp only [resv, hslot]) (fun e _ _ => .inl (by simp only [slotState, hslot]))
    (fun e _ _ => .inl (by simp only [slotState, hslot])), ?_,
    by rw [hs, h.slots], by rw [hc, h.carts]⟩
  · intro e _
    cases e with
    | slot n => simp only [holds, hslot]
    | mail => simp only [holds, hslot]
    | drive d => simp only [holds, hp]
    | picker => simp only [holds, hk]
  · intro i hi
    have := h.claims i (by simpa only [locationOf, hcart] using hi)
    simpa only [claimOf, hcart] using this

theorem Placed.modTally {w : W} {g : Option Element} {a : Option Nat} (h : w.Placed g a) (f : ScanTally → ScanTally) :
    (w.modTally f).Placed g a :=
  h.of_slots_carts rfl rfl rfl (fun _ => rfl) rfl

section
variable {w : W} {i : Nat} {c : CartRec} (hc : w.cart i = some c) (f : CartRec → CartRec)
include hc

theorem locationOf_modCart (k : Nat) :
    (w.modCart i f).locationOf k = if k = i then (f c).location else w.locationOf k := by
  rw [locationOf, cart_modCart hc]
  split <;> rfl

theorem homeOf_modCart (k : Nat) : (w.modCart i f).homeOf k = if k = i then (f c).home else w.homeOf k := by
  rw [homeOf, cart_modCart hc]
  split <;> rfl

theorem claimOf_modCart (k : Nat) : (w.modCart i f).claimOf k = if k = i then (f c).claim else w.claimOf k := by
  rw [claimOf, cart_modCart hc]
  split <;> rfl

end

theorem modCart_tables (w : W) (i : Nat) (f : CartRec → CartRec) :
    (w.modCart i f).ct.slots = w.ct.slots ∧ (w.modCart i f).ct.mail = w.ct.mail ∧
      (w.modCart i f).ct.carts.length = w.ct.carts.length ∧ (w.modCart i f).ports = w.ports ∧ (w.modCart i f).cc = w.cc := by
  unfold modCart
  split
  · exact ⟨rfl, rfl, List.length_set, rfl, rfl⟩
  · exact ⟨rfl, rfl, rfl, rfl, rfl⟩

@[simp] theorem holds_modCart (w : W) (i : Nat) (f : CartRec → CartRec) (e : Element) : (w.modCart i f).holds e = w.holds e := by
  obtain ⟨-, -, -, hp, hcc⟩ := modCart_tables w i f
  cases e <;> simp only [holds, slotAt_modCart, port, hp, hcc]

@[simp] theorem resv_modCart (w : W) (i : Nat) (f : CartRec → CartRec) (e : Element) : (w.modCart i f).resv e = w.resv e := by
  simp only [resv, slotAt_modCart]

@[simp] theorem slotState_modCart (w : W) (i : Nat) (f : CartRec → CartRec) (e : Element) :
    (w.modCart i f).slotState e = w.slotState e := by
  simp only [slotState, slotAt_modCart]

theorem exists_cart_of_location {w : W} {i : Nat} {e : Element} (h : w.locationOf i = some e) :
    ∃ c, w.cart i = some c ∧ c.location = some e := Option.bind_eq_some_iff.1 h

theorem slotAt_putSlot {w : W} (hlen : w.ct.slots.length = 40) {e x : Element} (he : Element.isScanned e) (hx : Element.isScanned x)
    (r : SlotRec) : (w.putSlot e r).slotAt x = if x = e then r else w.slotAt x := by
  cases e with
  | slot n =>
    obtain ⟨h1, h40⟩ := he
    cases x with
    | slot k =>
      obtain ⟨hk1, hk40⟩ := hx
      by_cases hk : k = n
      · subst hk
        rw [if_pos rfl]
        exact slotAt_putSlot_same (by omega) r
      · rw [if_neg (fun h => hk (Element.slot.inj h))]
        exact slotAt_putSlot_other w r (by omega)
    | mail => rfl
    | drive d => exact hx.elim
    | picker => exact hx.elim
  | mail =>
    cases x with
    | slot k => rfl
    | mail => rfl
    | drive d => exact hx.elim
    | picker => exact hx.elim
  | drive d => exact he.elim
  | picker => exact he.elim

theorem putSlot_tables (w : W) (e : Element) (r : SlotRec) :
    (w.putSlot e r).ct.slots.length = w.ct.slots.length ∧ (w.putSlot e r).ct.carts = w.ct.carts ∧
      (w.putSlot e r).ports = w.ports ∧ (w.putSlot e r).cc = w.cc := by
  cases e with
  | slot n => exact ⟨List.length_set, rfl, rfl, rfl⟩
  | mail => exact ⟨rfl, rfl, rfl, rfl⟩
  | drive d => exact ⟨rfl, rfl, rfl, rfl⟩
  | picker => exact ⟨rfl, rfl, rfl, rfl⟩

theorem holds_eq_holder {w : W} {e : Element} (he : Element.isScanned e) : w.holds e = (w.slotAt e).holder := by
  cases e with
  | slot n => rfl
  | mail => rfl
  | drive d => exact he.elim
  | picker => exact he.elim

/-- A view of the holders from the slots' and the rest. -/
theorem holds_congr {v w : W} (hp : v.ports = w.ports) (hk : v.cc = w.cc) {e : Element} (he : ¬Element.isScanned e)
    (hl : Element.inLibrary e) : v.holds e = w.holds e := by
  cases e with
  | slot n => exact absurd hl he
  | mail => exact absurd trivial he
  | drive d => simp only [holds, port, hp]
  | picker => simp only [holds, hk]

section
variable {w : W} (hlen : w.ct.slots.length = 40) {e x : Element} (he : Element.isScanned e) (r : SlotRec)
include hlen he

theorem holds_putSlot (hx : Element.inLibrary x) : (w.putSlot e r).holds x = if x = e then r.holder else w.holds x := by
  by_cases hs : Element.isScanned x
  · rw [holds_eq_holder hs, holds_eq_holder hs, slotAt_putSlot hlen he hs]
    split <;> rfl
  · obtain ⟨-, -, hp, hk⟩ := putSlot_tables w e r
    rw [if_neg (show ¬x = e by rintro rfl; exact hs he)]
    exact holds_congr hp hk hs hx

theorem resv_putSlot (hx : Element.isScanned x) : (w.putSlot e r).resv x = if x = e then r.reservedFor else w.resv x := by
  rw [resv, slotAt_putSlot hlen he hx]
  split <;> rfl

theorem slotState_putSlot (hx : Element.isScanned x) :
    (w.putSlot e r).slotState x = if x = e then r.state else w.slotState x := by
  rw [slotState, slotAt_putSlot hlen he hx]
  split <;> rfl

end

@[simp] theorem homeOf_putSlot (w : W) (e : Element) (r : SlotRec) (i : Nat) : (w.putSlot e r).homeOf i = w.homeOf i := by
  simp only [homeOf, cart_putSlot]

@[simp] theorem claimOf_putSlot (w : W) (e : Element) (r : SlotRec) (i : Nat) : (w.putSlot e r).claimOf i = w.claimOf i := by
  simp only [claimOf, cart_putSlot]

/-! ### Records -/

section
variable {w : W} {g : Option Element} {a : Option Nat}

/-- A record's other fields are no part of the law. -/
theorem Placed.modCart (h : w.Placed g a) (i : Nat) (f : CartRec → CartRec)
    (hf : ∀ c, w.cart i = some c → (f c).location = c.location ∧ (f c).home = c.home ∧ (c.location = none → (f c).claim = c.claim)) :
    (w.modCart i f).Placed g a := by
  obtain ⟨hs, -, hl, -, -⟩ := modCart_tables w i f
  cases hc : w.cart i with
  | none => rwa [modCart_of_none hc]
  | some c =>
    obtain ⟨h1, h2, h3⟩ := hf c hc
    have hloc : w.locationOf i = c.location := by rw [locationOf, hc, Option.bind_some]
    refine ⟨h.law.congr ?_ ?_ (fun e _ => holds_modCart ..) (fun e _ => resv_modCart ..) (fun e _ _ => .inl (slotState_modCart ..))
      (fun e _ _ => .inl (slotState_modCart ..)),
      ?_, hs ▸ h.slots, hl.trans h.carts⟩
    · intro k
      rw [locationOf_modCart hc]
      split
      next e => rw [h1, e, hloc]
      · rfl
    · intro k
      rw [homeOf_modCart hc]
      split
      next e => rw [h2, e, homeOf, hc, Option.bind_some]
      · rfl
    · intro k hk
      rw [locationOf_modCart hc] at hk
      rw [claimOf_modCart hc]
      split
      next e =>
        rw [if_pos e, h1] at hk
        have := h.claims i (hloc.trans hk)
        rw [claimOf, hc, Option.bind_some] at this
        exact (h3 hk).trans this
      next e =>
        rw [if_neg e] at hk
        exact h.claims k hk

/-! ### A record goes absent (R10) -/

theorem releaseHome_tables (w : W) (i : Nat) :
    (w.releaseHome i).ct.slots.length = w.ct.slots.length ∧ (w.releaseHome i).ct.carts = w.ct.carts ∧
      (w.releaseHome i).ports = w.ports ∧ (w.releaseHome i).cc = w.cc := by
  have hp := fun n r => putSlot_tables w (.slot n) r
  unfold releaseHome
  split
  · exact ⟨rfl, rfl, rfl, rfl⟩
  · dsimp only
    (repeat' split)
    · exact hp _ _
    · exact hp _ _
    · exact ⟨rfl, rfl, rfl, rfl⟩

/-- What giving up a home leaves of a slot (R10). -/
theorem slotAt_releaseHome_law (h : w.Placed g a) (hg : ∀ e, Element.isScanned e → g ≠ some e) (i : Nat) {x : Element} (hx : Element.isScanned x) :
    ((w.releaseHome i).slotAt x).holder = (w.slotAt x).holder ∧
      ((w.releaseHome i).slotAt x).reservedFor = (if w.resv x = some i then none else w.resv x) ∧
      (w.resv x ≠ some i → ((w.releaseHome i).slotAt x).state = (w.slotAt x).state) := by
  have hkept : ∀ n, Element.inLibrary (.slot n) → w.resv (.slot n) = some i → w.homeOf i = some n := fun n hn hr =>
    (h.law.kept n i hn (hg _ hn) hr).2
  have hx' : w.resv x = some i → ∃ n, x = .slot n ∧ w.homeOf i = some n := by
    intro hr
    rcases PlaceLaw.isScanned_cases hx with ⟨n, rfl⟩ | rfl
    · exact ⟨n, rfl, hkept n hx hr⟩
    · rw [h.law.mail (hg _ hx)] at hr
      cases hr
  cases hh : w.homeOf i with
  | none =>
    have hne : w.resv x ≠ some i := by
      intro hr
      obtain ⟨n, -, hn⟩ := hx' hr
      rw [hh] at hn
      cases hn
    have heq : w.releaseHome i = w := by
      unfold releaseHome
      rw [show (w.cart i).bind CartRec.home = none from hh]
    rw [heq, if_neg hne]
    exact ⟨rfl, rfl, fun _ => rfl⟩
  | some n =>
    have hn : Element.inLibrary (.slot n) := (h.law.homed i n hh).1
    have heq : w.releaseHome i = if w.resv (.slot n) = some i then
        (if w.slotState (.slot n) = .reserved then w.emptySlot (.slot n)
         else w.putSlot (.slot n) { w.slotAt (.slot n) with reservedFor := none }) else w := by
      unfold releaseHome
      rw [show (w.cart i).bind CartRec.home = some n from hh]
      rfl
    by_cases hr : w.resv (.slot n) = some i
    · have hnone : (w.slotAt (.slot n)).holder = none := by
        by_contra hne
        obtain ⟨k, hk⟩ := Option.ne_none_iff_exists'.1 hne
        have := h.law.alone (.slot n) k hn (hg _ hn) hk
        rw [hr] at this
        cases this
      have hput : ∀ r : SlotRec, r.holder = none → r.reservedFor = none →
          (((w.putSlot (.slot n) r).slotAt x).holder = (w.slotAt x).holder ∧
            ((w.putSlot (.slot n) r).slotAt x).reservedFor = (if w.resv x = some i then none else w.resv x) ∧
            (w.resv x ≠ some i → ((w.putSlot (.slot n) r).slotAt x).state = (w.slotAt x).state)) := by
        intro r hr1 hr2
        rw [slotAt_putSlot h.slots (show Element.isScanned (.slot n) from hn) hx]
        by_cases hxn : x = .slot n
        · subst hxn
          rw [if_pos rfl, if_pos hr, hr1, hr2, hnone]
          exact ⟨rfl, rfl, fun hne => absurd hr hne⟩
        · have hne : w.resv x ≠ some i := by
            intro hxr
            obtain ⟨k, rfl, hk⟩ := hx' hxr
            rw [hh] at hk
            exact hxn (by rw [Option.some.inj hk])
          rw [if_neg hxn, if_neg hne]
          exact ⟨rfl, rfl, fun _ => rfl⟩
      rw [heq, if_pos hr]
      split
      · exact hput _ rfl rfl
      · exact hput _ hnone rfl
    · have hne : w.resv x ≠ some i := by
        intro hxr
        obtain ⟨k, rfl, hk⟩ := hx' hxr
        rw [hh] at hk
        obtain rfl := Option.some.inj hk
        exact hr hxr
      rw [heq, if_neg hr, if_neg hne]
      exact ⟨rfl, rfl, fun _ => rfl⟩

/-- The tables of a record gone absent. -/
theorem becomeAbsent_eq {i : Nat} {c : CartRec} (hc : w.cart i = some c) (hl : c.location ≠ none) :
    ∃ l : List Signal, w.becomeAbsent i =
      { (w.releaseHome i).modCart i (fun r => { r with location := none, home := none, claim := none }) with
        signals := l, dispatchDue := true } := by
  unfold becomeAbsent
  rw [hc]
  dsimp only
  rw [if_neg hl]
  cases c.claim with
  | none => exact ⟨_, rfl⟩
  | some n => exact ⟨_, rfl⟩

section
variable {i : Nat} (h : w.Placed g a) (hg : ∀ e, Element.isScanned e → g ≠ some e) {e : Element} (hl : w.locationOf i = some e)
include h hg hl

/-- What a record's going absent leaves of every view. -/
theorem becomeAbsent_views : (∀ k, (w.becomeAbsent i).locationOf k = if k = i then none else w.locationOf k) ∧
    (∀ k, (w.becomeAbsent i).homeOf k = if k = i then none else w.homeOf k) ∧
    (∀ k, (w.becomeAbsent i).claimOf k = if k = i then none else w.claimOf k) ∧
    (∀ x, Element.inLibrary x → (w.becomeAbsent i).holds x = w.holds x) ∧
    (∀ x, Element.isScanned x → (w.becomeAbsent i).resv x = if w.resv x = some i then none else w.resv x) ∧
    (∀ x, Element.isScanned x → w.resv x ≠ some i → (w.becomeAbsent i).slotState x = w.slotState x) ∧
    (w.becomeAbsent i).ct.slots.length = 40 ∧ (w.becomeAbsent i).ct.carts.length = 64 := by
  obtain ⟨c, hc, hcl⟩ := exists_cart_of_location hl
  obtain ⟨l, heq⟩ := becomeAbsent_eq hc (by rw [hcl]; nofun)
  obtain ⟨hslots, hcarts, hports, hcc⟩ := releaseHome_tables w i
  have hc' : (w.releaseHome i).cart i = some c := by rw [cart_releaseHome, hc]
  have hslot : ∀ x, (w.becomeAbsent i).slotAt x = (w.releaseHome i).slotAt x := fun x => by
    rw [heq, ← slotAt_modCart (w.releaseHome i) i (fun r => { r with location := none, home := none, claim := none })]
    cases x <;> rfl
  obtain ⟨ms, mm, ml, mp, mc⟩ := modCart_tables (w.releaseHome i) i (fun r => { r with location := none, home := none, claim := none })
  refine ⟨fun k => ?_, fun k => ?_, fun k => ?_, fun x hx => ?_, fun x hx => ?_, fun x hx hr => ?_, ?_, ?_⟩
  · refine (congrFun (congrArg locationOf heq) k).trans ((locationOf_modCart hc' _ k).trans ?_)
    split
    · rfl
    · simp only [locationOf, cart_releaseHome]
  · refine (congrFun (congrArg homeOf heq) k).trans ((homeOf_modCart hc' _ k).trans ?_)
    split
    · rfl
    · simp only [homeOf, cart_releaseHome]
  · refine (congrFun (congrArg claimOf heq) k).trans ((claimOf_modCart hc' _ k).trans ?_)
    split
    · rfl
    · simp only [claimOf, cart_releaseHome]
  · by_cases hs : Element.isScanned x
    · rw [holds_eq_holder hs, holds_eq_holder hs, hslot, (slotAt_releaseHome_law h hg i hs).1]
    · exact holds_congr (by rw [heq, ← hports, ← mp]) (by rw [heq, ← hcc, ← mc]) hs hx
  · rw [resv, hslot, (slotAt_releaseHome_law h hg i hx).2.1]
  · rw [slotState, hslot, (slotAt_releaseHome_law h hg i hx).2.2 hr]
    rfl
  · rw [heq, ← h.slots, ← hslots, ← ms]
  · rw [heq, ← h.carts, ← hcarts, ← ml]

theorem Placed.claims_becomeAbsent : ∀ k, (w.becomeAbsent i).locationOf k = none → (w.becomeAbsent i).claimOf k = none := by
  obtain ⟨hloc, -, hclaim, -⟩ := becomeAbsent_views h hg hl
  intro k hk
  rw [hloc] at hk
  rw [hclaim]
  split
  · rfl
  next e =>
    rw [if_neg e] at hk
    exact h.claims k hk

end

/-- A located record goes absent, and its element is a gap (R10). -/
theorem Placed.becomeAbsent {i : Nat} {e : Element} (h : w.Placed none a) (hl : w.locationOf i = some e) (ha : a ≠ some i) :
    (w.becomeAbsent i).Placed (some e) a := by
  have hg : ∀ e, Element.isScanned e → (none : Option Element) ≠ some e := fun _ _ => nofun
  obtain ⟨hloc, hhome, -, hholds, hresv, hstate, hs, hc⟩ := becomeAbsent_views h hg hl
  exact ⟨h.law.vacate hl ha hloc hhome hholds hresv hstate, h.claims_becomeAbsent hg hl, hs, hc⟩

/-- The record adrift goes absent. -/
theorem Placed.becomeAbsent_adrift {i : Nat} (h : w.Placed g (some i)) (hg : ∀ e, Element.isScanned e → g ≠ some e)
    (hn : ∀ e, Element.inLibrary e → g ≠ some e → w.holds e ≠ some i) : (w.becomeAbsent i).Placed g none := by
  obtain ⟨e, hl⟩ : ∃ e, w.locationOf i = some e := by
    rcases h.law.afloat i rfl with h | ⟨d, h⟩
    · exact ⟨_, h⟩
    · exact ⟨_, h⟩
  obtain ⟨hloc, hhome, -, hholds, hresv, hstate, hs, hc⟩ := becomeAbsent_views h hg hl
  exact ⟨h.law.sink hloc hhome hn hholds hresv hstate, h.claims_becomeAbsent hg hl, hs, hc⟩

end

end W

end Sys2Proof.Machine

/-! PROOF. The Cartridge Table's operations and the law of places: slots, scans, magazines, rehoming (R2, R9, R11 to R14). -/

namespace Sys2Proof.Machine

namespace W

section
variable {w : W} {g : Option Element} {a : Option Nat}

theorem isAway_of_adrift {i : Nat} (h : w.Placed g (some i)) : isAway (w.locationOf i) := h.law.afloat i rfl

/-! ### A slot is written -/

/-- The gap is closed with nothing in it. -/
theorem Placed.closeSlot {e : Element} (h : w.Placed (some e) a) (he : Element.isScanned e) {r : SlotRec} (hr : r.holder = none)
    (hr' : r.reservedFor = none) : (w.putSlot e r).Placed none a := by
  obtain ⟨hs, hc, -, -⟩ := putSlot_tables w e r
  refine ⟨h.law.close (fun i => locationOf_putSlot ..) (fun i => homeOf_putSlot ..) (fun x hx => ?_) (fun x hx => ?_)
    (fun x hx hne => ?_), fun i hi => ?_, hs.trans h.slots, by rw [hc, h.carts]⟩
  · rw [holds_putSlot h.slots he r hx, hr]
  · rw [resv_putSlot h.slots he r hx, hr']
  · rw [slotState_putSlot h.slots he r hx, if_neg hne]
  · rw [claimOf_putSlot]
    exact h.claims i (by rwa [locationOf_putSlot] at hi)

/-- The gap is written, and stays one. -/
theorem Placed.putInGap {e : Element} (h : w.Placed (some e) a) (he : Element.isScanned e) (r : SlotRec) :
    (w.putSlot e r).Placed (some e) a := by
  obtain ⟨hs, hc, -, -⟩ := putSlot_tables w e r
  refine ⟨h.law.inGap (fun i => locationOf_putSlot ..) (fun i => homeOf_putSlot ..) (fun x hx hne => ?_) (fun x hx hne => ?_)
    (fun x hx hne => ?_), fun i hi => ?_, hs.trans h.slots, by rw [hc, h.carts]⟩
  · rw [holds_putSlot h.slots he r hx, if_neg hne]
  · rw [resv_putSlot h.slots he r hx, if_neg hne]
  · rw [slotState_putSlot h.slots he r hx, if_neg hne]
  · rw [claimOf_putSlot]
    exact h.claims i (by rwa [locationOf_putSlot] at hi)

/-- A slot is written with what it has, in a state that it allows. -/
theorem Placed.restateSlot {e : Element} (h : w.Placed none a) (he : Element.isScanned e) {r : SlotRec} (hr : r.holder = w.holds e)
    (hr' : r.reservedFor = w.resv e)
    (hs : (w.holds e).isSome = true → r.state = w.slotState e ∨ r.state = .occupied ∨ r.state = .unknown)
    (hs' : (w.resv e).isSome = true → r.state = w.slotState e ∨ r.state = .reserved ∨ r.state = .unknown) :
    (w.putSlot e r).Placed none a := by
  obtain ⟨hlen, hc, -, -⟩ := putSlot_tables w e r
  refine ⟨h.law.congr (fun i => locationOf_putSlot ..) (fun i => homeOf_putSlot ..) (fun x hx => ?_) (fun x hx => ?_)
    (fun x hx hx' => ?_) (fun x hx hx' => ?_), fun i hi => ?_, hlen.trans h.slots, by rw [hc, h.carts]⟩
  · rw [holds_putSlot h.slots he r hx]
    split
    next e => rw [hr, e]
    · rfl
  · rw [resv_putSlot h.slots he r hx]
    split
    next e => rw [hr', e]
    · rfl
  · rw [slotState_putSlot h.slots he r hx]
    split
    next e =>
      subst e
      exact hs hx'
    · exact .inl rfl
  · rw [slotState_putSlot h.slots he r hx]
    split
    next e =>
      subst e
      exact hs' hx'
    · exact .inl rfl
  · rw [claimOf_putSlot]
    exact h.claims i (by rwa [locationOf_putSlot] at hi)

/-- A slot with nothing in it can be written anew. -/
theorem Placed.openSlot {e : Element} (h : w.Placed none a) (hH : w.holds e = none) (hR : w.resv e = none) :
    w.Placed (some e) a :=
  ⟨h.law.opened hH fun _ => hR, h.claims, h.slots, h.carts⟩

theorem Placed.emptySlot {e : Element} (h : w.Placed (some e) a) (he : Element.isScanned e) : (w.emptySlot e).Placed none a := by
  cases e with
  | slot n => exact (h.closeSlot he rfl rfl).wantRehome
  | mail => exact h.closeSlot he rfl rfl
  | drive d => exact he.elim
  | picker => exact he.elim

theorem resv_none_of_holds {e : Element} {i : Nat} (h : w.Placed none a) (he : Element.isScanned e) (hi : w.holds e = some i) :
    w.resv e = none := h.law.alone e i he nofun hi

theorem holds_none_of_resv {e : Element} {i : Nat} (h : w.Placed none a) (he : Element.isScanned e) (hi : w.resv e = some i) :
    w.holds e = none := by
  by_contra hne
  obtain ⟨k, hk⟩ := Option.ne_none_iff_exists'.1 hne
  rw [resv_none_of_holds h he hk] at hi
  cases hi

/-- A record that a slot is reserved for loses its home: the slot is a gap (R9). -/
theorem Placed.makeHomeless {v : Nat} {e : Element} (h : w.Placed none a) (he : Element.isScanned e) (hv : w.resv e = some v) :
    (w.makeHomeless v).Placed (some e) a := by
  obtain ⟨n, rfl⟩ | rfl := PlaceLaw.isScanned_cases he
  · obtain ⟨haway, hhome⟩ := h.law.kept n v he nofun hv
    obtain ⟨l, hl⟩ : ∃ l, w.locationOf v = some l := by
      rcases haway with h | ⟨d, h⟩ <;> exact ⟨_, h⟩
    obtain ⟨c, hc, -⟩ := exists_cart_of_location hl
    have hloc : ∀ k, (w.makeHomeless v).locationOf k = w.locationOf k := locationOf_makeHomeless w v
    obtain ⟨ms, -, ml, -, -⟩ := modCart_tables w v (fun r => { r with home := none })
    refine ⟨h.law.homeless he hv hloc (fun k => ?_) (fun x _ => ?_) (fun x _ => ?_) (fun x _ => ?_), fun k hk => ?_, ?_, ?_⟩
    · exact homeOf_modCart hc _ k
    · exact holds_modCart w v _ x
    · rw [resv, slotAt_makeHomeless, resv]
    · rw [slotState, slotAt_makeHomeless, slotState]
    · have hk' := h.claims k ((hloc k).symm.trans hk)
      refine (claimOf_modCart hc _ k).trans ?_
      split
      next e =>
        subst e
        rwa [claimOf, hc, Option.bind_some] at hk'
      · exact hk'
    · exact (congrArg List.length ms).trans h.slots
    · exact ml.trans h.carts
  · rw [h.law.mail nofun] at hv
    cases hv

/-! ### A record comes to a slot -/

/-- Writing a cartridge record. -/
theorem cart_putCart {i : Nat} (hlen : w.ct.carts.length = 64) (hi : i < 64) (x : Option CartRec) (k : Nat) :
    (w.putCart i x).cart k = if k = i then x else w.cart k := by
  split
  next e => rw [e]; exact cart_putCart_lt (by omega) x
  next e => exact cart_putCart_other w x e

theorem cart_lt {i : Nat} {c : CartRec} (hlen : w.ct.carts.length = 64) (h : w.cart i = some c) : i < 64 := by
  have := (List.getElem?_eq_some_iff.1 (cart_eq_some.1 h)).1
  omega

/-- What a record placed at a slot by a scan leaves of every view (R13, step 4). -/
theorem scanPlace_views {i : Nat} {c : CartRec} {e : Element} (hc : w.cart i = some c) (hlen : w.ct.slots.length = 40)
    (he : Element.isScanned e) :
    (∀ k, (w.scanPlace e i).locationOf k = if k = i then some e else w.locationOf k) ∧
    (∀ k, (w.scanPlace e i).homeOf k = if k = i then homeAt e else w.homeOf k) ∧
    (∀ k, (w.scanPlace e i).claimOf k = if k = i then c.claim else w.claimOf k) ∧
    (∀ x, Element.inLibrary x → (w.scanPlace e i).holds x = if x = e then some i else w.holds x) ∧
    (∀ x, Element.isScanned x → (w.scanPlace e i).resv x = if x = e then none else w.resv x) ∧
    (∀ x, Element.isScanned x → (w.scanPlace e i).slotState x = if x = e then .occupied else w.slotState x) ∧
    (w.scanPlace e i).ct.slots.length = 40 ∧ (w.scanPlace e i).ct.carts.length = w.ct.carts.length := by
  generalize hf : (fun r : CartRec => { r with
    location := some e, home := homeAt e,
    homeMagazine := (match homeAt e with
      | some n => some (magazineOf n)
      | none => r.homeMagazine),
    lastSeen := w.ct.scanNumber }) = f
  have heq : w.scanPlace e i =
      ((w.modCart i f).putSlot e { state := .occupied, holder := some i, reservedFor := none }).wantDispatch := by
    rw [← hf]; rfl
  have hfl : (f c).location = some e ∧ (f c).home = homeAt e ∧ (f c).claim = c.claim := by
    rw [← hf]; exact ⟨rfl, rfl, rfl⟩
  obtain ⟨ms, -, ml, -, -⟩ := modCart_tables w i f
  have hlen' : (w.modCart i f).ct.slots.length = 40 := ms ▸ hlen
  obtain ⟨r, hr⟩ : ∃ r : SlotRec, r = { state := .occupied, holder := some i, reservedFor := none } := ⟨_, rfl⟩
  obtain ⟨ps, pc, -, -⟩ := putSlot_tables (w.modCart i f) e r
  have hview : ∀ x, ((w.modCart i f).putSlot e r).wantDispatch.slotAt x = ((w.modCart i f).putSlot e r).slotAt x :=
    slotAt_wantDispatch _
  rw [heq, ← hr]
  refine ⟨fun k => ?_, fun k => ?_, fun k => ?_, fun x hx => ?_, fun x hx => ?_, fun x hx => ?_, ps.trans hlen', ?_⟩
  · refine (locationOf_putSlot ..).trans ((locationOf_modCart hc f k).trans ?_)
    rw [hfl.1]
  · refine (homeOf_putSlot ..).trans ((homeOf_modCart hc f k).trans ?_)
    rw [hfl.2.1]
  · refine (claimOf_putSlot ..).trans ((claimOf_modCart hc f k).trans ?_)
    rw [hfl.2.2]
  · have := holds_putSlot hlen' he r hx
    rw [holds_modCart, hr] at this
    rw [← this, hr]
    cases x <;> rfl
  · rw [resv, hview, ← resv, resv_putSlot hlen' he r hx, resv_modCart, hr]
  · rw [slotState, hview, ← slotState, slotState_putSlot hlen' he r hx, slotState_modCart, hr]
  · exact (congrArg List.length pc).trans ml

/-- An absent record is placed at the gap (R13, step 4). -/
theorem Placed.scanPlace {i : Nat} {c : CartRec} {e : Element} (h : w.Placed (some e) none) (he : Element.isScanned e)
    (hc : w.cart i = some c) (hl : w.locationOf i = none) : (w.scanPlace e i).Placed none none := by
  obtain ⟨hloc, hhome, hclaim, hholds, hresv, hstate, hs, hl'⟩ := scanPlace_views hc h.slots he
  refine ⟨h.law.arrive (PlaceLaw.scanned_inLibrary he) hl nofun hloc hhome hholds hresv hstate, fun k hk => ?_, hs,
    hl'.trans h.carts⟩
  rw [hloc] at hk
  split at hk
  · cases hk
  next hne => rw [hclaim, if_neg hne]; exact h.claims k hk

/-- What a search through a list chooses is from the list. -/
theorem foldl_chooses {β : Type} {P : Nat → Prop} {f : Option (Nat × β) → Nat → Option (Nat × β)}
    (hf : ∀ b k r, f b k = some r → b = some r ∨ (r.1 = k ∧ P k)) (l : List Nat) (b : Option (Nat × β)) {r : Nat × β}
    (h : l.foldl f b = some r) : b = some r ∨ (r.1 ∈ l ∧ P r.1) := by
  induction l generalizing b with
  | nil => exact .inl h
  | cons k l ih =>
    rcases ih (f b k) h with h | ⟨hm, hp⟩
    · rcases hf b k r h with h | ⟨hk, hp⟩
      · exact .inl h
      · exact .inr ⟨hk ▸ List.mem_cons_self .., hk ▸ hp⟩
    · exact .inr ⟨List.mem_cons_of_mem _ hm, hp⟩

theorem reclaimable_absent {i : Nat} (h : w.reclaimable = some i) : i < 64 ∧ w.locationOf i = none := by
  unfold reclaimable at h
  obtain ⟨r, hr, rfl⟩ := Option.map_eq_some_iff.1 h
  have hself : ∀ {k : Nat} {c : CartRec}, w.cart k = some c → c.location = none → w.locationOf k = none := fun hc hcl => by
    rw [locationOf, hc, Option.bind_some, hcl]
  refine (foldl_chooses (P := fun k => w.locationOf k = none) (fun b k r hf => ?_) _ _ hr).elim nofun
    fun ⟨hm, hp⟩ => ⟨List.mem_range.1 hm, hp⟩
  split at hf
  next c hc =>
    split at hf
    next hcond =>
      split at hf
      · split at hf
        · obtain rfl := Option.some.inj hf
          exact .inr ⟨rfl, hself hc hcond.1⟩
        · exact .inl hf
      · obtain rfl := Option.some.inj hf
        exact .inr ⟨rfl, hself hc hcond.1⟩
    · exact .inl hf
  · exact .inl hf

/-- The record a new cartridge gets is in the table, and is free or absent (R11). -/
theorem allocate_absent {i : Nat} (h : w.allocate = some i) : i < 64 ∧ w.locationOf i = none := by
  unfold allocate at h
  rcases Option.or_eq_some_iff.1 h with h | ⟨-, h⟩
  · have hlt := List.mem_range.1 (List.mem_of_find?_eq_some h)
    have hnone := List.find?_some h
    rw [Option.isNone_iff_eq_none] at hnone
    exact ⟨hlt, by rw [locationOf, hnone, Option.bind_none]⟩
  · exact reclaimable_absent h

/-- A new record, or none to be had (R11). -/
theorem Placed.scanCreate {e : Element} (h : w.Placed (some e) none) (he : Element.isScanned e) (label : Option Label)
    (state : MediaState) (duplicate : Bool) : (w.scanCreate e label state duplicate).Placed none none := by
  cases hall : w.allocate with
  | none =>
    have heq : ∃ f, w.scanCreate e label state duplicate =
        ((w.putSlot e (bareSlot .untracked)).note (.untracked e label)).modTally f := by
      unfold W.scanCreate
      rw [hall]
      exact ⟨_, rfl⟩
    obtain ⟨f, heq⟩ := heq
    rw [heq]
    exact ((h.closeSlot he rfl rfl).note _).modTally f
  | some i =>
    obtain ⟨hi, hl⟩ := allocate_absent hall
    generalize hc : startRecord label (label.bind kindOfLabel) state e (homeAt e) w.ct.scanNumber duplicate = c
    have heq : ∃ f, w.scanCreate e label state duplicate =
        (((w.putCart i (some c)).note (.cartridgeState i label none (some state) .scanOrPassage)).modTally f).scanPlace e i := by
      unfold W.scanCreate
      rw [hall, ← hc]
      exact ⟨_, rfl⟩
    obtain ⟨f, heq⟩ := heq
    rw [heq]
    generalize hv : ((w.putCart i (some c)).note (.cartridgeState i label none (some state) .scanOrPassage)).modTally f = v
    have hcart : ∀ k, v.cart k = if k = i then some c else w.cart k := fun k => by
      rw [← hv]
      exact cart_putCart h.carts hi _ k
    have hother : ∀ k, k ≠ i → v.cart k = w.cart k := fun k hk => by rw [hcart, if_neg hk]
    have hslot : ∀ x, v.slotAt x = w.slotAt x := fun x => by
      rw [← hv]
      cases x <;> rfl
    have hvlen : v.ct.slots.length = 40 := by rw [← hv]; exact h.slots
    have hvcarts : v.ct.carts.length = 64 := by rw [← hv]; exact List.length_set.trans h.carts
    have hholds' : ∀ x, v.holds x = w.holds x := fun x => by
      rw [← hv]
      cases x <;> rfl
    obtain ⟨hloc, hhome, hclaim, hholds, hresv, hstate, hs, hl'⟩ := scanPlace_views ((hcart i).trans (if_pos rfl)) hvlen he
    refine ⟨h.law.arrive (PlaceLaw.scanned_inLibrary he) hl nofun (i := i) (fun k => ?_) (fun k => ?_) (fun x hx => ?_)
      (fun x hx => ?_) (fun x hx => ?_), fun k hk => ?_, hs, hl'.trans hvcarts⟩
    · rw [hloc]
      split
      · rfl
      next hne => rw [locationOf, hother k hne, locationOf]
    · rw [hhome]
      split
      · rfl
      next hne => rw [homeOf, hother k hne, homeOf]
    · rw [hholds x hx, hholds']
    · rw [hresv x hx, resv, hslot, resv]
    · rw [hstate x hx, slotState, hslot, slotState]
    · rw [hloc] at hk
      split at hk
      · cases hk
      next hne =>
        rw [hclaim, if_neg hne, claimOf, hother k hne]
        exact h.claims k (by rwa [locationOf, hother k hne] at hk)

end

end W

end Sys2Proof.Machine

/-! PROOF. Scans, rehoming and the magazines keep the law of places (R2, R9, R12 to R14). -/

namespace Sys2Proof.Machine

/-- A record goes from one slot to the gap, moved by hand (R13, step 3). -/
theorem PlaceLaw.moved {i : Nat} {e o : Element} {loc loc' : Nat → Option Element} {home home' : Nat → Option Nat}
    {hold hold' resv resv' : Element → Option Nat} {state state' : Element → SlotState}
    (h : PlaceLaw (some e) none loc home hold resv state) (he : Element.isScanned e) (ho : Element.isScanned o)
    (hi : loc i = some o) (hl : ∀ k, loc' k = if k = i then some e else loc k)
    (hh : ∀ k, home' k = if k = i then W.homeAt e else home k)
    (hH : ∀ x, Element.inLibrary x → hold' x = if x = e then some i else if x = o then none else hold x)
    (hR : ∀ x, Element.isScanned x → resv' x = if x = e then none else resv x)
    (hS : ∀ x, Element.isScanned x → x ≠ o → state' x = if x = e then .occupied else state x) :
    PlaceLaw none none loc' home' hold' resv' state' := by
  obtain ⟨h1, h2, h3, h4, h5, hm, h6, h7, h8, ha⟩ := h
  constructor <;> grind [scanned_inLibrary, isScanned_cases, mail_isScanned, slot_isScanned, not_away_slot, not_away_mail, homeAt_eq_some]

namespace W

section
variable {w : W}

theorem movedByHand_some {y : Nat} {o : Element} (h : w.movedByHand y = some o) :
    w.locationOf y = some o ∧ ((∃ n, o = .slot n) ∨ o = .mail) := by
  unfold movedByHand at h
  dsimp only at h
  split at h
  next n hl =>
    obtain ⟨-, ho⟩ := Option.ite_none_right_eq_some.1 h
    obtain rfl := Option.some.inj ho
    exact ⟨hl, .inl ⟨n, rfl⟩⟩
  next hl =>
    obtain ⟨-, ho⟩ := Option.ite_none_right_eq_some.1 h
    obtain rfl := Option.some.inj ho
    exact ⟨hl, .inr rfl⟩
  · cases h
  · cases h
  · cases h

theorem exists_cart_of_byLabel {l : Label} {y : Nat} (h : w.cartByLabel l = some y) : ∃ c, w.cart y = some c := by
  have hy := List.find?_some h
  split at hy
  next c hc => exact ⟨c, hc⟩
  · cases hy

/-- The cartridge found is identified and placed at the gap (R13, steps 3 and 4). -/
theorem Placed.scanIdentify {e : Element} (h : w.Placed (some e) none) (he : Element.isScanned e) (found : Option Label) :
    (w.scanIdentify e found).Placed none none := by
  unfold W.scanIdentify
  split
  · exact h.scanCreate he ..
  · split
    · exact h.scanCreate he ..
    next y hy =>
      obtain ⟨c, hc⟩ := exists_cart_of_byLabel hy
      split
      next hl => exact (h.scanPlace he hc hl).modTally _
      next hl =>
        split
        next o ho =>
          obtain ⟨hlo, hkind⟩ := movedByHand_some ho
          have hos : Element.isScanned o := by
            rcases hkind with ⟨n, rfl⟩ | rfl
            · exact (h.law.located y _ hlo).1
            · trivial
          obtain ⟨ps, pc, -, -⟩ := putSlot_tables w o { w.slotAt o with holder := none }
          have hlen := ps.trans h.slots
          obtain ⟨hloc, hhome, hclaim, hholds, hresv, hstate, hs, hl'⟩ :=
            scanPlace_views (w := w.putSlot o { w.slotAt o with holder := none }) (by rw [cart_putSlot]; exact hc) hlen he
          refine ⟨h.law.moved he hos hlo (fun k => ?_) (fun k => ?_) (fun x hx => ?_) (fun x hx => ?_) (fun x hx hne => ?_),
            fun k hk => ?_, hs, hl'.trans (by rw [pc, h.carts])⟩
          · rw [hloc, locationOf_putSlot]
          · rw [hhome, homeOf_putSlot]
          · rw [hholds x hx, holds_putSlot h.slots hos _ hx]
          · rw [hresv x hx, resv_putSlot h.slots hos _ hx]
            split
            · rfl
            · split
              next hxo => rw [hxo, resv]
              · rfl
          · rw [hstate x hx, slotState_putSlot h.slots hos _ hx, if_neg hne]
          · rw [hloc, locationOf_putSlot] at hk
            rw [hclaim, claimOf_putSlot]
            split at hk
            · cases hk
            next hne =>
              rw [if_neg hne]
              exact h.claims k hk
        · exact h.scanCreate he ..

theorem scanAbsent_eq (w : W) (i : Nat) : ∃ f, w.scanAbsent i = (w.becomeAbsent i).modTally f := ⟨_, rfl⟩

/-- What a slot is known to hold is located there. -/
theorem located_of_holds {w : W} {a : Option Nat} {e : Element} {i : Nat} (h : w.Placed none a) (he : Element.isScanned e)
    (hi : (w.slotAt e).holder = some i) : w.locationOf i = some e :=
  h.law.held e i (PlaceLaw.scanned_inLibrary he) nofun ((holds_eq_holder he).trans hi)

/-- A record is no longer in a slot: the slot is a gap. -/
theorem Placed.scanAbsent {e : Element} {i : Nat} (h : w.Placed none none) (hi : w.locationOf i = some e) :
    (w.scanAbsent i).Placed (some e) none := by
  obtain ⟨f, hf⟩ := scanAbsent_eq w i
  rw [hf]
  exact (h.becomeAbsent hi nofun).modTally f

/-- A scan finds a cartridge at a slot (R13). -/
theorem Placed.scanCartridge {e : Element} (h0 : w.Placed none none) (he : Element.isScanned e) (found : Option Label) :
    (w.scanCartridge e found).Placed none none := by
  unfold W.scanCartridge
  have h := h0.modTally fun t => { t with found := t.found + 1 }
  generalize (w.modTally fun t => { t with found := t.found + 1 }) = v at h
  dsimp only
  split
  next r hr =>
    obtain ⟨hh, -⟩ := Option.filter_eq_some_iff.1 hr
    have hholds := (holds_eq_holder he).trans hh
    split
    · refine Placed.modCart ?_ r _ (fun c _ => ⟨rfl, rfl, fun _ => rfl⟩)
      exact h.restateSlot he hholds.symm (resv_none_of_holds h he hholds).symm (fun _ => .inr (.inl rfl))
        (fun hr => by rw [resv_none_of_holds h he hholds] at hr; cases hr)
    · exact (h.scanAbsent (located_of_holds h he hh)).scanIdentify he found
  next hr =>
    have hnone : v.holds e = none := by
      rw [holds_eq_holder he]
      by_contra hne
      obtain ⟨i, hi⟩ := Option.ne_none_iff_exists'.1 hne
      have := (Option.filter_eq_some_iff (p := fun r => decide (v.locationOf r = some e))).2 ⟨hi, decide_eq_true (located_of_holds h he hi)⟩
      rw [hr] at this
      cases this
    split
    next k hk =>
      exact ((h.makeHomeless he hk).putInGap he _).scanIdentify he found
    next hk => exact (h.openSlot hnone hk).scanIdentify he found

/-- A slot whose holder has gone: its record is absent, or there was none. -/
theorem Placed.holderGone {e : Element} {v : W} (h : w.Placed none none) (he : Element.isScanned e) (counted : Bool)
    (hv : v = match (w.slotAt e).holder with
      | some r => if w.locationOf r = some e then (if counted then w.scanAbsent r else w.becomeAbsent r) else w
      | none => w) (hr : w.resv e = none) : v.Placed (some e) none := by
  subst hv
  split
  next r hh =>
    have hl := located_of_holds h he hh
    rw [if_pos hl]
    split
    · exact h.scanAbsent hl
    · exact h.becomeAbsent hl nofun
  next hh => exact h.openSlot ((holds_eq_holder he).trans hh) hr

/-- A scan finds a slot empty (R14). -/
theorem Placed.scanEmpty {e : Element} (h : w.Placed none none) (he : Element.isScanned e) : (w.scanEmpty e).Placed none none := by
  unfold W.scanEmpty
  dsimp only
  split
  next k hk =>
    have hnone : (w.slotAt e).holder = none := (holds_eq_holder he).symm.trans (holds_none_of_resv h he hk)
    simp only [hnone]
    have haway : isAway (w.locationOf k) := by
      rcases PlaceLaw.isScanned_cases he with ⟨n, rfl⟩ | rfl
      · exact (h.law.kept n k he nofun hk).1
      · have := h.law.mail nofun
        rw [show w.resv .mail = some k from hk] at this
        cases this
    have hsome : (w.locationOf k).isSome = true := by
      rcases haway with h | ⟨d, h⟩ <;> rw [h] <;> rfl
    rw [if_pos hsome]
    exact h.restateSlot he (holds_none_of_resv h he hk).symm hk.symm
      (fun hs => by rw [holds_none_of_resv h he hk] at hs; cases hs) (fun _ => .inr (.inl rfl))
  next hk => exact (h.holderGone he true rfl hk).emptySlot he

/-- The magazine-removal event for one slot (R2). -/
theorem Placed.slotRemoved {n : Nat} (h : w.Placed none none) (hn : Element.inLibrary (.slot n)) (counted : Bool) :
    (w.slotRemoved counted n).Placed none none := by
  have he : Element.isScanned (.slot n) := hn
  unfold W.slotRemoved
  dsimp only
  split
  next k hk =>
    have hnone : (w.slotAt (.slot n)).holder = none := (holds_eq_holder he).symm.trans (holds_none_of_resv h he hk)
    simp only [hnone]
    exact (h.makeHomeless he hk).closeSlot he rfl rfl
  next hk => exact (h.holderGone he counted rfl hk).closeSlot he rfl rfl

/-- The result of one slot (R13, R14). -/
theorem Placed.scanResult {e : Element} (h : w.Placed none none) (he : Element.isScanned e) (f : SlotFinding) :
    (w.scanResult e f).Placed none none := by
  unfold W.scanResult
  refine Placed.modTally ?_ _
  split
  · exact h.scanEmpty he
  · split
    · exact h.slotRemoved he true
    · exact h
    · exact h
    · exact h
  · exact h.scanCartridge he _

/-! ### Rehoming (R9) -/

theorem newHome_empty {m : Option Magazine} {n : Nat} (h : w.newHome m = some n) :
    Element.inLibrary (.slot n) ∧ w.slotState (.slot n) = .empty := by
  have hin : ∀ g, w.lowestEmptyIn g = some n → Element.inLibrary (.slot n) ∧ w.slotState (.slot n) = .empty := by
    intro g hg
    obtain ⟨h1, h40, -⟩ := (mem_slotsOf g n).1 (List.mem_of_find?_eq_some hg)
    have := List.find?_some (p := fun n => decide (w.slotState (.slot n) = .empty)) hg
    exact ⟨⟨h1, h40⟩, of_decide_eq_true this⟩
  cases m with
  | none => exact hin _ h
  | some g =>
    rcases Option.or_eq_some_iff.1 h with h | ⟨-, h⟩
    · exact hin _ h
    · exact hin _ h

theorem isAway_of_isHomeless {i : Nat} (h : w.isHomeless i = true) : isAway (w.locationOf i) ∧ w.homeOf i = none := by
  unfold isHomeless at h
  cases hc : w.cart i with
  | none => rw [hc] at h; cases h
  | some c =>
    rw [hc] at h
    obtain ⟨hh, hl⟩ := Bool.and_eq_true_iff.1 h
    rw [locationOf, homeOf, hc, Option.bind_some, Option.bind_some]
    refine ⟨?_, Option.isNone_iff_eq_none.1 hh⟩
    cases hloc : c.location with
    | none => rw [hloc] at hl; cases hl
    | some e =>
      rw [hloc] at hl
      cases e with
      | drive d => exact PlaceLaw.away_drive d
      | picker => exact PlaceLaw.away_picker
      | slot n => cases hl
      | mail => cases hl

/-- An EMPTY slot holds nothing and is reserved for nothing. -/
theorem bare_of_empty {a : Option Nat} {e : Element} (h : w.Placed none a) (he : Element.isScanned e) (hs : w.slotState e = .empty) :
    w.holds e = none ∧ w.resv e = none := by
  constructor
  · by_contra hne
    obtain ⟨k, hk⟩ := Option.ne_none_iff_exists'.1 hne
    rcases h.law.occupied e k he nofun hk with h | h <;> rw [hs] at h <;> cases h
  · by_contra hne
    obtain ⟨k, hk⟩ := Option.ne_none_iff_exists'.1 hne
    rcases h.law.reserved e k he nofun hk with h | h <;> rw [hs] at h <;> cases h

/-- One homeless cartridge is given a home, if a slot can be had (R9). -/
theorem Placed.rehomeOne {a : Option Nat} (h : w.Placed none a) (i : Nat) : (w.rehomeOne i).Placed none a := by
  unfold W.rehomeOne
  split
  next hi =>
    obtain ⟨haway, hhome⟩ := isAway_of_isHomeless hi
    split
    next n hn =>
      obtain ⟨hlib, hempty⟩ := newHome_empty hn
      have he : Element.isScanned (.slot n) := hlib
      obtain ⟨hH0, hR0⟩ := bare_of_empty h he hempty
      refine Placed.wantDispatch (Placed.emit ?_ _)
      obtain ⟨r, hr⟩ : ∃ r : SlotRec, r = { state := .reserved, holder := none, reservedFor := some i } := ⟨_, rfl⟩
      rw [← hr]
      obtain ⟨ps, pc, -, -⟩ := putSlot_tables w (.slot n) r
      obtain ⟨l, hl⟩ : ∃ l, w.locationOf i = some l := by
        rcases haway with h | ⟨d, h⟩ <;> exact ⟨_, h⟩
      obtain ⟨c, hc, -⟩ := exists_cart_of_location hl
      have hc' : (w.putSlot (.slot n) r).cart i = some c := by rw [cart_putSlot, hc]
      obtain ⟨ms, -, ml, -, -⟩ := modCart_tables (w.putSlot (.slot n) r) i
        (fun r => { r with home := some n, homeMagazine := some (magazineOf n) })
      refine ⟨h.law.rehome hlib haway hhome hH0 hR0 (fun k => ?_) (fun k => ?_) (fun x hx => ?_) (fun x hx => ?_) (fun x hx => ?_),
        fun k hk => ?_, (congrArg List.length ms).trans (ps.trans h.slots), ml.trans (by rw [pc, h.carts])⟩
      · rw [locationOf_modCart hc', locationOf_putSlot]
        split
        next e => rw [e, locationOf, hc, Option.bind_some]
        · rfl
      · rw [homeOf_modCart hc', homeOf_putSlot]
      · rw [holds_modCart, holds_putSlot h.slots he _ hx]
        split
        next e => rw [hr, e, hH0]
        · rfl
      · rw [resv_modCart, resv_putSlot h.slots he _ hx, hr]
      · rw [slotState_modCart, slotState_putSlot h.slots he _ hx, hr]
      · rw [locationOf_modCart hc', locationOf_putSlot] at hk
        rw [claimOf_modCart hc', claimOf_putSlot]
        split
        next e =>
          rw [if_pos e] at hk
          have := h.claims i (by rw [locationOf, hc, Option.bind_some]; exact hk)
          rwa [claimOf, hc, Option.bind_some] at this
        next e =>
          rw [if_neg e] at hk
          exact h.claims k hk
    · exact h
  · exact h

theorem Placed.foldl {α : Type} {g : Option Element} {a : Option Nat} {f : W → α → W} (l : List α)
    (hf : ∀ v, ∀ x ∈ l, v.Placed g a → (f v x).Placed g a) (h : w.Placed g a) : (l.foldl f w).Placed g a := by
  induction l generalizing w with
  | nil => exact h
  | cons x l ih => exact ih (fun v y hy => hf v y (List.mem_cons_of_mem _ hy)) (hf w x (List.mem_cons_self ..) h)

theorem Placed.rehome {a : Option Nat} (h : w.Placed none a) : w.rehome.Placed none a :=
  h.foldl _ fun _ i _ hv => hv.rehomeOne i

/-- A scan is complete (R12). -/
theorem Placed.scanCompleted (h : w.Placed none none) : w.scanCompleted.Placed none none := by
  unfold W.scanCompleted
  split
  · exact h
  next t _ =>
    have h' : ({ w with ct := { w.ct with scan := none }, rehomeDue := false } : W).Placed none none :=
      h.of_slots_carts rfl rfl rfl (fun _ => rfl) rfl
    exact h'.rehome.note _

theorem Placed.scanStarted {g : Option Element} {a : Option Nat} (h : w.Placed g a) (range : List Element) :
    (w.scanStarted range).Placed g a :=
  h.of_slots_carts rfl rfl rfl (fun _ => rfl) rfl

/-! ### Doors and magazines (R2) -/

theorem Placed.magazineGone (h : w.Placed none none) (m : Magazine) : (w.magazineGone m).Placed none none :=
  h.foldl _ fun _ n hn hv => by
    obtain ⟨h1, h40, -⟩ := (mem_slotsOf m n).1 hn
    exact hv.slotRemoved ⟨h1, h40⟩ false

theorem holds_slotRemoved {w : W} {n : Nat} (h : w.Placed none none) (hn : Element.inLibrary (.slot n)) (counted : Bool) :
    (w.slotRemoved counted n).holds (.slot n) = none ∧ (w.slotRemoved counted n).resv (.slot n) = none := by
  have he : Element.isScanned (.slot n) := hn
  have hput : ∀ v : W, v.ct.slots.length = 40 → (v.putSlot (.slot n) (bareSlot .noMagazine)).slotAt (.slot n) = bareSlot .noMagazine :=
    fun v hv => by rw [slotAt_putSlot hv he he, if_pos rfl]
  have hlen := (h.slotRemoved hn counted).slots
  unfold W.slotRemoved at hlen ⊢
  dsimp only at hlen ⊢
  rw [(putSlot_tables ..).1] at hlen
  exact ⟨(congrArg SlotRec.holder (hput _ hlen)), (congrArg SlotRec.reservedFor (hput _ hlen))⟩

theorem Placed.magazineBack (h : w.Placed none none) (m : Magazine) : (w.magazineBack m).Placed none none :=
  h.foldl _ fun _ n hn hv => by
    obtain ⟨h1, h40, -⟩ := (mem_slotsOf m n).1 hn
    have hlib : Element.inLibrary (.slot n) := ⟨h1, h40⟩
    obtain ⟨hh, hr⟩ := holds_slotRemoved hv hlib false
    exact ((hv.slotRemoved hlib false).openSlot hh hr).closeSlot hlib rfl rfl

/-- Slots become UNKNOWN with what they have (R2, R36). -/
theorem Placed.unknownSlots {v : W} (h : w.Placed none none) (hcarts : v.ct.carts = w.ct.carts)
    (hlen : v.ct.slots.length = w.ct.slots.length) (hp : v.ports = w.ports) (hk : v.cc = w.cc)
    (hs : ∀ e, Element.isScanned e → v.slotAt e = w.slotAt e ∨ v.slotAt e = { w.slotAt e with state := .unknown }) :
    v.Placed none none := by
  have hcart : ∀ i, v.cart i = w.cart i := fun i => by simp only [cart, hcarts]
  have hstate : ∀ e, Element.isScanned e → v.slotState e = w.slotState e ∨ v.slotState e = .unknown := fun e he => by
    rcases hs e he with h | h <;> rw [slotState, h]
    · exact .inl rfl
    · exact .inr rfl
  refine ⟨h.law.congr (fun i => by simp only [locationOf, hcart]) (fun i => by simp only [homeOf, hcart]) (fun e hl => ?_)
    (fun e he => ?_) (fun e he _ => (hstate e he).imp id .inr) (fun e he _ => (hstate e he).imp id .inr), fun i hi => ?_,
    hlen.trans h.slots, by rw [hcarts, h.carts]⟩
  · by_cases he : Element.isScanned e
    · rw [holds_eq_holder he, holds_eq_holder he]
      rcases hs e he with h | h <;> rw [h]
    · exact holds_congr hp hk he hl
  · rcases hs e he with h | h <;> rw [resv, h, resv]
  · have := h.claims i (by simpa only [locationOf, hcart] using hi)
    simpa only [claimOf, hcart] using this

theorem Placed.frontOpened (h : w.Placed none none) : w.frontOpened.Placed none none := by
  refine h.unknownSlots rfl (List.length_map ..) rfl rfl fun e he => ?_
  obtain ⟨n, rfl⟩ | rfl := PlaceLaw.isScanned_cases he
  · have hlt : n - 1 < w.ct.slots.length := by
      have := h.slots
      obtain ⟨h1, h2⟩ := he
      omega
    have heq : w.frontOpened.slotAt (.slot n) =
        if (w.slotAt (.slot n)).state = .noMagazine then w.slotAt (.slot n) else { w.slotAt (.slot n) with state := .unknown } := by
      simp only [slotAt, W.frontOpened, List.getD_eq_getElem?_getD, List.getElem?_map, List.getElem?_eq_getElem hlt, Option.map_some,
        Option.getD_some]
    rw [heq]
    split
    · exact .inl rfl
    · exact .inr rfl
  · exact .inl rfl

theorem Placed.mailOpened (h : w.Placed none none) : w.mailOpened.Placed none none := by
  refine h.unknownSlots rfl rfl rfl rfl fun e he => ?_
  obtain ⟨n, rfl⟩ | rfl := PlaceLaw.isScanned_cases he
  · exact .inl rfl
  · exact .inr rfl

theorem Placed.mailClosed {g : Option Element} {a : Option Nat} (h : w.Placed g a) : w.mailClosed.Placed g a :=
  h.of_slots_carts rfl rfl rfl (fun _ => rfl) rfl

end

end W

end Sys2Proof.Machine

/-! PROOF. What the changer's and the drives' reports do to the law of places (R8, R15, R16, R27, R32, R48, R62). -/

namespace Sys2Proof.Machine

namespace W

section
variable {w : W} {g : Option Element} {a : Option Nat}

/-! ### Ports and the picker -/

theorem holds_modPort (w : W) (d : Drive) (f : Port → Port) (x : Element) :
    (w.modPort d f).holds x = if x = .drive d then (f (w.port d)).cartridge.record else w.holds x := by
  cases x with
  | slot n => rfl
  | mail => rfl
  | picker => rfl
  | drive e =>
    by_cases he : e = d
    · subst he
      rw [if_pos rfl]
      simp only [holds, modPort, port_putPort_same]
    · rw [if_neg (fun h => he (Element.drive.inj h))]
      simp only [holds, modPort, port_putPort_other w _ he]

/-- A port's other fields are no part of the law. -/
theorem Placed.modPort (h : w.Placed g a) (d : Drive) {f : Port → Port}
    (hf : (f (w.port d)).cartridge.record = (w.port d).cartridge.record) : (w.modPort d f).Placed g a := by
  refine ⟨h.law.congr (fun _ => rfl) (fun _ => rfl) (fun x _ => ?_) (fun x _ => ?_) (fun x _ _ => .inl ?_) (fun x _ _ => .inl ?_),
    h.claims, h.slots, h.carts⟩
  · rw [holds_modPort]
    split
    next hx => rw [hx, hf]; rfl
    · rfl
  · cases x <;> rfl
  · cases x <;> rfl
  · cases x <;> rfl

/-- A gap at a drive is closed with no record in it. -/
theorem Placed.closeDrive {d : Drive} (h : w.Placed (some (.drive d)) a) {f : Port → Port}
    (hf : (f (w.port d)).cartridge.record = none) : (w.modPort d f).Placed none a := by
  refine ⟨h.law.close (fun _ => rfl) (fun _ => rfl) (fun x _ => ?_) (fun x hx => ?_) (fun x hx _ => ?_),
    h.claims, h.slots, h.carts⟩
  · rw [holds_modPort, hf]
  · rw [if_neg (show ¬x = .drive d by rintro rfl; exact hx)]
    cases x <;> rfl
  · cases x <;> rfl

/-- A drive takes the record adrift at it. -/
theorem Placed.landDrive {i : Nat} {d : Drive} (h : w.Placed g (some i)) (hg : g = some (.drive d) ∨ (g = none ∧ w.holds (.drive d) = none))
    (hi : w.locationOf i = some (.drive d)) {f : Port → Port} (hf : (f (w.port d)).cartridge.record = some i) :
    (w.modPort d f).Placed none none := by
  have hH : ∀ x, Element.inLibrary x → (w.modPort d f).holds x = if x = .drive d then some i else w.holds x := fun x _ => by
    rw [holds_modPort, hf]
  have hslot : ∀ x, (w.modPort d f).slotAt x = w.slotAt x := fun x => by cases x <;> rfl
  rcases hg with rfl | ⟨rfl, hnone⟩
  · refine ⟨(h.law.landInGap hi id hH).congr (fun _ => rfl) (fun _ => rfl) (fun _ _ => rfl) (fun x _ => ?_) (fun x _ _ => .inl ?_)
      (fun x _ _ => .inl ?_), h.claims, h.slots, h.carts⟩
    · rw [resv, hslot, resv]
    · rw [slotState, hslot, slotState]
    · rw [slotState, hslot, slotState]
  · have := h.law.land (e := .drive d) nofun hi id hH
    rw [hnone] at this
    refine ⟨this.congr (fun _ => rfl) (fun _ => rfl) (fun _ _ => rfl) (fun x _ => ?_) (fun x _ _ => .inl ?_)
      (fun x _ _ => .inl ?_), h.claims, h.slots, h.carts⟩
    · rw [resv, hslot, resv]
    · rw [slotState, hslot, slotState]
    · rw [slotState, hslot, slotState]

theorem holds_modCC (w : W) (f : Changer → Changer) (x : Element) :
    (w.modCC f).holds x = if x = .picker then (f w.cc).picker.record else w.holds x := by
  cases x <;> rfl

theorem slotAt_modCC (w : W) (f : Changer → Changer) (x : Element) : (w.modCC f).slotAt x = w.slotAt x := by
  cases x <;> rfl

/-- The changer's other fields are no part of the law. -/
theorem Placed.modCC (h : w.Placed g a) {f : Changer → Changer} (hf : (f w.cc).picker.record = w.cc.picker.record) :
    (w.modCC f).Placed g a := by
  refine ⟨h.law.congr (fun _ => rfl) (fun _ => rfl) (fun x _ => ?_) (fun x _ => ?_) (fun x _ _ => .inl ?_) (fun x _ _ => .inl ?_),
    h.claims, h.slots, h.carts⟩
  · rw [holds_modCC]
    split
    next hx => rw [hx, hf]; rfl
    · rfl
  · rw [resv, slotAt_modCC, resv]
  · rw [slotState, slotAt_modCC, slotState]
  · rw [slotState, slotAt_modCC, slotState]

/-- The picker lets go of what it holds: a record it held is adrift. -/
theorem Placed.letGo (h : w.Placed none none) {f : Changer → Changer} (hf : (f w.cc).picker.record = none) :
    (w.modCC f).Placed none w.cc.picker.record := by
  cases hp : w.cc.picker.record with
  | none => exact h.modCC (hf.trans hp.symm)
  | some i =>
    refine ⟨(h.law.detach (e := .picker) (hold' := (w.modCC f).holds) hp PlaceLaw.away_picker (fun x _ => ?_)).congr (fun _ => rfl) (fun _ => rfl)
      (fun _ _ => rfl) (fun x _ => ?_) (fun x _ _ => .inl ?_) (fun x _ _ => .inl ?_), h.claims, h.slots, h.carts⟩
    · rw [holds_modCC, hf]
    · rw [resv, slotAt_modCC, resv]
    · rw [slotState, slotAt_modCC, slotState]
    · rw [slotState, slotAt_modCC, slotState]

/-- The picker takes the record adrift at it; what it held is adrift, unless the picker was a gap. -/
theorem Placed.take {i : Nat} (h : w.Placed g (some i)) (hi : w.locationOf i = some .picker) {f : Changer → Changer}
    (hf : (f w.cc).picker.record = some i) :
    (w.modCC f).Placed (if g = some .picker then none else g) (if g = some .picker then none else w.cc.picker.record) := by
  have hH : ∀ x, Element.inLibrary x → (w.modCC f).holds x = if x = .picker then some i else w.holds x := fun x _ => by
    rw [holds_modCC, hf]
  have hfin : ∀ {g' a'}, PlaceLaw g' a' w.locationOf w.homeOf (w.modCC f).holds w.resv w.slotState → (w.modCC f).Placed g' a' := by
    intro g' a' hl
    refine ⟨hl.congr (fun _ => rfl) (fun _ => rfl) (fun _ _ => rfl) (fun x _ => ?_) (fun x _ _ => .inl ?_)
      (fun x _ _ => .inl ?_), h.claims, h.slots, h.carts⟩
    · rw [resv, slotAt_modCC, resv]
    · rw [slotState, slotAt_modCC, slotState]
    · rw [slotState, slotAt_modCC, slotState]
  split
  next hg =>
    subst hg
    exact hfin (h.law.landInGap hi id hH)
  next hg => exact hfin (h.law.land hg hi id hH)

/-- The record adrift is not held by another element. -/
theorem not_held_of_adrift {i : Nat} (h : w.Placed g (some i)) (hi : w.locationOf i = some .picker)
    (hp : g ≠ some .picker → w.cc.picker.record ≠ some i) (x : Element) (hx : Element.inLibrary x) (hg : g ≠ some x) :
    w.holds x ≠ some i := by
  intro hh
  have := h.law.held x i hx hg hh
  rw [hi] at this
  obtain rfl := Option.some.inj this
  exact hp hg hh

/-! ### Extract completion (R8, R15, R16, R27) -/

/-- A cartridge carried with the picker not yet written: the record is adrift at the picker, which holds another or is a gap. -/
structure Carried (g : Option Element) (i : Nat) (w : W) : Prop where
  placed : w.Placed g (some i)
  gap : g = none ∨ g = some .picker ∨ ∃ d, g = some (.drive d)
  here : w.locationOf i = some .picker
  other : g ≠ some .picker → w.cc.picker.record ≠ some i

/-- The gap that an extract leaves. -/
def gapOf : Element → Option Element
  | .drive d => some (.drive d)
  | .picker => some .picker
  | .slot _ => none
  | .mail => none

theorem locationOf_modCart_location {i : Nat} {c : CartRec} (hc : w.cart i = some c) (e : Element) (k : Nat) :
    (w.modCart i fun r => { r with location := some e }).locationOf k = if k = i then some e else w.locationOf k :=
  locationOf_modCart hc _ k

theorem homeOf_modCart_location {i : Nat} {c : CartRec} (hc : w.cart i = some c) (e : Element) (k : Nat) :
    (w.modCart i fun r => { r with location := some e }).homeOf k = w.homeOf k := by
  refine (homeOf_modCart hc _ k).trans ?_
  split
  next hk => rw [hk, homeOf, hc, Option.bind_some]
  · rfl

theorem claims_modCart_location {i : Nat} {c : CartRec} (h : w.Placed g a) (hc : w.cart i = some c) (e : Element) (k : Nat)
    (hk : (w.modCart i fun r => { r with location := some e }).locationOf k = none) :
    (w.modCart i fun r => { r with location := some e }).claimOf k = none := by
  rw [locationOf_modCart_location hc] at hk
  refine (claimOf_modCart hc _ k).trans ?_
  split at hk
  · cases hk
  next hne =>
    rw [if_neg hne]
    exact h.claims k hk

/-- Extract completion of a recorded cartridge. -/
theorem Placed.extracted {i : Nat} {source : Element} (h : w.Placed none none) (hi : w.locationOf i = some source) :
    (w.extracted i source).Carried (gapOf source) i := by
  obtain ⟨c, hc, hcl⟩ := exists_cart_of_location hi
  obtain ⟨hlib, ⟨hheld, -⟩ | ha⟩ := h.law.located i source hi
  swap
  · cases ha
  obtain ⟨v, hv⟩ : ∃ v, v = (w.modCart i fun r => { r with location := some .picker }).wantDispatch := ⟨_, rfl⟩
  obtain ⟨ms, mm, ml, mp, mc⟩ := modCart_tables w i (fun r => { r with location := some .picker })
  have hloc : ∀ k, v.locationOf k = if k = i then some .picker else w.locationOf k := by
    rw [hv]; exact locationOf_modCart_location hc .picker
  have hhome : ∀ k, v.homeOf k = w.homeOf k := by rw [hv]; exact homeOf_modCart_location hc .picker
  have hclaims : ∀ k, v.locationOf k = none → v.claimOf k = none := by rw [hv]; exact claims_modCart_location h hc .picker
  have hlen : v.ct.slots.length = 40 := by rw [hv]; exact (congrArg List.length ms).trans h.slots
  have hcarts : v.ct.carts.length = 64 := by rw [hv]; exact ml.trans h.carts
  have hslot : ∀ x, v.slotAt x = w.slotAt x := fun x => by rw [hv, slotAt_wantDispatch, slotAt_modCart]
  have hholds : ∀ x, v.holds x = w.holds x := fun x => by
    rw [hv, ← holds_modCart w i (fun r => { r with location := some .picker }) x]
    cases x <;> rfl
  have hpick : source ≠ .picker → v.cc.picker.record ≠ some i := by
    intro hne hp
    have hp' : w.cc.picker.record = some i := by rw [← hp, hv]; exact congrArg (fun c => c.picker.record) mc.symm
    have := h.law.held .picker i trivial nofun hp'
    rw [hi] at this
    exact hne (Option.some.inj this)
  have hhere : v.locationOf i = some .picker := (hloc i).trans (if_pos rfl)
  cases source with
  | slot n =>
    obtain ⟨r, hr⟩ : ∃ r : SlotRec, r = { state := .reserved, holder := none, reservedFor := some i } := ⟨_, rfl⟩
    have heq : w.extracted i (.slot n) = v.putSlot (.slot n) r := by rw [hr, hv]; rfl
    have he : Element.isScanned (.slot n) := hlib
    obtain ⟨ps, pc, -, pcc⟩ := putSlot_tables v (.slot n) r
    rw [heq]
    refine ⟨⟨h.law.liftSlot (i := i) (n := n) hi (fun k => ?_) (fun k => ?_) (fun x hx => ?_) (fun x hx => ?_) (fun x hx => ?_),
      fun k hk => ?_, ps.trans hlen, by rw [pc, hcarts]⟩, .inl rfl, ?_, fun _ => ?_⟩
    · rw [locationOf_putSlot, hloc]
    · rw [homeOf_putSlot, hhome]
    · rw [holds_putSlot hlen he r hx, hr, hholds]
    · rw [resv_putSlot hlen he r hx, hr, resv, hslot, resv]
    · rw [slotState_putSlot hlen he r hx, hr, slotState, hslot, slotState]
    · rw [claimOf_putSlot]
      exact hclaims k (by rwa [locationOf_putSlot] at hk)
    · rw [locationOf_putSlot, hhere]
    · rw [pcc]
      exact hpick nofun
  | mail =>
    have heq : w.extracted i .mail = (v.putSlot .mail (bareSlot .empty)).wantRehome := by rw [hv]; rfl
    have he : Element.isScanned .mail := trivial
    have hP : (v.putSlot .mail (bareSlot .empty)).Placed none (some i) := by
      refine ⟨h.law.liftMail (i := i) hi (fun k => ?_) (fun k => ?_) (fun x hx => ?_) (fun x hx => ?_) (fun x hx hne => ?_),
        hclaims, hlen, hcarts⟩
      · rw [locationOf_putSlot, hloc]
      · rw [homeOf_putSlot, hhome]
      · rw [holds_putSlot hlen he _ hx, hholds]; rfl
      · rw [resv_putSlot hlen he _ hx, resv, hslot, resv]; rfl
      · rw [slotState_putSlot hlen he _ hx, if_neg hne, slotState, hslot, slotState]
    rw [heq]
    exact ⟨hP.wantRehome, .inl rfl, hhere, fun _ => hpick nofun⟩
  | drive d =>
    have heq : w.extracted i (.drive d) = v := by rw [hv]; rfl
    rw [heq]
    exact ⟨⟨(h.law.liftDrive hi hloc).congr (fun _ => rfl) hhome (fun x _ => hholds x) (fun x _ => by rw [resv, hslot, resv])
      (fun x _ _ => .inl (by rw [slotState, hslot, slotState])) (fun x _ _ => .inl (by rw [slotState, hslot, slotState])),
      hclaims, hlen, hcarts⟩, .inr (.inr ⟨d, rfl⟩), hhere, fun _ => hpick nofun⟩
  | picker =>
    have heq : w.extracted i .picker = v := by rw [hv]; rfl
    have hP : w.Placed (some .picker) (some i) := ⟨h.law.unheld hheld, h.claims, h.slots, h.carts⟩
    have hkeep := hP.modCart i (fun r => { r with location := some .picker }) (fun c' hc' => by
      obtain rfl := Option.some.inj (hc.symm.trans hc')
      exact ⟨hcl.symm, rfl, fun _ => rfl⟩)
    rw [heq]
    exact ⟨hv ▸ hkeep.wantDispatch, .inr (.inl rfl), hhere, fun hne => absurd rfl hne⟩

/-! ### The passage read (R16) -/

theorem Carried.of_fields {i : Nat} {v : W} (h : w.Carried g i) (hv : v.Placed g (some i))
    (hloc : v.locationOf i = w.locationOf i) (hcc : v.cc.picker = w.cc.picker) : v.Carried g i :=
  ⟨hv, h.gap, hloc.trans h.here, by rw [hcc]; exact h.other⟩

theorem Carried.modCart {i : Nat} (h : w.Carried g i) (k : Nat) (f : CartRec → CartRec)
    (hf : ∀ c, (f c).location = c.location ∧ (f c).home = c.home ∧ (f c).claim = c.claim) : (w.modCart k f).Carried g i := by
  refine h.of_fields (h.placed.modCart k f fun c _ => ⟨(hf c).1, (hf c).2.1, fun _ => (hf c).2.2⟩) ?_
    (by rw [(modCart_tables w k f).2.2.2.2])
  cases hc : w.cart k with
  | none => rw [modCart_of_none hc]
  | some c =>
    rw [locationOf_modCart hc]
    split
    next e => rw [(hf c).1, e, locationOf, hc, Option.bind_some]
    · rfl

theorem Carried.takeLabel {i : Nat} (h : w.Carried g i) (l : Label) (duplicate : Bool) : (w.takeLabel i l duplicate).Carried g i :=
  h.modCart i _ fun _ => ⟨rfl, rfl, rfl⟩

theorem setMedia_cases (w : W) (i : Nat) (s : MediaState) (cause : StateCause) :
    w.setMedia i s cause = w ∨ ∃ l, w.setMedia i s cause =
      { (w.modCart i fun c => { c with state := s }) with out := l, dispatchDue := true } := by
  unfold W.setMedia
  split
  · exact .inl rfl
  next c hc =>
    split
    · exact .inl rfl
    · refine .inr ⟨w.out ++ [.cartridgeState i c.label (some c.state) (some s) cause], ?_⟩
      rw [modCart_eq hc]
      rfl

theorem Placed.setMedia (h : w.Placed g a) (i : Nat) (s : MediaState) (cause : StateCause) : (w.setMedia i s cause).Placed g a := by
  rcases setMedia_cases w i s cause with heq | ⟨l, heq⟩
  · rwa [heq]
  · rw [heq]
    exact (h.modCart i (fun c => { c with state := s }) fun c _ => ⟨rfl, rfl, fun _ => rfl⟩).of_tables rfl (fun _ => rfl) rfl

theorem Carried.setMedia {i : Nat} (h : w.Carried g i) (k : Nat) (s : MediaState) (cause : StateCause) :
    (w.setMedia k s cause).Carried g i := by
  rcases setMedia_cases w k s cause with heq | ⟨l, heq⟩
  · rwa [heq]
  · rw [heq]
    have := h.modCart k (fun c => { c with state := s }) fun c => ⟨rfl, rfl, rfl⟩
    exact ⟨this.placed.of_tables rfl (fun _ => rfl) rfl, this.gap, this.here, this.other⟩

/-- A merge (R16). -/
theorem Carried.mergeInto {i y : Nat} {c : CartRec} (h : w.Carried g i) (hy : w.cart y = some c) (hyl : w.locationOf y = none) :
    (w.mergeInto i y).Carried g y := by
  obtain ⟨r, hr, -⟩ := exists_cart_of_location h.here
  have hne : i ≠ y := by
    rintro rfl
    have := h.here
    rw [hyl] at this
    cases this
  have hi64 := cart_lt h.placed.carts hr
  have hrhome : w.homeOf i = r.home := by rw [homeOf, hr, Option.bind_some]
  generalize hf : (fun c : CartRec => { c with location := some .picker, home := r.home, homeMagazine := r.homeMagazine }) = f
  have hfc : (f c).location = some .picker ∧ (f c).home = r.home ∧ (f c).claim = c.claim := by rw [← hf]; exact ⟨rfl, rfl, rfl⟩
  obtain ⟨ms, mm, ml, mp, mc⟩ := modCart_tables w y f
  obtain ⟨v, hv⟩ : ∃ v, v = w.mergeInto i y := ⟨_, rfl⟩
  have hcart : ∀ k, v.cart k = if k = i then none else if k = y then some (f c) else w.cart k := by
    intro k
    have : v.cart k = ((w.modCart y f).putCart i none).cart k := by
      rw [hv]
      unfold W.mergeInto
      rw [hr]
      dsimp only
      rw [hf]
      rfl
    rw [this, cart_putCart (ml.trans h.placed.carts) hi64]
    split
    · rfl
    · exact cart_modCart hy f k
  have hslots : v.ct.slots = w.ct.slots.map fun s : SlotRec => if s.reservedFor = some i then { s with reservedFor := some y } else s := by
    rw [hv, ← ms]
    unfold W.mergeInto
    rw [hr]
    dsimp only
    rw [hf]
    rfl
  have hmail : v.ct.mail = w.ct.mail := by
    rw [hv, ← mm]
    unfold W.mergeInto
    rw [hr]
    dsimp only
    rw [hf]
    rfl
  have hports : v.ports = w.ports := by
    rw [hv, ← mp]
    unfold W.mergeInto
    rw [hr]
    dsimp only
    rw [hf]
    rfl
  have hcc : v.cc = w.cc := by
    rw [hv, ← mc]
    unfold W.mergeInto
    rw [hr]
    dsimp only
    rw [hf]
    rfl
  have hcarts : v.ct.carts.length = 64 := by
    rw [← h.placed.carts, ← ml, hv]
    unfold W.mergeInto
    rw [hr]
    dsimp only
    rw [hf]
    exact List.length_set
  rw [← hv]
  have hloc : ∀ k, v.locationOf k = if k = i then none else if k = y then some .picker else w.locationOf k := fun k => by
    rw [locationOf, hcart]
    split
    · rfl
    · split
      · rw [Option.bind_some, hfc.1]
      · rfl
  have hslot : ∀ x, Element.isScanned x → v.slotAt x =
      if w.resv x = some i then { w.slotAt x with reservedFor := some y } else w.slotAt x := by
    intro x hx
    obtain ⟨n, rfl⟩ | rfl := PlaceLaw.isScanned_cases hx
    · have hlt : n - 1 < w.ct.slots.length := by
        have := h.placed.slots
        obtain ⟨h1, h2⟩ := hx
        omega
      simp only [resv, slotAt, hslots, List.getD_eq_getElem?_getD, List.getElem?_map, List.getElem?_eq_getElem hlt, Option.map_some,
        Option.getD_some]
    · have hm : w.resv .mail = none := h.placed.law.mail (by
        rcases h.gap with h | h | ⟨d, h⟩ <;> rw [h] <;> nofun)
      rw [hm, if_neg nofun]
      exact hmail
  refine ⟨⟨h.placed.law.merge (i := i) (y := y) hyl (not_held_of_adrift h.placed h.here h.other) hloc (fun k => ?_) (fun x hx => ?_)
    (fun x hx => ?_) (fun x hx => ?_), fun k hk => ?_, by rw [hslots, List.length_map, h.placed.slots], hcarts⟩, h.gap, ?_, fun hg => ?_⟩
  · rw [homeOf, hcart]
    split
    · rfl
    · split
      · rw [Option.bind_some, hfc.2.1, hrhome]
      · rfl
  · by_cases hs : Element.isScanned x
    · rw [holds_eq_holder hs, holds_eq_holder hs, hslot x hs]
      split <;> rfl
    · exact holds_congr hports hcc hs hx
  · rw [resv, hslot x hx]
    split <;> rfl
  · rw [slotState, hslot x hx]
    split <;> rfl
  · rw [hloc] at hk
    rw [claimOf, hcart]
    split at hk
    next e => rw [if_pos e]; rfl
    next e =>
      rw [if_neg e]
      split at hk
      · cases hk
      next e' =>
        rw [if_neg e']
        exact h.placed.claims k hk
  · rw [hloc, if_neg (Ne.symm hne), if_pos rfl]
  · intro hp
    rw [hcc] at hp
    have := h.placed.law.held .picker y trivial hg hp
    rw [hyl] at this
    cases this

/-- The record that is carried after a passage read (R16). -/
def carriedAfter (i : Nat) : Passage → Nat
  | .merged y => y
  | .applied => i
  | .mismatch => i

theorem Carried.passageRead {i : Nat} (h : w.Carried g i) (read : Option Label) :
    (w.passageRead i read).1.Carried g (carriedAfter i (w.passageRead i read).2) := by
  unfold W.passageRead
  split
  · exact h
  next l =>
    split
    next own _ =>
      dsimp only
      split <;> exact h
    · split
      next y hy =>
        obtain ⟨hy, hyl⟩ := Option.filter_eq_some_iff.1 hy
        obtain ⟨c, hc⟩ := exists_cart_of_byLabel hy
        exact h.mergeInto hc (of_decide_eq_true hyl)
      · split
        · exact h.takeLabel l true
        · exact ((h.takeLabel l false).modCart i (fun r => { r with rawBytes := 0, codedBytes := 0, extentCount := 0, loadCount := 0 })
            fun _ => ⟨rfl, rfl, rfl⟩).setMedia i (newState (kindOfLabel l)) .scanOrPassage

end

end W

end Sys2Proof.Machine

/-! PROOF. The picker, extracts and places, the ports' reports of a cartridge, and the law of places (R8, R15, R16, R27, R37, R48,
R62). -/

namespace Sys2Proof.Machine

namespace W

section
variable {w : W} {g : Option Element} {a : Option Nat}

/-! ### The picker -/

/-- What the picker held, and holds no more, is absent. -/
def recordGone (w : W) : Contents → W
  | .cart i => w.becomeAbsent i
  | .none => w
  | .untracked => w

/-- The record adrift that the picker let go of goes absent, if there is one. -/
theorem Placed.recordGone {c : Contents} (hg : g = none ∨ ∃ d, g = some (.drive d)) (h : w.Placed g c.record)
    (hn : ∀ i, c.record = some i → w.cc.picker.record ≠ some i ∧ w.locationOf i = some .picker) :
    (w.recordGone c).Placed g none := by
  have hg' : ∀ e, Element.isScanned e → g ≠ some e := by
    rintro e he rfl
    rcases hg with h | ⟨d, h⟩
    · cases h
    · cases h
      exact he
  cases c with
  | cart i =>
    obtain ⟨hp, hl⟩ := hn i rfl
    exact h.becomeAbsent_adrift hg' (not_held_of_adrift h hl fun _ => hp)
  | none => exact h
  | untracked => exact h

theorem recordGone_ports (w : W) (c : Contents) : (w.recordGone c).ports = w.ports := by
  cases c with
  | cart i => exact (tableOnly_becomeAbsent w i).ports
  | none => rfl
  | untracked => rfl

/-- What the picker holds is located there. -/
theorem picker_located {i : Nat} (h : w.Placed none none) (hi : w.cc.picker.record = some i) : w.locationOf i = some .picker :=
  h.law.held .picker i trivial nofun hi

/-- The picker takes contents: what it held and these do not name is gone. -/
theorem fillPicker_eq (w : W) (c : Contents) (source : Option Element) : w.fillPicker c source =
    if c.record.isSome = true ∧ w.cc.picker = c then w.modCC fun cc => { cc with picker := c, pickedFrom := source }
    else (w.modCC fun cc => { cc with picker := c, pickedFrom := source }).recordGone w.cc.picker := by
  unfold W.fillPicker
  dsimp only
  split
  next j hj =>
    rw [hj]
    by_cases hc : c = .cart j
    · rw [if_pos hc, if_pos ⟨by rw [hc]; rfl, hc.symm⟩]
    · rw [if_neg hc, if_neg (fun h => hc h.2.symm)]
      rfl
  next hj =>
    rw [hj]
    split <;> rfl
  next hj =>
    rw [hj]
    split <;> rfl

/-- The picker takes contents of no record. -/
theorem Placed.fillPicker (h : w.Placed none none) {c : Contents} (hc : c.record = none) (source : Option Element) :
    (w.fillPicker c source).Placed none none := by
  have hcc : (w.modCC fun cc => { cc with picker := c, pickedFrom := source }).Placed none w.cc.picker.record := h.letGo hc
  rw [fillPicker_eq, if_neg (by rw [hc]; rintro ⟨h, -⟩; cases h)]
  refine hcc.recordGone (.inl rfl) fun i hi => ⟨?_, show w.locationOf i = _ from picker_located h hi⟩
  rw [show (w.modCC fun cc => { cc with picker := c, pickedFrom := source }).cc.picker.record = none from hc]
  nofun

/-- The picker takes the record carried. -/
theorem Carried.fillPicker {i : Nat} (h : w.Carried g i) (source : Option Element)
    (hold : g = some .picker → ∃ j, w.cc.picker = .cart j ∧ (j = i ∨ w.locationOf j = none)) :
    (w.fillPicker (.cart i) source).Placed (if g = some .picker then none else g) none := by
  have hcc := h.placed.take h.here (f := fun cc => { cc with picker := .cart i, pickedFrom := source }) rfl
  rw [fillPicker_eq]
  by_cases hg : g = some .picker
  · rw [if_pos hg, if_pos hg] at hcc
    rw [if_pos hg]
    obtain ⟨j, hj, hji⟩ := hold hg
    split
    · exact hcc
    next hne =>
      rw [hj] at hne ⊢
      rcases hji with rfl | hji
      · exact absurd ⟨rfl, rfl⟩ hne
      · rw [W.recordGone, becomeAbsent_of_absent (by exact hji)]
        exact hcc
  · rw [if_neg hg, if_neg hg] at hcc
    rw [if_neg hg, if_neg (fun hx => h.other hg (by rw [hx.2]; rfl))]
    refine hcc.recordGone (h.gap.imp id fun hx => hx.resolve_left hg) fun j hj => ⟨?_, h.placed.law.held .picker j trivial hg hj⟩
    intro e
    have : j = i := Option.some.inj (e.symm.trans rfl)
    exact h.other hg (this ▸ hj)

theorem declareLost_eq (w : W) : ∃ n, w.declareLost =
    ((w.modCC fun cc => { cc with picker := .none, pickedFrom := none }).recordGone w.cc.picker).note n := by
  unfold W.declareLost W.changerFaultNotice
  dsimp only
  cases w.cc.picker with
  | cart i => exact ⟨_, rfl⟩
  | none => exact ⟨_, rfl⟩
  | untracked => exact ⟨_, rfl⟩

/-- A carried cartridge is declared lost (R37). -/
theorem Placed.declareLost (h : w.Placed none none) : w.declareLost.Placed none none := by
  have hcc : (w.modCC fun cc => { cc with picker := .none, pickedFrom := none }).Placed none w.cc.picker.record := h.letGo rfl
  obtain ⟨n, heq⟩ := declareLost_eq w
  rw [heq]
  exact (hcc.recordGone (.inl rfl) fun i hi => ⟨nofun, show w.locationOf i = _ from picker_located h hi⟩).note n

/-! ### The ports -/

theorem enterPort_fields (w : W) (d : Drive) (s : PortState) :
    (w.enterPort d s).ct = w.ct ∧ (w.enterPort d s).cc = w.cc ∧
      ∀ e, ((w.enterPort d s).port e).cartridge = (w.port e).cartridge := by
  have hport : ∀ e, ((w.modPort d fun p => { p with state := s }).port e).cartridge = (w.port e).cartridge := fun e => by
    by_cases he : e = d
    · subst he; simp only [modPort, port_putPort_same]
    · simp only [modPort, port_putPort_other w _ he]
  unfold W.enterPort
  dsimp only
  (repeat' split) <;> exact ⟨rfl, rfl, hport⟩

theorem Placed.enterPort (h : w.Placed g a) (d : Drive) (s : PortState) : (w.enterPort d s).Placed g a :=
  h.of_tables (enterPort_fields w d s).1 (enterPort_fields w d s).2.2 (by rw [(enterPort_fields w d s).2.1])

theorem Placed.portExtracted {d : Drive} (h : w.Placed g none) (hg : g = some (.drive d) ∨ (g = none ∧ w.holds (.drive d) = none)) :
    (w.portExtracted d).Placed none none := by
  have h1 : (w.modPort d fun p => { p with cartridge := .none }).Placed none none := by
    rcases hg with rfl | ⟨rfl, hnone⟩
    · exact h.closeDrive rfl
    · exact h.modPort d hnone.symm
  unfold W.portExtracted
  dsimp only
  split
  · exact h1.enterPort _ _
  · exact h1

/-! ### Extract completion (R8, R15, R16, R27) -/

/-- An untracked cartridge leaves a slot, or a slot is found empty. -/
theorem Placed.vacateSlot {e : Element} (h : w.Placed none none) (hlib : Element.inLibrary e) (hnone : w.holds e = none ∨ ¬Element.isScanned e) :
    (w.vacateSlot e).Placed none none := by
  unfold W.vacateSlot
  by_cases he : Element.isScanned e
  · have hnone := hnone.resolve_right fun h => h he
    split
    next v hv =>
      exact h.restateSlot he hnone.symm hv.symm (fun hs => by rw [hnone] at hs; cases hs) (fun _ => .inr (.inl rfl))
    next hv => exact (h.openSlot hnone hv).emptySlot he
  · cases e with
    | slot n => exact absurd hlib he
    | mail => exact absurd trivial he
    | drive d => exact h
    | picker => exact h

theorem contentsAt_scanned {e : Element} (he : Element.isScanned e) (h : w.Placed none none) :
    (∀ i, w.contentsAt e = .cart i ↔ (w.slotAt e).holder = some i) := by
  have hl : ∀ i, (w.slotAt e).holder = some i → w.locationOf i = some e := fun i hi => located_of_holds h he hi
  intro i
  obtain ⟨n, rfl⟩ | rfl := PlaceLaw.isScanned_cases he
  · cases hh : (w.slotAt (.slot n)).holder with
    | none =>
      simp only [contentsAt, hh]
      split <;> simp
    | some k => simp [contentsAt, hh, hl k hh]
  · cases hh : (w.slotAt .mail).holder with
    | none =>
      simp only [contentsAt, hh]
      split <;> simp
    | some k => simp [contentsAt, hh, hl k hh]

/-- What an element is known to hold is what it holds. -/
theorem contentsAt_cart {e : Element} (h : w.Placed none none) (hlib : Element.inLibrary e) (i : Nat) :
    w.contentsAt e = .cart i ↔ w.holds e = some i := by
  cases e with
  | slot n => exact contentsAt_scanned (e := .slot n) hlib h i
  | mail => exact contentsAt_scanned (e := .mail) trivial h i
  | drive d => exact Contents.record_eq_some.symm
  | picker => exact Contents.record_eq_some.symm

theorem gripped_cart {e : Element} (h : w.Placed none none) (hlib : Element.inLibrary e) (i : Nat) :
    w.gripped e = .cart i ↔ w.holds e = some i := by
  rw [← contentsAt_cart h hlib]
  unfold gripped
  cases w.contentsAt e <;> simp

theorem passageRead_picker (w : W) (i : Nat) (read : Option Label) : (w.passageRead i read).1.cc = w.cc := by
  have hset : ∀ (v : W) k s c, (v.setMedia k s c).cc = v.cc := fun v k s c => by
    rcases setMedia_cases v k s c with heq | ⟨l, heq⟩ <;> rw [heq]
    exact (modCart_tables v k _).2.2.2.2
  unfold W.passageRead
  split
  · rfl
  · split
    · rfl
    · split
      next y hy =>
        unfold W.mergeInto
        split
        · rfl
        · exact (modCart_tables w y _).2.2.2.2
      · split
        · exact (modCart_tables w i _).2.2.2.2
        · exact (hset _ _ _ _).trans ((modCart_tables _ i _).2.2.2.2.trans (modCart_tables w i _).2.2.2.2)

/-- A record whose label has been merged away is in the table no more, and another is as it was. -/
theorem locationOf_passageRead {i : Nat} (h : w.Carried g i) (read : Option Label) :
    i = carriedAfter i (w.passageRead i read).2 ∨ (w.passageRead i read).1.locationOf i = none := by
  unfold W.passageRead
  split
  · exact .inl rfl
  next l =>
    split
    next own _ =>
      dsimp only
      split <;> exact .inl rfl
    · split
      next y hy =>
        right
        obtain ⟨r, hr, -⟩ := exists_cart_of_location h.here
        obtain ⟨hy, hyl⟩ := Option.filter_eq_some_iff.1 hy
        have hi64 := cart_lt h.placed.carts hr
        have hlen := (modCart_tables w y (fun c => { c with location := some .picker, home := r.home, homeMagazine := r.homeMagazine })).2.2.1
        have : ((w.modCart y fun c => { c with location := some .picker, home := r.home, homeMagazine := r.homeMagazine }).putCart i
            none).cart i = none := (cart_putCart (hlen.trans h.placed.carts) hi64 none i).trans (if_pos rfl)
        unfold W.mergeInto
        rw [hr]
        rw [locationOf]
        exact (congrArg (fun c => Option.bind c CartRec.location) this)
      · split <;> exact .inl rfl

/-- Extract completion at an element (R27). -/
theorem Placed.extractAt {source : Element} (h : w.Placed none none) (hlib : Element.inLibrary source) (read : Option Label) :
    (w.extractAt source read).1.Placed none none := by
  cases hc : w.gripped source with
  | none =>
    exfalso
    unfold gripped at hc
    split at hc <;> cases hc
  | untracked =>
    have hnone : w.holds source = none := by
      by_contra hne
      obtain ⟨i, hi⟩ := Option.ne_none_iff_exists'.1 hne
      rw [(gripped_cart h hlib i).2 hi] at hc
      cases hc
    have hv : (if w.noMagazineAt source then w else w.extractedUntracked source).Placed none none := by
      split
      · exact h
      · exact h.vacateSlot hlib (.inl hnone)
    have hv' := hv.fillPicker (c := .untracked) rfl (some source)
    unfold W.extractAt
    simp only [hc]
    cases source with
    | drive d =>
      refine hv'.portExtracted (.inr ⟨rfl, ?_⟩)
      have hw : (if w.noMagazineAt (.drive d) then w else w.extractedUntracked (.drive d)) = w := by split <;> rfl
      rw [hw, fillPicker_eq, if_neg (by rintro ⟨h, -⟩; cases h), holds, port, recordGone_ports]
      exact hnone
    | slot n => exact hv'
    | mail => exact hv'
    | picker => exact hv'
  | cart i =>
    have hi := (gripped_cart h hlib i).1 hc
    have hext := h.extracted (h.law.held source i hlib nofun hi)
    have hcar := hext.passageRead read
    have hmerge := locationOf_passageRead hext read
    have hcc := passageRead_picker (w.extracted i source) i read
    unfold W.extractAt
    simp only [hc]
    generalize (w.extracted i source).passageRead i read = r at hcar hmerge hcc ⊢
    obtain ⟨v, p⟩ := r
    dsimp only at hcar hmerge hcc ⊢
    have hfill := hcar.fillPicker (some source) fun hg => by
      cases source with
      | drive d => cases hg
      | slot n => cases hg
      | mail => cases hg
      | picker =>
        refine ⟨i, ?_, hmerge⟩
        rw [hcc, show (w.extracted i .picker).cc = w.cc from (modCart_tables w i _).2.2.2.2]
        exact Contents.record_eq_some.1 hi
    have hdone : ∀ u : W, u.Placed (if gapOf source = some .picker then none else gapOf source) none →
        (∀ d, source = .drive d → (u.portExtracted d).Placed none none) ∧ ((∀ d, source ≠ .drive d) → u.Placed none none) := by
      intro u hu
      refine ⟨?_, fun hne => ?_⟩
      · rintro d rfl
        exact hu.portExtracted (.inl rfl)
      · cases source with
        | drive d => exact absurd rfl (hne d)
        | slot n => exact hu
        | mail => exact hu
        | picker => exact hu
    obtain ⟨hdrive, helse⟩ := hdone _ hfill
    cases p with
    | merged y =>
      cases source with
      | drive d => exact hdrive d rfl
      | slot n => exact helse nofun
      | mail => exact helse nofun
      | picker => exact helse nofun
    | applied =>
      cases source with
      | drive d => exact hdrive d rfl
      | slot n => exact helse nofun
      | mail => exact helse nofun
      | picker => exact helse nofun
    | mismatch =>
      cases source with
      | drive d => exact hdrive d rfl
      | slot n => exact helse nofun
      | mail => exact helse nofun
      | picker => exact helse nofun

end

end W

end Sys2Proof.Machine

/-! PROOF. Places, and what the drive ports report, and the law of places (R8, R15, R16, R27, R48, R62, R69). -/

namespace Sys2Proof.Machine

namespace W

section
variable {w : W} {g : Option Element} {a : Option Nat}

/-- The source of a GRIP-MISS taken by REPORT is empty (R32). -/
theorem Placed.sourceFoundEmpty {e : Element} (h : w.Placed none none) (he : Element.isScanned e) :
    (w.sourceFoundEmpty e).Placed none none := by
  unfold W.sourceFoundEmpty
  split
  next i hh =>
    have hl := located_of_holds h he hh
    rw [if_pos hl]
    have hr : (w.becomeAbsent i).resv e = none := by
      obtain ⟨-, -, -, -, hresv, -⟩ := becomeAbsent_views h (fun _ _ => nofun) hl
      rw [hresv e he, resv_none_of_holds h he ((holds_eq_holder he).trans hh)]
      rfl
    unfold W.vacateSlot
    dsimp only
    rw [show ((w.becomeAbsent i).slotAt e).reservedFor = none from hr]
    exact (h.becomeAbsent hl nofun).emptySlot he
  next hh => exact h.vacateSlot (PlaceLaw.scanned_inLibrary he) (.inl ((holds_eq_holder he).trans hh))

/-! ### Place completion (R8, R15) -/

/-- A slot is cleared for a cartridge: it is a gap, or it is free and reserved for that cartridge. -/
theorem Placed.makeRoom {i : Option Nat} {e : Element} (h : w.Placed none a) (he : Element.isScanned e)
    (ha : ∀ k, a = some k → i = some k) (hi : ∀ k, i = some k → w.holds e ≠ some k) :
    (w.makeRoom i e).Placed (some e) a ∨
      ((w.makeRoom i e).Placed none a ∧ (w.makeRoom i e).holds e = none ∧
        ∃ k, i = some k ∧ (w.makeRoom i e).resv e = some k) := by
  unfold W.makeRoom
  dsimp only
  split
  next v hv =>
    have hnone : (w.slotAt e).holder = none := (holds_eq_holder he).symm.trans (holds_none_of_resv h he hv)
    simp only [hnone]
    split
    next hvi => exact .inr ⟨h, (holds_eq_holder he).trans hnone, v, hvi.symm, hv⟩
    · exact .inl (h.makeHomeless he hv)
  next hv =>
    left
    split
    next j hj =>
      have hl : w.locationOf j = some e := by
        exact h.law.held e j (PlaceLaw.scanned_inLibrary he) nofun ((holds_eq_holder he).trans hj)
      have hji : some j ≠ i := by
        rintro rfl
        exact hi j rfl ((holds_eq_holder he).trans hj)
      rw [if_pos ⟨hji, hl⟩]
      refine h.becomeAbsent hl fun haj => ?_
      exact hji (ha j haj).symm
    next hj => exact h.openSlot ((holds_eq_holder he).trans hj) hv

theorem leaveHome_tables (w : W) (i : Nat) :
    (w.leaveHome i).ct.slots.length = w.ct.slots.length ∧ (w.leaveHome i).ct.carts = w.ct.carts ∧
      (w.leaveHome i).ports = w.ports ∧ (w.leaveHome i).cc = w.cc := by
  unfold leaveHome
  split
  · exact ⟨rfl, rfl, rfl, rfl⟩
  · split
    · exact putSlot_tables w _ _
    · exact ⟨rfl, rfl, rfl, rfl⟩

/-- What giving up a home at a placement leaves of a slot other than the gap (R8). -/
theorem slotAt_leaveHome_law {i : Nat} (h : w.Placed g (some i)) {x : Element} (hx : Element.isScanned x) :
    ((w.leaveHome i).slotAt x).holder = (w.slotAt x).holder ∧ (g ≠ some x →
      ((w.leaveHome i).slotAt x).reservedFor = (if w.resv x = some i then none else w.resv x)) ∧
      (w.resv x ≠ some i → ((w.leaveHome i).slotAt x).state = (w.slotAt x).state) := by
  have haway := isAway_of_adrift h
  have hx' : g ≠ some x → w.resv x = some i → ∃ n, x = .slot n ∧ w.homeOf i = some n := by
    intro hg hr
    obtain ⟨n, rfl⟩ | rfl := PlaceLaw.isScanned_cases hx
    · exact ⟨n, rfl, (h.law.kept n i hx hg hr).2⟩
    · rw [h.law.mail hg] at hr
      cases hr
  cases hh : w.homeOf i with
  | none =>
    have heq : w.leaveHome i = w := by
      unfold leaveHome
      rw [show (w.cart i).bind CartRec.home = none from hh]
    rw [heq]
    refine ⟨rfl, fun hg => ?_, fun _ => rfl⟩
    rw [if_neg]
    · rfl
    · intro hr
      obtain ⟨n, -, hn⟩ := hx' hg hr
      rw [hh] at hn
      cases hn
  | some n =>
    obtain ⟨hn, hl | ⟨-, hgn, hres⟩⟩ := h.law.homed i n hh
    · rw [hl] at haway
      exact absurd haway (PlaceLaw.not_away_slot n)
    · have heq : w.leaveHome i = w.emptySlot (.slot n) := by
        unfold leaveHome
        rw [show (w.cart i).bind CartRec.home = some n from hh]
        exact if_pos hres
      have hn' : Element.isScanned (.slot n) := hn
      have hnone : (w.slotAt (.slot n)).holder = none := by
        by_contra hne
        obtain ⟨k, hk⟩ := Option.ne_none_iff_exists'.1 hne
        have := h.law.alone (.slot n) k hn' hgn hk
        rw [hres] at this
        cases this
      have hview : (w.leaveHome i).slotAt x = if x = .slot n then bareSlot .empty else w.slotAt x := by
        rw [heq, ← slotAt_putSlot h.slots hn' hx]
        exact slotAt_wantRehome _ x
      rw [hview]
      by_cases hxn : x = .slot n
      · subst hxn
        rw [if_pos rfl, hnone, if_pos hres]
        exact ⟨rfl, fun _ => rfl, fun hne => absurd hres hne⟩
      · rw [if_neg hxn]
        refine ⟨rfl, fun hg => ?_, fun _ => rfl⟩
        rw [if_neg]
        · rfl
        · intro hr
          obtain ⟨k, rfl, hk⟩ := hx' hg hr
          rw [hh] at hk
          exact hxn (by rw [Option.some.inj hk])

/-- The record adrift is stowed in a slot: its own home, or another after it has given up its home (R8). -/
theorem Placed.stow {i : Nat} {e : Element} {v : W} {r : SlotRec} {f : CartRec → CartRec} (h : w.Placed g (some i)) (he : Element.isScanned e)
    (hg : g = some e ∨ (g = none ∧ w.holds e = none ∧ w.resv e = some i)) (hn : ∀ x, Element.inLibrary x → w.holds x ≠ some i)
    (hv : v = w.leaveHome i ∨ (v = w ∧ ∃ n, e = .slot n ∧ w.homeOf i = some n))
    (hr : r = { state := .occupied, holder := some i, reservedFor := none })
    (hf : ∀ c, (f c).location = some e ∧ (f c).home = homeAt e) : ((v.putSlot e r).modCart i f).Placed none none := by
  have hv' : v.ct.slots.length = 40 ∧ v.ct.carts = w.ct.carts ∧ v.ports = w.ports ∧ v.cc = w.cc ∧ (∀ x, Element.isScanned x → x ≠ e →
      (v.slotAt x).holder = (w.slotAt x).holder ∧ (v.slotAt x).reservedFor = (if w.resv x = some i then none else w.resv x) ∧
      (w.resv x ≠ some i → (v.slotAt x).state = (w.slotAt x).state)) := by
    rcases hv with rfl | ⟨rfl, n, rfl, hh⟩
    · obtain ⟨h1, h2, h3, h4⟩ := leaveHome_tables w i
      refine ⟨h1.trans h.slots, h2, h3, h4, fun x hx hne => ?_⟩
      obtain ⟨k1, k2, k3⟩ := slotAt_leaveHome_law h hx
      refine ⟨k1, k2 ?_, k3⟩
      rcases hg with rfl | ⟨rfl, -⟩
      · exact fun hx => hne (Option.some.inj hx).symm
      · nofun
    · refine ⟨h.slots, rfl, rfl, rfl, fun x hx hne => ⟨rfl, ?_, fun _ => rfl⟩⟩
      rw [if_neg]
      · rfl
      · intro hr
        have hgx : g ≠ some x := by
          rcases hg with rfl | ⟨rfl, -⟩
          · exact fun hx => hne (Option.some.inj hx).symm
          · nofun
        obtain ⟨k, rfl⟩ | rfl := PlaceLaw.isScanned_cases hx
        · have := (h.law.kept k i hx hgx hr).2
          rw [hh] at this
          exact hne (by rw [Option.some.inj this])
        · rw [h.law.mail hgx] at hr
          cases hr
  obtain ⟨hlen, hcarts, hports, hcc, hslot⟩ := hv'
  obtain ⟨l, hl⟩ : ∃ l, w.locationOf i = some l := by
    rcases isAway_of_adrift h with h | ⟨d, h⟩ <;> exact ⟨_, h⟩
  obtain ⟨c, hc, -⟩ := exists_cart_of_location hl
  have hcart : ∀ k, (v.putSlot e r).cart k = w.cart k := fun k => by rw [cart_putSlot, cart, hcarts, cart]
  have hc' : (v.putSlot e r).cart i = some c := (hcart i).trans hc
  obtain ⟨ps, pc, pp, pcc⟩ := putSlot_tables v e r
  obtain ⟨ms, -, ml, -, -⟩ := modCart_tables (v.putSlot e r) i f
  refine ⟨h.law.stow (i := i) he hg hn (fun k => ?_) (fun k => ?_) (fun x hx => ?_) (fun x hx => ?_) (fun x hx hne hri => ?_) ?_,
    fun k hk => ?_, (congrArg List.length ms).trans (ps.trans hlen), ml.trans (by rw [pc, hcarts, h.carts])⟩
  · rw [locationOf_modCart hc', (hf c).1]
    split
    · rfl
    · rw [locationOf, hcart, locationOf]
  · rw [homeOf_modCart hc', (hf c).2]
    split
    · rfl
    · rw [homeOf, hcart, homeOf]
  · rw [holds_modCart, holds_putSlot hlen he r hx, hr]
    split
    · rfl
    next hne =>
      by_cases hs : Element.isScanned x
      · rw [holds_eq_holder hs, holds_eq_holder hs, (hslot x hs hne).1]
      · exact holds_congr hports hcc hs hx
  · rw [resv_modCart, resv_putSlot hlen he r hx, hr]
    by_cases hxe : x = e
    · rw [if_pos hxe, if_pos (.inl hxe)]
    · rw [if_neg hxe, resv, (hslot x hx hxe).2.1]
      by_cases hri : w.resv x = some i
      · rw [if_pos hri, if_pos (.inr hri)]
      · rw [if_neg hri, if_neg (by rintro (h | h); exacts [hxe h, hri h])]
  · rw [slotState_modCart, slotState_putSlot hlen he r hx, if_neg hne, slotState, (hslot x hx hne).2.2 hri, slotState]
  · rw [slotState_modCart, slotState_putSlot hlen he r he, if_pos rfl, hr]
  · rw [locationOf_modCart hc', (hf c).1] at hk
    split at hk
    · cases hk
    next hne =>
      rw [claimOf_modCart hc', if_neg hne, claimOf, hcart]
      exact h.claims k (by rwa [locationOf, hcart] at hk)

theorem makeRoom_holds {i : Option Nat} {e : Element} (h : w.Placed none a) (he : Element.isScanned e) {x : Element}
    (hx : Element.inLibrary x) : (w.makeRoom i e).holds x = w.holds x := by
  have hhome : ∀ (v : W) k, (v.makeHomeless k).holds x = v.holds x := fun v k => by
    refine Eq.trans ?_ (holds_modCart v k (fun r => { r with home := none }) x)
    cases x <;> rfl
  have habs : ∀ j, w.locationOf j = some e → (w.becomeAbsent j).holds x = w.holds x := fun j hj =>
    (becomeAbsent_views h (fun _ _ => nofun) hj).2.2.2.1 x hx
  unfold W.makeRoom
  dsimp only
  split
  next v hv =>
    have hnone : (w.slotAt e).holder = none := (holds_eq_holder he).symm.trans (holds_none_of_resv h he hv)
    simp only [hnone]
    split
    · rfl
    · exact hhome w v
  · split
    · split
      next hj => exact habs _ hj.2
      · rfl
    · rfl

/-- A cartridge carried is placed in a slot or M (R8). -/
theorem Placed.placed {i : Nat} {e : Element} (h : w.Placed none (some i)) (he : Element.isScanned e)
    (hn : ∀ x, Element.inLibrary x → w.holds x ≠ some i) : (w.placed i e).Placed none none := by
  have hroom := h.makeRoom (i := some i) he (fun k hk => hk) (fun k hk => Option.some.inj hk ▸ hn e (PlaceLaw.scanned_inLibrary he))
  have hn' : ∀ x, Element.inLibrary x → (w.makeRoom (some i) e).holds x ≠ some i := fun x hx => by
    rw [makeRoom_holds h he hx]
    exact hn x hx
  obtain ⟨r, hr⟩ : ∃ r : SlotRec, r = { state := .occupied, holder := some i, reservedFor := none } := ⟨_, rfl⟩
  have hstow : ∀ {g'}, (w.makeRoom (some i) e).Placed g' (some i) →
      (g' = some e ∨ (g' = none ∧ (w.makeRoom (some i) e).holds e = none ∧ (w.makeRoom (some i) e).resv e = some i)) →
      (w.placed i e).Placed none none := by
    intro g' hp hg'
    obtain ⟨n, rfl⟩ | rfl := PlaceLaw.isScanned_cases he
    · unfold W.placed
      refine Placed.wantDispatch (hp.stow he hg' hn' ?_ rfl (fun c => ⟨rfl, rfl⟩))
      split
      next hh => exact .inr ⟨rfl, n, rfl, hh⟩
      · exact .inl rfl
    · exact Placed.wantDispatch (hp.stow he hg' hn' (.inl rfl) rfl (fun c => ⟨rfl, rfl⟩))
  rcases hroom with hp | ⟨hp, hh, k, hk, hr⟩
  · exact hstow hp (.inl rfl)
  · exact hstow hp (.inr ⟨rfl, hh, hk ▸ hr⟩)

/-- A cartridge carried is placed in a drive: its port has still to be told (R8). -/
theorem Placed.placed_drive {i : Nat} {d : Drive} (h : w.Placed none (some i)) (hn : ∀ x, Element.inLibrary x → w.holds x ≠ some i) :
    (w.placed i (.drive d)).Placed none (some i) ∧ (w.placed i (.drive d)).locationOf i = some (.drive d) ∧
      (w.placed i (.drive d)).ports = w.ports := by
  obtain ⟨l, hl⟩ : ∃ l, w.locationOf i = some l := by
    rcases isAway_of_adrift h with h | ⟨d, h⟩ <;> exact ⟨_, h⟩
  obtain ⟨c, hc, -⟩ := exists_cart_of_location hl
  obtain ⟨ms, -, ml, mp, -⟩ := modCart_tables w i (fun r => { r with location := some (.drive d) })
  have hloc := locationOf_modCart_location hc (.drive d)
  have hP : (w.modCart i fun r => { r with location := some (.drive d) }).Placed none (some i) :=
    ⟨(h.law.drift (isAway_of_adrift h) (PlaceLaw.away_drive d) hn hloc).congr (fun _ => rfl) (homeOf_modCart_location hc (.drive d))
      (fun x _ => holds_modCart ..) (fun x _ => resv_modCart ..) (fun x _ _ => .inl (slotState_modCart ..))
      (fun x _ _ => .inl (slotState_modCart ..)), claims_modCart_location h hc (.drive d), (congrArg List.length ms).trans h.slots,
      ml.trans h.carts⟩
  unfold W.placed
  dsimp only
  split
  · exact ⟨hP.wantDispatch.wantRehome, (hloc i).trans (if_pos rfl), mp⟩
  · exact ⟨hP.wantDispatch, (hloc i).trans (if_pos rfl), mp⟩

/-- An untracked cartridge is placed in a slot (R15). -/
theorem Placed.placedUntracked {e : Element} (h : w.Placed none none) (he : Element.inLibrary e) : (w.placedUntracked e).Placed none none := by
  have hput : ∀ e, Element.isScanned e → ((w.makeRoom none e).putSlot e (bareSlot .untracked)).Placed none none := by
    intro e he
    rcases h.makeRoom (i := none) he nofun nofun with hp | ⟨-, -, k, hk, -⟩
    · exact hp.closeSlot he rfl rfl
    · cases hk
  cases e with
  | slot n => exact hput (.slot n) he
  | mail => exact hput .mail trivial
  | drive d => exact h
  | picker => exact h

/-! ### The ports' reports -/

theorem portFaults_eq (w : W) (d : Drive) (reason : DriveReason) : (w.portFaults d reason).1 = (w.modPort d fun q =>
    { q with faultReason := some reason, position := none, pending := none, resetting := false }).enterPort d .faulted := rfl

theorem Placed.reportDown (h : w.Placed g a) (d : Drive) (n : Notice) : (w.reportDown d n).Placed g a := (h.emit _).emit _

theorem Placed.portFaults (h : w.Placed g a) (d : Drive) (reason : DriveReason) : (w.portFaults d reason).1.Placed g a := by
  rw [portFaults_eq]
  exact (h.modPort d (by rfl)).enterPort _ _

theorem Placed.placedIntoOccupied (h : w.Placed g a) (d : Drive) : (w.placedIntoOccupied d).Placed g a :=
  (h.portFaults d .transport).reportDown d _

theorem Placed.unmarkReturning (h : w.Placed g a) (i : Nat) : (w.unmarkReturning i).Placed g a := by
  unfold W.unmarkReturning
  split
  · exact h.of_tables rfl (fun _ => rfl) rfl
  · exact h

theorem Placed.endByPlace (h : w.Placed g a) (d : Drive) : (w.endByPlace d).Placed g a := by
  unfold W.endByPlace
  split
  · exact h.emit _
  · exact h

theorem endByPlace_holds (w : W) (d : Drive) (x : Element) : (w.endByPlace d).holds x = w.holds x := by
  unfold W.endByPlace
  split
  · cases x <;> rfl
  · rfl

/-- A record that a port named is displaced (R48). -/
theorem Placed.displaceFrom {d : Drive} {c : Contents} (h : w.Placed none c.record)
    (hc : ∀ i, c.record = some i → w.holds (.drive d) ≠ some i) :
    (w.displaceFrom d c).Placed (some (.drive d)) c.record ∨
      ((w.displaceFrom d c).Placed none c.record ∧ (w.displaceFrom d c).holds (.drive d) = none) := by
  unfold W.displaceFrom
  split
  next i hi =>
    have hheld : w.holds (.drive d) = some i := Contents.record_eq_some.2 hi
    rw [if_neg (by
      rintro rfl
      exact hc i rfl hheld)]
    refine .inl (Placed.unmarkReturning (h.becomeAbsent (h.law.held (.drive d) i trivial nofun hheld) fun hx => ?_) i)
    exact hc i hx hheld
  next hi => exact .inr ⟨h, by rw [holds, hi]; rfl⟩
  next hi => exact .inr ⟨h, by rw [holds, hi]; rfl⟩

theorem displaceFrom_location {d : Drive} {c : Contents} {i : Nat} (hi : c.record = some i) :
    (w.displaceFrom d c).locationOf i = w.locationOf i := by
  unfold W.displaceFrom
  split
  next j hj =>
    split
    · rfl
    next hne =>
      have hji : i ≠ j := by
        rintro rfl
        exact hne (Contents.record_eq_some.1 hi)
      refine Eq.trans ?_ (locationOf_becomeAbsent_other w hji)
      unfold W.unmarkReturning
      split <;> rfl
  · rfl
  · rfl

/-- Place completion for a drive's port (R48). -/
theorem Placed.portPlaced {d : Drive} {c : Contents} (h : w.Placed none c.record)
    (hc : ∀ i, c.record = some i → w.locationOf i = some (.drive d) ∧ w.holds (.drive d) ≠ some i) :
    (w.portPlaced d c).Placed none none := by
  have h1 := h.endByPlace d
  have hloc : ∀ i, (w.endByPlace d).locationOf i = w.locationOf i := fun i => by
    unfold W.endByPlace
    split <;> rfl
  have h2 := h1.displaceFrom (d := d) fun i hi => by
    rw [endByPlace_holds]
    exact (hc i hi).2
  have h3 : ((((w.endByPlace d).displaceFrom d c).modPort d fun p => { p with cartridge := c })).Placed none none := by
    cases hr : c.record with
    | none =>
      rw [hr] at h2
      rcases h2 with h2 | ⟨h2, hnone⟩
      · exact h2.closeDrive hr
      · exact h2.modPort d (hr.trans hnone.symm)
    | some i =>
      have hl : ((w.endByPlace d).displaceFrom d c).locationOf i = some (.drive d) := by
        rw [displaceFrom_location hr, hloc]
        exact (hc i hr).1
      rw [hr] at h2
      rcases h2 with h2 | ⟨h2, hnone⟩
      · exact h2.landDrive (.inl rfl) hl hr
      · exact h2.landDrive (.inr ⟨rfl, hnone⟩) hl hr
  unfold W.portPlaced
  dsimp only
  split
  · exact (h3.modPort d (by rfl)).enterPort _ _
  all_goals first | exact h3 | exact h3.placedIntoOccupied d

/-- Place completion at an element (R27). -/
theorem Placed.placeAt {dest : Element} (h : w.Placed none none) (hd : Element.isDestination dest)
    (hq : ∀ (v : W) l, v.Placed none none → (v.queueScan l).1.Placed none none) : (w.placeAt dest).Placed none none := by
  obtain ⟨hlib, hpick⟩ := hd
  have h1 : (w.modCC fun cc => { cc with picker := .none, pickedFrom := none }).Placed none w.cc.picker.record := h.letGo rfl
  have hloc : ∀ i, w.cc.picker.record = some i → w.locationOf i = some .picker := fun i hi => picker_located h hi
  generalize hv : (w.modCC fun cc => { cc with picker := .none, pickedFrom := none }) = v at h1
  have hvloc : ∀ i, v.locationOf i = w.locationOf i := fun i => by rw [← hv]; rfl
  have hvp : v.cc.picker = .none := by rw [← hv]; rfl
  have hnh : ∀ i, w.cc.picker.record = some i → ∀ x, Element.inLibrary x → v.holds x ≠ some i := by
    intro i hi x hx hh
    have h1' := h1
    rw [hi] at h1'
    have := h1'.law.held x i hx nofun hh
    rw [hvloc, hloc i hi] at this
    obtain rfl := Option.some.inj this
    rw [holds, hvp] at hh
    cases hh
  unfold W.placeAt
  dsimp only
  rw [hv]
  cases hc : w.cc.picker with
  | cart i =>
    rw [hc] at h1 hnh
    dsimp only
    cases dest with
    | slot n => exact h1.placed (e := .slot n) hlib (hnh i rfl)
    | mail => exact h1.placed (e := .mail) trivial (hnh i rfl)
    | drive d =>
      obtain ⟨h2, h2l, h2p⟩ := h1.placed_drive (d := d) (hnh i rfl)
      refine h2.portPlaced (c := .cart i) fun k hk => ?_
      obtain rfl := Option.some.inj hk
      refine ⟨h2l, ?_⟩
      rw [holds, port, h2p]
      exact hnh _ rfl (.drive d) trivial
    | picker => exact absurd rfl hpick
  | untracked =>
    rw [hc] at h1
    dsimp only
    cases dest with
    | slot n => exact h1.placedUntracked (e := .slot n) hlib
    | mail =>
      rw [if_pos rfl]
      exact hq _ _ (h1.placedUntracked (e := .mail) trivial)
    | drive d =>
      rw [if_neg nofun]
      exact (h1.placedUntracked (e := .drive d) trivial).portPlaced (c := .untracked) fun _ hk => by cases hk
    | picker => exact absurd rfl hpick
  | none =>
    rw [hc] at h1
    dsimp only
    cases dest with
    | slot n => exact h1
    | mail => exact h1
    | drive d => exact Placed.portPlaced (c := .none) h1 fun _ hk => by cases hk
    | picker => exact absurd rfl hpick

/-! ### A cartridge found in a drive (R16, R62, R69) -/

theorem cartAt_some {e : Element} {i : Nat} (h : w.cartAt e = some i) : w.locationOf i = some e := by
  have hi := List.find?_some h
  split at hi
  next c hc => rw [locationOf, hc, Option.bind_some, of_decide_eq_true hi]
  · cases hi

theorem cartAt_none {e : Element} (hlen : w.ct.carts.length = 64) (h : w.cartAt e = none) (i : Nat) : w.locationOf i ≠ some e := by
  intro hl
  obtain ⟨c, hc, hcl⟩ := exists_cart_of_location hl
  have := List.find?_eq_none.1 h i (List.mem_range.2 (cart_lt hlen hc))
  rw [hc] at this
  exact this (decide_eq_true hcl)

/-- A port reports the cartridge in its drive, and takes the match (R16). -/
theorem Placed.reportFound {d : Drive} (h : w.Placed none none) : (w.reportFound d).Placed none none := by
  unfold W.reportFound W.driveReports
  cases hat : w.cartAt (.drive d) with
  | some i =>
    dsimp only
    refine h.modPort d ?_
    obtain ⟨-, ⟨hh, -⟩ | ha⟩ := h.law.located i _ (cartAt_some hat)
    · exact hh.symm
    · cases ha
  | none =>
    have hnone : w.holds (.drive d) = none := by
      by_contra hne
      obtain ⟨k, hk⟩ := Option.ne_none_iff_exists'.1 hne
      exact cartAt_none h.carts hat k (h.law.held (.drive d) k trivial nofun hk)
    cases hall : w.allocate with
    | none =>
      dsimp only
      exact (h.note _).modPort d hnone.symm
    | some i =>
      obtain ⟨hi, hl⟩ := allocate_absent hall
      dsimp only
      generalize hc : startRecord none none .foreign (.drive d) none w.ct.scanNumber false = c
      have hcl : c.location = some (.drive d) ∧ c.home = none := by rw [← hc]; exact ⟨rfl, rfl⟩
      have hcart : ∀ k, (w.putCart i (some c)).cart k = if k = i then some c else w.cart k := cart_putCart h.carts hi _
      have hput : ((w.putCart i (some c)).modPort d fun p => { p with cartridge := .cart i }).Placed none none := by
        refine ⟨(h.law.opened (e := .drive d) hnone fun he => he.elim).arrive (i := i) trivial hl nofun (fun k => ?_) (fun k => ?_)
          (fun x _ => ?_) (fun x hx => ?_) (fun x hx => ?_), fun k hk => ?_, h.slots, List.length_set.trans h.carts⟩
        · refine (congrArg (fun c => Option.bind c CartRec.location) (hcart k)).trans ?_
          split
          · exact hcl.1
          · rfl
        · refine (congrArg (fun c => Option.bind c CartRec.home) (hcart k)).trans ?_
          split
          · exact hcl.2
          · rfl
        · rw [holds_modPort]
          split
          · rfl
          · cases x <;> rfl
        · rw [if_neg (show ¬x = .drive d by rintro rfl; exact hx)]
          cases x <;> rfl
        · rw [if_neg (show ¬x = .drive d by rintro rfl; exact hx)]
          cases x <;> rfl
        · have hk' : ((w.putCart i (some c)).cart k).bind CartRec.location = none := hk
          rw [hcart] at hk'
          refine (congrArg (fun c => Option.bind c CartRec.claim) (hcart k)).trans ?_
          split at hk'
          · rw [Option.bind_some, hcl.1] at hk'
            cases hk'
          next hne =>
            rw [if_neg hne]
            exact h.claims k hk'
      exact hput.of_tables rfl (fun _ => rfl) rfl

/-- A port leaves its reset sequence (R69). -/
theorem Placed.leaveReset (h : w.Placed none none) (d : Drive) : (w.leaveReset d).Placed none none := by
  have h1 : (w.modPort d fun p => { p with resetting := false }).Placed none none := h.modPort d (by rfl)
  unfold W.leaveReset
  dsimp only
  refine Placed.emit ?_ _
  generalize (w.modPort d fun p => { p with resetting := false }) = v at h1
  have h2 : (if (v.port d).state = .ready then v.modPort d fun q => { q with position := none } else v).Placed none none := by
    split
    · exact h1.modPort d (by rfl)
    · exact h1
  have hif : ∀ (c : Prop) [Decidable c] (u : W), u.Placed none none → (if c then u.reportFound d else u).Placed none none := by
    intro c _ u hu
    split
    · exact hu.reportFound
    · exact hu
  exact hif _ _ h2

theorem Placed.selfTestPasses (h : w.Placed none none) (d : Drive) (holds' : MediaSense) : (w.selfTestPasses d holds').Placed none none := by
  unfold W.selfTestPasses
  dsimp only
  have h1 : (w.modPort d fun q =>
    { q with selfTest := none, faultReason := none, wasAbsent := false, mediaSensed := some holds', position := none,
             recovered := decide (holds' = .threaded) }).Placed none none := h.modPort d (by rfl)
  have hport : (w.modPort d fun q =>
    { q with selfTest := none, faultReason := none, wasAbsent := false, mediaSensed := some holds', position := none,
             recovered := decide (holds' = .threaded) }).holds (.drive d) = (w.port d).cartridge.record := by
    rw [holds_modPort, if_pos rfl]
  generalize (w.modPort d fun q =>
    { q with selfTest := none, faultReason := none, wasAbsent := false, mediaSensed := some holds', position := none,
             recovered := decide (holds' = .threaded) }) = v at h1 hport
  refine Placed.emit ?_ _
  have hnote : ∀ (c : Prop) [Decidable c] (u : W) (n : Notice), u.Placed none none → (if c then u.note n else u).Placed none none := by
    intro c _ u n hu
    split
    · exact hu.note _
    · exact hu
  refine hnote _ _ _ ?_
  split
  · refine Placed.enterPort ?_ _ _
    split
    next i hi =>
      rw [hi] at hport
      exact (h1.becomeAbsent (h1.law.held (.drive d) i trivial nofun hport) nofun).closeDrive rfl
    next hi =>
      rw [hi] at hport
      exact h1.modPort d hport.symm
    next hi =>
      rw [hi] at hport
      exact h1.modPort d hport.symm
  · exact h1.reportFound.enterPort _ _
  · exact h1.reportFound.enterPort _ _

end

end W

end Sys2Proof.Machine

/-! PROOF. The law that every step keeps (R5): the law of places without a gap, and elements of the library wherever the changer
and its moves name one. It is a property of the table, the changer, the ports and the moves held. -/

namespace Sys2Proof.Machine

/-- The elements named are the library's: `Lib.ElementsSound`, of the two parts it is about. -/
def elementsOk (cc : Changer) (held : List HeldMove) : Prop :=
  Lib.ElementsSound { resetLib with cc := cc, js := { resetScheduler with heldMoves := held } }

/-- The law of places, of the three parts it is about. -/
def placesOk (ct : CartTable) (cc : Changer) (ports : Pair Port) : Prop :=
  W.Placed none none { toLib := { resetLib with ct := ct, cc := cc, ports := ports }, set := [], out := [] }

/-- Both, of the parts they are about. -/
def lawOk (ct : CartTable) (cc : Changer) (ports : Pair Port) (held : List HeldMove) : Prop :=
  placesOk ct cc ports ∧ elementsOk cc held

namespace W

/-- The elements named by a working state are the library's. -/
def Elements (w : W) : Prop := elementsOk w.cc w.js.heldMoves

/-- Law R5 and the elements, of a working state. -/
def Lawful (w : W) : Prop := lawOk w.ct w.cc w.ports w.js.heldMoves

theorem elements_iff (w : W) : w.Elements ↔ w.toLib.ElementsSound :=
  ⟨fun ⟨h1, h2, h3, h4, h5, h6⟩ => ⟨h1, h2, h3, h4, h5, h6⟩, fun ⟨h1, h2, h3, h4, h5, h6⟩ => ⟨h1, h2, h3, h4, h5, h6⟩⟩

theorem placesOk_iff (w : W) : placesOk w.ct w.cc w.ports ↔ w.Placed none none :=
  ⟨fun h => h.of_tables rfl (fun _ => rfl) rfl, fun h => h.of_tables rfl (fun _ => rfl) rfl⟩

theorem lawful_iff (w : W) : w.Lawful ↔ w.Placed none none ∧ w.Elements := and_congr_left' (placesOk_iff w)

theorem Lawful.placed {w : W} (h : w.Lawful) : w.Placed none none := (w.placesOk_iff).1 h.1

theorem Lawful.elements {w : W} (h : w.Lawful) : w.Elements := h.2

theorem Lawful.intro {w : W} (hp : w.Placed none none) (he : w.Elements) : w.Lawful := (lawful_iff w).2 ⟨hp, he⟩

theorem Lawful.sound {w : W} (h : w.Lawful) : w.toLib.ElementsSound := (elements_iff w).1 h.elements

/-! ### How simp sees them -/

@[simp] theorem elements_mk (mode gateOpen pins ct cc ports js streams coder cg signals dd rd cd set out) :
    (W.mk (Lib.mk mode gateOpen pins ct cc ports js streams coder cg signals dd rd cd) set out).Elements ↔
      elementsOk cc js.heldMoves := Iff.rfl

@[simp] theorem elements_fold (w : W) : elementsOk w.cc w.js.heldMoves ↔ w.Elements := Iff.rfl

@[simp] theorem lawful_mk (mode gateOpen pins ct cc ports js streams coder cg signals dd rd cd set out) :
    (W.mk (Lib.mk mode gateOpen pins ct cc ports js streams coder cg signals dd rd cd) set out).Lawful ↔
      lawOk ct cc ports js.heldMoves := Iff.rfl

@[simp] theorem lawful_fold (w : W) : lawOk w.ct w.cc w.ports w.js.heldMoves ↔ w.Lawful := Iff.rfl

@[simp] theorem elements_ite (c : Prop) [Decidable c] (a b : W) (ha : a.Elements) (hb : b.Elements) :
    (if c then a else b).Elements := by split <;> assumption

@[simp] theorem lawful_ite (c : Prop) [Decidable c] (a b : W) (ha : a.Lawful) (hb : b.Lawful) :
    (if c then a else b).Lawful := by split <;> assumption

@[simp] theorem lawful_fst_ite {α : Type} (c : Prop) [Decidable c] (a b : W × α) (ha : a.1.Lawful) (hb : b.1.Lawful) :
    (if c then a else b).1.Lawful := by split <;> assumption

theorem elements_foldl {α : Type} (f : W → α → W) (h : ∀ w a, w.Elements → (f w a).Elements) (l : List α) (w : W)
    (hw : w.Elements) : (l.foldl f w).Elements := by
  induction l generalizing w with
  | nil => exact hw
  | cons a l ih => exact ih _ (h _ _ hw)

@[simp] theorem lawful_foldl {α : Type} (f : W → α → W) (h : ∀ w a, w.Lawful → (f w a).Lawful) (l : List α) (w : W)
    (hw : w.Lawful) : (l.foldl f w).Lawful := by
  induction l generalizing w with
  | nil => exact hw
  | cons a l ih => exact ih _ (h _ _ hw)

end W

@[simp] theorem Answer.lawful_ite (c : Prop) [Decidable c] (a b : Answer) (ha : a.w.Lawful) (hb : b.w.Lawful) :
    (if c then a else b).w.Lawful := by split <;> assumption

@[simp] theorem Element.inLibrary_mail : Element.inLibrary .mail := trivial

@[simp] theorem Element.inLibrary_drive (d : Drive) : Element.inLibrary (.drive d) := trivial

@[simp] theorem Element.inLibrary_picker : Element.inLibrary .picker := trivial

@[simp] theorem Element.isDestination_mail : Element.isDestination .mail := ⟨trivial, nofun⟩

@[simp] theorem Element.isDestination_drive (d : Drive) : Element.isDestination (.drive d) := ⟨trivial, nofun⟩

theorem Element.isDestination_slot {n : Nat} (h : Element.inLibrary (.slot n)) : Element.isDestination (.slot n) := ⟨h, nofun⟩

@[simp] theorem Move.inLibrary_mk (id origin source asked dest expected attempts faulted putAway tried ticket cart) :
    Move.inLibrary (Move.mk id origin source asked dest expected attempts faulted putAway tried ticket cart) ↔
      Element.inLibrary source ∧ (∀ e, asked = .element e → Element.isDestination e) ∧
        ∀ e, dest = some e → Element.isDestination e := Iff.rfl

/-! ### The changer's record -/

/-- An entry in execution names elements of the library. -/
def Entry.inLibrary : Entry → Prop
  | .move m => Move.inLibrary m
  | .scan x => Scan.inLibrary x

/-- A step interrupted by a reset names elements of the library. -/
def Interrupted.inLibrary (x : Interrupted) : Prop :=
  Element.inLibrary x.source ∧ ∀ e, x.dest = some e → Element.isDestination e

/-- A value that is kept, or dropped, or one with a property. -/
def keptOr {α : Type} (P : α → Prop) (old new : Option α) : Prop := new = old ∨ ∀ x, new = some x → P x

@[simp] theorem keptOr_self {α : Type} (P : α → Prop) (o : Option α) : keptOr P o o := .inl rfl

@[simp] theorem keptOr_none {α : Type} (P : α → Prop) (o : Option α) : keptOr P o none := .inr nofun

@[simp] theorem keptOr_some {α : Type} {P : α → Prop} {o : Option α} {x : α} (h : P x) : keptOr P o (some x) :=
  .inr fun _ hy => Option.some.inj hy ▸ h

/-- A changer record whose names are those of another, or of the library. -/
structure Changer.Names (c c' : Changer) : Prop where
  queue : ∀ m ∈ c'.queue, m ∈ c.queue ∨ Move.inLibrary m
  current : keptOr Entry.inLibrary c.current c'.current
  scanEntry : keptOr Scan.inLibrary c.scanEntry c'.scanEntry
  closeScan : keptOr Scan.inLibrary c.closeScan c'.closeScan
  pickedFrom : keptOr Element.inLibrary c.pickedFrom c'.pickedFrom
  interrupted : keptOr Interrupted.inLibrary c.interrupted c'.interrupted

theorem Changer.Names.elements {c c' : Changer} {held : List HeldMove} (hn : Changer.Names c c') (h : elementsOk c held) :
    elementsOk c' held := by
  obtain ⟨h1, h2, h3, h4, h5, h6⟩ := h
  obtain ⟨n1, n2, n3, n4, n5, n6⟩ := hn
  refine ⟨fun m hm => (n1 m hm).elim (h1 m) id, fun m hm => ?_, fun x hx => ?_, h4, fun e he => ?_, fun x hx => ?_⟩
  · exact n2.elim (fun e => h2 m (e ▸ hm)) fun h => h _ hm
  · rcases hx with hx | hx | hx
    · exact n2.elim (fun e => h3 x (.inl (e ▸ hx))) fun h => h _ hx
    · exact n3.elim (fun e => h3 x (.inr (.inl (e ▸ hx)))) fun h => h _ hx
    · exact n4.elim (fun e => h3 x (.inr (.inr (e ▸ hx)))) fun h => h _ hx
  · exact n5.elim (fun k => h5 e (k ▸ he)) fun h => h _ he
  · exact n6.elim (fun k => h6 x (k ▸ hx)) fun h => h _ hx

namespace W

section
variable {w : W} (f : Changer → Changer) (hp : (f w.cc).picker = w.cc.picker) (hn : Changer.Names w.cc (f w.cc))
include hn

theorem Elements.modCC (h : w.Elements) : (w.modCC f).Elements := hn.elements h

include hp

theorem Lawful.modCC (h : w.Lawful) : (w.modCC f).Lawful :=
  .intro (h.placed.modCC (by rw [hp])) (h.elements.modCC f hn)

end

/-- What the changer's record names may only be dropped. -/
@[simp] theorem modCC_elements {w : W} (f : Changer → Changer) (hB : w.Elements) (hq : (f w.cc).queue = w.cc.queue)
    (h1 : keptOr Entry.inLibrary w.cc.current (f w.cc).current) (h2 : keptOr Scan.inLibrary w.cc.scanEntry (f w.cc).scanEntry)
    (h3 : keptOr Scan.inLibrary w.cc.closeScan (f w.cc).closeScan)
    (h4 : keptOr Element.inLibrary w.cc.pickedFrom (f w.cc).pickedFrom)
    (h5 : keptOr Interrupted.inLibrary w.cc.interrupted (f w.cc).interrupted) : (w.modCC f).Elements :=
  hB.modCC f ⟨fun _ hm => .inl (hq ▸ hm), h1, h2, h3, h4, h5⟩

/-- The changer's fields that name no element are no part of the law. -/
@[simp] theorem modCC_lawful_iff {w : W} (f : Changer → Changer) (hp : (f w.cc).picker = w.cc.picker)
    (hq : (f w.cc).queue = w.cc.queue) (h1 : (f w.cc).current = w.cc.current) (h2 : (f w.cc).scanEntry = w.cc.scanEntry)
    (h3 : (f w.cc).closeScan = w.cc.closeScan) (h4 : (f w.cc).pickedFrom = w.cc.pickedFrom)
    (h5 : (f w.cc).interrupted = w.cc.interrupted) : (w.modCC f).Lawful ↔ w.Lawful :=
  ⟨fun h => .intro (h.placed.of_tables rfl (fun _ => rfl) hp.symm) (Changer.Names.elements (c := f w.cc)
      ⟨fun _ hm => .inl (hq ▸ hm), .inl h1.symm, .inl h2.symm, .inl h3.symm, .inl h4.symm, .inl h5.symm⟩ h.elements),
    fun h => .intro (h.placed.modCC (by rw [hp])) (h.elements.modCC f
      ⟨fun _ hm => .inl (hq ▸ hm), .inl h1, .inl h2, .inl h3, .inl h4, .inl h5⟩)⟩

@[simp] theorem modCC_lawful {w : W} (f : Changer → Changer) (hB : w.Lawful) (hp : (f w.cc).picker = w.cc.picker)
    (hq : (f w.cc).queue = w.cc.queue) (h1 : keptOr Entry.inLibrary w.cc.current (f w.cc).current)
    (h2 : keptOr Scan.inLibrary w.cc.scanEntry (f w.cc).scanEntry) (h3 : keptOr Scan.inLibrary w.cc.closeScan (f w.cc).closeScan)
    (h4 : keptOr Element.inLibrary w.cc.pickedFrom (f w.cc).pickedFrom)
    (h5 : keptOr Interrupted.inLibrary w.cc.interrupted (f w.cc).interrupted) : (w.modCC f).Lawful :=
  hB.modCC f hp ⟨fun _ hm => .inl (hq ▸ hm), h1, h2, h3, h4, h5⟩

/-! ### Operations that leave both parts -/

@[simp] theorem note_elements (w : W) (n : Notice) : (w.note n).Elements ↔ w.Elements := Iff.rfl
@[simp] theorem emit_elements (w : W) (s : Signal) : (w.emit s).Elements ↔ w.Elements := Iff.rfl
@[simp] theorem wantDispatch_elements (w : W) : w.wantDispatch.Elements ↔ w.Elements := Iff.rfl
@[simp] theorem wantRehome_elements (w : W) : w.wantRehome.Elements ↔ w.Elements := Iff.rfl
@[simp] theorem modTally_elements (w : W) (f : ScanTally → ScanTally) : (w.modTally f).Elements ↔ w.Elements := Iff.rfl
@[simp] theorem modPort_elements (w : W) (d : Drive) (f : Port → Port) : (w.modPort d f).Elements ↔ w.Elements := Iff.rfl
@[simp] theorem stopIdle_elements (w : W) (d : Drive) : (w.stopIdle d).Elements ↔ w.Elements := Iff.rfl

@[simp] theorem note_lawful (w : W) (n : Notice) : (w.note n).Lawful ↔ w.Lawful := Iff.rfl
@[simp] theorem emit_lawful (w : W) (s : Signal) : (w.emit s).Lawful ↔ w.Lawful := Iff.rfl
@[simp] theorem wantDispatch_lawful (w : W) : w.wantDispatch.Lawful ↔ w.Lawful := Iff.rfl
@[simp] theorem wantRehome_lawful (w : W) : w.wantRehome.Lawful ↔ w.Lawful := Iff.rfl
@[simp] theorem recordFreed_lawful (w : W) : w.recordFreed.Lawful ↔ w.Lawful := Iff.rfl
@[simp] theorem sensePicker_lawful (w : W) (b : Bool) : (w.sensePicker b).Lawful ↔ w.Lawful := Iff.rfl
@[simp] theorem stopIdle_lawful (w : W) (d : Drive) : (w.stopIdle d).Lawful ↔ w.Lawful := Iff.rfl
@[simp] theorem markReturning_lawful (w : W) (i : Nat) : (w.markReturning i).Lawful ↔ w.Lawful := Iff.rfl
@[simp] theorem putDriveClaim_lawful (w : W) (d : Drive) (c : Option Nat) : (w.putDriveClaim d c).Lawful ↔ w.Lawful := Iff.rfl
@[simp] theorem putStream_lawful (w : W) (d : Drive) (s : Stream) : (w.putStream d s).Lawful ↔ w.Lawful := Iff.rfl
@[simp] theorem modStream_lawful (w : W) (d : Drive) (f : Stream → Stream) : (w.modStream d f).Lawful ↔ w.Lawful := Iff.rfl

@[simp] theorem unmarkReturning_elements (w : W) (i : Nat) : (w.unmarkReturning i).Elements ↔ w.Elements := by
  unfold W.unmarkReturning; split <;> rfl

@[simp] theorem unmarkReturning_lawful (w : W) (i : Nat) : (w.unmarkReturning i).Lawful ↔ w.Lawful := by
  unfold W.unmarkReturning; split <;> rfl

/-- A port's fields other than its cartridge are no part of the law. -/
@[simp] theorem modPort_lawful {w : W} (d : Drive) (f : Port → Port) (hf : (f (w.port d)).cartridge = (w.port d).cartridge) :
    (w.modPort d f).Lawful ↔ w.Lawful := by
  have hport : ∀ e, ((w.modPort d f).port e).cartridge = (w.port e).cartridge := fun e => by
    cases d <;> cases e <;> first | rfl | exact hf
  exact ⟨fun h => .intro (h.placed.of_tables rfl (fun e => (hport e).symm) rfl) h.elements,
    fun h => .intro (h.placed.of_tables rfl hport rfl) h.elements⟩

/-- A record's fields other than its place, its home and, when it is absent, its claim are no part of the law. -/
@[simp] theorem modCart_lawful {w : W} (i : Nat) (f : CartRec → CartRec)
    (hf : ∀ c, w.cart i = some c → (f c).location = c.location ∧ (f c).home = c.home ∧ (c.location = none → (f c).claim = c.claim)) :
    (w.modCart i f).Lawful ↔ w.Lawful := by
  have hE : (w.modCart i f).Elements ↔ w.Elements := by
    rw [Elements, (modCart_tables w i f).2.2.2.2, (tableOnly_modCart w i f).js]
    rfl
  refine ⟨fun h => .intro ?_ (hE.1 h.elements), fun h => .intro (h.placed.modCart i f hf) (hE.2 h.elements)⟩
  obtain ⟨hp, -⟩ := (lawful_iff _).1 h
  obtain ⟨hs, -, hl, -, -⟩ := modCart_tables w i f
  cases hc : w.cart i with
  | none => rwa [modCart_of_none hc] at hp
  | some c =>
    obtain ⟨h1, h2, h3⟩ := hf c hc
    have hloc : ∀ k, w.locationOf k = (w.modCart i f).locationOf k := fun k => by
      rw [locationOf_modCart hc]
      split
      next e => rw [h1, e, locationOf, hc, Option.bind_some]
      · rfl
    have hhome : ∀ k, w.homeOf k = (w.modCart i f).homeOf k := fun k => by
      rw [homeOf_modCart hc]
      split
      next e => rw [h2, e, homeOf, hc, Option.bind_some]
      · rfl
    refine ⟨hp.law.congr hloc hhome (fun e _ => (holds_modCart ..).symm) (fun e _ => (resv_modCart ..).symm)
      (fun e _ _ => .inl (slotState_modCart ..).symm) (fun e _ _ => .inl (slotState_modCart ..).symm), fun k hk => ?_,
      hs ▸ hp.slots, hl ▸ hp.carts⟩
    have hclaim := hp.claims k ((hloc k).symm.trans hk)
    rw [claimOf_modCart hc] at hclaim
    split at hclaim
    next e =>
      rw [e, locationOf, hc, Option.bind_some] at hk
      rw [e, claimOf, hc, Option.bind_some, ← h3 hk, hclaim]
    · exact hclaim

/-- The parts that no operation of the table writes. -/
theorem tableOnly.elements {w v : W} (h : w.tableOnly v) (hB : w.Elements) : v.Elements := by
  rw [Elements, h.cc, h.js]
  exact hB

end W

end Sys2Proof.Machine

/-! PROOF. The elements named through the operations of the Cartridge Table and the ports, which write none, and the law through
those operations. -/

namespace Sys2Proof.Machine

@[simp] theorem W.putSlot_elements (w : W) (e : Element) (r : SlotRec) :
    (W.putSlot w e r).Elements ↔ w.Elements := by
  unfold W.putSlot; (repeat' split) <;> simp

@[simp] theorem W.putCart_elements (w : W) (i : Nat) (c : Option CartRec) :
    (W.putCart w i c).Elements ↔ w.Elements := by
  rfl

@[simp] theorem W.modCart_elements (w : W) (i : Nat) (f : CartRec → CartRec) :
    (W.modCart w i f).Elements ↔ w.Elements := by
  unfold W.modCart; (repeat' split) <;> simp

@[simp] theorem W.setMedia_elements (w : W) (i : Nat) (s : MediaState) (cause : StateCause) :
    (W.setMedia w i s cause).Elements ↔ w.Elements := by
  unfold W.setMedia; (repeat' split) <;> simp

@[simp] theorem W.emptySlot_elements (w : W) (e : Element) :
    (W.emptySlot w e).Elements ↔ w.Elements := by
  unfold W.emptySlot; (repeat' split) <;> simp

@[simp] theorem W.leaveHome_elements (w : W) (i : Nat) (hB : w.Elements) :
    (W.leaveHome w i).Elements := by
  unfold W.leaveHome; (repeat' split) <;> simp [hB]

@[simp] theorem W.vacateSlot_elements (w : W) (e : Element) : (W.vacateSlot w e).Elements ↔ w.Elements := by
  unfold W.vacateSlot; split <;> simp

@[simp] theorem W.releaseHome_elements (w : W) (i : Nat) (hB : w.Elements) :
    (W.releaseHome w i).Elements := by
  unfold W.releaseHome; (repeat' split) <;> simp [hB]

@[simp] theorem W.becomeAbsent_elements (w : W) (i : Nat) (hB : w.Elements) :
    (W.becomeAbsent w i).Elements := by
  unfold W.becomeAbsent; (repeat' split) <;> simp [hB]

@[simp] theorem W.makeHomeless_elements (w : W) (i : Nat) :
    (W.makeHomeless w i).Elements ↔ w.Elements := by
  simp [W.makeHomeless]

@[simp] theorem W.rehomeOne_elements (w : W) (i : Nat) :
    (W.rehomeOne w i).Elements ↔ w.Elements := by
  unfold W.rehomeOne; (repeat' split) <;> simp

@[simp] theorem W.rehome_elements (w : W) (hB : w.Elements) :
    (W.rehome w).Elements := by
  have h := hB
  unfold W.rehome; exact W.elements_foldl _ (fun v n hv => by simp [hv]) _ _ h

@[simp] theorem W.scanStarted_elements (w : W) (range : List Element) :
    (W.scanStarted w range).Elements ↔ w.Elements := by
  rfl

@[simp] theorem W.scanCompleted_elements (w : W) (hB : w.Elements) :
    (W.scanCompleted w).Elements := by
  unfold W.scanCompleted; (repeat' split) <;> simp [hB]

@[simp] theorem W.scanAbsent_elements (w : W) (i : Nat) (hB : w.Elements) :
    (W.scanAbsent w i).Elements := by
  simp [W.scanAbsent, hB]

@[simp] theorem W.scanPlace_elements (w : W) (e : Element) (i : Nat) :
    (W.scanPlace w e i).Elements ↔ w.Elements := by
  simp [W.scanPlace]

@[simp] theorem W.scanCreate_elements (w : W) (e : Element) (label : Option Label) (state : MediaState) (duplicate : Bool) :
    (W.scanCreate w e label state duplicate).Elements ↔ w.Elements := by
  unfold W.scanCreate; (repeat' split) <;> simp

@[simp] theorem W.scanIdentify_elements (w : W) (e : Element) (found : Option Label) :
    (W.scanIdentify w e found).Elements ↔ w.Elements := by
  unfold W.scanIdentify; (repeat' split) <;> simp

@[simp] theorem W.scanCartridge_elements (w : W) (e : Element) (found : Option Label) (hB : w.Elements) :
    (W.scanCartridge w e found).Elements := by
  unfold W.scanCartridge; dsimp only; (repeat' split) <;> simp [hB]

@[simp] theorem W.scanEmpty_elements (w : W) (e : Element) (hB : w.Elements) :
    (W.scanEmpty w e).Elements := by
  unfold W.scanEmpty; dsimp only; (repeat' split) <;> simp [hB]

@[simp] theorem W.slotRemoved_elements (w : W) (counted : Bool) (n : Nat) (hB : w.Elements) :
    (W.slotRemoved w counted n).Elements := by
  unfold W.slotRemoved; dsimp only; (repeat' split) <;> simp [hB]

@[simp] theorem W.scanResult_elements (w : W) (e : Element) (f : SlotFinding) (hB : w.Elements) :
    (W.scanResult w e f).Elements := by
  unfold W.scanResult; (repeat' split) <;> simp [hB]

@[simp] theorem W.frontOpened_elements (w : W) :
    (W.frontOpened w).Elements ↔ w.Elements := by
  rfl

@[simp] theorem W.magazineGone_elements (w : W) (m : Magazine) (hB : w.Elements) :
    (W.magazineGone w m).Elements := by
  have h := hB
  unfold W.magazineGone; exact W.elements_foldl _ (fun v n hv => by simp [hv]) _ _ h

@[simp] theorem W.magazineBack_elements (w : W) (m : Magazine) (hB : w.Elements) :
    (W.magazineBack w m).Elements := by
  have h := hB
  unfold W.magazineBack; exact W.elements_foldl _ (fun v n hv => by simp [hv]) _ _ h

@[simp] theorem W.mailOpened_elements (w : W) :
    (W.mailOpened w).Elements ↔ w.Elements := by
  rfl

@[simp] theorem W.mailClosed_elements (w : W) :
    (W.mailClosed w).Elements ↔ w.Elements := by
  rfl

@[simp] theorem W.extracted_elements (w : W) (i : Nat) (source : Element) :
    (W.extracted w i source).Elements ↔ w.Elements := by
  unfold W.extracted; (repeat' split) <;> simp

@[simp] theorem W.extractedUntracked_elements (w : W) (source : Element) :
    (W.extractedUntracked w source).Elements ↔ w.Elements := by
  simp [W.extractedUntracked]

@[simp] theorem W.makeRoom_elements (w : W) (i : Option Nat) (e : Element) (hB : w.Elements) :
    (W.makeRoom w i e).Elements := by
  unfold W.makeRoom; dsimp only; (repeat' split) <;> simp [hB]

@[simp] theorem W.placed_elements (w : W) (i : Nat) (dest : Element) (hB : w.Elements) :
    (W.placed w i dest).Elements := by
  have hroom : ∀ e, (w.makeRoom (some i) e).Elements := fun e => by simp [hB]
  unfold W.placed; (repeat' split) <;> simp [hB, hroom]

@[simp] theorem W.placedUntracked_elements (w : W) (dest : Element) (hB : w.Elements) :
    (W.placedUntracked w dest).Elements := by
  unfold W.placedUntracked; (repeat' split) <;> simp [hB]

@[simp] theorem W.sourceFoundEmpty_elements (w : W) (e : Element) (hB : w.Elements) :
    (W.sourceFoundEmpty w e).Elements := by
  unfold W.sourceFoundEmpty; (repeat' split) <;> simp [hB]

@[simp] theorem W.takeLabel_elements (w : W) (i : Nat) (l : Label) (duplicate : Bool) :
    (W.takeLabel w i l duplicate).Elements ↔ w.Elements := by
  simp [W.takeLabel]

@[simp] theorem W.mergeInto_elements (w : W) (i : Nat) (y : Nat) :
    (W.mergeInto w i y).Elements ↔ w.Elements := by
  unfold W.mergeInto; (repeat' split) <;> simp

@[simp] theorem W.passageRead_elements (w : W) (i : Nat) (read : Option Label) :
    (W.passageRead w i read).1.Elements ↔ w.Elements := by
  unfold W.passageRead; (repeat' split) <;> simp

@[simp] theorem W.driveReports_elements (w : W) (d : Drive) :
    (W.driveReports w d).1.Elements ↔ w.Elements := by
  unfold W.driveReports; (repeat' split) <;> simp

@[simp] theorem W.enterPort_elements (w : W) (d : Drive) (s : PortState) :
    (W.enterPort w d s).Elements ↔ w.Elements := by
  unfold W.enterPort; dsimp only; (repeat' split) <;> simp

@[simp] theorem W.reportDown_elements (w : W) (d : Drive) (n : Notice) :
    (W.reportDown w d n).Elements ↔ w.Elements := by
  rfl

@[simp] theorem W.portFaults_elements (w : W) (d : Drive) (reason : DriveReason) :
    (W.portFaults w d reason).1.Elements ↔ w.Elements := by
  simp [W.portFaults]

@[simp] theorem W.leaveReset_elements (w : W) (d : Drive) (hB : w.Elements) :
    (W.leaveReset w d).Elements := by
  simp [W.leaveReset, hB]

@[simp] theorem W.reportFound_elements (w : W) (d : Drive) :
    (W.reportFound w d).Elements ↔ w.Elements := by
  simp [W.reportFound]

@[simp] theorem W.selfTestPasses_elements (w : W) (d : Drive) (holds : MediaSense) (hB : w.Elements) :
    (W.selfTestPasses w d holds).Elements := by
  unfold W.selfTestPasses; dsimp only; (repeat' split) <;> simp [hB]

@[simp] theorem W.displaceFrom_elements (w : W) (d : Drive) (c : Contents) (hB : w.Elements) :
    (W.displaceFrom w d c).Elements := by
  unfold W.displaceFrom; (repeat' split) <;> simp [hB]

@[simp] theorem W.placedIntoOccupied_elements (w : W) (d : Drive) :
    (W.placedIntoOccupied w d).Elements ↔ w.Elements := by
  simp [W.placedIntoOccupied]

@[simp] theorem W.endByPlace_elements (w : W) (d : Drive) :
    (W.endByPlace w d).Elements ↔ w.Elements := by
  unfold W.endByPlace; split <;> simp

@[simp] theorem W.portPlaced_elements (w : W) (d : Drive) (c : Contents) (hB : w.Elements) :
    (W.portPlaced w d c).Elements := by
  unfold W.portPlaced; (repeat' split) <;> simp [hB]

@[simp] theorem W.portExtracted_elements (w : W) (d : Drive) :
    (W.portExtracted w d).Elements ↔ w.Elements := by
  unfold W.portExtracted; dsimp only; (repeat' split) <;> simp

namespace W

/-! ### Entries (R24) -/

theorem isScanned_of_scanOrder {e : Element} (h : e ∈ scanOrder) : Element.isScanned e := by
  rcases List.mem_append.1 h with h | h
  · obtain ⟨n, hn, rfl⟩ := List.mem_map.1 h
    have := List.mem_range.1 hn
    exact ⟨Nat.le_add_left 1 n, this⟩
  · rw [List.mem_singleton.1 h]
    trivial

theorem isScanned_of_inScanOrder {l : List Element} {e : Element} (h : e ∈ inScanOrder l) : Element.isScanned e :=
  isScanned_of_scanOrder (List.mem_of_mem_filter h)

@[simp] theorem takeEntryId_lawful (w : W) (hB : w.Lawful) : w.takeEntryId.1.Lawful := by
  simp [takeEntryId, hB]

theorem scan_inScanOrder (id : Nat) (l : List Element) (attempts : Nat) (resume : Option Element) (faulted : Bool) :
    Scan.inLibrary { id := id, range := inScanOrder l, remaining := [], attempts := attempts, resumeSlot := resume, faulted := faulted } := by
  intro e he
  rw [List.append_nil] at he
  exact isScanned_of_inScanOrder he

@[simp] theorem queueScan_lawful (w : W) (l : List Element) (hB : w.Lawful) : (w.queueScan l).1.Lawful := by
  unfold queueScan
  split
  next s hs =>
    refine modCC_lawful _ hB rfl rfl (keptOr_self ..) (keptOr_some fun e he => ?_) (keptOr_self ..) (keptOr_self ..) (keptOr_self ..)
    rcases List.mem_append.1 he with he | he
    · exact isScanned_of_inScanOrder he
    · exact hB.sound.scan s (.inr (.inl hs)) e (List.mem_append_right _ he)
  · exact modCC_lawful _ (takeEntryId_lawful w hB) rfl rfl (keptOr_self ..) (keptOr_some (scan_inScanOrder _ _ _ _ _)) (keptOr_self ..)
      (keptOr_self ..) (keptOr_self ..)

theorem queueScan_placed (v : W) (l : List Element) (h : v.Placed none none) : (v.queueScan l).1.Placed none none := by
  have hcc : (v.queueScan l).1.ct = v.ct ∧ (v.queueScan l).1.ports = v.ports ∧ (v.queueScan l).1.cc.picker = v.cc.picker := by
    unfold queueScan
    split <;> exact ⟨rfl, rfl, rfl⟩
  obtain ⟨hct, hports, hpick⟩ := hcc
  exact h.of_tables hct (fun d => by rw [port, hports]; rfl) hpick

theorem queueScan_mail_elements (v : W) (h : v.Elements) : (v.queueScan [.mail]).1.Elements := by
  unfold queueScan
  split
  next s hs =>
    refine modCC_elements _ h rfl (keptOr_self ..) (keptOr_some fun e he => ?_) (keptOr_self ..) (keptOr_self ..) (keptOr_self ..)
    rcases List.mem_append.1 he with he | he
    · exact isScanned_of_inScanOrder he
    · exact h.scan s (.inr (.inl hs)) e (List.mem_append_right _ he)
  · exact modCC_elements _ (by simp [takeEntryId, h]) rfl (keptOr_self ..) (keptOr_some (scan_inScanOrder _ _ _ _ _)) (keptOr_self ..)
      (keptOr_self ..) (keptOr_self ..)

/-! ### The picker (R27, R37) -/

theorem fillPicker_elements (w : W) (c : Contents) (e : Option Element) (hB : w.Elements) (he : ∀ x, e = some x → Element.inLibrary x) :
    (w.fillPicker c e).Elements := by
  have h : (w.modCC fun cc => { cc with picker := c, pickedFrom := e }).Elements :=
    modCC_elements _ hB rfl (keptOr_self ..) (keptOr_self ..) (keptOr_self ..) (.inr he) (keptOr_self ..)
  unfold fillPicker
  dsimp only
  split
  · split
    · exact h
    · exact becomeAbsent_elements _ _ h
  · exact h
  · exact h

/-- The picker is known to hold no record. -/
@[simp] theorem fillPicker_lawful (w : W) (c : Contents) (hB : w.Lawful) (hc : c.record = none) : (w.fillPicker c none).Lawful :=
  .intro (hB.placed.fillPicker hc none) (fillPicker_elements w c none hB.elements nofun)

theorem extractAt_elements (w : W) (source : Element) (read : Option Label) (hB : w.Elements) (hs : Element.inLibrary source) :
    (w.extractAt source read).1.Elements := by
  have hin : ∀ (v : W) c, v.Elements → (v.fillPicker c (some source)).Elements := fun v c hv =>
    fillPicker_elements v c _ hv fun x hx => Option.some.inj hx ▸ hs
  unfold extractAt
  dsimp only
  generalize w.gripped source = c
  cases c with
  | cart i => cases source <;> simp [hin, hB]
  | none => cases source <;> simp [hin, hB]
  | untracked => cases source <;> simp [hin, hB]

theorem extractAt_lawful (w : W) (source : Element) (read : Option Label) (hB : w.Lawful) (hs : Element.inLibrary source) :
    (w.extractAt source read).1.Lawful :=
  .intro (hB.placed.extractAt hs read) (extractAt_elements w source read hB.elements hs)

theorem placeAt_elements (w : W) (dest : Element) (hB : w.Elements) : (w.placeAt dest).Elements := by
  have h : (w.modCC fun cc => { cc with picker := .none, pickedFrom := none }).Elements := by simp [hB]
  unfold placeAt
  dsimp only
  revert h
  generalize (w.modCC fun cc => { cc with picker := .none, pickedFrom := none }) = v
  intro h
  have h2 : ∀ c : Contents, (match c with
      | .cart i => v.placed i dest
      | .untracked => if dest = Element.mail then ((v.placedUntracked dest).queueScan [.mail]).1 else v.placedUntracked dest
      | .none => v).Elements := fun c => by
    cases c with
    | cart i => simp [h]
    | none => exact h
    | untracked => exact elements_ite _ _ _ (queueScan_mail_elements _ (by simp [h])) (by simp [h])
  cases dest with
  | drive d => exact portPlaced_elements _ d _ (h2 _)
  | slot n => exact h2 _
  | mail => exact h2 _
  | picker => exact h2 _

theorem placeAt_lawful (w : W) (dest : Element) (hB : w.Lawful) (hd : Element.isDestination dest) : (w.placeAt dest).Lawful :=
  .intro (hB.placed.placeAt hd queueScan_placed) (placeAt_elements w dest hB.elements)

@[simp] theorem declareLost_lawful (w : W) (hB : w.Lawful) : w.declareLost.Lawful := by
  refine .intro hB.placed.declareLost ?_
  have h : (w.modCC fun cc => { cc with picker := .none, pickedFrom := none }).Elements := by simp [hB.elements]
  obtain ⟨n, heq⟩ := declareLost_eq w
  rw [heq]
  cases w.cc.picker with
  | cart i => exact becomeAbsent_elements _ i h
  | none => exact h
  | untracked => exact h

/-! ### The table and the ports -/

section
variable (w : W)

@[simp] theorem setMedia_lawful (i : Nat) (s : MediaState) (cause : StateCause) : (w.setMedia i s cause).Lawful ↔ w.Lawful := by
  rcases setMedia_cases w i s cause with heq | ⟨l, heq⟩
  · rw [heq]
  · rw [heq]
    simp

@[simp] theorem rehome_lawful (hB : w.Lawful) : w.rehome.Lawful := .intro hB.placed.rehome (by simp [hB.elements])

@[simp] theorem scanStarted_lawful (l : List Element) (hB : w.Lawful) : (w.scanStarted l).Lawful :=
  .intro (hB.placed.scanStarted l) (by simp [hB.elements])

@[simp] theorem scanCompleted_lawful (hB : w.Lawful) : w.scanCompleted.Lawful :=
  .intro hB.placed.scanCompleted (by simp [hB.elements])

theorem scanResult_lawful {e : Element} (f : SlotFinding) (hB : w.Lawful) (he : Element.isScanned e) : (w.scanResult e f).Lawful :=
  .intro (hB.placed.scanResult he f) (by simp [hB.elements])

@[simp] theorem frontOpened_lawful (hB : w.Lawful) : w.frontOpened.Lawful := .intro hB.placed.frontOpened hB.elements

@[simp] theorem mailOpened_lawful (hB : w.Lawful) : w.mailOpened.Lawful := .intro hB.placed.mailOpened hB.elements

@[simp] theorem mailClosed_lawful (hB : w.Lawful) : w.mailClosed.Lawful := .intro hB.placed.mailClosed hB.elements

@[simp] theorem magazineGone_lawful (m : Magazine) (hB : w.Lawful) : (w.magazineGone m).Lawful :=
  .intro (hB.placed.magazineGone m) (by simp [hB.elements])

@[simp] theorem magazineBack_lawful (m : Magazine) (hB : w.Lawful) : (w.magazineBack m).Lawful :=
  .intro (hB.placed.magazineBack m) (by simp [hB.elements])

theorem sourceFoundEmpty_lawful {e : Element} (hB : w.Lawful) (he : Element.isScanned e) : (w.sourceFoundEmpty e).Lawful :=
  .intro (hB.placed.sourceFoundEmpty he) (by simp [hB.elements])

@[simp] theorem enterPort_lawful (d : Drive) (s : PortState) : (w.enterPort d s).Lawful ↔ w.Lawful := by
  unfold enterPort; dsimp only; (repeat' split) <;> simp

@[simp] theorem reportDown_lawful (d : Drive) (n : Notice) : (w.reportDown d n).Lawful ↔ w.Lawful := Iff.rfl

@[simp] theorem portFaults_lawful (d : Drive) (r : DriveReason) : (w.portFaults d r).1.Lawful ↔ w.Lawful := by
  simp [portFaults]

@[simp] theorem leaveReset_lawful (d : Drive) (hB : w.Lawful) : (w.leaveReset d).Lawful :=
  .intro (hB.placed.leaveReset d) (by simp [hB.elements])

@[simp] theorem selfTestPasses_lawful (d : Drive) (holds : MediaSense) (hB : w.Lawful) : (w.selfTestPasses d holds).Lawful :=
  .intro (hB.placed.selfTestPasses d holds) (by simp [hB.elements])

@[simp] theorem loadReport_lawful (i : Nat) (protect : Bool) : (w.loadReport i protect).Lawful ↔ w.Lawful := by
  simp [loadReport]

end

end W

end Sys2Proof.Machine

/-! PROOF. The law through the changer's operations: entries, moves, scans (R23 to R28, R40). -/

namespace Sys2Proof.Machine

namespace W

section
variable {w : W}

/-! ### What the law says of the elements a move is given -/

theorem Lawful.move (h : w.Lawful) {m : Move} (hm : w.currentMove = some m) : Move.inLibrary m := by
  unfold currentMove at hm
  split at hm
  next m' hc =>
    obtain rfl := Option.some.inj hm
    exact h.sound.current _ hc
  · cases hm
  · cases hm

theorem Lawful.scanning (h : w.Lawful) {x : Scan} (hx : w.currentScan = some x) : Scan.inLibrary x := by
  unfold currentScan at hx
  split at hx
  next x' hc =>
    obtain rfl := Option.some.inj hx
    exact h.sound.scan _ (.inl hc)
  · cases hx
  · cases hx

theorem Lawful.home (h : w.Lawful) {i n : Nat} (hh : w.homeOf i = some n) : Element.isDestination (.slot n) :=
  Element.isDestination_slot (h.placed.law.homed i n hh).1

theorem Lawful.located (h : w.Lawful) {i : Nat} {e : Element} (hl : w.locationOf i = some e) : Element.inLibrary e :=
  (h.placed.law.located i e hl).1

theorem Lawful.pickedFrom (h : w.Lawful) {e : Element} (he : w.cc.pickedFrom = some e) : Element.inLibrary e := h.sound.pickedFrom e he

theorem Lawful.closeScan (h : w.Lawful) {x : Scan} (hx : w.cc.closeScan = some x) : Scan.inLibrary x :=
  h.sound.scan x (.inr (.inr hx))

theorem Lawful.scanEntry (h : w.Lawful) {x : Scan} (hx : w.cc.scanEntry = some x) : Scan.inLibrary x :=
  h.sound.scan x (.inr (.inl hx))

theorem isDestination_of_lowestEmpty {n : Nat} (h : w.lowestEmpty = some n) : Element.isDestination (.slot n) :=
  Element.isDestination_slot (newHome_empty (m := some .left) h).1

theorem isDestination_of_recoveryChain (h : w.Lawful) {e : Element} (he : w.recoveryChain = some e) : Element.isDestination e := by
  have hmail : ∀ {p : Prop} [Decidable p], (if p then some Element.mail else none) = some e → Element.isDestination e := by
    intro p _ hp
    obtain ⟨-, hp⟩ := Option.ite_none_right_eq_some.1 hp
    obtain rfl := Option.some.inj hp
    exact Element.isDestination_mail
  unfold recoveryChain at he
  dsimp only at he
  split at he
  next i src _ hsrc =>
    rcases Option.or_eq_some_iff.1 he with he | ⟨-, he⟩
    · rcases Option.or_eq_some_iff.1 he with he | ⟨-, he⟩
      · split at he
        · obtain ⟨-, he⟩ := Option.ite_none_right_eq_some.1 he
          obtain rfl := Option.some.inj he
          exact Element.isDestination_slot (h.pickedFrom hsrc)
        · obtain ⟨-, he⟩ := Option.ite_none_right_eq_some.1 he
          obtain rfl := Option.some.inj he
          exact Element.isDestination_drive _
        · cases he
        · cases he
      · split at he
        next n hn =>
          obtain ⟨-, he⟩ := Option.ite_none_right_eq_some.1 he
          obtain rfl := Option.some.inj he
          exact h.home hn
        · cases he
    · exact hmail he
  · exact hmail he
  · exact hmail he
  · cases he

theorem isDestination_of_resolveDest (h : w.Lawful) {m : Move} (hm : Move.inLibrary m) {e : Element}
    (he : w.resolveDest m = some e) : Element.isDestination e := by
  unfold resolveDest at he
  split at he
  next x hx =>
    obtain rfl := Option.some.inj he
    exact hm.2.1 _ hx
  · obtain ⟨n, hn, rfl⟩ := Option.map_eq_some_iff.1 he
    exact isDestination_of_lowestEmpty hn
  · obtain ⟨n, hn, rfl⟩ := Option.map_eq_some_iff.1 he
    obtain ⟨i, -, hi⟩ := Option.bind_eq_some_iff.1 hn
    exact h.home hi
  · exact isDestination_of_recoveryChain h he

theorem isDestination_of_putAwayCandidates (h : w.Lawful) {e : Element} (he : e ∈ w.putAwayCandidates) : Element.isDestination e := by
  unfold putAwayCandidates at he
  rcases List.mem_append.1 he with he | he
  · split at he
    · split at he
      next n hn =>
        split at he
        · rw [List.mem_singleton.1 he]
          exact h.home hn
        · cases he
      · cases he
    · cases he
    · cases he
  · split at he
    · rw [List.mem_singleton.1 he]
      exact Element.isDestination_mail
    · cases he

/-- A move with its destination resolved. -/
theorem Move.inLibrary_dest {m : Move} (hm : Move.inLibrary m) {o : Option Element} (ho : ∀ e, o = some e → Element.isDestination e) :
    Move.inLibrary { m with dest := o } := ⟨hm.1, hm.2.1, ho⟩

/-! ### The changer's record -/

variable (w)

@[simp] theorem ccEnter_lawful (s : ChangerState) : (w.ccEnter s).Lawful ↔ w.Lawful := by
  unfold ccEnter; split <;> simp

@[simp] theorem beginStep_lawful (s : Step) : (w.beginStep s).Lawful ↔ w.Lawful := by
  simp [beginStep]

@[simp] theorem endStep_lawful : w.endStep.Lawful ↔ w.Lawful := by
  simp [endStep]

theorem putMove_lawful {m : Move} (hB : w.Lawful) (hm : Move.inLibrary m) : (w.putMove m).Lawful :=
  modCC_lawful _ hB rfl rfl (keptOr_some (x := Entry.move m) hm) (keptOr_self ..) (keptOr_self ..) (keptOr_self ..) (keptOr_self ..)

/-- A move enters the queue. -/
theorem enqueue_lawful {l : List Move} (hB : w.Lawful) (hl : ∀ m ∈ l, m ∈ w.cc.queue ∨ Move.inLibrary m) :
    (w.modCC fun c => { c with queue := l }).Lawful :=
  hB.modCC _ rfl ⟨hl, keptOr_self .., keptOr_self .., keptOr_self .., keptOr_self .., keptOr_self ..⟩

@[simp] theorem queueMove_lawful (origin : Origin) (source : Element) (asked : Dest) (expected : Option Label) (ticket : Nat)
    (cart : Option Nat) (hB : w.Lawful) (hs : Element.inLibrary source) (ha : ∀ e, asked = .element e → Element.isDestination e) :
    (w.queueMove origin source asked expected ticket cart).1.Lawful := by
  unfold queueMove
  split
  · exact hB
  · refine enqueue_lawful _ (takeEntryId_lawful w hB) fun m hm => ?_
    rcases List.mem_append.1 hm with hm | hm
    · exact .inl hm
    · rw [List.mem_singleton.1 hm]
      exact .inr ⟨hs, ha, nofun⟩

@[simp] theorem queueRecovery_lawful (hB : w.Lawful) : w.queueRecovery.Lawful := by
  refine enqueue_lawful _ (takeEntryId_lawful w hB) fun m hm => ?_
  rcases List.mem_cons.1 hm with rfl | hm
  · exact .inr ⟨trivial, nofun, nofun⟩
  · exact .inl hm

@[simp] theorem changerFaultNotice_lawful (reason : Reason) (step : Option Step) (element : Option Element) (attempts : Nat)
    (exhausted : Bool) (cart : Option CartRef) :
    (w.changerFaultNotice reason step element attempts exhausted cart).Lawful ↔ w.Lawful := Iff.rfl

@[simp] theorem countRun_lawful (faulted completed : Bool) : (w.countRun faulted completed).Lawful ↔ w.Lawful := by
  simp [countRun]

@[simp] theorem goToRest_lawful (hB : w.Lawful) : w.goToRest.Lawful := by
  unfold goToRest
  dsimp only
  split <;> simp [hB]

@[simp] theorem reportMoveEnd_lawful (m : Move) (r : Reason) (c : Contents) (ended : Option Element) (hB : w.Lawful) :
    (w.reportMoveEnd m r c ended).Lawful := by
  simp [reportMoveEnd, hB]

@[simp] theorem endMove_lawful (m : Move) (r : Reason) (c : Contents) (ended : Option Element) (hB : w.Lawful) :
    (w.endMove m r c ended).Lawful := by
  simp [endMove, hB]

@[simp] theorem holdFault_lawful (reason : Reason) (s : Option Step) (exhausted : Bool) :
    (w.holdFault reason s exhausted).Lawful ↔ w.Lawful := by
  simp [holdFault]

/-! ### Steps of a move -/

section
variable {m : Move}

theorem choosePutAway_lawful (hB : w.Lawful) (hm : Move.inLibrary m) : (w.choosePutAway m).Lawful := by
  unfold choosePutAway
  split
  next e he =>
    have hd := isDestination_of_putAwayCandidates hB (List.mem_of_find?_eq_some he)
    rw [beginStep_lawful]
    exact putMove_lawful w hB ⟨hm.1, hm.2.1, fun x hx => Option.some.inj hx ▸ hd⟩
  · rw [holdFault_lawful]
    exact putMove_lawful w hB ⟨hm.1, hm.2.1, nofun⟩

theorem extractDone_lawful (read : Option Label) (hB : w.Lawful) (hm : Move.inLibrary m) : (w.extractDone m read).Lawful := by
  have h := extractAt_lawful w m.source read hB hm.1
  unfold extractDone
  dsimp only
  split
  · exact choosePutAway_lawful _ h hm
  · rw [beginStep_lawful]
    exact putMove_lawful _ h hm
  · rw [beginStep_lawful]
    exact putMove_lawful _ h hm

theorem placeDone_lawful (hB : w.Lawful) (hm : Move.inLibrary m) : (w.placeDone m).Lawful := by
  unfold placeDone
  dsimp only
  split
  · exact hB
  next e he => exact reportMoveEnd_lawful _ _ _ _ _ (placeAt_lawful w e hB (hm.2.2 e he))

theorem endAtSource_lawful (r : Reason) (hB : w.Lawful) : (w.endAtSource m r).Lawful := by
  simp [endAtSource, hB]

theorem endLost_lawful (hB : w.Lawful) : (w.endLost m).Lawful := by
  simp [endLost, hB]

theorem resumeLoaded_lawful (hB : w.Lawful) (hm : Move.inLibrary m) : (w.resumeLoaded m).Lawful := by
  have hput := putMove_lawful w hB hm
  unfold resumeLoaded
  dsimp only
  split
  · split
    · rwa [beginStep_lawful]
    · exact choosePutAway_lawful w hB hm
  · split
    · split
      next e he =>
        rw [beginStep_lawful]
        exact putMove_lawful w hB ⟨hm.1, hm.2.1, fun x hx => Option.some.inj hx ▸ isDestination_of_recoveryChain hB he⟩
      · rwa [holdFault_lawful]
    · split
      · rwa [beginStep_lawful]
      · exact choosePutAway_lawful w hB hm

theorem resumeEmpty_lawful (hB : w.Lawful) (hm : Move.inLibrary m) : (w.resumeEmpty m).Lawful := by
  have hput := putMove_lawful w hB (Move.inLibrary_dest hm fun _ => isDestination_of_resolveDest hB hm)
  unfold resumeEmpty
  dsimp only
  split
  · rwa [beginStep_lawful]
  · exact endAtSource_lawful _ _ hput

theorem resumeHeld_lawful (s : Option Step) (hB : w.Lawful) (hm : Move.inLibrary m) : (w.resumeHeld m s).Lawful := by
  have h : (w.modCC fun c => { c with held := none, holdReason := none }).Lawful := by simp [hB]
  unfold resumeHeld
  dsimp only
  split
  · exact resumeLoaded_lawful _ h hm
  · exact resumeEmpty_lawful _ h hm

/-! ### Settlement (R37) -/

@[simp] theorem spotCheck_lawful (dest : Option Element) : (w.spotCheck dest).1.Lawful ↔ w.Lawful := by
  unfold spotCheck; split <;> simp

theorem spotCheckedMove_lawful (present : Bool) (hB : w.Lawful) (hm : Move.inLibrary m) : (w.spotCheckedMove m present).Lawful := by
  unfold spotCheckedMove
  split
  · exact placeDone_lawful w hB hm
  · exact endLost_lawful w hB

theorem settleMove_lawful (s : Step) (sensed : Bool) (hB : w.Lawful) (hm : Move.inLibrary m) : (w.settleMove m s sensed).1.Lawful := by
  unfold settleMove
  split
  · dsimp only
    refine putMove_lawful _ (extractAt_lawful w _ _ hB hm.1) ?_
    cases (w.extractAt m.source none).2 <;> exact hm
  · exact hB
  · exact hB
  · have hfill := fillPicker_lawful w .untracked hB rfl
    exact reportMoveEnd_lawful _ _ _ _ _ (by simp [hfill])
  · exact hB
  · exact hB
  · exact endLost_lawful w hB
  · dsimp only
    split
    · exact spotCheckedMove_lawful _ _ ((spotCheck_lawful w m.dest).2 hB) hm
    · exact (spotCheck_lawful w m.dest).2 hB
  · exact hB
  · exact hB
  · exact hB

end

@[simp] theorem keepSettled_lawful (s : Step) : (w.keepSettled s).Lawful ↔ w.Lawful := by
  simp [keepSettled]

@[simp] theorem holdPickerOccupied_lawful (hB : w.Lawful) : w.holdPickerOccupied.Lawful := by
  simp [holdPickerOccupied, hB]

/-! ### Scans (R40) -/

/-- Slots that are passed over are some of those that remain. -/
theorem passOver_mem (l : List Element) (e : Element) : e ∈ (passOver l w).2 → e ∈ l := by
  induction l generalizing w with
  | nil => exact id
  | cons x l ih =>
    unfold passOver
    split
    · split
      · exact id
      · exact fun h => List.mem_cons_of_mem _ (ih _ h)
    · split
      · exact fun h => List.mem_cons_of_mem _ (ih _ h)
      · exact id
    · exact fun h => List.mem_cons_of_mem _ (ih _ h)
    · exact fun h => List.mem_cons_of_mem _ (ih _ h)

theorem passOver_lawful (l : List Element) (hB : w.Lawful) (hl : ∀ e ∈ l, Element.isScanned e) : (passOver l w).1.Lawful := by
  induction l generalizing w with
  | nil => exact hB
  | cons x l ih =>
    have hrest := fun (v : W) hv => ih v hv fun e he => hl e (List.mem_cons_of_mem _ he)
    unfold passOver
    split
    · split
      · exact hB
      · exact hrest _ (scanResult_lawful w _ hB (hl _ (List.mem_cons_self ..)))
    · split
      · exact hrest _ hB
      · exact hB
    · exact hrest _ hB
    · exact hrest _ hB

theorem putRemaining_lawful (l : List Element) (hB : w.Lawful) (hl : ∀ e ∈ l, Element.isScanned e) : (w.putRemaining l).Lawful := by
  have hscan : ∀ {x : Scan}, Scan.inLibrary x → ∀ {y : Scan}, y.range = x.range → y.remaining = l → Scan.inLibrary y := by
    intro x hx y hr hrem e he
    rw [hr, hrem] at he
    rcases List.mem_append.1 he with he | he
    · exact hx e (List.mem_append_left _ he)
    · exact hl e he
  unfold putRemaining
  split
  next x hx =>
    exact modCC_lawful _ hB rfl rfl (keptOr_self ..) (keptOr_self ..)
      (keptOr_some (hscan (hB.closeScan hx) rfl rfl)) (keptOr_self ..) (keptOr_self ..)
  · split
    next x hx =>
      exact modCC_lawful _ hB rfl rfl (keptOr_some (x := Entry.scan _) (hscan (hB.scanning hx) rfl rfl)) (keptOr_self ..)
        (keptOr_self ..) (keptOr_self ..) (keptOr_self ..)
    · exact hB

theorem isScanned_of_remainingSlots (hB : w.Lawful) {e : Element} (he : e ∈ w.remainingSlots) : Element.isScanned e := by
  unfold remainingSlots at he
  split at he
  next x hx =>
    refine (?_ : Scan.inLibrary x) e (List.mem_append_right _ he)
    rcases Option.or_eq_some_iff.1 hx with hx | ⟨-, hx⟩
    · exact hB.closeScan hx
    · exact hB.scanning hx
  · cases he

@[simp] theorem endScanEntry_lawful (faulted : Bool) (hB : w.Lawful) : (w.endScanEntry faulted).Lawful := by
  simp [endScanEntry, hB]

@[simp] theorem closeFinished_lawful (hB : w.Lawful) : w.closeFinished.Lawful := by
  have h : (w.endStep.modCC fun c => { c with closing := false, closeScan := none }).Lawful := by simp [hB]
  unfold closeFinished
  revert h
  generalize (w.endStep.modCC fun c => { c with closing := false, closeScan := none }) = v
  intro h
  dsimp only
  split
  · simp [h]
  · split
    · simp [h]
    · split
      · simp [h]
      · simp [h]
      · simp [h]
      · split
        next m hm => exact resumeHeld_lawful v _ h (h.move hm)
        · simp [h]
      · split
        · simp [h]
        · simp [h]
        · (repeat' split) <;> simp [h]

@[simp] theorem scanGoesOn_lawful (hB : w.Lawful) : w.scanGoesOn.Lawful := by
  have hscan := fun e => isScanned_of_remainingSlots w hB (e := e)
  have hput := putRemaining_lawful _ _ (passOver_lawful w _ hB hscan) fun e he => hscan e (passOver_mem w _ e he)
  unfold scanGoesOn
  dsimp only
  split
  · rwa [beginStep_lawful]
  · have h := scanCompleted_lawful _ ((endStep_lawful _).2 hput)
    split
    · exact closeFinished_lawful _ h
    · split
      · exact endScanEntry_lawful _ _ h
      · exact h

theorem scan_ofRange (id : Nat) {l : List Element} (hl : ∀ e ∈ l, Element.isScanned e) (attempts : Nat) (resume : Option Element)
    (faulted : Bool) :
    Scan.inLibrary { id := id, range := l, remaining := l, attempts := attempts, resumeSlot := resume, faulted := faulted } :=
  fun e he => (List.mem_append.1 he).elim (hl e) (hl e)

@[simp] theorem startCloseScan_lawful (hB : w.Lawful) : w.startCloseScan.Lawful := by
  unfold startCloseScan
  refine scanGoesOn_lawful _ (scanStarted_lawful _ _ (modCC_lawful _ hB rfl rfl ?_ (keptOr_none ..)
    (keptOr_some (scan_ofRange _ (fun _ => isScanned_of_inScanOrder) _ _ _)) (keptOr_self ..) (keptOr_self ..)))
  dsimp only
  split
  next x h hc _ =>
    split
    · rw [hc]
      exact keptOr_self ..
    · exact keptOr_none ..
  · exact keptOr_none ..
  · exact keptOr_self ..

end

end W

end Sys2Proof.Machine

/-! PROOF. The law through homing, faults, the start of an entry, the front door and a reset of the changer (R25, R29 to R38, R43,
R44). -/

namespace Sys2Proof.Machine

namespace W

section
variable (w : W)

/-! ### What follows a homing -/

@[simp] theorem powerOnHomed_lawful (sensed : Bool) (hB : w.Lawful) : (w.powerOnHomed sensed).Lawful := by
  have h := queueScan_lawful w scanOrder hB
  unfold powerOnHomed
  dsimp only
  split
  · exact queueRecovery_lawful _ (fillPicker_lawful _ _ h rfl)
  · exact h

@[simp] theorem resetFound_lawful (hB : w.Lawful) : w.resetFound.Lawful := by
  unfold resetFound
  refine queueRecovery_lawful _ (lawful_ite _ _ _ (fillPicker_lawful w _ hB rfl) hB)

theorem Lawful.interrupted (h : w.Lawful) {x : Interrupted} (hx : w.cc.interrupted = some x) : Interrupted.inLibrary x :=
  h.sound.interrupted x hx

@[simp] theorem resetSettled_lawful (sensed : Bool) (hB : w.Lawful) : (w.resetSettled sensed).1.Lawful := by
  have hplain : (if sensed = true then (w.resetFound, false)
      else if w.cc.picker = .none then (w, false) else (w.declareLost, false)).1.Lawful :=
    lawful_fst_ite _ _ _ (resetFound_lawful w hB) (lawful_fst_ite _ _ _ hB (declareLost_lawful w hB))
  unfold resetSettled
  dsimp only
  split
  · exact hplain
  next x hx =>
    have hin := Lawful.interrupted w hB hx
    split
    · exact resetFound_lawful _ (extractAt_lawful w _ _ hB hin.1)
    · have hs : ((w.modCC fun c => { c with homingAttempts := 0 }).spotCheck x.dest).1.Lawful := by simp [hB]
      split
      · cases hd : x.dest with
        | none => rwa [hd] at hs
        | some e =>
          rw [hd] at hs
          exact placeAt_lawful _ e hs (hin.2 e hd)
      · exact declareLost_lawful _ hs
      · exact hs
    · exact hplain

@[simp] theorem dropInterrupted_lawful (hB : w.Lawful) : w.dropInterrupted.Lawful := by
  simp [dropInterrupted, hB]

@[simp] theorem pickerRechecked_lawful (sensed : Bool) (hB : w.Lawful) : (w.pickerRechecked sensed).Lawful :=
  lawful_ite _ _ _ (queueRecovery_lawful w hB) (fillPicker_lawful w _ hB rfl)

@[simp] theorem runSequence_lawful (seq : HomingFor) (sensed : Bool) (hB : w.Lawful) : (w.runSequence seq sensed).1.Lawful := by
  unfold runSequence
  split
  · simp [hB]
  · exact lawful_fst_ite _ _ _ (by simp [hB]) (by simp [hB])
  · simp [hB]
  · exact hB
  · exact hB
  · exact hB

@[simp] theorem closeSettled_lawful (sensed : Bool) (hB : w.Lawful) : (w.closeSettled sensed).Lawful := by
  unfold closeSettled
  split
  next h m hh hm =>
    have hs := settleMove_lawful w (h.step.getD .travel) sensed hB (hB.move hm)
    dsimp only
    split
    · simp [hs]
    · simp [hs]
    · exact hs
  next h hh hm =>
    have hs := runSequence_lawful w h.seq sensed hB
    dsimp only
    split
    · split
      · exact hs
      · simp [hs]
    · simp [hB]
  · simp [hB]

@[simp] theorem startHoming_lawful (seq : HomingFor) : (w.startHoming seq).Lawful ↔ w.Lawful := by
  simp [startHoming]

@[simp] theorem clearSettled_lawful (sensed : Bool) (hB : w.Lawful) : (w.clearSettled sensed).Lawful := by
  unfold clearSettled
  split
  next h m hh hm =>
    have hs := settleMove_lawful w (h.step.getD .travel) sensed hB (hB.move hm)
    dsimp only
    split
    · split
      next m1 hm1 => exact resumeHeld_lawful _ _ hs (hs.move hm1)
      · simp [hs]
    · split <;> simp [hs]
    · exact hs
  · simp [hB]

@[simp] theorem homed_lawful (sensed : Bool) (hB : w.Lawful) : (w.homed sensed).Lawful := by
  have h : (w.sensePicker sensed).endStep.Lawful := by simp [hB]
  unfold homed
  revert h
  generalize (w.sensePicker sensed).endStep = v
  intro h
  dsimp only
  split
  · simp [h]
  · split
    · simp [h]
    · split
      · simp [h]
      · have hs := runSequence_lawful v v.cc.homingFor sensed h
        split
        · exact hs
        · simp [hs]

@[simp] theorem spotChecked_lawful (present : Bool) (hB : w.Lawful) : (w.spotChecked present).Lawful := by
  have h : w.endStep.Lawful := by simp [hB]
  unfold spotChecked
  revert h
  generalize w.endStep = v
  intro h
  dsimp only
  split
  next m hm =>
    have hs := spotCheckedMove_lawful v present h (h.move hm)
    split <;> simp [hs]
  · have hplace : ((v.cc.interrupted.bind Interrupted.dest).map v.placeAt).getD v |>.Lawful := by
      cases hd : v.cc.interrupted.bind Interrupted.dest with
      | none => exact h
      | some e =>
        obtain ⟨x, hx, he⟩ := Option.bind_eq_some_iff.1 hd
        exact placeAt_lawful v e h ((Lawful.interrupted v h hx).2 e he)
    have hs : (if present = true then ((v.cc.interrupted.bind Interrupted.dest).map v.placeAt).getD v else v.declareLost).Lawful :=
      lawful_ite _ _ _ hplace (declareLost_lawful v h)
    have hdrop := dropInterrupted_lawful _ hs
    revert hdrop
    generalize W.dropInterrupted _ = u
    intro hdrop
    split <;> simp [hdrop]

/-! ### Faults (R29 to R33) -/

@[simp] theorem countAttempt_lawful (s : Step) (mark : Bool) (n : Nat) (hB : w.Lawful) : (w.countAttempt s mark n).Lawful := by
  have hhome : (w.modCC fun c => { c with homingAttempts := c.homingAttempts + n }).Lawful := by simp [hB]
  have hmove : ∀ {m : Move}, w.cc.current = some (.move m) →
      (w.modCC fun c => { c with current := some (.move { m with attempts := m.attempts + n, faulted := m.faulted || mark }) }).Lawful :=
    fun {m} hm => modCC_lawful _ hB rfl rfl (keptOr_some (x := Entry.move _) (hB.sound.current m hm)) (keptOr_self ..) (keptOr_self ..)
      (keptOr_self ..) (keptOr_self ..)
  have hscan : ∀ {x : Scan}, w.cc.current = some (.scan x) →
      (w.modCC fun c => { c with current := some (.scan { x with attempts := x.attempts + n, faulted := x.faulted || mark }) }).Lawful :=
    fun {x} hx => modCC_lawful _ hB rfl rfl (keptOr_some (x := Entry.scan _) (hB.sound.scan x (.inl hx))) (keptOr_self ..) (keptOr_self ..)
      (keptOr_self ..) (keptOr_self ..)
  have hclose : ∀ {x : Scan}, w.cc.closeScan = some x →
      (w.modCC fun c => { c with closeScan := some { x with attempts := x.attempts + n, faulted := x.faulted || mark } }).Lawful :=
    fun {x} hx => modCC_lawful _ hB rfl rfl (keptOr_self ..) (keptOr_self ..)
      (keptOr_some (P := Scan.inLibrary) (show Scan.inLibrary x from hB.closeScan hx)) (keptOr_self ..) (keptOr_self ..)
  unfold countAttempt
  dsimp only
  (repeat' split) <;> first
    | exact hhome
    | exact hmove ‹_›
    | exact hscan ‹_›
    | exact hclose ‹_›

@[simp] theorem noteResume_lawful (s : Step) (hB : w.Lawful) : (w.noteResume s).Lawful := by
  unfold noteResume
  split
  · split
    next x _ hx =>
      have hin : Scan.inLibrary x := hB.scanning hx
      exact modCC_lawful _ hB rfl rfl (keptOr_some (x := Entry.scan _) hin) (keptOr_self ..) (keptOr_self ..) (keptOr_self ..)
        (keptOr_self ..)
    next x hx =>
      have hin : Scan.inLibrary x := hB.closeScan hx
      exact modCC_lawful _ hB rfl rfl (keptOr_self ..) (keptOr_self ..) (keptOr_some (P := Scan.inLibrary) hin) (keptOr_self ..)
        (keptOr_self ..)
    · exact hB
  · exact hB

@[simp] theorem retryOrHold_lawful (reason : Reason) (s : Step) (hB : w.Lawful) : (w.retryOrHold reason s).Lawful := by
  unfold retryOrHold
  split <;> simp [hB]

@[simp] theorem reactHold_lawful (reason : Reason) (s : Step) (hB : w.Lawful) : (w.reactHold reason s).Lawful := by
  simp [reactHold, hB]

/-- A step that failed: the entry has been marked and its timer stopped (R29). -/
theorem failed_lawful (s : Step) (hB : w.Lawful) : ((w.countAttempt s true 0).modCC fun c => { c with stepTimer := none }).Lawful := by
  simp [hB]

@[simp] theorem stall_lawful (hB : w.Lawful) : w.stall.Lawful := by
  unfold stall
  split
  next s _ =>
    have h := failed_lawful w s hB
    dsimp only
    split
    · exact retryOrHold_lawful _ _ _ h
    · exact reactHold_lawful _ _ _ h
  · exact hB

/-- The picker has no slot record. -/
theorem sourceFoundEmpty_picker : w.sourceFoundEmpty .picker = w := rfl

theorem reportGripMiss_lawful {m : Move} (hB : w.Lawful) (hm : Move.inLibrary m) (hd : isDriveElement m.source = false) :
    (w.reportGripMiss m).Lawful := by
  have hs : (w.sourceFoundEmpty m.source).Lawful := by
    have hin := hm.1
    revert hd hin
    generalize m.source = e
    intro hd hin
    cases e with
    | slot n => exact sourceFoundEmpty_lawful w hB hin
    | mail => exact sourceFoundEmpty_lawful w hB trivial
    | drive d => cases hd
    | picker => exact hB
  simp [reportGripMiss, hs]

@[simp] theorem gripMiss_lawful (hB : w.Lawful) : w.gripMiss.Lawful := by
  have h := failed_lawful w .grip hB
  unfold gripMiss
  dsimp only
  split
  · exact h
  next m hm =>
    split
    · exact retryOrHold_lawful _ _ _ h
    · split
      next hd => exact reportGripMiss_lawful _ h (h.move hm) hd.2
      · exact reactHold_lawful _ _ _ h

theorem reportPlaceBlocked_lawful {m : Move} (hB : w.Lawful) (hm : Move.inLibrary m) : (w.reportPlaceBlocked m).Lawful := by
  unfold reportPlaceBlocked
  dsimp only
  rw [note_lawful]
  exact choosePutAway_lawful w hB hm

@[simp] theorem placeBlocked_lawful (hB : w.Lawful) : w.placeBlocked.Lawful := by
  have h := failed_lawful w .place hB
  unfold placeBlocked
  dsimp only
  split
  · exact h
  next m hm =>
    split
    · exact retryOrHold_lawful _ _ _ h
    · split
      · exact reportPlaceBlocked_lawful _ h (h.move hm)
      · exact reactHold_lawful _ _ _ h

/-! ### An entry starts (R25) -/

theorem startScanEntry_lawful {x : Scan} (hB : w.Lawful) (hx : Scan.inLibrary x) : (w.startScanEntry x).Lawful := by
  have h : (w.modCC fun c => { c with scanEntry := none, current := some (.scan { x with remaining := x.range }) }).Lawful :=
    modCC_lawful _ hB rfl rfl
      (keptOr_some (x := Entry.scan _) (scan_ofRange _ (fun e he => hx e (List.mem_append_left _ he)) _ _ _)) (keptOr_none ..) (keptOr_self ..)
      (keptOr_self ..) (keptOr_self ..)
  simp [startScanEntry, h]

theorem startRecovery_lawful {m : Move} (sensed : Bool) (hB : w.Lawful) (hm : Move.inLibrary m) : (w.startRecovery m sensed).Lawful := by
  have h := putMove_lawful w hB hm
  unfold startRecovery
  dsimp only
  split
  · exact goToRest_lawful _ (endLost_lawful _ h)
  · split
    · exact endAtSource_lawful _ _ h
    · split
      next e he =>
        rw [beginStep_lawful]
        exact putMove_lawful _ h ⟨hm.1, hm.2.1, fun x hx => Option.some.inj hx ▸ isDestination_of_recoveryChain h he⟩
      · rwa [holdFault_lawful]

theorem startMove_lawful {m : Move} (sensed : Bool) (hB : w.Lawful) (hm : Move.inLibrary m) : (w.startMove m sensed).Lawful := by
  have h : (w.modCC fun c => { c with queue := c.queue.drop 1 }).Lawful :=
    enqueue_lawful w hB fun x hx => .inl (List.mem_of_mem_drop hx)
  unfold startMove
  revert h
  generalize (w.modCC fun c => { c with queue := c.queue.drop 1 }) = v
  intro h
  dsimp only
  split
  · exact startRecovery_lawful v sensed h hm
  · have hput := putMove_lawful v h (Move.inLibrary_dest hm fun _ => isDestination_of_resolveDest h hm)
    split
    · rwa [beginStep_lawful]
    · exact endAtSource_lawful _ _ hput

@[simp] theorem startEntry_lawful (sensed : Bool) (hB : w.Lawful) : (w.startEntry sensed).Lawful := by
  have h := (sensePicker_lawful w sensed).2 hB
  unfold startEntry
  split
  · exact hB
  · dsimp only
    split
    next x hx => exact startScanEntry_lawful _ h (h.scanEntry hx)
    · split
      · exact hB
      next m rest hq =>
        split
        · exact h
        · exact startMove_lawful _ sensed h (h.sound.queue m (hq ▸ List.mem_cons_self ..))

/-! ### A fault cleared, the front door, a reset (R35 to R37, R44) -/

@[simp] theorem clearFault_lawful (hB : w.Lawful) : w.clearFault.Lawful := by
  unfold clearFault
  dsimp only
  (repeat' split) <;> simp [hB]

@[simp] theorem frontDoorOpens_lawful (hB : w.Lawful) : w.frontDoorOpens.Lawful := by
  unfold frontDoorOpens
  exact frontOpened_lawful _ (by simp [hB])

@[simp] theorem frontDoorCloses_lawful (hB : w.Lawful) : w.frontDoorCloses.Lawful := by
  have h := (note_lawful w (.door true false)).2 hB
  unfold frontDoorCloses
  revert h
  generalize w.note (.door true false) = v
  intro h
  dsimp only
  split <;> simp [h]

theorem interruptedStep_inLibrary (hB : w.Lawful) {x : Interrupted} (hx : w.interruptedStep = some x) : Interrupted.inLibrary x := by
  unfold interruptedStep at hx
  split at hx
  next m hm =>
    have hin := hB.move hm
    dsimp only at hx
    split at hx
    · obtain rfl := Option.some.inj hx
      exact ⟨hin.1, hin.2.2⟩
    · cases hx
  · exact Lawful.interrupted w hB hx

@[simp] theorem resetChangerNow_lawful (hB : w.Lawful) : w.resetChangerNow.Lawful := by
  have h : (w.modCC fun c =>
      { resetChanger with
          state := .unhomed, picker := c.picker, pickedFrom := c.pickedFrom, nextId := c.nextId,
          interrupted := w.interruptedStep, homingFor := .reset, step := none, stepTimer := none }).Lawful := by
    refine Lawful.modCC _ ?_ ⟨?_, ?_, ?_, ?_, ?_, ?_⟩ hB
    · rfl
    · exact fun _ hm => absurd hm List.not_mem_nil
    · exact keptOr_none ..
    · exact keptOr_none ..
    · exact keptOr_none ..
    · exact keptOr_self ..
    · exact .inr fun _ => interruptedStep_inLibrary w hB
  unfold resetChangerNow
  dsimp only
  split
  · simp [h]
  · simp [h]

end

end W

end Sys2Proof.Machine

/-! PROOF. The law through the operations of the ports, the catalog and the verdicts: they leave the places of cartridges (chapters 3 and 8). -/

namespace Sys2Proof.Machine

@[simp] theorem W.modJob_lawful (w : W) (n : Nat) (f : Job → Job) :
    (W.modJob w n f).Lawful ↔ w.Lawful := by
  simp [W.modJob]

@[simp] theorem W.modBackup_lawful (w : W) (n : Nat) (f : BackupData → BackupData) :
    (W.modBackup w n f).Lawful ↔ w.Lawful := by
  simp [W.modBackup]

@[simp] theorem W.modVerify_lawful (w : W) (n : Nat) (f : VerifyData → VerifyData) :
    (W.modVerify w n f).Lawful ↔ w.Lawful := by
  simp [W.modVerify]

@[simp] theorem W.modRestore_lawful (w : W) (n : Nat) (f : RestoreData → RestoreData) :
    (W.modRestore w n f).Lawful ↔ w.Lawful := by
  simp [W.modRestore]

@[simp] theorem W.modSession_lawful (w : W) (id : Nat) (f : SessionRec → SessionRec) :
    (W.modSession w id f).Lawful ↔ w.Lawful := by
  simp [W.modSession]

@[simp] theorem W.modExtent_lawful (w : W) (id : Nat) (sequence : Nat) (f : ExtentRec → ExtentRec) :
    (W.modExtent w id sequence f).Lawful ↔ w.Lawful := by
  simp [W.modExtent]

@[simp] theorem W.requestOp_lawful (w : W) (d : Drive) (op : PortOp) (req : Requester) (hB : w.Lawful) :
    (W.requestOp w d op req).1.Lawful := by
  unfold W.requestOp; (repeat' split) <;> simp [hB]

@[simp] theorem W.askOp_lawful (w : W) (d : Drive) (op : PortOp) (req : Requester) (hB : w.Lawful) :
    (W.askOp w d op req).Lawful := by
  simp [W.askOp, hB]

@[simp] theorem W.takeCleanRequest_lawful (w : W) (d : Drive) (asked : Bool) :
    (W.takeCleanRequest w d asked).Lawful ↔ w.Lawful := by
  unfold W.takeCleanRequest; (repeat' split) <;> simp

@[simp] theorem W.endOp_lawful (w : W) (d : Drive) (outcome : OpOutcome) (after : PortState × Option Nat) (fault : Option DriveReason)
    (asked : Bool) (hB : w.Lawful) : (W.endOp w d outcome after fault asked).Lawful := by
  unfold W.endOp
  split
  · exact hB
  · have h : (w.modPort d fun p => { p with lastResult := some outcome.result }).Lawful := by simp [hB]
    revert h
    generalize (w.modPort d fun p => { p with lastResult := some outcome.result }) = v
    intro h
    dsimp only
    rw [W.emit_lawful, W.takeCleanRequest_lawful]
    cases fault with
    | some reason =>
      have hf : (v.portFaults d reason).1.Lawful := by simp [h]
      exact W.lawful_ite _ _ _ (by simp [hf]) (by simp [hf])
    | none =>
      have he : ((v.modPort d fun p => { p with pending := none, position := after.2 }).enterPort d after.1).Lawful := by simp [h]
      refine (W.emit_lawful _ _).2 (W.lawful_ite _ _ _ (by simp [he]) he)

@[simp] theorem W.endTransport_lawful (w : W) (d : Drive) (asked : Bool) (hB : w.Lawful) :
    (W.endTransport w d asked).Lawful := by
  simp [W.endTransport, hB]

@[simp] theorem W.loadEnds_lawful (w : W) (d : Drive) (r : LoadReport) (asked : Bool) (hB : w.Lawful) :
    (W.loadEnds w d r asked).Lawful := by
  unfold W.loadEnds; (repeat' split) <;> simp [hB]

@[simp] theorem W.locateEnds_lawful (w : W) (d : Drive) (r : LocateReport) (asked : Bool) (hB : w.Lawful) :
    (W.locateEnds w d r asked).Lawful := by
  unfold W.locateEnds; (repeat' split) <;> simp [hB]

@[simp] theorem W.locateEndEnds_lawful (w : W) (d : Drive) (r : LocateEndReport) (asked : Bool) (hB : w.Lawful) :
    (W.locateEndEnds w d r asked).Lawful := by
  unfold W.locateEndEnds; (repeat' split) <;> simp [hB]

@[simp] theorem W.readEnds_lawful (w : W) (d : Drive) (r : ReadReport) (asked : Bool) (hB : w.Lawful) :
    (W.readEnds w d r asked).Lawful := by
  unfold W.readEnds; (repeat' split) <;> simp [hB]

@[simp] theorem W.writeEnds_lawful (w : W) (d : Drive) (r : WriteReport) (asked : Bool) (hB : w.Lawful) :
    (W.writeEnds w d r asked).Lawful := by
  unfold W.writeEnds; (repeat' split) <;> simp [hB]

@[simp] theorem W.endMarkEnds_lawful (w : W) (d : Drive) (r : EndMarkReport) (asked : Bool) (hB : w.Lawful) :
    (W.endMarkEnds w d r asked).Lawful := by
  unfold W.endMarkEnds; (repeat' split) <;> simp [hB]

@[simp] theorem W.unloadEnds_lawful (w : W) (d : Drive) (r : PlainReport) (asked : Bool) (hB : w.Lawful) :
    (W.unloadEnds w d r asked).Lawful := by
  unfold W.unloadEnds; (repeat' split) <;> simp [hB]

@[simp] theorem W.cleanEnds_lawful (w : W) (d : Drive) (r : PlainReport) (asked : Bool) (hB : w.Lawful) :
    (W.cleanEnds w d r asked).Lawful := by
  unfold W.cleanEnds; (repeat' split) <;> simp [hB]

@[simp] theorem W.opTimesOut_lawful (w : W) (d : Drive) (hB : w.Lawful) :
    (W.opTimesOut w d).Lawful := by
  simp [W.opTimesOut, hB]

@[simp] theorem W.presenceFalls_lawful (w : W) (d : Drive) (hB : w.Lawful) :
    (W.presenceFalls w d).Lawful := by
  unfold W.presenceFalls; dsimp only; (repeat' split) <;> simp [hB]

@[simp] theorem W.enterInit_lawful (w : W) (d : Drive) (fromAbsent : Bool) (hB : w.Lawful) :
    (W.enterInit w d fromAbsent).Lawful := by
  simp [W.enterInit, hB]

@[simp] theorem W.selfTestFails_lawful (w : W) (d : Drive) : (W.selfTestFails w d).Lawful ↔ w.Lawful := by
  simp [W.selfTestFails]

@[simp] theorem W.deriveSession_lawful (w : W) (id : Nat) :
    (W.deriveSession w id).Lawful ↔ w.Lawful := by
  simp [W.deriveSession]

@[simp] theorem W.createSession_lawful (w : W) (s : SessionRec) : (w.createSession s).Lawful ↔ w.Lawful := Iff.rfl

@[simp] theorem W.makeExtent_lawful (w : W) (e : ExtentRec) : (w.makeExtent e).Lawful ↔ w.Lawful := by
  simp [W.makeExtent]

@[simp] theorem W.freeExtent_lawful (w : W) (id sequence : Nat) : (W.freeExtent w id sequence).Lawful ↔ w.Lawful := by
  unfold W.freeExtent; split <;> simp

@[simp] theorem W.setVerdict_lawful (w : W) (id : Nat) (sequence : Nat) (v : VerifyState) (damaged : Nat) :
    (W.setVerdict w id sequence v damaged).Lawful ↔ w.Lawful := by
  simp [W.setVerdict]

@[simp] theorem W.dropSession_lawful (w : W) (id : Nat) (hB : w.Lawful) : (W.dropSession w id).1.Lawful := by
  have h : ((w.extentsOf id).foldl (fun (v : W) e => v.freeExtent id e.sequence) w).Lawful :=
    W.lawful_foldl _ (fun v e hv => by simp [hv]) _ _ hB
  simp [W.dropSession, h]

@[simp] theorem W.takeExtent_lawful (w : W) (e : ExtentIn) (origin : SessionOrigin) : (w.takeExtent e origin).Lawful ↔ w.Lawful := by
  unfold W.takeExtent; (repeat' split) <;> simp

@[simp] theorem W.removeExtent_lawful (w : W) (u : Nat) (e : ExtentRec) (hB : w.Lawful) : (W.removeExtent w u e).Lawful := by
  unfold W.removeExtent
  exact W.lawful_foldl _ (fun v n hv => by simp [hv]) _ _ (by simp [hB])

@[simp] theorem W.probedEnd_lawful (w : W) (i : Nat) (u : Nat) (hB : w.Lawful) :
    (W.probedEnd w i u).Lawful := by
  have h := hB
  unfold W.probedEnd; exact W.lawful_foldl _ (fun v n hv => by simp [hv]) _ _ h

@[simp] theorem W.suspectByVerify_lawful (w : W) (i : Nat) :
    (W.suspectByVerify w i).Lawful ↔ w.Lawful := by
  unfold W.suspectByVerify; (repeat' split) <;> simp

@[simp] theorem W.countVerdict_lawful (w : W) (n : Nat) (t : Tally) :
    (W.countVerdict w n t).Lawful ↔ w.Lawful := by
  simp [W.countVerdict]

@[simp] theorem W.noteVerdict_lawful (w : W) (n : Nat) (i : Nat) (t : Tally) (hB : w.Lawful) :
    (W.noteVerdict w n i t).Lawful := by
  simp [W.noteVerdict, hB]

@[simp] theorem W.recordVerdict_lawful (w : W) (n : Nat) (session : Nat) (sequence : Nat) (t : Tally) (hB : w.Lawful) :
    (W.recordVerdict w n session sequence t).Lawful := by
  unfold W.recordVerdict; (repeat' split) <;> simp [hB]

@[simp] theorem W.endChecking_lawful (w : W) (n : Nat) (hB : w.Lawful) :
    (W.endChecking w n).Lawful := by
  unfold W.endChecking; (repeat' split) <;> simp [hB]

@[simp] theorem W.recordUnended_lawful (w : W) (n : Nat) (hB : w.Lawful) :
    (W.recordUnended w n).Lawful := by
  unfold W.recordUnended; (repeat' split) <;> simp [hB]

end Sys2Proof.Machine

/-! PROOF. The law through the jobs, the dispatch and the streams (chapters 4 to 6). -/

namespace Sys2Proof.Machine

namespace W

section
variable {w : W}

/-! ### Claims and the moves held -/

/-- A present cartridge is claimed (R73). -/
theorem putCartClaim_lawful {i : Nat} (c : Option Nat) (hB : w.Lawful) (hl : w.locationOf i ≠ none) : (w.putCartClaim i c).Lawful := by
  refine (modCart_lawful i (fun r => { r with claim := c }) fun r hr => ⟨rfl, rfl, fun hn => absurd ?_ hl⟩).2 hB
  rw [locationOf, hr, Option.bind_some, hn]

/-- A claim is released. -/
theorem putCartClaim_none_lawful (i : Nat) (hB : w.Lawful) : (w.putCartClaim i none).Lawful := by
  refine (modCart_lawful i (fun r => { r with claim := none }) fun r hr => ⟨rfl, rfl, fun hn => ?_⟩).2 hB
  have hc := hB.placed.claims i (by rw [locationOf, hr, Option.bind_some, hn])
  rw [claimOf, hr, Option.bind_some] at hc
  exact hc.symm

theorem putHeld_lawful {l : List HeldMove} (hB : w.Lawful)
    (hl : ∀ m ∈ l, Element.inLibrary m.source ∧ ∀ e, m.asked = .element e → Element.isDestination e) :
    W.Lawful { w with js := { w.js with heldMoves := l } } := by
  obtain ⟨hp, h1, h2, h3, -, h5, h6⟩ := hB
  exact ⟨hp, h1, h2, h3, hl, h5, h6⟩

theorem located_of_available {j : Job} {i : Nat} (h : w.available j i = true) : w.locationOf i ≠ none := by
  intro hl
  unfold available at h
  split at h
  · cases h
  next c hc =>
    rw [locationOf, hc, Option.bind_some] at hl
    rw [hl] at h
    simp at h

theorem mem_of_lowestRank {l : List Nat} {rank : Nat → Option Nat} {i : Nat} (h : lowestRank l rank = some i) : i ∈ l := by
  rcases lowestRank_spec l rank with ⟨hn, -⟩ | ⟨b, -, hb, hm, -⟩
  · cases hn.symm.trans h
  · exact Option.some.inj (hb.symm.trans h) ▸ hm

theorem located_of_chooseBackup {j : Job} {p i : Nat} (h : w.chooseBackup j p = some i) : w.locationOf i ≠ none := by
  have hi := (List.mem_filter.1 (mem_of_lowestRank h)).2
  split at hi
  · simp only [Bool.and_eq_true] at hi
    exact located_of_available hi.2
  · cases hi

theorem located_of_chooseCleaning {j : Job} {d : Drive} {i : Nat} (h : w.chooseCleaning j d = some i) : w.locationOf i ≠ none := by
  unfold chooseCleaning at h
  rcases Option.or_eq_some_iff.1 h with h | ⟨-, h⟩
  · rw [of_decide_eq_true (List.find?_some (p := fun i => decide (w.locationOf i = some (.drive d))) h)]
    nofun
  · have hi := (List.mem_filter.1 (mem_of_lowestRank h)).2
    split at hi
    · simp only [Bool.and_eq_true] at hi
      exact located_of_available hi.2
    · cases hi

/-- A cartridge that dispatch chooses is present (R74, R76, R77). -/
theorem located_of_chooseCart {j : Job} {i : Nat} (h : w.chooseCart j = .cart i) : w.locationOf i ≠ none := by
  unfold chooseCart at h
  split at h
  · split at h
    next k hk =>
      cases h
      exact located_of_chooseBackup hk
    · cases h
  · split at h
    next k hk =>
      cases h
      exact located_of_chooseCleaning hk
    · cases h
  · split at h
    · cases h
    · split at h
      · cases h
      next hl =>
        split at h
        · cases h
        · split at h
          · cases h
            exact hl
          · cases h

end

end W

@[simp] theorem W.verifyDoneNotice_lawful (w : W) (n : Nat) (r : JobResult) :
    (W.verifyDoneNotice w n r).Lawful ↔ w.Lawful := by
  unfold W.verifyDoneNotice; (repeat' split) <;> simp

@[simp] theorem W.jobNotice_lawful (w : W) (n : Nat) (was : Option JobState) :
    (W.jobNotice w n was).Lawful ↔ w.Lawful := by
  unfold W.jobNotice; (repeat' split) <;> simp

@[simp] theorem W.setJob_lawful (w : W) (n : Nat) (s : JobState) (why : Option WaitReason) :
    (W.setJob w n s why).Lawful ↔ w.Lawful := by
  unfold W.setJob; (repeat' split) <;> simp

@[simp] theorem W.waitFor_lawful (w : W) (n : Nat) (r : WaitReason) :
    (W.waitFor w n r).Lawful ↔ w.Lawful := by
  simp [W.waitFor]

@[simp] theorem W.waitMedia_lawful (w : W) (n : Nat) (wanted : MediaWanted) (hB : w.Lawful) :
    (W.waitMedia w n wanted).Lawful := by
  unfold W.waitMedia; dsimp only; (repeat' split) <;> simp [hB]

@[simp] theorem W.freeJob_lawful (w : W) (n : Nat) : (W.freeJob w n).Lawful ↔ w.Lawful := Iff.rfl

@[simp] theorem W.admitJob_lawful (w : W) (kind : JobKind) (session : Option Nat) (target : Target) (progress : Progress)
    (pins : List Nat) (hB : w.Lawful) : (W.admitJob w kind session target progress pins).1.Lawful := by
  unfold W.admitJob
  split
  · exact hB
  · simp only [W.wantDispatch_lawful, W.jobNotice_lawful]
    (repeat' split) <;> simp [hB]

@[simp] theorem W.releaseCart_lawful (w : W) (n : Nat) (hB : w.Lawful) : (W.releaseCart w n).Lawful := by
  unfold W.releaseCart
  split
  · exact hB
  next i _ =>
    have h : (if w.claimOf i = some n then w.putCartClaim i none else w).Lawful :=
      W.lawful_ite _ _ _ (W.putCartClaim_none_lawful i hB) hB
    dsimp only
    split <;> simp [h]

@[simp] theorem W.unbind_lawful (w : W) (n : Nat) :
    (W.unbind w n).Lawful ↔ w.Lawful := by
  unfold W.unbind; (repeat' split) <;> simp

@[simp] theorem W.releaseDrive_lawful (w : W) (n : Nat) (hB : w.Lawful) :
    (W.releaseDrive w n).Lawful := by
  unfold W.releaseDrive; (repeat' split) <;> simp [hB]

@[simp] theorem W.releaseBoth_lawful (w : W) (n : Nat) (hB : w.Lawful) :
    (W.releaseBoth w n).Lawful := by
  simp [W.releaseBoth, hB]

@[simp] theorem W.dropHeld_lawful (w : W) (n : Nat) (hB : w.Lawful) : (W.dropHeld w n).Lawful :=
  W.putHeld_lawful hB fun m hm => hB.sound.heldMoves m (List.mem_of_mem_filter hm)

@[simp] theorem W.finishJob_lawful (w : W) (n : Nat) (s : JobState) (r : JobResult) (hB : w.Lawful) :
    (W.finishJob w n s r).Lawful := by
  unfold W.finishJob; (repeat' split) <;> simp [hB]

@[simp] theorem W.endJob_lawful (w : W) (n : Nat) (s : JobState) (r : JobResult) (hB : w.Lawful) :
    (W.endJob w n s r).Lawful := by
  unfold W.endJob; (repeat' split) <;> simp [hB]

@[simp] theorem W.issueMove_lawful (w : W) (origin : Origin) (source : Element) (asked : Dest) (i : Option Nat) (hB : w.Lawful)
    (hs : Element.inLibrary source) (ha : ∀ e, asked = .element e → Element.isDestination e) :
    (W.issueMove w origin source asked i).1.Lawful := by
  have h : W.Lawful { w with js := { w.js with nextTicket := w.js.nextTicket + 1 } } := hB
  have hold : ∀ label, W.Lawful { w with js := { w.js with
      nextTicket := w.js.nextTicket + 1,
      heldMoves := w.js.heldMoves ++ [{ origin := origin, source := source, asked := asked, expectedLabel := label,
                                        ticket := w.js.nextTicket, cart := i }] } } := by
    intro label
    refine W.putHeld_lawful h fun m hm => ?_
    rcases List.mem_append.1 hm with hm | hm
    · exact hB.sound.heldMoves m hm
    · rw [List.mem_singleton.1 hm]
      exact ⟨hs, ha⟩
  unfold W.issueMove
  dsimp only
  split
  · split
    · exact W.queueMove_lawful _ _ _ _ _ _ _ h hs ha
    · exact hold _
  · exact hold _

@[simp] theorem W.issueJobMove_lawful (w : W) (n : Nat) (source : Element) (asked : Dest) (i : Option Nat) (s : MountStep)
    (hB : w.Lawful) (hs : Element.inLibrary source) (ha : ∀ e, asked = .element e → Element.isDestination e) :
    (W.issueJobMove w n source asked i s).Lawful :=
  (W.modJob_lawful ..).2 (W.issueMove_lawful w _ source asked i hB hs ha)

@[simp] theorem W.issueReturn_lawful (w : W) (d : Drive) (hB : w.Lawful) :
    (W.issueReturn w d).Lawful := by
  unfold W.issueReturn; (repeat' split) <;> simp [hB]

@[simp] theorem W.issueHeld_lawful (w : W) (hB : w.Lawful) : (W.issueHeld w).Lawful := by
  unfold W.issueHeld
  split
  · exact hB
  next m rest hm =>
    have hheld : ∀ x ∈ m :: rest, _ := fun x hx => hB.sound.heldMoves x (hm ▸ hx)
    have h := hheld m (List.mem_cons_self ..)
    split
    · exact hB
    · exact W.queueMove_lawful _ _ _ _ _ _ _ (W.putHeld_lawful hB fun x hx => hheld x (List.mem_cons_of_mem _ hx)) h.1 h.2

@[simp] theorem W.bind_lawful (w : W) (n : Nat) (d : Drive) :
    (W.bind w n d).Lawful ↔ w.Lawful := by
  unfold W.bind; (repeat' split) <;> simp

@[simp] theorem W.atStep_lawful (w : W) (n : Nat) (s : MountStep) :
    (W.atStep w n s).Lawful ↔ w.Lawful := by
  simp [W.atStep]

@[simp] theorem W.startCleaning_lawful (w : W) (n : Nat) (d : Drive) (hB : w.Lawful) :
    (W.startCleaning w n d).Lawful := by
  simp [W.startCleaning, hB]

@[simp] theorem W.mountLoaded_lawful (w : W) (n : Nat) (j : Job) (d : Drive) (i : Nat) (hB : w.Lawful) :
    (W.mountLoaded w n j d i).Lawful := by
  unfold W.mountLoaded; (repeat' split) <;> simp [hB]

@[simp] theorem W.returnLeft_lawful (w : W) (l : List Drive) (hB : w.Lawful) :
    (W.returnLeft w l).Lawful :=
  W.lawful_foldl _ (fun v d hv => by split <;> simp [hv]) l w hB

@[simp] theorem W.mountBring_lawful (w : W) (n : Nat) (j : Job) (d : Drive) (i : Nat) (hB : w.Lawful) :
    (W.mountBring w n j d i).Lawful := by
  unfold W.mountBring
  split
  · simp [hB]
  · have bring : ∀ e, w.locationOf i = some e →
        (w.issueJobMove n e (.element (.drive d)) (some i) .bring).Lawful := fun e he => by
      simp [hB, hB.located he]
    dsimp only
    split
    next o ho =>
      split
      · simp [hB]
      · exact bring _ ho
    next k hk => exact bring _ hk
    next hl => exact bring _ hl
    next hl => exact bring _ hl
    · exact hB

@[simp] theorem W.mountNext_lawful (w : W) (n : Nat) (hB : w.Lawful) : (W.mountNext w n).Lawful := by
  unfold W.mountNext
  split
  · exact hB
  · split
    · dsimp only
      (repeat' split) <;> simp [hB]
    · exact hB

@[simp] theorem W.startYield_lawful (w : W) (n : Nat) :
    (W.startYield w n).Lawful ↔ w.Lawful := by
  unfold W.startYield; (repeat' split) <;> simp

@[simp] theorem W.maybeYield_lawful (w : W) (n : Nat) :
    (W.maybeYield w n).Lawful ↔ w.Lawful := by
  unfold W.maybeYield; (repeat' split) <;> simp

theorem W.claimCart_lawful (w : W) (n i : Nat) (hB : w.Lawful) (hl : w.locationOf i ≠ none) : (W.claimCart w n i).Lawful := by
  have h := W.putCartClaim_lawful (some n) hB hl
  unfold W.claimCart
  dsimp only
  split <;> simp [h]

theorem W.startMount_lawful (w : W) (n : Nat) (d : Drive) (i : Nat) (hB : w.Lawful) (hl : w.locationOf i ≠ none) :
    (W.startMount w n d i).Lawful := by
  have h := W.claimCart_lawful (w.putDriveClaim d (some n)) n i hB hl
  simp [W.startMount, h]

@[simp] theorem W.dispatchOne_lawful (w : W) (n : Nat) (hB : w.Lawful) : (W.dispatchOne w n).Lawful := by
  unfold W.dispatchOne
  split
  · exact hB
  · split
    · simp [hB]
    · simp [hB]
    · simp [hB]
    next i hi =>
      split
      · simp [hB]
      · split
        · simp [hB]
        · exact W.startMount_lawful _ _ _ _ hB (W.located_of_chooseCart hi)

@[simp] theorem W.dispatch_lawful (w : W) (hB : w.Lawful) :
    (W.dispatch w).Lawful := by
  have h := hB
  unfold W.dispatch
  split
  · exact W.lawful_foldl _ (fun v n hv => W.dispatchOne_lawful v n hv) _ _ h
  · exact h

@[simp] theorem W.idleExpires_lawful (w : W) (d : Drive) (hB : w.Lawful) :
    (W.idleExpires w d).Lawful := by
  unfold W.idleExpires; (repeat' split) <;> simp [hB]

@[simp] theorem W.idleStarts_lawful (w : W) (d : Drive) (limit : Nat) (hB : w.Lawful) :
    (W.idleStarts w d limit).Lawful := by
  unfold W.idleStarts; dsimp only; (repeat' split) <;> simp [hB]

@[simp] theorem W.idleAtOnce_lawful (w : W) (d : Drive) (hB : w.Lawful) :
    (W.idleAtOnce w d).Lawful := by
  simp [W.idleAtOnce, hB]

@[simp] theorem W.idleCheck_lawful (w : W) (d : Drive) (hB : w.Lawful) :
    (W.idleCheck w d).Lawful := by
  simp [W.idleCheck, hB]

@[simp] theorem W.idlePendingRuns_lawful (w : W) (d : Drive) (hB : w.Lawful) :
    (W.idlePendingRuns w d).Lawful := by
  simp [W.idlePendingRuns, hB]

@[simp] theorem W.returnRehomed_lawful (w : W) (i : Nat) (hB : w.Lawful) :
    (W.returnRehomed w i).Lawful := by
  unfold W.returnRehomed; (repeat' split) <;> simp [hB]

@[simp] theorem W.keepNeed_lawful (w : W) (d : Drive) (need : Bool) :
    (W.keepNeed w d need).Lawful ↔ w.Lawful := Iff.rfl

@[simp] theorem W.admitClean_lawful (w : W) (d : Drive) (hB : w.Lawful) :
    (W.admitClean w d).1.Lawful := by
  unfold W.admitClean; dsimp only; split <;> simp [hB]

@[simp] theorem W.cleanWanted_lawful (w : W) (d : Drive) (hB : w.Lawful) :
    (W.cleanWanted w d).Lawful := by
  unfold W.cleanWanted; dsimp only; (repeat' split) <;> simp [hB]

@[simp] theorem W.cleanRetry_lawful (w : W) (d : Drive) (hB : w.Lawful) :
    (W.cleanRetry w d).Lawful := by
  unfold W.cleanRetry; (repeat' split) <;> simp [hB]

@[simp] theorem W.cleaningUse_lawful (w : W) (i : Nat) (hB : w.Lawful) :
    (W.cleaningUse w i).Lawful := by
  simp [W.cleaningUse, hB]

@[simp] theorem W.placeFrame_lawful (w : W) (d : Drive) (f : Frame) (hB : w.Lawful) :
    (W.placeFrame w d f).1.Lawful := by
  unfold W.placeFrame; dsimp only; (repeat' split) <;> simp [hB]

@[simp] theorem W.placeCarry_lawful (x1 : Nat) (x2 : Drive) (x3 : W) (hB : x3.Lawful) :
    (W.placeCarry x1 x2 x3).1.Lawful := by
  have h := hB
  clear hB
  induction x1 generalizing x3 with
  | zero => exact h
  | succ n ih => unfold W.placeCarry; dsimp only; (repeat' split) <;> simp [ih, h]

@[simp] theorem W.placeAllCarry_lawful (w : W) (d : Drive) (hB : w.Lawful) :
    (W.placeAllCarry w d).1.Lawful := by
  simp [W.placeAllCarry, hB]

@[simp] theorem W.presentWrite_lawful (w : W) (d : Drive) (hB : w.Lawful) :
    (W.presentWrite w d).Lawful := by
  unfold W.presentWrite; dsimp only; (repeat' split) <;> simp [hB]

@[simp] theorem W.presentRead_lawful (w : W) (d : Drive) (hB : w.Lawful) :
    (W.presentRead w d).Lawful := by
  unfold W.presentRead; dsimp only; (repeat' split) <;> simp [hB]

@[simp] theorem W.beginEncoding_lawful (w : W) (d : Drive) (n : Nat) (hB : w.Lawful) :
    (W.beginEncoding w d n).Lawful := by
  unfold W.beginEncoding; dsimp only; (repeat' split) <;> simp [hB]

@[simp] theorem W.beginDecoding_lawful (w : W) (d : Drive) (n : Nat) (hB : w.Lawful) :
    (W.beginDecoding w d n).Lawful := by
  unfold W.beginDecoding; dsimp only; (repeat' split) <;> simp [hB]

@[simp] theorem W.considerGrant_lawful (w : W) (hB : w.Lawful) :
    (W.considerGrant w).Lawful := by
  unfold W.considerGrant; (repeat' split) <;> simp [hB]

@[simp] theorem W.coderIdle_lawful (w : W) :
    (W.coderIdle w).Lawful ↔ w.Lawful := by
  rfl

@[simp] theorem W.markNoEnd_lawful (w : W) (n : Nat) (b : Bool) :
    (W.markNoEnd w n b).Lawful ↔ w.Lawful := by
  unfold W.markNoEnd; (repeat' split) <;> simp

@[simp] theorem W.setEnding_lawful (w : W) (n : Nat) (e : Option Ending) :
    (W.setEnding w n e).Lawful ↔ w.Lawful := by
  simp [W.setEnding]

end Sys2Proof.Machine

/-! PROOF. The law through the jobs of each kind: BACKUP, VERIFY, RESTORE, and the readers (chapters 7, 9 and 10). -/

namespace Sys2Proof.Machine

@[simp] theorem W.fullAtThreshold_lawful (w : W) (i : Nat) :
    (W.fullAtThreshold w i).Lawful ↔ w.Lawful := by
  unfold W.fullAtThreshold; (repeat' split) <;> simp

@[simp] theorem W.closeExtent_lawful (w : W) (n : Nat) (continues : Bool) (endMark : Bool) (hB : w.Lawful) :
    (W.closeExtent w n continues endMark).Lawful := by
  unfold W.closeExtent; dsimp only; (repeat' split) <;> simp [hB]

@[simp] theorem W.startEndMark_lawful (w : W) (n : Nat) (why : EndFor) (hB : w.Lawful) :
    (W.startEndMark w n why).Lawful := by
  unfold W.startEndMark; (repeat' split) <;> simp [hB]

@[simp] theorem W.handOver_lawful (w : W) (n : Nat) (hB : w.Lawful) : (W.handOver w n).Lawful := by
  unfold W.handOver
  split
  · exact hB
  · split
    · exact hB
    next b _ =>
      have hlost : ∀ (l : List Nat) (how : JobResult), (l.foldl (fun (v : W) o => v.note (.objectLost (w.sessionOf n) o how))
          ((w.closeExtent n false false).modSession (w.sessionOf n) fun s => { s with state := .truncated })).Lawful := fun l how => by
        refine W.lawful_foldl _ (fun v o hv => ?_) _ _ ?_
        · exact hv
        · exact (W.modSession_lawful ..).2 (W.closeExtent_lawful _ _ _ _ hB)
      dsimp only
      exact W.lawful_ite _ _ _ (by simp [hlost]) (by simp [hlost])

@[simp] theorem W.truncWritten_lawful (w : W) (n : Nat) (endMark : Bool) (hB : w.Lawful) :
    (W.truncWritten w n endMark).Lawful := by
  unfold W.truncWritten; dsimp only; (repeat' split) <;> simp [hB]

@[simp] theorem W.placeTruncMarker_lawful (w : W) (n : Nat) (d : Drive) (objects : Nat) (hB : w.Lawful) :
    (W.placeTruncMarker w n d objects).Lawful := by
  unfold W.placeTruncMarker; dsimp only; (repeat' split) <;> simp [hB]

@[simp] theorem W.truncPlaceCarry_lawful (w : W) (n : Nat) (d : Drive) (objects : Nat) (hB : w.Lawful) :
    (W.truncPlaceCarry w n d objects).Lawful := by
  unfold W.truncPlaceCarry; dsimp only; (repeat' split) <;> simp [hB]

@[simp] theorem W.callTruncation_lawful (w : W) (n : Nat) (how : JobState × JobResult) (hB : w.Lawful) :
    (W.callTruncation w n how).Lawful := by
  unfold W.callTruncation; dsimp only; (repeat' split) <;> simp [hB]

@[simp] theorem W.spanHandOver_lawful (w : W) (n : Nat) (hB : w.Lawful) :
    (W.spanHandOver w n).Lawful := by
  unfold W.spanHandOver; (repeat' split) <;> simp [hB]

@[simp] theorem W.beginEarlySpan_lawful (w : W) (n : Nat) (d : Drive) :
    (W.beginEarlySpan w n d).Lawful ↔ w.Lawful := by
  simp [W.beginEarlySpan]

@[simp] theorem W.buildSpanMarker_lawful (w : W) (n : Nat) (d : Drive) (b : BackupData) (hB : w.Lawful) :
    (W.buildSpanMarker w n d b).Lawful := by
  unfold W.buildSpanMarker; dsimp only; (repeat' split) <;> simp [hB]

@[simp] theorem W.placeSessionEnd_lawful (w : W) (n : Nat) (d : Drive) (objects : Nat) (hB : w.Lawful) :
    (W.placeSessionEnd w n d objects).Lawful := by
  unfold W.placeSessionEnd; dsimp only; (repeat' split) <;> simp [hB]

@[simp] theorem W.sessionCloses_lawful (w : W) (n : Nat) (auto : Bool) (hB : w.Lawful) :
    (W.sessionCloses w n auto).Lawful := by
  simp [W.sessionCloses, hB]

@[simp] theorem W.truncAdvance_lawful (w : W) (n : Nat) (b : BackupData) (hB : w.Lawful) :
    (W.truncAdvance w n b).Lawful := by
  unfold W.truncAdvance; (repeat' split) <;> simp (disch := simp [hB]) [hB]

@[simp] theorem W.backupAdvance_lawful (w : W) (n : Nat) (hB : w.Lawful) :
    (W.backupAdvance w n).Lawful := by
  unfold W.backupAdvance; (repeat' split) <;> simp [hB]

@[simp] theorem W.attach_lawful (w : W) (n : Nat) (d : Drive) (b : BackupData) (i : Nat) (first : Nat) (hB : w.Lawful) :
    (W.attach w n d b i first).Lawful := by
  unfold W.attach; dsimp only; (repeat' split) <;> simp [hB]

@[simp] theorem W.beginExtent_lawful (w : W) (n : Nat) (hB : w.Lawful) : (W.beginExtent w n).Lawful := by
  unfold W.beginExtent
  (repeat' split) <;> simp [hB]

@[simp] theorem W.secureFrame_lawful (n : Nat) (label : Option Label) (block : Nat) (w : W) (f : Frame) (hB : w.Lawful) :
    (W.secureFrame n label block w f).Lawful := by
  unfold W.secureFrame; dsimp only; (repeat' split) <;> simp [hB]

@[simp] theorem W.countBlock_lawful (w : W) (n : Nat) (i : Nat) (buf : Buffer) (hB : w.Lawful) :
    (W.countBlock w n i buf).Lawful := by
  simp [W.countBlock, hB]

@[simp] theorem W.writeOk_lawful (w : W) (n : Nat) (d : Drive) (k : BufId) (hB : w.Lawful) :
    (W.writeOk w n d k).Lawful := by
  have h := hB
  have h1 : ∀ i, ((((w.stream d).buf k).chunks.foldl (secureFrame n (w.labelOf i) ((w.stream d).buf k).index) (w.countBlock n i ((w.stream d).buf k)))).Lawful :=
    fun i => W.lawful_foldl _ (fun v e hv => by simp [hv]) _ _ (by simp [h])
  unfold W.writeOk; dsimp only; (repeat' split) <;> simp [h, h1]

@[simp] theorem W.writeFails_lawful (w : W) (n : Nat) (d : Drive) (hB : w.Lawful) :
    (W.writeFails w n d).Lawful := by
  unfold W.writeFails; (repeat' split) <;> simp [hB]

@[simp] theorem W.closingTruncated_lawful (w : W) (n : Nat) (endMark : Bool) (hB : w.Lawful) :
    (W.closingTruncated w n endMark).Lawful := by
  unfold W.closingTruncated; split <;> simp [hB]

@[simp] theorem W.endMarkDone_lawful (w : W) (n : Nat) (why : EndFor) (endMark : Bool) (hB : w.Lawful) :
    (W.endMarkDone w n why endMark).Lawful := by
  unfold W.endMarkDone; dsimp only; (repeat' split) <;> simp [hB]

@[simp] theorem W.backupReleases_lawful (w : W) (n : Nat) (why : WaitReason) (hB : w.Lawful) :
    (W.backupReleases w n why).Lawful := by
  simp [W.backupReleases, hB]

@[simp] theorem W.loseCartridge_lawful (w : W) (n : Nat) (wasWrite : Bool) (hB : w.Lawful) :
    (W.loseCartridge w n wasWrite).Lawful := by
  unfold W.loseCartridge; dsimp only; (repeat' split) <;> simp [hB]

@[simp] theorem W.loseWrite_lawful (w : W) (n : Nat) (wasWrite : Bool) (hB : w.Lawful) :
    (W.loseWrite w n wasWrite).Lawful := by
  unfold W.loseWrite; dsimp only; (repeat' split) <;> simp (disch := simp [hB])

@[simp] theorem W.backupLetsGo_lawful (w : W) (n : Nat) (wasWrite : Bool) (absent : Bool) (hB : w.Lawful) :
    (W.backupLetsGo w n wasWrite absent).Lawful := by
  unfold W.backupLetsGo; (repeat' split) <;> simp [hB]

@[simp] theorem W.backupOp_lawful (w : W) (n : Nat) (d : Drive) (op : PortOp) (r : OpOutcome) (hB : w.Lawful) :
    (W.backupOp w n d op r).Lawful := by
  unfold W.backupOp; dsimp only; (repeat' split) <;> simp [hB]

@[simp] theorem W.takeFrame_lawful (w : W) (n : Nat) (d : Drive) (f : Frame) (hB : w.Lawful) :
    (W.takeFrame w n d f).Lawful := by
  unfold W.takeFrame; dsimp only; (repeat' split) <;> simp [hB]

@[simp] theorem W.encodingEnds_lawful (w : W) (hB : w.Lawful) :
    (W.encodingEnds w).Lawful := by
  unfold W.encodingEnds; (repeat' split) <;> simp [hB]

@[simp] theorem W.resumePlacing_lawful (w : W) (d : Drive) (hB : w.Lawful) :
    (W.resumePlacing w d).Lawful := by
  unfold W.resumePlacing; dsimp only; (repeat' split) <;> simp [hB]

@[simp] theorem W.takeRecord_lawful (w : W) (n : Nat) (hB : w.Lawful) :
    (W.takeRecord w n).Lawful := by
  unfold W.takeRecord; split <;> simp [hB]

@[simp] theorem W.serveCatalogWaits_lawful (w : W) (hB : w.Lawful) :
    (W.serveCatalogWaits w).Lawful := by
  unfold W.serveCatalogWaits
  exact W.lawful_foldl _ (fun v n h => v.takeRecord_lawful n h) _ _ hB

@[simp] theorem W.modTallyOf_lawful (w : W) (n : Nat) (f : Tally → Tally) :
    (W.modTallyOf w n f).Lawful ↔ w.Lawful := by
  simp [W.modTallyOf]

@[simp] theorem W.pinFor_lawful (w : W) (n : Nat) (session : Nat) :
    (W.pinFor w n session).Lawful ↔ w.Lawful := by
  simp [W.pinFor]

@[simp] theorem W.restThenEnd_lawful (w : W) (n : Nat) (how : JobState × JobResult) (hB : w.Lawful) :
    (W.restThenEnd w n how).Lawful := by
  unfold W.restThenEnd; dsimp only; (repeat' split) <;> simp [hB]

@[simp] theorem W.handFound_lawful (w : W) (n : Nat) (i : Nat) (v : VerifyData) (f : FoundExtent) (e : ExtentIn) (t : Tally)
    (hB : w.Lawful) : (W.handFound w n i v f e t).Lawful := by
  unfold W.handFound
  dsimp only
  (repeat' split) <;> simp [hB]

@[simp] theorem W.endFound_lawful (w : W) (n : Nat) (markAt : Option Nat) (hB : w.Lawful) :
    (W.endFound w n markAt).Lawful := by
  unfold W.endFound; (repeat' split) <;> simp [hB]

@[simp] theorem W.endCurrent_lawful (w : W) (n : Nat) (markAt : Option Nat) (hB : w.Lawful) :
    (W.endCurrent w n markAt).Lawful := by
  simp [W.endCurrent, hB]

@[simp] theorem W.makeCurrent_lawful (w : W) (n : Nat) (e : ExtentRec) :
    (W.makeCurrent w n e).Lawful ↔ w.Lawful := by
  simp [W.makeCurrent]

@[simp] theorem W.foundBoundary_lawful (w : W) (n : Nat) (b : Nat) (hB : w.Lawful) :
    (W.foundBoundary w n b).Lawful := by
  unfold W.foundBoundary; (repeat' split) <;> simp [hB]

@[simp] theorem W.enterBlock_lawful (w : W) (n : Nat) (b : Nat) (hB : w.Lawful) :
    (W.enterBlock w n b).Lawful := by
  unfold W.enterBlock; dsimp only; (repeat' split) <;> simp [hB]

@[simp] theorem W.verifyFrame_lawful (w : W) (n : Nat) (r : ResultRec) (hB : w.Lawful) :
    (W.verifyFrame w n r).Lawful := by
  unfold W.verifyFrame; dsimp only; (repeat' split) <;> simp [hB]

@[simp] theorem W.checkStart_lawful (w : W) (n : Nat) (v : VerifyData) (h : FrameHeader) (b : Nat) (offset : Nat) :
    (W.checkStart w n v h b offset).Lawful ↔ w.Lawful := by
  unfold W.checkStart; (repeat' split) <;> simp

@[simp] theorem W.verifyStart_lawful (w : W) (n : Nat) (h : FrameHeader) (b : Nat) (offset : Nat) (hB : w.Lawful) :
    (W.verifyStart w n h b offset).Lawful := by
  unfold W.verifyStart; dsimp only; (repeat' split) <;> simp [hB]

@[simp] theorem W.verifyEnd_lawful (w : W) (n : Nat) (h : FrameHeader) (b : Nat) :
    (W.verifyEnd w n h b).Lawful ↔ w.Lawful := by
  unfold W.verifyEnd; (repeat' split) <;> simp

@[simp] theorem W.verifyMarker_lawful (w : W) (n : Nat) (h : FrameHeader) (b : Nat) (offset : Nat) (hB : w.Lawful) :
    (W.verifyMarker w n h b offset).Lawful := by
  simp (disch := simp [hB]) [W.verifyMarker]

@[simp] theorem W.verifyHeaderBad_lawful (w : W) (n : Nat) (b : Nat) (hB : w.Lawful) :
    (W.verifyHeaderBad w n b).Lawful := by
  unfold W.verifyHeaderBad; dsimp only; (repeat' split) <;> simp [hB]

@[simp] theorem W.verifyFinish_lawful (w : W) (n : Nat) (hB : w.Lawful) :
    (W.verifyFinish w n).Lawful := by
  unfold W.verifyFinish; (repeat' split) <;> simp [hB]

@[simp] theorem W.endRemaining_lawful (n : Nat) (from_ : Option Nat) (w : W) (x : VExtent) (hB : w.Lawful) :
    (W.endRemaining n from_ w x).Lawful := by
  unfold W.endRemaining
  split
  next e v _ _ =>
    have h : ((w.endCurrent n none).makeCurrent n e).Lawful := by simp [hB]
    dsimp only
    refine W.lawful_ite _ _ _ hB (W.endChecking_lawful _ _ (W.lawful_ite _ _ _ ?_ ?_))
    · exact (W.modTallyOf_lawful ..).2 (W.lawful_ite _ _ _ h hB)
    · exact W.lawful_ite _ _ _ h hB
  · exact hB

@[simp] theorem W.verifyRangeEnd_lawful (w : W) (n : Nat) (from_ : Option Nat) (hB : w.Lawful) :
    (W.verifyRangeEnd w n from_).Lawful := by
  have h := hB
  unfold W.verifyRangeEnd
  split
  · exact h
  · exact W.verifyFinish_lawful _ _ (W.lawful_foldl _ (fun v e hv => by simp [hv]) _ _ h)

@[simp] theorem W.verifyBlockParsed_lawful (w : W) (n : Nat) (b : Nat) (last : Bool) (hB : w.Lawful) :
    (W.verifyBlockParsed w n b last).Lawful := by
  unfold W.verifyBlockParsed; dsimp only; (repeat' split) <;> simp (disch := simp [hB])

@[simp] theorem W.verifyUnreadable_lawful (w : W) (n : Nat) (b : Nat) (last : Bool) (hB : w.Lawful) :
    (W.verifyUnreadable w n b last).Lawful := by
  unfold W.verifyUnreadable; dsimp only; (repeat' split) <;> simp (disch := simp [hB])

@[simp] theorem W.verifyDataEnd_lawful (w : W) (n : Nat) (b : Nat) (mark : Bool) (hB : w.Lawful) :
    (W.verifyDataEnd w n b mark).Lawful := by
  simp (disch := simp [hB]) [W.verifyDataEnd]

@[simp] theorem W.verifyExtentRemoved_lawful (w : W) (n : Nat) (session : Nat) (sequence : Nat) (hB : w.Lawful) :
    (W.verifyExtentRemoved w n session sequence).Lawful := by
  unfold W.verifyExtentRemoved; (repeat' split) <;> simp [hB]

@[simp] theorem W.admitVerify_lawful (w : W) (i : Nat) (label : Label) (session : Option Nat) (rebuild : Bool) (hB : w.Lawful) :
    (W.admitVerify w i label session rebuild).1.Lawful := by
  simp [W.admitVerify, hB]

@[simp] theorem W.autoVerifyOne_lawful (session : Nat) (w : W) (e : Nat × Label) (hB : w.Lawful) :
    (W.autoVerifyOne session w e).Lawful := by
  unfold W.autoVerifyOne; dsimp only; (repeat' split) <;> simp [hB]

@[simp] theorem W.autoVerify_lawful (w : W) (session : Nat) (hB : w.Lawful) :
    (W.autoVerify w session).Lawful := by
  have h := hB
  unfold W.autoVerify
  exact W.lawful_foldl _ (fun v e hv => by simp [hv]) _ _ h

@[simp] theorem W.damageNotice_lawful (w : W) (n : Nat) (o : Nat) (chunk : Nat) (count : Nat) (cause : DamageCause) (label : Option Label) (block : Nat) :
    (W.damageNotice w n o chunk count cause label block).Lawful ↔ w.Lawful := by
  rfl

@[simp] theorem W.passObject_lawful (w : W) (n : Nat) :
    (W.passObject w n).Lawful ↔ w.Lawful := by
  simp [W.passObject]

@[simp] theorem W.reportAbsent_lawful (w : W) (n : Nat) (o : Nat) (cause : DamageCause) (label : Option Label) (block : Nat) (hB : w.Lawful) :
    (W.reportAbsent w n o cause label block).Lawful := by
  simp [W.reportAbsent, hB]

@[simp] theorem W.restoreDone_lawful (w : W) (n : Nat) (hB : w.Lawful) :
    (W.restoreDone w n).Lawful := by
  unfold W.restoreDone; (repeat' split) <;> simp [hB]

@[simp] theorem W.addEntry_lawful (w : W) (n : Nat) (e : OutEntry) :
    (W.addEntry w n e).Lawful ↔ w.Lawful := by
  unfold W.addEntry; (repeat' split) <;> simp

@[simp] theorem W.putFirst_lawful (w : W) (n : Nat) (l : List RAction) :
    (W.putFirst w n l).Lawful ↔ w.Lawful := by
  simp [W.putFirst]

@[simp] theorem W.takeDamage_lawful (w : W) (n : Nat) (o : Nat) (chunk : Nat) (count : Nat) (cause : DamageCause) (block : Nat) (instead : List RAction) (hB : w.Lawful) :
    (W.takeDamage w n o chunk count cause block instead).Lawful := by
  unfold W.takeDamage; (repeat' split) <;> simp [hB]

@[simp] theorem W.takeExpected_lawful (w : W) (n : Nat) (res : ResultRec) (r : RestoreData) (hB : w.Lawful) :
    (W.takeExpected w n res r).Lawful := by
  unfold W.takeExpected; (repeat' split) <;> simp [hB]

@[simp] theorem W.takeResult_lawful (w : W) (n : Nat) (res : ResultRec) (hB : w.Lawful) : (W.takeResult w n res).Lawful := by
  unfold W.takeResult
  split
  · exact hB
  · split
    · exact hB
    · dsimp only
      (repeat' split) <;> simp [hB]

@[simp] theorem W.addSubstitute_lawful (w : W) (n : Nat) (size : Nat) (final : Bool) :
    (W.addSubstitute w n size final).Lawful ↔ w.Lawful := by
  unfold W.addSubstitute; (repeat' split) <;> simp

@[simp] theorem W.stopReading_lawful (w : W) (n : Nat) (hB : w.Lawful) :
    (W.stopReading w n).Lawful := by
  unfold W.stopReading; dsimp only; (repeat' split) <;> simp [hB]

@[simp] theorem W.readFrom_lawful (w : W) (n : Nat) (l : Link) (hB : w.Lawful) :
    (W.readFrom w n l).Lawful := by
  unfold W.readFrom; dsimp only; (repeat' split) <;> simp [hB]

@[simp] theorem W.takeLink_lawful (w : W) (n : Nat) (l : Link) (hB : w.Lawful) :
    (W.takeLink w n l).Lawful := by
  simp (disch := simp [hB]) [W.takeLink]

@[simp] theorem W.linkNext_lawful (w : W) (n : Nat) (hB : w.Lawful) :
    (W.linkNext w n).Lawful := by
  unfold W.linkNext; (repeat' split) <;> simp [hB]

@[simp] theorem W.linkEnds_lawful (w : W) (n : Nat) (block : Nat) (dataEnd : Bool) (hB : w.Lawful) :
    (W.linkEnds w n block dataEnd).Lawful := by
  unfold W.linkEnds
  dsimp only
  (repeat' split) <;> first
    | exact W.lawful_foldl _ (fun v o hv => by simp [hv]) _ _ (by simp [hB])
    | simp [hB]

@[simp] theorem W.doAction_lawful (w : W) (n : Nat) (x1 : RAction) (hB : w.Lawful) :
    (W.doAction w n x1).Lawful := by
  unfold W.doAction; (repeat' split) <;> simp [hB]

@[simp] theorem W.runTodo_lawful (fuel n : Nat) (w : W) (hB : w.Lawful) : (W.runTodo fuel n w).Lawful := by
  induction fuel generalizing w with
  | zero => exact hB
  | succ k ih =>
    unfold W.runTodo
    (repeat' split) <;> first
      | exact hB
      | exact ih _ (W.doAction_lawful _ _ _ (by simpa using hB))
      | simp [hB]

@[simp] theorem W.runAll_lawful (w : W) (n : Nat) (hB : w.Lawful) :
    (W.runAll w n).Lawful := by
  unfold W.runAll; (repeat' split) <;> simp [hB]

@[simp] theorem W.runWaiting_lawful (w : W) (n : Nat) (hB : w.Lawful) :
    (W.runWaiting w n).Lawful := by
  unfold W.runWaiting; split <;> simp [hB]

@[simp] theorem W.restoreResult_lawful (w : W) (n : Nat) (res : ResultRec) (hB : w.Lawful) :
    (W.restoreResult w n res).Lawful := by
  simp [W.restoreResult, hB]

@[simp] theorem W.restoreMarker_lawful (w : W) (n : Nat) (h : FrameHeader) (b : Nat) (hB : w.Lawful) :
    (W.restoreMarker w n h b).Lawful := by
  unfold W.restoreMarker; (repeat' split) <;> simp [hB]

@[simp] theorem W.relocate_lawful (w : W) (n : Nat) (hB : w.Lawful) :
    (W.relocate w n).Lawful := by
  unfold W.relocate; (repeat' split) <;> simp [hB]

@[simp] theorem W.hintHolds_lawful (w : W) (n : Nat) :
    (W.hintHolds w n).Lawful ↔ w.Lawful := by
  simp [W.hintHolds]

@[simp] theorem W.restoreBlockParsed_lawful (w : W) (n : Nat) (b : Nat) (last : Bool) (hB : w.Lawful) :
    (W.restoreBlockParsed w n b last).Lawful := by
  unfold W.restoreBlockParsed; (repeat' split) <;> simp [hB]

@[simp] theorem W.restoreUnreadable_lawful (w : W) (n : Nat) (b : Nat) (last : Bool) (hB : w.Lawful) :
    (W.restoreUnreadable w n b last).Lawful := by
  unfold W.restoreUnreadable; (repeat' split) <;> simp (disch := simp [hB]) [hB]

@[simp] theorem W.restoreDataEnd_lawful (w : W) (n : Nat) (b : Nat) (hB : w.Lawful) :
    (W.restoreDataEnd w n b).Lawful := by
  simp [W.restoreDataEnd, hB]

@[simp] theorem W.rejudge_lawful (w : W) (n : Nat) (sequences : List Nat) (hB : w.Lawful) :
    (W.rejudge w n sequences).Lawful := by
  have h := hB
  unfold W.rejudge
  split
  · exact h
  · dsimp only
    refine W.runAll_lawful _ _ ?_
    have h2 : ∀ (l : List Nat) (v : W), v.Lawful → (l.foldl (fun (v : W) o => v.reportAbsent n o .noExtent none 0) v).Lawful :=
      fun l v hv => W.lawful_foldl _ (fun u o hu => by simp [hu]) _ _ hv
    split <;> simp [h, h2]

@[simp] theorem W.restoreExtentRemoved_lawful (w : W) (n : Nat) (sequence : Nat) (hB : w.Lawful) :
    (W.restoreExtentRemoved w n sequence).Lawful := by
  simp [W.restoreExtentRemoved, hB]

@[simp] theorem W.restoreAdmitted_lawful (w : W) (n : Nat) (hB : w.Lawful) :
    (W.restoreAdmitted w n).Lawful := by
  unfold W.restoreAdmitted; (repeat' split) <;> simp [hB]

@[simp] theorem W.handMarker_lawful (w : W) (n : Nat) (h : FrameHeader) (b : Nat) (offset : Nat) (hB : w.Lawful) :
    (W.handMarker w n h b offset).Lawful := by
  unfold W.handMarker; (repeat' split) <;> simp [hB]

@[simp] theorem W.handHeaderBad_lawful (w : W) (n : Nat) (b : Nat) (hB : w.Lawful) :
    (W.handHeaderBad w n b).Lawful := by
  unfold W.handHeaderBad; (repeat' split) <;> simp [hB]

@[simp] theorem W.handBlockParsed_lawful (w : W) (n : Nat) (b : Nat) (last : Bool) (hB : w.Lawful) :
    (W.handBlockParsed w n b last).Lawful := by
  unfold W.handBlockParsed; (repeat' split) <;> simp [hB]

@[simp] theorem W.handUnreadable_lawful (w : W) (n : Nat) (b : Nat) (last : Bool) (hB : w.Lawful) :
    (W.handUnreadable w n b last).Lawful := by
  unfold W.handUnreadable; (repeat' split) <;> simp [hB]

@[simp] theorem W.handDataEnd_lawful (w : W) (n : Nat) (b : Nat) (mark : Bool) (hB : w.Lawful) :
    (W.handDataEnd w n b mark).Lawful := by
  unfold W.handDataEnd; (repeat' split) <;> simp [hB]

@[simp] theorem W.handResult_lawful (w : W) (n : Nat) (res : ResultRec) (hB : w.Lawful) :
    (W.handResult w n res).Lawful := by
  unfold W.handResult; (repeat' split) <;> simp [hB]

@[simp] theorem W.beginParsing_lawful (w : W) (d : Drive) (i : BufId) :
    (W.beginParsing w d i).Lawful ↔ w.Lawful := by
  rfl

@[simp] theorem W.finishBlock_lawful (w : W) (d : Drive) (n : Nat) (i : BufId) (hB : w.Lawful) :
    (W.finishBlock w d n i).Lawful := by
  simp [W.finishBlock, hB]

@[simp] theorem W.advanceTo_lawful (w : W) (d : Drive) (offset : Nat) :
    (W.advanceTo w d offset).Lawful ↔ w.Lawful := by
  rfl

theorem W.meetChunk_lawful (w : W) (d : Drive) (j : Job) (offset : Nat) (h : FrameHeader) (hB : w.Lawful) :
    ∀ v, W.meetChunk w d j offset h = some v → v.Lawful := by
  intro v h'; unfold W.meetChunk at h'; (repeat' split at h') <;> first | (cases h'; simp [hB]) | simp_all

theorem W.parseAt_lawful (w : W) (d : Drive) (j : Job) (i : BufId) (offset : Nat) (hB : w.Lawful) :
    ∀ v, W.parseAt w d j i offset = some v → v.Lawful := by
  intro v h'
  unfold W.parseAt at h'
  dsimp only at h'
  (repeat' split at h') <;> first
    | exact W.meetChunk_lawful _ _ _ _ _ hB _ h'
    | (cases h'; simp [hB])

@[simp] theorem W.tellNews_lawful (w : W) (d : Drive) (n : Nat) (x : ReadNews) (hB : w.Lawful) :
    (W.tellNews w d n x).Lawful := by
  unfold W.tellNews; (repeat' split) <;> simp [hB]

theorem W.parseOnce_lawful (w : W) (d : Drive) (hB : w.Lawful) : ∀ v, W.parseOnce w d = some v → v.Lawful := by
  intro v h'
  unfold W.parseOnce at h'
  dsimp only at h'
  (repeat' split at h') <;> first
    | exact W.parseAt_lawful _ _ _ _ _ hB _ h'
    | (cases h'; done)
    | (cases h'; simp [hB])

@[simp] theorem W.parseLoop_lawful (x1 : Nat) (x2 : Drive) (x3 : W) (hB : x3.Lawful) :
    (W.parseLoop x1 x2 x3).Lawful := by
  have h := hB
  clear hB
  induction x1 generalizing x3 with
  | zero => exact h
  | succ n ih =>
    unfold W.parseLoop
    split
    · rename_i v hv
      exact ih _ (W.parseOnce_lawful _ _ h _ hv)
    · exact h

@[simp] theorem W.launchSeek_lawful (w : W) (d : Drive) (hB : w.Lawful) :
    (W.launchSeek w d).Lawful := by
  unfold W.launchSeek; dsimp only; (repeat' split) <;> simp [hB]

@[simp] theorem W.seekFails_lawful (w : W) (d : Drive) (n : Nat) (k : Seek) (hB : w.Lawful) :
    (W.seekFails w d n k).Lawful := by
  simp [W.seekFails, hB]

@[simp] theorem W.seekEnds_lawful (w : W) (n : Nat) (d : Drive) (r : OpOutcome) (hB : w.Lawful) :
    (W.seekEnds w n d r).Lawful := by
  unfold W.seekEnds; dsimp only; (repeat' split) <;> simp [hB]

@[simp] theorem W.readDone_lawful (w : W) (n : Nat) (d : Drive) (k : BufId) (r : OpOutcome) (hB : w.Lawful) :
    (W.readDone w n d k r).Lawful := by
  simp [W.readDone, hB]

@[simp] theorem W.atRest_lawful (w : W) (d : Drive) (j : Job) (cause : StopCause) (hB : w.Lawful) :
    (W.atRest w d j cause).Lawful := by
  unfold W.atRest; (repeat' split) <;> simp [hB]

@[simp] theorem W.restCheck_lawful (w : W) (d : Drive) (hB : w.Lawful) :
    (W.restCheck w d).Lawful := by
  unfold W.restCheck; dsimp only; (repeat' split) <;> simp [hB]

@[simp] theorem W.parseOn_lawful (w : W) (d : Drive) (hB : w.Lawful) : (W.parseOn w d).Lawful := by
  have h := W.parseLoop_lawful 8400 d _ (W.launchSeek_lawful w d hB)
  simp [W.parseOn, h]

@[simp] theorem W.decodingEnds_lawful (w : W) (hB : w.Lawful) :
    (W.decodingEnds w).Lawful := by
  unfold W.decodingEnds; dsimp only; (repeat' split) <;> simp [hB]

@[simp] theorem W.readerLetsGo_lawful (w : W) (n : Nat) (hB : w.Lawful) :
    (W.readerLetsGo w n).Lawful := by
  unfold W.readerLetsGo; (repeat' split) <;> simp [hB]

@[simp] theorem W.readerHolds_lawful (w : W) (n : Nat) :
    (W.readerHolds w n).Lawful ↔ w.Lawful := by
  unfold W.readerHolds; (repeat' split) <;> simp

@[simp] theorem W.readerResumes_lawful (w : W) (n : Nat) (hB : w.Lawful) :
    (W.readerResumes w n).Lawful := by
  unfold W.readerResumes; (repeat' split) <;> simp [hB]

end Sys2Proof.Machine

/-! PROOF. The law through mounts and reports, the requests and a reset (chapters 4 and 11). -/

namespace Sys2Proof.Machine

@[simp] theorem W.mountStops_lawful (w : W) (n : Nat) (hB : w.Lawful) :
    (W.mountStops w n).Lawful := by
  unfold W.mountStops; (repeat' split) <;> simp [hB]

@[simp] theorem W.moveFails_lawful (w : W) (n : Nat) (r : Reason) (hB : w.Lawful) :
    (W.moveFails w n r).Lawful := by
  simp [W.moveFails, hB]

@[simp] theorem W.leaveMount_lawful (w : W) (n : Nat) (absent : Bool) (j : Job) (hB : w.Lawful) :
    (W.leaveMount w n absent j).Lawful := by
  unfold W.leaveMount
  exact W.lawful_ite _ _ _ (by simp [hB]) (by simp [hB])

@[simp] theorem W.letGo_lawful (w : W) (n : Nat) (absent : Bool) (r : Option OpOutcome) (hB : w.Lawful) :
    (W.letGo w n absent r).Lawful := by
  unfold W.letGo; (repeat' split) <;> simp [hB]

@[simp] theorem W.chooseAgain_lawful (w : W) (n : Nat) (hB : w.Lawful) : (W.chooseAgain w n).Lawful := by
  unfold W.chooseAgain
  split
  · exact hB
  · split
    · split
      next i hi => exact W.mountBring_lawful _ _ _ _ _ (W.claimCart_lawful w n i hB (W.located_of_chooseBackup hi))
      · simp [hB]
    · exact hB

@[simp] theorem W.afterAway_lawful (w : W) (n : Nat) (hB : w.Lawful) : (W.afterAway w n).Lawful :=
  W.lawful_ite _ _ _ (by simp [hB]) (by simp [hB])

@[simp] theorem W.putAway_lawful (w : W) (n : Nat) (d : Drive) (hB : w.Lawful) :
    (W.putAway w n d).Lawful := by
  simp [W.putAway, hB]

@[simp] theorem W.sendHome_lawful (w : W) (n : Nat) (d : Drive) (i : Nat) (s : MountStep) (hB : w.Lawful) :
    (W.sendHome w n d i s).Lawful := by
  simp [W.sendHome, hB]

@[simp] theorem W.restoreBegins_lawful (w : W) (n : Nat) (j : Job) (d : Drive) (i : Nat) (r : RestoreData) (hB : w.Lawful) :
    (W.restoreBegins w n j d i r).Lawful := by
  unfold W.restoreBegins; dsimp only; (repeat' split) <;> simp [hB]

@[simp] theorem W.restoreMounted_lawful (w : W) (n : Nat) (j : Job) (d : Drive) (i : Nat) (state : JobState) (hB : w.Lawful) :
    (W.restoreMounted w n j d i state).Lawful := by
  unfold W.restoreMounted; dsimp only; (repeat' split) <;> simp [hB]

@[simp] theorem W.verifyMounted_lawful (w : W) (n : Nat) (j : Job) (d : Drive) (i : Nat) (state : JobState) :
    (W.verifyMounted w n j d i state).Lawful ↔ w.Lawful := by
  unfold W.verifyMounted; (repeat' split) <;> simp

@[simp] theorem W.mountDone_lawful (w : W) (n : Nat) (hB : w.Lawful) :
    (W.mountDone w n).Lawful := by
  unfold W.mountDone; (repeat' split) <;> simp [hB]

@[simp] theorem W.goPosition_lawful (w : W) (n : Nat) :
    (W.goPosition w n).Lawful ↔ w.Lawful := by
  simp [W.goPosition]

@[simp] theorem W.probeResult_lawful (w : W) (n : Nat) (d : Drive) (i : Nat) (s : MediaState) (used : Option Nat) (hB : w.Lawful) :
    (W.probeResult w n d i s used).Lawful := by
  cases used with
  | none =>
    unfold W.probeResult
    dsimp only
    split
    · simp [hB]
    · exact W.lawful_ite _ _ _ (by simp [hB]) (by simp [hB])
  | some u =>
    have h : (((w.modCart i fun c => { c with blocksUsed := .known u }).setMedia i s .probe).probedEnd i u).Lawful := by simp [hB]
    unfold W.probeResult
    dsimp only
    split
    · exact h
    · exact W.lawful_ite _ _ _ (by simp [h]) (by simp [h])

@[simp] theorem W.requestPosition_lawful (w : W) (n : Nat) (hB : w.Lawful) :
    (W.requestPosition w n).Lawful := by
  unfold W.requestPosition; (repeat' split) <;> simp [hB]

@[simp] theorem W.positionFails_lawful (w : W) (n : Nat) (hB : w.Lawful) :
    (W.positionFails w n).Lawful := by
  simp [W.positionFails, hB]

@[simp] theorem W.probeBlock_lawful (w : W) (n : Nat) (d : Drive) (hB : w.Lawful) :
    (W.probeBlock w n d).Lawful := by
  unfold W.probeBlock; dsimp only; split <;> simp [hB]

@[simp] theorem W.freeProbe_lawful (w : W) (d : Drive) (op : PortOp) (hB : w.Lawful) :
    (W.freeProbe w d op).Lawful := by
  unfold W.freeProbe; (repeat' split) <;> simp [hB]

@[simp] theorem W.stepEnds_lawful (w : W) (n : Nat) (j : Job) (d : Drive) (i : Nat) (s : MountStep) (op : PortOp) (r : OpOutcome) (hB : w.Lawful) :
    (W.stepEnds w n j d i s op r).Lawful := by
  unfold W.stepEnds; (repeat' split) <;> simp [hB]

@[simp] theorem W.mountOp_lawful (w : W) (n : Nat) (j : Job) (d : Drive) (s : MountStep) (op : PortOp) (r : OpOutcome) (hB : w.Lawful) :
    (W.mountOp w n j d s op r).Lawful := by
  unfold W.mountOp; (repeat' split) <;> simp [hB]

@[simp] theorem W.jobMoveEnds_lawful (w : W) (n : Nat) (r : Reason) (hB : w.Lawful) :
    (W.jobMoveEnds w n r).Lawful := by
  unfold W.jobMoveEnds; (repeat' split) <;> simp [hB]

@[simp] theorem W.moveReported_lawful (w : W) (origin : Origin) (ticket : Nat) (r : Reason) (cart : Option Nat) (hB : w.Lawful) :
    (W.moveReported w origin ticket r cart).Lawful := by
  cases origin with
  | job n => exact W.lawful_ite _ _ _ (by simp [hB]) (by simp [hB])
  | returned => cases cart <;> simp [W.moveReported, hB]
  | requested => exact hB
  | recovery => exact hB

@[simp] theorem W.cleanOp_lawful (w : W) (n : Nat) (j : Job) (d : Drive) (op : PortOp) (r : OpOutcome) (hB : w.Lawful) :
    (W.cleanOp w n j d op r).Lawful := by
  have hend : ∀ v : W, v.Lawful →
      ((if j.abortPending then v.endJob n .aborted .host else v.endJob n .done .ok).issueReturn d).Lawful := fun v hv =>
    W.issueReturn_lawful _ d (W.lawful_ite _ _ _ (by simp [hv]) (by simp [hv]))
  unfold W.cleanOp
  split
  · simp [hB]
  · split
    · simp [hB]
    · cases j.cartridge with
      | some i => exact hend _ (W.cleaningUse_lawful w i hB)
      | none => exact hend _ hB
    all_goals exact hB

@[simp] theorem W.readerOp_lawful (w : W) (n : Nat) (d : Drive) (op : PortOp) (r : OpOutcome) (hB : w.Lawful) :
    (W.readerOp w n d op r).Lawful := by
  unfold W.readerOp; (repeat' split) <;> simp [hB]

@[simp] theorem W.jobOp_lawful (w : W) (n : Nat) (d : Drive) (op : PortOp) (r : OpOutcome) (hB : w.Lawful) :
    (W.jobOp w n d op r).Lawful := by
  unfold W.jobOp; (repeat' split) <;> simp [hB]

@[simp] theorem W.unloadEnded_lawful (w : W) (d : Drive) (returnHome : Bool) (r : OpOutcome) (hB : w.Lawful) :
    (W.unloadEnded w d returnHome r).Lawful := by
  unfold W.unloadEnded; (repeat' split) <;> simp [hB]

@[simp] theorem W.opReported_lawful (w : W) (d : Drive) (req : Requester) (op : PortOp) (r : OpOutcome) (hB : w.Lawful) :
    (W.opReported w d req op r).Lawful := by
  unfold W.opReported; (repeat' split) <;> simp [hB]

@[simp] theorem W.portReported_lawful (w : W) (d : Drive) (hB : w.Lawful) :
    (W.portReported w d).Lawful := by
  unfold W.portReported; (repeat' split) <;> simp [hB]

@[simp] theorem W.cartReported_lawful (w : W) (n : Nat) (i : Nat) (hB : w.Lawful) :
    (W.cartReported w n i).Lawful := by
  simp [W.cartReported, hB]

@[simp] theorem W.extentGone_lawful (w : W) (n : Nat) (session : Nat) (sequence : Nat) (hB : w.Lawful) :
    (W.extentGone w n session sequence).Lawful := by
  unfold W.extentGone; (repeat' split) <;> simp [hB]

@[simp] theorem W.advanceJob_lawful (w : W) (n : Nat) (hB : w.Lawful) :
    (W.advanceJob w n).Lawful := by
  simp [W.advanceJob, hB]

@[simp] theorem W.takeSignal_lawful (w : W) (x1 : Signal) (hB : w.Lawful) :
    (W.takeSignal w x1).Lawful := by
  unfold W.takeSignal; (repeat' split) <;> simp [hB]

theorem W.settleOnce_lawful (w : W) (hB : w.Lawful) :
    ∀ v, W.settleOnce w = some v → v.Lawful := by
  have h := hB
  intro v h'
  unfold W.settleOnce at h'
  split at h'
  · rw [← Option.some.inj h']; exact W.rehome_lawful _ h
  · split at h'
    · rw [← Option.some.inj h']; exact W.takeSignal_lawful _ _ h
    · split at h'
      · rw [← Option.some.inj h']; exact W.serveCatalogWaits_lawful _ h
      · split at h'
        · rw [← Option.some.inj h']; exact W.dispatch_lawful _ h
        · cases h'

@[simp] theorem W.settle_lawful (x1 : Nat) (x2 : W) (hB : x2.Lawful) :
    (W.settle x1 x2).Lawful := by
  have h := hB
  clear hB
  induction x1 generalizing x2 with
  | zero => exact h
  | succ n ih =>
    unfold W.settle
    split
    · rename_i v hv
      exact ih _ (W.settleOnce_lawful _ h _ hv)
    · exact h

@[simp] theorem W.settled_lawful (w : W) (hB : w.Lawful) :
    (W.settled w).Lawful := by
  simp [W.settled, hB]

@[simp] theorem W.secureJob_lawful (w : W) (n : Nat) (hB : w.Lawful) :
    (W.secureJob w n).Lawful := by
  unfold W.secureJob; (repeat' split) <;> simp [hB]

@[simp] theorem W.parseBoth_lawful (w : W) :
    (W.parseBoth w).Lawful ↔ w.Lawful := by
  rfl

@[simp] theorem W.abortReader_lawful (w : W) (n : Nat) (hB : w.Lawful) :
    (W.abortReader w n).Lawful := by
  simp [W.abortReader, hB]

@[simp] theorem W.abortNow_lawful (w : W) (n : Nat) (hB : w.Lawful) :
    (W.abortNow w n).Lawful := by
  simp [W.abortNow, hB]

@[simp] theorem W.abortMounting_lawful (w : W) (n : Nat) (hB : w.Lawful) : (W.abortMounting w n).Lawful := by
  have h : (if (w.js.heldMoves.any fun m => m.origin = .job n) = true then (w.dropHeld n).modJob n fun j => { j with ticket := none }
      else w).Lawful := W.lawful_ite _ _ _ (by simp [hB]) hB
  unfold W.abortMounting
  exact W.lawful_ite _ _ _ h (W.mountStops_lawful _ n h)

@[simp] theorem W.abortCourse_lawful (w : W) (j : Job) (hB : w.Lawful) :
    (W.abortCourse w j).Lawful := by
  unfold W.abortCourse; (repeat' split) <;> simp [hB]

@[simp] theorem W.abortJob_lawful (w : W) (j : Job) (hB : w.Lawful) :
    (W.abortJob w j).Lawful := by
  simp [W.abortJob, hB]

@[simp] theorem refuse_lawful (w : W) (s : Status) :
    (refuse w s).w.Lawful ↔ w.Lawful := by
  rfl

@[simp] theorem answer_lawful (w : W) (b : ReplyBody) :
    (answer w b).w.Lawful ↔ w.Lawful := by
  rfl

@[simp] theorem ownScan_lawful (w : W) (p : List Byte) (hB : w.Lawful) :
    (ownScan w p).w.Lawful := by
  unfold ownScan; dsimp only; (repeat' split) <;> simp [hB]

@[simp] theorem ownSlotInfo_lawful (w : W) (p : List Byte) (hB : w.Lawful) :
    (ownSlotInfo w p).w.Lawful := by
  unfold ownSlotInfo; dsimp only; (repeat' split) <;> simp [hB]

@[simp] theorem ownCartridgeInfo_lawful (w : W) (p : List Byte) (hB : w.Lawful) :
    (ownCartridgeInfo w p).w.Lawful := by
  unfold ownCartridgeInfo; dsimp only; (repeat' split) <;> simp [hB]

@[simp] theorem ownEditCartridge_lawful (w : W) (p : List Byte) (hB : w.Lawful) :
    (ownEditCartridge w p).w.Lawful := by
  unfold ownEditCartridge; dsimp only; (repeat' split) <;> simp [hB]

theorem queueRequested_lawful (w : W) (source : Element) (asked : Dest) (expected : Option Label) (hB : w.Lawful)
    (hs : Element.inLibrary source) (ha : ∀ e, asked = .element e → Element.isDestination e) :
    (queueRequested w source asked expected).w.Lawful := by
  have h := W.queueMove_lawful w .requested source asked expected 0 none hB hs ha
  unfold queueRequested
  dsimp only
  split
  · exact h
  · exact hB

theorem isDestination_of_elementOfByte {n : Nat} {e : Element} (h : elementOfByte n = some e) : Element.isDestination e := by
  unfold elementOfByte at h
  split at h
  next hn =>
    cases h
    exact Element.isDestination_slot hn
  · (repeat' split at h) <;> cases h
    · exact Element.isDestination_mail
    · exact Element.isDestination_drive _
    · exact Element.isDestination_drive _

theorem inLibrary_of_exportElement {n : Nat} {e : Element} (h : exportElement n = some e) : Element.inLibrary e := by
  unfold exportElement at h
  split at h
  next hk =>
    cases h
    exact (isDestination_of_elementOfByte hk).1
  · cases h
    trivial
  · cases h
  · cases h
  · cases h

@[simp] theorem ownMove_lawful (w : W) (p : List Byte) (hB : w.Lawful) : (ownMove w p).w.Lawful := by
  unfold ownMove
  dsimp only
  split
  next a b ha hb =>
    have hq := queueRequested_lawful w a (.element b) (labelField (p.drop 2)) hB (isDestination_of_elementOfByte ha).1
      fun e he => Dest.element.inj he ▸ isDestination_of_elementOfByte hb
    (repeat' split) <;> first
      | exact hq
      | exact hB
  · exact hB

@[simp] theorem ownImport_lawful (w : W) (p : List Byte) (hB : w.Lawful) : (ownImport w p).w.Lawful := by
  have hq : ∀ (v : W) label, v.Lawful → (queueRequested v .mail .lowestFree label).w.Lawful := fun v label hv =>
    queueRequested_lawful v .mail .lowestFree label hv trivial nofun
  unfold ownImport
  dsimp only
  (repeat' split) <;> simp [hB, hq]

theorem exportFrom_lawful (w : W) (e : Element) (hB : w.Lawful) (he : Element.inLibrary e) : (exportFrom w e).w.Lawful := by
  have hq := queueRequested_lawful w e (.element .mail) ((w.recordAt e).bind w.labelOf) hB he
    fun x hx => Dest.element.inj hx ▸ Element.isDestination_mail
  unfold exportFrom
  dsimp only
  exact Answer.lawful_ite _ _ _ hB (Answer.lawful_ite _ _ _ hB hq)

@[simp] theorem ownExport_lawful (w : W) (p : List Byte) (hB : w.Lawful) : (ownExport w p).w.Lawful := by
  unfold ownExport
  dsimp only
  split
  · exact hB
  · split
    · split
      next e he =>
        obtain ⟨i, -, hi⟩ := Option.bind_eq_some_iff.1 he
        exact exportFrom_lawful w e hB (hB.located hi)
      · exact hB
    · split
      next e he => exact exportFrom_lawful w e hB (inLibrary_of_exportElement he)
      · exact hB

@[simp] theorem ownClearChangerFault_lawful (w : W) (x1 : List Byte) (hB : w.Lawful) :
    (ownClearChangerFault w x1).w.Lawful := by
  simp [ownClearChangerFault, hB]

@[simp] theorem ownRetestDrive_lawful (w : W) (p : List Byte) (hB : w.Lawful) : (ownRetestDrive w p).w.Lawful := by
  unfold ownRetestDrive
  dsimp only
  (repeat' split) <;> simp [hB]

@[simp] theorem unloadAccepted_lawful (w : W) (d : Drive) (home : Bool) (hB : w.Lawful) :
    (unloadAccepted w d home).Lawful := by
  unfold unloadAccepted; (repeat' split) <;> simp [hB]

@[simp] theorem ownUnloadDrive_lawful (w : W) (p : List Byte) (hB : w.Lawful) :
    (ownUnloadDrive w p).w.Lawful := by
  unfold ownUnloadDrive; dsimp only; (repeat' split) <;> simp [hB]

@[simp] theorem ownOpenSession_lawful (w : W) (p : List Byte) (hB : w.Lawful) : (ownOpenSession w p).w.Lawful := by
  unfold ownOpenSession
  dsimp only
  (repeat' split) <;> simp [hB]

@[simp] theorem beginObject_lawful (w : W) (j : Job) (b : BackupData) :
    (beginObject w j b).Lawful ↔ w.Lawful := by
  unfold beginObject; (repeat' split) <;> simp

@[simp] theorem ownBeginObject_lawful (w : W) (p : List Byte) :
    (ownBeginObject w p).w.Lawful ↔ w.Lawful := by
  unfold ownBeginObject; (repeat' split) <;> simp

@[simp] theorem ownWriteData_lawful (w : W) (p : List Byte) (hB : w.Lawful) : (ownWriteData w p).w.Lawful := by
  unfold ownWriteData
  dsimp only
  (repeat' split) <;> simp [hB]

@[simp] theorem ownEndObject_lawful (w : W) (p : List Byte) (hB : w.Lawful) :
    (ownEndObject w p).w.Lawful := by
  unfold ownEndObject; dsimp only; (repeat' split) <;> simp [hB]

@[simp] theorem ownCloseSession_lawful (w : W) (p : List Byte) :
    (ownCloseSession w p).w.Lawful ↔ w.Lawful := by
  unfold ownCloseSession; (repeat' split) <;> simp

@[simp] theorem ownStartVerify_lawful (w : W) (p : List Byte) (hB : w.Lawful) :
    (ownStartVerify w p).w.Lawful := by
  unfold ownStartVerify; dsimp only; (repeat' split) <;> simp [hB]

@[simp] theorem ownStartRestore_lawful (w : W) (p : List Byte) (hB : w.Lawful) :
    (ownStartRestore w p).w.Lawful := by
  unfold ownStartRestore; dsimp only; (repeat' split) <;> simp [hB]

@[simp] theorem ownReadData_lawful (w : W) (p : List Byte) (hB : w.Lawful) :
    (ownReadData w p).w.Lawful := by
  unfold ownReadData; dsimp only; (repeat' split) <;> simp [hB]

@[simp] theorem ownJobInfo_lawful (w : W) (p : List Byte) (hB : w.Lawful) :
    (ownJobInfo w p).w.Lawful := by
  unfold ownJobInfo; dsimp only; (repeat' split) <;> simp [hB]

@[simp] theorem ownAbortJob_lawful (w : W) (p : List Byte) (hB : w.Lawful) :
    (ownAbortJob w p).w.Lawful := by
  unfold ownAbortJob; (repeat' split) <;> simp [hB]

@[simp] theorem ownReleaseJob_lawful (w : W) (p : List Byte) (hB : w.Lawful) :
    (ownReleaseJob w p).w.Lawful := by
  unfold ownReleaseJob; (repeat' split) <;> simp [hB]

@[simp] theorem ownStartClean_lawful (w : W) (p : List Byte) (hB : w.Lawful) :
    (ownStartClean w p).w.Lawful := by
  unfold ownStartClean; dsimp only; (repeat' split) <;> simp [hB]

@[simp] theorem addWaiting_lawful (n : Nat) (w : W) (hB : w.Lawful) :
    (addWaiting n w).Lawful := by
  unfold addWaiting; dsimp only; (repeat' split) <;> simp [hB]

@[simp] theorem ownSessionInfo_lawful (w : W) (p : List Byte) (hB : w.Lawful) :
    (ownSessionInfo w p).w.Lawful := by
  unfold ownSessionInfo; dsimp only; (repeat' split) <;> simp [hB]

@[simp] theorem ownExtentInfo_lawful (w : W) (p : List Byte) (hB : w.Lawful) :
    (ownExtentInfo w p).w.Lawful := by
  unfold ownExtentInfo; dsimp only; (repeat' split) <;> simp [hB]

@[simp] theorem ownDropSession_lawful (w : W) (p : List Byte) (hB : w.Lawful) :
    (ownDropSession w p).w.Lawful := by
  unfold ownDropSession; (repeat' split) <;> simp [hB]

@[simp] theorem ownLoadExtent_lawful (w : W) (p : List Byte) (hB : w.Lawful) : (ownLoadExtent w p).w.Lawful := by
  unfold ownLoadExtent
  dsimp only
  split <;> simp [hB]

@[simp] theorem ownCatalogInfo_lawful (w : W) (x1 : List Byte) :
    (ownCatalogInfo w x1).w.Lawful ↔ w.Lawful := by
  rfl

@[simp] theorem W.resetCartridge_lawful (w : W) (j : Job) :
    (W.resetCartridge w j).Lawful ↔ w.Lawful := by
  unfold W.resetCartridge; (repeat' split) <;> simp

@[simp] theorem W.resetSession_lawful (w : W) (s : SessionRec) (hB : w.Lawful) :
    (W.resetSession w s).Lawful := by
  have h := hB
  unfold W.resetSession
  split
  · exact W.lawful_foldl _ (fun v e hv => by split <;> simp [hv]) _ _ (by simpa using h)
  · exact h

@[simp] theorem W.resetJobs_lawful (w : W) (hB : w.Lawful) : (W.resetJobs w).Lawful :=
  W.putHeld_lawful hB (fun _ hm => absurd hm List.not_mem_nil)

theorem W.cart_resetClaims (w : W) (i : Nat) :
    ((w.ct.carts.map fun c => c.map fun r => { r with claim := none }).getD i none) =
      (w.cart i).map fun r => { r with claim := none } := by
  simp only [W.cart, List.getD_eq_getElem?_getD, List.getElem?_map]
  cases w.ct.carts[i]? <;> rfl

/-- Every claim is released and no scan runs (R21). -/
theorem W.resetClaims_lawful (w : W) (hB : w.Lawful) : W.Lawful { w with ct := { w.ct with
    carts := w.ct.carts.map fun c => c.map fun r => { r with claim := none }, scan := none } } := by
  refine .intro ?_ hB.elements
  have hp := hB.placed
  refine ⟨hp.law.congr (fun i => ?_) (fun i => ?_) (fun x _ => ?_) (fun x _ => ?_) (fun x _ _ => .inl ?_) (fun x _ _ => .inl ?_),
    fun i _ => ?_, hp.slots, (List.length_map _).trans hp.carts⟩
  · rw [W.locationOf, W.cart, W.cart_resetClaims, W.locationOf]
    cases w.cart i <;> rfl
  · rw [W.homeOf, W.cart, W.cart_resetClaims, W.homeOf]
    cases w.cart i <;> rfl
  · cases x <;> rfl
  · cases x <;> rfl
  · cases x <;> rfl
  · cases x <;> rfl
  · rw [W.claimOf, W.cart, W.cart_resetClaims]
    cases w.cart i <;> rfl

@[simp] theorem W.resetTable_lawful (w : W) (hB : w.Lawful) : (W.resetTable w).Lawful := by
  have h := W.resetClaims_lawful w hB
  unfold W.resetTable
  exact W.lawful_ite _ _ _ h (W.lawful_ite _ _ _ (W.mailOpened_lawful _ h) (W.mailClosed_lawful _ h))

@[simp] theorem W.resetPortNow_lawful (w : W) (d : Drive) (hB : w.Lawful) : (W.resetPortNow w d).Lawful := by
  unfold W.resetPortNow
  exact W.lawful_ite _ _ _ (by simp [hB]) (by simp [hB])

@[simp] theorem W.afterReset_lawful (w : W) (hB : w.Lawful) : (W.afterReset w).Lawful := by
  have hclean : ∀ (v : W) d, v.Lawful → (if (v.port d).cleanRequest then v.cleanWanted d else v).Lawful := fun v d hv =>
    W.lawful_ite _ _ _ (by simp [hv]) hv
  exact hclean _ .d1 (hclean _ .d0 hB)

end Sys2Proof.Machine

/-! PROOF. Law R5 is kept by every step. -/

namespace Sys2Proof.Machine

/-! ### The commands' effects -/

theorem W.secureStop_lawful {w : W} (h : w.Lawful) : w.secureStop.Lawful := by
  unfold W.secureStop
  split
  · exact h
  · exact (W.parseBoth_lawful _).mpr (W.lawful_foldl _ (fun _ n h => W.secureJob_lawful _ n h) _ _ h)

theorem W.nowOnline_lawful {w : W} (h : w.Lawful) : w.nowOnline.Lawful :=
  W.idlePendingRuns_lawful _ _ (W.idlePendingRuns_lawful _ _ (W.settled_lawful _ h))

theorem W.resumeAll_lawful {w : W} (h : w.Lawful) : w.resumeAll.Lawful :=
  W.nowOnline_lawful ((W.parseBoth_lawful _).mpr (W.lawful_foldl _ (fun _ n h => W.readerResumes_lawful _ n h) _ _ h))

theorem ownSetMode_lawful {w : W} (p : List Byte) (h : w.Lawful) : (ownSetMode w p).w.Lawful := by
  unfold ownSetMode
  dsimp only
  split
  · split
    · exact h
    · exact W.nowOnline_lawful h
  · split
    · split <;> exact h
    · exact h

theorem ownResume_lawful {w : W} (p : List Byte) (h : w.Lawful) : (ownResume w p).w.Lawful := by
  unfold ownResume
  split
  · exact h
  · split
    · exact h
    · exact W.resumeAll_lawful h

theorem ownResumeStream_lawful {w : W} (p : List Byte) (h : w.Lawful) : (ownResumeStream w p).w.Lawful := by
  unfold ownResumeStream
  dsimp only
  (repeat' split) <;> exact h

theorem W.remaining_tail (w : W) (h : w.Lawful) {e : Element} {rest : List Element} (hr : w.remainingSlots = e :: rest) :
    Element.isScanned e ∧ ∀ x ∈ rest, Element.isScanned x := by
  have hin := fun x => W.isScanned_of_remainingSlots w h (e := x)
  rw [hr] at hin
  exact ⟨hin e (List.mem_cons_self ..), fun x hx => hin x (List.mem_cons_of_mem _ hx)⟩

theorem Effect.lawful {c : Instr} {w v : W} (h : Effect w c v) (hB : w.Lawful) : v.Lawful := by
  cases h with
  | setMode p => exact ownSetMode_lawful p hB
  | resume p => exact ownResume_lawful p hB
  | resumeStream p => exact ownResumeStream_lawful p hB
  | powerWarningAsserted => exact W.secureStop_lawful hB
  | frontDoorOpened => exact W.frontDoorOpens_lawful _ hB
  | frontDoorClosed => exact W.frontDoorCloses_lawful _ hB
  | mailSlotDoorOpened => exact W.mailOpened_lawful _ hB
  | mailSlotDoorClosed => exact W.queueScan_lawful _ _ (W.mailClosed_lawful _ hB)
  | magazineRemoved m => exact W.magazineGone_lawful _ m (by cases m <;> exact hB)
  | magazineInserted m => exact W.magazineBack_lawful _ m (by cases m <;> exact hB)
  | presenceLost d => exact W.presenceFalls_lawful _ d (by cases d <;> exact hB)
  | presenceRise d => exact W.enterInit_lawful _ d true (by cases d <;> exact hB)
  | presenceBack d => cases d <;> exact hB
  | gripSensed reads m h hm =>
    exact W.extractDone_lawful _ _ ((W.endStep_lawful _).2 hB) (hB.move hm)
  | insertDone m h hm => exact W.goToRest_lawful _ (W.placeDone_lawful (w.sensePicker false) hB (hB.move hm))
  | scanPassesMail present reads rest h hr =>
    obtain ⟨-, hrest⟩ := w.remaining_tail hB hr
    exact W.scanGoesOn_lawful _ ((W.endStep_lawful _).2 (W.putRemaining_lawful w rest hB hrest))
  | scanSlotDone present reads e rest h hr =>
    obtain ⟨he, hrest⟩ := w.remaining_tail hB hr
    exact W.scanGoesOn_lawful _ ((W.endStep_lawful _).2 (W.putRemaining_lawful _ rest (W.scanResult_lawful w _ hB he) hrest))
  | nothing | haltStreams | powerWarningWithdrawn | gripIdle | insertIdle => exact hB
  | _ => simp [hB]

/-! ### The resets and a second passing -/

theorem W.recordsReset_lawful {w : W} (h : w.Lawful) : w.recordsReset.Lawful := by
  have h1 : (w.js.jobs.foldl W.resetCartridge w).Lawful :=
    W.lawful_foldl _ (fun _ j h => (W.resetCartridge_lawful _ j).mpr h) _ _ h
  have h2 := W.lawful_foldl W.resetSession (fun _ x h => W.resetSession_lawful _ x h)
    (w.js.jobs.foldl W.resetCartridge w).cg.sessions _ h1
  exact W.lawful_foldl _ (fun v x h => by simpa using h) _ _ (W.resetJobs_lawful _ h2)

theorem W.resetBlocks_lawful {w : W} (h : w.Lawful) : w.resetBlocks.Lawful := by
  have he : (w.recordsReset.enginesReset w.pins).Lawful := W.resetTable_lawful _ (W.recordsReset_lawful h)
  have hm : (w.recordsReset.enginesReset w.pins).machinesReset.Lawful :=
    W.resetPortNow_lawful _ _ (W.resetPortNow_lawful _ _ (W.resetChangerNow_lawful _ he))
  rw [W.resetBlocks_eq]
  exact W.lawful_ite _ _ _ hm (W.queueScan_lawful _ _ hm)

theorem powerOnLib_changer (p : Pins) : (powerOnLib p).cc.picker = .none ∧ (powerOnLib p).cc.pickedFrom = none ∧
    (powerOnLib p).cc.current = none ∧ (powerOnLib p).cc.queue = [] ∧ (powerOnLib p).cc.scanEntry = none ∧
    (powerOnLib p).cc.closeScan = none ∧ (powerOnLib p).cc.interrupted = none := by
  show (powerOnChanger p).picker = .none ∧ _
  unfold powerOnLib powerOnChanger
  dsimp only
  split <;> exact ⟨rfl, rfl, rfl, rfl, rfl, rfl, rfl⟩

theorem powerOnLib_noCartridge (p : Pins) (i : Nat) (c : CartRec) : (powerOnLib p).ct.carts[i]? ≠ some (some c) :=
  reset_noCartridge i c

theorem powerOnLib_slot (p : Pins) {k : Nat} {r : SlotRec} (h : (powerOnLib p).ct.slots[k]? = some r) :
    r.holder = none ∧ r.reservedFor = none := by
  obtain ⟨n, -, rfl⟩ := List.mem_map.1 (List.mem_of_getElem? h)
  exact ⟨rfl, rfl⟩

theorem powerOnLib_port (p : Pins) (d : Drive) : ((powerOnLib p).ports.get d).cartridge = .none := by
  have hport : ∀ b, (powerOnPort b).cartridge = .none := fun b => by cases b <;> rfl
  cases d <;> exact hport _

theorem powerOnLib_elementsSound (p : Pins) : (powerOnLib p).ElementsSound := by
  obtain ⟨-, hfrom, hcur, hq, hs, hc, hi⟩ := powerOnLib_changer p
  refine ⟨?_, ?_, ?_, fun m hm => absurd (show m ∈ [] from hm) List.not_mem_nil, ?_, ?_⟩ <;> simp [hfrom, hcur, hq, hs, hc, hi]

theorem powerOnLib_cartridgeLaw (p : Pins) : (powerOnLib p).CartridgeLaw where
  absent i c h := absurd h (powerOnLib_noCartridge p i c)
  inSlot i c n h := absurd h (powerOnLib_noCartridge p i c)
  inMail i c h := absurd h (powerOnLib_noCartridge p i c)
  inDrive i c d h := absurd h (powerOnLib_noCartridge p i c)
  inPicker i c h := absurd h (powerOnLib_noCartridge p i c)
  home i c n h := absurd h (powerOnLib_noCartridge p i c)
  holder k r i h e := by rw [(powerOnLib_slot p h).1] at e; cases e
  reserved k r i h e := by rw [(powerOnLib_slot p h).2] at e; cases e
  mail := ⟨rfl, fun i e => by rw [show (powerOnLib p).ct.mail.holder = none from rfl] at e; cases e⟩
  port d i e := by rw [powerOnLib_port] at e; cases e
  picker i e := by rw [(powerOnLib_changer p).1] at e; cases e

/-! ### The theorem -/

/-- Law R5 and the elements, of a library. -/
def Lib.Lawful (l : Lib) : Prop := W.Lawful { toLib := l, set := [], out := [] }

theorem Lib.lawful_iff (w : W) : w.toLib.Lawful ↔ w.Lawful := Iff.rfl

theorem Lib.Lawful.intro {l : Lib} (hslots : l.ct.slots.length = 40) (hcarts : l.ct.carts.length = 64) (he : l.ElementsSound)
    (hc : l.CartridgeLaw) : l.Lawful :=
  W.Lawful.intro (W.Placed.of_cartridgeLaw (w := { toLib := l, set := [], out := [] }) hc hslots hcarts)
    ((W.elements_iff { toLib := l, set := [], out := [] }).2 he)

theorem Lib.Lawful.tick {l : Lib} (h : l.Lawful) : l.tick.Lawful :=
  have hp := W.Lawful.placed h
  have he := W.Lawful.sound h
  W.Lawful.intro (hp.of_tables rfl (fun d => by cases d <;> rfl) rfl)
    ⟨he.queue, he.current, he.scan, he.heldMoves, he.pickedFrom, he.interrupted⟩

theorem powerOnLib_lawful (p : Pins) : (powerOnLib p).Lawful :=
  .intro (by simp [powerOnLib, powerOnTable]) rfl (powerOnLib_elementsSound p) (powerOnLib_cartridgeLaw p)

theorem step_lawful {s t : State} (hs : s.lib.Lawful) (ht : step s = .next t) : t.lib.Lawful :=
  step_keeps (Q := Lib.Lawful) ht hs hs.tick (fun _ _ hv => hv.lawful (w := s.work) hs) (fun w h => W.settled_lawful w h)
    (fun w h => W.secureStop_lawful (w := w) (show Lib.Lawful w.toLib from h ▸ hs)) powerOnLib_lawful
    (fun w h => W.resetBlocks_lawful (w := w) (show Lib.Lawful w.toLib from h ▸ hs)) (fun w h => W.afterReset_lawful w h)

/-- Settles O9: the law of places, with the elements that the changer and its moves name, is kept by every operation. -/
theorem everyStepKeepsTheCartridgeLaw : Obligations.EveryStepKeepsTheCartridgeLaw := by
  intro s t htable helements hlaw ht
  have h := step_lawful (.intro htable.slots htable.carts helements hlaw) ht
  exact ⟨W.Lawful.sound h, (W.Lawful.placed h).cartridgeLaw⟩

end Sys2Proof.Machine

/-! PROOF. The books: the part of a working state that the catalog's law speaks of, and the operations that leave it as it is. -/

namespace Sys2Proof.Machine

/-! ## Records with what the law does not speak of left blank -/

def Progress.plain : Progress → Progress
  | .backup b => .backup { (default : BackupData) with
      extentSeq := b.extentSeq, extentOpen := b.extentOpen, truncEnd := b.truncEnd }
  | .verify _ => .verify default
  | .restore _ => .restore default
  | .clean => .clean

def Target.plain : Target → Target
  | .pool p => .pool p
  | .label _ => .label []
  | .drive d => .drive d

def Job.plain (j : Job) : Job :=
  { (default : Job) with
    id := j.id, kind := j.kind, state := j.state, waitReason := j.waitReason, drive := j.drive, cartridge := j.cartridge,
    stream := j.stream, sessionId := j.sessionId, target := j.target.plain, mountStep := j.mountStep, progress := j.progress.plain,
    ticket := j.ticket, pins := j.pins }

def Stream.plain (s : Stream) : Stream :=
  { (default : Stream) with job := s.job, stopping := s.stopping, seek := s.seek, news := s.news }

def SessionRec.plain (x : SessionRec) : SessionRec :=
  { (default : SessionRec) with id := x.id, state := x.state, origin := x.origin }

def ExtentRec.plain (e : ExtentRec) : ExtentRec :=
  { (default : ExtentRec) with
    session := e.session, sequence := e.sequence, blockCount := e.blockCount, firstObject := e.firstObject,
    lastObject := e.lastObject, chunkFrames := e.chunkFrames, isOpen := e.isOpen }

def Catalog.plain (c : Catalog) : Catalog :=
  { sessions := c.sessions.map SessionRec.plain, extents := c.extents.map ExtentRec.plain }

/-- What the law of the catalog speaks of: the jobs, the catalog, the streams with their bindings, and the drives' claims. -/
structure Books where
  jobs : List Job
  cg : Catalog
  streams : Drive → Stream
  claims : Pair (Option Nat)

/-- The books of a working state. -/
def W.books (w : W) : Books :=
  { jobs := w.js.jobs.map Job.plain, cg := w.cg.plain, streams := fun d => (w.streams.get d).plain, claims := w.js.claims }

/-! ## Operations that leave the books as they are -/

@[simp] theorem W.books_mk (mode gateOpen pins ct cc ports js streams coder cg signals dd rd cd set out) :
    (W.mk (Lib.mk mode gateOpen pins ct cc ports js streams coder cg signals dd rd cd) set out).books =
      Books.mk (js.jobs.map Job.plain) cg.plain (fun d => (streams.get d).plain) js.claims := rfl

@[simp] theorem W.books_fold (w : W) :
    Books.mk (w.js.jobs.map Job.plain) w.cg.plain (fun d => (w.streams.get d).plain) w.js.claims = w.books := rfl

@[simp] theorem W.books_ite (c : Prop) [Decidable c] (a b : W) :
    (if c then a else b).books = if c then a.books else b.books := apply_ite W.books c a b

@[simp] theorem Answer.books_ite (c : Prop) [Decidable c] (a b : Answer) :
    (if c then a else b).w.books = if c then a.w.books else b.w.books := by split <;> rfl

@[simp] theorem W.books_fst_ite {α : Type} (c : Prop) [Decidable c] (a b : W × α) :
    (if c then a else b).1.books = if c then a.1.books else b.1.books := by split <;> rfl

@[simp] theorem W.books_foldl {α : Type} (f : W → α → W) (h : ∀ w a, (f w a).books = w.books) (l : List α) (w : W) :
    (l.foldl f w).books = w.books := by
  induction l generalizing w with
  | nil => rfl
  | cons a l ih => rw [List.foldl_cons, ih, h]

@[simp] theorem W.sensePicker_books (w : W) (b : Bool) : (w.sensePicker b).books = w.books := rfl

/-! ### Jobs, sessions and extents changed in what the law does not speak of -/

theorem map_alter {α β : Type} {p : α → β} {g : α → α} {c : α → Prop} [DecidablePred c] (h : ∀ a, p (g a) = p a) (l : List α) :
    (l.map fun a => if c a then g a else a).map p = l.map p := by
  rw [List.map_map]
  refine List.map_congr_left fun a _ => ?_
  rw [Function.comp_apply]
  split
  · exact h a
  · rfl

theorem W.books_of_jobs {w v : W} (hj : v.js.jobs.map Job.plain = w.js.jobs.map Job.plain) (hc : v.cg = w.cg)
    (hs : v.streams = w.streams) (hd : v.js.claims = w.js.claims) : v.books = w.books := by
  unfold W.books
  rw [hj, hc, hs, hd]

theorem W.modJob_books (w : W) (n : Nat) (f : Job → Job) (h : ∀ j, (f j).plain = j.plain) : (w.modJob n f).books = w.books :=
  W.books_of_jobs (map_alter h _) rfl rfl rfl

theorem W.modBackup_books (w : W) (n : Nat) (f : BackupData → BackupData)
    (h : ∀ b, (f b).extentSeq = b.extentSeq ∧ (f b).extentOpen = b.extentOpen ∧ (f b).truncEnd = b.truncEnd) :
    (w.modBackup n f).books = w.books := by
  refine W.modJob_books _ _ _ fun j => ?_
  split
  next b hp =>
    obtain ⟨h1, h2, h3⟩ := h b
    simp only [Job.plain, hp, Progress.plain, h1, h2, h3]
  all_goals rfl

@[simp] theorem W.modVerify_books (w : W) (n : Nat) (f : VerifyData → VerifyData) : (w.modVerify n f).books = w.books := by
  refine W.modJob_books _ _ _ fun j => ?_
  split
  next v hp => simp only [Job.plain, hp, Progress.plain]
  all_goals rfl

@[simp] theorem W.modRestore_books (w : W) (n : Nat) (f : RestoreData → RestoreData) : (w.modRestore n f).books = w.books := by
  refine W.modJob_books _ _ _ fun j => ?_
  split
  next r hp => simp only [Job.plain, hp, Progress.plain]
  all_goals rfl

theorem W.modSession_books (w : W) (id : Nat) (f : SessionRec → SessionRec) (h : ∀ x, (f x).plain = x.plain) :
    (w.modSession id f).books = w.books := by
  unfold W.books W.modSession Catalog.plain
  rw [map_alter h]

theorem W.modExtent_books (w : W) (id q : Nat) (f : ExtentRec → ExtentRec) (h : ∀ x, (f x).plain = x.plain) :
    (w.modExtent id q f).books = w.books := by
  unfold W.books W.modExtent Catalog.plain
  rw [map_alter h]

/-! ### Streams changed in what the law does not speak of -/

@[simp] theorem Stream.putBuf_plain (s : Stream) (i : BufId) (b : Buffer) : (s.putBuf i b).plain = s.plain := by cases i <;> rfl
@[simp] theorem Stream.modTail_plain (s : Stream) (f) : (s.modTail f).plain = s.plain := by unfold Stream.modTail; split <;> rfl
@[simp] theorem Stream.openChunk_plain (s : Stream) (a b c d e f) : (s.openChunk a b c d e f).plain = s.plain := rfl
@[simp] theorem Stream.accept_plain (n k : Nat) (l : List Byte) (s : Stream) : (Stream.accept n k l s).plain = s.plain := by
  induction n generalizing l s with
  | zero => rfl
  | succ n ih =>
    cases l with
    | nil => rfl
    | cons b t =>
      unfold Stream.accept
      split
      · simp [ih]
      · dsimp only
        split <;> (try split) <;> simp_all
@[simp] theorem Stream.endObject_plain (s : Stream) (a b) : (s.endObject a b).plain = s.plain := by
  unfold Stream.endObject
  show Stream.plain (ite _ _ _) = _
  (repeat' split) <;> simp
@[simp] theorem Stream.dropIntake_plain (s : Stream) : s.dropIntake.plain = s.plain := rfl
@[simp] theorem Stream.closeBuf_plain (s : Stream) (i) : (s.closeBuf i).plain = s.plain := by simp [Stream.closeBuf]
@[simp] theorem Stream.closeOpen_plain (s : Stream) : s.closeOpen.plain = s.plain := by unfold Stream.closeOpen; split <;> simp
@[simp] theorem Stream.addFrame_plain (s : Stream) (i f) : (s.addFrame i f).plain = s.plain := by
  unfold Stream.addFrame; dsimp only; split <;> simp
@[simp] theorem Stream.openBlock_plain (s : Stream) (i a f) : (s.openBlock i a f).plain = s.plain := by
  unfold Stream.openBlock
  rw [Stream.addFrame_plain]
  exact Stream.putBuf_plain ..
@[simp] theorem Stream.freeBuffers_plain (s : Stream) : s.freeBuffers.plain = s.plain := rfl

theorem W.putStream_books (w : W) (d : Drive) (s : Stream) (h : s.plain = (w.stream d).plain) : (w.putStream d s).books = w.books := by
  have hs : (fun e => ((w.streams.put d s).get e).plain) = fun e => (w.streams.get e).plain := by
    funext e
    by_cases he : e = d
    · rw [he, Pair.get_put_same, h]
      rfl
    · rw [Pair.get_put_other _ _ he]
  unfold W.books W.putStream
  rw [hs]

theorem W.modStream_books (w : W) (d : Drive) (f : Stream → Stream) (h : ∀ s, (f s).plain = s.plain) : (w.modStream d f).books = w.books :=
  W.putStream_books w d _ (h _)

@[simp] theorem W.discardAll_books (w : W) (d : Drive) : (w.modStream d Stream.discardAll).books = w.books :=
  w.modStream_books d _ fun _ => rfl
@[simp] theorem W.carryOver_books (w : W) (d : Drive) : (w.modStream d Stream.carryOver).books = w.books :=
  w.modStream_books d _ fun _ => rfl
@[simp] theorem W.closeOpen_books (w : W) (d : Drive) : (w.modStream d Stream.closeOpen).books = w.books :=
  w.modStream_books d _ fun _ => by simp
@[simp] theorem W.accept_books (w : W) (d : Drive) (n k l) : (w.modStream d (Stream.accept n k l)).books = w.books :=
  w.modStream_books d _ fun _ => by simp

/-! ### The operations of the blocks -/

@[simp] theorem W.note_books (w : W) (n : Notice) :
    (W.note w n).books = w.books := by
  rfl

@[simp] theorem W.emit_books (w : W) (s : Signal) :
    (W.emit w s).books = w.books := by
  rfl

@[simp] theorem W.wantDispatch_books (w : W) :
    (W.wantDispatch w).books = w.books := by
  rfl

@[simp] theorem W.recordFreed_books (w : W) :
    (W.recordFreed w).books = w.books := by
  rfl

@[simp] theorem W.wantRehome_books (w : W) :
    (W.wantRehome w).books = w.books := by
  rfl

@[simp] theorem W.putSlot_books (w : W) (e : Element) (r : SlotRec) :
    (W.putSlot w e r).books = w.books := by
  unfold W.putSlot; split <;> simp

@[simp] theorem W.putCart_books (w : W) (i : Nat) (c : Option CartRec) :
    (W.putCart w i c).books = w.books := by
  simp [W.putCart]

@[simp] theorem W.modCart_books (w : W) (i : Nat) (f : CartRec → CartRec) :
    (W.modCart w i f).books = w.books := by
  unfold W.modCart; split <;> simp

@[simp] theorem W.setMedia_books (w : W) (i : Nat) (s : MediaState) (cause : StateCause) :
    (W.setMedia w i s cause).books = w.books := by
  unfold W.setMedia; split <;> simp

@[simp] theorem W.putPort_books (w : W) (d : Drive) (p : Port) :
    (W.putPort w d p).books = w.books := by
  rfl

@[simp] theorem W.modPort_books (w : W) (d : Drive) (f : Port → Port) :
    (W.modPort w d f).books = w.books := by
  rfl

@[simp] theorem W.stopIdle_books (w : W) (d : Drive) :
    (W.stopIdle w d).books = w.books := by
  rfl

@[simp] theorem W.markReturning_books (w : W) (i : Nat) :
    (W.markReturning w i).books = w.books := by
  rfl

@[simp] theorem W.unmarkReturning_books (w : W) (i : Nat) :
    (W.unmarkReturning w i).books = w.books := by
  simp [W.unmarkReturning]

@[simp] theorem W.emptySlot_books (w : W) (e : Element) :
    (W.emptySlot w e).books = w.books := by
  unfold W.emptySlot; split <;> simp

@[simp] theorem W.leaveHome_books (w : W) (i : Nat) :
    (W.leaveHome w i).books = w.books := by
  unfold W.leaveHome; split <;> simp

@[simp] theorem W.vacateSlot_books (w : W) (e : Element) : (W.vacateSlot w e).books = w.books := by
  unfold W.vacateSlot; split <;> simp

@[simp] theorem W.releaseHome_books (w : W) (i : Nat) :
    (W.releaseHome w i).books = w.books := by
  unfold W.releaseHome; split <;> simp

@[simp] theorem W.becomeAbsent_books (w : W) (i : Nat) :
    (W.becomeAbsent w i).books = w.books := by
  unfold W.becomeAbsent; (repeat' split) <;> simp

@[simp] theorem W.makeHomeless_books (w : W) (i : Nat) :
    (W.makeHomeless w i).books = w.books := by
  simp [W.makeHomeless]

@[simp] theorem W.rehomeOne_books (w : W) (i : Nat) :
    (W.rehomeOne w i).books = w.books := by
  unfold W.rehomeOne; (repeat' split) <;> simp

@[simp] theorem W.rehome_books (w : W) :
    (W.rehome w).books = w.books := by
  simp [W.rehome]

@[simp] theorem W.modTally_books (w : W) (f : ScanTally → ScanTally) :
    (W.modTally w f).books = w.books := by
  rfl

@[simp] theorem W.scanStarted_books (w : W) (range : List Element) :
    (W.scanStarted w range).books = w.books := by
  rfl

@[simp] theorem W.scanCompleted_books (w : W) :
    (W.scanCompleted w).books = w.books := by
  unfold W.scanCompleted; split <;> simp

@[simp] theorem W.scanAbsent_books (w : W) (i : Nat) :
    (W.scanAbsent w i).books = w.books := by
  simp [W.scanAbsent]

@[simp] theorem W.scanPlace_books (w : W) (e : Element) (i : Nat) :
    (W.scanPlace w e i).books = w.books := by
  simp [W.scanPlace]

@[simp] theorem W.scanCreate_books (w : W) (e : Element) (label : Option Label) (state : MediaState) (duplicate : Bool) :
    (W.scanCreate w e label state duplicate).books = w.books := by
  unfold W.scanCreate; split <;> simp

@[simp] theorem W.scanIdentify_books (w : W) (e : Element) (found : Option Label) :
    (W.scanIdentify w e found).books = w.books := by
  unfold W.scanIdentify; (repeat' split) <;> simp

@[simp] theorem W.scanCartridge_books (w : W) (e : Element) (found : Option Label) :
    (W.scanCartridge w e found).books = w.books := by
  unfold W.scanCartridge; dsimp only; (repeat' split) <;> simp

@[simp] theorem W.scanEmpty_books (w : W) (e : Element) :
    (W.scanEmpty w e).books = w.books := by
  unfold W.scanEmpty; dsimp only; (repeat' split) <;> simp

@[simp] theorem W.slotRemoved_books (w : W) (counted : Bool) (n : Nat) :
    (W.slotRemoved w counted n).books = w.books := by
  unfold W.slotRemoved; dsimp only; (repeat' split) <;> simp

@[simp] theorem W.scanResult_books (w : W) (e : Element) (f : SlotFinding) :
    (W.scanResult w e f).books = w.books := by
  unfold W.scanResult; (repeat' split) <;> simp

@[simp] theorem W.frontOpened_books (w : W) :
    (W.frontOpened w).books = w.books := by
  simp [W.frontOpened]

@[simp] theorem W.magazineGone_books (w : W) (m : Magazine) :
    (W.magazineGone w m).books = w.books := by
  simp [W.magazineGone]

@[simp] theorem W.magazineBack_books (w : W) (m : Magazine) :
    (W.magazineBack w m).books = w.books := by
  simp [W.magazineBack]

@[simp] theorem W.extracted_books (w : W) (i : Nat) (source : Element) :
    (W.extracted w i source).books = w.books := by
  unfold W.extracted; split <;> simp

@[simp] theorem W.extractedUntracked_books (w : W) (source : Element) :
    (W.extractedUntracked w source).books = w.books := by
  simp [W.extractedUntracked]

@[simp] theorem W.makeRoom_books (w : W) (i : Option Nat) (e : Element) :
    (W.makeRoom w i e).books = w.books := by
  unfold W.makeRoom; simp only []; (repeat' split) <;> simp

@[simp] theorem W.placed_books (w : W) (i : Nat) (dest : Element) :
    (W.placed w i dest).books = w.books := by
  unfold W.placed; split <;> simp

@[simp] theorem W.placedUntracked_books (w : W) (dest : Element) :
    (W.placedUntracked w dest).books = w.books := by
  unfold W.placedUntracked; (repeat' split) <;> simp

@[simp] theorem W.sourceFoundEmpty_books (w : W) (e : Element) :
    (W.sourceFoundEmpty w e).books = w.books := by
  unfold W.sourceFoundEmpty; split <;> simp

@[simp] theorem W.takeLabel_books (w : W) (i : Nat) (l : Label) (duplicate : Bool) :
    (W.takeLabel w i l duplicate).books = w.books := by
  simp [W.takeLabel]

@[simp] theorem W.mergeInto_books (w : W) (i : Nat) (y : Nat) :
    (W.mergeInto w i y).books = w.books := by
  unfold W.mergeInto; split <;> simp

@[simp] theorem W.passageRead_books (w : W) (i : Nat) (read : Option Label) :
    (W.passageRead w i read).1.books = w.books := by
  unfold W.passageRead; (repeat' split) <;> simp

@[simp] theorem W.driveReports_books (w : W) (d : Drive) :
    (W.driveReports w d).1.books = w.books := by
  unfold W.driveReports; (repeat' split) <;> simp

@[simp] theorem W.loadReport_books (w : W) (i : Nat) (protect : Bool) :
    (W.loadReport w i protect).books = w.books := by
  simp [W.loadReport]

@[simp] theorem W.putCartClaim_books (w : W) (i : Nat) (c : Option Nat) :
    (W.putCartClaim w i c).books = w.books := by
  simp [W.putCartClaim]

@[simp] theorem W.enterPort_books (w : W) (d : Drive) (s : PortState) :
    (W.enterPort w d s).books = w.books := by
  simp [W.enterPort]

@[simp] theorem W.reportDown_books (w : W) (d : Drive) (n : Notice) : (W.reportDown w d n).books = w.books := by
  rfl

@[simp] theorem W.portFaults_books (w : W) (d : Drive) (reason : DriveReason) :
    (W.portFaults w d reason).1.books = w.books := by
  simp [W.portFaults]

@[simp] theorem W.requestOp_books (w : W) (d : Drive) (op : PortOp) (req : Requester) :
    (W.requestOp w d op req).1.books = w.books := by
  unfold W.requestOp; split <;> simp

@[simp] theorem W.askOp_books (w : W) (d : Drive) (op : PortOp) (req : Requester) :
    (W.askOp w d op req).books = w.books := by
  simp [W.askOp]

@[simp] theorem W.takeCleanRequest_books (w : W) (d : Drive) (asked : Bool) :
    (W.takeCleanRequest w d asked).books = w.books := by
  simp [W.takeCleanRequest]

@[simp] theorem W.leaveReset_books (w : W) (d : Drive) :
    (W.leaveReset w d).books = w.books := by
  simp [W.leaveReset]

@[simp] theorem W.endOp_books (w : W) (d : Drive) (outcome : OpOutcome) (after : PortState × Option Nat) (fault : Option DriveReason) (asked : Bool) :
    (W.endOp w d outcome after fault asked).books = w.books := by
  unfold W.endOp; (repeat' split) <;> simp

@[simp] theorem W.endTransport_books (w : W) (d : Drive) (asked : Bool) :
    (W.endTransport w d asked).books = w.books := by
  simp [W.endTransport]

@[simp] theorem W.loadEnds_books (w : W) (d : Drive) (r : LoadReport) (asked : Bool) :
    (W.loadEnds w d r asked).books = w.books := by
  unfold W.loadEnds; (repeat' split) <;> simp

@[simp] theorem W.locateEnds_books (w : W) (d : Drive) (r : LocateReport) (asked : Bool) :
    (W.locateEnds w d r asked).books = w.books := by
  unfold W.locateEnds; (repeat' split) <;> simp

@[simp] theorem W.locateEndEnds_books (w : W) (d : Drive) (r : LocateEndReport) (asked : Bool) :
    (W.locateEndEnds w d r asked).books = w.books := by
  unfold W.locateEndEnds; (repeat' split) <;> simp

@[simp] theorem W.readEnds_books (w : W) (d : Drive) (r : ReadReport) (asked : Bool) :
    (W.readEnds w d r asked).books = w.books := by
  unfold W.readEnds; (repeat' split) <;> simp

@[simp] theorem W.writeEnds_books (w : W) (d : Drive) (r : WriteReport) (asked : Bool) :
    (W.writeEnds w d r asked).books = w.books := by
  unfold W.writeEnds; (repeat' split) <;> simp

@[simp] theorem W.endMarkEnds_books (w : W) (d : Drive) (r : EndMarkReport) (asked : Bool) :
    (W.endMarkEnds w d r asked).books = w.books := by
  unfold W.endMarkEnds; (repeat' split) <;> simp

@[simp] theorem W.unloadEnds_books (w : W) (d : Drive) (r : PlainReport) (asked : Bool) :
    (W.unloadEnds w d r asked).books = w.books := by
  unfold W.unloadEnds; (repeat' split) <;> simp

@[simp] theorem W.cleanEnds_books (w : W) (d : Drive) (r : PlainReport) (asked : Bool) :
    (W.cleanEnds w d r asked).books = w.books := by
  unfold W.cleanEnds; (repeat' split) <;> simp

@[simp] theorem W.opTimesOut_books (w : W) (d : Drive) :
    (W.opTimesOut w d).books = w.books := by
  simp [W.opTimesOut]

@[simp] theorem W.presenceFalls_books (w : W) (d : Drive) :
    (W.presenceFalls w d).books = w.books := by
  unfold W.presenceFalls; dsimp only; (repeat' split) <;> simp

@[simp] theorem W.enterInit_books (w : W) (d : Drive) (fromAbsent : Bool) :
    (W.enterInit w d fromAbsent).books = w.books := by
  simp [W.enterInit]

@[simp] theorem W.selfTestFails_books (w : W) (d : Drive) :
    (W.selfTestFails w d).books = w.books := by
  rfl

@[simp] theorem W.reportFound_books (w : W) (d : Drive) :
    (W.reportFound w d).books = w.books := by
  simp [W.reportFound]

@[simp] theorem W.selfTestPasses_books (w : W) (d : Drive) (holds : MediaSense) :
    (W.selfTestPasses w d holds).books = w.books := by
  unfold W.selfTestPasses; dsimp only; (repeat' split) <;> simp

@[simp] theorem W.displaceFrom_books (w : W) (d : Drive) (c : Contents) :
    (W.displaceFrom w d c).books = w.books := by
  unfold W.displaceFrom; split <;> simp

@[simp] theorem W.placedIntoOccupied_books (w : W) (d : Drive) :
    (W.placedIntoOccupied w d).books = w.books := by
  simp [W.placedIntoOccupied]

@[simp] theorem W.endByPlace_books (w : W) (d : Drive) :
    (W.endByPlace w d).books = w.books := by
  unfold W.endByPlace; split <;> simp

@[simp] theorem W.portPlaced_books (w : W) (d : Drive) (c : Contents) :
    (W.portPlaced w d c).books = w.books := by
  unfold W.portPlaced; split <;> simp

@[simp] theorem W.portExtracted_books (w : W) (d : Drive) :
    (W.portExtracted w d).books = w.books := by
  simp [W.portExtracted]

@[simp] theorem W.modCC_books (w : W) (f : Changer → Changer) :
    (W.modCC w f).books = w.books := by
  rfl

@[simp] theorem W.ccEnter_books (w : W) (s : ChangerState) :
    (W.ccEnter w s).books = w.books := by
  simp [W.ccEnter]

@[simp] theorem W.beginStep_books (w : W) (s : Step) :
    (W.beginStep w s).books = w.books := by
  simp [W.beginStep]

@[simp] theorem W.endStep_books (w : W) :
    (W.endStep w).books = w.books := by
  rfl

@[simp] theorem W.putMove_books (w : W) (m : Move) :
    (W.putMove w m).books = w.books := by
  rfl

@[simp] theorem W.takeEntryId_books (w : W) :
    (W.takeEntryId w).1.books = w.books := by
  rfl

@[simp] theorem W.queueMove_books (w : W) (origin : Origin) (source : Element) (asked : Dest) (expected : Option Label) (ticket : Nat) (cart : Option Nat) :
    (W.queueMove w origin source asked expected ticket cart).1.books = w.books := by
  simp [W.queueMove]

@[simp] theorem W.queueRecovery_books (w : W) :
    (W.queueRecovery w).books = w.books := by
  rfl

@[simp] theorem W.queueScan_books (w : W) (range : List Element) :
    (W.queueScan w range).1.books = w.books := by
  unfold W.queueScan; split <;> simp

@[simp] theorem W.changerFaultNotice_books (w : W) (reason : Reason) (step : Option Step) (element : Option Element) (attempts : Nat) (exhausted : Bool) (cart : Option CartRef) :
    (W.changerFaultNotice w reason step element attempts exhausted cart).books = w.books := by
  rfl

@[simp] theorem W.countRun_books (w : W) (faulted : Bool) (completed : Bool) :
    (W.countRun w faulted completed).books = w.books := by
  rfl

@[simp] theorem W.goToRest_books (w : W) :
    (W.goToRest w).books = w.books := by
  simp [W.goToRest]

@[simp] theorem W.reportMoveEnd_books (w : W) (m : Move) (r : Reason) (c : Contents) (ended : Option Element) :
    (W.reportMoveEnd w m r c ended).books = w.books := by
  simp [W.reportMoveEnd]

@[simp] theorem W.endMove_books (w : W) (m : Move) (r : Reason) (c : Contents) (ended : Option Element) :
    (W.endMove w m r c ended).books = w.books := by
  simp [W.endMove]

@[simp] theorem W.holdFault_books (w : W) (reason : Reason) (s : Option Step) (exhausted : Bool) :
    (W.holdFault w reason s exhausted).books = w.books := by
  simp [W.holdFault]

@[simp] theorem W.choosePutAway_books (w : W) (m : Move) :
    (W.choosePutAway w m).books = w.books := by
  unfold W.choosePutAway; split <;> simp

@[simp] theorem W.fillPicker_books (w : W) (c : Contents) (e : Option Element) :
    (W.fillPicker w c e).books = w.books := by
  unfold W.fillPicker; simp only []; (repeat' split) <;> simp

@[simp] theorem W.extractAt_books (w : W) (source : Element) (read : Option Label) :
    (W.extractAt w source read).1.books = w.books := by
  unfold W.extractAt; dsimp only; (repeat' split) <;> simp

@[simp] theorem W.extractDone_books (w : W) (m : Move) (read : Option Label) :
    (W.extractDone w m read).books = w.books := by
  unfold W.extractDone; dsimp only; (repeat' split) <;> simp

@[simp] theorem W.placeAt_books (w : W) (dest : Element) :
    (W.placeAt w dest).books = w.books := by
  unfold W.placeAt; dsimp only; (repeat' split) <;> simp

@[simp] theorem W.placeDone_books (w : W) (m : Move) :
    (W.placeDone w m).books = w.books := by
  unfold W.placeDone; split <;> simp

@[simp] theorem W.declareLost_books (w : W) :
    (W.declareLost w).books = w.books := by
  unfold W.declareLost; dsimp only; (repeat' split) <;> simp

@[simp] theorem W.passOver_books (x1 : List Element) (x2 : W) :
    (W.passOver x1 x2).1.books = x2.books := by
  induction x1 generalizing x2 with
  | nil => rfl
  | cons e rest ih => unfold W.passOver; (repeat' split) <;> simp [ih]

@[simp] theorem W.putRemaining_books (w : W) (l : List Element) :
    (W.putRemaining w l).books = w.books := by
  unfold W.putRemaining; (repeat' split) <;> simp

@[simp] theorem W.endScanEntry_books (w : W) (faulted : Bool) :
    (W.endScanEntry w faulted).books = w.books := by
  simp [W.endScanEntry]

@[simp] theorem W.resumeLoaded_books (w : W) (m : Move) :
    (W.resumeLoaded w m).books = w.books := by
  unfold W.resumeLoaded; dsimp only; (repeat' split) <;> simp

@[simp] theorem W.endAtSource_books (w : W) (m : Move) (r : Reason) :
    (W.endAtSource w m r).books = w.books := by
  simp [W.endAtSource]

@[simp] theorem W.resumeEmpty_books (w : W) (m : Move) :
    (W.resumeEmpty w m).books = w.books := by
  unfold W.resumeEmpty; dsimp only; (repeat' split) <;> simp

@[simp] theorem W.resumeHeld_books (w : W) (m : Move) (s : Option Step) :
    (W.resumeHeld w m s).books = w.books := by
  simp [W.resumeHeld]

@[simp] theorem W.endLost_books (w : W) (m : Move) :
    (W.endLost w m).books = w.books := by
  simp [W.endLost]

@[simp] theorem W.spotCheck_books (w : W) (dest : Option Element) :
    (W.spotCheck w dest).1.books = w.books := by
  unfold W.spotCheck; split <;> simp

@[simp] theorem W.spotCheckedMove_books (w : W) (m : Move) (present : Bool) :
    (W.spotCheckedMove w m present).books = w.books := by
  simp [W.spotCheckedMove]

@[simp] theorem W.settleMove_books (w : W) (m : Move) (s : Step) (sensed : Bool) :
    (W.settleMove w m s sensed).1.books = w.books := by
  unfold W.settleMove; dsimp only; (repeat' split) <;> simp

@[simp] theorem W.keepSettled_books (w : W) (s : Step) :
    (W.keepSettled w s).books = w.books := by
  rfl

@[simp] theorem W.holdPickerOccupied_books (w : W) :
    (W.holdPickerOccupied w).books = w.books := by
  simp [W.holdPickerOccupied]

@[simp] theorem W.closeFinished_books (w : W) :
    (W.closeFinished w).books = w.books := by
  unfold W.closeFinished; dsimp only; (repeat' split) <;> simp

@[simp] theorem W.scanGoesOn_books (w : W) :
    (W.scanGoesOn w).books = w.books := by
  unfold W.scanGoesOn; dsimp only; (repeat' split) <;> simp

@[simp] theorem W.startCloseScan_books (w : W) :
    (W.startCloseScan w).books = w.books := by
  simp [W.startCloseScan]

@[simp] theorem W.powerOnHomed_books (w : W) (sensed : Bool) :
    (W.powerOnHomed w sensed).books = w.books := by
  simp [W.powerOnHomed]

@[simp] theorem W.resetFound_books (w : W) :
    (W.resetFound w).books = w.books := by
  simp [W.resetFound]

theorem W.placeAtIf_books (o : Option Element) (w : W) : ((o.map w.placeAt).getD w).books = w.books := by
  cases o <;> simp

@[simp] theorem W.resetSettled_books (w : W) (sensed : Bool) :
    (W.resetSettled w sensed).1.books = w.books := by
  unfold W.resetSettled
  extract_lets plain
  have hplain : plain.1.books = w.books := by simp [plain]
  split
  · exact hplain
  · split
    · simp
    · dsimp only
      split <;> simp [W.placeAtIf_books]
    · exact hplain

@[simp] theorem W.dropInterrupted_books (w : W) :
    (W.dropInterrupted w).books = w.books := by
  rfl

@[simp] theorem W.pickerRechecked_books (w : W) (sensed : Bool) :
    (W.pickerRechecked w sensed).books = w.books := by
  simp [W.pickerRechecked]

@[simp] theorem W.runSequence_books (w : W) (seq : HomingFor) (sensed : Bool) :
    (W.runSequence w seq sensed).1.books = w.books := by
  unfold W.runSequence; split <;> simp

@[simp] theorem W.closeSettled_books (w : W) (sensed : Bool) :
    (W.closeSettled w sensed).books = w.books := by
  unfold W.closeSettled; dsimp only; (repeat' split) <;> simp

@[simp] theorem W.startHoming_books (w : W) (seq : HomingFor) :
    (W.startHoming w seq).books = w.books := by
  simp [W.startHoming]

@[simp] theorem W.clearSettled_books (w : W) (sensed : Bool) :
    (W.clearSettled w sensed).books = w.books := by
  unfold W.clearSettled; dsimp only; (repeat' split) <;> simp

@[simp] theorem W.homed_books (w : W) (sensed : Bool) :
    (W.homed w sensed).books = w.books := by
  simp [W.homed]

@[simp] theorem W.spotChecked_books (w : W) (present : Bool) :
    (W.spotChecked w present).books = w.books := by
  unfold W.spotChecked
  dsimp only
  (repeat' split) <;> simp [W.placeAtIf_books, -Option.map_bind]

@[simp] theorem W.countAttempt_books (w : W) (s : Step) (mark : Bool) (n : Nat) :
    (W.countAttempt w s mark n).books = w.books := by
  unfold W.countAttempt; (repeat' split) <;> simp

@[simp] theorem W.noteResume_books (w : W) (s : Step) :
    (W.noteResume w s).books = w.books := by
  unfold W.noteResume; (repeat' split) <;> simp

@[simp] theorem W.retryOrHold_books (w : W) (reason : Reason) (s : Step) :
    (W.retryOrHold w reason s).books = w.books := by
  simp [W.retryOrHold]

@[simp] theorem W.reactHold_books (w : W) (reason : Reason) (s : Step) :
    (W.reactHold w reason s).books = w.books := by
  simp [W.reactHold]

@[simp] theorem W.stall_books (w : W) :
    (W.stall w).books = w.books := by
  unfold W.stall; split <;> simp

@[simp] theorem W.reportGripMiss_books (w : W) (m : Move) :
    (W.reportGripMiss w m).books = w.books := by
  simp [W.reportGripMiss]

@[simp] theorem W.gripMiss_books (w : W) :
    (W.gripMiss w).books = w.books := by
  unfold W.gripMiss; dsimp only; (repeat' split) <;> simp

@[simp] theorem W.reportPlaceBlocked_books (w : W) (m : Move) :
    (W.reportPlaceBlocked w m).books = w.books := by
  simp [W.reportPlaceBlocked]

@[simp] theorem W.placeBlocked_books (w : W) :
    (W.placeBlocked w).books = w.books := by
  unfold W.placeBlocked; dsimp only; (repeat' split) <;> simp

@[simp] theorem W.startScanEntry_books (w : W) (s : Scan) :
    (W.startScanEntry w s).books = w.books := by
  simp [W.startScanEntry]

@[simp] theorem W.startRecovery_books (w : W) (m : Move) (sensed : Bool) :
    (W.startRecovery w m sensed).books = w.books := by
  unfold W.startRecovery; dsimp only; (repeat' split) <;> simp

@[simp] theorem W.startMove_books (w : W) (m : Move) (sensed : Bool) :
    (W.startMove w m sensed).books = w.books := by
  unfold W.startMove; dsimp only; (repeat' split) <;> simp

@[simp] theorem W.startEntry_books (w : W) (sensed : Bool) :
    (W.startEntry w sensed).books = w.books := by
  unfold W.startEntry; dsimp only; (repeat' split) <;> simp

@[simp] theorem W.clearFault_books (w : W) :
    (W.clearFault w).books = w.books := by
  unfold W.clearFault; dsimp only; (repeat' split) <;> simp

@[simp] theorem W.frontDoorOpens_books (w : W) :
    (W.frontDoorOpens w).books = w.books := by
  simp [W.frontDoorOpens]

@[simp] theorem W.frontDoorCloses_books (w : W) :
    (W.frontDoorCloses w).books = w.books := by
  unfold W.frontDoorCloses; dsimp only; split <;> simp

@[simp] theorem W.resetChangerNow_books (w : W) :
    (W.resetChangerNow w).books = w.books := by
  simp [W.resetChangerNow]

@[simp] theorem W.deriveSession_books (w : W) (id : Nat) : (w.deriveSession id).books = w.books := by
  refine W.modSession_books w id _ fun x => ?_
  dsimp only
  split <;> rfl

@[simp] theorem W.setVerdict_books (w : W) (id sequence : Nat) (v : VerifyState) (damaged : Nat) :
    (w.setVerdict id sequence v damaged).books = w.books := by
  unfold W.setVerdict
  rw [W.deriveSession_books]
  exact W.modExtent_books _ _ _ _ fun x => rfl

@[simp] theorem W.suspectByVerify_books (w : W) (i : Nat) :
    (W.suspectByVerify w i).books = w.books := by
  simp [W.suspectByVerify]

@[simp] theorem W.countVerdict_books (w : W) (n : Nat) (t : Tally) :
    (W.countVerdict w n t).books = w.books := by
  simp [W.countVerdict]

@[simp] theorem W.noteVerdict_books (w : W) (n : Nat) (i : Nat) (t : Tally) :
    (W.noteVerdict w n i t).books = w.books := by
  simp [W.noteVerdict]

@[simp] theorem W.recordVerdict_books (w : W) (n : Nat) (session : Nat) (sequence : Nat) (t : Tally) :
    (W.recordVerdict w n session sequence t).books = w.books := by
  unfold W.recordVerdict; split <;> simp

@[simp] theorem W.endChecking_books (w : W) (n : Nat) :
    (W.endChecking w n).books = w.books := by
  unfold W.endChecking; (repeat' split) <;> simp

@[simp] theorem W.recordUnended_books (w : W) (n : Nat) :
    (W.recordUnended w n).books = w.books := by
  unfold W.recordUnended; (repeat' split) <;> simp

@[simp] theorem W.verifyDoneNotice_books (w : W) (n : Nat) (r : JobResult) :
    (W.verifyDoneNotice w n r).books = w.books := by
  unfold W.verifyDoneNotice; (repeat' split) <;> simp

@[simp] theorem W.jobNotice_books (w : W) (n : Nat) (was : Option JobState) :
    (W.jobNotice w n was).books = w.books := by
  unfold W.jobNotice; split <;> simp

@[simp] theorem W.dropHeld_books (w : W) (n : Nat) :
    (W.dropHeld w n).books = w.books := by
  rfl

@[simp] theorem W.issueMove_books (w : W) (origin : Origin) (source : Element) (asked : Dest) (i : Option Nat) :
    (W.issueMove w origin source asked i).1.books = w.books := by
  unfold W.issueMove; dsimp only; (repeat' split) <;> simp

@[simp] theorem W.issueReturn_books (w : W) (d : Drive) :
    (W.issueReturn w d).books = w.books := by
  unfold W.issueReturn; split <;> simp

@[simp] theorem W.issueHeld_books (w : W) :
    (W.issueHeld w).books = w.books := by
  unfold W.issueHeld; split <;> simp

@[simp] theorem W.returnLeft_books (w : W) (l : List Drive) : (W.returnLeft w l).books = w.books :=
  W.books_foldl _ (fun v d => by split <;> simp) l w

@[simp] theorem W.idleExpires_books (w : W) (d : Drive) :
    (W.idleExpires w d).books = w.books := by
  unfold W.idleExpires; (repeat' split) <;> simp

@[simp] theorem W.idleStarts_books (w : W) (d : Drive) (limit : Nat) :
    (W.idleStarts w d limit).books = w.books := by
  unfold W.idleStarts; dsimp only; (repeat' split) <;> simp

@[simp] theorem W.idleAtOnce_books (w : W) (d : Drive) :
    (W.idleAtOnce w d).books = w.books := by
  simp [W.idleAtOnce]

@[simp] theorem W.idleCheck_books (w : W) (d : Drive) :
    (W.idleCheck w d).books = w.books := by
  simp [W.idleCheck]

@[simp] theorem W.idlePendingRuns_books (w : W) (d : Drive) :
    (W.idlePendingRuns w d).books = w.books := by
  simp [W.idlePendingRuns]

@[simp] theorem W.returnRehomed_books (w : W) (i : Nat) :
    (W.returnRehomed w i).books = w.books := by
  unfold W.returnRehomed; split <;> simp

@[simp] theorem W.keepNeed_books (w : W) (d : Drive) (need : Bool) : (W.keepNeed w d need).books = w.books := rfl

@[simp] theorem W.cleaningUse_books (w : W) (i : Nat) :
    (W.cleaningUse w i).books = w.books := by
  simp [W.cleaningUse]

@[simp] theorem W.placeFrame_books (w : W) (d : Drive) (f : Frame) : (w.placeFrame d f).1.books = w.books := by
  have hclosed : (w.putStream d (w.stream d).closeOpen).books = w.books := W.putStream_books _ _ _ (by simp)
  unfold W.placeFrame
  dsimp only
  split
  · rfl
  · split
    · exact W.putStream_books _ _ _ (by simp)
    · split
      · exact hclosed
      · split
        · exact (W.putStream_books _ _ _ (by simp)).trans hclosed
        · exact hclosed

@[simp] theorem W.placeCarry_books (fuel : Nat) (d : Drive) (w : W) : (W.placeCarry fuel d w).1.books = w.books := by
  induction fuel generalizing w with
  | zero => rfl
  | succ k ih =>
    unfold W.placeCarry
    split
    · rfl
    · dsimp only
      split
      · rw [ih]
        exact (W.modStream_books _ _ _ fun _ => by rfl).trans (W.placeFrame_books ..)
      · exact W.placeFrame_books ..
      · exact W.placeFrame_books ..

@[simp] theorem W.placeAllCarry_books (w : W) (d : Drive) :
    (W.placeAllCarry w d).1.books = w.books := by
  simp [W.placeAllCarry]

@[simp] theorem W.presentWrite_books (w : W) (d : Drive) : (w.presentWrite d).books = w.books := by
  unfold W.presentWrite
  dsimp only
  (repeat' split) <;> first
    | rfl
    | rw [W.modStream_books _ _ _ fun _ => by simp, W.requestOp_books]

@[simp] theorem W.presentRead_books (w : W) (d : Drive) : (w.presentRead d).books = w.books := by
  unfold W.presentRead
  dsimp only
  (repeat' split) <;> first
    | rfl
    | rw [W.modStream_books _ _ _ fun _ => by simp, W.requestOp_books]

@[simp] theorem W.beginEncoding_books (w : W) (d : Drive) (n : Nat) : (w.beginEncoding d n).books = w.books := by
  unfold W.beginEncoding
  dsimp only
  split
  · rfl
  next c _ =>
    exact (W.modBackup_books (w.putStream d { w.stream d with intake := markCoding (w.stream d).intake }) n
      (fun b => { b with coding := b.coding.map fun cs => installSnapshot cs c.object c.snapshot }) fun _ => ⟨rfl, rfl, rfl⟩).trans
      (W.putStream_books w d _ rfl)

@[simp] theorem W.beginDecoding_books (w : W) (d : Drive) (n : Nat) :
    (W.beginDecoding w d n).books = w.books := by
  unfold W.beginDecoding; dsimp only; (repeat' split) <;> simp

@[simp] theorem W.considerGrant_books (w : W) :
    (W.considerGrant w).books = w.books := by
  unfold W.considerGrant; (repeat' split) <;> simp

@[simp] theorem W.coderIdle_books (w : W) :
    (W.coderIdle w).books = w.books := by
  rfl

@[simp] theorem W.markNoEnd_books (w : W) (n : Nat) (b : Bool) :
    (W.markNoEnd w n b).books = w.books := by
  unfold W.markNoEnd; split <;> simp

@[simp] theorem W.setEnding_books (w : W) (n : Nat) (e : Option Ending) : (w.setEnding n e).books = w.books :=
  W.modBackup_books _ _ _ fun _ => ⟨rfl, rfl, rfl⟩

@[simp] theorem W.fullAtThreshold_books (w : W) (i : Nat) :
    (W.fullAtThreshold w i).books = w.books := by
  simp [W.fullAtThreshold]

@[simp] theorem W.startEndMark_books (w : W) (n : Nat) (why : EndFor) :
    (W.startEndMark w n why).books = w.books := by
  unfold W.startEndMark; (repeat' split) <;> simp

@[simp] theorem W.placeTruncMarker_books (w : W) (n : Nat) (d : Drive) (objects : Nat) :
    (w.placeTruncMarker n d objects).books = w.books := by
  unfold W.placeTruncMarker
  dsimp only
  rw [W.emit_books, W.setEnding_books]
  split
  · split
    · simp
    · simp
    · exact (W.modStream_books _ _ _ fun _ => by rfl).trans (by simp)
  · simp

@[simp] theorem W.truncPlaceCarry_books (w : W) (n : Nat) (d : Drive) (objects : Nat) :
    (w.truncPlaceCarry n d objects).books = w.books := by
  unfold W.truncPlaceCarry
  dsimp only
  split
  · simp
  · simp
  · rw [W.placeTruncMarker_books]
    exact (W.modStream_books _ _ _ fun _ => by rfl).trans (W.placeAllCarry_books ..)

@[simp] theorem W.buildSpanMarker_books (w : W) (n : Nat) (d : Drive) (b : BackupData) : (w.buildSpanMarker n d b).books = w.books := by
  unfold W.buildSpanMarker
  dsimp only
  split
  · rfl
  · rw [W.setEnding_books, W.putStream_books _ _ _ (by simp)]

@[simp] theorem W.placeSessionEnd_books (w : W) (n : Nat) (d : Drive) (objects : Nat) : (w.placeSessionEnd n d objects).books = w.books := by
  unfold W.placeSessionEnd
  dsimp only
  rw [W.emit_books, W.setEnding_books]
  split
  · simp
  · simp
  · exact (W.modStream_books _ _ _ fun _ => by rfl).trans (by simp)

@[simp] theorem W.secureFrame_books (n : Nat) (label : Option Label) (block : Nat) (w : W) (f : Frame) :
    (W.secureFrame n label block w f).books = w.books := by
  unfold W.secureFrame
  dsimp only
  split
  · rfl
  · split
    · rfl
    · split
      · rw [W.note_books]
        exact W.modBackup_books _ _ _ fun _ => ⟨rfl, rfl, rfl⟩
      · exact W.modBackup_books _ _ _ fun _ => ⟨rfl, rfl, rfl⟩

@[simp] theorem W.writeFails_books (w : W) (n : Nat) (d : Drive) :
    (W.writeFails w n d).books = w.books := by
  unfold W.writeFails; dsimp only; (repeat' split) <;> simp

@[simp] theorem W.loseCartridge_books (w : W) (n : Nat) (wasWrite : Bool) :
    (W.loseCartridge w n wasWrite).books = w.books := by
  unfold W.loseCartridge; dsimp only; (repeat' split) <;> simp

@[simp] theorem W.modTallyOf_books (w : W) (n : Nat) (f : Tally → Tally) : (w.modTallyOf n f).books = w.books := W.modVerify_books ..

@[simp] theorem W.makeCurrent_books (w : W) (n : Nat) (e : ExtentRec) : (w.makeCurrent n e).books = w.books := W.modVerify_books ..

@[simp] theorem W.checkStart_books (w : W) (n : Nat) (v : VerifyData) (h : FrameHeader) (b : Nat) (offset : Nat) :
    (W.checkStart w n v h b offset).books = w.books := by
  simp [W.checkStart]

@[simp] theorem W.damageNotice_books (w : W) (n : Nat) (o : Nat) (chunk : Nat) (count : Nat) (cause : DamageCause) (label : Option Label) (block : Nat) :
    (W.damageNotice w n o chunk count cause label block).books = w.books := by
  rfl

@[simp] theorem W.passObject_books (w : W) (n : Nat) : (w.passObject n).books = w.books := W.modRestore_books ..

@[simp] theorem W.reportAbsent_books (w : W) (n : Nat) (o : Nat) (cause : DamageCause) (label : Option Label) (block : Nat) :
    (W.reportAbsent w n o cause label block).books = w.books := by
  simp [W.reportAbsent]

@[simp] theorem W.addEntry_books (w : W) (n : Nat) (e : OutEntry) :
    (W.addEntry w n e).books = w.books := by
  simp [W.addEntry]

@[simp] theorem W.putFirst_books (w : W) (n : Nat) (l : List RAction) : (w.putFirst n l).books = w.books := W.modRestore_books ..

@[simp] theorem W.addSubstitute_books (w : W) (n : Nat) (size : Nat) (final : Bool) :
    (W.addSubstitute w n size final).books = w.books := by
  unfold W.addSubstitute; (repeat' split) <;> simp

@[simp] theorem W.hintHolds_books (w : W) (n : Nat) : (w.hintHolds n).books = w.books := W.modRestore_books ..

@[simp] theorem W.beginParsing_books (w : W) (d : Drive) (i : BufId) : (w.beginParsing d i).books = w.books :=
  W.modStream_books _ _ _ fun s => Stream.putBuf_plain s i _

@[simp] theorem W.advanceTo_books (w : W) (d : Drive) (offset : Nat) : (w.advanceTo d offset).books = w.books :=
  W.modStream_books _ _ _ fun _ => rfl

theorem W.meetChunk_books {w : W} {d : Drive} {j : Job} {offset : Nat} {h : FrameHeader} {v : W} (hv : w.meetChunk d j offset h = some v) :
    v.books = w.books := by
  unfold W.meetChunk at hv
  have hh : (if j.sessionId = some h.session then w.hintHolds j.id else w).books = w.books := by simp
  dsimp only at hv
  split at hv
  · rw [← Option.some.inj hv, W.advanceTo_books, hh]
  · split at hv
    · rw [← Option.some.inj hv]
      exact (W.modStream_books _ _ _ fun _ => by rfl).trans hh
    · cases hv

@[simp] theorem W.requestPosition_books (w : W) (n : Nat) :
    (W.requestPosition w n).books = w.books := by
  unfold W.requestPosition; (repeat' split) <;> simp

@[simp] theorem W.freeProbe_books (w : W) (d : Drive) (op : PortOp) : (w.freeProbe d op).books = w.books := by
  unfold W.freeProbe
  split
  · split
    · exact W.modStream_books _ _ _ fun _ => by simp
    · rfl
  · rfl

@[simp] theorem W.unloadEnded_books (w : W) (d : Drive) (returnHome : Bool) (r : OpOutcome) :
    (W.unloadEnded w d returnHome r).books = w.books := by
  unfold W.unloadEnded; (repeat' split) <;> simp

@[simp] theorem W.parseBoth_books (w : W) :
    (W.parseBoth w).books = w.books := by
  rfl

@[simp] theorem refuse_books (w : W) (s : Status) :
    (refuse w s).w.books = w.books := by
  rfl

@[simp] theorem answer_books (w : W) (b : ReplyBody) :
    (answer w b).w.books = w.books := by
  rfl

@[simp] theorem ownScan_books (w : W) (p : List Byte) :
    (ownScan w p).w.books = w.books := by
  unfold ownScan; dsimp only; (repeat' split) <;> simp

@[simp] theorem ownEditCartridge_books (w : W) (p : List Byte) :
    (ownEditCartridge w p).w.books = w.books := by
  unfold ownEditCartridge; dsimp only; (repeat' split) <;> simp

@[simp] theorem queueRequested_books (w : W) (source : Element) (asked : Dest) (expected : Option Label) :
    (queueRequested w source asked expected).w.books = w.books := by
  unfold queueRequested; dsimp only; (repeat' split) <;> simp

@[simp] theorem ownMove_books (w : W) (p : List Byte) :
    (ownMove w p).w.books = w.books := by
  unfold ownMove; dsimp only; (repeat' split) <;> simp

@[simp] theorem ownImport_books (w : W) (p : List Byte) :
    (ownImport w p).w.books = w.books := by
  unfold ownImport; dsimp only; (repeat' split) <;> simp

@[simp] theorem exportFrom_books (w : W) (e : Element) :
    (exportFrom w e).w.books = w.books := by
  simp [exportFrom]

@[simp] theorem ownExport_books (w : W) (p : List Byte) :
    (ownExport w p).w.books = w.books := by
  unfold ownExport; (repeat' split) <;> simp

@[simp] theorem ownClearChangerFault_books (w : W) (x1 : List Byte) :
    (ownClearChangerFault w x1).w.books = w.books := by
  simp [ownClearChangerFault]

@[simp] theorem ownRetestDrive_books (w : W) (p : List Byte) :
    (ownRetestDrive w p).w.books = w.books := by
  unfold ownRetestDrive; split <;> simp

@[simp] theorem unloadAccepted_books (w : W) (d : Drive) (home : Bool) :
    (unloadAccepted w d home).books = w.books := by
  unfold unloadAccepted; split <;> simp

@[simp] theorem ownUnloadDrive_books (w : W) (p : List Byte) :
    (ownUnloadDrive w p).w.books = w.books := by
  unfold ownUnloadDrive; dsimp only; (repeat' split) <;> simp

@[simp] theorem beginObject_books (w : W) (j : Job) (b : BackupData) : (beginObject w j b).books = w.books := by
  have hjob : ∀ f g, (∀ b, (f b : BackupData).extentSeq = b.extentSeq ∧ (f b).extentOpen = b.extentOpen ∧ (f b).truncEnd = b.truncEnd) →
      (∀ x, (g x : SessionRec).plain = x.plain) → ((w.modBackup j.id f).modSession (j.sessionId.getD 0) g).books = w.books :=
    fun f g hf hg => (W.modSession_books _ _ _ hg).trans (W.modBackup_books _ _ _ hf)
  unfold beginObject
  dsimp only
  split
  · exact (W.modStream_books _ _ _ fun _ => by rfl).trans (hjob _ _ (fun _ => ⟨rfl, rfl, rfl⟩) fun _ => rfl)
  · exact hjob _ _ (fun _ => ⟨rfl, rfl, rfl⟩) fun _ => rfl

@[simp] theorem ownBeginObject_books (w : W) (p : List Byte) :
    (ownBeginObject w p).w.books = w.books := by
  unfold ownBeginObject; (repeat' split) <;> simp

@[simp] theorem ownWriteData_books (w : W) (p : List Byte) : (ownWriteData w p).w.books = w.books := by
  unfold ownWriteData
  dsimp only
  (repeat' split) <;> first
    | rfl
    | exact (W.accept_books ..).trans (W.modBackup_books _ _ _ fun _ => by exact ⟨rfl, rfl, rfl⟩)

@[simp] theorem ownEndObject_books (w : W) (p : List Byte) : (ownEndObject w p).w.books = w.books := by
  unfold ownEndObject
  dsimp only
  (repeat' split) <;> first
    | rfl
    | exact (W.putStream_books _ _ _ (Stream.endObject_plain ..)).trans (W.modBackup_books _ _ _ fun _ => by exact ⟨rfl, rfl, rfl⟩)

@[simp] theorem ownCloseSession_books (w : W) (p : List Byte) : (ownCloseSession w p).w.books = w.books := by
  unfold ownCloseSession
  (repeat' split) <;> first
    | rfl
    | exact W.modBackup_books _ _ _ fun _ => ⟨rfl, rfl, rfl⟩

@[simp] theorem W.resetCartridge_books (w : W) (j : Job) :
    (W.resetCartridge w j).books = w.books := by
  unfold W.resetCartridge; split <;> simp

@[simp] theorem W.resetPortNow_books (w : W) (d : Drive) :
    (W.resetPortNow w d).books = w.books := by
  simp [W.resetPortNow]

end Sys2Proof.Machine

/-! PROOF. The bindings that the catalog's law leans on inside a step: a fragment of the law of claims (R73) which, unlike the whole
of it, every operation keeps. -/

namespace Sys2Proof.Machine

/-! ### What a job keeps -/

/-- The kind a job's progress is of. -/
def Progress.kind : Progress → JobKind
  | .backup _ => .backup
  | .verify _ => .verify
  | .restore _ => .restore
  | .clean => .clean

/-- Whether a job's progress has an extent open: a BACKUP's can. -/
def Progress.writes : Progress → Bool
  | .backup b => b.extentOpen
  | .verify _ => false
  | .restore _ => false
  | .clean => false

/-- What most operations leave of a job: its id, its kind, whether it is a BACKUP that has finished, and whether it has an extent
open. -/
structure Role where
  id : Nat
  kind : JobKind
  ended : Bool
  writes : Bool

def Job.role (j : Job) : Role :=
  { id := j.id, kind := j.kind, ended := j.state.isFinished && decide (j.kind = .backup), writes := j.progress.writes }

/-- The roles of the jobs, in the order of the table. -/
abbrev Roster := List Role

/-- No BACKUP bears the id. -/
def Roster.reader (ρ : Roster) (n : Nat) : Prop := ∀ r ∈ ρ, r.id = n → r.kind ≠ .backup

/-- No BACKUP that bears the id has finished. -/
def Roster.live (ρ : Roster) (n : Nat) : Prop := ∀ r ∈ ρ, r.id = n → r.kind = .backup → r.ended = false

/-- No BACKUP that bears the id has an extent open. -/
def Roster.shut (ρ : Roster) (n : Nat) : Prop := ∀ r ∈ ρ, r.id = n → r.kind = .backup → r.writes = false

theorem Roster.reader.live {ρ : Roster} {n : Nat} (h : ρ.reader n) : ρ.live n := fun r hr hn hk => absurd hk (h r hr hn)

theorem Roster.reader.shut {ρ : Roster} {n : Nat} (h : ρ.reader n) : ρ.shut n := fun r hr hn hk => absurd hk (h r hr hn)

/-- Whether a job may be served by dispatch, by its state (R75). -/
def Job.waits (j : Job) : Prop := j.state = .queued ∨ (j.state = .waiting ∧ j.waitReason ≠ some .catalog)

/-- What the rules fix of one job inside a step: its progress and target by its kind, that a BACKUP with an extent open neither
mounts nor waits, that a job waiting for dispatch claims no drive, that a reader's stream is that of its drive, and what a finished
job holds. -/
structure Job.Orderly (j : Job) : Prop where
  progress : j.progress.kind = j.kind
  target : (∃ p, j.target = .pool p) ↔ j.kind = .backup
  mounting : j.kind = .backup → j.progress.writes = true →
    j.mountStep = none ∧ j.state ≠ .queued ∧ j.state ≠ .waiting ∧ j.state ≠ .mounting
  held : j.kind = .backup → j.state ≠ .held
  bound : j.kind = .verify ∨ j.kind = .restore → j.stream = j.drive
  waits : j.waits → j.drive = none
  finished : j.state.isFinished = true → j.drive = none ∧ j.stream = none
  ended : j.kind = .backup → j.state.isFinished = true → j.ticket = none ∧ j.cartridge = none
  truncEnds : ∀ b x r, j.progress = .backup b → b.truncEnd = some (x, r) → x.isFinished = true

/-- A stream whose read side has nothing under way (R118, R121). -/
def Stream.Quiet (s : Stream) : Prop := s.stopping = none ∧ s.seek = none ∧ s.news = none

/-- The bindings of jobs, streams and drives to one another. -/
structure Bindings (jobs : List Job) (streams : Drive → Stream) (claims : Pair (Option Nat)) : Prop where
  ids : (jobs.map Job.id).Nodup
  few : jobs.length ≤ 16
  each : ∀ j ∈ jobs, Job.Orderly j
  named : ∀ d n, (streams d).job = some n → ∃ j ∈ jobs, j.id = n ∧ j.stream = some d
  binds : ∀ j ∈ jobs, ∀ d, j.stream = some d → (streams d).job = some j.id
  claimed : ∀ d n, claims.get d = some n → ∃ j ∈ jobs, j.id = n ∧ j.drive = some d
  quiet : ∀ d, (∀ j ∈ jobs, (streams d).job = some j.id → j.kind = .backup) → (streams d).Quiet

/-! ### Jobs by their ids -/

/-- The jobs, those of an id changed. -/
def alter (n : Nat) (f : Job → Job) (l : List Job) : List Job := l.map fun j => if j.id = n then f j else j

theorem alter_map {α : Type} (n : Nat) (f : Job → Job) (l : List Job) (g : Job → α) (h : ∀ j ∈ l, j.id = n → g (f j) = g j) :
    (alter n f l).map g = l.map g := by
  rw [alter, List.map_map]
  refine List.map_congr_left fun j hj => ?_
  rw [Function.comp_apply]
  split
  next hn => exact h j hj hn
  next => rfl

theorem mem_alter {n : Nat} {f : Job → Job} {l : List Job} {k : Job} (h : k ∈ alter n f l) :
    (∃ j ∈ l, j.id = n ∧ k = f j) ∨ (k ∈ l ∧ k.id ≠ n) := by
  obtain ⟨j, hj, rfl⟩ := List.mem_map.1 h
  split
  next hn => exact .inl ⟨j, hj, hn, rfl⟩
  next hn => exact .inr ⟨hj, hn⟩

theorem alter_mem {n : Nat} {f : Job → Job} {l : List Job} {j : Job} (h : j ∈ l) (hn : j.id = n) : f j ∈ alter n f l :=
  List.mem_map.2 ⟨j, h, if_pos hn⟩

theorem alter_mem_other {n : Nat} {f : Job → Job} {l : List Job} {j : Job} (h : j ∈ l) (hn : j.id ≠ n) : j ∈ alter n f l :=
  List.mem_map.2 ⟨j, h, if_neg hn⟩

theorem eq_of_ids {l : List Job} (h : (l.map Job.id).Nodup) {j k : Job} (hj : j ∈ l) (hk : k ∈ l) (he : j.id = k.id) : j = k :=
  List.inj_on_of_nodup_map h hj hk he

/-! ### The bindings through changes of one job -/

namespace Bindings

variable {jobs : List Job} {streams : Drive → Stream} {claims : Pair (Option Nat)} {n : Nat} {f : Job → Job}

/-- A job changed with its drive and its stream kept. -/
theorem alter (h : Bindings jobs streams claims)
    (hf : ∀ j ∈ jobs, j.id = n → (f j).id = j.id ∧ (f j).kind = j.kind ∧ (f j).stream = j.stream ∧ (f j).drive = j.drive ∧
      (j.Orderly → (f j).Orderly)) : Bindings (alter n f jobs) streams claims := by
  have back : ∀ j ∈ jobs, ∃ k ∈ Machine.alter n f jobs, k.id = j.id ∧ k.kind = j.kind ∧ k.stream = j.stream ∧ k.drive = j.drive :=
    fun j hj => by
      by_cases hn : j.id = n
      · obtain ⟨h1, h2, h3, h4, -⟩ := hf j hj hn
        exact ⟨f j, alter_mem hj hn, h1, h2, h3, h4⟩
      · exact ⟨j, alter_mem_other hj hn, rfl, rfl, rfl, rfl⟩
  refine ⟨?_, ?_, fun k hk => ?_, fun d m hm => ?_, fun k hk d hd => ?_, fun d m hm => ?_, fun d hd => h.quiet d fun j hj hm => ?_⟩
  · rw [alter_map _ _ _ _ fun j hj hn => (hf j hj hn).1]
    exact h.ids
  · rw [Machine.alter, List.length_map]
    exact h.few
  · rcases mem_alter hk with ⟨j, hj, hn, rfl⟩ | ⟨hj, -⟩
    · exact (hf j hj hn).2.2.2.2 (h.each j hj)
    · exact h.each k hj
  · obtain ⟨j, hj, rfl, hs⟩ := h.named d m hm
    obtain ⟨k, hk, hid, -, hst, -⟩ := back j hj
    exact ⟨k, hk, hid, hst.trans hs⟩
  · rcases mem_alter hk with ⟨j, hj, hn, rfl⟩ | ⟨hj, -⟩
    · obtain ⟨h1, -, h3, -, -⟩ := hf j hj hn
      rw [h1]
      exact h.binds j hj d (h3 ▸ hd)
    · exact h.binds k hj d hd
  · obtain ⟨j, hj, rfl, hs⟩ := h.claimed d m hm
    obtain ⟨k, hk, hid, -, -, hdr⟩ := back j hj
    exact ⟨k, hk, hid, hdr.trans hs⟩
  · obtain ⟨k, hk, hid, hkind, -, -⟩ := back j hj
    exact hkind ▸ hd k hk (hid ▸ hm)

/-- A job lets go of its drive, and of its stream if `g` says so: the stream is then bare, and no drive is claimed for the job. -/
theorem letGo (h : Bindings jobs streams claims) {streams' : Drive → Stream} {claims' : Pair (Option Nat)}
    (hf : ∀ j ∈ jobs, j.id = n → (f j).id = j.id ∧ (f j).kind = j.kind ∧ (j.Orderly → (f j).Orderly) ∧
      ∀ d, (f j).stream = some d → j.stream = some d ∧ streams' d = streams d)
    (hs : ∀ d, streams' d = streams d ∧ (∀ j ∈ jobs, j.id = n → j.stream = some d → (f j).stream = some d) ∨
      (streams' d).job = none ∧ (streams' d).Quiet ∧ ((streams d).job = some n ∨ (streams d).job = none))
    (hc : ∀ d m, claims'.get d = some m → m ≠ n ∧ claims.get d = some m) :
    Bindings (Machine.alter n f jobs) streams' claims' := by
  refine ⟨?_, ?_, fun k hk => ?_, fun d m hm => ?_, fun k hk d hd => ?_, fun d m hm => ?_, fun d hd => ?_⟩
  · rw [alter_map _ _ _ _ fun j hj hn => (hf j hj hn).1]
    exact h.ids
  · rw [Machine.alter, List.length_map]
    exact h.few
  · rcases mem_alter hk with ⟨j, hj, hn, rfl⟩ | ⟨hj, -⟩
    · exact (hf j hj hn).2.2.1 (h.each j hj)
    · exact h.each k hj
  · rcases hs d with ⟨he, hkeep⟩ | ⟨hj, -⟩
    · obtain ⟨j, hj, hid, hst⟩ := h.named d m (he ▸ hm)
      by_cases hn : j.id = n
      · exact ⟨f j, alter_mem hj hn, (hf j hj hn).1.trans hid, hkeep j hj hn hst⟩
      · exact ⟨j, alter_mem_other hj hn, hid, hst⟩
    · rw [hj] at hm
      cases hm
  · rcases mem_alter hk with ⟨j, hj, hn, rfl⟩ | ⟨hj, hn⟩
    · obtain ⟨h1, -, -, h4⟩ := hf j hj hn
      obtain ⟨hst, he⟩ := h4 d hd
      rw [he, h1]
      exact h.binds j hj d hst
    · have hb := h.binds k hj d hd
      rcases hs d with ⟨he, -⟩ | ⟨-, -, hjob | hjob⟩
      · rw [he]
        exact hb
      · exact absurd (Option.some.inj (hb.symm.trans hjob)) hn
      · cases hb.symm.trans hjob
  · obtain ⟨hmn, hcl⟩ := hc d m hm
    obtain ⟨j, hj, hid, hdr⟩ := h.claimed d m hcl
    exact ⟨j, alter_mem_other hj (hid ▸ hmn), hid, hdr⟩
  · rcases hs d with ⟨he, -⟩ | ⟨-, hq, -⟩
    · rw [he] at hd ⊢
      refine h.quiet d fun j hj hm => ?_
      by_cases hn : j.id = n
      · obtain ⟨h1, h2, -, -⟩ := hf j hj hn
        exact h2 ▸ hd (f j) (alter_mem hj hn) (h1 ▸ hm)
      · exact hd j (alter_mem_other hj hn) hm
    · exact hq

/-- The streams change and stay bound as they were; those that no reader is bound to stay quiet. -/
theorem putStreams (h : Bindings jobs streams claims) {streams' : Drive → Stream} (hj : ∀ d, (streams' d).job = (streams d).job)
    (hq : ∀ d, (streams d).Quiet → (streams' d).Quiet ∨ ∃ j ∈ jobs, (streams d).job = some j.id ∧ j.kind ≠ .backup) :
    Bindings jobs streams' claims := by
  refine ⟨h.ids, h.few, h.each, fun e m hm => h.named e m (hj e ▸ hm), fun j hjm e he => (hj e).trans (h.binds j hjm e he), h.claimed,
    fun e he => ?_⟩
  rw [hj] at he
  rcases hq e (h.quiet e he) with hs | ⟨j, hjm, hb, hk⟩
  · exact hs
  · exact absurd (he j hjm hb) hk

/-- A finished job's record is freed. -/
theorem free (h : Bindings jobs streams claims) (hn : ∀ j ∈ jobs, j.id = n → j.state.isFinished = true) :
    Bindings (jobs.filter fun j => j.id ≠ n) streams claims := by
  have hkeep : ∀ j ∈ jobs, j.state.isFinished = false → j ∈ jobs.filter fun j => j.id ≠ n := fun j hj hf => by
    refine List.mem_filter.2 ⟨hj, decide_eq_true fun he => ?_⟩
    rw [hn j hj he] at hf
    cases hf
  have hunfinished : ∀ j ∈ jobs, (j.drive ≠ none ∨ j.stream ≠ none) → j.state.isFinished = false := fun j hj hh => by
    refine Bool.eq_false_iff.2 fun hf => ?_
    obtain ⟨hd, hs⟩ := (h.each j hj).finished hf
    exact hh.elim (fun x => x hd) fun x => x hs
  refine ⟨h.ids.sublist (List.filter_sublist.map _), (List.length_filter_le ..).trans h.few, fun j hj => h.each j (List.mem_of_mem_filter hj),
    fun d m hm => ?_, fun j hj => h.binds j (List.mem_of_mem_filter hj), fun d m hm => ?_, fun d hd => h.quiet d fun j hj hm => ?_⟩
  · obtain ⟨j, hj, hid, hst⟩ := h.named d m hm
    exact ⟨j, hkeep j hj (hunfinished j hj (.inr (hst ▸ Option.some_ne_none d))), hid, hst⟩
  · obtain ⟨j, hj, hid, hdr⟩ := h.claimed d m hm
    exact ⟨j, hkeep j hj (hunfinished j hj (.inl (hdr ▸ Option.some_ne_none d))), hid, hdr⟩
  · obtain ⟨k, hk, hid, hst⟩ := h.named d j.id hm
    have hkj := eq_of_ids h.ids hk hj hid
    subst hkj
    exact hd k (hkeep k hk (hunfinished k hk (.inr (hst ▸ Option.some_ne_none d)))) hm

/-- A job is admitted under an id that no record holds. -/
theorem withJob (h : Bindings jobs streams claims) {j : Job} (hlen : jobs.length < 16) (hid : j.id ∉ jobs.map Job.id) (ho : j.Orderly)
    (hs : j.stream = none) : Bindings (jobs ++ [j]) streams claims := by
  have hmem : ∀ k ∈ jobs ++ [j], k ∈ jobs ∨ k = j := fun k hk => (List.mem_append.1 hk).imp_right List.mem_singleton.1
  refine ⟨?_, ?_, fun k hk => ?_, fun d m hm => ?_, fun k hk d hd => ?_, fun d m hm => ?_, fun d hd => h.quiet d fun k hk => ?_⟩
  · rw [List.map_append, List.map_cons, List.map_nil]
    exact List.nodup_append.2 ⟨h.ids, List.nodup_singleton _, fun a ha b hb he => hid (List.mem_singleton.1 hb ▸ he ▸ ha)⟩
  · rw [List.length_append]
    exact hlen
  · rcases hmem k hk with hk | rfl
    · exact h.each k hk
    · exact ho
  · obtain ⟨k, hk, hh⟩ := h.named d m hm
    exact ⟨k, List.mem_append_left _ hk, hh⟩
  · rcases hmem k hk with hk | rfl
    · exact h.binds k hk d hd
    · rw [hs] at hd
      cases hd
  · obtain ⟨k, hk, hh⟩ := h.claimed d m hm
    exact ⟨k, List.mem_append_left _ hk, hh⟩
  · exact hd k (List.mem_append_left _ hk)

end Bindings

end Sys2Proof.Machine

/-! PROOF. The catalog's law (R147 to R151) as a law of the sessions and extents with the unfinished BACKUPs that write them. -/

namespace Sys2Proof.Machine

/-- What the catalog's law takes of an unfinished BACKUP: its session, the sequence number it gives next, and whether an extent of
that number is open. -/
structure Writer where
  session : Option Nat
  seq : Nat
  isOpen : Bool

def Job.writer? (j : Job) : Option Writer :=
  j.backup?.bind fun b => if j.state.isFinished then none else some { session := j.sessionId, seq := b.extentSeq, isOpen := b.extentOpen }

/-- An extent fits a writer: it has a number given already, or the one given now and is the open one. -/
def Writer.gave (a : Writer) (e : ExtentRec) : Prop :=
  a.session = some e.session → e.sequence < a.seq ∨ (a.isOpen = true ∧ e.sequence = a.seq)

/-- How many extents a session has. -/
def Catalog.count (c : Catalog) (id : Nat) : Nat := (c.extents.filter fun e => e.session = id).length

/-- The objects and frames an extent counts fit each other (R134). -/
def ExtentRec.Counted (e : ExtentRec) : Prop :=
  (e.firstObject = none ↔ e.lastObject = none) ∧ (e.chunkFrames = 0 ↔ e.firstObject = none)

/-- One writer takes the place of another of the same session. -/
structure Replaces (ws ws' : List Writer) (a b : Writer) : Prop where
  old : a ∈ ws
  new : b ∈ ws'
  same : a.session = b.session
  sessions : ws'.map Writer.session = ws.map Writer.session
  back : ∀ x ∈ ws', x = b ∨ x ∈ ws
  keep : ∀ x ∈ ws, x ≠ a → x ∈ ws'

/-- The law of the catalog, of its records, the sessions pinned, and the writers. -/
structure BookLaw (ws : List Writer) (pins : List Nat) (c : Catalog) : Prop where
  byId : (c.sessions.map SessionRec.id).Pairwise (· < ·)
  inOrder : c.extents.Pairwise fun a b => extentBefore a b = true
  sessions : ∀ e ∈ c.extents, ∃ x ∈ c.sessions, x.id = e.session
  pinned : ∀ n ∈ pins, ∃ x ∈ c.sessions, x.id = n
  gapless : ∀ x ∈ c.sessions, x.origin = .written → ∀ k, k < c.count x.id → ∃ e ∈ c.extents, e.session = x.id ∧ e.sequence = k
  opened : ∀ e ∈ c.extents, e.isOpen = true → ∃ a ∈ ws, a.session = some e.session ∧ a.isOpen = true ∧ a.seq = e.sequence
  writers : ∀ x ∈ c.sessions, x.state = .opened → ∃ a ∈ ws, a.session = some x.id
  alone : (ws.map Writer.session).Nodup
  session : ∀ a ∈ ws, ∃ x ∈ c.sessions, a.session = some x.id ∧ x.state = .opened
  numbers : ∀ a ∈ ws, ∀ e ∈ c.extents, a.gave e
  written : ∀ a ∈ ws, ∀ x ∈ c.sessions, a.session = some x.id → x.origin = .written → c.count x.id = a.seq + if a.isOpen then 1 else 0
  objects : ∀ e ∈ c.extents, e.Counted
  kept : ∀ e ∈ c.extents, e.isOpen = false → 0 < e.blockCount

/-- A record with an id of its own keeps the order of the ids. -/
theorem pairwise_insertById {l : List SessionRec} {s : SessionRec} (h : (l.map SessionRec.id).Pairwise (· < ·))
    (hs : ∀ x ∈ l, x.id ≠ s.id) : ((insertBy SessionRec.id s l).map SessionRec.id).Pairwise (· < ·) := by
  induction l with
  | nil => simp [insertBy]
  | cons y ys ih =>
    obtain ⟨hy, hys⟩ := List.pairwise_cons.1 h
    have hne := hs y (List.mem_cons_self ..)
    unfold insertBy
    split
    next hlt =>
      refine List.pairwise_cons.2 ⟨fun m hm => ?_, h⟩
      rcases List.mem_cons.1 hm with rfl | hm
      · exact hlt
      · exact hlt.trans (hy m hm)
    next hge =>
      refine List.pairwise_cons.2 ⟨fun m hm => ?_, ih hys fun x hx => hs x (List.mem_cons_of_mem _ hx)⟩
      obtain ⟨x, hx, rfl⟩ := List.mem_map.1 hm
      rcases List.mem_cons.1 ((perm_insertBy _ s ys).mem_iff.1 hx) with rfl | hx
      · exact lt_of_le_of_ne (Nat.not_lt.1 hge) hne
      · exact hy x.id (List.mem_map_of_mem hx)

namespace BookLaw

variable {ws ws' : List Writer} {pins pins' : List Nat} {c : Catalog}

theorem ids (h : BookLaw ws pins c) : (c.sessions.map SessionRec.id).Nodup := h.byId.imp Nat.ne_of_lt

theorem keys (h : BookLaw ws pins c) : (c.extents.map fun e => (e.session, e.sequence)).Nodup := by
  refine List.pairwise_map.2 (h.inOrder.imp fun {a b} hab he => ?_)
  rw [extentBefore_iff] at hab
  simp only [Prod.mk.injEq] at he
  omega

theorem extent_unique (h : BookLaw ws pins c) {e f : ExtentRec} (he : e ∈ c.extents) (hf : f ∈ c.extents) (hs : e.session = f.session)
    (hq : e.sequence = f.sequence) : e = f :=
  List.inj_on_of_nodup_map h.keys he hf (Prod.ext hs hq)

theorem session_unique (h : BookLaw ws pins c) {x y : SessionRec} (hx : x ∈ c.sessions) (hy : y ∈ c.sessions) (he : x.id = y.id) : x = y :=
  List.inj_on_of_nodup_map h.ids hx hy he

theorem writer_unique (h : BookLaw ws pins c) {a b : Writer} (ha : a ∈ ws) (hb : b ∈ ws) (he : a.session = b.session) : a = b :=
  List.inj_on_of_nodup_map h.alone ha hb he

/-- Pins can be let go, and held on sessions that have records. -/
theorem withPins (h : BookLaw ws pins c) (hp : ∀ n ∈ pins', n ∈ pins ∨ ∃ x ∈ c.sessions, x.id = n) : BookLaw ws pins' c :=
  { h with pinned := fun n hn => (hp n hn).elim (h.pinned n) id }

/-- Session records change, but for their ids, with the OPEN ones OPEN as before; WRITTEN ones may become of another origin. -/
theorem mapSessions (h : BookLaw ws pins c) {g : SessionRec → SessionRec} (hid : ∀ x ∈ c.sessions, (g x).id = x.id)
    (hs : ∀ x ∈ c.sessions, (g x).state = .opened ↔ x.state = .opened) (ho : ∀ x ∈ c.sessions, (g x).origin = .written → x.origin = .written) :
    BookLaw ws pins { c with sessions := c.sessions.map g } := by
  have fwd : ∀ n, (∃ x ∈ c.sessions, x.id = n) → ∃ x ∈ c.sessions.map g, x.id = n := by
    rintro n ⟨x, hx, rfl⟩
    exact ⟨g x, List.mem_map_of_mem hx, hid x hx⟩
  have hmap : (c.sessions.map g).map SessionRec.id = c.sessions.map SessionRec.id := by
    rw [List.map_map]
    exact List.map_congr_left hid
  refine { byId := hmap ▸ h.byId, inOrder := h.inOrder, sessions := fun e he => fwd _ (h.sessions e he),
           pinned := fun n hn => fwd _ (h.pinned n hn), gapless := fun y hy hw k hk => ?_, opened := h.opened, writers := fun y hy hw => ?_,
           alone := h.alone, session := fun a ha => ?_, numbers := h.numbers, written := fun a ha y hy hsess hw => ?_,
           objects := h.objects, kept := h.kept }
  · obtain ⟨x, hx, rfl⟩ := List.mem_map.1 hy
    rw [hid x hx] at hk ⊢
    exact h.gapless x hx (ho x hx hw) k hk
  · obtain ⟨x, hx, rfl⟩ := List.mem_map.1 hy
    rw [hid x hx]
    exact h.writers x hx ((hs x hx).1 hw)
  · obtain ⟨x, hx, hsess, hop⟩ := h.session a ha
    exact ⟨g x, List.mem_map_of_mem hx, (hid x hx).symm ▸ hsess, (hs x hx).2 hop⟩
  · obtain ⟨x, hx, rfl⟩ := List.mem_map.1 hy
    rw [hid x hx] at hsess ⊢
    exact h.written a ha x hx hsess (ho x hx hw)

theorem count_map {g : ExtentRec → ExtentRec} (hg : ∀ e ∈ c.extents, (g e).session = e.session) (id : Nat) :
    Catalog.count { c with extents := c.extents.map g } id = c.count id := by
  rw [Catalog.count, Catalog.count, List.filter_map, List.length_map]
  congr 1
  refine List.filter_congr fun e he => ?_
  rw [Function.comp_apply, hg e he]

/-- Extent records change, but for their keys; an open one may close once it has blocks. -/
theorem mapExtents (h : BookLaw ws pins c) {g : ExtentRec → ExtentRec}
    (hg : ∀ e ∈ c.extents, (g e).session = e.session ∧ (g e).sequence = e.sequence ∧ ((g e).isOpen = true → e.isOpen = true) ∧
      (g e).Counted ∧ ((g e).isOpen = false → 0 < (g e).blockCount)) :
    BookLaw ws pins { c with extents := c.extents.map g } := by
  have hcount := count_map (c := c) fun e he => (hg e he).1
  refine { byId := h.byId, inOrder := ?_, sessions := fun y hy => ?_, pinned := h.pinned, gapless := fun x hx hw k hk => ?_,
           opened := fun y hy hop => ?_, writers := h.writers, alone := h.alone, session := h.session, numbers := fun a ha y hy => ?_,
           written := fun a ha x hx hsess hw => (hcount x.id).trans (h.written a ha x hx hsess hw), objects := fun y hy => ?_,
           kept := fun y hy => ?_ }
  · refine List.pairwise_map.2 (h.inOrder.imp_of_mem fun {a b} ha hb hab => ?_)
    rw [extentBefore_iff] at hab ⊢
    obtain ⟨h1, h2, -⟩ := hg a ha
    obtain ⟨h3, h4, -⟩ := hg b hb
    rwa [h1, h2, h3, h4]
  · obtain ⟨e, he, rfl⟩ := List.mem_map.1 hy
    rw [(hg e he).1]
    exact h.sessions e he
  · rw [hcount] at hk
    obtain ⟨e, he, hs, hq⟩ := h.gapless x hx hw k hk
    exact ⟨g e, List.mem_map_of_mem he, (hg e he).1.trans hs, (hg e he).2.1.trans hq⟩
  · obtain ⟨e, he, rfl⟩ := List.mem_map.1 hy
    obtain ⟨h1, h2, h3, -⟩ := hg e he
    rw [h1, h2]
    exact h.opened e he (h3 hop)
  · obtain ⟨e, he, rfl⟩ := List.mem_map.1 hy
    obtain ⟨h1, h2, -⟩ := hg e he
    intro hsess
    rw [h1] at hsess
    rw [h2]
    exact h.numbers a ha e he hsess
  · obtain ⟨e, he, rfl⟩ := List.mem_map.1 hy
    exact (hg e he).2.2.2.1
  · obtain ⟨e, he, rfl⟩ := List.mem_map.1 hy
    exact (hg e he).2.2.2.2

/-- The writers change, but for their sessions. -/
theorem rewrite (h : BookLaw ws pins c) (hsess : ws'.map Writer.session = ws.map Writer.session)
    (hopen : ∀ e ∈ c.extents, e.isOpen = true → ∃ a ∈ ws', a.session = some e.session ∧ a.isOpen = true ∧ a.seq = e.sequence)
    (hnum : ∀ a ∈ ws', ∀ e ∈ c.extents, a.gave e)
    (hwr : ∀ a ∈ ws', ∀ x ∈ c.sessions, a.session = some x.id → x.origin = .written → c.count x.id = a.seq + if a.isOpen then 1 else 0) :
    BookLaw ws' pins c := by
  refine { h with opened := hopen, writers := fun x hx hop => ?_, alone := hsess ▸ h.alone, session := fun a ha => ?_, numbers := hnum,
                  written := hwr }
  · obtain ⟨a, ha, hs⟩ := h.writers x hx hop
    have hm : a.session ∈ ws'.map Writer.session := hsess ▸ List.mem_map_of_mem ha
    obtain ⟨b, hb, he⟩ := List.mem_map.1 hm
    exact ⟨b, hb, he.trans hs⟩
  · have hm : a.session ∈ ws.map Writer.session := hsess ▸ List.mem_map_of_mem ha
    obtain ⟨b, hb, he⟩ := List.mem_map.1 hm
    exact he ▸ h.session b hb

/-! ### Extents taken and freed -/

theorem count_filter_other {p : ExtentRec → Bool} {id : Nat} (hp : ∀ e ∈ c.extents, e.session = id → p e = true) :
    Catalog.count { c with extents := c.extents.filter p } id = c.count id := by
  rw [Catalog.count, Catalog.count, List.filter_filter]
  congr 1
  refine List.filter_congr fun e he => ?_
  by_cases hs : e.session = id <;> simp [hs, hp e he]

/-- An extent of a session that is not of origin WRITTEN is freed. -/
theorem freeOther (h : BookLaw ws pins c) {p : ExtentRec → Bool}
    (hp : ∀ e ∈ c.extents, p e = false → ∀ x ∈ c.sessions, x.id = e.session → x.origin ≠ .written) :
    BookLaw ws pins { c with extents := c.extents.filter p } := by
  have hcount : ∀ x ∈ c.sessions, x.origin = .written → Catalog.count { c with extents := c.extents.filter p } x.id = c.count x.id :=
    fun x hx hw => count_filter_other fun e he hs => by
      by_contra hf
      exact hp e he (eq_false_of_ne_true hf) x hx hs.symm hw
  refine { byId := h.byId, inOrder := h.inOrder.sublist List.filter_sublist, sessions := fun e he => h.sessions e (List.mem_of_mem_filter he),
           pinned := h.pinned, gapless := fun x hx hw k hk => ?_, opened := fun e he => h.opened e (List.mem_of_mem_filter he),
           writers := h.writers, alone := h.alone, session := h.session, numbers := fun a ha e he => h.numbers a ha e (List.mem_of_mem_filter he),
           written := fun a ha x hx hs hw => (hcount x hx hw).trans (h.written a ha x hx hs hw),
           objects := fun e he => h.objects e (List.mem_of_mem_filter he), kept := fun e he => h.kept e (List.mem_of_mem_filter he) }
  rw [hcount x hx hw] at hk
  obtain ⟨e, he, hs, hq⟩ := h.gapless x hx hw k hk
  refine ⟨e, List.mem_filter.2 ⟨he, ?_⟩, hs, hq⟩
  by_contra hf
  exact hp e he (eq_false_of_ne_true hf) x hx hs.symm hw

theorem count_insert (e : ExtentRec) (id : Nat) :
    Catalog.count { c with extents := insertExtent e c.extents } id = c.count id + if e.session = id then 1 else 0 := by
  rw [Catalog.count, Catalog.count, ((perm_insertExtent e c.extents).filter _).length_eq, List.filter_cons]
  split <;> simp_all

theorem mem_insert {e y : ExtentRec} {l : List ExtentRec} : y ∈ insertExtent e l ↔ y = e ∨ y ∈ l :=
  (perm_insertExtent e l).mem_iff.trans List.mem_cons

/-- A closed extent is taken under a key of its own, for a session that is neither OPEN nor of origin WRITTEN. -/
theorem insertClosed (h : BookLaw ws pins c) {e : ExtentRec} (hkey : ∀ y ∈ c.extents, (y.session, y.sequence) ≠ (e.session, e.sequence))
    (hs : ∃ x ∈ c.sessions, x.id = e.session ∧ x.state ≠ .opened ∧ x.origin ≠ .written) (ho : e.isOpen = false) (hc : e.Counted)
    (hb : 0 < e.blockCount) : BookLaw ws pins { c with extents := insertExtent e c.extents } := by
  obtain ⟨z, hz, hzid, hzs, hzo⟩ := hs
  have hother : ∀ x ∈ c.sessions, (x.state = .opened ∨ x.origin = .written) → e.session ≠ x.id := fun x hx hx' he => by
    rw [h.session_unique hz hx (hzid.trans he)] at hzs hzo
    exact hx'.elim hzs hzo
  refine { byId := h.byId, inOrder := pairwise_insertExtent h.inOrder hkey, sessions := fun y hy => ?_, pinned := h.pinned,
           gapless := fun x hx hw k hk => ?_, opened := fun y hy hop => ?_, writers := h.writers, alone := h.alone, session := h.session,
           numbers := fun a ha y hy => ?_, written := fun a ha x hx hsess hw => ?_, objects := fun y hy => ?_, kept := fun y hy => ?_ }
  · rcases mem_insert.1 hy with rfl | hy
    · exact ⟨z, hz, hzid⟩
    · exact h.sessions y hy
  · rw [count_insert, if_neg (hother x hx (.inr hw)), Nat.add_zero] at hk
    obtain ⟨y, hy, hh⟩ := h.gapless x hx hw k hk
    exact ⟨y, mem_insert.2 (.inr hy), hh⟩
  · rcases mem_insert.1 hy with rfl | hy
    · rw [ho] at hop
      cases hop
    · exact h.opened y hy hop
  · rcases mem_insert.1 hy with rfl | hy
    · intro hsess
      obtain ⟨x, hx, hxs, hxo⟩ := h.session a ha
      exact absurd (Option.some.inj (hsess.symm.trans hxs)) (hother x hx (.inl hxo))
    · exact h.numbers a ha y hy
  · rw [count_insert, if_neg (hother x hx (.inr hw)), Nat.add_zero]
    exact h.written a ha x hx hsess hw
  · rcases mem_insert.1 hy with rfl | hy
    · exact hc
    · exact h.objects y hy
  · rcases mem_insert.1 hy with rfl | hy
    · exact fun _ => hb
    · exact h.kept y hy

/-- A writer without an open extent begins one under the number it gives next. -/
theorem insertOpen (h : BookLaw ws pins c) {e : ExtentRec} {a b : Writer} (hr : Replaces ws ws' a b)
    (hab : a.seq = b.seq ∧ a.isOpen = false ∧ b.isOpen = true) (he : a.session = some e.session ∧ e.sequence = a.seq)
    (ho : e.isOpen = true) (hc : e.Counted) : BookLaw ws' pins { c with extents := insertExtent e c.extents } := by
  obtain ⟨ha, hb, h1, hsess, hws, hkeep⟩ := hr
  obtain ⟨h2, h3, h4⟩ := hab
  obtain ⟨h5, h6⟩ := he
  have hgiven : ∀ y ∈ c.extents, y.session = e.session → y.sequence < a.seq := fun y hy hs => by
    rcases h.numbers a ha y hy (hs ▸ h5) with hlt | ⟨hop, -⟩
    · exact hlt
    · rw [h3] at hop
      cases hop
  have hkey : ∀ y ∈ c.extents, (y.session, y.sequence) ≠ (e.session, e.sequence) := fun y hy heq => by
    simp only [Prod.mk.injEq] at heq
    have := hgiven y hy heq.1
    omega
  obtain ⟨z, hz, hzs, hzo⟩ := h.session a ha
  have hzid : z.id = e.session := Option.some.inj (hzs.symm.trans h5)
  have hb' : b.session = some e.session := h1 ▸ h5
  have hother : ∀ x ∈ ws', x ≠ b → x ∈ ws ∧ x.session ≠ some e.session := fun x hx hne => by
    have hxw := (hws x hx).resolve_left hne
    refine ⟨hxw, fun hs => hne ?_⟩
    exact List.inj_on_of_nodup_map (hsess ▸ h.alone) hx hb (hs.trans hb'.symm)
  have hcount := count_insert (c := c) e
  have hwritten : z.origin = .written → c.count e.session = a.seq := fun hw => by
    have := h.written a ha z hz hzs hw
    rwa [h3, if_neg Bool.false_ne_true, Nat.add_zero, hzid] at this
  refine { byId := h.byId, inOrder := pairwise_insertExtent h.inOrder hkey, sessions := fun y hy => ?_, pinned := h.pinned,
           gapless := fun x hx hw k hk => ?_, opened := fun y hy hop => ?_, writers := fun x hx hop => ?_, alone := hsess ▸ h.alone,
           session := fun x hx => ?_, numbers := fun x hx y hy => ?_, written := fun x hx s hs hxs hw => ?_, objects := fun y hy => ?_,
           kept := fun y hy hop => ?_ }
  · rcases mem_insert.1 hy with rfl | hy
    · exact ⟨z, hz, hzid⟩
    · exact h.sessions y hy
  · rw [hcount] at hk
    by_cases hx' : e.session = x.id
    · rw [if_pos hx'] at hk
      have hxz := h.session_unique hx hz (hx'.symm.trans hzid.symm)
      subst hxz
      have hn := hwritten hw
      by_cases hkn : k = a.seq
      · exact ⟨e, mem_insert.2 (.inl rfl), hx', h6.trans hkn.symm⟩
      · obtain ⟨y, hy, hh⟩ := h.gapless x hx hw k (by rw [hzid, hn]; rw [hzid, hn] at hk; omega)
        exact ⟨y, mem_insert.2 (.inr hy), hh⟩
    · rw [if_neg hx', Nat.add_zero] at hk
      obtain ⟨y, hy, hh⟩ := h.gapless x hx hw k hk
      exact ⟨y, mem_insert.2 (.inr hy), hh⟩
  · rcases mem_insert.1 hy with rfl | hy
    · exact ⟨b, hb, hb', h4, h2.symm.trans h6.symm⟩
    · obtain ⟨x, hx, hxs, hxo, hxq⟩ := h.opened y hy hop
      have hne : x ≠ a := fun hxa => by
        rw [hxa, h3] at hxo
        cases hxo
      exact ⟨x, hkeep x hx hne, hxs, hxo, hxq⟩
  · obtain ⟨x', hx', hs⟩ := h.writers x hx hop
    by_cases hxa : x' = a
    · exact ⟨b, hb, h1.symm.trans (hxa ▸ hs)⟩
    · exact ⟨x', hkeep x' hx' hxa, hs⟩
  · rcases hws x hx with rfl | hx
    · exact ⟨z, hz, h1.symm.trans hzs, hzo⟩
    · exact h.session x hx
  · by_cases hxb : x = b
    · rcases mem_insert.1 hy with rfl | hy
      · exact fun _ => .inr (hxb ▸ ⟨h4, h6.trans h2⟩)
      · intro hs
        rw [hxb] at hs ⊢
        exact .inl (h2 ▸ hgiven y hy (Option.some.inj (hs.symm.trans hb')))
    · obtain ⟨hxw, hxs⟩ := hother x hx hxb
      rcases mem_insert.1 hy with rfl | hy
      · exact fun hs => absurd hs hxs
      · exact h.numbers x hxw y hy
  · rw [hcount]
    by_cases hxb : x = b
    · subst hxb
      have hsz := h.session_unique hs hz ((Option.some.inj (hxs.symm.trans hb')).trans hzid.symm)
      subst hsz
      rw [hzid, if_pos rfl, hwritten hw, h4, if_pos rfl, h2]
    · obtain ⟨hxw, hxe⟩ := hother x hx hxb
      rw [if_neg fun hh => hxe (hxs.trans (congrArg some hh.symm)), Nat.add_zero]
      exact h.written x hxw s hs hxs hw
  · rcases mem_insert.1 hy with rfl | hy
    · exact hc
    · exact h.objects y hy
  · rcases mem_insert.1 hy with rfl | hy
    · rw [ho] at hop
      cases hop
    · exact h.kept y hy hop

theorem count_remove (h : BookLaw ws pins c) {e : ExtentRec} (he : e ∈ c.extents) :
    Catalog.count { c with extents := c.extents.filter fun x => !(decide (x.session = e.session) && decide (x.sequence = e.sequence)) }
      e.session + 1 = c.count e.session := by
  have hone : (c.extents.map fun x => (x.session, x.sequence)).count (e.session, e.sequence) = 1 :=
    List.count_eq_one_of_mem h.keys (List.mem_map_of_mem (f := fun x : ExtentRec => (x.session, x.sequence)) he)
  rw [List.count, List.countP_map] at hone
  rw [Catalog.count, Catalog.count, ← List.countP_eq_length_filter, ← List.countP_eq_length_filter, ← hone,
    List.countP_eq_countP_filter_add c.extents (fun x => decide (x.session = e.session))
      (fun x => !(decide (x.session = e.session) && decide (x.sequence = e.sequence)))]
  congr 1
  rw [List.countP_filter]
  refine List.countP_congr fun x _ => ?_
  simp only [Function.comp_apply, beq_iff_eq, Prod.mk.injEq, Bool.not_not, Bool.and_eq_true, decide_eq_true_eq]
  tauto

/-- The extent a writer has open is freed. -/
theorem freeOpen (h : BookLaw ws pins c) {a b : Writer} (hr : Replaces ws ws' a b)
    (hab : a.seq = b.seq ∧ a.isOpen = true ∧ b.isOpen = false) {e : ExtentRec} (he : e ∈ c.extents) (hs : a.session = some e.session)
    (hq : e.sequence = a.seq) : BookLaw ws' pins
      { c with extents := c.extents.filter fun x => !(decide (x.session = e.session) && decide (x.sequence = e.sequence)) } := by
  obtain ⟨h1, h2, h3⟩ := hab
  have hin : ∀ {y}, y ∈ c.extents.filter (fun x => !(decide (x.session = e.session) && decide (x.sequence = e.sequence))) ↔
      y ∈ c.extents ∧ ¬(y.session = e.session ∧ y.sequence = e.sequence) := by simp [imp_iff_not_or]
  obtain ⟨z, hz, hzs, hzo⟩ := h.session a hr.old
  have hzid : e.session = z.id := Option.some.inj (hs.symm.trans hzs)
  have hcount := h.count_remove he
  have hother : ∀ k, k ≠ e.session → Catalog.count { c with extents := c.extents.filter fun x =>
      !(decide (x.session = e.session) && decide (x.sequence = e.sequence)) } k = c.count k := fun k hk =>
    count_filter_other fun y _ hy => by simp [hy, hk]
  have hfull : z.origin = .written → c.count e.session = a.seq + 1 := fun hw => by
    rw [hzid, h.written a hr.old z hz hzs hw, h2, if_pos rfl]
  refine { byId := h.byId, inOrder := h.inOrder.sublist List.filter_sublist, sessions := fun y hy => h.sessions y (hin.1 hy).1,
           pinned := h.pinned, gapless := fun x hx hw k hk => ?_, opened := fun y hy hop => ?_, writers := fun x hx hop => ?_,
           alone := hr.sessions ▸ h.alone, session := fun x hx => ?_, numbers := fun x hx y hy => ?_, written := fun x hx s hs' hxs hw => ?_,
           objects := fun y hy => h.objects y (hin.1 hy).1, kept := fun y hy => h.kept y (hin.1 hy).1 }
  · by_cases hxe : x.id = e.session
    · have hxz := h.session_unique hx hz (hxe.trans hzid)
      subst hxz
      rw [hxe] at hk ⊢
      have hlt : k < a.seq := by
        have := hfull hw
        omega
      obtain ⟨y, hy, hys, hyq⟩ := h.gapless x hx hw k (by rw [hxe, hfull hw]; omega)
      exact ⟨y, hin.2 ⟨hy, fun hh => by omega⟩, hys.trans hxe, hyq⟩
    · rw [hother x.id hxe] at hk
      obtain ⟨y, hy, hys, hyq⟩ := h.gapless x hx hw k hk
      exact ⟨y, hin.2 ⟨hy, fun hh => hxe (hys.symm.trans hh.1)⟩, hys, hyq⟩
  · obtain ⟨hy, hne⟩ := hin.1 hy
    obtain ⟨x, hx, hxs, hxo, hxq⟩ := h.opened y hy hop
    refine ⟨x, hr.keep x hx fun hxa => hne ?_, hxs, hxo, hxq⟩
    rw [hxa] at hxs hxq
    exact ⟨Option.some.inj (hxs.symm.trans hs), hxq.symm.trans hq.symm⟩
  · obtain ⟨x', hx', hs'⟩ := h.writers x hx hop
    by_cases hxa : x' = a
    · exact ⟨b, hr.new, hr.same.symm.trans (hxa ▸ hs')⟩
    · exact ⟨x', hr.keep x' hx' hxa, hs'⟩
  · rcases hr.back x hx with rfl | hx
    · exact ⟨z, hz, hr.same.symm.trans hzs, hzo⟩
    · exact h.session x hx
  · obtain ⟨hy, hne⟩ := hin.1 hy
    rcases hr.back x hx with rfl | hx
    · intro hxs
      have has := hr.same.trans hxs
      rcases h.numbers a hr.old y hy has with hlt | ⟨-, heq⟩
      · exact .inl (h1 ▸ hlt)
      · exact absurd ⟨Option.some.inj (has.symm.trans hs), heq.trans hq.symm⟩ hne
    · exact h.numbers x hx y hy
  · by_cases hxb : x = b
    · subst hxb
      rw [h3, if_neg Bool.false_ne_true, Nat.add_zero, ← h1]
      have hsz := h.session_unique hs' hz (Option.some.inj ((hr.same.trans hxs).symm.trans hzs))
      subst hsz
      have := hfull hw
      rw [← hzid]
      omega
    · have hne : s.id ≠ e.session := fun hh => hxb <|
        List.inj_on_of_nodup_map (hr.sessions ▸ h.alone) hx hr.new ((hxs.trans (congrArg some hh)).trans (hs.symm.trans hr.same))
      exact (hother s.id hne).trans (h.written x ((hr.back x hx).resolve_left hxb) s hs' hxs hw)

/-- A writer has no extent open any more, under the number it gives next. -/
theorem shutWriter (h : BookLaw ws pins c) {a b : Writer} (hr : Replaces ws ws' a b)
    (hab : b.isOpen = false ∧ a.seq ≤ b.seq) (hgave : ∀ e ∈ c.extents, a.session = some e.session → e.sequence < b.seq)
    (hopen : ∀ e ∈ c.extents, a.session = some e.session → e.isOpen = false)
    (hcount : ∀ x ∈ c.sessions, a.session = some x.id → x.origin = .written → c.count x.id = b.seq) : BookLaw ws' pins c := by
  obtain ⟨hb1, hb2⟩ := hab
  refine h.rewrite hr.sessions (fun e he hop => ?_) (fun x hx e he => ?_) fun x hx s hs hxs hw => ?_
  · obtain ⟨x, hx, hxs, hh⟩ := h.opened e he hop
    refine ⟨x, hr.keep x hx fun hxa => ?_, hxs, hh⟩
    rw [hopen e he (hxa ▸ hxs)] at hop
    cases hop
  · rcases hr.back x hx with rfl | hx
    · exact fun hs => .inl (hgave e he (hr.same.trans hs))
    · exact h.numbers x hx e he
  · rcases hr.back x hx with rfl | hx
    · rw [hb1, if_neg Bool.false_ne_true, Nat.add_zero]
      exact hcount s hs (hr.same.trans hxs) hw
    · exact h.written x hx s hs hxs hw

/-! ### Sessions made, ended and dropped -/

/-- A session record is made, neither OPEN nor of origin WRITTEN. -/
theorem insertSession (h : BookLaw ws pins c) {s : SessionRec} (hid : ∀ x ∈ c.sessions, x.id ≠ s.id) (hs : s.state ≠ .opened)
    (ho : s.origin ≠ .written) : BookLaw ws pins { c with sessions := insertBy SessionRec.id s c.sessions } := by
  have hmem : ∀ x, x ∈ insertBy SessionRec.id s c.sessions ↔ x = s ∨ x ∈ c.sessions := fun x =>
    (perm_insertBy _ s c.sessions).mem_iff.trans List.mem_cons
  have fwd : ∀ n, (∃ x ∈ c.sessions, x.id = n) → ∃ x ∈ insertBy SessionRec.id s c.sessions, x.id = n := by
    rintro n ⟨x, hx, rfl⟩
    exact ⟨x, (hmem x).2 (.inr hx), rfl⟩
  refine { byId := ?_, inOrder := h.inOrder, sessions := fun e he => fwd _ (h.sessions e he), pinned := fun n hn => fwd _ (h.pinned n hn),
           gapless := fun x hx hw => ?_, opened := h.opened, writers := fun x hx hop => ?_, alone := h.alone, session := fun a ha => ?_,
           numbers := h.numbers, written := fun a ha x hx hsess hw => ?_, objects := h.objects, kept := h.kept }
  · exact pairwise_insertById h.byId hid
  · rcases (hmem x).1 hx with rfl | hx
    · exact absurd hw ho
    · exact h.gapless x hx hw
  · rcases (hmem x).1 hx with rfl | hx
    · exact absurd hop hs
    · exact h.writers x hx hop
  · obtain ⟨x, hx, hh⟩ := h.session a ha
    exact ⟨x, (hmem x).2 (.inr hx), hh⟩
  · rcases (hmem x).1 hx with rfl | hx
    · exact absurd hw ho
    · exact h.written a ha x hx hsess hw

/-- A session is OPENED with the BACKUP that writes it (R129). -/
theorem openSession (h : BookLaw ws pins c) {s : SessionRec} {a : Writer} (hid : ∀ x ∈ c.sessions, x.id ≠ s.id)
    (ha : a.session = some s.id ∧ a.seq = 0 ∧ a.isOpen = false) (hs : s.state = .opened) :
    BookLaw (ws ++ [a]) pins { c with sessions := insertBy SessionRec.id s c.sessions } := by
  obtain ⟨h1, h2, h3⟩ := ha
  have hmem : ∀ x, x ∈ insertBy SessionRec.id s c.sessions ↔ x = s ∨ x ∈ c.sessions := fun x =>
    (perm_insertBy _ s c.sessions).mem_iff.trans List.mem_cons
  have fwd : ∀ n, (∃ x ∈ c.sessions, x.id = n) → ∃ x ∈ insertBy SessionRec.id s c.sessions, x.id = n := by
    rintro n ⟨x, hx, rfl⟩
    exact ⟨x, (hmem x).2 (.inr hx), rfl⟩
  have hno : ∀ e ∈ c.extents, e.session ≠ s.id := fun e he hh => by
    obtain ⟨x, hx, hxe⟩ := h.sessions e he
    exact hid x hx (hxe.trans hh)
  have hcount : c.count s.id = 0 := by
    rw [Catalog.count, List.length_eq_zero_iff, List.filter_eq_nil_iff]
    exact fun e he => by simpa using hno e he
  have hnot : ∀ b ∈ ws, b.session ≠ some s.id := fun b hb hh => by
    obtain ⟨x, hx, hxs, -⟩ := h.session b hb
    exact hid x hx (Option.some.inj (hxs.symm.trans hh))
  have hws : ∀ b ∈ ws ++ [a], b ∈ ws ∨ b = a := fun b hb => (List.mem_append.1 hb).imp_right List.mem_singleton.1
  refine { byId := pairwise_insertById h.byId hid, inOrder := h.inOrder, sessions := fun e he => fwd _ (h.sessions e he),
           pinned := fun n hn => fwd _ (h.pinned n hn), gapless := fun x hx hw k hk => ?_, opened := fun e he hop => ?_,
           writers := fun x hx hop => ?_, alone := ?_, session := fun b hb => ?_, numbers := fun b hb e he => ?_,
           written := fun b hb x hx hsess hw => ?_, objects := h.objects, kept := h.kept }
  · rcases (hmem x).1 hx with rfl | hx
    · exact absurd (hcount ▸ hk) (Nat.not_lt_zero k)
    · exact h.gapless x hx hw k hk
  · obtain ⟨b, hb, hh⟩ := h.opened e he hop
    exact ⟨b, List.mem_append_left _ hb, hh⟩
  · rcases (hmem x).1 hx with rfl | hx
    · exact ⟨a, List.mem_append_right _ (List.mem_singleton_self a), h1⟩
    · obtain ⟨b, hb, hh⟩ := h.writers x hx hop
      exact ⟨b, List.mem_append_left _ hb, hh⟩
  · rw [List.map_append, List.map_cons, List.map_nil]
    refine List.nodup_append.2 ⟨h.alone, List.nodup_singleton _, fun x hx y hy he => ?_⟩
    obtain ⟨b, hb, rfl⟩ := List.mem_map.1 hx
    exact hnot b hb (he.trans ((List.mem_singleton.1 hy).trans h1))
  · rcases hws b hb with hb | rfl
    · obtain ⟨x, hx, hh⟩ := h.session b hb
      exact ⟨x, (hmem x).2 (.inr hx), hh⟩
    · exact ⟨s, (hmem s).2 (.inl rfl), h1, hs⟩
  · rcases hws b hb with hb | rfl
    · exact h.numbers b hb e he
    · exact fun hsess => absurd (Option.some.inj (hsess.symm.trans h1)) (hno e he)
  · rcases hws b hb with hb | rfl
    · rcases (hmem x).1 hx with rfl | hx
      · exact absurd hsess (hnot b hb)
      · exact h.written b hb x hx hsess hw
    · rw [← Option.some.inj (h1.symm.trans hsess), h2, h3]
      exact hcount

/-- A session whose writer ends is OPEN no more (R142, R144). -/
theorem endSession (h : BookLaw ws pins c) {g : SessionRec → SessionRec} {a : Writer} (ha : a ∈ ws) (hws : ∀ b, b ∈ ws' ↔ b ∈ ws ∧ b ≠ a)
    (hsub : ws'.Sublist ws) (hclosed : a.isOpen = false)
    (hg : ∀ x ∈ c.sessions, (g x).id = x.id ∧ (g x).origin = x.origin ∧ (a.session = some x.id → (g x).state ≠ .opened) ∧
      (a.session ≠ some x.id → (g x).state = x.state)) :
    BookLaw ws' pins { c with sessions := c.sessions.map g } := by
  have fwd : ∀ n, (∃ x ∈ c.sessions, x.id = n) → ∃ x ∈ c.sessions.map g, x.id = n := by
    rintro n ⟨x, hx, rfl⟩
    exact ⟨g x, List.mem_map_of_mem hx, (hg x hx).1⟩
  have hmap : (c.sessions.map g).map SessionRec.id = c.sessions.map SessionRec.id := by
    rw [List.map_map]
    exact List.map_congr_left fun x hx => (hg x hx).1
  refine { byId := hmap ▸ h.byId, inOrder := h.inOrder, sessions := fun e he => fwd _ (h.sessions e he),
           pinned := fun n hn => fwd _ (h.pinned n hn), gapless := fun y hy hw k hk => ?_, opened := fun e he hop => ?_,
           writers := fun y hy hw => ?_, alone := h.alone.sublist (hsub.map _), session := fun b hb => ?_,
           numbers := fun b hb => h.numbers b ((hws b).1 hb).1, written := fun b hb y hy hsess hw => ?_, objects := h.objects, kept := h.kept }
  · obtain ⟨x, hx, rfl⟩ := List.mem_map.1 hy
    obtain ⟨h1, h2, -⟩ := hg x hx
    rw [h1] at hk ⊢
    exact h.gapless x hx (h2 ▸ hw) k hk
  · obtain ⟨b, hb, hs, ho, hq⟩ := h.opened e he hop
    refine ⟨b, (hws b).2 ⟨hb, fun hba => ?_⟩, hs, ho, hq⟩
    rw [hba, hclosed] at ho
    cases ho
  · obtain ⟨x, hx, rfl⟩ := List.mem_map.1 hy
    obtain ⟨h1, -, h3, h4⟩ := hg x hx
    have hne : a.session ≠ some x.id := fun hh => h3 hh hw
    obtain ⟨b, hb, hs⟩ := h.writers x hx ((h4 hne).symm.trans hw)
    exact ⟨b, (hws b).2 ⟨hb, fun hba => hne (hba ▸ hs)⟩, h1.symm ▸ hs⟩
  · obtain ⟨hb, hne⟩ := (hws b).1 hb
    obtain ⟨x, hx, hs, hop⟩ := h.session b hb
    obtain ⟨h1, -, -, h4⟩ := hg x hx
    exact ⟨g x, List.mem_map_of_mem hx, h1.symm ▸ hs, (h4 fun hh => hne (h.writer_unique hb ha (hs.trans hh.symm))).trans hop⟩
  · obtain ⟨x, hx, rfl⟩ := List.mem_map.1 hy
    obtain ⟨h1, h2, -⟩ := hg x hx
    rw [h1] at hsess ⊢
    exact h.written b ((hws b).1 hb).1 x hx hsess (h2 ▸ hw)

/-- A session that is neither OPEN nor pinned goes with its extents (R155). -/
theorem dropSession (h : BookLaw ws pins c) {id : Nat} (hs : ∀ x ∈ c.sessions, x.id = id → x.state ≠ .opened) (hp : id ∉ pins) :
    BookLaw ws pins { sessions := c.sessions.filter fun x => x.id ≠ id, extents := c.extents.filter fun e => e.session ≠ id } := by
  have hx : ∀ {x}, x ∈ c.sessions.filter (fun x => x.id ≠ id) ↔ x ∈ c.sessions ∧ x.id ≠ id := by simp
  have he : ∀ {e}, e ∈ c.extents.filter (fun e => e.session ≠ id) ↔ e ∈ c.extents ∧ e.session ≠ id := by simp
  have hcount : ∀ k, k ≠ id → Catalog.count { c with extents := c.extents.filter fun e => e.session ≠ id } k = c.count k := fun k hk =>
    count_filter_other fun e _ hse => by simpa [hse] using hk
  refine { byId := h.byId.sublist (List.filter_sublist.map _), inOrder := h.inOrder.sublist List.filter_sublist, sessions := fun e hm => ?_,
           pinned := fun n hn => ?_, gapless := fun x hm hw k hk => ?_, opened := fun e hm => h.opened e (he.1 hm).1,
           writers := fun x hm => h.writers x (hx.1 hm).1, alone := h.alone, session := fun a ha => ?_,
           numbers := fun a ha e hm => h.numbers a ha e (he.1 hm).1, written := fun a ha x hm hsess hw => ?_,
           objects := fun e hm => h.objects e (he.1 hm).1, kept := fun e hm => h.kept e (he.1 hm).1 }
  · obtain ⟨hm, hne⟩ := he.1 hm
    obtain ⟨x, hxm, hh⟩ := h.sessions e hm
    exact ⟨x, hx.2 ⟨hxm, hh ▸ hne⟩, hh⟩
  · obtain ⟨x, hxm, hh⟩ := h.pinned n hn
    exact ⟨x, hx.2 ⟨hxm, fun hh' => hp (hh'.symm.trans hh ▸ hn)⟩, hh⟩
  · obtain ⟨hm, hne⟩ := hx.1 hm
    obtain ⟨e, hem, hse, hq⟩ := h.gapless x hm hw k (lt_of_lt_of_eq hk (hcount x.id hne))
    exact ⟨e, he.2 ⟨hem, hse ▸ hne⟩, hse, hq⟩
  · obtain ⟨x, hxm, hsess, hop⟩ := h.session a ha
    exact ⟨x, hx.2 ⟨hxm, fun hh => hs x hxm hh hop⟩, hsess, hop⟩
  · obtain ⟨hm, hne⟩ := hx.1 hm
    exact (hcount x.id hne).trans (h.written a ha x hm hsess hw)

end BookLaw

end Sys2Proof.Machine

/-! PROOF. The law of the catalog with the bindings it leans on, as a property of the books. -/

namespace Sys2Proof.Machine

/-! ### Blank records fit the law as the records do -/

theorem exists_mem_map {α β : Type} {f : α → β} {l : List α} {p : β → Prop} : (∃ b ∈ l.map f, p b) ↔ ∃ a ∈ l, p (f a) := by
  simp [List.mem_map]

theorem bookLaw_plain {ws : List Writer} {pins : List Nat} {c : Catalog} : BookLaw ws pins c.plain ↔ BookLaw ws pins c := by
  have hcount : ∀ id, c.plain.count id = c.count id := fun id =>
    BookLaw.count_map (c := { c with sessions := c.sessions.map SessionRec.plain }) (g := ExtentRec.plain) (fun _ _ => rfl) id
  have hin : ∀ {p : ExtentRec → Prop}, (∀ e ∈ c.plain.extents, p e) ↔ ∀ e ∈ c.extents, p e.plain := List.forall_mem_map
  have hsn : ∀ {p : SessionRec → Prop}, (∀ x ∈ c.plain.sessions, p x) ↔ ∀ x ∈ c.sessions, p x.plain := List.forall_mem_map
  have hex : ∀ {p : ExtentRec → Prop}, (∃ e ∈ c.plain.extents, p e) ↔ ∃ e ∈ c.extents, p e.plain := exists_mem_map
  have hsx : ∀ {p : SessionRec → Prop}, (∃ x ∈ c.plain.sessions, p x) ↔ ∃ x ∈ c.sessions, p x.plain := exists_mem_map
  have hid : c.plain.sessions.map SessionRec.id = c.sessions.map SessionRec.id := List.map_map ..
  have hord : (c.plain.extents.Pairwise fun a b => extentBefore a b = true) ↔ c.extents.Pairwise fun a b => extentBefore a b = true :=
    List.pairwise_map
  constructor
  · rintro ⟨h1, h2, h3, h4, h5, h6, h7, h8, h9, h10, h11, h12, h13⟩
    simp only [hcount, hin, hsn, hex, hsx, hid, hord] at h1 h2 h3 h4 h5 h6 h7 h9 h10 h11 h12 h13
    exact ⟨h1, h2, h3, h4, h5, h6, h7, h8, h9, h10, h11, h12, h13⟩
  · rintro ⟨h1, h2, h3, h4, h5, h6, h7, h8, h9, h10, h11, h12, h13⟩
    refine ⟨?_, ?_, ?_, ?_, ?_, ?_, ?_, h8, ?_, ?_, ?_, ?_, ?_⟩ <;> simp only [hcount, hin, hsn, hex, hsx, hid, hord] <;> assumption

theorem Progress.plain_kind (p : Progress) : p.plain.kind = p.kind := by cases p <;> rfl

theorem Progress.plain_writes (p : Progress) : p.plain.writes = p.writes := by cases p <;> rfl

theorem Target.plain_pool {t : Target} {p : Nat} : t.plain = .pool p ↔ t = .pool p := by cases t <;> simp [Target.plain]

theorem Job.plain_role (j : Job) : j.plain.role = j.role :=
  congrArg (fun b => ({ j.role with writes := b } : Role)) (Progress.plain_writes j.progress)

theorem Job.plain_writer (j : Job) : j.plain.writer? = j.writer? := by
  cases hp : j.progress <;> simp [Job.writer?, Job.backup?, Job.plain, hp, Progress.plain]

theorem Job.truncEnds_plain (j : Job) : (∀ b x r, j.plain.progress = .backup b → b.truncEnd = some (x, r) → x.isFinished = true) ↔
    ∀ b x r, j.progress = .backup b → b.truncEnd = some (x, r) → x.isFinished = true := by
  cases hp : j.progress with
  | backup b =>
    constructor
    · rintro h _ x r ⟨rfl⟩ ht
      exact h _ x r (congrArg Progress.plain hp) ht
    · intro h c x r hc ht
      have hc' : Progress.plain j.progress = .backup c := hc
      rw [hp] at hc'
      obtain rfl := Progress.backup.inj hc'
      exact h b x r rfl ht
  | verify | restore | clean => simp [Job.plain, hp, Progress.plain]

theorem Job.orderly_plain (j : Job) : j.plain.Orderly ↔ j.Orderly := by
  have ht : (∃ p, j.plain.target = .pool p) ↔ ∃ p, j.target = .pool p := exists_congr fun p => Target.plain_pool
  constructor
  · rintro ⟨h1, h2, h3, h4, h5, h6, h7, h8, h9⟩
    exact ⟨(Progress.plain_kind _).symm.trans h1, ht.symm.trans h2, fun hk hw => h3 hk ((Progress.plain_writes _).trans hw), h4, h5, h6, h7,
      h8, j.truncEnds_plain.1 h9⟩
  · rintro ⟨h1, h2, h3, h4, h5, h6, h7, h8, h9⟩
    exact ⟨(Progress.plain_kind _).trans h1, ht.trans h2, fun hk hw => h3 hk ((Progress.plain_writes _).symm.trans hw), h4, h5, h6, h7, h8,
      j.truncEnds_plain.2 h9⟩

theorem bindings_plain {jobs : List Job} {streams : Drive → Stream} {claims : Pair (Option Nat)} :
    Bindings (jobs.map Job.plain) (fun d => (streams d).plain) claims ↔ Bindings jobs streams claims := by
  have hin : ∀ {p : Job → Prop}, (∀ j ∈ jobs.map Job.plain, p j) ↔ ∀ j ∈ jobs, p j.plain := List.forall_mem_map
  have hex : ∀ {p : Job → Prop}, (∃ j ∈ jobs.map Job.plain, p j) ↔ ∃ j ∈ jobs, p j.plain := exists_mem_map
  have hid : (jobs.map Job.plain).map Job.id = jobs.map Job.id := List.map_map ..
  have hlen : (jobs.map Job.plain).length = jobs.length := List.length_map ..
  constructor
  · rintro ⟨h1, h2, h3, h4, h5, h6, h7⟩
    simp only [hin, hex, hid, hlen, Job.orderly_plain] at h1 h2 h3 h4 h5 h6 h7
    exact ⟨h1, h2, h3, h4, h5, h6, h7⟩
  · rintro ⟨h1, h2, h3, h4, h5, h6, h7⟩
    refine ⟨?_, ?_, ?_, ?_, ?_, ?_, ?_⟩ <;> simp only [hin, hex, hid, hlen, Job.orderly_plain] <;> assumption

/-! ### The law of the books -/

/-- The law of the catalog with the bindings it leans on, beside the roles of the jobs, and some jobs that claim no drive but, if one
is given, this one. -/
structure Books.Kept (ρ : Roster) (L : List (Nat × Option Drive)) (b : Books) : Prop where
  roster : b.jobs.map Job.role = ρ
  free : ∀ j ∈ b.jobs, ∀ x, (j.id, x) ∈ L → j.drive = none ∨ j.drive = x
  bindings : Bindings b.jobs b.streams b.claims
  law : BookLaw (b.jobs.filterMap Job.writer?) (b.jobs.flatMap Job.pins) b.cg

/-- The same of a working state's own records. -/
structure W.Ordered (ρ : Roster) (L : List (Nat × Option Drive)) (w : W) : Prop where
  roster : w.js.jobs.map Job.role = ρ
  free : ∀ j ∈ w.js.jobs, ∀ x, (j.id, x) ∈ L → j.drive = none ∨ j.drive = x
  bindings : Bindings w.js.jobs w.streams.get w.js.claims
  law : BookLaw (w.js.jobs.filterMap Job.writer?) (w.js.jobs.flatMap Job.pins) w.cg

theorem Books.Kept.noDrive {ρ : Roster} {L : List (Nat × Option Drive)} {b : Books} (h : b.Kept ρ L) {j : Job} (hj : j ∈ b.jobs)
    (hL : (j.id, none) ∈ L) : j.drive = none := (h.free j hj none hL).elim id id

theorem W.Ordered.noDrive {ρ : Roster} {L : List (Nat × Option Drive)} {w : W} (h : w.Ordered ρ L) {j : Job} (hj : j ∈ w.js.jobs)
    (hL : (j.id, none) ∈ L) : j.drive = none := (h.free j hj none hL).elim id id

theorem W.kept_iff {ρ : Roster} {L : List (Nat × Option Drive)} {w : W} : w.books.Kept ρ L ↔ w.Ordered ρ L := by
  have hrole : (w.js.jobs.map Job.plain).map Job.role = w.js.jobs.map Job.role := by
    rw [List.map_map]
    exact List.map_congr_left fun j _ => j.plain_role
  have hws : (w.js.jobs.map Job.plain).filterMap Job.writer? = w.js.jobs.filterMap Job.writer? := by
    rw [List.filterMap_map]
    exact List.filterMap_congr fun j _ => j.plain_writer
  have hpins : (w.js.jobs.map Job.plain).flatMap Job.pins = w.js.jobs.flatMap Job.pins := by
    rw [List.flatMap_map]
    rfl
  have hfree : (∀ j ∈ w.js.jobs.map Job.plain, ∀ x, (j.id, x) ∈ L → j.drive = none ∨ j.drive = x) ↔
      ∀ j ∈ w.js.jobs, ∀ x, (j.id, x) ∈ L → j.drive = none ∨ j.drive = x :=
    List.forall_mem_map
  constructor
  · rintro ⟨h1, h2, h3, h4⟩
    exact ⟨hrole ▸ h1, hfree.1 h2, bindings_plain.1 h3, bookLaw_plain.1 (hpins ▸ hws ▸ h4)⟩
  · rintro ⟨h1, h2, h3, h4⟩
    exact ⟨hrole.trans h1, hfree.2 h2, bindings_plain.2 h3, bookLaw_plain.2 (hpins.symm ▸ hws.symm ▸ h4)⟩

end Sys2Proof.Machine

/-! PROOF. The law of the books through changes of one job and of one stream. -/

namespace Sys2Proof.Machine

/-! ### A job changed with its bindings kept -/

/-- A job becomes another with the same role, the same part in the catalog and the same bindings. -/
structure Job.Becomes (j k : Job) : Prop where
  role : k.role = j.role
  writer : k.writer? = j.writer?
  pins : k.pins ⊆ j.pins
  stream : k.stream = j.stream
  drive : k.drive = j.drive
  orderly : j.Orderly → k.Orderly

theorem Job.Becomes.id {j k : Job} (h : j.Becomes k) : k.id = j.id := congrArg Role.id h.role

theorem Job.Becomes.kind {j k : Job} (h : j.Becomes k) : k.kind = j.kind := congrArg Role.kind h.role

theorem alter_filterMap {α : Type} (n : Nat) (f : Job → Job) (l : List Job) (g : Job → Option α)
    (h : ∀ j ∈ l, j.id = n → g (f j) = g j) : (alter n f l).filterMap g = l.filterMap g := by
  rw [alter, List.filterMap_map]
  refine List.filterMap_congr fun j hj => ?_
  rw [Function.comp_apply]
  split
  next hn => exact h j hj hn
  next => rfl

theorem alter_pins {n : Nat} {f : Job → Job} {l : List Job} (h : ∀ j ∈ l, j.id = n → (f j).pins ⊆ j.pins) {m : Nat}
    (hm : m ∈ (alter n f l).flatMap Job.pins) : m ∈ l.flatMap Job.pins := by
  obtain ⟨k, hk, hmk⟩ := List.mem_flatMap.1 hm
  rcases mem_alter hk with ⟨j, hj, hn, rfl⟩ | ⟨hj, -⟩
  · exact List.mem_flatMap.2 ⟨j, hj, h j hj hn hmk⟩
  · exact List.mem_flatMap.2 ⟨k, hj, hmk⟩

theorem W.Ordered.modJob {ρ : Roster} {L : List (Nat × Option Drive)} {w : W} {n : Nat} {f : Job → Job} (h : w.Ordered ρ L)
    (hf : ∀ j ∈ w.js.jobs, j.id = n → j.Becomes (f j)) : (w.modJob n f).Ordered ρ L where
  roster := (alter_map n f _ _ fun j hj hn => (hf j hj hn).role).trans h.roster
  free k hk x hL := by
    rcases mem_alter hk with ⟨j, hj, hn, rfl⟩ | ⟨hj, -⟩
    · rw [(hf j hj hn).drive]
      exact h.free j hj x ((hf j hj hn).id ▸ hL)
    · exact h.free k hj x hL
  bindings := h.bindings.alter fun j hj hn =>
    have hb := hf j hj hn
    ⟨hb.id, hb.kind, hb.stream, hb.drive, hb.orderly⟩
  law := by
    have hw : (W.modJob w n f).js.jobs.filterMap Job.writer? = w.js.jobs.filterMap Job.writer? :=
      alter_filterMap n f _ _ fun j hj hn => (hf j hj hn).writer
    rw [hw]
    exact h.law.withPins fun m hm => .inl (alter_pins (fun j hj hn => (hf j hj hn).pins) hm)

/-! ### What the law tells of a job -/

section
variable {ρ : Roster} {L : List (Nat × Option Drive)} {w : W} {n : Nat}

theorem W.job_mem {j : Job} (hj : w.job n = some j) : j ∈ w.js.jobs := List.mem_of_find?_eq_some hj

theorem Books.Kept.ordered (hB : w.books.Kept ρ L) : w.Ordered ρ L := W.kept_iff.1 hB

theorem W.Ordered.kept (h : w.Ordered ρ L) : w.books.Kept ρ L := W.kept_iff.2 h

/-- A job found by its id is the only one that bears it. -/
theorem Books.Kept.job_eq (hB : w.books.Kept ρ L) {j k : Job} (hj : w.job n = some j) (hk : k ∈ w.js.jobs) (hn : k.id = n) : k = j :=
  eq_of_ids hB.ordered.bindings.ids hk (W.job_mem hj) (hn.trans (W.job_id hj).symm)

theorem Books.Kept.job_of_mem (hB : w.books.Kept ρ L) {j : Job} (hj : j ∈ w.js.jobs) : w.job j.id = some j := by
  cases h : w.job j.id with
  | none =>
    have := List.find?_eq_none.1 h j hj
    simp at this
  | some _ => rw [hB.job_eq h hj rfl]

theorem Books.Kept.orderly (hB : w.books.Kept ρ L) {j : Job} (hj : w.job n = some j) : j.Orderly :=
  hB.ordered.bindings.each j (W.job_mem hj)

/-- What is said of the roles under an id is said of the job that bears it. -/
theorem Books.Kept.roles_iff (hB : w.books.Kept ρ L) {p : Role → Prop} :
    (∀ r ∈ ρ, r.id = n → p r) ↔ ∀ j ∈ w.js.jobs, j.id = n → p j.role := by
  rw [← hB.ordered.roster]
  exact List.forall_mem_map

theorem Books.Kept.roles (hB : w.books.Kept ρ L) {j : Job} (hj : w.job n = some j) {p : Role → Prop} (hp : p j.role) :
    ∀ r ∈ ρ, r.id = n → p r :=
  hB.roles_iff.2 fun _ hk hn => hB.job_eq hj hk hn ▸ hp

theorem Books.Kept.reader (hB : w.books.Kept ρ L) {j : Job} (hj : w.job n = some j) (hk : j.kind ≠ .backup) : ρ.reader n :=
  hB.roles hj hk

theorem Books.Kept.live (hB : w.books.Kept ρ L) {j : Job} (hj : w.job n = some j) (hf : j.state.isFinished = false) : ρ.live n :=
  hB.roles hj (p := fun r => r.kind = .backup → r.ended = false) fun _ => by simp [Job.role, hf]

theorem Books.Kept.shut (hB : w.books.Kept ρ L) {j : Job} (hj : w.job n = some j)
    (hs : j.mountStep ≠ none ∨ j.state = .queued ∨ j.state = .waiting ∨ j.state = .mounting) : ρ.shut n :=
  hB.roles hj (p := fun r => r.kind = .backup → r.writes = false) fun hk => by
    refine Bool.eq_false_iff.2 fun hw => ?_
    obtain ⟨h1, h2, h3, h4⟩ := (hB.orderly hj).mounting hk hw
    rcases hs with hs | hs | hs | hs
    · exact hs h1
    · exact h2 hs
    · exact h3 hs
    · exact h4 hs

theorem Books.Kept.not_backup (hB : w.books.Kept ρ L) {j : Job} (hj : w.job n = some j) (hr : ρ.reader n) : j.kind ≠ .backup :=
  (hB.roles_iff (p := fun r => r.kind ≠ .backup)).1 hr j (W.job_mem hj) (W.job_id hj)

theorem Books.Kept.unfinished (hB : w.books.Kept ρ L) {j : Job} (hj : w.job n = some j) (hl : ρ.live n) (hk : j.kind = .backup) :
    j.state.isFinished = false := by
  have h := (hB.roles_iff (p := fun r => r.kind = .backup → r.ended = false)).1 hl j (W.job_mem hj) (W.job_id hj) hk
  simpa [Job.role, hk] using h

theorem Books.Kept.unopened (hB : w.books.Kept ρ L) {j : Job} (hj : w.job n = some j) (hs : ρ.shut n) (hk : j.kind = .backup) :
    j.progress.writes = false :=
  (hB.roles_iff (p := fun r => r.kind = .backup → r.writes = false)).1 hs j (W.job_mem hj) (W.job_id hj) hk

/-- A job of the kinds that are no BACKUP, by its progress. -/
theorem Books.Kept.reader_of_progress (hB : w.books.Kept ρ L) {j : Job} (hj : w.job n = some j) (hp : j.progress.kind ≠ .backup) :
    ρ.reader n :=
  hB.reader hj ((hB.orderly hj).progress ▸ hp)

theorem Books.Kept.weaken (hB : w.books.Kept ρ L) {K : List (Nat × Option Drive)} (h : K ⊆ L) : w.books.Kept ρ K :=
  { hB with free := fun j hj x hK => hB.free j hj x (h hK) }

end

end Sys2Proof.Machine

/-! PROOF. The law of the books through the operations on one job: its mount step, its state, its claims, its end (R71, R73). -/

namespace Sys2Proof.Machine

section
variable {ρ : Roster} {L : List (Nat × Option Drive)} {w : W}

/-! ### Mount step, ticket and cartridge -/

/-- A job changes its mount step, its ticket or its cartridge: a BACKUP takes a mount step with no extent open, and a ticket or a
cartridge while it has not finished. -/
theorem Job.becomes_steps {j k : Job} {m : Option MountStep} {t c : Option Nat}
    (h : k.plain = { j.plain with mountStep := m, ticket := t, cartridge := c })
    (hm : m = none ∨ m = j.mountStep ∨ (j.kind = .backup → j.progress.writes = false))
    (ht : t = none ∨ t = j.ticket ∨ (j.kind = .backup → j.state.isFinished = false))
    (hc : c = none ∨ c = j.cartridge ∨ (j.kind = .backup → j.state.isFinished = false)) : j.Becomes k where
  role := (k.plain_role).symm.trans ((congrArg Job.role h).trans j.plain_role)
  writer := (k.plain_writer).symm.trans ((congrArg Job.writer? h).trans j.plain_writer)
  pins := by
    have hp := congrArg Job.pins h
    exact fun _ hm => hp ▸ hm
  stream := by have hs := congrArg Job.stream h; exact hs
  drive := by have hd := congrArg Job.drive h; exact hd
  orderly ho := by
    have hj := j.orderly_plain.2 ho
    refine k.orderly_plain.1 (h ▸ ⟨hj.progress, hj.target, fun hk hw => ?_, hj.held, hj.bound, hj.waits, hj.finished, fun hk hf => ⟨?_, ?_⟩,
      hj.truncEnds⟩)
    · obtain ⟨h1, h2⟩ := hj.mounting hk hw
      refine ⟨?_, h2⟩
      rcases hm with hm | hm | hm
      · exact hm
      · exact hm.trans h1
      · rw [Progress.plain_writes j.progress |>.symm] at hm
        cases (hm hk).symm.trans hw
    · rcases ht with ht | ht | ht
      · exact ht
      · exact ht.trans (hj.ended hk hf).1
      · cases (ht hk).symm.trans hf
    · rcases hc with hc | hc | hc
      · exact hc
      · exact hc.trans (hj.ended hk hf).2
      · cases (hc hk).symm.trans hf

/-- See `Job.becomes_steps`: of the job an id names. -/
theorem W.steps_kept {n : Nat} {f : Job → Job} {m : Job → Option MountStep} {t c : Job → Option Nat} (hB : w.books.Kept ρ L)
    (h : ∀ j, (f j).plain = { j.plain with mountStep := m j, ticket := t j, cartridge := c j })
    (hm : (∀ j, m j = none ∨ m j = j.mountStep) ∨ ρ.shut n) (ht : (∀ j, t j = none ∨ t j = j.ticket) ∨ ρ.live n)
    (hc : (∀ j, c j = none ∨ c j = j.cartridge) ∨ ρ.live n) : (w.modJob n f).books.Kept ρ L := by
  refine (hB.ordered.modJob fun j hj hn => ?_).kept
  have hjob : w.job n = some j := hn ▸ hB.job_of_mem hj
  refine Job.becomes_steps (h j) ?_ ?_ ?_
  · rcases hm with hm | hm
    · exact (hm j).imp_right .inl
    · exact .inr (.inr (hB.unopened hjob hm))
  · rcases ht with ht | ht
    · exact (ht j).imp_right .inl
    · exact .inr (.inr (hB.unfinished hjob ht))
  · rcases hc with hc | hc
    · exact (hc j).imp_right .inl
    · exact .inr (.inr (hB.unfinished hjob hc))

/-- A mount step is left, with or without the ticket of its move. -/
theorem W.dropStep_kept {n : Nat} {f : Job → Job} (hB : w.books.Kept ρ L)
    (h : ∀ j, (f j).plain = { j.plain with mountStep := none } ∨ (f j).plain = { j.plain with mountStep := none, ticket := none }) :
    (w.modJob n f).books.Kept ρ L := by
  refine (hB.ordered.modJob fun j _ _ => ?_).kept
  rcases h j with h | h
  · exact Job.becomes_steps (m := none) (t := j.ticket) (c := j.cartridge) h (.inl rfl) (.inr (.inl rfl)) (.inr (.inl rfl))
  · exact Job.becomes_steps (m := none) (t := none) (c := j.cartridge) h (.inl rfl) (.inl rfl) (.inr (.inl rfl))

/-- A ticket is given back. -/
theorem W.dropTicket_kept {n : Nat} {f : Job → Job} (hB : w.books.Kept ρ L)
    (h : ∀ j, (f j).plain = { j.plain with ticket := none } ∨ (f j).plain = j.plain) : (w.modJob n f).books.Kept ρ L := by
  refine (hB.ordered.modJob fun j _ _ => ?_).kept
  rcases h j with h | h
  · exact Job.becomes_steps (m := j.mountStep) (t := none) (c := j.cartridge) h (.inr (.inl rfl)) (.inl rfl) (.inr (.inl rfl))
  · exact Job.becomes_steps (m := j.mountStep) (t := j.ticket) (c := j.cartridge) h (.inr (.inl rfl)) (.inr (.inl rfl)) (.inr (.inl rfl))

@[simp] theorem W.atStep_kept (w : W) (n : Nat) (s : MountStep) (hB : w.books.Kept ρ L) (hs : ρ.shut n) : (w.atStep n s).books.Kept ρ L :=
  W.steps_kept (m := fun _ => some s) (t := Job.ticket) (c := Job.cartridge) hB (fun _ => rfl) (.inr hs) (.inl fun _ => .inr rfl)
    (.inl fun _ => .inr rfl)

@[simp] theorem W.issueJobMove_kept (w : W) (n : Nat) (source : Element) (asked : Dest) (i : Option Nat) (s : MountStep)
    (hB : w.books.Kept ρ L) (hs : ρ.shut n) (hl : ρ.live n) : (w.issueJobMove n source asked i s).books.Kept ρ L := by
  have hm : (w.issueMove (.job n) source asked i).1.books.Kept ρ L := by rwa [W.issueMove_books]
  exact W.steps_kept (m := fun _ => some s) (t := fun _ => some (w.issueMove (.job n) source asked i).2) (c := Job.cartridge) hm
    (fun _ => rfl) (.inr hs) (.inr hl) (.inl fun _ => .inr rfl)

@[simp] theorem W.claimCart_kept (w : W) (n i : Nat) (hB : w.books.Kept ρ L) (hl : ρ.live n) : (w.claimCart n i).books.Kept ρ L := by
  have h : ((w.putCartClaim i (some n)).modJob n fun j => { j with cartridge := some i }).books.Kept ρ L :=
    W.steps_kept (m := Job.mountStep) (t := Job.ticket) (c := fun _ => some i) (by rwa [W.putCartClaim_books]) (fun _ => rfl)
      (.inl fun _ => .inr rfl) (.inl fun _ => .inr rfl) (.inr hl)
  unfold W.claimCart
  dsimp only
  split <;> simp [h]

@[simp] theorem W.releaseCart_kept (w : W) (n : Nat) (hB : w.books.Kept ρ L) : (w.releaseCart n).books.Kept ρ L := by
  unfold W.releaseCart
  split
  · exact hB
  next i _ =>
    have h : ((if w.claimOf i = some n then w.putCartClaim i none else w).modJob n fun j => { j with cartridge := none }).books.Kept ρ L :=
      W.steps_kept (m := Job.mountStep) (t := Job.ticket) (c := fun _ => none) (by simpa using hB) (fun _ => rfl)
        (.inl fun _ => .inr rfl) (.inl fun _ => .inr rfl) (.inl fun _ => .inl rfl)
    dsimp only
    split <;> simp [h]

/-! ### States (R71) -/

/-- The states a job may be set to, by what is known of it: not a finished one, QUEUED, WAITING or MOUNTING only of a BACKUP with no
extent open, HELD of a reader, and what dispatch considers only of a job that claims no drive. -/
structure Roster.Takes (ρ : Roster) (L : List (Nat × Option Drive)) (n : Nat) (s : JobState) (why : Option WaitReason) : Prop where
  unfinished : s.isFinished = false
  live : ρ.live n
  shut : s = .queued ∨ s = .waiting ∨ s = .mounting → ρ.shut n
  held : s = .held → ρ.reader n
  free : s = .queued ∨ (s = .waiting ∧ why ≠ some .catalog) → (n, none) ∈ L

theorem W.setJob_eq {w : W} {n : Nat} {s : JobState} {why : Option WaitReason} : w.setJob n s why = w ∨ ∃ was, w.setJob n s why =
    (w.modJob n fun k => { k with state := s, waitReason := why, mediaAsked := k.mediaAsked && decide (why = some .media) }).jobNotice n was := by
  unfold W.setJob
  split
  · exact .inl rfl
  · split
    · exact .inl rfl
    · exact .inr ⟨_, rfl⟩

theorem Job.writer_of_unfinished {j k : Job} (hp : k.progress = j.progress) (hs : k.sessionId = j.sessionId)
    (hf : k.backup? ≠ none → k.state.isFinished = j.state.isFinished) : k.writer? = j.writer? := by
  have hb : k.backup? = j.backup? := by
    unfold Job.backup?
    rw [hp]
  unfold Job.writer?
  rw [← hb]
  cases h : k.backup? with
  | none => rfl
  | some b => rw [Option.bind_some, Option.bind_some, hf (by rw [h]; nofun), hs]

theorem Job.backup_kind {j : Job} (h : j.backup? ≠ none) : j.progress.kind = .backup := by
  unfold Job.backup? at h
  split at h
  next hp => rw [hp]; rfl
  all_goals exact absurd rfl h

@[simp] theorem W.setJob_kept (w : W) (n : Nat) (s : JobState) (why : Option WaitReason) (hB : w.books.Kept ρ L)
    (h : ρ.Takes L n s why) : (w.setJob n s why).books.Kept ρ L := by
  rcases W.setJob_eq (w := w) (n := n) (s := s) (why := why) with he | ⟨was, he⟩
  · rwa [he]
  rw [he, W.jobNotice_books]
  refine (hB.ordered.modJob fun j hj hn => ?_).kept
  have hjob : w.job n = some j := hn ▸ hB.job_of_mem hj
  have ho := hB.orderly hjob
  have hend : j.kind = .backup → s.isFinished = j.state.isFinished := fun hk => by
    rw [h.unfinished, hB.unfinished hjob h.live hk]
  refine ⟨?_, ?_, fun _ hm => hm, rfl, rfl, fun _ => ?_⟩
  · by_cases hk : j.kind = .backup <;> simp [Job.role, hk, hend]
  · exact Job.writer_of_unfinished rfl rfl fun hb => hend (ho.progress ▸ Job.backup_kind hb)
  · refine ⟨ho.progress, ho.target, fun hk hw => ⟨(ho.mounting hk hw).1, ?_⟩, fun hk hs => hB.not_backup hjob (h.held hs) hk, ho.bound,
      fun hw => hB.ordered.noDrive (j := j) hj (hn ▸ h.free hw), fun hf => ?_, fun _ hf => ?_, ho.truncEnds⟩
    · have hno : ¬(s = .queued ∨ s = .waiting ∨ s = .mounting) := fun hs => by
        cases (hB.unopened hjob (h.shut hs) hk).symm.trans hw
      exact ⟨fun hs => hno (.inl hs), fun hs => hno (.inr (.inl hs)), fun hs => hno (.inr (.inr hs))⟩
    · cases h.unfinished.symm.trans hf
    · cases h.unfinished.symm.trans hf

/-- RUNNING and SPANNING ask no more than that a BACKUP has not finished. -/
theorem Roster.takes_active {s : JobState} {n : Nat} {why : Option WaitReason} (hs : s = .running ∨ s = .spanning) (hl : ρ.live n) :
    ρ.Takes L n s why := by
  rcases hs with rfl | rfl <;> exact ⟨rfl, hl, by simp, nofun, by simp⟩

theorem Roster.takes_waiting {n : Nat} {why : Option WaitReason} (hl : ρ.live n) (hs : ρ.shut n) (hL : (n, none) ∈ L) :
    ρ.Takes L n .waiting why := ⟨rfl, hl, fun _ => hs, nofun, fun _ => hL⟩

theorem Roster.takes_queued {n : Nat} {why : Option WaitReason} (hr : ρ.reader n) (hL : (n, none) ∈ L) : ρ.Takes L n .queued why :=
  ⟨rfl, hr.live, fun _ => hr.shut, nofun, fun _ => hL⟩

@[simp] theorem W.waitFor_kept (w : W) (n : Nat) (r : WaitReason) (hB : w.books.Kept ρ L) (hl : ρ.live n) (hs : ρ.shut n)
    (hL : (n, none) ∈ L) : (w.waitFor n r).books.Kept ρ L := W.setJob_kept _ _ _ _ hB (Roster.takes_waiting hl hs hL)

@[simp] theorem W.waitMedia_kept (w : W) (n : Nat) (wanted : MediaWanted) (hB : w.books.Kept ρ L) (hl : ρ.live n) (hs : ρ.shut n)
    (hL : (n, none) ∈ L) : (w.waitMedia n wanted).books.Kept ρ L := by
  have h := W.waitFor_kept w n .media hB hl hs hL
  unfold W.waitMedia
  dsimp only
  split
  · split
    · exact h
    · rw [W.note_books, W.modJob_books _ _ _ fun _ => by rfl]
      exact h
  · exact h

end

end Sys2Proof.Machine

/-! PROOF. The law of the books through the release of claims and bindings, the end of a job other than a BACKUP, and the changes of
streams (R71, R73, R121). -/

namespace Sys2Proof.Machine

section
variable {ρ : Roster} {L : List (Nat × Option Drive)} {w : W} {n : Nat}

/-! ### Claims and bindings released -/

theorem alter_id {f : Job → Job} {l : List Job} (h : ∀ j ∈ l, j.id = n → f j = j) : alter n f l = l := by
  refine (List.map_congr_left fun j hj => ?_).trans (List.map_id l)
  split
  next hn => exact h j hj hn
  next => rfl

theorem alter_alter {f g : Job → Job} {l : List Job} (hf : ∀ j, (f j).id = j.id) : alter n g (alter n f l) = alter n (fun j => g (f j)) l := by
  rw [alter, alter, List.map_map]
  refine List.map_congr_left fun j _ => ?_
  rw [Function.comp_apply]
  by_cases hn : j.id = n
  · rw [if_pos hn, if_pos hn, if_pos ((hf j).trans hn)]
  · rw [if_neg hn, if_neg hn, if_neg hn]

theorem W.jobs_of_none (h : w.job n = none) {j : Job} (hj : j ∈ w.js.jobs) : j.id ≠ n := fun hn => by
  have := List.find?_eq_none.1 h j hj
  simp [hn] at this

/-- What releasing a stream leaves: the job without it, and the stream bare. -/
theorem W.Ordered.unbind (h : w.Ordered ρ L) {j : Job} (hj : w.job n = some j) :
    (w.unbind n).js.jobs = alter n (fun k => { k with stream := none }) w.js.jobs ∧ (w.unbind n).cg = w.cg ∧
      (w.unbind n).js.claims = w.js.claims ∧ ∀ e, (w.unbind n).streams.get e = w.streams.get e ∧ j.stream ≠ some e ∨
        ((w.unbind n).streams.get e).job = none ∧ ((w.unbind n).streams.get e).Quiet ∧ j.stream = some e := by
  cases hs : j.stream with
  | none =>
    rw [W.unbind, hj, Option.bind_some, hs]
    refine ⟨(alter_id fun k hk hn => ?_).symm, rfl, rfl, fun e => .inl ⟨rfl, nofun⟩⟩
    rw [h.kept.job_eq hj hk hn, ← hs]
  | some d =>
    have hb : (w.stream d).job = some n := (h.bindings.binds j (W.job_mem hj) d hs).trans (congrArg some (W.job_id hj))
    rw [W.unbind, hj, Option.bind_some, hs]
    dsimp only
    rw [if_pos hb]
    refine ⟨rfl, rfl, rfl, fun e => ?_⟩
    by_cases he : e = d
    · refine .inr ?_
      rw [he]
      have hbare : ((w.modStream d W.bareStream).modJob n fun k => { k with stream := none }).streams.get d =
          W.bareStream (w.stream d) := Pair.get_put_same ..
      rw [hbare]
      exact ⟨rfl, ⟨rfl, rfl, rfl⟩, rfl⟩
    · exact .inl ⟨Pair.get_put_other _ _ he, fun hh => he (Option.some.inj hh).symm⟩

/-- The law of the books where a job lets go of its drive, and of its stream perhaps. -/
theorem W.Ordered.letGo (h : w.Ordered ρ L) {v : W} {f : Job → Job} {j : Job} (hj : w.job n = some j)
    (hjobs : v.js.jobs = alter n f w.js.jobs) (hcg : v.cg = w.cg)
    (hf : (f j).role = j.role ∧ (f j).writer? = j.writer? ∧ (f j).pins ⊆ j.pins ∧ (f j).drive = none ∧ (f j).Orderly ∧
      ((f j).stream = j.stream ∨ (f j).stream = none))
    (hs : ∀ d, v.streams.get d = w.streams.get d ∧ ((f j).stream = j.stream ∨ j.stream ≠ some d) ∨
      (v.streams.get d).job = none ∧ (v.streams.get d).Quiet ∧ j.stream = some d ∧ (f j).stream = none)
    (hc : ∀ d m, v.js.claims.get d = some m → m ≠ n ∧ w.js.claims.get d = some m) : v.Ordered ρ ((n, none) :: L) := by
  obtain ⟨h1, h2, h3, h4, h5, h6⟩ := hf
  have hone : ∀ k ∈ w.js.jobs, k.id = n → k = j := fun k hk hn => h.kept.job_eq hj hk hn
  refine ⟨?_, fun k hk x hL => ?_, ?_, ?_⟩
  · rw [hjobs, alter_map n f _ _ fun k hk hn => by rw [hone k hk hn, h1]]
    exact h.roster
  · rw [hjobs] at hk
    rcases mem_alter hk with ⟨i, hi, hn, rfl⟩ | ⟨hi, hn⟩
    · rw [hone i hi hn, h4]
      exact .inl rfl
    · exact h.free k hi x ((List.mem_cons.1 hL).resolve_left fun he => hn (Prod.mk.inj he).1)
  · rw [hjobs]
    refine h.bindings.letGo (fun k hk hn => ?_) (fun d => ?_) hc
    · rw [hone k hk hn]
      refine ⟨congrArg Role.id h1, congrArg Role.kind h1, fun _ => h5, fun d hd => ?_⟩
      have hst : j.stream = some d := by
        rcases h6 with h6 | h6
        · exact h6 ▸ hd
        · cases h6.symm.trans hd
      refine ⟨hst, ?_⟩
      rcases hs d with ⟨he, -⟩ | ⟨-, -, -, hnone⟩
      · exact he
      · cases hnone.symm.trans hd
    · rcases hs d with ⟨he, hk⟩ | ⟨h7, h8, h9, -⟩
      · refine .inl ⟨he, fun k hk' hn hst => ?_⟩
        rw [hone k hk' hn] at hst ⊢
        rcases hk with hk | hk
        · exact hk.trans hst
        · exact absurd hst hk
      · exact .inr ⟨h7, h8, .inl ((h.bindings.binds j (W.job_mem hj) d h9).trans (congrArg some (W.job_id hj)))⟩
  · rw [hjobs, hcg, alter_filterMap n f _ _ fun k hk hn => by rw [hone k hk hn, h2]]
    exact h.law.withPins fun m hm => .inl (alter_pins (fun k hk hn => by rw [hone k hk hn]; exact h3) hm)

theorem W.claims_after {c : Pair (Option Nat)} (h : w.Ordered ρ L) {j : Job} {d : Drive} (hj : w.job n = some j) (hd : j.drive = some d)
    (hcd : c = if w.js.claims.get d = some n then w.js.claims.put d none else w.js.claims) (e : Drive) (m : Nat)
    (hm : c.get e = some m) : m ≠ n ∧ w.js.claims.get e = some m := by
  have hold : w.js.claims.get e = some m ∧ (e = d → m ≠ n) := by
    rw [hcd] at hm
    split at hm
    next hn =>
      by_cases he : e = d
      · rw [he, Pair.get_put_same] at hm
        cases hm
      · exact ⟨by rwa [Pair.get_put_other _ _ he] at hm, fun hh => absurd hh he⟩
    next hn => exact ⟨hm, fun he hmn => hn (by rw [← he, hm, hmn])⟩
  refine ⟨fun hmn => ?_, hold.1⟩
  obtain ⟨k, hk, hid, hdr⟩ := h.bindings.claimed e m hold.1
  rw [h.kept.job_eq hj hk (hid.trans hmn), hd] at hdr
  exact hold.2 (Option.some.inj hdr).symm hmn

theorem Job.Orderly.letGo {j : Job} (h : j.Orderly) : ({ j with drive := none, stream := none } : Job).Orderly :=
  ⟨h.progress, h.target, h.mounting, h.held, fun _ => rfl, fun _ => rfl, fun _ => ⟨rfl, rfl⟩, h.ended, h.truncEnds⟩

theorem Job.Orderly.noDrive {j : Job} (h : j.Orderly) (hk : ¬(j.kind = .verify ∨ j.kind = .restore)) :
    ({ j with drive := none } : Job).Orderly :=
  ⟨h.progress, h.target, h.mounting, h.held, fun hr => absurd hr hk, fun _ => rfl, fun hf => ⟨rfl, (h.finished hf).2⟩, h.ended, h.truncEnds⟩

theorem Books.Kept.free_of (hB : w.books.Kept ρ L) (h : ∀ j, w.job n = some j → j.drive = none) : w.books.Kept ρ ((n, none) :: L) := by
  have ho := hB.ordered
  refine W.Ordered.kept { ho with free := fun j hj x hL => ?_ }
  rcases List.mem_cons.1 hL with hn | hL
  · exact .inl (h j ((Prod.mk.inj hn).1 ▸ hB.job_of_mem hj))
  · exact ho.free j hj x hL

theorem W.releaseDrive_kept (hB : w.books.Kept ρ L) : (w.releaseDrive n).books.Kept ρ ((n, none) :: L) := by
  unfold W.releaseDrive
  split
  next hj => exact hB.free_of fun j hj' => by cases hj.symm.trans hj'
  next j hj =>
    split
    next hd => exact hB.free_of fun k hk => Option.some.inj (hj.symm.trans hk) ▸ hd
    next d hd =>
      have ho := hB.ordered
      dsimp only
      rw [W.emit_books, W.wantDispatch_books]
      refine W.Ordered.kept ?_
      by_cases hr : j.kind = .verify ∨ j.kind = .restore
      · rw [if_pos hr]
        obtain ⟨hu1, hu2, hu3, hu4⟩ := ho.unbind hj
        refine ho.letGo (f := fun k => { k with drive := none, stream := none }) hj ?_ ?_
          ⟨rfl, rfl, fun _ hm => hm, rfl, (hB.orderly hj).letGo, .inr rfl⟩ (fun e => ?_) (fun e m hm => ?_)
        · have hjs : ∀ v : W, (if v.driveClaim d = some n then v.putDriveClaim d none else v).js.jobs = v.js.jobs := fun v => by
            split <;> rfl
          refine (congrArg (alter n fun k => { k with drive := none }) ((hjs _).trans hu1)).trans ?_
          exact alter_alter fun _ => rfl
        · split <;> exact hu2
        · have hst : ∀ v : W, (if v.driveClaim d = some n then v.putDriveClaim d none else v).streams = v.streams := fun v => by
            split <;> rfl
          have hget : (((if (w.unbind n).driveClaim d = some n then (w.unbind n).putDriveClaim d none else w.unbind n).modJob n
              fun k => { k with drive := none })).streams.get e = (w.unbind n).streams.get e := by
            rw [W.modJob_streams, hst]
          rw [hget]
          exact (hu4 e).imp (fun ⟨h1, h2⟩ => ⟨h1, .inr h2⟩) fun ⟨h1, h2, h3⟩ => ⟨h1, h2, h3, rfl⟩
        · refine W.claims_after ho hj hd ?_ e m hm
          rw [W.driveClaim, hu3]
          split
          · show (w.unbind n).js.claims.put d none = _
            rw [hu3]
          · exact hu3
      · rw [if_neg hr]
        refine ho.letGo (f := fun k => { k with drive := none }) hj ?_ ?_
          ⟨rfl, rfl, fun _ hm => hm, rfl, (hB.orderly hj).noDrive hr, .inl rfl⟩ (fun e => .inl ⟨?_, .inl rfl⟩) (fun e m hm => ?_)
        · split <;> rfl
        · split <;> rfl
        · split <;> rfl
        · refine W.claims_after ho hj hd ?_ e m hm
          unfold W.driveClaim
          split <;> rfl

theorem W.releaseBoth_free (hB : w.books.Kept ρ L) : (w.releaseBoth n).books.Kept ρ ((n, none) :: L) :=
  W.releaseDrive_kept (W.releaseCart_kept w n hB)

@[simp] theorem W.releaseBoth_kept (w : W) (n : Nat) (hB : w.books.Kept ρ L) : (w.releaseBoth n).books.Kept ρ L :=
  (W.releaseBoth_free hB).weaken (List.subset_cons_self (n, none) L)

end

end Sys2Proof.Machine

/-! PROOF. The law of the books through the end of a job (R71, R169). -/

namespace Sys2Proof.Machine

/-- A job that has finished, its stream released. -/
def Job.over (j : Job) (s : JobState) (r : JobResult) : Job :=
  { j with
    stream := none, state := s, waitReason := none, result := some r, pins := [], mountStep := none, ticket := none,
    abortPending := false, yielding := false, endAs := none, mediaAsked := false, progress := j.progress.ended }

theorem Progress.ended_kind (p : Progress) : p.ended.kind = p.kind := by cases p <;> rfl

theorem Progress.ended_writes (p : Progress) : p.ended.writes = p.writes := by cases p <;> rfl

theorem Job.truncEnds_over {j : Job} (h : j.Orderly) (s : JobState) (r : JobResult) (b : BackupData) (x : JobState) (q : JobResult)
    (hb : (j.over s r).progress = .backup b) (hx : b.truncEnd = some (x, q)) : x.isFinished = true := by
  have hp : j.progress.ended = .backup b := hb
  cases hj : j.progress with
  | backup c =>
    rw [hj] at hp
    refine h.truncEnds c x q hj ?_
    rw [← hx, ← Progress.backup.inj hp]
  | verify | restore | clean => rw [hj] at hp; cases hp

/-- A finished job is in order once it holds no drive, and a BACKUP no cartridge. -/
theorem Job.Orderly.over {j : Job} (h : j.Orderly) (s : JobState) (r : JobResult) (hd : j.drive = none)
    (hb : j.kind = .backup → s.isFinished = true ∧ j.cartridge = none) : (j.over s r).Orderly where
  progress := (Progress.ended_kind _).trans h.progress
  target := h.target
  mounting hk _ := by
    obtain ⟨hs, -⟩ := hb hk
    refine ⟨rfl, ?_, ?_, ?_⟩ <;> rintro rfl <;> cases hs
  held hk := by
    obtain ⟨hs, -⟩ := hb hk
    rintro rfl
    cases hs
  bound _ := hd.symm
  waits _ := hd
  finished _ := ⟨hd, rfl⟩
  ended hk _ := ⟨rfl, (hb hk).2⟩
  truncEnds := Job.truncEnds_over h s r

theorem W.modJob_map {α : Type} {p : Job → α} (w : W) (n : Nat) {f : Job → Job} (h : ∀ j, p (f j) = p j) :
    (w.modJob n f).js.jobs.map p = w.js.jobs.map p := map_alter h _

/-! ### What the release of claims leaves of a job -/

section
variable {α : Type} {p : Job → α} (w : W) (n : Nat)

theorem W.unbind_map (hs : ∀ j, p { j with stream := none } = p j) : (w.unbind n).js.jobs.map p = w.js.jobs.map p := by
  unfold W.unbind
  split
  · rfl
  · refine (W.modJob_map _ _ hs).trans ?_
    split <;> rfl

theorem W.releaseDrive_map (hs : ∀ j, p { j with stream := none } = p j) (hd : ∀ j, p { j with drive := none } = p j) :
    (w.releaseDrive n).js.jobs.map p = w.js.jobs.map p := by
  unfold W.releaseDrive
  split
  · rfl
  next j _ =>
    split
    · rfl
    next d _ =>
      have hu : (if j.kind = .verify ∨ j.kind = .restore then w.unbind n else w).js.jobs.map p = w.js.jobs.map p := by
        split
        · exact W.unbind_map w n hs
        · rfl
      have hc : ∀ v : W, (if v.driveClaim d = some n then v.putDriveClaim d none else v).js.jobs.map p = v.js.jobs.map p := fun v => by
        split <;> rfl
      exact (W.modJob_map _ _ hd).trans ((hc _).trans hu)

end

section
variable {ρ : Roster} {L : List (Nat × Option Drive)} {w : W} {n : Nat}

theorem W.releaseCart_none (w : W) (n : Nat) (h : (w.job n).bind Job.cartridge = none) : w.releaseCart n = w := by
  unfold W.releaseCart
  rw [h]

theorem W.releaseCart_jobs (w : W) (n i : Nat) (h : (w.job n).bind Job.cartridge = some i) :
    (w.releaseCart n).js.jobs = alter n (fun j => { j with cartridge := none }) w.js.jobs := by
  unfold W.releaseCart
  rw [h]
  have hw : (if w.claimOf i = some n then w.putCartClaim i none else w).js.jobs = w.js.jobs := by
    split
    · unfold W.putCartClaim W.modCart
      split <;> rfl
    · rfl
  dsimp only
  split <;> exact congrArg (alter n _) hw

theorem W.releaseBoth_map {α : Type} {p : Job → α} (w : W) (n : Nat) (hs : ∀ j, p { j with stream := none } = p j) (hd : ∀ j, p { j with drive := none } = p j)
    (hc : ∀ j, p { j with cartridge := none } = p j) : (w.releaseBoth n).js.jobs.map p = w.js.jobs.map p := by
  refine (W.releaseDrive_map _ n hs hd).trans ?_
  cases h : (w.job n).bind Job.cartridge with
  | none => rw [W.releaseCart_none w n h]
  | some i =>
    rw [W.releaseCart_jobs w n i h]
    exact map_alter hc _

/-- A job whose claims are released holds no cartridge. -/
theorem W.releaseBoth_cartridge (hB : w.books.Kept ρ L) {j : Job} (hj : (w.releaseBoth n).job n = some j) : j.cartridge = none := by
  have hcart : ∀ k ∈ (w.releaseCart n).js.jobs, k.id = n → k.cartridge = none := fun k hk hn => by
    cases hc : (w.job n).bind Job.cartridge with
    | none =>
      rw [W.releaseCart_none w n hc] at hk
      have hkj : w.job n = some k := hn ▸ hB.job_of_mem hk
      rwa [hkj] at hc
    | some i =>
      rw [W.releaseCart_jobs w n i hc] at hk
      rcases mem_alter hk with ⟨i, -, -, rfl⟩ | ⟨-, hne⟩
      · rfl
      · exact absurd hn hne
  have hm : (j.id, j.cartridge) ∈ (w.releaseBoth n).js.jobs.map fun j => (j.id, j.cartridge) :=
    List.mem_map_of_mem (f := fun j : Job => (j.id, j.cartridge)) (W.job_mem hj)
  rw [show (w.releaseBoth n).js.jobs.map (fun j => (j.id, j.cartridge)) = _ from W.releaseDrive_map _ n (fun _ => rfl) fun _ => rfl] at hm
  obtain ⟨k, hk, he⟩ := List.mem_map.1 hm
  obtain ⟨hid, hc⟩ := Prod.mk.inj he
  exact hc.symm.trans (hcart k hk (hid.trans (W.job_id hj)))

/-- The stream released and the job finished. -/
def W.closeJob (w : W) (n : Nat) (s : JobState) (r : JobResult) : W := (w.unbind n).modJob n fun k =>
  { k with state := s, waitReason := none, result := some r, pins := [], mountStep := none, ticket := none,
           abortPending := false, yielding := false, endAs := none, mediaAsked := false, progress := k.progress.ended }

theorem W.finishJob_books {s : JobState} {r : JobResult} {j : Job} (hj : w.job n = some j) (hf : j.state.isFinished = false) :
    (w.finishJob n s r).books = (((w.dropHeld n).releaseBoth n).closeJob n s r).books := by
  unfold W.finishJob
  rw [hj]
  dsimp only
  rw [if_neg (by simp [hf]), W.wantDispatch_books, W.jobNotice_books]
  rfl

theorem W.Ordered.closeJob_jobs (h : w.Ordered ρ L) (s : JobState) (r : JobResult) {j : Job} (hj : w.job n = some j) :
    (w.closeJob n s r).js.jobs = alter n (fun k => k.over s r) w.js.jobs := by
  refine (congrArg (alter n _) (h.unbind hj).1).trans ?_
  exact alter_alter fun _ => rfl

theorem W.Ordered.closeJob_cg (h : w.Ordered ρ L) (s : JobState) (r : JobResult) {j : Job} (hj : w.job n = some j) :
    (w.closeJob n s r).cg = w.cg := (h.unbind hj).2.1

/-- The bindings are kept where a job that claims no drive finishes. -/
theorem W.Ordered.closeJob_bindings (h : w.Ordered ρ L) (s : JobState) (r : JobResult) {j : Job} (hj : w.job n = some j)
    (hd : j.drive = none) (ho : (j.over s r).Orderly) :
    Bindings (w.closeJob n s r).js.jobs (w.closeJob n s r).streams.get (w.closeJob n s r).js.claims := by
  obtain ⟨-, -, hclaims, hstreams⟩ := h.unbind hj
  have hone : ∀ k ∈ w.js.jobs, k.id = n → k = j := fun k hk hn => h.kept.job_eq hj hk hn
  rw [h.closeJob_jobs s r hj]
  refine h.bindings.letGo (fun k hk hn => ?_) (fun e => ?_) fun e m hm => ?_
  · rw [hone k hk hn]
    exact ⟨rfl, rfl, fun _ => ho, fun d hs => by cases (show none = some d from hs)⟩
  · rcases hstreams e with ⟨he, hne⟩ | ⟨h1, h2, h3⟩
    · exact .inl ⟨he, fun k hk hn hs => absurd (hone k hk hn ▸ hs) hne⟩
    · exact .inr ⟨h1, h2, .inl ((h.bindings.binds j (W.job_mem hj) e h3).trans (congrArg some (W.job_id hj)))⟩
  · have hm' : w.js.claims.get e = some m := hclaims ▸ hm
    refine ⟨fun hmn => ?_, hm'⟩
    obtain ⟨k, hk, hid, hdr⟩ := h.bindings.claimed e m hm'
    rw [hone k hk (hid.trans hmn), hd] at hdr
    cases hdr

theorem Job.role_over {j : Job} (hk : j.kind ≠ .backup) (s : JobState) (r : JobResult) : (j.over s r).role = j.role := by
  have hw : (j.over s r).progress.writes = j.progress.writes := Progress.ended_writes _
  simp only [Job.role, hw]
  simp [Job.over, hk]

theorem Job.writer_of_reader {j : Job} (h : j.progress.kind ≠ .backup) : j.writer? = none := by
  unfold Job.writer?
  cases hb : j.backup? with
  | none => rfl
  | some b => exact absurd (Job.backup_kind (by rw [hb]; nofun)) h

/-- A job other than a BACKUP finishes. -/
theorem W.finishJob_kept (w : W) (n : Nat) (s : JobState) (r : JobResult) (hB : w.books.Kept ρ L) (hr : ρ.reader n) :
    (w.finishJob n s r).books.Kept ρ L := by
  cases hj : w.job n with
  | none =>
    unfold W.finishJob
    rwa [hj]
  | some j =>
    cases hf : j.state.isFinished with
    | true =>
      unfold W.finishJob
      rw [hj]
      dsimp only
      rwa [if_pos hf]
    | false =>
      rw [W.finishJob_books hj hf]
      have hfree : ((w.dropHeld n).releaseBoth n).books.Kept ρ ((n, none) :: L) := W.releaseBoth_free (by rwa [W.dropHeld_books])
      revert hfree
      generalize (w.dropHeld n).releaseBoth n = u
      intro hfree
      have hu := hfree.ordered
      cases hk : u.job n with
      | none =>
        have hnone : u.closeJob n s r = u := by
          unfold W.closeJob W.unbind W.modJob
          rw [hk, Option.bind_none]
          dsimp only
          have : alter n (fun k : Job => { k with
              state := s, waitReason := none, result := some r, pins := [], mountStep := none, ticket := none,
              abortPending := false, yielding := false, endAs := none, mediaAsked := false, progress := k.progress.ended }) u.js.jobs =
              u.js.jobs := alter_id fun k hm hn => absurd hn (W.jobs_of_none hk hm)
          unfold alter at this
          rw [this]
        rw [hnone]
        exact hfree.weaken (List.subset_cons_self (n, none) L)
      | some k =>
        have hnb := hfree.not_backup hk hr
        have ho := hfree.orderly hk
        have hd : k.drive = none := hu.noDrive (W.job_mem hk) (by rw [W.job_id hk]; exact List.mem_cons_self ..)
        have hone : ∀ i ∈ u.js.jobs, i.id = n → i = k := fun i hi hn => hfree.job_eq hk hi hn
        have hover : (k.over s r).Orderly := ho.over s r hd fun hb => absurd hb hnb
        have hjobs := hu.closeJob_jobs s r hk
        refine W.Ordered.kept ⟨?_, fun i hi x hL => ?_, hu.closeJob_bindings s r hk hd hover, ?_⟩
        · rw [hjobs, alter_map _ _ _ _ fun i hi hn => by rw [hone i hi hn]; exact Job.role_over hnb s r]
          exact hu.roster
        · rw [hjobs] at hi
          rcases mem_alter hi with ⟨m, hm, hn, rfl⟩ | ⟨hi, -⟩
          · rw [hone m hm hn]
            exact .inl hd
          · exact hu.free _ hi x (List.mem_cons_of_mem _ hL)
        · rw [hjobs, hu.closeJob_cg s r hk, alter_filterMap _ _ _ _ fun i hi hn => by
            rw [hone i hi hn, Job.writer_of_reader (fun hp => hnb (ho.progress.symm.trans hp)), Job.writer_of_reader fun hp => hnb (hover.progress.symm.trans hp)]]
          exact hu.law.withPins fun m hm => .inl (alter_pins (fun i hi hn => List.nil_subset _) hm)

end

end Sys2Proof.Machine

/-! PROOF. The law of the books through the start of a mount and a pass of dispatch (R73, R75). -/

namespace Sys2Proof.Machine

section
variable {ρ : Roster} {L : List (Nat × Option Drive)} {w : W} {n : Nat}

@[simp] theorem W.endJob_kept (w : W) (n : Nat) (s : JobState) (r : JobResult) (hB : w.books.Kept ρ L) (hr : ρ.reader n) :
    (w.endJob n s r).books.Kept ρ L := by
  unfold W.endJob
  split
  · exact hB
  · split
    · exact hB
    · split
      · exact W.finishJob_kept _ _ _ _ (by simpa using hB) hr
      · exact W.finishJob_kept _ _ _ _ hB hr

/-! ### Streams of readers -/

theorem Books.Kept.binds (hB : w.books.Kept ρ L) {d : Drive} (h : w.streamOf n = some d) : (w.stream d).job = some n := by
  obtain ⟨j, hj, hs⟩ := Option.bind_eq_some_iff.1 h
  exact (hB.ordered.bindings.binds j (W.job_mem hj) d hs).trans (congrArg some (W.job_id hj))

theorem Books.Kept.quiet (hB : w.books.Kept ρ L) {d : Drive} {j : Job} (hj : w.job n = some j) (hk : j.kind = .backup)
    (hs : (w.stream d).job = some n) : (w.stream d).Quiet := by
  refine hB.ordered.bindings.quiet d fun k hk' hm => ?_
  rw [hB.job_eq hj hk' (Option.some.inj (hm.symm.trans hs))]
  exact hk

/-- A stream bound to a reader changes and stays bound. -/
theorem W.modStream_reader {d : Drive} {f : Stream → Stream} (hB : w.books.Kept ρ L) (hr : ρ.reader n) (hs : (w.stream d).job = some n)
    (hf : ∀ s, (f s).job = s.job) : (w.modStream d f).books.Kept ρ L := by
  have ho := hB.ordered
  refine W.Ordered.kept ⟨ho.roster, ho.free, ?_, ho.law⟩
  have hget : ∀ e, (w.modStream d f).streams.get e = if e = d then f (w.streams.get d) else w.streams.get e := fun e => by
    split
    next he => rw [he]; exact Pair.get_put_same ..
    next he => exact Pair.get_put_other _ _ he
  obtain ⟨j, hj, hid, -⟩ := ho.bindings.named d n hs
  refine ho.bindings.putStreams (fun e => ?_) fun e hq => ?_
  · rw [hget]
    split
    next he => rw [he, hf]
    next => rfl
  · rw [hget]
    split
    next he => exact .inr ⟨j, hj, by rw [he, hid]; exact hs, hB.not_backup (hid ▸ hB.job_of_mem hj) hr⟩
    next => exact .inl hq

theorem W.putStream_reader {d : Drive} {s : Stream} (hB : w.books.Kept ρ L) (hr : ρ.reader n) (hs : (w.stream d).job = some n)
    (hf : s.job = (w.stream d).job) : (w.putStream d s).books.Kept ρ L := by
  have h := W.modStream_reader (f := fun t => { s with job := t.job }) hB hr hs fun _ => rfl
  have he : ({ s with job := (w.stream d).job } : Stream) = s := by rw [← hf]
  unfold W.modStream at h
  dsimp only at h
  rwa [he] at h

/-! ### Changes of the books -/

theorem W.modJob_alter (w : W) (n : Nat) {f F : Job → Job} (h : ∀ j, (f j).plain = F j.plain) :
    (w.modJob n f).books = { w.books with jobs := alter n F w.books.jobs } := by
  unfold W.books W.modJob
  congr 1
  rw [alter, List.map_map, List.map_map]
  refine List.map_congr_left fun j _ => ?_
  show Job.plain (if j.id = n then f j else j) = if j.id = n then F j.plain else j.plain
  split
  · exact h j
  · rfl

theorem W.putStream_update (w : W) (d : Drive) (s : Stream) :
    (w.putStream d s).books = { w.books with streams := fun e => if e = d then s.plain else w.books.streams e } := by
  unfold W.books W.putStream
  congr 1
  funext e
  split
  next he => rw [he, Pair.get_put_same]
  next he => rw [Pair.get_put_other _ _ he]

theorem Books.Kept.mem_plain (hB : w.books.Kept ρ L) {j k : Job} (hj : w.job n = some j) (hk : k ∈ w.books.jobs) (hn : k.id = n) :
    k = j.plain := by
  obtain ⟨i, hi, rfl⟩ := List.mem_map.1 hk
  rw [hB.job_eq hj hi hn]

/-- A job set to a state, in the books. -/
theorem W.setJob_alter (hids : (w.js.jobs.map Job.id).Nodup) {j : Job} (hj : w.job n = some j) (s : JobState) (why : Option WaitReason) :
    (w.setJob n s why).books = { w.books with jobs := alter n (fun k => { k with state := s, waitReason := why }) w.books.jobs } := by
  unfold W.setJob
  rw [hj]
  dsimp only
  split
  next h =>
    obtain ⟨h1, h2⟩ := h
    have hid : alter n (fun k => { k with state := s, waitReason := why }) w.books.jobs = w.books.jobs := alter_id fun k hk hn => by
      obtain ⟨i, hi, rfl⟩ := List.mem_map.1 hk
      obtain rfl : i = j := eq_of_ids hids hi (W.job_mem hj) ((show i.id = n from hn).trans (W.job_id hj).symm)
      rw [← h1, ← h2]
      rfl
    rw [hid]
  next =>
    rw [W.jobNotice_books]
    exact W.modJob_alter _ _ fun _ => by rfl

end

/-! ### A mount starts -/

section
variable {ρ : Roster} {L : List (Nat × Option Drive)} {n : Nat}

/-- A job as its mount starts. -/
def Job.mounts (j : Job) (d : Drive) (i : Nat) (st : Option Drive) : Job :=
  { j with state := .mounting, waitReason := none, drive := some d, cartridge := some i, stream := st }

theorem Job.Orderly.mounts {j : Job} (h : j.Orderly) {d : Drive} {i : Nat} {st : Option Drive}
    (hs : j.kind = .backup → j.progress.writes = false) (hb : j.kind = .verify ∨ j.kind = .restore → st = some d) :
    (j.mounts d i st).Orderly where
  progress := h.progress
  target := h.target
  mounting hk hw := by cases (hs hk).symm.trans hw
  held _ := nofun
  bound := hb
  waits hw := hw.elim nofun fun h => by cases h.1
  finished := nofun
  ended _ := nofun
  truncEnds := h.truncEnds

/-- The books where a mount starts: the drive is claimed, and a stream bound or none. -/
theorem Books.Kept.mounts {b : Books} (h : b.Kept ρ ((n, none) :: L)) (hL : ∀ x, (n, x) ∉ L) {j : Job} (hj : j ∈ b.jobs) (hid : j.id = n)
    {d : Drive} {i : Nat} {st : Option Drive} {S : Drive → Stream}
    (hlive : j.kind = .backup → j.state.isFinished = false) (hshut : j.kind = .backup → j.progress.writes = false)
    (hb : j.kind = .verify ∨ j.kind = .restore → st = some d)
    (hnamed : ∀ e m, (S e).job = some m → (m = n ∧ st = some e) ∨ (m ≠ n ∧ (b.streams e).job = some m))
    (hst : ∀ e, st = some e → (S e).job = some n) (hkeep : ∀ e m, m ≠ n → (b.streams e).job = some m → (S e).job = some m)
    (hquiet : ∀ e, (S e).Quiet ∨ S e = b.streams e ∧ (b.streams e).job ≠ some n ∨ (S e).job = some n ∧ j.kind ≠ .backup) :
    ({ b with jobs := alter n (fun k => k.mounts d i st) b.jobs, streams := S, claims := b.claims.put d (some n) } : Books).Kept ρ L := by
  have hone : ∀ k ∈ b.jobs, k.id = n → k = j := fun k hk hn => eq_of_ids h.bindings.ids hk hj (hn.trans hid.symm)
  have ho := h.bindings.each j hj
  have hdrive : j.drive = none := h.noDrive hj (hid ▸ List.mem_cons_self ..)
  have hrole : (j.mounts d i st).role = j.role := by
    have hend : (false && decide (j.kind = .backup)) = (j.state.isFinished && decide (j.kind = .backup)) := by
      by_cases hk : j.kind = .backup
      · rw [hlive hk]
      · rw [decide_eq_false hk, Bool.and_false, Bool.and_false]
    exact congrArg (fun e => ({ j.role with ended := e } : Role)) hend
  have hwriter : (j.mounts d i st).writer? = j.writer? := Job.writer_of_unfinished rfl rfl fun hw => by
    rw [hlive (ho.progress ▸ Job.backup_kind (j := j) hw)]
    rfl
  have hback : ∀ k ∈ b.jobs, ∃ m ∈ alter n (fun k => k.mounts d i st) b.jobs, m.id = k.id ∧ m.kind = k.kind ∧
      (k.id ≠ n → m.stream = k.stream ∧ m.drive = k.drive) := fun k hk => by
    by_cases hn : k.id = n
    · exact ⟨_, alter_mem hk hn, rfl, rfl, fun hh => absurd hn hh⟩
    · exact ⟨k, alter_mem_other hk hn, rfl, rfl, fun _ => ⟨rfl, rfl⟩⟩
  refine ⟨?_, fun k hk x hkL => ?_, ⟨?_, ?_, fun k hk => ?_, fun e m hm => ?_, fun k hk e he => ?_, fun e m hm => ?_, fun e he => ?_⟩, ?_⟩
  · show (alter n _ b.jobs).map Job.role = ρ
    rw [alter_map _ _ _ _ fun k hk hn => by rw [hone k hk hn, hrole]]
    exact h.roster
  · rcases mem_alter hk with ⟨m, -, hn, rfl⟩ | ⟨hk, -⟩
    · exact absurd (show (m.id, x) ∈ L from hkL) (hn ▸ hL x)
    · exact h.free k hk x (List.mem_cons_of_mem _ hkL)
  · show ((alter n _ b.jobs).map Job.id).Nodup
    rw [alter_map n (fun k => k.mounts d i st) b.jobs Job.id fun _ _ _ => rfl]
    exact h.bindings.ids
  · show (alter n _ b.jobs).length ≤ 16
    rw [alter, List.length_map]
    exact h.bindings.few
  · rcases mem_alter hk with ⟨m, hm, hn, rfl⟩ | ⟨hk, -⟩
    · rw [hone m hm hn]
      exact ho.mounts hshut hb
    · exact h.bindings.each k hk
  · rcases hnamed e m hm with ⟨rfl, hse⟩ | ⟨hmn, hold⟩
    · exact ⟨_, alter_mem hj hid, hid, hse⟩
    · obtain ⟨k, hk, rfl, hks⟩ := h.bindings.named e m hold
      exact ⟨k, alter_mem_other hk hmn, rfl, hks⟩
  · rcases mem_alter hk with ⟨m, -, hn, rfl⟩ | ⟨hk, hn⟩
    · exact (hst e he).trans (congrArg some hn.symm)
    · exact hkeep e k.id hn (h.bindings.binds k hk e he)
  · have hm' : (b.claims.put d (some n)).get e = some m := hm
    by_cases hed : e = d
    · rw [hed, Pair.get_put_same] at hm'
      obtain rfl := Option.some.inj hm'
      exact ⟨_, alter_mem hj hid, hid, hed ▸ rfl⟩
    · rw [Pair.get_put_other _ _ hed] at hm'
      obtain ⟨k, hk, rfl, hkd⟩ := h.bindings.claimed e m hm'
      have hkn : k.id ≠ n := fun hh => by
        rw [hone k hk hh, hdrive] at hkd
        cases hkd
      exact ⟨k, alter_mem_other hk hkn, rfl, hkd⟩
  · rcases hquiet e with hq | ⟨hse, hne⟩ | ⟨hse, hk⟩
    · exact hq
    · show (S e).Quiet
      rw [hse]
      refine h.bindings.quiet e fun k hk hm => ?_
      obtain ⟨m, hmem, hmid, hmk, -⟩ := hback k hk
      exact hmk ▸ he m hmem ((congrArg Stream.job hse).trans (hm.trans (congrArg some hmid.symm)))
    · exact absurd (he _ (alter_mem hj hid) (hse.trans (congrArg some hid.symm))) hk
  · show BookLaw ((alter n _ b.jobs).filterMap Job.writer?) ((alter n _ b.jobs).flatMap Job.pins) b.cg
    rw [alter_filterMap _ _ _ _ fun k hk hn => by rw [hone k hk hn, hwriter]]
    exact h.law.withPins fun m hm => .inl (alter_pins (f := fun k => k.mounts d i st) (fun _ _ _ => List.Subset.refl _) hm)

end

end Sys2Proof.Machine

/-! PROOF. The law of the books through the start of a mount: what is claimed and bound (R73, R75). -/

namespace Sys2Proof.Machine

section
variable {ρ : Roster} {L : List (Nat × Option Drive)} {w : W} {n : Nat}

theorem alter_congr {f g : Job → Job} {l : List Job} (h : ∀ j ∈ l, j.id = n → f j = g j) : alter n f l = alter n g l := by
  refine List.map_congr_left fun j hj => ?_
  split
  next hn => exact h j hj hn
  next => rfl

theorem W.putDriveClaim_update (w : W) (d : Drive) (c : Option Nat) :
    (w.putDriveClaim d c).books = { w.books with claims := w.books.claims.put d c } := rfl

theorem W.claimCart_update (w : W) (n i : Nat) :
    (w.claimCart n i).books = { w.books with jobs := alter n (fun k => { k with cartridge := some i }) w.books.jobs } := by
  have h : ((w.putCartClaim i (some n)).modJob n fun j => { j with cartridge := some i }).books =
      { w.books with jobs := alter n (fun k => { k with cartridge := some i }) w.books.jobs } := by
    rw [W.modJob_alter (F := fun k => { k with cartridge := some i }) _ _ fun _ => by rfl, W.putCartClaim_books]
  unfold W.claimCart
  dsimp only
  split <;> simp only [W.stopIdle_books, h]

theorem W.claimCart_jobs (w : W) (n i : Nat) :
    (w.claimCart n i).js.jobs = alter n (fun k => { k with cartridge := some i }) w.js.jobs := by
  have h : ((w.putCartClaim i (some n)).modJob n fun j => { j with cartridge := some i }).js.jobs =
      alter n (fun k => { k with cartridge := some i }) w.js.jobs := by
    unfold W.putCartClaim W.modCart
    split <;> rfl
  unfold W.claimCart
  dsimp only
  split <;> exact h

/-! ### Binding -/

/-- The streams after a job is bound to one (R73, R117). -/
def Job.bindings (j : Job) (d : Drive) (streams : Drive → Stream) (e : Drive) : Stream :=
  match j.progress.kind with
  | .clean => streams e
  | .verify => if e = d then { streams d with job := some j.id } else streams e
  | .restore => if e = d then { streams d with job := some j.id } else streams e
  | .backup =>
    if j.stream = some d then streams e
    else if j.stream = some e then resetStream.plain
    else if e = d then { streams d with job := some j.id } else streams e

/-- The stream a job is bound to after it. -/
def Job.bindsTo (j : Job) (d : Drive) : Option Drive := if j.progress.kind = .clean then j.stream else some d

def Job.joins (j : Job) (d : Drive) (k : Job) : Job := if j.progress.kind = .clean then k else { k with stream := some d }

theorem W.bind_update {j : Job} (hj : w.job n = some j) (d : Drive) : (w.bind n d).books =
    { w.books with
      jobs := alter n (j.joins d) w.books.jobs
      streams := j.bindings d w.books.streams } := by
  have hid : j.id = n := W.job_id hj
  have hone : (w.modJob n fun k => { k with stream := some d }).books =
      { w.books with jobs := alter n (fun k => { k with stream := some d }) w.books.jobs } :=
    W.modJob_alter (F := fun k => { k with stream := some d }) _ _ fun _ => by rfl
  have hput : ∀ (v : W) (f : Stream → Stream) (x : Stream), (f (v.stream d)).plain = x →
      (v.modStream d f).books = { v.books with streams := fun e => if e = d then x else v.books.streams e } := fun v f x hx => by
    rw [← hx]
    exact W.putStream_update ..
  unfold W.bind
  rw [hj]
  dsimp only
  have hjoins : j.progress.kind ≠ .clean → j.joins d = fun k => { k with stream := some d } := fun hk => funext fun k => if_neg hk
  unfold Job.bindings
  cases hp : j.progress with
  | clean =>
    have hid : j.joins d = fun k => k := funext fun k => if_pos (by rw [hp]; rfl)
    rw [hid, alter_id fun _ _ _ => rfl]
    rfl
  | verify | restore =>
    rw [hjoins (by rw [hp]; nofun)]
    simp only [Progress.kind]
    rw [hput _ _ _ rfl, hone, hid]
    rfl
  | backup b =>
    rw [hjoins (by rw [hp]; nofun)]
    simp only [Progress.kind]
    cases hs : j.stream with
    | none =>
      dsimp only
      rw [W.modBackup_books _ _ _ fun _ => by exact ⟨rfl, rfl, rfl⟩, hput _ _ _ rfl, hone, hid]
      simp
      rfl
    | some o =>
      dsimp only
      by_cases ho : o = d
      · rw [if_pos ho, hone]
        simp [ho]
      · rw [if_neg ho, W.modStream, W.putStream_update, hput _ _ _ rfl, hone, hid]
        have hne : ¬(some o = some d) := fun hh => ho (Option.some.inj hh)
        simp only [if_neg hne]
        congr 1
        funext e
        by_cases heo : e = o
        · rw [if_pos heo, if_pos (congrArg some heo.symm)]
          rfl
        · rw [if_neg heo, if_neg fun hh => heo (Option.some.inj hh).symm]
          rfl

/-- What binding asks of the streams: the one at the drive is bare, or the job's own. -/
theorem Books.Kept.rebinds (hB : w.books.Kept ρ L) {j : Job} (hj : w.job n = some j) {d : Drive}
    (hbound : j.kind = .verify ∨ j.kind = .restore → j.stream = none)
    (hfree : j.kind ≠ .clean → (w.stream d).job = none ∨ (w.stream d).job = some n) (e : Drive) :
    (∀ m, (j.bindings d w.books.streams e).job = some m →
      (m = n ∧ j.bindsTo d = some e) ∨ (m ≠ n ∧ (w.books.streams e).job = some m)) ∧
    (j.bindsTo d = some e → (j.bindings d w.books.streams e).job = some n) ∧
    (∀ m, m ≠ n → (w.books.streams e).job = some m → (j.bindings d w.books.streams e).job = some m) ∧
    ((j.bindings d w.books.streams e).Quiet ∨
      j.bindings d w.books.streams e = w.books.streams e ∧ (w.books.streams e).job ≠ some n ∨
      (j.bindings d w.books.streams e).job = some n ∧ j.kind ≠ .backup) := by
  have ho := hB.orderly hj
  have hid := W.job_id hj
  have hjob : ∀ e, (w.books.streams e).job = (w.stream e).job := fun _ => rfl
  have hown : ∀ e, (w.stream e).job = some n → j.stream = some e := fun e he => by
    obtain ⟨k, hk, hkn, hks⟩ := hB.ordered.bindings.named e n he
    rw [← hB.job_eq hj hk hkn]
    exact hks
  have hbinds : ∀ e, j.stream = some e → (w.stream e).job = some n := fun e he =>
    (hB.ordered.bindings.binds j (W.job_mem hj) e he).trans (congrArg some hid)
  have hquiet : ∀ e, (w.stream e).job = none ∨ (w.stream e).job = some n ∧ j.kind = .backup → (w.books.streams e).Quiet :=
    fun e he => hB.ordered.bindings.quiet e fun k hk hm => by
      rcases he with he | ⟨he, hkb⟩
      · cases he.symm.trans hm
      · rw [hB.job_eq hj hk (Option.some.inj (hm.symm.trans he))]
        exact hkb
  have hnone : (resetStream.plain).job = none ∧ (resetStream.plain).Quiet := ⟨rfl, rfl, rfl, rfl⟩
  have hnot : ∀ e, j.stream ≠ some e → (w.stream e).job ≠ some n := fun e he hh => he (hown e hh)
  -- a stream left as it is, of another job or of none
  have hstay : j.stream ≠ some e → (∀ m, (w.books.streams e).job = some m → m ≠ n ∧ (w.books.streams e).job = some m) :=
    fun he m hm => ⟨fun hmn => hnot e he (hmn ▸ hm), hm⟩
  unfold Job.bindings Job.bindsTo
  rw [ho.progress]
  cases hk : j.kind with
  | clean =>
    simp only [if_true]
    refine ⟨fun m hm => ?_, hbinds e, fun m _ hm => hm, ?_⟩
    · by_cases hs : j.stream = some e
      · exact .inl ⟨Option.some.inj (hm.symm.trans (hbinds e hs)), hs⟩
      · exact .inr (hstay hs m hm)
    · by_cases hs : j.stream = some e
      · exact .inr (.inr ⟨hbinds e hs, nofun⟩)
      · exact .inr (.inl ⟨trivial, hnot e hs⟩)
  | verify | restore =>
    have hs : ∀ e, j.stream ≠ some e := fun e => by rw [hbound (by rw [hk]; simp)]; nofun
    have hd : (w.stream d).job = none := (hfree (by rw [hk]; nofun)).resolve_right (hnot d (hs d))
    simp only [reduceCtorEq, if_false]
    by_cases he : e = d
    · subst he
      simp only [if_true]
      refine ⟨fun m hm => .inl ⟨?_, trivial⟩, fun _ => congrArg some hid, fun m hmn hm => ?_, .inr (.inr ⟨congrArg some hid, nofun⟩)⟩
      · exact (Option.some.inj hm).symm.trans hid
      · cases hd.symm.trans hm
    · simp only [if_neg he]
      exact ⟨fun m hm => .inr (hstay (hs e) m hm), fun h => absurd (Option.some.inj h).symm he, fun m _ hm => hm,
        .inr (.inl ⟨trivial, hnot e (hs e)⟩)⟩
  | backup =>
    have hd := hfree (by rw [hk]; nofun)
    simp only [reduceCtorEq, if_false]
    by_cases hsd : j.stream = some d
    · simp only [if_pos hsd]
      by_cases he : e = d
      · subst he
        exact ⟨fun m hm => .inl ⟨Option.some.inj (hm.symm.trans (hbinds e hsd)), rfl⟩, fun _ => hbinds e hsd, fun m _ hm => hm,
          .inl (hquiet e (.inr ⟨hbinds e hsd, hk⟩))⟩
      · have hse : j.stream ≠ some e := fun h => he (Option.some.inj (h.symm.trans hsd))
        exact ⟨fun m hm => .inr (hstay hse m hm), fun h => absurd (Option.some.inj h).symm he, fun m _ hm => hm,
          .inr (.inl ⟨trivial, hnot e hse⟩)⟩
    · have hd : (w.stream d).job = none := hd.resolve_right (hnot d hsd)
      simp only [if_neg hsd]
      by_cases hse : j.stream = some e
      · have hed : e ≠ d := fun h => hsd (h ▸ hse)
        simp only [if_pos hse]
        refine ⟨fun m hm => ?_, fun h => absurd (Option.some.inj h).symm hed, fun m hmn hm => ?_, .inl hnone.2⟩
        · cases hnone.1.symm.trans hm
        · exact absurd (Option.some.inj (hm.symm.trans (hbinds e hse))) hmn
      · simp only [if_neg hse]
        by_cases he : e = d
        · subst he
          simp only [if_true]
          refine ⟨fun m hm => .inl ⟨?_, trivial⟩, fun _ => congrArg some hid, fun m hmn hm => ?_, .inl (hquiet e (.inl hd))⟩
          · exact (Option.some.inj hm).symm.trans hid
          · cases hd.symm.trans hm
        · simp only [if_neg he]
          exact ⟨fun m hm => .inr (hstay hse m hm), fun h => absurd (Option.some.inj h).symm he, fun m _ hm => hm,
            .inr (.inl ⟨trivial, hnot e hse⟩)⟩

/-! ### A mount starts -/

/-- The job claims the drive and the cartridge, enters MOUNTING and is bound (R73, R75). -/
def W.mountBegun (w : W) (n : Nat) (d : Drive) (i : Nat) : W :=
  (((((w.putDriveClaim d (some n)).claimCart n i).stopIdle d).modJob n fun j => { j with drive := some d }).setJob n .mounting none).bind n d

theorem W.startMount_eq (w : W) (n : Nat) (d : Drive) (i : Nat) : w.startMount n d i = (w.mountBegun n d i).mountNext n := rfl

theorem W.job_of_alter {v : W} {F : Job → Job} (h : v.js.jobs = alter n F w.js.jobs) (hF : ∀ j, (F j).id = j.id) {j : Job}
    (hj : w.job n = some j) : v.job n = some (F j) := by
  have := W.job_modJob w n F hF
  rw [hj] at this
  rw [W.job, h]
  exact this

theorem W.mountBegun_books (hids : (w.js.jobs.map Job.id).Nodup) {j : Job} (hj : w.job n = some j) (d : Drive) (i : Nat) :
    (w.mountBegun n d i).books =
      { w.books with
        jobs := alter n (fun k => j.joins d { k with cartridge := some i, drive := some d, state := .mounting, waitReason := none })
          w.books.jobs
        streams := j.bindings d w.books.streams, claims := w.books.claims.put d (some n) } := by
  let v := (((w.putDriveClaim d (some n)).claimCart n i).stopIdle d).modJob n fun j => { j with drive := some d }
  have hv : v.job n = some { j with cartridge := some i, drive := some d } := by
    refine W.job_of_alter (F := fun j => { j with cartridge := some i, drive := some d }) ?_ (fun _ => rfl) hj
    refine (congrArg (alter n fun j => { j with drive := some d }) (W.claimCart_jobs _ n i)).trans ?_
    exact alter_alter fun _ => rfl
  have hvids : (v.js.jobs.map Job.id).Nodup := by
    rw [W.modJob_map _ _ fun _ => by rfl]
    have hs : ((((w.putDriveClaim d (some n)).claimCart n i).stopIdle d).js.jobs.map Job.id) = w.js.jobs.map Job.id := by
      refine (congrArg (List.map Job.id) (W.claimCart_jobs _ n i)).trans ?_
      exact alter_map _ _ _ _ fun _ _ _ => rfl
    rwa [hs]
  have hvb : v.books = { w.books with jobs := alter n (fun k => { k with cartridge := some i, drive := some d }) w.books.jobs,
                                      claims := w.books.claims.put d (some n) } := by
    refine (W.modJob_alter (F := fun k => { k with drive := some d }) _ _ fun _ => by rfl).trans ?_
    rw [W.stopIdle_books, W.claimCart_update, W.putDriveClaim_update]
    dsimp only
    rw [alter_alter (n := n) (f := fun k => { k with cartridge := some i }) (g := fun k => { k with drive := some d }) fun _ => rfl]
  obtain ⟨k, hk, -, -, hp, hst⟩ := W.job_setJob hv .mounting none
  have hkid : k.id = j.id := (W.job_id hk).trans (W.job_id hj).symm
  have hjoins : k.joins d = j.joins d := by
    unfold Job.joins
    rw [hp]
  have hbind : k.bindings d = j.bindings d := by
    unfold Job.bindings
    rw [hp, hst, hkid]
  refine (W.bind_update hk d).trans ?_
  rw [W.setJob_alter hvids hv, hvb, hjoins, hbind]
  dsimp only
  rw [alter_alter fun _ => by rfl, alter_alter fun _ => by rfl]

/-- A job that dispatch serves with a drive that is free. -/
structure W.Serves (w : W) (n : Nat) (j : Job) (d : Drive) : Prop where
  job : w.job n = some j
  claim : w.driveClaim d = none
  stream : j.kind ≠ .clean → (w.stream d).job = none ∨ (w.stream d).job = some n

theorem W.mountBegun_kept (hB : w.books.Kept ρ ((n, none) :: L)) (hL : ∀ x, (n, x) ∉ L) (hlive : ρ.live n) (hshut : ρ.shut n) {j : Job} {d : Drive}
    (h : w.Serves n j d) (i : Nat) : (w.mountBegun n d i).books.Kept ρ L := by
  have hj := h.job
  have ho := hB.orderly hj
  rw [W.mountBegun_books hB.ordered.bindings.ids hj]
  have hone : ∀ k ∈ w.books.jobs, k.id = n → k = j.plain := fun k hk hn => hB.mem_plain hj hk hn
  have hfree : j.drive = none := hB.ordered.noDrive (W.job_mem hj) (by rw [W.job_id hj]; exact List.mem_cons_self ..)
  have hre := hB.rebinds hj (d := d) (fun hr => (ho.bound hr).trans hfree) h.stream
  have hjoins : ∀ k ∈ w.books.jobs, k.id = n →
      j.joins d { k with cartridge := some i, drive := some d, state := .mounting, waitReason := none } = k.mounts d i (j.bindsTo d) :=
    fun k hk hn => by
      rw [hone k hk hn]
      unfold Job.joins Job.bindsTo
      split <;> rfl
  rw [alter_congr hjoins]
  have hm : j.plain ∈ w.books.jobs := List.mem_map_of_mem (W.job_mem hj)
  have hid : j.plain.id = n := show j.id = n from W.job_id hj
  have hun : j.kind = .backup → j.state.isFinished = false := hB.unfinished hj hlive
  have hwr : j.kind = .backup → j.plain.progress.writes = false := fun hk => (Progress.plain_writes _).trans (hB.unopened hj hshut hk)
  refine hB.mounts hL hm hid hun hwr (fun hr => ?_)
    (fun e => (hre e).1) (fun e => (hre e).2.1) (fun e => (hre e).2.2.1) fun e => (hre e).2.2.2
  unfold Job.bindsTo
  refine if_neg fun hc => ?_
  rw [ho.progress] at hc
  rcases hr with hr | hr <;> cases hc.symm.trans hr

end

end Sys2Proof.Machine

/-! PROOF. The law of the books through the steps of a mount and a pass of dispatch (R75, R79, R84). -/

namespace Sys2Proof.Machine

section
variable {ρ : Roster} {L : List (Nat × Option Drive)} {w : W} {n : Nat}

@[simp] theorem W.startCleaning_kept (w : W) (n : Nat) (d : Drive) (hB : w.books.Kept ρ L) (hl : ρ.live n) :
    (w.startCleaning n d).books.Kept ρ L := by
  unfold W.startCleaning
  rw [W.askOp_books]
  exact W.setJob_kept _ _ _ _ (W.dropStep_kept hB fun _ => .inl rfl) (Roster.takes_active (.inl rfl) hl)

@[simp] theorem W.mountLoaded_kept (w : W) (n : Nat) (j : Job) (d : Drive) (i : Nat) (hB : w.books.Kept ρ L) (hs : ρ.shut n) (hl : ρ.live n) :
    (w.mountLoaded n j d i).books.Kept ρ L := by
  unfold W.mountLoaded
  (repeat' split) <;> simp [hB, hs, hl]

@[simp] theorem W.mountBring_kept (w : W) (n : Nat) (j : Job) (d : Drive) (i : Nat) (hB : w.books.Kept ρ L) (hs : ρ.shut n) (hl : ρ.live n) :
    (w.mountBring n j d i).books.Kept ρ L := by
  unfold W.mountBring
  (repeat' split) <;> simp [hB, hs, hl]

@[simp] theorem W.mountNext_kept (w : W) (n : Nat) (hB : w.books.Kept ρ L) (hs : ρ.shut n) (hl : ρ.live n) :
    (w.mountNext n).books.Kept ρ L := by
  unfold W.mountNext
  dsimp only
  (repeat' split) <;> simp [hB, hs, hl]

/-! ### A VERIFY yields (R84) -/

@[simp] theorem W.startYield_kept (w : W) (n : Nat) (hB : w.books.Kept ρ L) (hr : ρ.reader n) : (w.startYield n).books.Kept ρ L := by
  have h : (w.modJob n fun j => { j with yielding := true }).books.Kept ρ L := by
    rwa [W.modJob_books _ _ _ fun _ => by rfl]
  unfold W.startYield
  dsimp only
  split
  next d hd =>
    rw [W.emit_books]
    exact W.modStream_reader h hr (hB.binds hd) fun _ => rfl
  next => exact h

theorem W.runningVerify_reader (hB : w.books.Kept ρ L) {test : Job → Bool} {v : Nat} (h : w.runningVerify test = some v) : ρ.reader v := by
  obtain ⟨k, hk, rfl⟩ := Option.map_eq_some_iff.1 h
  have hp := List.find?_some hk
  simp only [Bool.and_eq_true, decide_eq_true_eq] at hp
  exact hB.reader (hB.job_of_mem (List.mem_of_find?_eq_some hk)) (by rw [hp.1.1]; nofun)

theorem W.yieldAny_reader (hB : w.books.Kept ρ L) {v : Nat} (h : w.yieldAny = some v) : ρ.reader v := by
  obtain ⟨k, hk, rfl⟩ := Option.map_eq_some_iff.1 h
  have hm := (perm_sortBy _ _).mem_iff.1 (List.mem_of_getLast? hk)
  obtain ⟨hmem, hp⟩ := List.mem_filter.1 hm
  simp only [Bool.and_eq_true, decide_eq_true_eq] at hp
  exact hB.reader (hB.job_of_mem hmem) (by rw [hp.1.1]; nofun)

theorem W.yieldFor_reader (hB : w.books.Kept ρ L) {j : Job} {v : Nat} (h : w.yieldFor j = some v) : ρ.reader v := by
  unfold W.yieldFor at h
  split at h
  · cases h
  · split at h
    · split at h
      · cases h
      · exact W.yieldAny_reader hB h
    · split at h
      · exact W.runningVerify_reader hB h
      all_goals cases h
    · split at h
      · exact W.runningVerify_reader hB h
      all_goals cases h
    · cases h

@[simp] theorem W.maybeYield_kept (w : W) (n : Nat) (hB : w.books.Kept ρ L) : (w.maybeYield n).books.Kept ρ L := by
  unfold W.maybeYield
  split
  next v hv =>
    obtain ⟨j, -, hj⟩ := Option.bind_eq_some_iff.1 hv
    exact W.startYield_kept w v hB (W.yieldFor_reader hB hj)
  next => exact hB

/-! ### A pass of dispatch (R75) -/

theorem W.serves_of_chooseDrive {j : Job} (hj : w.job n = some j) {i : Nat} {d : Drive} (h : w.chooseDrive j i = some d) :
    w.Serves n j d := by
  have hm : d ∈ (w.drivesFor j).filter (w.driveFree j) := by
    unfold W.chooseDrive at h
    rcases Option.or_eq_some_iff.1 h with h | ⟨-, h⟩
    · rcases Option.or_eq_some_iff.1 h with h | ⟨-, h⟩ <;> exact List.mem_of_find?_eq_some h
    · exact List.mem_of_find?_eq_some h
  obtain ⟨-, -, hclaim, -, -, hdata, -⟩ := (driveFree_iff w j d).1 (List.mem_filter.1 hm).2
  exact ⟨hj, hclaim, fun hk => W.job_id hj ▸ (hdata hk).1⟩

theorem W.label_of_wrong {j : Job} (h : w.chooseCart j = .wrong) : ∃ l, j.target = .label l := by
  unfold W.chooseCart at h
  cases ht : j.target with
  | label l => exact ⟨l, rfl⟩
  | pool p | drive d =>
    rw [ht] at h
    dsimp only at h
    split at h <;> cases h

theorem W.dispatchOne_kept (w : W) (n : Nat) (hB : w.books.Kept ρ ((n, none) :: L)) (hL : ∀ x, (n, x) ∉ L) (hs : ρ.shut n) (hl : ρ.live n) :
    (w.dispatchOne n).books.Kept ρ L := by
  have hweak : ∀ {b : Books}, b.Kept ρ ((n, none) :: L) → b.Kept ρ L := fun h => ⟨h.roster, fun j hj x hm => h.free j hj x (List.mem_cons_of_mem _ hm),
    h.bindings, h.law⟩
  unfold W.dispatchOne
  split
  · exact hweak hB
  next j hj =>
    split
    next hw =>
      obtain ⟨l, hlab⟩ := W.label_of_wrong hw
      have hk : j.kind ≠ .backup := fun hk => by
        obtain ⟨p, hp⟩ := (hB.orderly hj).target.2 hk
        cases hlab.symm.trans hp
      exact hweak (W.endJob_kept _ _ _ _ hB (hB.reader hj hk))
    next => exact hweak (W.maybeYield_kept _ _ (W.waitMedia_kept _ _ _ hB hl hs (List.mem_cons_self ..)))
    next =>
      refine hweak (W.maybeYield_kept _ _ ?_)
      rw [W.modJob_books _ _ _ fun _ => by rfl]
      exact W.waitFor_kept _ _ _ hB hl hs (List.mem_cons_self ..)
    next i _ =>
      split
      next => exact hweak (W.maybeYield_kept _ _ (W.waitFor_kept _ _ _ hB hl hs (List.mem_cons_self ..)))
      next d hd =>
        split
        · exact hweak (W.waitFor_kept _ _ _ hB hl hs (List.mem_cons_self ..))
        · rw [W.startMount_eq]
          exact W.mountNext_kept _ _ (W.mountBegun_kept hB hL hl hs (W.serves_of_chooseDrive hj hd) i) hs hl

theorem W.dispatchAll_kept (l : List Nat) (w : W) (hB : w.books.Kept ρ (l.map fun n => (n, none))) (hl : l.Nodup) (h : ∀ n ∈ l, ρ.shut n ∧ ρ.live n) :
    (l.foldl W.dispatchOne w).books.Kept ρ [] := by
  induction l generalizing w with
  | nil => exact hB
  | cons n l ih =>
    obtain ⟨hn, hl⟩ := List.nodup_cons.1 hl
    obtain ⟨hs, hv⟩ := h n (List.mem_cons_self ..)
    exact ih (w.dispatchOne n) (W.dispatchOne_kept w n hB (fun x hx => by
      obtain ⟨m, hm, he⟩ := List.mem_map.1 hx
      exact hn ((Prod.mk.inj he).1 ▸ hm)) hs hv) hl fun m hm => h m (List.mem_cons_of_mem _ hm)

theorem W.waits_of_dispatch {j : Job} (h : W.waitsForDispatch j = true) : j.waits := by
  unfold W.waitsForDispatch at h
  simp only [Bool.and_eq_true, Bool.or_eq_true, decide_eq_true_eq] at h
  exact h.1.1

@[simp] theorem W.dispatch_kept (w : W) (hB : w.books.Kept ρ []) : w.dispatch.books.Kept ρ [] := by
  unfold W.dispatch
  split
  next =>
    have hmem : ∀ n, n ∈ (sortBy W.passOrder (w.js.jobs.filter W.waitsForDispatch)).map Job.id →
        ∃ j, w.job n = some j ∧ j.waits := fun n hn => by
      obtain ⟨j, hj, rfl⟩ := List.mem_map.1 hn
      obtain ⟨hm, hp⟩ := List.mem_filter.1 ((perm_sortBy _ _).mem_iff.1 hj)
      exact ⟨j, hB.job_of_mem hm, W.waits_of_dispatch hp⟩
    have hids := hB.ordered.bindings.ids
    refine W.dispatchAll_kept _ w ?_ ?_ fun n hn => ?_
    · have ho := hB.ordered
      refine W.Ordered.kept { ho with free := fun j hj x hm => .inl ?_ }
      obtain ⟨m, hm, he⟩ := List.mem_map.1 hm
      obtain ⟨k, hk, hw⟩ := hmem _ ((Prod.mk.inj he).1 ▸ hm)
      rw [hB.job_eq hk hj rfl]
      exact (hB.orderly hk).waits hw
    · exact (((perm_sortBy _ _).map Job.id).nodup_iff).2 (hids.sublist (List.filter_sublist.map _))
    · obtain ⟨j, hj, hw⟩ := hmem n hn
      rcases hw with hw | ⟨hw, -⟩
      · exact ⟨hB.shut hj (.inr (.inl hw)), hB.live hj (by rw [hw]; rfl)⟩
      · exact ⟨hB.shut hj (.inr (.inr (.inl hw))), hB.live hj (by rw [hw]; rfl)⟩
  next => exact hB

end

end Sys2Proof.Machine

/-! PROOF. The law of the books where a BACKUP's part in the catalog changes: extents closed (R136). -/

namespace Sys2Proof.Machine

/-! ### Rosters with an extent opened or closed, and with a BACKUP finished -/

/-- The roster with whether a BACKUP has an extent open. -/
def Roster.write (ρ : Roster) (n : Nat) (b : Bool) : Roster :=
  ρ.map fun r => if r.id = n ∧ r.kind = .backup then { r with writes := b } else r

theorem Roster.write_iff {ρ : Roster} {n : Nat} {b : Bool} {p : Role → Prop} :
    (∀ r ∈ ρ.write n b, p r) ↔ ∀ r ∈ ρ, p (if r.id = n ∧ r.kind = .backup then { r with writes := b } else r) := List.forall_mem_map

@[simp] theorem Roster.write_live {ρ : Roster} {n m : Nat} {b : Bool} : (ρ.write n b).live m ↔ ρ.live m := by
  unfold Roster.live
  rw [Roster.write_iff]
  refine forall₂_congr fun r _ => ?_
  split <;> rfl

@[simp] theorem Roster.write_reader {ρ : Roster} {n m : Nat} {b : Bool} : (ρ.write n b).reader m ↔ ρ.reader m := by
  unfold Roster.reader
  rw [Roster.write_iff]
  refine forall₂_congr fun r _ => ?_
  split <;> rfl

@[simp] theorem Roster.write_shut {ρ : Roster} {n : Nat} : (ρ.write n false).shut n := by
  unfold Roster.shut
  rw [Roster.write_iff]
  intro r _
  split
  next => exact fun _ _ => rfl
  next h => exact fun hn hk => absurd ⟨hn, hk⟩ h

theorem Roster.write_id {ρ : Roster} {n : Nat} {b : Bool} (h : ∀ r ∈ ρ, r.id = n → r.kind = .backup → r.writes = b) : ρ.write n b = ρ := by
  refine (List.map_congr_left fun r hr => ?_).trans (List.map_id ρ)
  split
  next hh =>
    obtain ⟨hn, hk⟩ := hh
    rw [← h r hr hn hk]
    rfl
  next => rfl

/-! ### Writers -/

theorem Job.backup_eq {j : Job} {b : BackupData} (h : j.backup? = some b) : j.progress = .backup b := by
  unfold Job.backup? at h
  split at h
  next x hp => rw [hp, Option.some.inj h]
  all_goals cases h

theorem Job.backup_of {j : Job} {b : BackupData} (h : j.progress = .backup b) : j.backup? = some b := by
  unfold Job.backup?
  rw [h]

/-- An unfinished BACKUP's writer. -/
theorem Job.writer_of {j : Job} {b : BackupData} (h : j.progress = .backup b) (hf : j.state.isFinished = false) :
    j.writer? = some { session := j.sessionId, seq := b.extentSeq, isOpen := b.extentOpen } := by
  unfold Job.writer?
  rw [Job.backup_of h, Option.bind_some, hf]
  rfl

theorem mem_writers {l : List Job} {a : Writer} : a ∈ l.filterMap Job.writer? ↔ ∃ j ∈ l, j.writer? = some a := List.mem_filterMap

/-- One job's writer is replaced. -/
theorem replaces_alter {l : List Job} {n : Nat} {f : Job → Job} {j : Job} {a b : Writer} (hids : (l.map Job.id).Nodup)
    (hj : j ∈ l) (hn : j.id = n) (ha : j.writer? = some a) (hb : (f j).writer? = some b) (hs : a.session = b.session) :
    Replaces (l.filterMap Job.writer?) ((alter n f l).filterMap Job.writer?) a b := by
  have hone : ∀ k ∈ l, k.id = n → k = j := fun k hk hkn => eq_of_ids hids hk hj (hkn.trans hn.symm)
  refine ⟨mem_writers.2 ⟨j, hj, ha⟩, mem_writers.2 ⟨f j, alter_mem hj hn, hb⟩, hs, ?_, fun x hx => ?_, fun x hx hxa => ?_⟩
  · rw [List.map_filterMap, List.map_filterMap]
    refine alter_filterMap n f l _ fun k hk hkn => ?_
    rw [hone k hk hkn, ha, hb, Option.map_some, Option.map_some, hs]
  · obtain ⟨k, hk, hkx⟩ := mem_writers.1 hx
    rcases mem_alter hk with ⟨i, hi, hin, rfl⟩ | ⟨hk, -⟩
    · rw [hone i hi hin, hb] at hkx
      exact .inl (Option.some.inj hkx).symm
    · exact .inr (mem_writers.2 ⟨k, hk, hkx⟩)
  · obtain ⟨k, hk, hkx⟩ := mem_writers.1 hx
    refine mem_writers.2 ⟨k, alter_mem_other hk fun hkn => ?_, hkx⟩
    rw [hone k hk hkn, ha] at hkx
    exact hxa (Option.some.inj hkx).symm

/-! ### A BACKUP's progress changes with the catalog -/

/-- An unfinished BACKUP becomes another with its bindings kept. -/
structure Job.Rewrites (j k : Job) (b : BackupData) : Prop where
  id : k.id = j.id
  kind : k.kind = j.kind
  backup : j.kind = .backup
  progress : k.progress = .backup b
  before : j.state.isFinished = false
  after : k.state.isFinished = false
  session : k.sessionId = j.sessionId
  pins : k.pins = j.pins
  stream : k.stream = j.stream
  drive : k.drive = j.drive
  orderly : j.Orderly → k.Orderly

section
variable {ρ : Roster} {L : List (Nat × Option Drive)} {w : W} {n : Nat}

theorem W.Ordered.rewrites (h : w.Ordered ρ L) {v : W} {f : Job → Job} {j : Job} {b : BackupData} (hj : w.job n = some j)
    (hjobs : v.js.jobs = alter n f w.js.jobs) (hst : v.streams = w.streams) (hc : v.js.claims = w.js.claims) (hf : j.Rewrites (f j) b)
    (hlaw : ∀ ws' a, Replaces (w.js.jobs.filterMap Job.writer?) ws' a { session := j.sessionId, seq := b.extentSeq, isOpen := b.extentOpen } →
      j.writer? = some a → BookLaw ws' (w.js.jobs.flatMap Job.pins) v.cg) : v.Ordered (ρ.write n b.extentOpen) L := by
  have hm := W.job_mem hj
  have hid := W.job_id hj
  have hone : ∀ k ∈ w.js.jobs, k.id = n → k = j := fun k hk hn => h.kept.job_eq hj hk hn
  have ho := h.bindings.each j hm
  refine ⟨?_, fun k hk x hL => ?_, ?_, ?_⟩
  · rw [hjobs, ← h.roster]
    unfold alter Roster.write
    rw [List.map_map, List.map_map]
    refine List.map_congr_left fun k hk => ?_
    rw [Function.comp_apply, Function.comp_apply]
    by_cases hn : k.id = n
    · rw [if_pos hn, hone k hk hn, if_pos ⟨hid, hf.backup⟩]
      simp [Job.role, hf.id, hf.kind, hf.before, hf.after, hf.progress, Progress.writes]
    · rw [if_neg hn, if_neg fun hh => hn hh.1]
  · rw [hjobs] at hk
    rcases mem_alter hk with ⟨i, hi, hn, rfl⟩ | ⟨hk, -⟩
    · rw [hone i hi hn] at hL ⊢
      rw [hf.drive]
      exact h.free j hm x (hf.id ▸ hL)
    · exact h.free k hk x hL
  · rw [hjobs, hst, hc]
    refine h.bindings.alter fun k hk hn => ?_
    rw [hone k hk hn]
    exact ⟨hf.id, hf.kind, hf.stream, hf.drive, hf.orderly⟩
  · obtain ⟨b0, hb0⟩ : ∃ b0, j.progress = .backup b0 := by
      have hk := ho.progress.trans hf.backup
      cases hp : j.progress with
      | backup b0 => exact ⟨b0, rfl⟩
      | verify | restore | clean => rw [hp] at hk; cases hk
    have ha := Job.writer_of hb0 hf.before
    have hb := Job.writer_of hf.progress hf.after
    rw [hf.session] at hb
    rw [hjobs]
    refine (hlaw _ _ (replaces_alter h.bindings.ids hm hid ha hb rfl) ha).withPins fun m hm' => .inl ?_
    refine alter_pins (fun k hk hn => ?_) hm'
    rw [hone k hk hn, hf.pins]
    exact List.Subset.refl _

end

/-- The change of a BACKUP's progress that `modBackup` makes. -/
def Job.withBackup (g : BackupData → BackupData) (j : Job) : Job :=
  match j.progress with
  | .backup b => { j with progress := .backup (g b) }
  | .verify _ => j
  | .restore _ => j
  | .clean => j

theorem W.modBackup_eq (w : W) (n : Nat) (g : BackupData → BackupData) : w.modBackup n g = w.modJob n (Job.withBackup g) := rfl

theorem Job.withBackup_eq {j : Job} {b : BackupData} (h : j.progress = .backup b) (g : BackupData → BackupData) :
    j.withBackup g = { j with progress := .backup (g b) } := by
  unfold Job.withBackup
  split
  next x hx => rw [Progress.backup.inj (hx.symm.trans h)]
  all_goals next hx => cases hx.symm.trans h

theorem Job.Orderly.shuts {j : Job} (h : j.Orderly) {b c : BackupData} (hb : j.progress = .backup b) (hc : c.extentOpen = false)
    (ht : c.truncEnd = b.truncEnd) : ({ j with progress := .backup c } : Job).Orderly where
  progress := (congrArg Progress.kind hb).symm.trans h.progress
  target := h.target
  mounting _ hw := by cases hc.symm.trans hw
  held := h.held
  bound := h.bound
  waits := h.waits
  finished := h.finished
  ended := h.ended
  truncEnds d x r hd hx := by
    obtain rfl := Progress.backup.inj hd
    exact h.truncEnds b x r hb (ht ▸ hx)

section
variable {ρ : Roster} {L : List (Nat × Option Drive)} {w : W} {n : Nat}

theorem W.Ordered.shuts (h : w.Ordered ρ L) {v : W} {j : Job} {b : BackupData} (g : BackupData → BackupData) (hj : w.job n = some j)
    (hb : j.progress = .backup b) (hf : j.state.isFinished = false) (hg : (g b).extentOpen = false) (ht : (g b).truncEnd = b.truncEnd)
    (hjobs : v.js.jobs = alter n (Job.withBackup g) w.js.jobs) (hst : v.streams = w.streams) (hc : v.js.claims = w.js.claims)
    (hlaw : ∀ ws' a, Replaces (w.js.jobs.filterMap Job.writer?) ws' a { session := j.sessionId, seq := (g b).extentSeq, isOpen := false } →
      j.writer? = some a → BookLaw ws' (w.js.jobs.flatMap Job.pins) v.cg) : v.Ordered (ρ.write n false) L := by
  have ho := h.bindings.each j (W.job_mem hj)
  have hk : j.kind = .backup := by rw [← ho.progress, hb]; rfl
  have := h.rewrites (b := g b) hj hjobs hst hc
    ⟨by rw [Job.withBackup_eq hb], by rw [Job.withBackup_eq hb], hk, by rw [Job.withBackup_eq hb], hf, by rw [Job.withBackup_eq hb]; exact hf,
      by rw [Job.withBackup_eq hb], by rw [Job.withBackup_eq hb], by rw [Job.withBackup_eq hb], by rw [Job.withBackup_eq hb],
      fun ho => by rw [Job.withBackup_eq hb]; exact ho.shuts hb hg ht⟩ (by rw [hg]; exact hlaw)
  rwa [hg] at this

theorem W.extent_mem {s q : Nat} {e : ExtentRec} (h : w.extent s q = some e) : e ∈ w.cg.extents ∧ e.session = s ∧ e.sequence = q :=
  ⟨List.mem_of_find?_eq_some h, by simpa using List.find?_some h⟩

theorem W.extent_none {s q : Nat} (h : w.extent s q = none) : ∀ e ∈ w.cg.extents, ¬(e.session = s ∧ e.sequence = q) := by
  simpa [W.extent] using h

/-- What the law says of an unfinished BACKUP with an extent open: its writer, its session and what the session's extents have. -/
theorem W.Ordered.writing (h : w.Ordered ρ L) {j : Job} {b : BackupData} (hj : w.job n = some j) (hb : j.progress = .backup b)
    (hf : j.state.isFinished = false) : ∃ x ∈ w.cg.sessions, j.sessionId = some x.id ∧ w.sessionOf n = x.id ∧
      ({ session := some x.id, seq := b.extentSeq, isOpen := b.extentOpen } : Writer) ∈ w.js.jobs.filterMap Job.writer? := by
  have ha := mem_writers.2 ⟨j, W.job_mem hj, Job.writer_of hb hf⟩
  obtain ⟨x, hx, hs, -⟩ := h.law.session _ ha
  refine ⟨x, hx, hs, ?_, hs ▸ ha⟩
  unfold W.sessionOf
  rw [hj, Option.bind_some, show j.sessionId = some x.id from hs]
  rfl

/-- An extent of a writer's session that is open is the one it writes. -/
theorem BookLaw.open_seq {ws : List Writer} {pins : List Nat} {c : Catalog} (h : BookLaw ws pins c) {a : Writer} (ha : a ∈ ws) {e : ExtentRec}
    (he : e ∈ c.extents) (hs : a.session = some e.session) (ho : e.isOpen = true) : e.sequence = a.seq := by
  obtain ⟨b, hb, hbs, -, hq⟩ := h.opened e he ho
  rw [h.writer_unique ha hb (hs.trans hbs.symm)]
  exact hq.symm

theorem W.freeExtent_cg (w : W) {s q : Nat} {e : ExtentRec} (he : w.extent s q = some e) : (w.freeExtent s q).books =
    ({ w with cg := { w.cg with extents := w.cg.extents.filter fun x => !(decide (x.session = s) && decide (x.sequence = q)) } } : W).books := by
  unfold W.freeExtent
  rw [he]
  simp

theorem W.modJob_congr {u v : W} (h : u.books = v.books) (n : Nat) {f F : Job → Job} (hf : ∀ j, (f j).plain = F j.plain) :
    (u.modJob n f).books = (v.modJob n f).books := by
  rw [W.modJob_alter u n hf, W.modJob_alter v n hf, h]

/-- The extent record that a BACKUP closes. -/
def closedAs (s q : Nat) (continues endMark : Bool) (e : ExtentRec) : ExtentRec :=
  if e.session = s ∧ e.sequence = q then { e with continues := continues, endMark := endMark, isOpen := false } else e

theorem closedAs_eq (s q : Nat) (continues endMark : Bool) (e : ExtentRec) :
    (closedAs s q continues endMark e).session = e.session ∧ (closedAs s q continues endMark e).sequence = e.sequence ∧
      (closedAs s q continues endMark e).blockCount = e.blockCount ∧ ((closedAs s q continues endMark e).Counted ↔ e.Counted) ∧
      (closedAs s q continues endMark e).isOpen = (e.isOpen && !(decide (e.session = s ∧ e.sequence = q))) := by
  unfold closedAs
  split
  next h => exact ⟨rfl, rfl, rfl, Iff.rfl, by simp [h]⟩
  next h => exact ⟨rfl, rfl, rfl, Iff.rfl, by simp [h]⟩

/-- An extent with blocks is closed (R136). -/
theorem BookLaw.closeOne {ws : List Writer} {pins : List Nat} {c : Catalog} (h : BookLaw ws pins c) {e : ExtentRec} (he : e ∈ c.extents)
    (hpos : 0 < e.blockCount) (continues endMark : Bool) :
    BookLaw ws pins { c with extents := c.extents.map (closedAs e.session e.sequence continues endMark) } := by
  refine h.mapExtents fun f hf => ?_
  obtain ⟨h1, h2, h3, h4, h5⟩ := closedAs_eq e.session e.sequence continues endMark f
  refine ⟨h1, h2, fun hop => ?_, h4.2 (h.objects f hf), fun hcl => ?_⟩
  · rw [h5] at hop
    exact (Bool.and_eq_true _ _ ▸ hop).1
  · rw [h3]
    by_cases hfe : f.session = e.session ∧ f.sequence = e.sequence
    · rw [h.extent_unique hf he hfe.1 hfe.2]
      exact hpos
    · refine h.kept f hf ?_
      rw [h5] at hcl
      simpa [hfe] using hcl

/-- The open extent is closed, or freed, and its BACKUP has none open (R136). -/
theorem W.closeExtent_kept (hB : w.books.Kept ρ L) (hl : ρ.live n) (continues endMark : Bool) :
    (w.closeExtent n continues endMark).books.Kept (ρ.write n false) L := by
  have hsame : (∀ j ∈ w.js.jobs, j.id = n → j.kind = .backup → j.progress.writes = false) → w.books.Kept (ρ.write n false) L := fun hh => by
    rw [Roster.write_id ((hB.roles_iff (p := fun r => r.kind = .backup → r.writes = false)).2 hh)]
    exact hB
  unfold W.closeExtent
  split
  next hnone =>
    refine hsame fun j hj hn hk => ?_
    rw [W.backupData, ← hn, hB.job_of_mem hj, Option.bind_some] at hnone
    cases hp : j.progress with
    | backup b => cases (Job.backup_of hp).symm.trans hnone
    | verify | restore | clean => rfl
  next b hsome =>
    obtain ⟨j, hj, hjb⟩ := Option.bind_eq_some_iff.1 hsome
    have hb := Job.backup_eq hjb
    have ho := hB.ordered
    have hk : j.kind = .backup := by rw [← (hB.orderly hj).progress, hb]; rfl
    split
    next hshut =>
      refine hsame fun k hkm hn _ => ?_
      rw [hB.job_eq hj hkm hn, hb]
      exact hshut
    next hopen =>
      have hopen : b.extentOpen = true := eq_true_of_ne_false hopen
      have hf := hB.unfinished hj hl hk
      obtain ⟨x, hx, hsx, hsid, ha⟩ := ho.writing hj hb hf
      dsimp only
      rw [hsid]
      -- the writer before and after
      have hwr := Job.writer_of hb hf
      split
      next hext =>
        have hno := W.extent_none hext
        refine W.Ordered.kept (ho.shuts (fun x => { x with extentOpen := false }) hj hb hf rfl rfl rfl rfl rfl fun ws' a hr haj => ?_)
        obtain rfl := Option.some.inj (hwr.symm.trans haj)
        refine ho.law.shutWriter hr ⟨rfl, le_refl _⟩ (fun e he hs => ?_) (fun e he hs => ?_) fun y hy hs hw => ?_
        · have hse : e.session = x.id := Option.some.inj (hs.symm.trans hsx)
          rcases ho.law.numbers _ hr.old e he hs with hlt | ⟨-, heq⟩
          · exact hlt
          · exact absurd ⟨hse, heq⟩ (hno e he)
        · refine Bool.eq_false_iff.2 fun hop => hno e he ⟨Option.some.inj (hs.symm.trans hsx), ho.law.open_seq hr.old he hs hop⟩
        · have hxy : y.id = x.id := Option.some.inj (hs.symm.trans hsx)
          have hcount := ho.law.written _ hr.old y hy hs hw
          rw [hopen, if_pos rfl] at hcount
          obtain ⟨e, he, hes, heq⟩ := ho.law.gapless y hy hw b.extentSeq (by rw [hcount]; exact Nat.lt_succ_self _)
          exact absurd ⟨hes.trans hxy, heq⟩ (hno e he)
      next e he =>
        obtain ⟨hem, hes, heq⟩ := W.extent_mem he
        rw [W.fullAtThreshold_books]
        split
        next hzero =>
          rw [W.modBackup_eq, W.modJob_congr (F := Job.withBackup fun x => { x with extentOpen := false }) (W.freeExtent_cg w he) n fun k => by
            cases hp : k.progress <;> simp [Job.withBackup, Job.plain, hp, Progress.plain]]
          refine W.Ordered.kept (ho.shuts (fun x => { x with extentOpen := false }) hj hb hf rfl rfl rfl rfl rfl fun ws' a hr haj => ?_)
          obtain rfl := Option.some.inj (hwr.symm.trans haj)
          rw [← hes, ← heq]
          exact ho.law.freeOpen hr ⟨rfl, hopen, rfl⟩ hem (hsx.trans (congrArg some hes.symm)) heq
        next hpos =>
          refine W.Ordered.kept (ho.shuts (fun x => { x with extentOpen := false, extentSeq := x.extentSeq + 1 }) hj hb hf rfl rfl rfl rfl
            rfl fun ws' a hr haj => ?_)
          obtain rfl := Option.some.inj (hwr.symm.trans haj)
          have hclosed := closedAs_eq x.id b.extentSeq continues endMark
          have hlaw : BookLaw (w.js.jobs.filterMap Job.writer?) (w.js.jobs.flatMap Job.pins)
              { w.cg with extents := w.cg.extents.map (closedAs x.id b.extentSeq continues endMark) } :=
            hes ▸ heq ▸ ho.law.closeOne hem (Nat.pos_of_ne_zero hpos) continues endMark
          refine hlaw.shutWriter hr ⟨rfl, Nat.le_succ _⟩ (fun f hfm hs => ?_) (fun f hfm hs => ?_) fun y hy hs hw => ?_
          · rcases hlaw.numbers _ hr.old f hfm hs with hlt | ⟨-, hq⟩
            · exact Nat.lt_succ_of_lt hlt
            · exact hq ▸ Nat.lt_succ_self _
          · refine Bool.eq_false_iff.2 fun hop => ?_
            have hq := hlaw.open_seq hr.old hfm hs hop
            have hse : f.session = x.id := Option.some.inj (hs.symm.trans hsx)
            obtain ⟨f0, -, rfl⟩ := List.mem_map.1 hfm
            obtain ⟨h1, h2, -, -, h5⟩ := hclosed f0
            rw [h5] at hop
            rw [h1] at hse
            rw [h2] at hq
            simp [hse, hq] at hop
          · have := hlaw.written _ hr.old y hy hs hw
            rwa [hopen, if_pos rfl] at this

end

end Sys2Proof.Machine

/-! PROOF. The law of the books where a BACKUP ends with its session (R142, R144). -/

namespace Sys2Proof.Machine

/-! ### The catalog is no matter to the release of claims -/

section
variable (w : W) (c : Catalog) (n : Nat)

theorem W.releaseCart_cg : ({ w with cg := c } : W).releaseCart n = { w.releaseCart n with cg := c } := by
  unfold W.releaseCart
  have hclaim : ∀ i, (if ({ w with cg := c } : W).claimOf i = some n then ({ w with cg := c } : W).putCartClaim i none else { w with cg := c }) =
      { (if w.claimOf i = some n then w.putCartClaim i none else w) with cg := c } := fun i => by
    show (if w.claimOf i = some n then _ else _) = _
    split
    · unfold W.putCartClaim W.modCart
      show (match w.cart i with | some c' => _ | none => _) = _
      cases w.cart i <;> rfl
    · rfl
  show (match (w.job n).bind Job.cartridge with | none => _ | some i => _) = _
  cases (w.job n).bind Job.cartridge with
  | none => rfl
  | some i =>
    dsimp only
    rw [hclaim]
    show (match w.locationOf i with | some (.drive d) => _ | some (.slot _) => _ | some .mail => _ | some .picker => _ | none => _) = _
    cases w.locationOf i with
    | none => rfl
    | some e => cases e <;> rfl

theorem W.unbind_cg : ({ w with cg := c } : W).unbind n = { w.unbind n with cg := c } := by
  unfold W.unbind
  show (match (w.job n).bind Job.stream with | none => _ | some d => _) = _
  cases (w.job n).bind Job.stream with
  | none => rfl
  | some d =>
    show W.modJob (if (w.stream d).job = some n then _ else _) n _ = _
    dsimp only
    split <;> rfl

theorem W.releaseDrive_cg : ({ w with cg := c } : W).releaseDrive n = { w.releaseDrive n with cg := c } := by
  unfold W.releaseDrive
  show (match w.job n with | none => _ | some j => _) = _
  cases w.job n with
  | none => rfl
  | some j =>
    dsimp only
    cases j.drive with
    | none => rfl
    | some d =>
      dsimp only
      rw [W.unbind_cg]
      split
      · show W.emit (W.wantDispatch (W.modJob (if (w.unbind n).driveClaim d = some n then _ else _) n _)) _ = _
        split <;> rfl
      · show W.emit (W.wantDispatch (W.modJob (if w.driveClaim d = some n then _ else _) n _)) _ = _
        split <;> rfl

theorem W.releaseBoth_cg : ({ w with cg := c } : W).releaseBoth n = { w.releaseBoth n with cg := c } := by
  unfold W.releaseBoth
  rw [W.releaseCart_cg, W.releaseDrive_cg]

theorem W.cg_releaseBoth : (w.releaseBoth n).cg = w.cg := by
  have h := congrArg (fun v : W => v.cg) (W.releaseBoth_cg w w.cg n)
  exact h

theorem W.closeJob_cg (s : JobState) (r : JobResult) : ({ w with cg := c } : W).closeJob n s r = { w.closeJob n s r with cg := c } := by
  unfold W.closeJob
  rw [W.unbind_cg]
  rfl

end

/-- A job found by its id, as far as an image of the table tells. -/
theorem W.job_of_map {α : Type} {p : Job → Nat × α} (hp : ∀ j, (p j).1 = j.id) {u v : W} (h : u.js.jobs.map p = v.js.jobs.map p) (n : Nat) :
    (u.job n).map p = (v.job n).map p := by
  have hfind : ∀ w : W, (w.job n).map p = (w.js.jobs.map p).find? fun x => decide (x.1 = n) := fun w => by
    rw [List.find?_map, W.job]
    congr 2
    exact funext fun j => by rw [Function.comp_apply, hp]
  rw [hfind, hfind, h]

/-! ### A writer ends -/

theorem writers_end {l : List Job} {n : Nat} {f : Job → Job} {j : Job} {a : Writer} (hids : (l.map Job.id).Nodup) (hj : j ∈ l)
    (hn : j.id = n) (ha : j.writer? = some a) (hf : (f j).writer? = none) :
    (l.filterMap Job.writer?).Perm (a :: (alter n f l).filterMap Job.writer?) ∧
      ((alter n f l).filterMap Job.writer?).Sublist (l.filterMap Job.writer?) := by
  induction l with
  | nil => cases hj
  | cons k l ih =>
    obtain ⟨hk, hids⟩ := List.nodup_cons.1 hids
    by_cases hkn : k.id = n
    · have hjk : j = k := by
        rcases List.mem_cons.1 hj with rfl | hj
        · rfl
        · exact absurd (List.mem_map.2 ⟨j, hj, hn.trans hkn.symm⟩) hk
      subst hjk
      have hrest : alter n f l = l := (List.map_congr_left fun i hi => if_neg fun hin =>
        hk (List.mem_map.2 ⟨i, hi, hin.trans hkn.symm⟩)).trans (List.map_id l)
      have hcons : alter n f (j :: l) = f j :: l := by
        show (if j.id = n then f j else j) :: alter n f l = _
        rw [if_pos hn, hrest]
      rw [hcons, List.filterMap_cons_some ha, List.filterMap_cons_none hf]
      exact ⟨List.Perm.refl _, List.sublist_cons_self ..⟩
    · have hjl : j ∈ l := (List.mem_cons.1 hj).resolve_left fun h => hkn (h ▸ hn)
      obtain ⟨hperm, hsub⟩ := ih hids hjl
      have hcons : alter n f (k :: l) = k :: alter n f l := by
        show (if k.id = n then f k else k) :: alter n f l = _
        rw [if_neg hkn]
      rw [hcons]
      cases hw : k.writer? with
      | none =>
        rw [List.filterMap_cons_none hw, List.filterMap_cons_none hw]
        exact ⟨hperm, hsub⟩
      | some x =>
        rw [List.filterMap_cons_some hw, List.filterMap_cons_some hw]
        exact ⟨(hperm.cons x).trans (List.Perm.swap ..), hsub.cons_cons x⟩

theorem Job.writer_of_finished {j : Job} (h : j.state.isFinished = true) : j.writer? = none := by
  unfold Job.writer?
  cases j.backup? with
  | none => rfl
  | some b => exact if_pos h

section
variable {ρ : Roster} {L : List (Nat × Option Drive)} {w : W} {n : Nat}

/-- A BACKUP with no extent open and no claims ends, and its session with it. -/
theorem W.Ordered.endsWriter (h : w.Ordered ρ ((n, none) :: L)) {j : Job} (hj : w.job n = some j) (hk : j.kind = .backup)
    (hf : j.state.isFinished = false) (hs : ρ.shut n) (hcart : j.cartridge = none) {s : JobState} (hfin : s.isFinished = true)
    (r : JobResult) {g : SessionRec → SessionRec}
    (hg : ∀ x, (g x).id = x.id ∧ (g x).origin = x.origin ∧ (g x).state ≠ .opened) :
    ∃ ρ', (({ w with cg := { w.cg with sessions := w.cg.sessions.map fun x => if x.id = w.sessionOf n then g x else x } } : W).closeJob n s
      r).Ordered ρ' L := by
  have hd : j.drive = none := h.noDrive (W.job_mem hj) (by rw [W.job_id hj]; exact List.mem_cons_self ..)
  have ho := h.kept.orderly hj
  obtain ⟨b, hb⟩ : ∃ b, j.progress = .backup b := by
    have hp := ho.progress.trans hk
    cases hj : j.progress with
    | backup b => exact ⟨b, rfl⟩
    | verify | restore | clean => rw [hj] at hp; cases hp
  obtain ⟨x, hx, hsx, hsid, -⟩ := h.writing hj hb hf
  have hwr := Job.writer_of hb hf
  have hopen : b.extentOpen = false := by
    have := h.kept.unopened hj hs hk
    rwa [hb] at this
  have hover := ho.over s r hd fun _ => ⟨hfin, hcart⟩
  have hone : ∀ k ∈ w.js.jobs, k.id = n → k = j := fun k hk hn => h.kept.job_eq hj hk hn
  obtain ⟨hperm, hsub⟩ := writers_end (f := fun k => k.over s r) h.bindings.ids (W.job_mem hj) (W.job_id hj) hwr
    (Job.writer_of_finished (j := j.over s r) hfin)
  rw [W.closeJob_cg]
  have hjobs := h.closeJob_jobs s r hj
  refine ⟨_, rfl, fun i hi x hL => ?_, h.closeJob_bindings s r hj hd hover, ?_⟩
  · have hi' : i ∈ (w.closeJob n s r).js.jobs := hi
    rw [hjobs] at hi'
    rcases mem_alter hi' with ⟨m, hm, hn, rfl⟩ | ⟨hi', -⟩
    · rw [hone m hm hn]
      exact .inl hd
    · exact h.free _ hi' x (List.mem_cons_of_mem _ hL)
  · show BookLaw ((w.closeJob n s r).js.jobs.filterMap Job.writer?) ((w.closeJob n s r).js.jobs.flatMap Job.pins) _
    rw [hjobs]
    have hnodup := (hperm.map Writer.session).nodup_iff.1 h.law.alone
    rw [List.map_cons, List.nodup_cons] at hnodup
    refine BookLaw.withPins (h.law.endSession (hperm.mem_iff.2 (List.mem_cons_self ..)) (fun a => ?_) hsub hopen fun y hy => ?_) fun m hm =>
      .inl (alter_pins (f := fun k => k.over s r) (fun _ _ _ => List.nil_subset _) hm)
    · rw [hperm.mem_iff, List.mem_cons]
      constructor
      · refine fun ha => ⟨.inr ha, fun hh => hnodup.1 ?_⟩
        rw [hh] at ha
        exact List.mem_map_of_mem ha
      · exact fun ⟨ha, hne⟩ => ha.resolve_left hne
    · rw [hsid]
      by_cases hyx : y.id = x.id
      · rw [if_pos hyx]
        obtain ⟨h1, h2, h3⟩ := hg y
        exact ⟨h1, h2, fun _ => h3, fun hne => absurd (hsx.trans (congrArg some hyx.symm)) hne⟩
      · rw [if_neg hyx]
        exact ⟨rfl, rfl, fun hh => absurd (Option.some.inj (hsx.symm.trans hh)).symm hyx, fun _ => rfl⟩

/-- See `W.Ordered.endsWriter`: the session is changed and the job finished. -/
theorem W.backupEnds (hB : w.books.Kept ρ L) (hl : ρ.live n) (hs : ρ.shut n) {j : Job} (hj : w.job n = some j) (hk : j.kind = .backup)
    {s : JobState} (hfin : s.isFinished = true) (r : JobResult) {g : SessionRec → SessionRec}
    (hg : ∀ x, (g x).id = x.id ∧ (g x).origin = x.origin ∧ (g x).state ≠ .opened) :
    ∃ ρ', ((w.modSession (w.sessionOf n) g).finishJob n s r).books.Kept ρ' L := by
  have hf := hB.unfinished hj hl hk
  have hdrop : (w.dropHeld n).books.Kept ρ L := by rwa [W.dropHeld_books]
  have hfree := W.releaseBoth_free hdrop (n := n)
  rw [W.finishJob_books (w := w.modSession (w.sessionOf n) g) hj hf]
  have hcg : (((w.modSession (w.sessionOf n) g).dropHeld n).releaseBoth n) = { (w.dropHeld n).releaseBoth n with
      cg := { ((w.dropHeld n).releaseBoth n).cg with
        sessions := ((w.dropHeld n).releaseBoth n).cg.sessions.map fun x => if x.id = w.sessionOf n then g x else x } } := by
    rw [W.cg_releaseBoth]
    exact W.releaseBoth_cg (w.dropHeld n) _ n
  rw [hcg]
  have hmap : (((w.dropHeld n).releaseBoth n).job n).map (fun k => (k.id, k.kind, k.state, k.sessionId)) =
      (w.job n).map fun k => (k.id, k.kind, k.state, k.sessionId) :=
    W.job_of_map (fun _ => rfl) (W.releaseBoth_map _ n (fun _ => rfl) (fun _ => rfl) fun _ => rfl) n
  have hcart := fun k => W.releaseBoth_cartridge (n := n) (j := k) hdrop
  revert hfree hmap hcart
  generalize (w.dropHeld n).releaseBoth n = u
  intro hfree hmap hcart
  rw [hj, Option.map_some] at hmap
  obtain ⟨k, hku, hkj⟩ := Option.map_eq_some_iff.1 hmap
  obtain ⟨-, hkind, hstate, hsess⟩ : k.id = j.id ∧ k.kind = j.kind ∧ k.state = j.state ∧ k.sessionId = j.sessionId := by
    simpa using hkj
  have hsid : w.sessionOf n = u.sessionOf n := by
    unfold W.sessionOf
    rw [hj, hku, Option.bind_some, Option.bind_some, hsess]
  rw [hsid]
  obtain ⟨ρ', h'⟩ := hfree.ordered.endsWriter hku (hkind.trans hk) (hstate ▸ hf) hs (hcart k hku) hfin r hg
  exact ⟨ρ', h'.kept⟩

end

end Sys2Proof.Machine

/-! PROOF. The law of the books through the truncation procedure, spans and the end of a session (R125, R136, R138, R142). -/

namespace Sys2Proof.Machine

/-- The law of the books holds, whatever the roles. -/
def Books.Ledger (b : Books) : Prop := ∃ ρ, b.Kept ρ []

theorem Books.Kept.ledger {ρ : Roster} {L : List (Nat × Option Drive)} {b : Books} (h : b.Kept ρ L) : b.Ledger :=
  ⟨ρ, ⟨h.roster, fun _ _ _ hm => absurd hm List.not_mem_nil, h.bindings, h.law⟩⟩

section
variable {ρ : Roster} {L : List (Nat × Option Drive)} {w : W} {n : Nat}

/-! ### The truncation procedure is called (R125) -/

/-- A BACKUP's progress changes, its part in the catalog kept; what it ends as is a finished state. -/
theorem W.modBackup_kept (hB : w.books.Kept ρ L) {g : BackupData → BackupData}
    (hg : ∀ b, (g b).extentSeq = b.extentSeq ∧ (g b).extentOpen = b.extentOpen)
    (ht : ∀ b x r, (g b).truncEnd = some (x, r) → b.truncEnd = some (x, r) ∨ x.isFinished = true) : (w.modBackup n g).books.Kept ρ L := by
  refine (hB.ordered.modJob (f := Job.withBackup g) fun j hj _ => ?_).kept
  cases hp : j.progress with
  | verify | restore | clean =>
    have he : j.withBackup g = j := by
      unfold Job.withBackup
      rw [hp]
    rw [he]
    exact ⟨rfl, rfl, List.Subset.refl _, rfl, rfl, id⟩
  | backup b =>
    obtain ⟨h1, h2⟩ := hg b
    rw [Job.withBackup_eq hp]
    refine ⟨?_, ?_, List.Subset.refl _, rfl, rfl, fun ho => ?_⟩
    · simp [Job.role, hp, Progress.writes, h2]
    · simp [Job.writer?, Job.backup?, hp, h1, h2]
    · have hw : (Progress.backup (g b)).writes = j.progress.writes := by rw [hp]; exact h2
      refine ⟨(congrArg Progress.kind hp).symm.trans ho.progress, ho.target, fun hk hh => ho.mounting hk (hw ▸ hh), ho.held, ho.bound, ho.waits,
        ho.finished, ho.ended, fun c x r hc hx => ?_⟩
      obtain rfl := Progress.backup.inj hc
      exact (ht b x r hx).elim (ho.truncEnds b x r hp) id

theorem W.dropTicketIf_kept (hB : w.books.Kept ρ L) (c : Bool) :
    (w.modJob n fun j => { j with ticket := if c then none else j.ticket }).books.Kept ρ L := by
  refine W.dropTicket_kept hB fun j => ?_
  cases c
  · exact .inr rfl
  · exact .inl rfl

@[simp] theorem W.callTruncation_kept (w : W) (n : Nat) (how : JobState × JobResult) (hB : w.books.Kept ρ L) (hf : how.1.isFinished = true) :
    (w.callTruncation n how).books.Kept ρ L := by
  unfold W.callTruncation
  split
  · exact hB
  next b _ =>
    split
    · exact hB
    · have h1 : (w.modBackup n fun x =>
          { x with truncating := true, truncEnd := some how, openObject := none,
                   ending := if x.ending = some .closeWrite then none else x.ending }).books.Kept ρ L :=
        W.modBackup_kept hB (fun _ => ⟨rfl, rfl⟩) fun _ x r hx => .inr (by rw [Option.some.inj hx] at hf; exact hf)
      dsimp only
      rw [W.emit_books]
      refine W.dropTicketIf_kept ?_ _
      rw [W.dropHeld_books]
      split
      · rwa [W.modStream_books _ _ _ fun s => by exact Stream.dropIntake_plain s]
      · exact h1

/-! ### Spans (R83, R138) -/

@[simp] theorem W.spanHandOver_kept (w : W) (n : Nat) (hB : w.books.Kept ρ []) (hl : ρ.live n) (hs : ρ.shut n) :
    (w.spanHandOver n).books.Kept ρ [] := by
  have hwait : (((w.releaseBoth n).modJob n fun k => { k with mountStep := none }).waitFor n .drive).books.Kept ρ [] := by
    have h := W.dropStep_kept (n := n) (f := fun k => { k with mountStep := none }) (W.releaseBoth_free hB (n := n)) fun _ => .inl rfl
    exact (W.waitFor_kept _ n .drive h hl hs (List.mem_cons_self ..)).weaken (List.nil_subset _)
  unfold W.spanHandOver
  dsimp only
  (repeat' split) <;> simp [hB, hs, hwait]

@[simp] theorem W.beginEarlySpan_kept (w : W) (n : Nat) (d : Drive) (hB : w.books.Kept ρ L) (hl : ρ.live n) :
    (w.beginEarlySpan n d).books.Kept ρ L := by
  unfold W.beginEarlySpan
  rw [W.emit_books, W.modBackup_books _ _ _ fun _ => by exact ⟨rfl, rfl, rfl⟩]
  refine W.setJob_kept _ _ _ _ ?_ (Roster.takes_active (.inr rfl) hl)
  rwa [W.modStream_books _ _ _ fun _ => by rfl]

@[simp] theorem W.backupReleases_kept (w : W) (n : Nat) (why : WaitReason) (hB : w.books.Kept ρ []) (hl : ρ.live n) (hs : ρ.shut n) :
    (w.backupReleases n why).books.Kept ρ [] := by
  unfold W.backupReleases
  rw [W.emit_books]
  have hd : (w.dropHeld n).books.Kept ρ [] := by rwa [W.dropHeld_books]
  have h := W.dropStep_kept (n := n) (f := fun k => { k with mountStep := none, ticket := none }) (W.releaseBoth_free hd (n := n))
    fun _ => .inr rfl
  exact (W.waitFor_kept _ n why h hl hs (List.mem_cons_self ..)).weaken (List.nil_subset _)

/-! ### Writing ends (R125, R136, R141) -/

theorem W.truncWritten_kept (w : W) (n : Nat) (endMark : Bool) (hB : w.books.Kept ρ L) (hl : ρ.live n) :
    (w.truncWritten n endMark).books.Kept (ρ.write n false) L := by
  have h := W.closeExtent_kept hB hl false endMark
  unfold W.truncWritten
  dsimp only
  rw [W.emit_books]
  split <;> simpa using h

theorem W.loseWrite_kept (w : W) (n : Nat) (wasWrite : Bool) (hB : w.books.Kept ρ []) (hl : ρ.live n) :
    (w.loseWrite n wasWrite).books.Kept (ρ.write n false) [] := by
  unfold W.loseWrite
  dsimp only
  refine W.backupReleases_kept _ _ _ ?_ (by simpa using hl) (by simp)
  rw [W.modBackup_books _ _ _ fun _ => by exact ⟨rfl, rfl, rfl⟩, W.setEnding_books]
  refine W.closeExtent_kept ?_ hl true false
  split <;> simpa using hB

theorem W.closingTruncated_ledger (w : W) (n : Nat) (endMark : Bool) (hB : w.books.Kept ρ []) (hl : ρ.live n) :
    (w.closingTruncated n endMark).books.Ledger := by
  unfold W.closingTruncated
  split
  · rw [W.emit_books, W.setEnding_books]
    exact hB.ledger
  · exact (W.truncWritten_kept w n false hB hl).ledger

/-! ### The session's end (R142, R144) -/

/-- A BACKUP is in the roster. -/
def Roster.backup (ρ : Roster) (n : Nat) : Prop := ∃ r ∈ ρ, r.id = n ∧ r.kind = .backup

theorem Roster.write_backup {ρ : Roster} {n m : Nat} {b : Bool} (h : ρ.backup m) : (ρ.write n b).backup m := by
  obtain ⟨r, hr, hid, hk⟩ := h
  refine ⟨_, List.mem_map_of_mem hr, ?_⟩
  split <;> exact ⟨hid, hk⟩

theorem Books.Kept.backup (hB : w.books.Kept ρ L) {j : Job} (hj : w.job n = some j) (hk : j.kind = .backup) : ρ.backup n := by
  rw [← hB.ordered.roster]
  exact ⟨j.role, List.mem_map_of_mem (W.job_mem hj), W.job_id hj, hk⟩

theorem Books.Kept.of_backup (hB : w.books.Kept ρ L) (h : ρ.backup n) : ∃ j, w.job n = some j ∧ j.kind = .backup := by
  obtain ⟨r, hr, hid, hk⟩ := h
  rw [← hB.ordered.roster] at hr
  obtain ⟨j, hj, rfl⟩ := List.mem_map.1 hr
  exact ⟨j, hid ▸ hB.job_of_mem hj, hk⟩

/-- The jobs with the sessions they work on. -/
def Books.sessions (b : Books) : List (Nat × Option Nat) := b.jobs.map fun j => (j.id, j.sessionId)

theorem W.sessions_eq (w : W) : w.books.sessions = w.js.jobs.map fun j => (j.id, j.sessionId) := List.map_map ..

theorem W.sessionOf_eq {u v : W} (h : u.books.sessions = v.books.sessions) (n : Nat) : u.sessionOf n = v.sessionOf n := by
  rw [W.sessions_eq, W.sessions_eq] at h
  have hs : ∀ w : W, (w.job n).bind Job.sessionId = ((w.job n).map fun j => (j.id, j.sessionId)).bind Prod.snd := fun w => by
    cases w.job n <;> rfl
  unfold W.sessionOf
  rw [hs, hs, W.job_of_map (fun _ => rfl) h]

theorem W.modBackup_sessions (w : W) (n : Nat) (g : BackupData → BackupData) : (w.modBackup n g).books.sessions = w.books.sessions := by
  rw [W.sessions_eq, W.sessions_eq]
  refine W.modJob_map w n (f := Job.withBackup g) fun j => ?_
  unfold Job.withBackup
  split <;> rfl

theorem W.closeExtent_sessions (w : W) (n : Nat) (continues endMark : Bool) :
    (w.closeExtent n continues endMark).books.sessions = w.books.sessions := by
  unfold W.closeExtent
  split
  · rfl
  · split
    · rfl
    · dsimp only
      split
      · exact W.modBackup_sessions ..
      next e he =>
        rw [W.fullAtThreshold_books]
        split
        · rw [W.modBackup_sessions, W.freeExtent_cg w he]
          rfl
        · rw [W.modBackup_sessions]
          rfl

theorem W.sessionCloses_ledger (w : W) (n : Nat) (auto : Bool) (hB : w.books.Kept ρ []) (hb : ρ.backup n) (hl : ρ.live n)
    (hs : ρ.shut n) : (w.sessionCloses n auto).books.Ledger := by
  obtain ⟨j, hj, hk⟩ := hB.of_backup hb
  obtain ⟨ρ', h⟩ := W.backupEnds hB hl hs hj hk (s := .done) rfl .ok (g := fun s => { s with state := .closed }) fun _ => ⟨rfl, rfl, nofun⟩
  unfold W.sessionCloses
  dsimp only
  split
  · rw [W.emit_books]
    exact h.ledger
  · exact h.ledger

end

end Sys2Proof.Machine

/-! PROOF. The law of the books through what a BACKUP does: extents begun and written, the hand-over, the sequences of the end mark
(R125, R133 to R141). -/

namespace Sys2Proof.Machine

section
variable {ρ : Roster} {L : List (Nat × Option Drive)} {w : W} {n : Nat}

/-! ### The hand-over (R144) -/

theorem W.note_modSession (w : W) (s : Nat) (f : SessionRec → SessionRec) (x : Notice) :
    (w.modSession s f).note x = (w.note x).modSession s f := rfl

theorem W.notes_modSession (w : W) (s : Nat) (f : SessionRec → SessionRec) (g : Nat → Notice) (l : List Nat) :
    l.foldl (fun (v : W) o => v.note (g o)) (w.modSession s f) = (l.foldl (fun (v : W) o => v.note (g o)) w).modSession s f :=
  List.foldl_hom (fun v : W => v.modSession s f) fun v o => W.note_modSession v s f (g o)

@[simp] theorem W.notes_books (w : W) (g : Nat → Notice) (l : List Nat) :
    (l.foldl (fun (v : W) o => v.note (g o)) w).books = w.books := W.books_foldl _ (fun v o => W.note_books v (g o)) l w

theorem Job.truncEnd_finished {j : Job} (h : j.Orderly) {b : BackupData} (hb : j.progress = .backup b) :
    (b.truncEnd.getD (.failed, .truncated)).1.isFinished = true := by
  cases ht : b.truncEnd with
  | none => rfl
  | some x => exact h.truncEnds b x.1 x.2 hb ht

theorem W.handOver_ledger (w : W) (n : Nat) (hB : w.books.Kept ρ []) (hl : ρ.live n) : (w.handOver n).books.Ledger := by
  unfold W.handOver
  split
  · exact hB.ledger
  next j hj =>
    split
    · exact hB.ledger
    next b hb =>
      have hp := Job.backup_eq hb
      have hk : j.kind = .backup := by rw [← (hB.orderly hj).progress, hp]; rfl
      have hfin := Job.truncEnd_finished (hB.orderly hj) hp
      dsimp only
      rw [W.notes_modSession _ _ _ fun o => .objectLost (w.sessionOf n) o _]
      have hclosed : (((unsecured b).foldl (fun (v : W) o => v.note
          (.objectLost (w.sessionOf n) o (b.truncEnd.getD (.failed, .truncated)).2)) (w.closeExtent n false false)).modBackup n
            fun x => { x with part := none, ending := none }).books = (w.closeExtent n false false).books := by
        rw [W.modBackup_books _ _ _ fun _ => by exact ⟨rfl, rfl, rfl⟩, W.notes_books]
      have hkept := W.closeExtent_kept hB hl false false
      have hsid : w.sessionOf n = _ := (W.sessionOf_eq ((congrArg Books.sessions hclosed).trans (W.closeExtent_sessions w n false false)) n).symm
      rw [← hclosed] at hkept
      have hb' := Roster.write_backup (b := false) (n := n) (hB.backup hj hk)
      obtain ⟨k, hkj, hkk⟩ := hkept.of_backup hb'
      obtain ⟨ρ', h⟩ := W.backupEnds hkept (Roster.write_live.2 hl) Roster.write_shut hkj hkk hfin
        (b.truncEnd.getD (.failed, .truncated)).2 (g := fun s => { s with state := .truncated }) fun _ => ⟨rfl, rfl, nofun⟩
      rw [← hsid] at h
      split
      · rw [W.returnLeft_books]
        exact h.ledger
      · exact h.ledger

/-! ### Blocks written (R134, R135) -/

theorem W.modExtent_kept (hB : w.books.Kept ρ L) (s q : Nat) {g : ExtentRec → ExtentRec}
    (hg : ∀ e ∈ w.cg.extents, (g e).session = e.session ∧ (g e).sequence = e.sequence ∧ ((g e).isOpen = true → e.isOpen = true) ∧
      (g e).Counted ∧ ((g e).isOpen = false → 0 < (g e).blockCount)) : (w.modExtent s q g).books.Kept ρ L := by
  have ho := hB.ordered
  refine W.Ordered.kept { ho with law := ho.law.mapExtents fun e he => ?_ }
  split
  · exact hg e he
  · exact ⟨rfl, rfl, id, ho.law.objects e he, ho.law.kept e he⟩

/-- The counts of a block's frames fit the objects as the extent's did. -/
theorem ExtentRec.Counted.frames {e : ExtentRec} (h : e.Counted) (l : List Frame) :
    ((e.firstObject.or (l.head?.map fun f => f.header.object)) = none ↔ ((l.getLast?.map fun f => f.header.object).or e.lastObject) = none) ∧
      (min (e.chunkFrames + l.length) max32 = 0 ↔ (e.firstObject.or (l.head?.map fun f => f.header.object)) = none) := by
  obtain ⟨h1, h2⟩ := h
  have hmax : 0 < max32 := by decide
  cases l with
  | nil =>
    simp only [List.head?_nil, List.getLast?_nil, Option.map_none, Option.or_none, Option.none_or, List.length_nil, Nat.add_zero]
    refine ⟨h1, ?_⟩
    rw [← h2]
    omega
  | cons x l =>
    have hlast : ∃ y, (x :: l).getLast? = some y := ⟨_, List.getLast?_eq_some_getLast (List.cons_ne_nil x l)⟩
    obtain ⟨y, hy⟩ := hlast
    simp [hy]
    omega

@[simp] theorem W.countBlock_kept (w : W) (n i : Nat) (buf : Buffer) (hB : w.books.Kept ρ L) : (w.countBlock n i buf).books.Kept ρ L := by
  unfold W.countBlock
  dsimp only
  rw [W.modSession_books _ _ _ fun _ => by rfl]
  have hopen : ∀ v : W, v.books.Kept ρ L → (if v.mediaOf i = some .blank then v.setMedia i .opened .blockWrite else v).books.Kept ρ L :=
    fun v hv => by split <;> simpa using hv
  have h := hopen (w.modCart i fun c =>
    { c with blocksUsed := .known (buf.index + 1), rawBytes := cap64 (c.rawBytes + rawOf buf.chunks),
             codedBytes := cap64 (c.codedBytes + codedOf buf.chunks) }) (by simpa using hB)
  exact W.modExtent_kept h _ _ fun e he =>
    ⟨rfl, rfl, id, (h.ordered.law.objects e he).frames buf.chunks, fun _ => Nat.succ_pos _⟩

@[simp] theorem W.writeOk_kept (w : W) (n : Nat) (d : Drive) (k : BufId) (hB : w.books.Kept ρ L) : (w.writeOk n d k).books.Kept ρ L := by
  unfold W.writeOk
  dsimp only
  split
  · exact hB
  next i _ =>
    have h := W.countBlock_kept w n i ((w.stream d).buf k) hB
    have hfold : ((((w.stream d).buf k).chunks.foldl (W.secureFrame n (w.labelOf i) ((w.stream d).buf k).index)
        (w.countBlock n i ((w.stream d).buf k))).modStream d fun s => s.putBuf k freeBuffer).books.Kept ρ L := by
      rw [W.modStream_books _ _ _ fun s => by exact Stream.putBuf_plain s k freeBuffer, W.books_foldl _ fun v f => by simp]
      exact h
    split <;> simpa using hfold

/-! ### The end of the end-mark sequence (R136, R138, R140, R142) -/

theorem W.endMarkDone_ledger (w : W) (n : Nat) (why : EndFor) (endMark : Bool) (hB : w.books.Kept ρ []) (hl : ρ.live n) (hb : ρ.backup n) :
    (w.endMarkDone n why endMark).books.Ledger := by
  have hl' : (ρ.write n false).live n := Roster.write_live.2 hl
  have hclosed := fun c e => W.closeExtent_kept (n := n) hB hl c e
  unfold W.endMarkDone
  split
  next continues =>
    exact (W.spanHandOver_kept _ n (by rw [W.setEnding_books]; exact hclosed ..) hl' Roster.write_shut).ledger
  next =>
    refine (W.spanHandOver_kept _ n ?_ hl' Roster.write_shut).ledger
    rw [W.modBackup_books _ _ _ fun _ => by exact ⟨rfl, rfl, rfl⟩]
    exact W.setJob_kept _ _ _ _ (by rw [W.setEnding_books]; exact hclosed ..) (Roster.takes_active (.inr rfl) hl')
  next =>
    split
    · exact W.closingTruncated_ledger w n endMark hB hl
    · refine W.sessionCloses_ledger _ n _ ?_ (Roster.write_backup hb) hl' Roster.write_shut
      split
      · rw [W.modStream_books _ _ _ fun _ => by rfl, W.setEnding_books]
        exact hclosed ..
      · rw [W.setEnding_books]
        exact hclosed ..
  next => exact (W.truncWritten_kept w n endMark hB hl).ledger

/-! ### A BACKUP loses its drive (R82, R126, R141) -/

theorem W.backupLetsGo_ledger (w : W) (n : Nat) (wasWrite absent : Bool) (hB : w.books.Kept ρ []) (hl : ρ.live n) :
    (w.backupLetsGo n wasWrite absent).books.Ledger := by
  unfold W.backupLetsGo
  split
  · exact hB.ledger
  next j hj =>
    split
    · exact hB.ledger
    next b hb =>
      split
      · exact (W.truncWritten_kept _ n false (by simpa using hB) hl).ledger
      · split
        · rw [W.emit_books]
          exact hB.ledger
        · split
          · exact (W.loseWrite_kept w n wasWrite hB hl).ledger
          next hno =>
            have hopen : b.extentOpen = false := by simp at hno; exact hno.1
            have hs : ρ.shut n := hB.roles hj (p := fun r => r.kind = .backup → r.writes = false) fun _ => by
              show j.progress.writes = false
              rw [Job.backup_eq hb]
              exact hopen
            exact (W.backupReleases_kept w n _ hB hl hs).ledger

theorem W.backupOp_ledger (w : W) (n : Nat) (d : Drive) (op : PortOp) (r : OpOutcome) (hB : w.books.Kept ρ []) (hl : ρ.live n)
    (hb : ρ.backup n) : (w.backupOp n d op r).books.Ledger := by
  have hsame := hB.ledger
  have hgo := fun x => W.backupLetsGo_ledger w n x false hB hl
  have hend := fun why m => W.endMarkDone_ledger (w.markNoEnd n m) n why (!m) (by simpa using hB) hl hb
  have htr := fun m => (W.truncWritten_kept (w.markNoEnd n m) n (!m) (by simpa using hB) hl).ledger
  unfold W.backupOp
  dsimp only
  split
  · split
    · exact (W.writeOk_kept w n d _ hB).ledger
    · simpa using hsame
    · exact hgo true
  · split
    · split
      · simpa using hsame
      · split
        · exact hend _ true
        · simpa using hsame
      · split
        · exact hend _ true
        · simpa using hsame
      · exact hgo false
    · exact hsame
  · split
    · split
      · exact hend _ false
      · exact hend _ true
      · exact hgo false
    · split
      · exact htr false
      · exact htr true
      · exact hgo false
    · exact hsame
  all_goals exact hsame

end

end Sys2Proof.Machine

/-! PROOF. The law of the books through the beginning of an extent (R133), frames from the coder (R116), and what a BACKUP does next
(R125, R138, R142). -/

namespace Sys2Proof.Machine

section
variable {ρ : Roster} {L : List (Nat × Option Drive)} {w : W} {n : Nat}

@[simp] theorem W.attach_kept (w : W) (n : Nat) (d : Drive) (b : BackupData) (i first : Nat) (hB : w.books.Kept ρ L) (hl : ρ.live n) :
    (w.attach n d b i first).books.Kept ρ L := by
  unfold W.attach
  dsimp only
  rw [W.emit_books]
  have h : ∀ f a, ((w.putStream d (({ (w.stream d).freeBuffers with attached := some a } : Stream).openBlock .a a f)).placeAllCarry
      d).1.books.Kept ρ L := fun f a => by
    rw [W.placeAllCarry_books, W.putStream_books]
    · exact hB
    · rw [Stream.openBlock_plain]
      exact Stream.freeBuffers_plain (w.stream d)
  split
  · exact W.beginEarlySpan_kept _ _ _ (h ..) hl
  · exact h ..
  · exact h ..

/-- The progress of a BACKUP whose extent begins. -/
def BackupData.opens (b : BackupData) : BackupData := { b with extentOpen := true, spanCause := none }

/-- The job as its extent begins. -/
def Job.begins (j : Job) : Job :=
  { j.withBackup BackupData.opens with mountStep := none, state := .running, waitReason := none }

theorem Job.begins_eq {j : Job} {b : BackupData} (hb : j.progress = .backup b) : j.begins =
    { j with progress := .backup b.opens, mountStep := none, state := .running, waitReason := none } := by
  unfold Job.begins
  rw [Job.withBackup_eq hb]

theorem Job.Orderly.begins {j : Job} (h : j.Orderly) {b : BackupData} (hb : j.progress = .backup b) : j.begins.Orderly := by
  have hk : j.kind = .backup := by rw [← h.progress, hb]; rfl
  rw [Job.begins_eq hb]
  refine ⟨hk.symm, h.target, fun _ _ => ⟨rfl, nofun, nofun, nofun⟩, fun _ => nofun, h.bound, fun hw => ?_, nofun, fun _ => nofun, fun c x r hc hx => ?_⟩
  · rcases hw with hw | ⟨hw, -⟩ <;> cases hw
  · obtain rfl := Progress.backup.inj hc
    exact h.truncEnds b x r hb hx

theorem W.makeExtent_cg (w : W) (e : ExtentRec) :
    (w.makeExtent e).books = ({ w with cg := { w.cg with extents := insertExtent e w.cg.extents } } : W).books := by
  unfold W.makeExtent
  rw [W.deriveSession_books, W.modCart_books]

theorem W.jobs_modCart (w : W) (i : Nat) (f : CartRec → CartRec) : (w.modCart i f).js = w.js := by
  unfold W.modCart
  split <;> rfl

theorem W.jobs_makeExtent (w : W) (e : ExtentRec) : (w.makeExtent e).js = w.js := by
  unfold W.makeExtent W.deriveSession
  exact W.jobs_modCart ..

/-- An extent begins: its record is made, and its BACKUP has it open and is RUNNING (R133). -/
theorem W.beginExtent_opens (hB : w.books.Kept ρ L) (hl : ρ.live n) (hs : ρ.shut n) {j : Job} {b : BackupData} (hj : w.job n = some j)
    (hb : j.progress = .backup b) (i first : Nat) :
    (((((w.modJob n fun k => { k with mountStep := none }).makeExtent (w.newExtent n b i first)).modBackup n
      BackupData.opens).setJob n .running none)).books.Kept (ρ.write n true) L := by
  have ho := hB.ordered
  have hk : j.kind = .backup := by rw [← (hB.orderly hj).progress, hb]; rfl
  have hf := hB.unfinished hj hl hk
  have hopen : b.extentOpen = false := by
    have := hB.unopened hj hs hk
    rwa [hb] at this
  obtain ⟨x, hx, hsx, hsid, -⟩ := ho.writing hj hb hf
  let e := w.newExtent n b i first
  let u := ((w.modJob n fun k => { k with mountStep := none }).makeExtent e).modBackup n BackupData.opens
  have hujobs : u.js.jobs = alter n (fun k => ({ k with mountStep := none } : Job).withBackup BackupData.opens) w.js.jobs := by
    refine (congrArg (alter n _) (congrArg (fun s => s.jobs) (W.jobs_makeExtent _ e))).trans ?_
    exact alter_alter fun _ => rfl
  have hid : ∀ k : Job, (({ k with mountStep := none } : Job).withBackup BackupData.opens).id = k.id := fun k => by
    unfold Job.withBackup
    split <;> rfl
  have huids : (u.js.jobs.map Job.id).Nodup := by
    rw [hujobs, alter_map _ _ _ _ fun k _ _ => hid k]
    exact ho.bindings.ids
  have hu := W.job_of_alter hujobs hid hj
  have hplain : ∀ k : Job, (k.withBackup BackupData.opens).plain = k.plain.withBackup BackupData.opens := fun k => by
    cases hp : k.progress <;> simp [Job.withBackup, Job.plain, hp, Progress.plain] <;> rfl
  have hbegin : ∀ k : Job, k.begins.plain = k.plain.begins := fun k => by
    cases hp : k.progress <;> simp [Job.begins, Job.withBackup, Job.plain, hp, Progress.plain] <;> rfl
  have hbooks : (u.setJob n .running none).books =
      (({ w with cg := { w.cg with extents := insertExtent e w.cg.extents } } : W).modJob n Job.begins).books := by
    have hub : u.books = ({ (w.modJob n fun k => { k with mountStep := none }) with
        cg := { w.cg with extents := insertExtent e w.cg.extents } }.modJob n (Job.withBackup BackupData.opens)).books := by
      refine W.modJob_congr ?_ n hplain
      exact W.makeExtent_cg ..
    have hjobs : u.books.jobs = alter n (fun k => ({ k with mountStep := none } : Job).withBackup BackupData.opens) w.books.jobs := by
      rw [hub, W.modJob_alter _ n hplain]
      refine (congrArg (alter n _) (congrArg Books.jobs
        (W.modJob_alter (F := fun k => { k with mountStep := none }) w n fun _ => by rfl))).trans ?_
      exact alter_alter fun _ => rfl
    rw [W.setJob_alter huids hu, W.modJob_alter _ n hbegin, hjobs, alter_alter hid, hub]
    refine congrArg (fun l => ({ w.books with jobs := l, cg := _ } : Books)) (alter_congr fun k _ _ => ?_)
    cases hp : k.progress <;> simp [Job.begins, Job.withBackup, hp]
  show (u.setJob n .running none).books.Kept _ L
  rw [hbooks]
  refine W.Ordered.kept (ho.rewrites (f := Job.begins) (b := b.opens) hj rfl rfl rfl ?_ fun ws' a hr ha => ?_)
  · rw [Job.begins_eq hb]
    exact ⟨rfl, rfl, hk, rfl, hf, rfl, rfl, rfl, rfl, rfl, fun h => Job.begins_eq hb ▸ h.begins hb⟩
  · obtain rfl := Option.some.inj ((Job.writer_of hb hf).symm.trans ha)
    exact ho.law.insertOpen hr ⟨rfl, hopen, rfl⟩ ⟨hsx.trans (congrArg some hsid.symm), rfl⟩ rfl ⟨by simp [e, W.newExtent], by simp [e, W.newExtent]⟩

theorem W.beginExtent_ledger (w : W) (n : Nat) (hB : w.books.Kept ρ []) (hl : ρ.live n) (hs : ρ.shut n) :
    (w.beginExtent n).books.Ledger := by
  have hstep := W.dropStep_kept (n := n) (f := fun k => { k with mountStep := none }) hB fun _ => .inl rfl
  unfold W.beginExtent
  split
  · exact hB.ledger
  next j hj =>
    split
    next b d i hb _ _ =>
      dsimp only
      split
      · exact (W.callTruncation_kept _ n _ hstep rfl).ledger
      · split
        · exact (W.setJob_kept _ n .waiting (some .catalog) hstep ⟨rfl, hl, fun _ => hs, nofun, by simp⟩).ledger
        · exact (W.attach_kept _ n d b i _ (W.beginExtent_opens hB hl hs hj (Job.backup_eq hb) i _) (Roster.write_live.2 hl)).ledger
    next => exact hB.ledger

/-! ### Extent records that BACKUPs wait for (R133, R150) -/

theorem W.takeRecord_ledger (w : W) (n : Nat) (hB : w.books.Ledger) : (w.takeRecord n).books.Ledger := by
  obtain ⟨ρ, hB⟩ := hB
  unfold W.takeRecord
  split
  next h =>
    obtain ⟨j, hj, hw⟩ := (Option.any_eq_true ..).1 h.2
    unfold W.waitsForRecord at hw
    simp only [Bool.and_eq_true, decide_eq_true_eq] at hw
    exact W.beginExtent_ledger w n hB (hB.live hj (by rw [hw.1.1]; rfl)) (hB.shut hj (.inr (.inr (.inl hw.1.1))))
  next => exact hB.ledger

theorem Books.ledger_foldl {α : Type} (f : W → α → W) (h : ∀ w a, w.books.Ledger → (f w a).books.Ledger) (l : List α) (w : W)
    (hB : w.books.Ledger) : (l.foldl f w).books.Ledger := by
  induction l generalizing w with
  | nil => exact hB
  | cons a l ih => exact ih (f w a) (h w a hB)

@[simp] theorem W.serveCatalogWaits_ledger (w : W) (hB : w.books.Ledger) : w.serveCatalogWaits.books.Ledger :=
  Books.ledger_foldl _ W.takeRecord_ledger _ w hB

/-! ### Frames from the coder (R114, R116) -/

theorem Books.Kept.live_of_stream (hB : w.books.Kept ρ L) {j : Job} (hj : w.job n = some j) {d : Drive} (hs : j.stream = some d) :
    ρ.live n := by
  refine hB.live hj (Bool.eq_false_iff.2 fun hf => ?_)
  cases ((hB.orderly hj).finished hf).2.symm.trans hs

/-- The job a stream is bound to. -/
theorem Books.Kept.bound (hB : w.books.Kept ρ L) {d : Drive} (hs : (w.stream d).job = some n) : ∃ j, w.job n = some j ∧ j.stream = some d := by
  obtain ⟨j, hj, rfl, hjs⟩ := hB.ordered.bindings.named d n hs
  exact ⟨j, hB.job_of_mem hj, hjs⟩

@[simp] theorem W.takeFrame_kept (w : W) (n : Nat) (d : Drive) (f : Frame) (hB : w.books.Kept ρ L) (hl : ρ.live n) :
    (w.takeFrame n d f).books.Kept ρ L := by
  have hcarry : ∀ (v : W) (c : Stream → List Frame), v.books.Kept ρ L → (v.modStream d fun t => { t with carry := c t }).books.Kept ρ L :=
    fun v c hv => by rwa [W.modStream_books _ _ _ fun _ => by rfl]
  have hplaced : (w.placeFrame d f).1.books.Kept ρ L := by rwa [W.placeFrame_books]
  unfold W.takeFrame
  dsimp only
  split
  · rw [W.emit_books]
    exact hcarry _ _ hB
  · rw [W.emit_books]
    split
    · exact hplaced
    · exact W.beginEarlySpan_kept _ _ _ (hcarry _ _ hplaced) hl
    · exact hcarry _ _ hplaced

@[simp] theorem W.encodingEnds_kept (w : W) (hB : w.books.Kept ρ L) : w.encodingEnds.books.Kept ρ L := by
  have hidle : w.coderIdle.books.Kept ρ L := hB
  unfold W.encodingEnds
  split
  · exact hB
  next busy _ =>
    split
    · exact hB
    · dsimp only
      split
      next d b hd _ =>
        obtain ⟨j, hj, hjs⟩ := Option.bind_eq_some_iff.1 hd
        split
        · refine W.takeFrame_kept _ _ _ _ ?_ (hB.live_of_stream hj hjs)
          rw [W.modStream_books _ _ _ fun _ => by rfl, W.modBackup_books _ _ _ fun _ => by exact ⟨rfl, rfl, rfl⟩]
          exact hidle
        · exact hidle
      next => exact hidle

@[simp] theorem W.resumePlacing_kept (w : W) (d : Drive) (hB : w.books.Kept ρ L) : (w.resumePlacing d).books.Kept ρ L := by
  unfold W.resumePlacing
  dsimp only
  split
  · exact hB
  next n hn =>
    obtain ⟨j, hj, hjs⟩ := hB.bound hn
    have hl := hB.live_of_stream hj hjs
    have hall : (w.placeAllCarry d).1.books.Kept ρ L := by rwa [W.placeAllCarry_books]
    split
    · exact hB
    · split
      · split
        · rwa [W.emit_books]
        · rw [W.emit_books]
          split
          · exact W.beginEarlySpan_kept _ _ _ hall hl
          · exact hall
          · exact hall
      · split
        · exact hB
        next f _ =>
          split
          · rw [W.emit_books, W.modStream_books _ _ _ fun s => by exact Stream.closeOpen_plain s, W.placeFrame_books,
              W.modStream_books _ _ _ fun _ => by rfl]
            exact hB
          · exact hB
          · exact hB

/-! ### What a BACKUP does next (R125, R138, R142) -/

theorem W.truncAdvance_ledger (w : W) (n : Nat) (b : BackupData) (hB : w.books.Kept ρ []) (hl : ρ.live n) :
    (w.truncAdvance n b).books.Ledger := by
  have hsame := hB.ledger
  unfold W.truncAdvance
  split
  · split
    · exact hsame
    · exact W.handOver_ledger w n hB hl
  next d _ =>
    dsimp only
    split
    · exact hsame
    · split
      · simpa using hsame
      · split
        · exact hsame
        · exact W.handOver_ledger _ n (by simpa using hB) hl

@[simp] theorem W.backupAdvance_ledger (w : W) (n : Nat) (hB : w.books.Ledger) : (w.backupAdvance n).books.Ledger := by
  obtain ⟨ρ, hB⟩ := hB
  have hsame := hB.ledger
  unfold W.backupAdvance
  split
  · exact hsame
  next j hj =>
    split
    · exact hsame
    next hf =>
      have hl := hB.live hj (eq_false_of_ne_true hf)
      split
      · exact hsame
      · split
        case h_9 =>
          split
          · exact W.truncAdvance_ledger w n _ hB hl
          · (repeat' split) <;> simpa using hsame
        all_goals (repeat' split) <;> simpa using hsame

@[simp] theorem W.advanceJob_ledger (w : W) (n : Nat) (hB : w.books.Ledger) : (w.advanceJob n).books.Ledger := by
  unfold W.advanceJob
  split
  · simpa using hB
  · exact W.backupAdvance_ledger w n hB

end

end Sys2Proof.Machine

/-! PROOF. The law of the books through changes of the catalog by the host, a probe and a REBUILD (R150, R155 to R157). -/

namespace Sys2Proof.Machine

section
variable {ρ : Roster} {L : List (Nat × Option Drive)} {w : W} {n : Nat}

theorem W.session_mem {s : Nat} {x : SessionRec} (h : w.session s = some x) : x ∈ w.cg.sessions ∧ x.id = s :=
  ⟨List.mem_of_find?_eq_some h, by simpa using List.find?_some h⟩

theorem W.session_none {s : Nat} (h : w.session s = none) : ∀ x ∈ w.cg.sessions, x.id ≠ s := by
  simpa [W.session] using h

/-- What the answer OK tells of the extent handed in and of its session (R156). -/
theorem W.accepts {e : ExtentIn} {self : Option Nat} (h : w.extentAnswer e self = .ok) :
    extentArgsBad e = false ∧ (∃ i, w.cartByLabel e.label = some i) ∧ w.wrongSession e.session = false ∧
      w.extent e.session e.sequence = none := by
  cases hargs : extentArgsBad e with
  | true =>
    unfold W.extentAnswer at h
    rw [if_pos hargs] at h
    cases h
  | false =>
    cases hi : w.cartByLabel e.label with
    | none =>
      unfold W.extentAnswer at h
      rw [if_neg (by rw [hargs]; nofun), hi] at h
      cases h
    | some i =>
      have hext := (Machine.extentAnswer_ok h hi).1
      rw [extentAnswer_eq self hargs hi] at h
      split at h
      · cases h
      next hs => exact ⟨rfl, ⟨i, rfl⟩, eq_false_of_ne_true hs, hext⟩

theorem W.wrongSession_false {s : Nat} (h : w.wrongSession s = false) {x : SessionRec} (hx : w.session s = some x) :
    x.state ≠ .opened ∧ x.origin ≠ .written := by
  unfold W.wrongSession at h
  rw [hx] at h
  simpa using h

/-- The session an extent handed in starts. -/
def W.newSession (e : ExtentIn) (origin : SessionOrigin) : SessionRec :=
  { id := e.session, hostTag := e.hostTag, state := .closed, origin := origin, pool := e.pool, codingMode := none
    objectsBegun := 0, chunkCount := 0, rawBytes := 0, codedBytes := 0, verifySummary := .unverified }

theorem ExtentIn.counted {e : ExtentIn} (h : extentArgsBad e = false) (i : Nat) : (e.record i).Counted ∧ 0 < (e.record i).blockCount := by
  unfold extentArgsBad at h
  simp only [Bool.or_eq_false_iff, decide_eq_false_iff_not] at h
  obtain ⟨⟨⟨⟨⟨⟨⟨⟨⟨⟨⟨-, -⟩, -⟩, -⟩, hcount⟩, -⟩, -⟩, -⟩, hframes⟩, -⟩, -⟩, -⟩ := h
  refine ⟨⟨?_, ?_⟩, Nat.pos_of_ne_zero hcount⟩
  · show (if e.firstObject ≠ 0 then some e.firstObject else none) = none ↔ (if e.firstObject ≠ 0 then some e.lastObject else none) = none
    split <;> simp
  · show e.chunkFrames = 0 ↔ (if e.firstObject ≠ 0 then some e.firstObject else none) = none
    have hiff : e.chunkFrames = 0 ↔ e.firstObject = 0 := by simpa using hframes
    rw [hiff]
    split <;> simp_all

/-- An extent handed in is made, with its session if there was none. -/
theorem W.takeExtent_kept (hB : w.books.Kept ρ L) {e : ExtentIn} {self : Option Nat} (h : w.extentAnswer e self = .ok)
    {origin : SessionOrigin} (ho : origin ≠ .written) :
    (w.takeExtent e origin).books.Kept ρ L ∧ ∃ x ∈ (w.takeExtent e origin).cg.sessions, x.id = e.session := by
  obtain ⟨hargs, ⟨i, hi⟩, hwrong, hext⟩ := W.accepts h
  rw [takeExtent_eq hi]
  have hBo := hB.ordered
  obtain ⟨hws, x, hx, hxid, hxs, hxo⟩ : (w.withSession e origin).Ordered ρ L ∧
      ∃ x ∈ (w.withSession e origin).cg.sessions, x.id = e.session ∧ x.state ≠ .opened ∧ x.origin ≠ .written := by
    unfold W.withSession
    cases hs : w.session e.session with
    | some x =>
      obtain ⟨hx, hxid⟩ := W.session_mem hs
      obtain ⟨h1, h2⟩ := W.wrongSession_false hwrong hs
      exact ⟨hBo, x, hx, hxid, h1, h2⟩
    | none =>
      have hmem : W.newSession e origin ∈ insertBy SessionRec.id (W.newSession e origin) w.cg.sessions :=
        (perm_insertBy _ _ _).mem_iff.2 (List.mem_cons_self ..)
      exact ⟨{ hBo with law := hBo.law.insertSession (s := W.newSession e origin) (W.session_none hs) nofun ho }, _, hmem, rfl, nofun, ho⟩
  obtain ⟨hsess, -⟩ := withSession_extents w e origin
  have hkept : ((w.withSession e origin).makeExtent (e.record i)).books.Kept ρ L := by
    obtain ⟨hcounted, hcount⟩ := ExtentIn.counted hargs i
    rw [W.makeExtent_cg]
    refine W.Ordered.kept { hws with law := hws.law.insertClosed (fun y hy hk => ?_) ⟨x, hx, hxid, hxs, hxo⟩ rfl hcounted hcount }
    rw [hsess] at hy
    obtain ⟨h1, h2⟩ := Prod.mk.inj hk
    exact W.extent_none hext y hy ⟨h1, h2⟩
  refine ⟨hkept, hkept.ordered.law.sessions (e.record i) ?_⟩
  rw [makeExtent_extents]
  exact BookLaw.mem_insert.2 (.inl rfl)

/-- A session created is pinned (R156). -/
theorem W.pinFor_kept (hB : w.books.Kept ρ L) {s : Nat} (hs : ∃ x ∈ w.cg.sessions, x.id = s) : (w.pinFor n s).books.Kept ρ L := by
  have ho := hB.ordered
  let f : Job → Job := fun j => { j with pins := if j.pins.contains s then j.pins else j.pins ++ [s] }
  refine W.Ordered.kept ⟨?_, fun k hk x hL => ?_, ho.bindings.alter fun j _ _ => ⟨rfl, rfl, rfl, rfl, fun h =>
    ⟨h.progress, h.target, h.mounting, h.held, h.bound, h.waits, h.finished, h.ended, h.truncEnds⟩⟩, ?_⟩
  · exact (alter_map n f _ Job.role fun _ _ _ => rfl).trans ho.roster
  · rcases mem_alter hk with ⟨j, hj, -, rfl⟩ | ⟨hj, -⟩
    · exact ho.free j hj x hL
    · exact ho.free k hj x hL
  · have hws : (W.pinFor w n s).js.jobs.filterMap Job.writer? = w.js.jobs.filterMap Job.writer? :=
      alter_filterMap n f _ Job.writer? fun _ _ _ => rfl
    rw [hws]
    refine ho.law.withPins fun m hm => ?_
    obtain ⟨k, hk, hmk⟩ := List.mem_flatMap.1 hm
    rcases mem_alter hk with ⟨j, hj, -, rfl⟩ | ⟨hj, -⟩
    · have hmj : m ∈ j.pins ∨ m = s := by
        by_cases hc : j.pins.contains s = true
        · exact .inl (by simpa only [hc, if_true] using hmk)
        · have : m ∈ j.pins ++ [s] := by simpa only [hc, if_false, Bool.false_eq_true] using hmk
          exact (List.mem_append.1 this).imp_right List.mem_singleton.1
      exact hmj.imp (fun h => List.mem_flatMap.2 ⟨j, hj, h⟩) fun h => by rwa [h]
    · exact .inl (List.mem_flatMap.2 ⟨k, hj, hmk⟩)

/-- Sessions change in their state, those that are OPEN left as they are. -/
theorem W.modSession_kept (hB : w.books.Kept ρ L) (s : Nat) {g : SessionRec → SessionRec} (hid : ∀ x, (g x).id = x.id)
    (hs : ∀ x, (g x).state = .opened ↔ x.state = .opened) (ho : ∀ x, (g x).origin = .written → x.origin = .written) :
    (w.modSession s g).books.Kept ρ L := by
  have hB := hB.ordered
  refine W.Ordered.kept { hB with law := hB.law.mapSessions (fun x _ => ?_) (fun x _ => ?_) fun x _ => ?_ }
  · split
    · exact hid x
    · rfl
  · split
    · exact hs x
    · rfl
  · split
    · exact ho x
    · exact id

/-! ### Extents beyond a probed end (R157) -/

theorem W.removeExtent_kept (w : W) (u : Nat) (e : ExtentRec) (hB : w.books.Kept ρ L) : (w.removeExtent u e).books.Kept ρ L := by
  let loaded (s : SessionRec) : SessionRec := if s.origin = .written then { s with origin := .loaded, codingMode := none } else s
  have horigin : ∀ x, (loaded x).origin ≠ .written ∧ (loaded x).id = x.id ∧ (loaded x).state = x.state := fun x => by
    by_cases hx : x.origin = .written
    · simp [loaded, hx]
    · simp [loaded, hx]
  have h1 : (w.modSession e.session loaded).books.Kept ρ L :=
    W.modSession_kept hB _ (fun x => (horigin x).2.1) (fun x => by rw [(horigin x).2.2]) fun x hx => absurd hx (horigin x).1
  have h2 : ((w.modSession e.session loaded).freeExtent e.session e.sequence).books.Kept ρ L := by
    cases hx : (w.modSession e.session loaded).extent e.session e.sequence with
    | none =>
      have hsame : (w.modSession e.session loaded).freeExtent e.session e.sequence = w.modSession e.session loaded := by
        unfold W.freeExtent
        rw [hx]
      rwa [hsame]
    | some x =>
      rw [W.freeExtent_cg _ hx]
      have ho := h1.ordered
      refine W.Ordered.kept { ho with law := ho.law.freeOther fun y hy hp z hz hzid => ?_ }
      have hys : y.session = e.session := by
        by_contra hne
        simp [hne] at hp
      obtain ⟨z0, -, rfl⟩ := List.mem_map.1 hz
      by_cases hze : z0.id = e.session
      · rw [if_pos hze]
        exact (horigin z0).1
      · rw [if_neg hze] at hzid
        exact absurd (hzid.trans hys) hze
  unfold W.removeExtent
  dsimp only
  rw [W.books_foldl _ fun v j => W.emit_books v _, W.note_books]
  exact h2

theorem W.probedEnd_kept (w : W) (i u : Nat) (hB : w.books.Kept ρ L) : (w.probedEnd i u).books.Kept ρ L := by
  unfold W.probedEnd
  generalize w.cg.extents.filter _ = l
  induction l generalizing w with
  | nil => exact hB
  | cons e l ih => exact ih (w.removeExtent u e) (W.removeExtent_kept w u e hB)

/-! ### A session dropped (R155) -/

/-- The books without an extent. -/
def Books.without (b : Books) (s q : Nat) : Books :=
  { b with cg := { b.cg with extents := b.cg.extents.filter fun x => !(decide (x.session = s) && decide (x.sequence = q)) } }

theorem W.books_cg (w : W) (c : Catalog) : ({ w with cg := c } : W).books = { w.books with cg := c.plain } := rfl

theorem W.without_books (w : W) (s q : Nat) :
    ({ w with cg := { w.cg with extents := w.cg.extents.filter fun x => !(decide (x.session = s) && decide (x.sequence = q)) } } : W).books =
      w.books.without s q := by
  have hfilter : (w.cg.extents.filter fun x => !(decide (x.session = s) && decide (x.sequence = q))).map ExtentRec.plain =
      (w.cg.extents.map ExtentRec.plain).filter fun x => !(decide (x.session = s) && decide (x.sequence = q)) := by
    rw [List.filter_map]
    rfl
  rw [W.books_cg]
  unfold Catalog.plain
  rw [hfilter]
  rfl

theorem W.freeExtent_books (w : W) (s q : Nat) : (w.freeExtent s q).books = w.books.without s q := by
  have hbooks := w.without_books s q
  cases he : w.extent s q with
  | some e => rw [W.freeExtent_cg w he, hbooks]
  | none =>
    have hsame : w.freeExtent s q = w := by
      unfold W.freeExtent
      rw [he]
    have hall : (w.cg.extents.filter fun x => !(decide (x.session = s) && decide (x.sequence = q))) = w.cg.extents :=
      List.filter_eq_self.2 fun x hx => by simpa [imp_iff_not_or] using W.extent_none he x hx
    rw [hsame, ← hbooks, hall]

theorem W.freeExtents_books (s : Nat) (l : List ExtentRec) (w : W) :
    (l.foldl (fun (v : W) e => v.freeExtent s e.sequence) w).books =
      { w.books with cg := { w.books.cg with
          extents := w.books.cg.extents.filter fun x => !(decide (x.session = s) && l.any fun e => decide (x.sequence = e.sequence)) } } := by
  induction l generalizing w with
  | nil => simp
  | cons e l ih =>
    rw [List.foldl_cons, ih, W.freeExtent_books]
    unfold Books.without
    dsimp only
    rw [List.filter_filter]
    congr 3
    funext x
    by_cases hs : x.session = s <;> simp [hs, Bool.and_comm]

/-- The records that stay when a session is dropped. -/
def Catalog.dropped (c : Catalog) (s : Nat) : Catalog :=
  { sessions := c.sessions.filter fun x => x.id ≠ s, extents := c.extents.filter fun e => e.session ≠ s }

theorem W.dropSession_books (w : W) (s : Nat) : (w.dropSession s).1.books = ({ w with cg := w.cg.dropped s } : W).books := by
  let v : W := (w.extentsOf s).foldl (fun (v : W) e => v.freeExtent s e.sequence) w
  have hv : v.books = _ := W.freeExtents_books s (w.extentsOf s) w
  have hsessions : (v.cg.sessions.filter fun x => x.id ≠ s).map SessionRec.plain = (w.cg.sessions.filter fun x => x.id ≠ s).map SessionRec.plain := by
    have h := congrArg (fun b : Books => b.cg.sessions.filter fun x => x.id ≠ s) hv
    have hfilter : ∀ l : List SessionRec, (l.filter fun x => x.id ≠ s).map SessionRec.plain = (l.map SessionRec.plain).filter fun x => x.id ≠ s :=
      fun l => by
        rw [List.filter_map]
        rfl
    rw [hfilter, hfilter]
    exact h
  have hextents : v.cg.extents.map ExtentRec.plain = (w.cg.extents.filter fun e => e.session ≠ s).map ExtentRec.plain := by
    refine (congrArg (fun b : Books => b.cg.extents) hv).trans ?_
    show (w.cg.extents.map ExtentRec.plain).filter _ = _
    rw [List.filter_map]
    refine congrArg (List.map ExtentRec.plain) (List.filter_congr fun e he => ?_)
    rw [Function.comp_apply]
    by_cases hs : e.session = s
    · have hany : ((w.extentsOf s).any fun f => decide (e.sequence = f.sequence)) = true :=
        List.any_eq_true.2 ⟨e, List.mem_filter.2 ⟨he, decide_eq_true hs⟩, decide_eq_true rfl⟩
      show (!(decide (e.session = s) && (w.extentsOf s).any fun f => decide (e.sequence = f.sequence))) = _
      rw [hany]
      simp [hs]
    · show (!(decide (e.session = s) && (w.extentsOf s).any fun f => decide (e.sequence = f.sequence))) = _
      simp [hs]
  have hrest : v.books = { w.books with cg := v.books.cg } := by rw [hv]
  show { v.books with cg := Catalog.plain { v.cg with sessions := v.cg.sessions.filter fun x => x.id ≠ s } } = _
  unfold Catalog.plain
  rw [hsessions, hextents, hrest]
  rfl

theorem W.dropSession_kept (w : W) (s : Nat) (hB : w.books.Kept ρ L) (hs : ∀ x ∈ w.cg.sessions, x.id = s → x.state ≠ .opened)
    (hp : ∀ j ∈ w.js.jobs, s ∉ j.pins) : (w.dropSession s).1.books.Kept ρ L := by
  have ho := hB.ordered
  rw [W.dropSession_books]
  refine W.Ordered.kept { ho with law := ho.law.dropSession hs fun hm => ?_ }
  obtain ⟨j, hj, hmj⟩ := List.mem_flatMap.1 hm
  exact hp j hj hmj

end

end Sys2Proof.Machine

/-! PROOF. The law of the books through what a VERIFY does (chapter 9). -/

namespace Sys2Proof.Machine

section
variable {ρ : Roster} {L : List (Nat × Option Drive)} {w : W} {n : Nat}

theorem Books.kept_ite {c : Prop} [Decidable c] {u v : W} (hu : u.books.Kept ρ L) (hv : v.books.Kept ρ L) :
    (if c then u else v).books.Kept ρ L := by
  split
  · exact hu
  · exact hv

theorem Books.kept_ite_of {c : Prop} [Decidable c] {u v : W} (hu : c → u.books.Kept ρ L) (hv : ¬c → v.books.Kept ρ L) :
    (if c then u else v).books.Kept ρ L := by
  split
  next h => exact hu h
  next h => exact hv h

/-! ### Coming to an end (R121, R169) -/

@[simp] theorem W.restThenEnd_kept (w : W) (n : Nat) (how : JobState × JobResult) (hB : w.books.Kept ρ L) (hr : ρ.reader n) :
    (w.restThenEnd n how).books.Kept ρ L := by
  have h : (w.modJob n fun j => { j with endAs := j.endAs.or (some how), yielding := false }).books.Kept ρ L := by
    rwa [W.modJob_books _ _ _ fun _ => by rfl]
  unfold W.restThenEnd
  dsimp only
  split
  next d hd =>
    rw [W.emit_books]
    exact W.modStream_reader h hr (h.binds hd) fun _ => rfl
  next => exact W.endJob_kept _ _ _ _ h hr

/-! ### Found extents (R170, R171) -/

/-- TRUNCATED reaches a CLOSED session of a REBUILD (R148). -/
def truncates (s : SessionRec) : SessionRec := if s.origin = .rebuilt ∧ s.state = .closed then { s with state := .truncated } else s

theorem W.truncates_kept (w : W) (s : Nat) (hB : w.books.Kept ρ L) : (w.modSession s truncates).books.Kept ρ L := by
  have h : ∀ x, (truncates x).id = x.id ∧ ((truncates x).state = .opened ↔ x.state = .opened) ∧ (truncates x).origin = x.origin := fun x => by
    unfold truncates
    split
    next hx => exact ⟨rfl, ⟨nofun, fun ho => by cases hx.2.symm.trans ho⟩, rfl⟩
    next => exact ⟨rfl, Iff.rfl, rfl⟩
  exact W.modSession_kept hB s (fun x => (h x).1) (fun x => (h x).2.1) fun x hx => (h x).2.2 ▸ hx

@[simp] theorem W.handFound_kept (w : W) (n i : Nat) (v : VerifyData) (f : FoundExtent) (e : ExtentIn) (t : Tally) (hB : w.books.Kept ρ L)
    (hr : ρ.reader n) (he : e.session = f.session) : (w.handFound n i v f e t).books.Kept ρ L := by
  unfold W.handFound
  refine Books.kept_ite ?_ ?_
  · simpa using hB
  · split
    next hok =>
      obtain ⟨htaken, hsess⟩ := W.takeExtent_kept hB hok (origin := .rebuilt) nofun
      dsimp only
      have hpin : (if (w.session f.session).isNone = true then (w.takeExtent e .rebuilt).pinFor n f.session
          else w.takeExtent e .rebuilt).books.Kept ρ L := by
        split
        · exact W.pinFor_kept htaken (he ▸ hsess)
        · exact htaken
      rw [W.recordVerdict_books, W.modVerify_books]
      split
      · exact W.truncates_kept _ _ hpin
      · exact hpin
    next => exact W.restThenEnd_kept _ n _ (by simpa using hB) hr
    next => simpa using hB

@[simp] theorem W.endFound_kept (w : W) (n : Nat) (markAt : Option Nat) (hB : w.books.Kept ρ L) (hr : ρ.reader n) :
    (w.endFound n markAt).books.Kept ρ L := by
  unfold W.endFound
  split
  · split
    · exact W.handFound_kept _ _ _ _ _ _ _ hB hr rfl
    · exact hB
    · exact hB
  · exact hB

@[simp] theorem W.endCurrent_kept (w : W) (n : Nat) (markAt : Option Nat) (hB : w.books.Kept ρ L) (hr : ρ.reader n) :
    (w.endCurrent n markAt).books.Kept ρ L := by
  simp [W.endCurrent, hB, hr]

@[simp] theorem W.foundBoundary_kept (w : W) (n b : Nat) (hB : w.books.Kept ρ L) (hr : ρ.reader n) :
    (w.foundBoundary n b).books.Kept ρ L := by
  unfold W.foundBoundary
  dsimp only
  (repeat' split) <;> simp [hB, hr]

@[simp] theorem W.enterBlock_kept (w : W) (n b : Nat) (hB : w.books.Kept ρ L) (hr : ρ.reader n) : (w.enterBlock n b).books.Kept ρ L := by
  unfold W.enterBlock
  split
  · exact hB
  · split
    · exact hB
    · have h : ((w.modVerify n fun d => { d with entered := some b }).foundBoundary n b).books.Kept ρ L :=
        W.foundBoundary_kept _ n b (by simpa using hB) hr
      dsimp only
      split <;> simp [h, hr]

/-! ### Frames and markers (R164 to R167, R170) -/

@[simp] theorem W.verifyFrame_kept (w : W) (n : Nat) (r : ResultRec) (hB : w.books.Kept ρ L) (hr : ρ.reader n) :
    (w.verifyFrame n r).books.Kept ρ L := by
  have h := W.enterBlock_kept w n r.block hB hr
  unfold W.verifyFrame
  dsimp only
  (repeat' split) <;> simpa using h

@[simp] theorem W.verifyStart_kept (w : W) (n : Nat) (h : FrameHeader) (b offset : Nat) (hB : w.books.Kept ρ L) (hr : ρ.reader n) :
    (w.verifyStart n h b offset).books.Kept ρ L := by
  have hend := W.endFound_kept w n none hB hr
  unfold W.verifyStart
  dsimp only
  (repeat' split) <;> simp [hB, hend]

@[simp] theorem W.verifyEnd_kept (w : W) (n : Nat) (h : FrameHeader) (b : Nat) (hB : w.books.Kept ρ L) :
    (w.verifyEnd n h b).books.Kept ρ L := by
  have htrunc := fun s => W.truncates_kept w s hB
  unfold W.verifyEnd
  dsimp only
  split
  · exact hB
  · split
    · (repeat' split) <;> simpa using hB
    · split
      · split
        · split
          · exact htrunc _
          · exact hB
        · split <;> simpa using hB
      · split <;> simpa using hB
    · split <;> simpa using hB

@[simp] theorem W.verifyMarker_kept (w : W) (n : Nat) (h : FrameHeader) (b offset : Nat) (hB : w.books.Kept ρ L) (hr : ρ.reader n) :
    (w.verifyMarker n h b offset).books.Kept ρ L := by
  have he := W.enterBlock_kept w n b hB hr
  unfold W.verifyMarker
  dsimp only
  split
  · exact W.verifyStart_kept _ _ _ _ _ he hr
  · exact W.verifyEnd_kept _ _ _ _ he

@[simp] theorem W.verifyHeaderBad_kept (w : W) (n b : Nat) (hB : w.books.Kept ρ L) (hr : ρ.reader n) :
    (w.verifyHeaderBad n b).books.Kept ρ L := by
  have h := W.enterBlock_kept w n b hB hr
  unfold W.verifyHeaderBad
  dsimp only
  (repeat' split) <;> simpa using h

/-! ### The range (R163, R166, R169) -/

@[simp] theorem W.verifyFinish_kept (w : W) (n : Nat) (hB : w.books.Kept ρ L) (hr : ρ.reader n) : (w.verifyFinish n).books.Kept ρ L := by
  unfold W.verifyFinish
  split <;> simp [hB, hr]

theorem W.endRemaining_kept (n : Nat) (f : Option Nat) (w : W) (x : VExtent) (hB : w.books.Kept ρ L) (hr : ρ.reader n) :
    (W.endRemaining n f w x).books.Kept ρ L := by
  unfold W.endRemaining
  split
  next e v _ _ =>
    dsimp only
    split
    · exact hB
    · rw [W.endChecking_books]
      have h : ∀ c : Prop, [Decidable c] → (if c then (w.endCurrent n none).makeCurrent n e else w).books.Kept ρ L := fun c _ => by
        split
        · rw [W.makeCurrent_books]
          exact W.endCurrent_kept w n none hB hr
        · exact hB
      refine Books.kept_ite ?_ (h _)
      rw [W.modTallyOf_books]
      exact h _
  next => exact hB

theorem Books.kept_foldl {α : Type} {f : W → α → W} (h : ∀ w a, w.books.Kept ρ L → (f w a).books.Kept ρ L) (l : List α) (w : W)
    (hB : w.books.Kept ρ L) : (l.foldl f w).books.Kept ρ L := by
  induction l generalizing w with
  | nil => exact hB
  | cons a l ih => exact ih (f w a) (h w a hB)

@[simp] theorem W.verifyRangeEnd_kept (w : W) (n : Nat) (f : Option Nat) (hB : w.books.Kept ρ L) (hr : ρ.reader n) :
    (w.verifyRangeEnd n f).books.Kept ρ L := by
  unfold W.verifyRangeEnd
  split
  · exact hB
  · exact W.verifyFinish_kept _ n (Books.kept_foldl (fun w x h => W.endRemaining_kept n f w x h hr) _ w hB) hr

@[simp] theorem W.verifyBlockParsed_kept (w : W) (n b : Nat) (last : Bool) (hB : w.books.Kept ρ L) (hr : ρ.reader n) :
    (w.verifyBlockParsed n b last).books.Kept ρ L := by
  have h : ((w.enterBlock n b).modVerify n fun d => { d with lastParsed := some b }).books.Kept ρ L := by
    rw [W.modVerify_books]
    exact W.enterBlock_kept w n b hB hr
  unfold W.verifyBlockParsed
  refine Books.kept_ite (W.verifyRangeEnd_kept _ n none ?_ hr) ?_ <;> (repeat' split) <;> simpa using h

@[simp] theorem W.verifyUnreadable_kept (w : W) (n b : Nat) (last : Bool) (hB : w.books.Kept ρ L) (hr : ρ.reader n) :
    (w.verifyUnreadable n b last).books.Kept ρ L := by
  have h := W.enterBlock_kept w n b hB hr
  unfold W.verifyUnreadable
  refine Books.kept_ite (W.verifyRangeEnd_kept _ n none ?_ hr) ?_ <;> dsimp only <;> (repeat' split) <;> simpa using h

@[simp] theorem W.verifyDataEnd_kept (w : W) (n b : Nat) (mark : Bool) (hB : w.books.Kept ρ L) (hr : ρ.reader n) :
    (w.verifyDataEnd n b mark).books.Kept ρ L := by
  have h := W.endFound_kept w n (if mark = true then some b else none) hB hr
  unfold W.verifyDataEnd
  exact Books.kept_ite h (W.verifyRangeEnd_kept _ _ _ h hr)

@[simp] theorem W.verifyExtentRemoved_kept (w : W) (n session sequence : Nat) (hB : w.books.Kept ρ L) (hr : ρ.reader n) :
    (w.verifyExtentRemoved n session sequence).books.Kept ρ L := by
  unfold W.verifyExtentRemoved
  split
  · exact hB
  · dsimp only
    split
    · exact W.endJob_kept _ _ _ _ (by simpa using hB) hr
    · simpa using hB

/-! ### The mount (R163) -/

theorem Books.Kept.bound_here (hB : w.books.Kept ρ L) {j : Job} (hj : w.job n = some j) {d : Drive} (hs : j.stream = some d) :
    (w.stream d).job = some n := hB.binds (Option.bind_eq_some_iff.2 ⟨j, hj, hs⟩)

@[simp] theorem W.verifyMounted_kept (w : W) (n : Nat) (j : Job) (d : Drive) (i : Nat) (s : JobState) (hB : w.books.Kept ρ L)
    (hr : ρ.reader n) (hs : s = .running ∨ s = .held) (hd : (w.stream d).job = some n) :
    (w.verifyMounted n j d i s).books.Kept ρ L := by
  unfold W.verifyMounted
  split
  · exact hB
  · have htakes : ρ.Takes L n s none := by
      rcases hs with rfl | rfl
      · exact Roster.takes_active (.inl rfl) hr.live
      · exact ⟨rfl, hr.live, by simp, fun _ => hr, by simp⟩
    have h := W.setJob_kept w n s none hB htakes
    refine W.modStream_reader (n := n) (by rwa [W.modVerify_books]) hr ?_ fun _ => rfl
    rw [W.stream]
    show ((w.setJob n s none).streams.get d).job = some n
    rw [(W.setJob_streams_ports w n s none).1]
    exact hd

end

end Sys2Proof.Machine

/-! PROOF. The law of the books through what a RESTORE does (chapter 10). -/

namespace Sys2Proof.Machine

section
variable {ρ : Roster} {L : List (Nat × Option Drive)} {w : W} {n : Nat}

@[simp] theorem W.restoreDone_kept (w : W) (n : Nat) (hB : w.books.Kept ρ L) (hr : ρ.reader n) : (w.restoreDone n).books.Kept ρ L := by
  unfold W.restoreDone
  (repeat' split) <;> simp [hB, hr]

@[simp] theorem W.takeDamage_kept (w : W) (n o chunk count : Nat) (cause : DamageCause) (block : Nat) (instead : List RAction)
    (hB : w.books.Kept ρ L) (hr : ρ.reader n) : (w.takeDamage n o chunk count cause block instead).books.Kept ρ L := by
  unfold W.takeDamage
  split
  · exact hB
  · dsimp only
    split
    · exact W.restThenEnd_kept _ n _ (by simpa using hB) hr
    · simpa using hB

@[simp] theorem W.takeExpected_kept (w : W) (n : Nat) (res : ResultRec) (r : RestoreData) (hB : w.books.Kept ρ L) (hr : ρ.reader n) :
    (w.takeExpected n res r).books.Kept ρ L := by
  unfold W.takeExpected
  dsimp only
  (repeat' split) <;> simp [hB, hr]

@[simp] theorem W.takeResult_kept (w : W) (n : Nat) (res : ResultRec) (hB : w.books.Kept ρ L) (hr : ρ.reader n) :
    (w.takeResult n res).books.Kept ρ L := by
  unfold W.takeResult
  dsimp only
  (repeat' split) <;> simp [hB, hr]

/-! ### The end of a link (R178) -/

@[simp] theorem W.stopReading_kept (w : W) (n : Nat) (hB : w.books.Kept ρ L) : (w.stopReading n).books.Kept ρ L := by
  unfold W.stopReading
  dsimp only
  split
  · rw [W.modStream_books _ _ _ fun _ => by rfl]
    simpa using hB
  · simpa using hB

@[simp] theorem W.readFrom_kept (w : W) (n : Nat) (l : Link) (hB : w.books.Kept ρ L) (hr : ρ.reader n) : (w.readFrom n l).books.Kept ρ L := by
  have h : (w.modRestore n fun r => { r with relocating := true }).books.Kept ρ L := by simpa using hB
  unfold W.readFrom
  dsimp only
  split
  · exact h
  next d hd =>
    rw [W.emit_books]
    exact W.modStream_reader h hr (h.binds hd) fun _ => rfl

/-- A reader asks for another cartridge. -/
theorem W.asksLabel_kept (hB : w.books.Kept ρ L) (hr : ρ.reader n) (l : Label) :
    (w.modJob n fun j => { j with target := .label l, resumePoint := none, kept := none }).books.Kept ρ L := by
  refine (hB.ordered.modJob fun j hj hn => ?_).kept
  refine ⟨rfl, rfl, List.Subset.refl _, rfl, rfl, fun ho => ?_⟩
  have hk : j.kind ≠ .backup := hB.not_backup (hn ▸ hB.job_of_mem hj) hr
  exact ⟨ho.progress, ⟨fun ⟨_, hp⟩ => (by cases hp), fun h => absurd h hk⟩, ho.mounting, ho.held, ho.bound, ho.waits, ho.finished, ho.ended,
    ho.truncEnds⟩

/-- A reader that lets go of its drive is QUEUED (R84, R178). -/
theorem W.requeues_kept (hB : w.books.Kept ρ L) (hr : ρ.reader n) : (((w.releaseBoth n).setJob n .queued none).wantDispatch).books.Kept ρ L := by
  have h := W.setJob_kept _ n .queued none (W.releaseBoth_free hB (n := n)) (Roster.takes_queued hr (List.mem_cons_self ..))
  rw [W.wantDispatch_books]
  exact h.weaken (List.subset_cons_self ..)

@[simp] theorem W.takeLink_kept (w : W) (n : Nat) (l : Link) (hB : w.books.Kept ρ L) (hr : ρ.reader n) : (w.takeLink n l).books.Kept ρ L := by
  unfold W.takeLink
  dsimp only
  split
  · rw [W.wantDispatch_books]
    exact W.asksLabel_kept (by simpa using hB) hr _
  · split
    · exact W.readFrom_kept _ n l (by simpa using hB) hr
    · exact W.requeues_kept (W.asksLabel_kept (by simpa using hB) hr _) hr

@[simp] theorem W.linkNext_kept (w : W) (n : Nat) (hB : w.books.Kept ρ L) (hr : ρ.reader n) : (w.linkNext n).books.Kept ρ L := by
  unfold W.linkNext
  (repeat' split) <;> simp [hB, hr]

@[simp] theorem W.linkEnds_kept (w : W) (n block : Nat) (dataEnd : Bool) (hB : w.books.Kept ρ L) (hr : ρ.reader n) :
    (w.linkEnds n block dataEnd).books.Kept ρ L := by
  unfold W.linkEnds
  split
  · exact hB
  · split
    · exact hB
    · refine Books.kept_ite hB ?_
      extract_lets missing w1
      have h1 : w1.books.Kept ρ L := by
        clear_value missing
        cases missing <;> simp [w1, hB, hr]
      exact Books.kept_ite h1 (Books.kept_foldl (fun v o hv => by rwa [W.reportAbsent_books]) _ w1 h1)

/-! ### What is left to do (R181) -/

@[simp] theorem W.doAction_kept (w : W) (n : Nat) (a : RAction) (hB : w.books.Kept ρ L) (hr : ρ.reader n) :
    (w.doAction n a).books.Kept ρ L := by
  cases a <;> simp [W.doAction, hB, hr]

theorem W.runTodo_kept (fuel n : Nat) (w : W) (hB : w.books.Kept ρ L) (hr : ρ.reader n) : (W.runTodo fuel n w).books.Kept ρ L := by
  induction fuel generalizing w with
  | zero => exact hB
  | succ fuel ih =>
    unfold W.runTodo
    split
    · exact hB
    · split
      · exact W.restoreDone_kept w n hB hr
      · split
        · exact ih _ (W.doAction_kept _ n _ (by simpa using hB) hr)
        · exact W.restoreDone_kept w n hB hr

@[simp] theorem W.runAll_kept (w : W) (n : Nat) (hB : w.books.Kept ρ L) (hr : ρ.reader n) : (w.runAll n).books.Kept ρ L := by
  unfold W.runAll
  split
  · exact hB
  · exact W.runTodo_kept _ n w hB hr

@[simp] theorem W.runWaiting_kept (w : W) (n : Nat) (hB : w.books.Kept ρ L) (hr : ρ.reader n) : (w.runWaiting n).books.Kept ρ L := by
  unfold W.runWaiting
  split <;> simp [hB, hr]

/-! ### What the stream hands on (R176 to R178) -/

@[simp] theorem W.restoreResult_kept (w : W) (n : Nat) (res : ResultRec) (hB : w.books.Kept ρ L) (hr : ρ.reader n) :
    (w.restoreResult n res).books.Kept ρ L := by
  have h : ((w.putFirst n [.take res]).runAll n).books.Kept ρ L := W.runAll_kept _ n (by simpa using hB) hr
  unfold W.restoreResult
  dsimp only
  split <;> simpa using h

@[simp] theorem W.restoreMarker_kept (w : W) (n : Nat) (h : FrameHeader) (b : Nat) (hB : w.books.Kept ρ L) (hr : ρ.reader n) :
    (w.restoreMarker n h b).books.Kept ρ L := by
  unfold W.restoreMarker
  split
  · exact hB
  · split
    · exact hB
    · exact Books.kept_ite (W.runAll_kept _ n (by simp [hB, hr]) hr) hB

@[simp] theorem W.relocate_kept (w : W) (n : Nat) (hB : w.books.Kept ρ L) (hr : ρ.reader n) : (w.relocate n).books.Kept ρ L := by
  unfold W.relocate
  split
  · exact hB
  · exact W.readFrom_kept _ n _ (by simpa using hB) hr

@[simp] theorem W.restoreBlockParsed_kept (w : W) (n b : Nat) (last : Bool) (hB : w.books.Kept ρ L) (hr : ρ.reader n) :
    (w.restoreBlockParsed n b last).books.Kept ρ L := by
  unfold W.restoreBlockParsed
  split
  · exact hB
  · refine Books.kept_ite hB (Books.kept_ite (W.relocate_kept w n hB hr) ?_)
    exact W.runAll_kept _ n (W.linkEnds_kept w n b false hB hr) hr

@[simp] theorem W.restoreUnreadable_kept (w : W) (n b : Nat) (last : Bool) (hB : w.books.Kept ρ L) (hr : ρ.reader n) :
    (w.restoreUnreadable n b last).books.Kept ρ L := by
  unfold W.restoreUnreadable
  split
  · exact hB
  · extract_lets w1
    have h1 : w1.books.Kept ρ L := by
      dsimp only [w1]
      (repeat' split) <;> simp [hB, hr]
    exact Books.kept_ite (W.restoreBlockParsed_kept w1 n b true h1 hr) h1

@[simp] theorem W.restoreDataEnd_kept (w : W) (n b : Nat) (hB : w.books.Kept ρ L) (hr : ρ.reader n) :
    (w.restoreDataEnd n b).books.Kept ρ L := W.runAll_kept _ n (W.linkEnds_kept w n b true hB hr) hr

/-! ### Removed extents, admission (R173, R175) -/

@[simp] theorem W.rejudge_kept (w : W) (n : Nat) (l : List Nat) (hB : w.books.Kept ρ L) (hr : ρ.reader n) : (w.rejudge n l).books.Kept ρ L := by
  unfold W.rejudge
  split
  · exact hB
  · extract_lets gone l lost w1 w2 cut w3
    have h2 : w2.books.Kept ρ L := Books.kept_foldl (fun v o hv => by rwa [W.reportAbsent_books]) _ w1 (by simpa [w1] using hB)
    exact W.runAll_kept w3 n (Books.kept_ite (W.linkEnds_kept w2 n _ false h2 hr) h2) hr

@[simp] theorem W.restoreExtentRemoved_kept (w : W) (n q : Nat) (hB : w.books.Kept ρ L) (hr : ρ.reader n) :
    (w.restoreExtentRemoved n q).books.Kept ρ L := by
  unfold W.restoreExtentRemoved
  split <;> simp [hB, hr]

@[simp] theorem W.restoreAdmitted_kept (w : W) (n : Nat) (hB : w.books.Kept ρ L) (hr : ρ.reader n) : (w.restoreAdmitted n).books.Kept ρ L := by
  unfold W.restoreAdmitted
  split
  · exact hB
  · exact W.restoreDone_kept _ n (Books.kept_foldl (fun v o hv => by rwa [W.damageNotice_books]) _ w hB) hr

/-! ### The mount (R176) -/

theorem W.restoreBegins_kept (w : W) (n : Nat) (j : Job) (d : Drive) (i : Nat) (r : RestoreData) (hB : w.books.Kept ρ L) (hr : ρ.reader n)
    (hd : (w.stream d).job = some n) : (w.restoreBegins n j d i r).books.Kept ρ L := by
  unfold W.restoreBegins
  split
  · exact W.modStream_reader (n := n) (by simpa using hB) hr hd fun _ => rfl
  · split <;> simp [hB, hr]

end

end Sys2Proof.Machine

/-! PROOF. The law of the books through the read side of a stream (section 6.4). -/

namespace Sys2Proof.Machine

section
variable {ρ : Roster} {L : List (Nat × Option Drive)} {w : W} {n : Nat}

/-! ### Handing on (R119) -/

theorem Books.Kept.reader_of_kind (hB : w.books.Kept ρ L) {k : JobKind} (h : (w.job n).map Job.kind = some k) (hk : k ≠ .backup) :
    ρ.reader n := by
  obtain ⟨j, hj, rfl⟩ := Option.map_eq_some_iff.1 h
  exact hB.reader hj hk

@[simp] theorem W.handMarker_kept (w : W) (n : Nat) (h : FrameHeader) (b offset : Nat) (hB : w.books.Kept ρ L) :
    (w.handMarker n h b offset).books.Kept ρ L := by
  unfold W.handMarker
  split
  next hk => exact W.verifyMarker_kept w n h b offset hB (hB.reader_of_kind hk nofun)
  next hk => exact W.restoreMarker_kept w n h b hB (hB.reader_of_kind hk nofun)
  all_goals exact hB

@[simp] theorem W.handHeaderBad_kept (w : W) (n b : Nat) (hB : w.books.Kept ρ L) : (w.handHeaderBad n b).books.Kept ρ L := by
  unfold W.handHeaderBad
  split
  next hk => exact W.verifyHeaderBad_kept w n b hB (hB.reader_of_kind hk nofun)
  all_goals exact hB

@[simp] theorem W.handBlockParsed_kept (w : W) (n b : Nat) (last : Bool) (hB : w.books.Kept ρ L) :
    (w.handBlockParsed n b last).books.Kept ρ L := by
  unfold W.handBlockParsed
  split
  next hk => exact W.verifyBlockParsed_kept w n b last hB (hB.reader_of_kind hk nofun)
  next hk => exact W.restoreBlockParsed_kept w n b last hB (hB.reader_of_kind hk nofun)
  all_goals exact hB

@[simp] theorem W.handUnreadable_kept (w : W) (n b : Nat) (last : Bool) (hB : w.books.Kept ρ L) :
    (w.handUnreadable n b last).books.Kept ρ L := by
  unfold W.handUnreadable
  split
  next hk => exact W.verifyUnreadable_kept w n b last hB (hB.reader_of_kind hk nofun)
  next hk => exact W.restoreUnreadable_kept w n b last hB (hB.reader_of_kind hk nofun)
  all_goals exact hB

@[simp] theorem W.handDataEnd_kept (w : W) (n b : Nat) (mark : Bool) (hB : w.books.Kept ρ L) : (w.handDataEnd n b mark).books.Kept ρ L := by
  unfold W.handDataEnd
  split
  next hk => exact W.verifyDataEnd_kept w n b mark hB (hB.reader_of_kind hk nofun)
  next hk => exact W.restoreDataEnd_kept w n b hB (hB.reader_of_kind hk nofun)
  all_goals exact hB

@[simp] theorem W.handResult_kept (w : W) (n : Nat) (res : ResultRec) (hB : w.books.Kept ρ L) : (w.handResult n res).books.Kept ρ L := by
  unfold W.handResult
  split
  next hk => exact W.verifyFrame_kept w n res hB (hB.reader_of_kind hk nofun)
  next hk => exact W.restoreResult_kept w n res hB (hB.reader_of_kind hk nofun)
  all_goals exact hB

/-! ### A stream with something under way is a reader's (R118, R121) -/

theorem Books.Kept.reader_of_stream (hB : w.books.Kept ρ L) {d : Drive} (hs : (w.stream d).job = some n) (hq : ¬(w.stream d).Quiet) :
    ρ.reader n := by
  obtain ⟨j, hj, -⟩ := hB.bound hs
  exact hB.reader hj fun hk => hq (hB.quiet hj hk hs)

theorem Stream.not_quiet {s : Stream} (h : s.stopping ≠ none ∨ s.seek ≠ none ∨ s.news ≠ none) : ¬s.Quiet := fun ⟨h1, h2, h3⟩ =>
  h.elim (fun h => h h1) fun h => h.elim (fun h => h h2) fun h => h h3

theorem W.stream_job_eq {u v : W} (h : u.books = v.books) (d : Drive) : (u.stream d).job = (v.stream d).job := by
  have := congrArg (fun b : Books => (b.streams d).job) h
  exact this

/-- A stream changes and stays as quiet as it was. -/
theorem W.modStream_quiet (hB : w.books.Kept ρ L) (d : Drive) {f : Stream → Stream} (hj : ∀ s, (f s).job = s.job)
    (hq : ∀ s, s.Quiet → (f s).Quiet) : (w.modStream d f).books.Kept ρ L := by
  have ho := hB.ordered
  have hget : ∀ e, (w.modStream d f).streams.get e = if e = d then f (w.streams.get d) else w.streams.get e := fun e => by
    split
    next he => rw [he]; exact Pair.get_put_same ..
    next he => exact Pair.get_put_other _ _ he
  refine W.Ordered.kept { ho with bindings := ho.bindings.putStreams (fun e => ?_) fun e hs => .inl ?_ }
  · rw [hget]
    split
    next he => rw [he, hj]
    next => rfl
  · rw [hget]
    split
    next he => exact hq _ (he ▸ hs)
    next => exact hs

/-! ### The walk (R119) -/

@[simp] theorem W.finishBlock_kept (w : W) (d : Drive) (n : Nat) (i : BufId) (hB : w.books.Kept ρ L) :
    (w.finishBlock d n i).books.Kept ρ L := by
  unfold W.finishBlock
  refine W.handBlockParsed_kept _ n _ _ ?_
  rwa [W.putStream_books]
  exact Stream.putBuf_plain (w.stream d) i freeBuffer

theorem W.parseAt_kept {v : W} {d : Drive} {j : Job} {i : BufId} {offset : Nat} (hB : w.books.Kept ρ L) (hj : w.job n = some j)
    (hv : w.parseAt d j i offset = some v) : v.books.Kept ρ L := by
  unfold W.parseAt at hv
  dsimp only at hv
  split at hv
  · rw [← Option.some.inj hv]
    exact W.finishBlock_kept w d _ i hB
  · split at hv
    · rw [← Option.some.inj hv]
      exact W.finishBlock_kept w d _ i hB
    · rw [← Option.some.inj hv]
      have h := W.handHeaderBad_kept w j.id ((w.stream d).buf i).index hB
      exact Books.kept_ite (W.finishBlock_kept _ d _ i h) h
    next h _ =>
      split at hv
      · rw [← Option.some.inj hv]
        exact W.handMarker_kept _ _ _ _ _ (by rwa [W.advanceTo_books])
      · split at hv
        next hc =>
          rw [← Option.some.inj hv]
          have hr : ρ.reader j.id := by
            rw [W.job_id hj]
            refine hB.reader_of_progress hj fun hp => ?_
            unfold W.callsBack at hc
            split at hc
            next hx => rw [hx] at hp; cases hp
            all_goals cases hc
          exact W.relocate_kept w j.id hB hr
        next => rwa [W.meetChunk_books hv]

@[simp] theorem W.tellNews_kept (w : W) (d : Drive) (n : Nat) (x : ReadNews) (hB : w.books.Kept ρ L) (hr : ρ.reader n) :
    (w.tellNews d n x).books.Kept ρ L := by
  unfold W.tellNews
  split
  · exact W.handDataEnd_kept _ n _ _ (W.modStream_quiet hB d (fun _ => rfl) fun _ h => ⟨h.1, h.2.1, rfl⟩)
  next b =>
    have h := W.handUnreadable_kept _ n b (decide ((w.stream d).readLimit = some (.block b)))
      (W.modStream_quiet (f := fun s => { s with news := none, nextRead := some (b + 1) }) hB d (fun _ => rfl) fun _ h => ⟨h.1, h.2.1, rfl⟩)
    dsimp only
    split
    next hs => exact W.modStream_reader h hr hs.1 fun _ => rfl
    next => exact h

theorem W.parseOnce_kept {v : W} {d : Drive} (hB : w.books.Kept ρ L) (hv : w.parseOnce d = some v) : v.books.Kept ρ L := by
  unfold W.parseOnce at hv
  dsimp only at hv
  split at hv
  · cases hv
  next j hj =>
    obtain ⟨m, hm, hj⟩ := Option.bind_eq_some_iff.1 hj
    split at hv
    · cases hv
    · split at hv
      · exact W.parseAt_kept hB hj hv
      · split at hv
        · cases hv
        · split at hv
          · rw [← Option.some.inj hv, W.beginParsing_books]
            exact hB
          next x _ hx =>
            rw [← Option.some.inj hv]
            refine W.tellNews_kept w d j.id x hB (hB.reader_of_stream (by rw [W.job_id hj]; exact hm) (Stream.not_quiet ?_))
            rw [hx]
            exact .inr (.inr nofun)
          · cases hv

theorem W.parseLoop_kept (fuel : Nat) (d : Drive) (w : W) (hB : w.books.Kept ρ L) : (W.parseLoop fuel d w).books.Kept ρ L := by
  induction fuel generalizing w with
  | zero => exact hB
  | succ fuel ih =>
    unfold W.parseLoop
    split
    next v hv => exact ih v (W.parseOnce_kept hB hv)
    next => exact hB

/-! ### The reader's Locate (R85, R118, R176, R178) -/

@[simp] theorem W.launchSeek_kept (w : W) (d : Drive) (hB : w.books.Kept ρ L) : (w.launchSeek d).books.Kept ρ L := by
  unfold W.launchSeek
  dsimp only
  split
  next j k hj hk =>
    obtain ⟨m, hm, hj⟩ := Option.bind_eq_some_iff.1 hj
    have hm : (w.stream d).job = some j.id := by rw [W.job_id hj]; exact hm
    have hr : ρ.reader j.id := hB.reader_of_stream hm (Stream.not_quiet (by rw [hk]; exact .inr (.inl nofun)))
    have h : (w.requestOp d (.locate k.target) (.job j.id)).1.books.Kept ρ L := by rwa [W.requestOp_books]
    split
    · split
      · exact W.modStream_reader h hr ((W.stream_job_eq (W.requestOp_books ..) d).trans hm) fun _ => rfl
      · exact W.endJob_kept _ _ _ _ hB hr
    · exact hB
  next => exact hB

@[simp] theorem W.seekFails_kept (w : W) (d : Drive) (n : Nat) (k : Seek) (hB : w.books.Kept ρ L) (hr : ρ.reader n)
    (hd : (w.stream d).job = some n) : (w.seekFails d n k).books.Kept ρ L := by
  unfold W.seekFails
  split
  · exact W.endJob_kept _ _ _ _ hB hr
  · rw [W.emit_books]
    exact W.modStream_reader hB hr hd fun _ => rfl

@[simp] theorem W.seekEnds_kept (w : W) (n : Nat) (d : Drive) (r : OpOutcome) (hB : w.books.Kept ρ L) (hr : ρ.reader n) :
    (w.seekEnds n d r).books.Kept ρ L := by
  have hseek := W.modStream_quiet (f := fun t => { t with seek := none }) hB d (fun _ => rfl) fun _ h => ⟨h.1, rfl, h.2.2⟩
  unfold W.seekEnds
  dsimp only
  split
  · simpa using hB
  next k _ =>
    split
    · simpa using hB
    next hn =>
      have hd : (w.stream d).job = some n := by
        by_contra hne
        exact hn (.inr hne)
      split
      · rw [W.emit_books, W.modRestore_books]
        exact hseek
      · split
        · rw [W.emit_books]
          exact W.tellNews_kept _ d n _ hseek hr
        · split
          · rw [W.emit_books]
            exact W.modStream_reader hB hr hd fun _ => rfl
          · exact W.seekFails_kept w d n k hB hr hd
      · exact W.seekFails_kept w d n k hB hr hd
      · exact hB

/-! ### Read Block completes (R118, R121) -/

@[simp] theorem W.readDone_kept (w : W) (n : Nat) (d : Drive) (k : BufId) (r : OpOutcome) (hB : w.books.Kept ρ L) (hr : ρ.reader n) :
    (w.readDone n d k r).books.Kept ρ L := by
  unfold W.readDone
  dsimp only
  refine Books.kept_ite_of (fun _ => hB) fun hn => ?_
  have hd : (w.stream d).job = some n := by
    by_contra hne
    exact hn (.inl hne)
  have hbuf : ∀ b, ((w.stream d).putBuf k b).job = (w.stream d).job := fun b => by
    have h := congrArg Stream.job (Stream.putBuf_plain (w.stream d) k b)
    exact h
  rw [W.emit_books]
  refine W.putStream_reader hB hr hd ?_
  (repeat' split) <;> exact hbuf _

/-! ### Coming to rest (R121) -/

@[simp] theorem W.atRest_kept (w : W) (d : Drive) (j : Job) (cause : StopCause) (hB : w.books.Kept ρ L) (hr : ρ.reader j.id) :
    (w.atRest d j cause).books.Kept ρ L := by
  unfold W.atRest
  extract_lets s parsing kept point w1
  have h1 : w1.books.Kept ρ L := by
    rw [W.modRestore_books, W.modJob_books _ _ _ fun _ => by rfl]
    exact hB
  split
  · exact W.endJob_kept _ _ _ _ h1 hr
  · exact W.requeues_kept h1 hr
  · exact W.requeues_kept h1 hr
  · exact h1

@[simp] theorem W.restCheck_kept (w : W) (d : Drive) (hB : w.books.Kept ρ L) : (w.restCheck d).books.Kept ρ L := by
  unfold W.restCheck
  dsimp only
  split
  next j cause hj hcause =>
    obtain ⟨m, hm, hj⟩ := Option.bind_eq_some_iff.1 hj
    have hjm := W.job_id hj
    have hr : ρ.reader j.id := hB.reader_of_stream (d := d) (by rw [hjm]; exact hm) (Stream.not_quiet (by rw [hcause]; exact .inl nofun))
    have hrest := W.modStream_quiet (f := fun t => { t with stopping := none }) hB d (fun _ => rfl) fun _ h => ⟨rfl, h.2⟩
    split
    · exact hB
    · split
      · by_cases hrun : j.state = .running
        · rw [if_pos hrun]
          exact W.setJob_kept _ _ _ _ hrest ⟨rfl, hr.live, by simp, fun _ => hr, by simp⟩
        · rw [if_neg hrun, W.setJob_same (j := j) (by rw [hjm]; exact hj) ⟨rfl, rfl⟩]
          exact hrest
      · split
        · exact W.atRest_kept w d j cause hB hr
        · exact hB
  next => exact hB

@[simp] theorem W.parseOn_kept (w : W) (d : Drive) (hB : w.books.Kept ρ L) : (w.parseOn d).books.Kept ρ L :=
  W.restCheck_kept _ d (W.launchSeek_kept _ d (W.parseLoop_kept 8400 d _ (W.launchSeek_kept w d hB)))

/-! ### Decodings (R103 to R105, R108) -/

@[simp] theorem W.decodingEnds_kept (w : W) (hB : w.books.Kept ρ L) : w.decodingEnds.books.Kept ρ L := by
  have hidle : w.coderIdle.books.Kept ρ L := hB
  unfold W.decodingEnds
  split
  · exact hB
  · split
    · exact hB
    · dsimp only
      split
      · split
        · rw [W.emit_books]
          exact W.handResult_kept _ _ _ (by rwa [W.advanceTo_books])
        · exact hidle
      · exact hidle

/-! ### Letting go and holding (R82, R85, R124) -/

@[simp] theorem W.readerLetsGo_kept (w : W) (n : Nat) (hB : w.books.Kept ρ L) (hr : ρ.reader n) : (w.readerLetsGo n).books.Kept ρ L := by
  unfold W.readerLetsGo
  split
  · exact hB
  next d hd =>
    have h : (w.modJob n fun j => { j with yielding := false }).books.Kept ρ L := by rwa [W.modJob_books _ _ _ fun _ => by rfl]
    rw [W.emit_books]
    exact W.runWaiting_kept _ n (W.modStream_reader h hr (hB.binds hd) fun _ => rfl) hr

@[simp] theorem W.readerHolds_kept (w : W) (n : Nat) (hB : w.books.Kept ρ L) (hr : ρ.reader n) : (w.readerHolds n).books.Kept ρ L := by
  unfold W.readerHolds
  split
  · exact hB
  next d hd =>
    rw [W.emit_books]
    exact W.modStream_reader hB hr (hB.binds hd) fun _ => rfl

@[simp] theorem W.readerResumes_kept (w : W) (n : Nat) (hB : w.books.Kept ρ L) (hr : ρ.reader n) : (w.readerResumes n).books.Kept ρ L := by
  unfold W.readerResumes
  split
  · exact hB
  next d hd =>
    have h := W.setJob_kept w n .running none hB (Roster.takes_active (.inl rfl) hr.live)
    rw [W.emit_books]
    refine W.runWaiting_kept _ n (W.modStream_reader h hr ?_ fun _ => rfl) hr
    show ((w.setJob n .running none).streams.get d).job = some n
    rw [(W.setJob_streams_ports w n .running none).1]
    exact hB.binds hd

end

end Sys2Proof.Machine

/-! PROOF. The law of the books through the ends of mount steps, moves and operations (R66, R79 to R83, R87, R88). -/

namespace Sys2Proof.Machine

section
variable {ρ : Roster} {L : List (Nat × Option Drive)} {w : W} {n : Nat}

theorem Books.Kept.reader_unless (hB : w.books.Kept ρ L) (h : (w.job n).map Job.kind ≠ some .backup) : ρ.reader n :=
  (hB.roles_iff (p := fun r => r.kind ≠ .backup)).2 fun j hj hn hk => h (by
    rw [← hn, hB.job_of_mem hj]
    exact congrArg some hk)

/-! ### A mount stops, fails, or is left (R81, R82, R88) -/

@[simp] theorem W.mountStops_kept (w : W) (n : Nat) (hB : w.books.Kept ρ L) : (w.mountStops n).books.Kept ρ L := by
  have h := W.dropStep_kept (n := n) (f := fun k => { k with mountStep := none }) hB fun _ => .inl rfl
  unfold W.mountStops
  split
  · exact hB
  next j hj =>
    dsimp only
    split
    · rwa [W.emit_books]
    next hk =>
      rw [W.returnLeft_books]
      exact W.endJob_kept _ _ _ _ h (hB.reader hj hk)

/-- A job lets go of its claims and waits (R81, R82). -/
theorem W.waitsAgain_kept (hB : w.books.Kept ρ L) (hl : ρ.live n) (hs : ρ.shut n) (r : WaitReason) :
    ((w.releaseBoth n).waitFor n r).books.Kept ρ L :=
  (W.waitFor_kept _ n r (W.releaseBoth_free hB (n := n)) hl hs (List.mem_cons_self ..)).weaken (List.subset_cons_self ..)

@[simp] theorem W.moveFails_kept (w : W) (n : Nat) (r : Reason) (hB : w.books.Kept ρ L) (hl : ρ.live n) (hs : ρ.shut n) :
    (w.moveFails n r).books.Kept ρ L :=
  W.waitsAgain_kept (W.dropStep_kept (n := n) (f := fun j => { j with mountStep := none }) hB fun _ => .inl rfl) hl hs _

@[simp] theorem W.leaveMount_kept (w : W) (n : Nat) (absent : Bool) (j : Job) (hB : w.books.Kept ρ L) (hr : ρ.reader n) :
    (w.leaveMount n absent j).books.Kept ρ L := by
  have h := W.dropStep_kept (w := w.dropHeld n) (n := n) (f := fun k => { k with mountStep := none, ticket := none })
    (by rwa [W.dropHeld_books]) fun _ => .inr rfl
  exact Books.kept_ite (W.endJob_kept _ _ _ _ h hr) (W.waitsAgain_kept h hr.live hr.shut _)

theorem W.letGo_ledger (w : W) (n : Nat) (absent : Bool) (r : Option OpOutcome) (hB : w.books.Kept ρ []) (hl : ρ.live n) :
    (w.letGo n absent r).books.Ledger := by
  unfold W.letGo
  split
  · exact hB.ledger
  next j hj =>
    have hr : j.progress.kind ≠ .backup → ρ.reader n := hB.reader_of_progress hj
    split
    · exact W.backupLetsGo_ledger w n false absent hB hl
    next hp =>
      have hr := hr (by rw [hp]; nofun)
      exact (Books.kept_ite (W.endJob_kept _ _ _ _ hB hr) (Books.kept_ite (W.leaveMount_kept w n absent j hB hr) hB)).ledger
    all_goals
      next hp =>
        have hr := hr (by rw [hp]; nofun)
        exact (Books.kept_ite (W.leaveMount_kept w n absent j hB hr) (Books.kept_ite (W.readerLetsGo_kept w n hB hr) hB)).ledger

/-! ### Choosing again (R81, R83) -/

@[simp] theorem W.chooseAgain_kept (w : W) (n : Nat) (hB : w.books.Kept ρ L) (hl : ρ.live n) (hs : ρ.shut n) :
    (w.chooseAgain n).books.Kept ρ L := by
  unfold W.chooseAgain
  split
  · exact hB
  · split
    · split
      · exact W.mountBring_kept _ _ _ _ _ (W.claimCart_kept w n _ hB hl) hs hl
      · have h := W.dropStep_kept (n := n) (f := fun k => { k with mountStep := none }) hB fun _ => .inl rfl
        exact (W.waitMedia_kept _ n _ (W.releaseDrive_kept h (n := n)) hl hs (List.mem_cons_self ..)).weaken (List.subset_cons_self ..)
    · exact hB

@[simp] theorem W.afterAway_kept (w : W) (n : Nat) (hB : w.books.Kept ρ L) (hl : ρ.live n) (hs : ρ.shut n) :
    (w.afterAway n).books.Kept ρ L := by
  have h := W.releaseCart_kept w n hB
  exact Books.kept_ite (W.mountStops_kept _ n h) (W.chooseAgain_kept _ n h hl hs)

@[simp] theorem W.putAway_kept (w : W) (n : Nat) (d : Drive) (hB : w.books.Kept ρ L) (hs : ρ.shut n) : (w.putAway n d).books.Kept ρ L := by
  simp [W.putAway, hB, hs]

@[simp] theorem W.sendHome_kept (w : W) (n : Nat) (d : Drive) (i : Nat) (s : MountStep) (hB : w.books.Kept ρ L) (hl : ρ.live n)
    (hs : ρ.shut n) : (w.sendHome n d i s).books.Kept ρ L := by
  unfold W.sendHome
  split <;> simp [hB, hl, hs]

/-! ### The mount is done (R79, R133, R163, R176) -/

theorem Books.Kept.at_drive (hB : w.books.Kept ρ L) {j : Job} (hj : w.job n = some j) {d : Drive} (hd : j.drive = some d) :
    w.books.Kept ρ ((n, some d) :: L) := by
  have ho := hB.ordered
  refine W.Ordered.kept { ho with free := fun k hk x hx => ?_ }
  rcases List.mem_cons.1 hx with he | hx
  · obtain ⟨hn, rfl⟩ := Prod.mk.inj he
    exact .inr (hB.job_eq hj hk hn ▸ hd)
  · exact ho.free k hk x hx

@[simp] theorem W.restoreMounted_kept (w : W) (n : Nat) (j : Job) (d : Drive) (i : Nat) (s : JobState)
    (hB : w.books.Kept ρ ((n, some d) :: L)) (hr : ρ.reader n) (hs : s = .running ∨ s = .held) :
    (w.restoreMounted n j d i s).books.Kept ρ ((n, some d) :: L) := by
  have htakes : ρ.Takes ((n, some d) :: L) n s none := by
    rcases hs with rfl | rfl
    · exact Roster.takes_active (.inl rfl) hr.live
    · exact ⟨rfl, hr.live, by simp, fun _ => hr, by simp⟩
  have h1 := W.setJob_kept w n s none hB htakes
  unfold W.restoreMounted
  split
  · exact hB
  · extract_lets w1 w2 cut
    have h2 : w2.books.Kept ρ ((n, some d) :: L) := Books.kept_ite (W.runAll_kept w1 n h1 hr) (W.rejudge_kept w1 n [] h1 hr)
    split
    next r k hdata hk =>
      refine Books.kept_ite_of (fun _ => h2) fun hgo => ?_
      have hk2 : k.stream ≠ none := fun hh => hgo (.inr (.inl hh))
      have hkind : k.kind = .restore := by
        rw [← (h2.orderly hk).progress]
        obtain ⟨k', hk', hkr⟩ := Option.bind_eq_some_iff.1 hdata
        obtain rfl := Option.some.inj (hk.symm.trans hk')
        unfold Job.restore? at hkr
        split at hkr
        next hp => rw [hp]; rfl
        all_goals cases hkr
      have hbound := (h2.orderly hk).bound (.inr hkind)
      have hdrive := h2.ordered.free k (W.job_mem hk) (some d) (by rw [W.job_id hk]; exact List.mem_cons_self ..)
      have hstream : k.stream = some d := by
        rcases hdrive with hnone | hsome
        · exact absurd (hbound.trans hnone) hk2
        · exact hbound.trans hsome
      exact W.restoreBegins_kept w2 n j d i r h2 hr (h2.bound_here hk hstream)
    next => exact h2

theorem W.mountDone_ledger (w : W) (n : Nat) (hB : w.books.Kept ρ []) (hl : ρ.live n) (hs : ρ.shut n) : (w.mountDone n).books.Ledger := by
  have h := W.dropStep_kept (n := n) (f := fun k => { k with mountStep := none, kept := none }) hB fun _ => .inl rfl
  have hstate : ∀ b : Prop, [Decidable b] → (if b then JobState.held else .running) = .running ∨ (if b then JobState.held else .running) = .held :=
    fun b _ => by split <;> simp
  unfold W.mountDone
  split
  · exact hB.ledger
  next j hj =>
    split
    next d i hd hi =>
      dsimp only
      have hr : j.progress.kind ≠ .backup → ρ.reader n := hB.reader_of_progress hj
      split
      · exact W.beginExtent_ledger _ n h hl hs
      next v hp =>
        rw [W.emit_books]
        refine (W.verifyMounted_kept _ n j d i _ h (hr (by rw [hp]; nofun)) (hstate _) ?_).ledger
        have hk : j.kind = .verify := by rw [← (hB.orderly hj).progress, hp]; rfl
        exact hB.bound_here hj (((hB.orderly hj).bound (.inl hk)).trans hd)
      next r hp =>
        rw [W.emit_books]
        have hat := W.dropStep_kept (n := n) (f := fun k => { k with mountStep := none, kept := none }) (hB.at_drive hj hd) fun _ => .inl rfl
        exact (W.restoreMounted_kept _ n j d i _ hat (hr (by rw [hp]; nofun)) (hstate _)).ledger
      next => exact h.ledger
    next => exact hB.ledger

/-! ### The probe (R80) -/

@[simp] theorem W.goPosition_kept (w : W) (n : Nat) (hB : w.books.Kept ρ L) (hs : ρ.shut n) : (w.goPosition n).books.Kept ρ L := by
  simp [W.goPosition, hB, hs]

@[simp] theorem W.probeResult_kept (w : W) (n : Nat) (d : Drive) (i : Nat) (s : MediaState) (used : Option Nat) (hB : w.books.Kept ρ L)
    (hs : ρ.shut n) : (w.probeResult n d i s used).books.Kept ρ L := by
  unfold W.probeResult
  extract_lets w1 w2 w3
  have h3 : w3.books.Kept ρ L := by
    cases used with
    | none => simpa [w3, w2, w1] using hB
    | some u => exact W.probedEnd_kept _ i u (by simpa [w2, w1] using hB)
  split
  · exact h3
  · exact Books.kept_ite (W.putAway_kept w3 n d h3 hs) (W.goPosition_kept w3 n h3 hs)

@[simp] theorem W.positionFails_kept (w : W) (n : Nat) (hB : w.books.Kept ρ L) : (w.positionFails n).books.Kept ρ L := by
  have h := W.dropStep_kept (n := n) (f := fun j => { j with mountStep := none }) hB fun _ => .inl rfl
  exact Books.kept_ite_of (fun _ => W.callTruncation_kept _ n _ h rfl) fun hk => W.endJob_kept _ _ _ _ h (hB.reader_unless hk)

@[simp] theorem W.probeBlock_kept (w : W) (n : Nat) (d : Drive) (hB : w.books.Kept ρ L) (hs : ρ.shut n) : (w.probeBlock n d).books.Kept ρ L := by
  have h : ∀ op, ((w.atStep n .probeRead).requestOp d op (.job n)).1.books.Kept ρ L := fun op => by
    rw [W.requestOp_books]
    exact W.atStep_kept w n _ hB hs
  unfold W.probeBlock
  dsimp only
  split
  · rw [W.modStream_books _ _ _ fun s => by exact Stream.putBuf_plain s _ _]
    exact h _
  · exact h _

/-! ### Mount steps end (R79 to R83) -/

theorem W.stepEnds_ledger (w : W) (n : Nat) (j : Job) (d : Drive) (i : Nat) (s : MountStep) (op : PortOp) (r : OpOutcome)
    (hB : w.books.Kept ρ []) (hl : ρ.live n) (hs : ρ.shut n) : (w.stepEnds n j d i s op r).books.Ledger := by
  have hmove := fun x y z t => (W.issueJobMove_kept w n x y z t hB hs hl).ledger
  have hask := fun t o => (show ((w.atStep n t).askOp d o (.job n)).books.Kept ρ [] by simp [hB, hs]).ledger
  have hprobe := fun t u => (W.probeResult_kept w n d i t u hB hs).ledger
  have haway := (W.putAway_kept w n d hB hs).ledger
  unfold W.stepEnds
  split
  · exact hmove _ _ _ _
  · exact (W.mountNext_kept w n hB hs hl).ledger
  · split
    · exact haway
    · exact (W.mountLoaded_kept w n j d i hB hs hl).ledger
  · exact (W.probeBlock_kept w n d hB hs).ledger
  · split
    · exact hprobe _ _
    · exact hask _ _
  · split
    · exact hask _ _
    · exact hprobe _ _
  · exact hprobe _ _
  · exact hprobe _ _
  · exact hprobe _ _
  · exact hprobe _ _
  · exact hprobe _ _
  · exact W.mountDone_ledger w n hB hl hs
  · split
    · exact (W.positionFails_kept w n hB).ledger
    · exact hask _ _
  · exact (W.sendHome_kept w n d i _ hB hl hs).ledger
  · exact (W.sendHome_kept w n d i _ hB hl hs).ledger
  · exact hB.ledger

theorem W.mountOp_ledger (w : W) (n : Nat) (j : Job) (d : Drive) (s : MountStep) (op : PortOp) (r : OpOutcome) (hB : w.books.Kept ρ [])
    (hl : ρ.live n) (hs : ρ.shut n) : (w.mountOp n j d s op r).books.Ledger := by
  unfold W.mountOp
  split
  · exact W.letGo_ledger w n false _ hB hl
  · split
    · exact (W.mountStops_kept w n hB).ledger
    · split
      · exact W.stepEnds_ledger w n j d _ s op r hB hl hs
      · exact hB.ledger

/-! ### Moves end (R79, R81, R83) -/

theorem Books.Kept.live_of (hB : w.books.Kept ρ L) {j : Job} (hj : w.job n = some j) (h : j.ticket ≠ none ∨ j.cartridge ≠ none) :
    ρ.live n :=
  hB.roles hj (p := fun r => r.kind = .backup → r.ended = false) fun hk => by
    show (j.state.isFinished && decide (j.kind = .backup)) = false
    refine Bool.and_eq_false_imp.2 fun hf => ?_
    obtain ⟨h1, h2⟩ := (hB.orderly hj).ended hk hf
    exact absurd (h.elim (fun h => h h1) fun h => h h2) id

@[simp] theorem W.jobMoveEnds_kept (w : W) (n : Nat) (r : Reason) (hB : w.books.Kept ρ L) (hl : ρ.live n) :
    (w.jobMoveEnds n r).books.Kept ρ L := by
  unfold W.jobMoveEnds
  split
  · exact hB
  next j hj =>
    have h := W.dropTicket_kept (n := n) (f := fun k => { k with ticket := none }) hB fun _ => .inl rfl
    have hs : ∀ s, j.mountStep = some s → ρ.shut n := fun s hs => hB.shut hj (.inl (by rw [hs]; nofun))
    have hgo : ∀ s, j.mountStep = some s → (if W.mountBarred j = true then (w.modJob n fun k => { k with ticket := none }).mountStops n
        else if r = .ok then (w.modJob n fun k => { k with ticket := none }).mountNext n
        else (w.modJob n fun k => { k with ticket := none }).moveFails n r).books.Kept ρ L := fun s hms =>
      Books.kept_ite (W.mountStops_kept _ n h) (Books.kept_ite (W.mountNext_kept _ n h (hs s hms) hl) (W.moveFails_kept _ n r h hl (hs s hms)))
    dsimp only
    split
    next hm => exact W.afterAway_kept _ n h hl (hs _ hm)
    next hm => exact W.afterAway_kept _ n h hl (hs _ hm)
    next hm => exact hgo _ hm
    next hm => exact hgo _ hm
    next => exact h
    next => split <;> simpa using h

@[simp] theorem W.moveReported_ledger (w : W) (origin : Origin) (ticket : Nat) (r : Reason) (cart : Option Nat) (hB : w.books.Ledger) :
    (w.moveReported origin ticket r cart).books.Ledger := by
  obtain ⟨ρ, hB⟩ := hB
  have h : w.wantDispatch.books.Kept ρ [] := by rwa [W.wantDispatch_books]
  unfold W.moveReported
  dsimp only
  split
  · split
    next n ht =>
      obtain ⟨j, hj, hjt⟩ := Option.bind_eq_some_iff.1 ht
      exact (W.jobMoveEnds_kept _ n r h (h.live_of hj (.inl (by rw [hjt]; nofun)))).ledger
    next => exact h.ledger
  · split
    · rw [W.unmarkReturning_books]
      exact h.ledger
    · exact h.ledger
  · exact h.ledger
  · exact h.ledger

/-! ### Operations end (R51, R66, R67, R87, R118) -/

theorem W.cleanOp_ledger (w : W) (n : Nat) (j : Job) (d : Drive) (op : PortOp) (r : OpOutcome) (hB : w.books.Kept ρ []) (hr : ρ.reader n) :
    (w.cleanOp n j d op r).books.Ledger := by
  have hsame := hB.ledger
  unfold W.cleanOp
  split
  · exact W.letGo_ledger w n false _ hB hr.live
  · split
    · rw [W.askOp_books, W.modJob_books _ _ _ fun _ => by rfl]
      exact hsame
    · dsimp only
      rw [W.issueReturn_books]
      have h : ∀ o : Option Nat, (match o with | some i => w.cleaningUse i | none => w).books.Kept ρ [] := fun o => by
        cases o <;> simpa using hB
      exact (Books.kept_ite (W.endJob_kept _ _ _ _ (h j.cartridge) hr) (W.endJob_kept _ _ _ _ (h j.cartridge) hr)).ledger
    all_goals exact hsame

theorem W.readerOp_ledger (w : W) (n : Nat) (d : Drive) (op : PortOp) (r : OpOutcome) (hB : w.books.Kept ρ []) (hr : ρ.reader n) :
    (w.readerOp n d op r).books.Ledger := by
  unfold W.readerOp
  extract_lets w1
  have h1 : w1.books.Kept ρ [] := by
    cases op <;> simp [w1, hB, hr]
  split
  · exact W.letGo_ledger w1 n false _ h1 hr.live
  · exact h1.ledger

@[simp] theorem W.jobOp_ledger (w : W) (n : Nat) (d : Drive) (op : PortOp) (r : OpOutcome) (hB : w.books.Ledger) :
    (w.jobOp n d op r).books.Ledger := by
  obtain ⟨ρ, hB⟩ := hB
  unfold W.jobOp
  split
  · exact hB.ledger
  next j hj =>
    split
    · exact hB.ledger
    next hf =>
      have hl := hB.live hj (eq_false_of_ne_true fun h => hf (.inl h))
      have hr : j.progress.kind ≠ .backup → ρ.reader n := hB.reader_of_progress hj
      split
      next s hs => exact W.mountOp_ledger w n j d s op r hB hl (hB.shut hj (.inl (by rw [hs]; nofun)))
      next =>
        split
        next hp =>
          have hk : j.kind = .backup := by rw [← (hB.orderly hj).progress, hp]; rfl
          exact W.backupOp_ledger w n d op r hB hl (hB.backup hj hk)
        next hp => exact W.readerOp_ledger w n d op r hB (hr (by rw [hp]; nofun))
        next hp => exact W.readerOp_ledger w n d op r hB (hr (by rw [hp]; nofun))
        next hp => exact W.cleanOp_ledger w n j d op r hB (hr (by rw [hp]; nofun))

@[simp] theorem W.opReported_ledger (w : W) (d : Drive) (req : Requester) (op : PortOp) (r : OpOutcome) (hB : w.books.Ledger) :
    (w.opReported d req op r).books.Ledger := by
  unfold W.opReported
  split
  · exact W.jobOp_ledger _ _ d op r (by rwa [W.freeProbe_books])
  · simpa using hB
  · simpa using hB
  · exact hB

@[simp] theorem W.portReported_ledger (w : W) (d : Drive) (hB : w.books.Ledger) : (w.portReported d).books.Ledger := by
  obtain ⟨ρ, hB⟩ := hB
  unfold W.portReported
  split
  next n hn =>
    obtain ⟨j, hj, rfl, hd⟩ := hB.ordered.bindings.claimed d n hn
    have hjob := hB.job_of_mem hj
    refine W.letGo_ledger w j.id false none hB (hB.live hjob (Bool.eq_false_iff.2 fun hf => ?_))
    cases ((hB.orderly hjob).finished hf).1.symm.trans hd
  next => exact hB.ledger

@[simp] theorem W.cartReported_ledger (w : W) (n i : Nat) (hB : w.books.Ledger) : (w.cartReported n i).books.Ledger := by
  obtain ⟨ρ, hB⟩ := hB
  unfold W.cartReported
  split
  next hc =>
    obtain ⟨j, hj, hjc⟩ := Option.bind_eq_some_iff.1 hc
    exact W.letGo_ledger w n true none hB (hB.live_of hj (.inr (by rw [hjc]; nofun)))
  next => exact hB.ledger

@[simp] theorem W.extentGone_kept (w : W) (n session sequence : Nat) (hB : w.books.Kept ρ L) :
    (w.extentGone n session sequence).books.Kept ρ L := by
  unfold W.extentGone
  split
  next hk => exact W.verifyExtentRemoved_kept w n _ _ hB (hB.reader_of_kind hk nofun)
  next hk => exact W.restoreExtentRemoved_kept w n _ hB (hB.reader_of_kind hk nofun)
  all_goals exact hB

end

end Sys2Proof.Machine

/-! PROOF. The law of the books through admissions and the release of records (R72, R86, R89, R129, R143, R161). -/

namespace Sys2Proof.Machine

section
variable {ρ : Roster} {L : List (Nat × Option Drive)} {w : W} {n : Nat}

/-! ### A finished job's record is freed (R72, R89) -/

theorem filterMap_filter_none {α β : Type} {f : α → Option β} {p : α → Bool} {l : List α} (h : ∀ a ∈ l, p a = false → f a = none) :
    (l.filter p).filterMap f = l.filterMap f := by
  rw [List.filterMap_filter]
  refine List.filterMap_congr fun a ha => ?_
  split
  next => rfl
  next hp => exact (h a ha (eq_false_of_ne_true hp)).symm

theorem W.freeJob_ledger (w : W) (n : Nat) (hB : w.books.Kept ρ []) (hf : ∀ j, w.job n = some j → j.state.isFinished = true) :
    (w.freeJob n).books.Ledger := by
  have ho := hB.ordered
  have hfin : ∀ j ∈ w.js.jobs, j.id = n → j.state.isFinished = true := fun j hj hn => hf j (hn ▸ hB.job_of_mem hj)
  refine Books.Kept.ledger (ρ := _) (L := []) (W.Ordered.kept ⟨rfl, by simp, ho.bindings.free hfin, ?_⟩)
  have hws : (W.freeJob w n).js.jobs.filterMap Job.writer? = w.js.jobs.filterMap Job.writer? :=
    filterMap_filter_none fun j hj hp => Job.writer_of_finished (hfin j hj (by simpa using hp))
  rw [hws]
  refine ho.law.withPins fun m hm => .inl ?_
  obtain ⟨j, hj, hmj⟩ := List.mem_flatMap.1 hm
  exact List.mem_flatMap.2 ⟨j, List.mem_of_mem_filter hj, hmj⟩

theorem W.oldestFinished_finished {j : Job} (hB : w.books.Kept ρ L) (h : w.oldestFinished = some n) (hj : w.job n = some j) :
    j.state.isFinished = true := by
  obtain ⟨k, hk, rfl⟩ := Option.map_eq_some_iff.1 h
  obtain ⟨hmem, hfin⟩ := List.mem_filter.1 (sortBy_head hk).1
  rw [← hB.job_eq hj hmem rfl]
  exact hfin

theorem W.recordMade_ledger (w : W) (hB : w.books.Ledger) : w.recordMade.books.Ledger := by
  obtain ⟨ρ, hB⟩ := hB
  unfold W.recordMade
  split
  · exact hB.ledger
  · split
    next m hm => exact W.freeJob_ledger w m hB fun j hj => W.oldestFinished_finished hB hm hj
    next => exact hB.ledger

/-! ### A job is admitted (R72) -/

theorem W.jobNotice_rest (w : W) (n : Nat) (was : Option JobState) : (w.jobNotice n was).js = w.js ∧ (w.jobNotice n was).cg = w.cg ∧
    (w.jobNotice n was).streams = w.streams := by
  unfold W.jobNotice
  split <;> exact ⟨rfl, rfl, rfl⟩

/-- What an admission leaves (R72). -/
structure W.Admits (w v : W) (j : Job) : Prop where
  jobs : v.js.jobs = w.js.jobs ++ [j]
  room : w.js.jobs.length < 16
  unused : j.id ∉ w.js.jobs.map Job.id
  claims : v.js.claims = w.js.claims
  streams : v.streams = w.streams
  cg : v.cg = w.cg

theorem W.admitJob_admits (hlen : w.js.jobs.length ≤ 16) {kind : JobKind} {session : Option Nat} {target : Target} {progress : Progress}
    {pins : List Nat} (h : (w.admitJob kind session target progress pins).2 = some n) :
    ∃ seq, w.recordMade.Admits (w.admitJob kind session target progress pins).1 (W.admitted n seq kind session target progress pins) := by
  unfold W.admitJob at h ⊢
  split at h
  next => cases h
  next hcan =>
    rw [if_neg hcan]
    have hroom := recordMade_length hlen (Bool.not_eq_false _ ▸ hcan)
    have hid := nextJobId_unused (last := w.recordMade.js.lastId) (used := w.recordMade.js.jobs.map Job.id)
      (by rw [List.length_map]; omega)
    obtain rfl := Option.some.inj h
    obtain ⟨h1, h2, h3⟩ := W.jobNotice_rest { w.recordMade with js := { w.recordMade.js with
      jobs := w.recordMade.js.jobs ++ [W.admitted (nextJobId 255 w.recordMade.js.lastId (w.recordMade.js.jobs.map Job.id))
        (min (w.recordMade.js.lastSeq + 1) max64) kind session target progress pins],
      lastId := nextJobId 255 w.recordMade.js.lastId (w.recordMade.js.jobs.map Job.id),
      lastSeq := min (w.recordMade.js.lastSeq + 1) max64 } } (nextJobId 255 w.recordMade.js.lastId (w.recordMade.js.jobs.map Job.id)) none
    exact ⟨_, congrArg (fun s => s.jobs) h1, hroom, hid, congrArg (fun s => s.claims) h1, h3, h2⟩

/-- A job as it is admitted is in order. -/
theorem Job.Orderly.admitted {id seq : Nat} {kind : JobKind} {session : Option Nat} {target : Target} {progress : Progress} {pins : List Nat}
    (hp : progress.kind = kind) (hw : progress.writes = false) (ht : (∃ p, target = .pool p) ↔ kind = .backup)
    (he : ∀ b, progress = .backup b → b.truncEnd = none) : (W.admitted id seq kind session target progress pins).Orderly where
  progress := hp
  target := ht
  mounting _ h := by cases hw.symm.trans h
  held _ := nofun
  bound _ := rfl
  waits _ := rfl
  finished := nofun
  ended _ := nofun
  truncEnds b x r hb hx := by cases (he b hb).symm.trans hx

/-- A reader or a CLEAN job is admitted with pins on sessions that have records. -/
theorem W.admitJob_ledger (hB : w.books.Ledger) {kind : JobKind} {session : Option Nat} {target : Target} {progress : Progress}
    {pins : List Nat} (hk : kind ≠ .backup) (hp : progress.kind = kind) (ht : ∀ p, target ≠ .pool p)
    (hpins : ∀ s ∈ pins, ∃ x ∈ w.cg.sessions, x.id = s) : (w.admitJob kind session target progress pins).1.books.Ledger := by
  cases hr : (w.admitJob kind session target progress pins).2 with
  | none =>
    have he : (w.admitJob kind session target progress pins).1 = w := admitJob_none (Prod.ext rfl hr)
    rwa [he]
  | some n =>
    obtain ⟨_, hB0⟩ := hB
    have hlen := hB0.ordered.bindings.few
    obtain ⟨seq, ha⟩ := W.admitJob_admits hlen hr
    obtain ⟨ρ, hB⟩ := W.recordMade_ledger w hB0.ledger
    have ho := hB.ordered
    have hcg : w.recordMade.cg = w.cg := by
      unfold W.recordMade
      split
      · rfl
      · split <;> rfl
    have hw : progress.writes = false := by
      cases progress with
      | backup b => exact absurd hp.symm hk
      | verify | restore | clean => rfl
    have hj : (W.admitted n seq kind session target progress pins).Orderly :=
      .admitted hp hw ⟨fun ⟨p, h⟩ => absurd h (ht p), fun h => absurd h hk⟩ fun b hb => by rw [hb] at hp; exact absurd hp.symm hk
    have hwr : (W.admitted n seq kind session target progress pins).writer? = none := Job.writer_of_reader fun h => hk (hp.symm.trans h)
    refine Books.Kept.ledger (ρ := _) (L := []) (W.Ordered.kept ⟨rfl, by simp, ?_, ?_⟩)
    · rw [ha.jobs, ha.claims, ha.streams]
      exact ho.bindings.withJob ha.room ha.unused hj rfl
    · rw [ha.jobs, ha.cg, List.filterMap_append, List.filterMap_cons_none hwr, List.filterMap_nil, List.append_nil]
      refine ho.law.withPins fun m hm => ?_
      rw [List.flatMap_append] at hm
      rcases List.mem_append.1 hm with hm | hm
      · exact .inl hm
      · refine .inr (hcg ▸ hpins m ?_)
        simpa [W.admitted] using hm

/-! ### CLEAN jobs and verifications (R86, R143, R161) -/

@[simp] theorem W.admitClean_ledger (w : W) (d : Drive) (hB : w.books.Ledger) : (w.admitClean d).1.books.Ledger := by
  have h := W.admitJob_ledger hB (kind := .clean) (session := none) (target := .drive d) (progress := .clean) (pins := []) nofun rfl nofun nofun
  unfold W.admitClean
  dsimp only
  split
  · rwa [W.keepNeed_books]
  · exact h

@[simp] theorem W.cleanWanted_ledger (w : W) (d : Drive) (hB : w.books.Ledger) : (w.cleanWanted d).books.Ledger := by
  have h := W.admitClean_ledger w d hB
  unfold W.cleanWanted
  dsimp only
  (repeat' split) <;> simp [hB, h]

@[simp] theorem W.cleanRetry_ledger (w : W) (d : Drive) (hB : w.books.Ledger) : (w.cleanRetry d).books.Ledger := by
  unfold W.cleanRetry
  (repeat' split) <;> simp [hB]

@[simp] theorem W.admitVerify_ledger (w : W) (i : Nat) (label : Label) (session : Option Nat) (rebuild : Bool) (hB : w.books.Ledger) :
    (w.admitVerify i label session rebuild).1.books.Ledger := by
  refine W.admitJob_ledger hB nofun rfl nofun fun s hs => ?_
  unfold W.verifyPins at hs
  split at hs
  next t =>
    split at hs
    next hx =>
      obtain ⟨x, hx⟩ := Option.isSome_iff_exists.1 hx
      obtain ⟨hm, hid⟩ := W.session_mem hx
      exact ⟨x, hm, hid.trans (List.mem_singleton.1 hs).symm⟩
    next => cases hs
  next => exact List.mem_map.1 (List.mem_of_mem_filter hs)

theorem W.autoVerifyOne_ledger (session : Nat) (w : W) (e : Nat × Label) (hB : w.books.Ledger) :
    (W.autoVerifyOne session w e).books.Ledger := by
  have h := W.admitVerify_ledger w e.1 e.2 (some session) false hB
  unfold W.autoVerifyOne
  dsimp only
  split
  · exact h
  · rwa [W.note_books]

@[simp] theorem W.autoVerify_ledger (w : W) (session : Nat) (hB : w.books.Ledger) : (w.autoVerify session).books.Ledger :=
  Books.ledger_foldl _ (W.autoVerifyOne_ledger session) _ w hB

/-! ### A session is opened (R129) -/

theorem W.openSession_ledger (hB : w.books.Ledger) {id pool : Nat} {snap : Snapshot} {auto : Bool} {s : SessionRec}
    (h : (w.admitJob .backup (some id) (.pool pool) (.backup (startBackup snap auto)) []).2 = some n) (hs : w.session id = none)
    (hid : s.id = id) (hop : s.state = .opened) :
    ((w.admitJob .backup (some id) (.pool pool) (.backup (startBackup snap auto)) []).1.createSession s).books.Ledger := by
  obtain ⟨_, hB0⟩ := hB
  obtain ⟨seq, ha⟩ := W.admitJob_admits hB0.ordered.bindings.few h
  obtain ⟨ρ, hB⟩ := W.recordMade_ledger w hB0.ledger
  have ho := hB.ordered
  have hcg : w.recordMade.cg = w.cg := by
    unfold W.recordMade
    split
    · rfl
    · split <;> rfl
  have hj : (W.admitted n seq .backup (some id) (.pool pool) (.backup (startBackup snap auto)) []).Orderly :=
    .admitted rfl rfl ⟨fun _ => rfl, fun _ => ⟨pool, rfl⟩⟩ fun b hb => by rw [← Progress.backup.inj hb]; rfl
  have hwr := Job.writer_of (j := W.admitted n seq .backup (some id) (.pool pool) (.backup (startBackup snap auto)) []) rfl rfl
  refine Books.Kept.ledger (ρ := _) (L := []) (W.Ordered.kept ⟨rfl, by simp, ?_, ?_⟩)
  · show Bindings (W.admitJob w _ _ _ _ _).1.js.jobs (W.admitJob w _ _ _ _ _).1.streams.get (W.admitJob w _ _ _ _ _).1.js.claims
    rw [ha.jobs, ha.claims, ha.streams]
    exact ho.bindings.withJob ha.room ha.unused hj rfl
  · show BookLaw ((W.admitJob w _ _ _ _ _).1.js.jobs.filterMap Job.writer?) ((W.admitJob w _ _ _ _ _).1.js.jobs.flatMap Job.pins)
      { (W.admitJob w _ _ _ _ _).1.cg with sessions := insertBy SessionRec.id s (W.admitJob w _ _ _ _ _).1.cg.sessions }
    rw [ha.jobs, ha.cg, List.filterMap_append, List.filterMap_cons_some hwr, List.filterMap_nil]
    refine BookLaw.withPins (ho.law.openSession (s := s) (fun x hx hxs => ?_) ⟨congrArg some hid.symm, rfl, rfl⟩ hop) fun m hm => .inl ?_
    · rw [hcg] at hx
      exact W.session_none hs x hx (hxs.trans hid)
    · rw [List.flatMap_append] at hm
      simpa [W.admitted] using hm

end

end Sys2Proof.Machine

/-! PROOF. The law of the books through settling, the secure stop, RESUME and ABORT JOB (R85, R88, R124, R187). -/

namespace Sys2Proof.Machine

section
variable {ρ : Roster} {L : List (Nat × Option Drive)} {w : W} {n : Nat}

/-! ### Reports are taken -/

@[simp] theorem W.extentGone_ledger (w : W) (n session sequence : Nat) (hB : w.books.Ledger) :
    (w.extentGone n session sequence).books.Ledger :=
  have ⟨_, hB⟩ := hB
  (W.extentGone_kept w n session sequence hB).ledger

@[simp] theorem W.parseOn_ledger (w : W) (d : Drive) (hB : w.books.Ledger) : (w.parseOn d).books.Ledger :=
  have ⟨_, hB⟩ := hB
  (W.parseOn_kept w d hB).ledger

@[simp] theorem W.dispatch_ledger (w : W) (hB : w.books.Ledger) : w.dispatch.books.Ledger :=
  have ⟨_, hB⟩ := hB
  (W.dispatch_kept w hB).ledger

theorem W.takeSignal_ledger (w : W) (s : Signal) (hB : w.books.Ledger) : (w.takeSignal s).books.Ledger := by
  cases s with
  | opDone | portDown | moveEnded | cartGone | cleanAsked | advance | parse | extentRemoved | autoVerify => simp [W.takeSignal, hB]
  | notice | homeGained | idleCheck | recovered => simpa [W.takeSignal] using hB

theorem W.settleOnce_ledger {v : W} (hB : w.books.Ledger) (hv : w.settleOnce = some v) : v.books.Ledger := by
  unfold W.settleOnce at hv
  split at hv
  · rw [← Option.some.inj hv, W.rehome_books]
    exact hB
  · split at hv
    · rw [← Option.some.inj hv]
      exact W.takeSignal_ledger _ _ hB
    · split at hv
      · rw [← Option.some.inj hv]
        exact W.serveCatalogWaits_ledger _ hB
      · split at hv
        · rw [← Option.some.inj hv]
          exact W.dispatch_ledger _ hB
        · cases hv

theorem W.settle_ledger (fuel : Nat) (w : W) (hB : w.books.Ledger) : (W.settle fuel w).books.Ledger := by
  induction fuel generalizing w with
  | zero => exact hB
  | succ fuel ih =>
    unfold W.settle
    split
    next v hv => exact ih v (W.settleOnce_ledger hB hv)
    next => exact hB

@[simp] theorem W.settled_ledger (w : W) (hB : w.books.Ledger) : w.settled.books.Ledger := W.settle_ledger 4000 w hB

/-! ### The secure stop (R124) -/

theorem W.secureJob_kept (w : W) (n : Nat) (hB : w.books.Kept ρ L) : (w.secureJob n).books.Kept ρ L := by
  unfold W.secureJob
  split
  · exact hB
  next j hj =>
    refine Books.kept_ite hB ?_
    have hr : j.progress.kind ≠ .backup → ρ.reader n := hB.reader_of_progress hj
    split
    next => exact W.callTruncation_kept w n _ hB rfl
    next hp => exact Books.kept_ite (W.readerHolds_kept w n hB (hr (by rw [hp]; nofun))) hB
    next hp => exact Books.kept_ite (W.readerHolds_kept w n hB (hr (by rw [hp]; nofun))) hB
    next => exact hB

theorem W.secureStop_ledger {w : W} (hB : w.books.Ledger) : w.secureStop.books.Ledger := by
  obtain ⟨ρ, hB⟩ := hB
  unfold W.secureStop
  split
  · exact hB.ledger
  · rw [W.parseBoth_books]
    exact (Books.kept_foldl W.secureJob_kept _ { w with mode := .secured, gateOpen := false } hB).ledger

/-! ### ONLINE and RESUME (R85, R123, R187) -/

theorem W.nowOnline_ledger {w : W} (hB : w.books.Ledger) : w.nowOnline.books.Ledger := by
  unfold W.nowOnline
  rw [W.idlePendingRuns_books, W.idlePendingRuns_books]
  refine W.settled_ledger _ ?_
  rwa [W.wantDispatch_books]

/-- A job that RESUME takes on is no BACKUP. -/
theorem Books.Kept.reader_of_resumable (hB : w.books.Kept ρ L) {j : Job} (hj : j ∈ w.js.jobs) (h : w.resumable j = true) : ρ.reader j.id := by
  have hjob := hB.job_of_mem hj
  unfold W.resumable at h
  rcases (Bool.or_eq_true ..).mp h with h | h
  · exact hB.reader hjob fun hk => (hB.orderly hjob).held hk (of_decide_eq_true h)
  · obtain ⟨-, h⟩ := (Bool.and_eq_true ..).mp h
    obtain ⟨d, hd, hs⟩ := (Option.any_eq_true ..).mp h
    exact hB.reader_of_stream (hB.ordered.bindings.binds j hj d hd) (Stream.not_quiet (.inl (by rw [of_decide_eq_true hs]; nofun)))

theorem W.readersResume_kept (l : List Nat) (w : W) (hB : w.books.Kept ρ L) (hr : ∀ n ∈ l, ρ.reader n) :
    (l.foldl W.readerResumes w).books.Kept ρ L := by
  induction l generalizing w with
  | nil => exact hB
  | cons n l ih =>
    obtain ⟨hn, hl⟩ := List.forall_mem_cons.1 hr
    exact ih _ (W.readerResumes_kept w n hB hn) hl

theorem W.resumeAll_ledger {w : W} (hB : w.books.Ledger) : w.resumeAll.books.Ledger := by
  obtain ⟨ρ, hB⟩ := hB
  unfold W.resumeAll
  refine W.nowOnline_ledger ?_
  rw [W.parseBoth_books]
  refine (W.readersResume_kept _ { w with gateOpen := true, mode := .online } hB fun n hn => ?_).ledger
  obtain ⟨j, hj, rfl⟩ := List.mem_map.1 hn
  obtain ⟨hj, hh⟩ := List.mem_filter.1 hj
  exact Books.Kept.reader_of_resumable (w := { w with gateOpen := true, mode := .online }) hB hj hh

/-! ### ABORT JOB (R88) -/

theorem W.abortReader_kept (w : W) (n : Nat) (hB : w.books.Kept ρ L) (hr : ρ.reader n) : (w.abortReader n).books.Kept ρ L :=
  W.restThenEnd_kept _ n _ (by rwa [W.modRestore_books]) hr

theorem W.abortMounting_kept (w : W) (n : Nat) (hB : w.books.Kept ρ L) : (w.abortMounting n).books.Kept ρ L := by
  unfold W.abortMounting
  extract_lets held w1
  have h1 : w1.books.Kept ρ L :=
    Books.kept_ite (W.dropTicket_kept (w := w.dropHeld n) (by rwa [W.dropHeld_books]) fun _ => .inl rfl) hB
  exact Books.kept_ite h1 (W.mountStops_kept _ n h1)

theorem W.abortCourse_kept (w : W) (j : Job) (hB : w.books.Kept ρ L) (hr : j.progress.kind ≠ .backup → ρ.reader j.id) :
    (w.abortCourse j).books.Kept ρ L := by
  have hnow : ρ.reader j.id → (w.abortNow j.id).books.Kept ρ L := W.endJob_kept _ _ _ _ hB
  unfold W.abortCourse
  split
  next => exact W.callTruncation_kept w j.id _ hB rfl
  next hp =>
    split
    · exact hB
    · exact W.abortMounting_kept w j.id hB
    · exact hnow (hr (by rw [hp]; nofun))
  all_goals
    next hp =>
      have hr := hr (by rw [hp]; nofun)
      split
      · exact W.abortReader_kept w j.id hB hr
      · exact W.abortMounting_kept w j.id hB
      · exact hnow hr

theorem W.abortJob_kept (w : W) {j : Job} (hB : w.books.Kept ρ L) (hj : w.job n = some j) : (w.abortJob j).books.Kept ρ L :=
  W.abortCourse_kept _ j (by rwa [W.modJob_books _ _ _ fun _ => by rfl]) (W.job_id hj ▸ hB.reader_of_progress hj)

end

end Sys2Proof.Machine

/-! PROOF. The law of the books through the host's requests and every other command (R185). -/

namespace Sys2Proof.Machine

section
variable {ρ : Roster} {L : List (Nat × Option Drive)} {w : W} {n : Nat}

/-! ### The mode and the gate (R122, R123, R187) -/

theorem ownSetMode_ledger (p : List Byte) (hB : w.books.Ledger) : (ownSetMode w p).w.books.Ledger := by
  have hon := W.nowOnline_ledger hB
  unfold ownSetMode
  dsimp only
  (repeat' split) <;> assumption

theorem ownResume_ledger (p : List Byte) (hB : w.books.Ledger) : (ownResume w p).w.books.Ledger := by
  have hall := W.resumeAll_ledger hB
  unfold ownResume
  (repeat' split) <;> assumption

@[simp] theorem ownHaltStreams_books (w : W) (p : List Byte) : (ownHaltStreams w p).w.books = w.books := by
  have hoff : ∀ (v : W) d, (v.modStream d fun s => { s with enable := false }).books = v.books :=
    fun v d => W.modStream_books _ _ _ fun _ => by rfl
  exact (W.parseBoth_books _).trans ((hoff _ .d1).trans (hoff { w with gateOpen := false } .d0))

@[simp] theorem ownResumeStream_books (w : W) (p : List Byte) : (ownResumeStream w p).w.books = w.books := by
  have hon : ∀ d, (W.parseBoth (W.modStream { w with gateOpen := true } d fun s => { s with enable := true })).books = w.books :=
    fun d => (W.parseBoth_books _).trans (W.modStream_books _ _ _ fun _ => by rfl)
  unfold ownResumeStream
  dsimp only
  split
  · exact hon .d0
  · split
    · exact hon .d1
    · rfl

/-! ### Sessions and jobs are started (R86, R129, R161, R173) -/

theorem ownOpenSession_ledger (p : List Byte) (hB : w.books.Ledger) : (ownOpenSession w p).w.books.Ledger := by
  unfold ownOpenSession
  dsimp only
  split
  · exact hB
  · split
    · exact hB
    next hnew =>
      split
      · exact hB
      · split
        · exact hB
        next hn => exact W.openSession_ledger hB hn (Option.not_isSome_iff_eq_none.1 hnew) rfl rfl

theorem ownStartVerify_ledger (p : List Byte) (hB : w.books.Ledger) : (ownStartVerify w p).w.books.Ledger := by
  unfold ownStartVerify
  dsimp only
  (repeat' split) <;> simp [answer, refuse, hB]

theorem ownStartClean_ledger (p : List Byte) (hB : w.books.Ledger) : (ownStartClean w p).w.books.Ledger := by
  unfold ownStartClean
  dsimp only
  (repeat' split) <;> simp [answer, refuse, hB]

/-- A job just admitted is a reader's, when it is of a reader's kind. -/
theorem W.admitted_reader {kind : JobKind} {session : Option Nat} {target : Target} {progress : Progress} {pins : List Nat}
    (hlen : w.js.jobs.length ≤ 16) (h : (w.admitJob kind session target progress pins).2 = some n) (hk : kind ≠ .backup)
    (hB : (w.admitJob kind session target progress pins).1.books.Kept ρ L) : ρ.reader n := by
  obtain ⟨seq, ha⟩ := W.admitJob_admits hlen h
  have hm : W.admitted n seq kind session target progress pins ∈ (w.admitJob kind session target progress pins).1.js.jobs :=
    ha.jobs ▸ List.mem_append_right _ (List.mem_singleton_self _)
  exact hB.reader (hB.job_of_mem hm) hk

theorem ownStartRestore_ledger (p : List Byte) (hB : w.books.Ledger) : (ownStartRestore w p).w.books.Ledger := by
  have ⟨ρ, hB0⟩ := hB
  unfold ownStartRestore
  dsimp only
  split
  · exact hB
  · split
    · exact hB
    next s hs =>
      split
      · exact hB
      · split
        · exact hB
        · split
          next n hn =>
            obtain ⟨hm, hid⟩ := W.session_mem hs
            obtain ⟨ρ', hB'⟩ := W.admitJob_ledger hB (kind := .restore) (session := some s.id)
              (target := .label _) (progress := .restore _) (pins := [s.id]) nofun rfl nofun fun k hk => ⟨s, hm, (List.mem_singleton.1 hk).symm⟩
            exact (W.restoreAdmitted_kept _ n hB' (W.admitted_reader hB0.ordered.bindings.few hn nofun hB')).ledger
          next => exact hB

/-! ### Jobs are read, aborted and released (R88, R89, R174) -/

theorem ownReadData_ledger (p : List Byte) (hB : w.books.Ledger) : (ownReadData w p).w.books.Ledger := by
  have ⟨ρ, hB0⟩ := hB
  unfold ownReadData
  dsimp only
  split
  · exact hB
  next j hj =>
    split
    · exact hB
    next r hr =>
      refine (W.restoreDone_kept _ _ (ρ := ρ) (L := []) (by rwa [W.modRestore_books]) ?_).ledger
      refine W.job_id hj ▸ hB0.reader_of_progress hj fun hp => ?_
      unfold Job.restore? at hr
      cases h : j.progress <;> simp_all [Progress.kind]

theorem ownAbortJob_ledger (p : List Byte) (hB : w.books.Ledger) : (ownAbortJob w p).w.books.Ledger := by
  have ⟨ρ, hB0⟩ := hB
  unfold ownAbortJob
  split
  · exact hB
  next j hj =>
    split
    · exact hB
    · split
      · exact hB
      · exact (W.abortJob_kept w hB0 hj).ledger

theorem ownReleaseJob_ledger (p : List Byte) (hB : w.books.Ledger) : (ownReleaseJob w p).w.books.Ledger := by
  have ⟨ρ, hB0⟩ := hB
  unfold ownReleaseJob
  split
  · exact hB
  next j hj =>
    split
    next hf =>
      refine W.freeJob_ledger w j.id hB0 fun k hk => ?_
      rw [W.job_id hj, hj] at hk
      exact Option.some.inj hk ▸ hf
    next => exact hB

/-! ### The catalog is changed by the host (R155, R156) -/

theorem ownDropSession_ledger (p : List Byte) (hB : w.books.Ledger) : (ownDropSession w p).w.books.Ledger := by
  have ⟨ρ, hB0⟩ := hB
  unfold ownDropSession
  split
  · exact hB
  next s hs =>
    split
    · exact hB
    next hn =>
      obtain ⟨hop, hpins⟩ := not_or.1 hn
      obtain ⟨hm, -⟩ := W.session_mem hs
      refine (W.dropSession_kept w s.id hB0 (fun x hx hxs => ?_) fun j hj hp => hpins ?_).ledger
      · rw [hB0.ordered.law.session_unique hx hm hxs]
        exact hop
      · rw [W.pinCount, List.length_pos_iff_exists_mem]
        exact ⟨j, List.mem_filter.2 ⟨hj, List.contains_iff_mem.2 hp⟩⟩

theorem ownLoadExtent_ledger (p : List Byte) (hB : w.books.Ledger) : (ownLoadExtent w p).w.books.Ledger := by
  have ⟨ρ, hB0⟩ := hB
  unfold ownLoadExtent
  dsimp only
  split
  next h => exact (W.takeExtent_kept hB0 h (origin := .loaded) nofun).1.ledger
  next => exact hB

/-! ### Entries of a RESTORE that wait (R181) -/

@[simp] theorem addWaiting_ledger (w : W) (n : Nat) (hB : w.books.Ledger) : (addWaiting n w).books.Ledger := by
  obtain ⟨ρ, hB⟩ := hB
  unfold addWaiting
  split
  · exact hB.ledger
  next j hj =>
    split
    · exact hB.ledger
    next hne =>
      have hr : ρ.reader n := hB.reader_of_progress hj fun hp => hne ?_
      · have h := W.runAll_kept w n hB hr
        dsimp only
        split <;> simpa using h.ledger
      · unfold W.jobTodo 
        cases h : j.progress <;> simp_all [Progress.kind]

end

end Sys2Proof.Machine

/-! PROOF. The law of the books through a controller reset (R90, R109, R127, R146, R160). -/

namespace Sys2Proof.Machine

/-! ### The catalog at a reset (R146, R160) -/

/-- Whether a session is OPEN. -/
def Catalog.IsOpen (c : Catalog) (id : Nat) : Prop := ∃ x ∈ c.sessions, x.id = id ∧ x.state = .opened

theorem Catalog.isOpen_plain {c : Catalog} {id : Nat} : c.plain.IsOpen id ↔ c.IsOpen id := exists_mem_map

/-- A session of an id becomes TRUNCATED. -/
def truncatedAt (id : Nat) (x : SessionRec) : SessionRec := if x.id = id then { x with state := .truncated } else x

theorem truncatedAt_eq (id : Nat) (x : SessionRec) : (truncatedAt id x).id = x.id ∧ (truncatedAt id x).origin = x.origin ∧
    (truncatedAt id x).state = if x.id = id then .truncated else x.state := by
  unfold truncatedAt
  split <;> exact ⟨rfl, rfl, rfl⟩

theorem isOpen_truncated {l : List SessionRec} {E E' : List ExtentRec} {s id : Nat}
    (h : Catalog.IsOpen { sessions := l.map (truncatedAt s), extents := E } id) :
    Catalog.IsOpen { sessions := l, extents := E' } id ∧ id ≠ s := by
  obtain ⟨y, hy, rfl, hop⟩ := h
  obtain ⟨x, hx, rfl⟩ := List.mem_map.1 hy
  obtain ⟨h1, -, h3⟩ := truncatedAt_eq s x
  rw [h3] at hop
  split at hop
  next => cases hop
  next hne => exact ⟨⟨x, hx, h1.symm, hop⟩, h1 ▸ hne⟩

namespace BookLaw

variable {ws : List Writer} {pins : List Nat} {c : Catalog}

/-- The writer of a session, replaced by one. -/
theorem replaces_at (h : BookLaw ws pins c) {a b : Writer} (ha : a ∈ ws) (hs : a.session = b.session) :
    Replaces ws (ws.map fun x => if x.session = a.session then b else x) a b where
  old := ha
  new := List.mem_map.2 ⟨a, ha, if_pos rfl⟩
  same := hs
  sessions := by
    rw [List.map_map]
    refine List.map_congr_left fun x _ => ?_
    rw [Function.comp_apply]
    split
    next he => rw [he, hs]
    next => rfl
  back x hx := by
    obtain ⟨y, hy, rfl⟩ := List.mem_map.1 hx
    split
    · exact .inl rfl
    · exact .inr hy
  keep x hx hne := List.mem_map.2 ⟨x, hx, if_neg fun he => hne (h.writer_unique hx ha he)⟩

/-- A session with no extent open becomes TRUNCATED, and nothing writes it any more. -/
theorem truncateSession (h : BookLaw ws pins c) {s : Nat} (hshut : ∀ e ∈ c.extents, e.session = s → e.isOpen = false) :
    ∃ ws', BookLaw ws' pins { c with sessions := c.sessions.map (truncatedAt s) } := by
  have hg := truncatedAt_eq s
  by_cases hw : ∃ a ∈ ws, a.session = some s
  · obtain ⟨a, ha, hs⟩ := hw
    let b : Writer := { session := a.session, seq := a.seq + if a.isOpen then 1 else 0, isOpen := false }
    have hr := h.replaces_at (b := b) ha rfl
    have h1 := h.shutWriter hr ⟨rfl, Nat.le_add_right ..⟩
      (fun e he hse => by
        rcases h.numbers a ha e he hse with hlt | ⟨hop, hq⟩
        · exact Nat.lt_add_right _ hlt
        · show _ < _ + _
          rw [hop, hq]
          exact Nat.lt_succ_self _)
      (fun e he hse => hshut e he (Option.some.inj (hse.symm.trans hs)))
      fun x hx hse hwr => h.written a ha x hx hse hwr
    refine ⟨_, h1.endSession (ws' := (ws.map fun x => if x.session = a.session then b else x).filter fun x => x.session ≠ b.session)
      hr.new (fun x => ?_) List.filter_sublist rfl fun x hx => ?_⟩
    · rw [List.mem_filter, decide_eq_true_iff]
      exact and_congr_right fun hx => not_congr ⟨h1.writer_unique hx hr.new, congrArg _⟩
    · obtain ⟨g1, g2, g3⟩ := hg x
      refine ⟨g1, g2, fun hh => ?_, fun hh => ?_⟩
      · rw [g3, if_pos (Option.some.inj (hh.symm.trans hs))]
        nofun
      · rw [g3, if_neg fun he => hh (hs.trans (congrArg some he.symm))]
  · refine ⟨ws, h.mapSessions (fun x _ => (hg x).1) (fun x hx => ?_) fun x _ ho => (hg x).2.1 ▸ ho⟩
    rw [(hg x).2.2]
    split
    next he =>
      refine iff_of_false nofun fun hop => hw ?_
      obtain ⟨a, ha, hs⟩ := h.writers x hx hop
      exact ⟨a, ha, hs.trans (congrArg some he)⟩
    next => exact Iff.rfl

/-- With no session OPEN nothing writes. -/
theorem no_writer (h : BookLaw ws pins c) (ho : ∀ id, ¬c.IsOpen id) : ws = [] := by
  refine List.eq_nil_iff_forall_not_mem.2 fun a ha => ?_
  obtain ⟨x, hx, -, hop⟩ := h.session a ha
  exact ho x.id ⟨x, hx, rfl, hop⟩

/-- A session has one open extent at the most. -/
theorem open_extents (h : BookLaw ws pins c) (s : Nat) :
    (c.extents.filter (fun e => e.session = s)).filter ExtentRec.isOpen = [] ∨
      ∃ e, (c.extents.filter (fun e => e.session = s)).filter ExtentRec.isOpen = [e] := by
  have hmem : ∀ e ∈ (c.extents.filter (fun e => e.session = s)).filter ExtentRec.isOpen, e ∈ c.extents ∧ e.session = s ∧ e.isOpen = true :=
    fun e he => by simpa [and_comm, and_left_comm] using he
  have hone : ∀ e ∈ (c.extents.filter (fun e => e.session = s)).filter ExtentRec.isOpen,
      ∀ f ∈ (c.extents.filter (fun e => e.session = s)).filter ExtentRec.isOpen, e.sequence = f.sequence := fun e he f hf => by
    obtain ⟨hec, hes, heo⟩ := hmem e he
    obtain ⟨hfc, hfs, hfo⟩ := hmem f hf
    obtain ⟨a, ha, has, -, haq⟩ := h.opened e hec heo
    rw [h.open_seq ha hfc (has.trans (congrArg some (hes.trans hfs.symm))) hfo, haq]
  have hord := (h.inOrder.sublist List.filter_sublist).sublist (List.filter_sublist (p := ExtentRec.isOpen)
    (l := c.extents.filter fun e => e.session = s))
  revert hmem hone hord
  generalize (c.extents.filter (fun e => e.session = s)).filter ExtentRec.isOpen = l
  intro hmem hone hord
  match l with
  | [] => exact .inl rfl
  | [e] => exact .inr ⟨e, rfl⟩
  | e :: f :: r =>
    have hef := List.rel_of_pairwise_cons hord (List.mem_cons_self ..)
    have hf : f ∈ e :: f :: r := List.mem_cons_of_mem _ (List.mem_cons_self ..)
    have hq := hone e (List.mem_cons_self ..) f hf
    have hs := (hmem e (List.mem_cons_self ..)).2.1.trans (hmem f hf).2.1.symm
    rw [extentBefore_iff] at hef
    omega

end BookLaw

section
variable {ws : List Writer} {pins : List Nat} {w : W}

/-- What a reset leaves of an OPEN session and its extents. -/
theorem W.resetSession_books (h : BookLaw ws pins w.cg) (s : SessionRec) (hs : s.state = .opened) :
    ∃ ws' E, BookLaw ws' pins { w.cg with extents := E } ∧ (∀ e ∈ E, e.session = s.id → e.isOpen = false) ∧
      (w.resetSession s).books = ({ w with cg := { sessions := w.cg.sessions.map (truncatedAt s.id), extents := E } } : W).books := by
  have hshut : ∀ e ∈ w.cg.extents, e.session = s.id → e.isOpen = true →
      e ∈ (w.cg.extents.filter (fun e => e.session = s.id)).filter ExtentRec.isOpen := fun e he hes hop =>
    List.mem_filter.2 ⟨List.mem_filter.2 ⟨he, decide_eq_true hes⟩, hop⟩
  unfold W.resetSession
  rw [if_pos hs]
  dsimp only
  rw [show ((w.modSession s.id fun r => { r with state := .truncated }).extentsOf s.id) =
    w.cg.extents.filter fun e => e.session = s.id from rfl]
  rcases h.open_extents s.id with hnil | ⟨e, hone⟩
  · rw [hnil] at hshut ⊢
    exact ⟨ws, w.cg.extents, h, fun e he hes => eq_false_of_ne_true fun hop => List.not_mem_nil (hshut e he hes hop), rfl⟩
  · rw [hone] at hshut ⊢
    have hmem : e ∈ w.cg.extents ∧ e.session = s.id ∧ e.isOpen = true := by
      have := hone ▸ List.mem_singleton_self e
      simpa [and_comm, and_left_comm] using this
    obtain ⟨hec, hes, heo⟩ := hmem
    rw [List.foldl_cons, List.foldl_nil]
    split
    next =>
      obtain ⟨a, ha, has, hao, haq⟩ := h.opened e hec heo
      refine ⟨_, _, h.freeOpen (h.replaces_at (b := { a with isOpen := false }) ha rfl) ⟨rfl, hao, rfl⟩ hec has haq.symm, fun f hf hfs => ?_, ?_⟩
      · obtain ⟨hfc, hne⟩ := List.mem_filter.1 hf
        refine eq_false_of_ne_true fun hop => ?_
        rw [List.mem_singleton.1 (hshut f hfc hfs hop)] at hne
        simp at hne
      · rw [W.freeExtent_books, ← W.without_books, hes]
        rfl
    next hpos =>
      refine ⟨ws, _, h.closeOne hec (Nat.pos_of_ne_zero hpos) false false, fun f hf hfs => ?_, ?_⟩
      · obtain ⟨g, hg, rfl⟩ := List.mem_map.1 hf
        obtain ⟨h1, -, -, -, h5⟩ := closedAs_eq e.session e.sequence false false g
        rw [h5]
        refine eq_false_of_ne_true fun hop => ?_
        obtain ⟨hgo, hne⟩ := (Bool.and_eq_true ..).mp hop
        rw [List.mem_singleton.1 (hshut g hg (h1.symm.trans hfs) hgo)] at hne
        simp at hne
      · rw [hes]
        rfl

/-- The law of the catalog holds with some writers. -/
def Catalog.Lawful (pins : List Nat) (c : Catalog) : Prop := ∃ ws, BookLaw ws pins c

theorem Catalog.lawful_plain {c : Catalog} : c.plain.Lawful pins ↔ c.Lawful pins := exists_congr fun _ => bookLaw_plain

/-- What the resets of sessions keep, and which sessions they leave OPEN. -/
structure W.SessionsReset (pins : List Nat) (l : List SessionRec) (w v : W) : Prop where
  law : v.cg.Lawful pins
  rest : v.books = { w.books with cg := v.books.cg }
  opened : ∀ id, v.cg.IsOpen id → w.cg.IsOpen id ∧ ∀ s ∈ l, s.state = .opened → id ≠ s.id

theorem W.resetSession_resets (h : w.cg.Lawful pins) (s : SessionRec) : w.SessionsReset pins [s] (w.resetSession s) := by
  by_cases hs : s.state = .opened
  · obtain ⟨ws, h⟩ := h
    obtain ⟨ws', E, hlaw, hshut, hb⟩ := W.resetSession_books h s hs
    have hc : (w.resetSession s).cg.plain = Catalog.plain { sessions := w.cg.sessions.map (truncatedAt s.id), extents := E } :=
      congrArg Books.cg hb
    refine ⟨?_, ?_, fun id hid => ?_⟩
    · rw [← Catalog.lawful_plain, hc, Catalog.lawful_plain]
      exact hlaw.truncateSession hshut
    · rw [hb]
      rfl
    · rw [← Catalog.isOpen_plain, hc, Catalog.isOpen_plain] at hid
      obtain ⟨hid, hne⟩ := isOpen_truncated hid
      exact ⟨hid, fun x hx _ => List.mem_singleton.1 hx ▸ hne⟩
  · have he : w.resetSession s = w := if_neg hs
    rw [he]
    exact ⟨h, rfl, fun id hid => ⟨hid, fun x hx hop => absurd (List.mem_singleton.1 hx ▸ hop) hs⟩⟩

theorem W.resetSessions (l : List SessionRec) (h : w.cg.Lawful pins) : w.SessionsReset pins l (l.foldl W.resetSession w) := by
  induction l generalizing w with
  | nil => exact ⟨h, rfl, fun id hid => ⟨hid, nofun⟩⟩
  | cons s l ih =>
    have h1 := W.resetSession_resets h s
    have h2 := ih h1.law
    refine ⟨h2.law, h2.rest.trans ?_, fun id hid => ?_⟩
    · rw [h1.rest]
      rfl
    · obtain ⟨ho, hl⟩ := h2.opened id hid
      obtain ⟨ho, hs⟩ := h1.opened id ho
      refine ⟨ho, fun x hx => ?_⟩
      rcases List.mem_cons.1 hx with rfl | hx
      · exact hs x (List.mem_singleton_self x)
      · exact hl x hx

/-- After the resets of all sessions none is OPEN. -/
theorem W.SessionsReset.none_open {v : W} (h : w.SessionsReset pins w.cg.sessions v) (id : Nat) : ¬v.cg.IsOpen id := fun hid => by
  obtain ⟨⟨x, hx, hxid, hop⟩, hl⟩ := h.opened id hid
  exact hl x hx hop hxid.symm

theorem W.SessionsReset.no_writers {v : W} (h : w.SessionsReset pins w.cg.sessions v) : BookLaw [] pins v.cg := by
  obtain ⟨ws, hlaw⟩ := h.law
  exact hlaw.no_writer h.none_open ▸ hlaw

end

/-! ### The jobs at a reset (R90) -/

theorem resetJob_finished {j : Job} (h : j.state.isFinished = true) : (W.resetJob j).plain = j.plain := by
  cases hp : j.progress <;> simp [W.resetJob, h, hp, Job.plain, Progress.plain, Progress.ended]

theorem resetJob_unfinished {j : Job} (h : j.state.isFinished = false) : (W.resetJob j).plain =
    { j.plain with state := .aborted, waitReason := none, drive := none, cartridge := none, stream := none, mountStep := none,
                   ticket := none, pins := [] } := by
  cases hp : j.progress <;> simp [W.resetJob, h, hp, Job.plain, Progress.plain, Progress.ended]

/-- What a reset leaves of a job. -/
structure Job.ResetTo (j k : Job) : Prop where
  id : k.id = j.id
  finished : k.state.isFinished = true
  pins : ∀ n ∈ k.pins, n ∈ j.pins
  stream : j.Orderly → k.stream = none
  orderly : j.Orderly → k.Orderly

theorem resetJob_to (j : Job) : j.ResetTo (W.resetJob j) := by
  have hid : ∀ {x : Job}, (W.resetJob j).plain = x → (W.resetJob j).id = x.id ∧ (W.resetJob j).state = x.state ∧
      (W.resetJob j).pins = x.pins ∧ (W.resetJob j).stream = x.stream := fun h => by
    rw [← h]
    exact ⟨rfl, rfl, rfl, rfl⟩
  by_cases hf : j.state.isFinished = true
  · have hp := resetJob_finished hf
    obtain ⟨h1, h2, h3, h4⟩ := hid hp
    exact ⟨h1, (congrArg JobState.isFinished h2).trans hf, fun n hn => by rw [h3] at hn; exact hn, fun ho => h4.trans (ho.finished hf).2,
      fun ho => by rwa [← Job.orderly_plain, hp, Job.orderly_plain]⟩
  · have hp := resetJob_unfinished (eq_false_of_ne_true hf)
    obtain ⟨h1, h2, h3, h4⟩ := hid hp
    refine ⟨h1, congrArg JobState.isFinished h2, fun n hn => ?_, fun _ => h4, fun ho => ?_⟩
    · rw [h3] at hn
      cases hn
    · have ho := j.orderly_plain.2 ho
      rw [← Job.orderly_plain, hp]
      exact ⟨ho.progress, ho.target, fun _ _ => ⟨rfl, nofun, nofun, nofun⟩, fun _ => nofun, fun _ => rfl, fun _ => rfl, fun _ => ⟨rfl, rfl⟩,
        fun _ _ => ⟨rfl, rfl⟩, ho.truncEnds⟩

/-- The working state with its jobs, streams and claims as a controller reset leaves them. -/
def W.unbound (w : W) : W := { w.resetJobs with streams := ⟨resetStream, resetStream⟩ }

theorem W.unbound_ledger {w : W} {streams : Drive → Stream} {claims : Pair (Option Nat)}
    (hb : Bindings w.js.jobs streams claims) (hlaw : BookLaw [] (w.js.jobs.flatMap Job.pins) w.cg) : w.unbound.books.Ledger := by
  have hjobs : w.unbound.js.jobs = w.js.jobs.map W.resetJob := rfl
  have hget : ∀ d, w.unbound.streams.get d = resetStream := fun d => by cases d <;> rfl
  have hin : ∀ {k : Job}, k ∈ w.unbound.js.jobs → ∃ j ∈ w.js.jobs, W.resetJob j = k := List.mem_map.1
  refine Books.Kept.ledger (ρ := _) (L := []) (W.Ordered.kept ⟨rfl, by simp, ⟨?_, ?_, ?_, ?_, ?_, ?_, ?_⟩, ?_⟩)
  · rw [hjobs, List.map_map, show Job.id ∘ W.resetJob = Job.id from funext fun j => (resetJob_to j).id]
    exact hb.ids
  · rw [hjobs, List.length_map]
    exact hb.few
  · intro k hk
    obtain ⟨j, hj, rfl⟩ := hin hk
    exact (resetJob_to j).orderly (hb.each j hj)
  · intro d n hn
    rw [hget] at hn
    cases hn
  · intro k hk d hd
    obtain ⟨j, hj, rfl⟩ := hin hk
    cases ((resetJob_to j).stream (hb.each j hj)).symm.trans hd
  · intro d n hn
    cases d <;> cases hn
  · intro d _
    rw [hget]
    exact ⟨rfl, rfl, rfl⟩
  · have hnone : w.unbound.js.jobs.filterMap Job.writer? = [] := by
      refine List.filterMap_eq_nil_iff.2 fun k hk => ?_
      obtain ⟨j, -, rfl⟩ := hin hk
      exact Job.writer_of_finished (resetJob_to j).finished
    rw [hnone]
    refine hlaw.withPins fun n hn => .inl ?_
    obtain ⟨k, hk, hnk⟩ := List.mem_flatMap.1 hn
    obtain ⟨j, hj, rfl⟩ := hin hk
    exact List.mem_flatMap.2 ⟨j, hj, (resetJob_to j).pins n hnk⟩

/-! ### The reset -/

theorem W.resetTable_books (w : W) : w.resetTable.books = w.books := by
  unfold W.resetTable
  dsimp only
  (repeat' split) <;> rfl

theorem W.recordsReset_books (w : W) : w.recordsReset.books =
    (((w.js.jobs.foldl W.resetCartridge w).cg.sessions.foldl W.resetSession (w.js.jobs.foldl W.resetCartridge w)).resetJobs).books :=
  W.books_foldl (fun (v : W) (s : SessionRec) => v.deriveSession s.id) (fun v s => W.deriveSession_books v s.id) _ _

theorem W.enginesReset_books (w : W) (p : Pins) : (w.enginesReset p).books = { w.books with streams := fun _ => resetStream.plain } := by
  have hs : (w.enginesReset p).books = { w.resetTable.books with streams := fun d => (Pair.get ⟨resetStream, resetStream⟩ d).plain } := rfl
  have hget : (fun d => (Pair.get ⟨resetStream, resetStream⟩ d).plain) = fun _ => resetStream.plain := by
    funext d
    cases d <;> rfl
  rw [hs, W.resetTable_books, hget]

theorem W.unbound_books (w : W) : w.unbound.books = { w.resetJobs.books with streams := fun _ => resetStream.plain } := by
  unfold W.unbound W.books
  congr
  funext d
  cases d <;> rfl

theorem W.resetBlocks_ledger {w : W} (hB : w.books.Ledger) : w.resetBlocks.books.Ledger := by
  obtain ⟨ρ, hB⟩ := hB
  let w1 : W := w.js.jobs.foldl W.resetCartridge w
  let w2 : W := w1.cg.sessions.foldl W.resetSession w1
  have h1 : w1.books.Kept ρ [] := by
    rw [show w1.books = w.books from W.books_foldl W.resetCartridge W.resetCartridge_books _ _]
    exact hB
  have ho := h1.ordered
  have hr := W.resetSessions (w := w1) w1.cg.sessions ⟨_, ho.law⟩
  have hjobs : w2.js.jobs.map Job.plain = w1.js.jobs.map Job.plain := congrArg Books.jobs hr.rest
  have hb : Bindings w2.js.jobs w1.streams.get w1.js.claims := by
    rw [← bindings_plain, hjobs, bindings_plain]
    exact ho.bindings
  have hpins : w2.js.jobs.flatMap Job.pins = w1.js.jobs.flatMap Job.pins := by
    have h := congrArg (List.flatMap Job.pins) hjobs
    rwa [List.flatMap_map, List.flatMap_map] at h
  have hledger : w2.unbound.books.Ledger := W.unbound_ledger hb (hpins ▸ hr.no_writers)
  have hm : ((w.recordsReset.enginesReset w.pins).machinesReset).books = w2.unbound.books := by
    rw [W.machinesReset, W.resetPortNow_books, W.resetPortNow_books, W.resetChangerNow_books, W.enginesReset_books, W.recordsReset_books,
      W.unbound_books]
  rw [W.resetBlocks_eq]
  extract_lets v slots
  split
  · exact hm ▸ hledger
  · rw [W.queueScan_books]
    exact hm ▸ hledger

end Sys2Proof.Machine

/-! PROOF. The catalog's law is kept by every step. -/

namespace Sys2Proof.Machine

/-! ### The commands' effects -/

theorem Effect.ledger {c : Instr} {w v : W} (h : Effect w c v) (hB : w.books.Ledger) : v.books.Ledger := by
  cases h with
  | setMode p => exact ownSetMode_ledger p hB
  | resume p => exact ownResume_ledger p hB
  | openSession p => exact ownOpenSession_ledger p hB
  | startVerify p => exact ownStartVerify_ledger p hB
  | startRestore p => exact ownStartRestore_ledger p hB
  | readData p => exact ownReadData_ledger p hB
  | abortJob p => exact ownAbortJob_ledger p hB
  | releaseJob p => exact ownReleaseJob_ledger p hB
  | startClean p => exact ownStartClean_ledger p hB
  | dropSession p => exact ownDropSession_ledger p hB
  | loadExtent p => exact ownLoadExtent_ledger p hB
  | powerWarningAsserted => exact W.secureStop_ledger hB
  | cleanAdmissionRetry d => exact W.cleanRetry_ledger w d hB
  | encodingComplete =>
    obtain ⟨ρ, hB⟩ := hB
    exact (W.encodingEnds_kept w hB).ledger
  | carryPlacementResume d =>
    obtain ⟨ρ, hB⟩ := hB
    exact (W.resumePlacing_kept w d hB).ledger
  | catalogWaitResume => exact W.serveCatalogWaits_ledger w hB
  | decodingComplete =>
    obtain ⟨ρ, hB⟩ := hB
    exact (W.decodingEnds_kept w hB).ledger
  | substituteEntryAdd n => exact addWaiting_ledger w n hB
  | presenceLost d => rw [W.presenceFalls_books]; cases d <;> exact hB
  | presenceRise d => rw [W.enterInit_books]; cases d <;> exact hB
  | presenceBack d => cases d <;> exact hB
  | magazineRemoved m => rw [W.magazineGone_books]; cases m <;> exact hB
  | magazineInserted m => rw [W.magazineBack_books]; cases m <;> exact hB
  | mailSlotDoorClosed => rw [W.queueScan_books]; exact hB
  | mailSlotDoorOpened | nothing | powerWarningWithdrawn | gripIdle | insertIdle => exact hB
  | _ => simpa using hB

/-! ### After a reset -/

theorem W.afterReset_ledger (w : W) (hB : w.books.Ledger) : w.afterReset.books.Ledger := by
  have hclean : ∀ (v : W) (d : Drive), v.books.Ledger → (if (v.port d).cleanRequest then v.cleanWanted d else v).books.Ledger := fun v d hv => by
    split
    · exact W.cleanWanted_ledger v d hv
    · exact hv
  unfold W.afterReset
  rw [W.wantDispatch_books]
  exact hclean _ .d1 (hclean w .d0 hB)

/-! ### The laws of the statement -/

theorem Job.backup_iff {j : Job} {b : BackupData} : j.backup? = some b ↔ j.progress = .backup b := ⟨Job.backup_eq, Job.backup_of⟩

theorem Job.writer_iff {j : Job} {a : Writer} : j.writer? = some a ↔ j.state.isFinished = false ∧ ∃ b, j.progress = .backup b ∧
    a = { session := j.sessionId, seq := b.extentSeq, isOpen := b.extentOpen } := by
  unfold Job.writer?
  rw [Option.bind_eq_some_iff]
  cases j.state.isFinished with
  | true => simp
  | false => simp [Job.backup_iff, eq_comm (b := a)]

/-- A job that fits its kind and holds what it should is in order. -/
theorem Job.FitsKind.orderly {j : Job} (hk : j.FitsKind) (hh : j.HoldsRightly)
    (hm : ∀ b, j.progress = .backup b → j.state.isFinished = false → b.extentOpen = true →
      j.mountStep = none ∧ j.state ≠ .queued ∧ j.state ≠ .waiting ∧ j.state ≠ .mounting) : j.Orderly where
  progress := by
    rw [← hk.progress]
    cases j.progress <;> rfl
  target := by
    have ht := hk.target
    cases h : j.target with
    | pool p =>
      rw [h] at ht
      exact ⟨fun _ => ht, fun _ => ⟨p, rfl⟩⟩
    | drive d =>
      rw [h] at ht
      exact iff_of_false nofun fun hb => by cases hb.symm.trans ht
    | label t =>
      rw [h] at ht
      exact iff_of_false nofun fun hb => ht.elim (fun he => by cases hb.symm.trans he) fun he => by cases hb.symm.trans he
  mounting hb hw := by
    cases hp : j.progress with
    | verify | restore | clean => rw [hp] at hw; cases hw
    | backup b =>
      cases hf : j.state.isFinished with
      | false => exact hm b hp hf (by rw [hp] at hw; exact hw)
      | true =>
        refine ⟨(hh.finished hf).2.2.1, ?_, ?_, ?_⟩ <;> intro hs <;> rw [hs] at hf <;> cases hf
  held hb := (hk.readers (.inl hb)).1
  bound h := hh.bound (h.imp_right .inl)
  waits h := (hh.nothing (.inr h)).1
  finished hf := ⟨(hh.nothing (.inl hf)).1, (hh.finished hf).1⟩
  ended _ hf := ⟨(hh.finished hf).2.2.2, (hh.nothing (.inl hf)).2⟩
  truncEnds := hk.truncEnds

theorem Lib.CatalogLaw.bookLaw {l : Lib} (h : l.CatalogLaw) (hids : (l.js.jobs.map Job.id).Nodup) :
    BookLaw (l.js.jobs.filterMap Job.writer?) (l.js.jobs.flatMap Job.pins) l.cg := by
  have hback : ∀ a ∈ l.js.jobs.filterMap Job.writer?, ∃ j ∈ l.js.jobs, ∃ b, j.progress = .backup b ∧ l.BackupLaw j b ∧
      a = { session := j.sessionId, seq := b.extentSeq, isOpen := b.extentOpen } := fun a ha => by
    obtain ⟨j, hj, hja⟩ := mem_writers.1 ha
    obtain ⟨hf, b, hb, rfl⟩ := Job.writer_iff.1 hja
    exact ⟨j, hj, b, hb, h.backups j hj b hf hb, rfl⟩
  refine { byId := h.byId, inOrder := h.inOrder, sessions := h.sessions, pinned := fun n hn => ?_, gapless := h.gapless,
           opened := fun e he ho => ?_, writers := fun x hx ho => ?_, alone := ?_, session := fun a ha => ?_,
           numbers := fun a ha e he => ?_, written := fun a ha x hx hs hw => ?_, objects := h.objects, kept := h.kept }
  · obtain ⟨j, hj, hnj⟩ := List.mem_flatMap.1 hn
    exact h.pinned j hj n hnj
  · obtain ⟨j, hj, b, hf, hb, hs, hbo, hq⟩ := h.opened e he ho
    exact ⟨_, mem_writers.2 ⟨j, hj, Job.writer_of hb hf⟩, hs, hbo, hq⟩
  · obtain ⟨j, hj, b, hf, hb, hs⟩ := h.writers x hx ho
    exact ⟨_, mem_writers.2 ⟨j, hj, Job.writer_of hb hf⟩, hs⟩
  · refine List.pairwise_map.2 (List.pairwise_filterMap.2 ((List.pairwise_map.1 hids).imp_of_mem fun {j k} hj hk hne a ha b hb hs => ?_))
    obtain ⟨hf, x, hx, rfl⟩ := Job.writer_iff.1 ha
    obtain ⟨hg, y, hy, rfl⟩ := Job.writer_iff.1 hb
    exact hne (congrArg Job.id (h.alone j hj k hk x y hf hg hx hy hs))
  · obtain ⟨j, -, b, -, hlaw, rfl⟩ := hback a ha
    exact hlaw.session
  · obtain ⟨j, -, b, -, hlaw, rfl⟩ := hback a ha
    exact fun hs => hlaw.numbers e he hs
  · obtain ⟨j, -, b, -, hlaw, rfl⟩ := hback a ha
    exact hlaw.written x hx hs hw

/-- The law of the books, of a library. -/
def Lib.Ledger (l : Lib) : Prop := (W.books { toLib := l, set := [], out := [] }).Ledger

theorem Lib.Ledger.intro {l : Lib} (hfew : l.js.jobs.length ≤ 16) (hclaims : l.ClaimsLaw) (hcat : l.CatalogLaw) : l.Ledger := by
  have hb : Bindings l.js.jobs l.streams.get l.js.claims := by
    refine ⟨hclaims.ids, hfew, fun j hj => ?_, fun d n hn => ?_, hclaims.jobStreams, fun d n hn => ?_, hclaims.reading⟩
    · exact (hclaims.kinds j hj).orderly (hclaims.holds j hj) fun b hb hf => (hcat.backups j hj b hf hb).mounting
    · obtain ⟨j, hj, hid, -, hs⟩ := hclaims.streams d n hn
      exact ⟨j, hj, hid, hs⟩
    · obtain ⟨j, hj, hid, -, hd⟩ := hclaims.drives d n hn
      exact ⟨j, hj, hid, hd⟩
  exact Books.Kept.ledger (ρ := _) (L := [])
    (W.Ordered.kept (w := { toLib := l, set := [], out := [] }) ⟨rfl, by simp, hb, hcat.bookLaw hclaims.ids⟩)

theorem Lib.Ledger.catalogLaw {l : Lib} (h : l.Ledger) : l.CatalogLaw := by
  obtain ⟨ρ, hB⟩ := h
  have ho : W.Ordered ρ [] { toLib := l, set := [], out := [] } := hB.ordered
  have hlaw : BookLaw (l.js.jobs.filterMap Job.writer?) (l.js.jobs.flatMap Job.pins) l.cg := ho.law
  have hmem : ∀ {j b}, j ∈ l.js.jobs → j.state.isFinished = false → j.progress = .backup b →
      ({ session := j.sessionId, seq := b.extentSeq, isOpen := b.extentOpen } : Writer) ∈ l.js.jobs.filterMap Job.writer? :=
    fun hj hf hb => mem_writers.2 ⟨_, hj, Job.writer_of hb hf⟩
  refine { ids := hlaw.ids, keys := hlaw.keys, byId := hlaw.byId, inOrder := hlaw.inOrder, sessions := hlaw.sessions,
           pinned := fun j hj n hn => hlaw.pinned n (List.mem_flatMap.2 ⟨j, hj, hn⟩), gapless := hlaw.gapless,
           opened := fun e he hop => ?_, writers := fun x hx hop => ?_, alone := fun j hj k hk b c hf hg hb hc hs => ?_,
           backups := fun j hj b hf hb => ⟨?_, ?_, ?_, ?_⟩, objects := hlaw.objects, kept := hlaw.kept }
  · obtain ⟨a, ha, hs, hao, hq⟩ := hlaw.opened e he hop
    obtain ⟨j, hj, hja⟩ := mem_writers.1 ha
    obtain ⟨hf, b, hb, rfl⟩ := Job.writer_iff.1 hja
    exact ⟨j, hj, b, hf, hb, hs, hao, hq⟩
  · obtain ⟨a, ha, hs⟩ := hlaw.writers x hx hop
    obtain ⟨j, hj, hja⟩ := mem_writers.1 ha
    obtain ⟨hf, b, hb, rfl⟩ := Job.writer_iff.1 hja
    exact ⟨j, hj, b, hf, hb, hs⟩
  · by_contra hne
    have hsymm : Std.Symm fun x y : Job => ∀ a, x.writer? = some a → ∀ d, y.writer? = some d → a.session ≠ d.session :=
      ⟨fun x y hxy a ha d hd hs => hxy d hd a ha hs.symm⟩
    have hall := List.pairwise_filterMap.1 (List.pairwise_map.1 hlaw.alone)
    exact hall.forall hj hk hne _ (Job.writer_of hb hf) _ (Job.writer_of hc hg) hs
  · exact hlaw.session _ (hmem hj hf hb)
  · exact hlaw.numbers _ (hmem hj hf hb)
  · exact hlaw.written _ (hmem hj hf hb)
  · intro hbo
    have hj := ho.bindings.each j hj
    refine hj.mounting ?_ ?_
    · rw [← hj.progress, hb]
      rfl
    · rw [hb]
      exact hbo

/-! ### The theorem -/

theorem Lib.Ledger.tick {l : Lib} (h : l.Ledger) : l.tick.Ledger := h

theorem powerOnLib_ledger (p : Pins) : (powerOnLib p).Ledger :=
  (Lib.Ledger.intro (l := State.reset.lib) (Nat.zero_le _) reset_claimsLaw reset_catalogLaw :)

theorem step_ledger {s t : State} (hs : s.lib.Ledger) (ht : step s = .next t) : t.lib.Ledger :=
  step_keeps (Q := Lib.Ledger) ht hs hs.tick (fun _ _ hv => hv.ledger (w := s.work) hs) (fun w h => W.settled_ledger w h)
    (fun w h => W.secureStop_ledger (w := w) (show Lib.Ledger w.toLib from h ▸ hs)) powerOnLib_ledger
    (fun w h => W.resetBlocks_ledger (w := w) (show Lib.Ledger w.toLib from h ▸ hs)) (fun w h => W.afterReset_ledger w h)

/-- Settles O11: the law of the books, which holds inside a step too, gives the catalog's law at its end. -/
theorem everyStepKeepsTheCatalogLaw : Obligations.EveryStepKeepsTheCatalogLaw := by
  intro s t hin _ _ _ hclaims hcat ht
  obtain ⟨hfew, -⟩ := hin
  exact (step_ledger (.intro hfew hclaims hcat) ht).catalogLaw

end Sys2Proof.Machine
